-- ==== Sys2Proof/Word.lean ====
section
/-!
DEFINITION. Word.lean: the 32-bit register word of R11, the byte, and the plainest bit-field reads and writes of a word.
-/

namespace Sys2Proof

/-- A register word (R11: every register is 32 bits wide). -/
abbrev Word := BitVec 32

/-- A byte of an addressed memory. -/
abbrev Byte := BitVec 8

/-- The mask of `n` low ones, as a word. -/
def Word.ones (n : Nat) : Word := BitVec.ofNat 32 (2 ^ n - 1)

/-- Bits [hi:lo] of a word, as a number (bit ranges as in 00_scope.md, Notation). -/
def Word.bits (w : Word) (hi lo : Nat) : Nat := ((w >>> lo) &&& Word.ones (hi + 1 - lo)).toNat

/-- One bit of a word. -/
def Word.bit (w : Word) (i : Nat) : Bool := w.getLsbD i

/-- The word with bits [hi:lo] replaced by the low bits of `v`. -/
def Word.setBits (w : Word) (hi lo : Nat) (v : Nat) : Word :=
  (w &&& ~~~(Word.ones (hi + 1 - lo) <<< lo)) ||| ((BitVec.ofNat 32 v &&& Word.ones (hi + 1 - lo)) <<< lo)

/-- The number of a truth value. -/
def b2n (b : Bool) : Nat := if b then 1 else 0

end Sys2Proof
end

