-- ==== Sys2Proof/Syntax.lean ====
section
/-!
DEFINITION. Syntax.lean: the operands of the block's commands and the commands themselves, one constructor per row of
spec/opcode_table.json. The table gives a row no fields; each constructor's operands are what its rule's text reads.
-/

namespace Sys2Proof

/-- The register blocks of Table 15.6, with the two-page blocks TIME and HUT as one name per page. -/
inductive Block where
  | dev | bur | pwr | time0 | time1 | plc | intg | obs | bist | hq
  | chin | chenc | chdec | chtmr | hut0 | hut1 | d2d
  | cctl | qmgr | spad | drw | trs | xpnd | hzn | rtr | cobs
  deriving DecidableEq, Repr

/-- One register page: its block and its instance (Table 15.4). The instance is the function for the pages each function
has of its own (DEV, BUR, INTG, HQ), the channel for the four channel pages, the Hutch, the die-to-die group, the physical
position for Cabinet pages, 4p + d for Drawer d and 2p + t for Trestle t of position p. -/
structure Page where
  blk  : Block
  inst : Nat
  deriving DecidableEq, Repr

/-- Who makes a register access: a PCIe function (R53), the Bureau, or the control core of a position (R282). -/
inductive Req where
  | fn (n : Nat)
  | bureau
  | core (p : Nat)
  deriving DecidableEq, Repr

/-- An event-mesh flit: the header of Table 5.3 and the 128-bit payload. `tag` is the reduction tag of kinds 3 and 4 and the hop
count of the others; the CRC-16 is not kept, because whether a transfer failed it is an operand of FLIT_RECEIVE. -/
structure Flit where
  dest    : Nat
  src     : Nat
  vc      : Nat
  key     : Nat
  seq     : Nat
  kind    : Nat
  tag     : Nat
  payload : Nat
  deriving DecidableEq, Repr

/-- A memory-mesh flit (Table 5.6): `resp` tells a response, whose `op` is its status and `len` its beat. `plane` is 0 for the
request plane, 1 for R0 and 2 for R1. -/
structure MFlit where
  dest  : Nat
  src   : Nat
  key   : Nat
  op    : Nat
  len   : Nat
  tag   : Nat
  line  : Nat
  qmask : Nat
  hops  : Nat
  plane : Nat
  resp  : Bool
  data  : Nat
  deriving DecidableEq, Repr

/-- A flit of either mesh. -/
inductive AnyFlit where
  | ev (f : Flit)
  | mem (f : MFlit)
  deriving DecidableEq, Repr

/-- What a link is left with after it retrains (R139): both halves good, one faulty half, or both faulty. -/
inductive LinkOutcome where
  | full | half | down
  deriving DecidableEq, Repr

/-- How a protected word, or a block of up to four, reads: unharmed, with a corrected error in one of its 8-byte words, or with an uncorrectable one that flips these bits and, when
`mark` holds, has corrupted its end mark (R81). -/
inductive EccRead where
  | clean
  | corrected (word : Nat)
  | uncorrectable (flips : Nat) (mark : Bool)
  deriving DecidableEq, Repr

/-- What the error check of a unit's memory finds in one operation: nothing, or an error at this offset that is corrected or not. -/
inductive WordEcc where
  | clean
  | corrected (off : Nat)
  | uncorrectable (off : Nat)
  deriving DecidableEq, Repr

/-- An instance (a Cabinet position, a Drawer) and what the error check of its memory finds in one operation there. -/
structure Checked (α : Type) where
  i : Nat
  ecc : α
  deriving DecidableEq, Repr

/-- What the error check of a Drawer's store finds in one operation: the Drawer, and the finding. -/
structure StoreEcc where
  d : Nat
  ecc : WordEcc
  deriving DecidableEq, Repr

/-- R232, R242: what a walk finds in the cached lines that it looks up, and its post reads in a Drawer's store. -/
structure WalkEcc where
  row : WordEcc
  post : StoreEcc
  deriving DecidableEq, Repr

/-- R233, R242: the lines of a fill that come back UNCORRECTED, and what the post reads of the walk that goes on find in a Drawer's store. -/
structure FillReads where
  bad : List Nat
  post : StoreEcc
  deriving DecidableEq, Repr

/-- R294: what the error check of a queue manager's private RAM (a queue context or a multicast table entry) finds in one operation, and that of the
message it reads in the scratchpad. -/
structure QmReads where
  ctx : EccRead
  msg : EccRead
  deriving DecidableEq, Repr

/-- R72, R68: the extended multiblock of a link's release, and the lane whose elastic buffer has over- or underflowed, where one has. -/
structure LinkAlign where
  k : Nat
  elastic : Option Nat
  deriving DecidableEq, Repr

/-- R333, R335: a channel whose next record commits, and whether the record fails: its queue entry is unreadable (`some true`), or a FIFO word fails its
write check (`some false`). -/
structure ChanBad where
  n   : Nat
  bad : Option Bool
  deriving DecidableEq, Repr

/-- R123: a die-to-die frame that fails its CRC-24: its place in the replay buffer, its direction (towards this die, or away), and the syndrome. -/
structure BadFrame where
  seq : Nat
  inward : Bool
  syndrome : Nat
  deriving DecidableEq, Repr

/-- A read of host memory that the device has outstanding: the head entry of local ring `i` of function `f`, or the image that an IMAGE_LOAD of
function `f` pulls. -/
inductive DmaFor where
  | ring (f i : Nat)
  | image (f : Nat)
  deriving DecidableEq, Repr

/-- What a read of host memory completes with (R410): its data, as a little-endian number, a poisoned completion, or Unsupported Request. -/
inductive DmaRead where
  | data (v : Nat)
  | poisoned
  | ur
  deriving DecidableEq, Repr

/-- How a line of a stack reads (R376): unharmed, corrected by the stack itself, corrected by the controller, or uncorrectable, and then whether the
mirror's copy is too. -/
inductive LineEcc where
  | clean
  | onDie
  | corrected
  | uncorrectable (mirrorBad : Bool)
  deriving DecidableEq, Repr

/-- What is shifted into UNLOCK_RESP (R497): a signature that verifies, one that does not, or zeros. -/
inductive UnlockResp where
  | valid | invalid | zero
  deriving DecidableEq, Repr


/-- A self-test slice that has run (Table 17.5): its slice code and instance, the failure code (0 when
it passed) and how long it took in microseconds; a repeated block is listed with the last outcome
(R458, R460). -/
structure Slice where
  code : Nat
  inst : Nat
  fail : Nat
  us : Nat
  deriving DecidableEq, Repr

/-- What the device meets on a start (Table 17.3) that no register of it decides: the levels of the
configuration straps, the contents of the flash device, and the outcomes of the checks that a start makes. -/
structure StartPlan where
  legacy : Bool
  bootSrc : Nat
  svc : Bool
  lockstep : Bool
  fwVer : Option Nat
  coreOk : Bool
  coreDigest : Nat
  fuseDigest : Nat
  shadowOk : Bool
  pllOk : Bool
  hostOk : Bool
  lanes : List (List Nat × Nat)
  stackBad : Nat
  chanBad : Nat
  pcBad : List Nat
  full : Nat
  slices : List Slice
  ms : Nat
  readyMs : Nat
  fw : List (Nat × Byte)
  subsys : Nat
  deriving DecidableEq, Repr

/-- How an access arrives: unharmed, with a parity error on the register bus (R424), as a TLP that is poisoned, fails its ECRC or is malformed, or after
the data link has replayed it (R410). -/
inductive Bus where
  | ok | parity | poisoned | ecrc | malformed | replayed
  | word (ecc : EccRead)
  deriving DecidableEq, Repr

/-- The AER errors of Table 15.9. -/
inductive AerErr where
  | ecrc | poisoned | completionTimeout | unsupported | malformed | badTlp | egressPoisoned | internal
  deriving DecidableEq, Repr

/-- What the host programs in configuration space beside Tables 15.2 and 15.10 (Table 15.1, R410): the payload and read request sizes as PCI Express
encodes them, the completion timeout, the ECRC enables, SR-IOV and ARI, the severity of an uncorrectable error, and the recorded errors of a function. -/
inductive PciField where
  | maxPayload | maxReadRequest | completionTimeout | ecrcGenerate | ecrcCheck | vfEnable | numVfs | ariForwarding
  | fatal (e : AerErr)
  | status (e : AerErr)
  deriving DecidableEq, Repr

/-- A configuration request of a function (R387 to R389, R403, R410, R411): a read, a write of the MSI-X enable and mask, a write of the power state, a
read or write of a field of Table 15.1 or R410, whose place the spec leaves to the PCI Express Base Specification, or any other write. -/
inductive CfgOp where
  | read (off : Nat)
  | msix (enable mask : Bool)
  | power (d3hot : Bool)
  | field (x : PciField)
  | setField (x : PciField) (v : Nat)
  | write (off : Nat) (w : Word)
  deriving DecidableEq, Repr

/-- An access through BAR4 (R409): a read of `n` bytes, whose lines read as `ecc` tells, in order and clean beyond its end, or a write. -/
inductive WinAcc where
  | read (n : Nat) (ecc : List LineEcc)
  | write (bytes : List Byte)
  deriving DecidableEq, Repr

/-- Where a register access goes: a register of a page, or `size` bytes at an offset of the requesting function's BAR0 (R390, R391) or BAR2 (R405). -/
inductive Target where
  | reg (p : Page) (off : Nat)
  | bar (off size : Nat)
  | bar2 (off size : Nat)
  deriving DecidableEq, Repr

/-- The commands, one constructor per row of spec/opcode_table.json, in the table's order. -/
inductive Instr where
  /-- HOLDOVER_ENTRY (R26): REFCLK_DEV misses four consecutive edges, so the root PLL enters holdover and raises PLL_UNLOCK. -/
  | holdoverEntry
  /-- PLL_RELOCK (R27): REFCLK_DEV returns and the root PLL relocks frequency-continuously without stepping device time, raising PLL_RELOCK. -/
  | pllRelock
  /-- START (R36): A write of TIME.CTRL.START while HELD starts device time at TIME.SET on the next CLK_TB edge. -/
  | start (r : Req) (w : Word)
  /-- ARM_SYSREF (R37): A write of TIME.CTRL.ARM_SYSREF while HELD makes device time ARMED to start at a chosen SYSREF edge. -/
  | armSysref (r : Req) (w : Word)
  /-- DISARM (R38): A write of TIME.CTRL.DISARM while ARMED returns device time to HELD if the start edge is not yet captured. -/
  | disarm (r : Req) (w : Word)
  /-- SYSREF_EDGE (R39): A rising SYSREF edge is captured; it is skipped, taken as the start edge, or compared with its expected time. -/
  | sysrefEdge (phi : Nat)
  /-- DEVICE_TIME_LOAD (R37): Eight CLK_TB cycles after the captured start edge the Timekeeper loads its counter and all local copies and enters RUNNING. -/
  | deviceTimeLoad
  /-- COPY_SYNC (R35): A local copy becomes synchronised 256 CLK_TB cycles after device time runs or its domain leaves FIO. -/
  | copySync (p : Page)
  /-- COPY_CHECK (R34): At each horizon round start the Timekeeper broadcasts bits [47:4] and every local copy compares them. -/
  | copyCheck (bad : List Page)
  /-- TIME_SOFT_RESET (R40): A write of TIME.PG_CTRL.SOFT_RESET returns device time to HELD and keeps TIME.STOP, when no partition holds state. -/
  | timeSoftReset (r : Req) (w : Word)
  /-- WIDE_LOW_READ (R53): A read of the low half of a wide register returns it and latches the high half for that requester. -/
  | wideLowRead (r : Req) (t : Target) (bus : Bus)
  /-- WIDE_LOW_WRITE (R55): A write of the low half of a writable wide register goes into its staging register. -/
  | wideLowWrite (r : Req) (p : Page) (off : Nat) (w : Word)
  /-- WIDE_HIGH_WRITE (R55): A write of the high half of a writable wide register commits all its bits at once. -/
  | wideHighWrite (r : Req) (p : Page) (off : Nat) (w : Word)
  /-- TRIGIN_EDGE (R42): A selected edge on an enabled TRIG_IN pin is captured, offered to timers, events and the freeze, or ignored. -/
  | triginEdge (pin : Nat) (fall : Bool) (phi : Nat)
  /-- TRIGIN_QUALIFY (R43): A TRIG_IN edge whose new level has held for MINW CLK_TB cycles counts with the time of the edge. -/
  | triginQualify (pin : Nat) (held : Bool)
  /-- EXTERNAL_TRIGGER_EVENT (R45): The Timekeeper injects an external trigger event of type 0x4 within 1,600 fu of the edge. -/
  | externalTriggerEvent (pin : Nat)
  /-- TRIGIN_EVT_WRITE (R45): A write to TRIGIN_EVT takes effect only while the owning partition is stopped. -/
  | triginEvtWrite (r : Req) (pin : Nat) (w : Word)
  /-- TIMER_TICK (R46): A timer tick decrements or reloads the count and sets the zero and match flags. -/
  | timerTick (p : Page) (i : Nat)
  /-- TIMER_ENABLE (R46): Setting TMR_CTRL.EN from 0 to 1 loads the count from TMR_PERIOD as a reload. -/
  | timerEnable (r : Req) (p : Page) (i : Nat) (w : Word)
  /-- TIMER_RESTART (R47): A write of TMR_CTRL.RESTART reloads the count from TMR_PERIOD within three CLK_REG cycles. -/
  | timerRestart (r : Req) (p : Page) (i : Nat) (w : Word)
  /-- CAPTURE_POP (R52): A read of TMR_CAP_TLO removes the oldest capture and latches its high time half and source code. -/
  | capturePop (r : Req) (p : Page) (i : Nat)
  /-- CHANNEL_ENABLE (R105): A write of CHIN.PG_CTRL.ENABLE = 1 runs the encoder and decoder checks, computes E and joins the partition. -/
  | channelEnable (r : Req) (n : Nat) (w : Word)
  /-- CHANNEL_DISABLE (R59): A write of ENABLE = 0 takes the channel out of its partition and discards every unreleased formed event. -/
  | channelDisable (r : Req) (n : Nat) (w : Word)
  /-- LINK_ENABLE (R63): Setting LINK_CTRL.EN checks the link parameters as a set and starts training. -/
  | linkEnable (r : Req) (n : Nat) (w : Word)
  /-- LINK_REINIT (R63): A write of LINK_CTRL.REINIT forces a link initialisation and repeats the parameter check. -/
  | linkReinit (r : Req) (n : Nat) (w : Word)
  /-- LINK_DISABLE (R84): Clearing LINK_CTRL.EN takes the link DOWN and starts a gap with cause EN cleared. -/
  | linkDisable (r : Req) (n : Nat) (w : Word)
  /-- LANE_LOCK (R63): The SerDes PLL and lane CDRs lock and the lanes reach code group synchronisation or sync header lock. -/
  | laneLock (n : Nat)
  /-- LMFC_ALIGN (R72): The first admitted SYSREF edge after lock aligns the LMFC or LEMC and fixes the timestamp anchor. -/
  | lmfcAlign (n phi : Nat)
  /-- ILAS_CHECK (R64): The received JESD204B ILAS is checked on every lane against the configuration. -/
  | ilasCheck (n : Nat) (got : List (List Nat))
  /-- ILAS_RETRY (R64): Every 2^22 fu after an ILAS failure the link retries from code group synchronisation. -/
  | ilasRetry (n : Nat)
  /-- LINK_UP (R72): After the release buffer delay the lane data leave the elastic buffers, the link enters DATA and stamping begins. -/
  | linkUp (n : Nat) (k : LinkAlign)
  /-- LANE_ERR (R66): A disparity or not-in-table character is counted per lane and may pulse SYNC_N. -/
  | laneErr (n lane : Nat) (code : Bool)
  /-- LOSS_OF_CODE_GROUP_SYNC (R67): Four invalid characters within one multiframe take the link DOWN and restart synchronisation. -/
  | lossOfCodeGroupSync (n lane : Nat)
  /-- MULTIBLOCK_CRC_CHECK (R68): The CRC-12 of a JESD204C multiblock is checked when the next multiblock delivers it. -/
  | multiblockCrcCheck (n lane : Nat) (ok : Bool) (a b : Nat)
  /-- LOSS_OF_SYNC_HEADER_LOCK (R68): Sixteen invalid sync headers in 64 take the link DOWN and restart at step 3. -/
  | lossOfSyncHeaderLock (n lane : Nat)
  /-- SERDES_PLL_LOSS (R84): The channel's SerDes PLL loses lock, both links go DOWN and the receive side enters a gap. -/
  | serdesPllLoss (n : Nat)
  /-- WORD_STAMP (R71): A deframed word is stamped DL_RXLAT after its last sample and its samples go to the sample FIFO and the encoders. -/
  | wordStamp (n : Nat) (samples : List (List Nat)) (err : Bool)
  /-- CHANNEL_SYSREF_CHECK (R73): A later SYSREF edge on a running subclass 1 link is checked against the anchor, giving TS_DRIFT or DL_SHIFT. -/
  | channelSysrefCheck (n phi : Nat)
  /-- DL_OFFSET_WRITE (R74): A write to DL_OFFSET applies from the next CLK_TB edge, or is refused while the partition runs. -/
  | dlOffsetWrite (r : Req) (n : Nat) (w : Word)
  /-- SFIFO_POP (R79): A read of SFIFO_POP_LO removes and returns the next word, or returns zero with UNDERFLOW or BUSY. -/
  | sfifoPop (r : Req) (n : Nat) (ecc : EccRead)
  /-- SFIFO_DROP_REST (R80): SFIFO_CMD = DROP_REST discards the rest of the record being read, or the oldest whole record. -/
  | sfifoDropRest (r : Req) (n : Nat)
  /-- SFIFO_ARM (R75): SFIFO_CMD = ARM makes SINGLE mode form one record from the next stamped sample. -/
  | sfifoArm (r : Req) (n : Nat)
  /-- SFIFO_FLUSH (R80): SFIFO_CMD = FLUSH discards every whole record of the sample FIFO. -/
  | sfifoFlush (r : Req) (n : Nat)
  /-- SFIFO_THR_WRITE (R78): A write of SFIFO_THR arms or disarms the level cause without raising it. -/
  | sfifoThrWrite (r : Req) (n : Nat) (w : Word)
  /-- SDMA_RECORD_COPY (R82): A whole record is copied into the host ring once it has room, SDMA_WPTR advances and SDMA_REC is raised. -/
  | sdmaRecordCopy (n : Nat)
  /-- GAP_START (R84): Gap timer 0 expiry or the first sample under a new anchor declares a gap, closes the record with TRUNC and schedules the start marker. -/
  | gapStart (n : Nat)
  /-- PAIR_STATUS_SEND (R87): When a paired channel knows all events and faults of a window it sends its partner a status flit. -/
  | pairStatusSend (n w : Nat)
  /-- PAIR_STATUS_RECEIVE (R88): A paired channel receives its partner's window status and returns an acceptance notice. -/
  | pairStatusReceive (n : Nat) (f : Flit)
  /-- PAIR_DELIVERY_DECISION (R89): At the delivery time of a window's first event each channel of a pair decides whether it delivers the window. -/
  | pairDeliveryDecision (n w : Nat)
  /-- TX_ENABLE (R92): Setting TX_CTRL.EN starts sync headers and the pilot signal on the transmit link. -/
  | txEnable (r : Req) (n : Nat) (w : Word)
  /-- TX_ALIGN (R92): The transmitter aligns its LEMC to an admitted SYSREF edge, starts data and raises TX_UP. -/
  | txAlign (n phi : Nat)
  /-- TX_SAMPLE (R329): A transmit sample's content is fixed 128 ns before its ball time from its selected source. -/
  | txSample (n : Nat)
  /-- LINK_CONFIG_WRITE (R95): A write to a link configuration register while EN is 1 is checked and held until the next initialisation. -/
  | linkConfigWrite (r : Req) (n off : Nat) (w : Word)
  /-- ENCODER_EVENT_RELEASE (R103): The endpoint releases an encoder event or gap marker when the local copy reaches t + E + H_p and injects its copies. -/
  | encoderEventRelease (n : Nat)
  /-- FLIT_RECEIVE (R140): A router input takes an arriving flit: CRC and key check, hop count, routing, tree copying and forwarding. -/
  | flitReceive (p port crc : Nat) (parity : Bool) (f : AnyFlit)
  /-- LINK_RETRAIN (R139): After 8 consecutive retries of one flit a link retrains and runs full, half width or DOWN. -/
  | linkRetrain (p port plane : Nat) (memMesh : Bool) (o : LinkOutcome)
  /-- FLIT_EJECT (R132): A destination delivers, stores, holds or discards an arriving flit by its sequence number. -/
  | flitEject (e : Nat) (esc : Bool) (f : Flit)
  /-- ROB_TIMEOUT (R134): An entry held ROB_TMO in the ROB makes the destination declare its missing flits lost and raise ORDER_LOST. -/
  | robTimeout (e : Nat)
  /-- ESCAPE (R135): A flit blocked 256 cycles at the head of its VC moves to VC5 or RESC. -/
  | escape (p port : Nat) (f : AnyFlit)
  /-- D2D_REPLAY (R123): A die-to-die frame that fails its CRC-24 is replayed from the replay buffer. -/
  | d2dReplay (g : Nat) (frame : BadFrame) (lanes : Nat)
  /-- D2D_GROUP_DOWN (R124): A frame failing 16 consecutive replays takes the group DOWN and it retrains once. -/
  | d2dGroupDown (g : Nat) (failing : List Nat) (us : Nat)
  /-- D2D_RETRAIN (R124): A write of D2D_CTRL.RETRAIN trains the group, replacing failing lanes with spares. -/
  | d2dRetrain (r : Req) (g : Nat) (w : Word) (failing : List Nat) (us : Nat)
  /-- RED_UP (R148): A router combines an arriving RED_UP flit into a partial, and the root broadcasts the result when complete. -/
  | redUp (p : Nat) (f : Flit)
  /-- RED_WINDOW_EXPIRY (R148): A non-root partial whose RED_WIN passes is sent upward as one RED_UP. -/
  | redWindowExpiry (p key tag inst : Nat)
  /-- RED_TMO (R148): A root partial open for RED_TMO is broadcast as INCOMPLETE and a class 4 error is recorded. -/
  | redTmo (p key tag inst : Nat)
  /-- RED_DOWN_RECEIVE (R194): A source applies a horizon RED_DOWN, raising S, and channels keep M. -/
  | redDownReceive (e : Nat)
  /-- ACCEPTANCE_NOTICE (R195): A source receives an acceptance notice for a flit or tree copy on the acceptance sideband. -/
  | acceptanceNotice (i : Nat)
  /-- FWD_EXPIRY (R150): FWD.LIFE counts down to zero and the router's forwarding ends. -/
  | fwdExpiry (p : Nat)
  /-- DELIVERY (R165): A Drawer lands a delivery, decays its charge to the slot end and adds it to the ring or the long-delay queue. -/
  | delivery (p : Nat) (ecc : WordEcc)
  /-- EVALUATE (R167): A Drawer evaluates an occupied slot of a neuron, decaying, integrating and possibly spiking. -/
  | evaluate (p d i : Nat) (ecc : WordEcc)
  /-- SWEEP_VISIT (R173): At each multiple of 2^31 fu the rest sweep visits one record and rests it if long quiet. -/
  | sweepVisit (p d : Nat) (ecc : WordEcc)
  /-- CATCHUP_PASS (R175): After a return to RUN and synchronisation the Drawer rests or rewrites every record and raises CATCHUP_DONE. -/
  | catchupPass (p : Nat) (d : Checked WordEcc)
  /-- HANDSHAKE_TIMEOUT (R178): A Drawer handshake open for DRW_CTRL.TMO makes the Drawer FAULTED and reports the Cabinet. -/
  | handshakeTimeout (p d i : Nat)
  /-- READ_NEURON (R180): The command copies a neuron's record, ring and occupancy bits to shared memory. -/
  | readNeuron (p d : Nat) (ecc : WordEcc)
  /-- WRITE_NEURON (R180): The command replaces a neuron's record, ring and occupancy bits from shared memory. -/
  | writeNeuron (p d : Nat) (ecc : WordEcc)
  /-- CHARGE (R180): The command makes a delivery with a given time and charge. -/
  | charge (p : Nat) (d : Checked WordEcc)
  /-- DRW_WIN_DATA (R163): A WIN_DATA access reads or writes the Drawer store word at WIN_ADDR, with auto-increment. -/
  | drwWinData (r : Req) (p d : Nat) (w : Option Word) (ecc : WordEcc)
  /-- DRAWER_PAUSE (R182): A write of DRW_CTRL.PAUSE pauses or resumes the Drawer's grants. -/
  | drawerPause (r : Req) (p d : Nat) (w : Word)
  /-- STEP_START (R188): A Cabinet starts the next step when its end is at or below the grant limit, or skips it. -/
  | stepStart (p : Checked StoreEcc)
  /-- STEP_COMPLETE (R189): A step completes when its last pass and barrier are done, moving G and the horizon. -/
  | stepComplete (p : Checked StoreEcc)
  /-- LDQ_RETURN (R186): A spilled long-delay entry returns on die when room frees. -/
  | ldqReturn (p : Nat)
  /-- SPILL_RESUME (R187): When spill space frees, the held delivery is placed and the walk resumes. -/
  | spillResume (p : Checked WordEcc)
  /-- HORIZON_ROUND_SAMPLE (R194): At device time r times ROUND each source samples its horizon. -/
  | horizonRoundSample (k e : Nat)
  /-- HORIZON_CONTRIBUTION_SEND (R194): Once all earlier event flits are accepted a source sends its horizon RED_UP. -/
  | horizonContributionSend (k e : Nat)
  /-- CORE_FLOOR_WRITE (R193): A write of CORE_FLOOR raises the floor, is refused if lowering, or is held by a pending EMIT_EVENTS. -/
  | coreFloorWrite (r : Req) (p : Nat) (w : Word)
  /-- PLASTIC_EVENT_WALK (R200): A plastic event leaves the hold once S exceeds its time plus L and G reaches J(e), and is walked with learning. -/
  | plasticEventWalk (p : Nat) (ecc : WalkEcc)
  /-- EXPANDER_EVENT (R217): The expander takes an event and handles it by type: walk, plastic hold, reward or discard. -/
  | expanderEvent (p : Nat) (mesh : Bool) (ecc : WordEcc)
  /-- ROW_LINE_FILL (R230): Lines fetched on a row cache miss arrive and the waiting walk resumes. -/
  | rowLineFill (p : Nat) (lines : FillReads)
  /-- EPOCH_REQUEST (R228): A write of XPND.EPOCH.REQ arms a projection copy switch at EPOCH_AT, or is refused. -/
  | epochRequest (r : Req) (p : Nat) (w : Word)
  /-- EPOCH_SWITCH (R228): When safe time passes EPOCH_AT, CUR toggles, REQ clears and pinned rows are fetched. -/
  | epochSwitch (p : Nat)
  /-- RELOCATION_COPY (R253): The relocation engine takes a request and builds the grown row in free lines. `bad` are the lines that the Hutch answers
  UNCORRECTED. -/
  | relocationCopy (p axon : Nat) (bad : List Nat)
  /-- RELOC_DONE (R235): The Hutch reports the relocation copy complete and RELOC_DONE is raised. -/
  | relocDone (p axon : Nat)
  /-- RELOCATION_INSTALL (R234): At t_i the expander writes the new directory entry and invalidates the old row's lines. -/
  | relocationInstall (p axon : Nat)
  /-- REWARD_PROCESS (R250): A reward event is processed under R200 and appended to the Cabinet's reward history. -/
  | rewardProcess (p : Nat)
  /-- CONSOLIDATION_MARKER (R254): A Cabinet receives the forced-consolidation marker and places it in the plastic order or refuses it. -/
  | consolidationMarker (p : Nat)
  /-- MARKER_PROCESS (R255): The marker is processed: every valid tag is consolidated at T_c and set idle. -/
  | markerProcess (p : Checked StoreEcc)
  /-- DESCRIPTOR_ENTRY (R269): A descriptor enters a Trestle's window and is checked or refused. -/
  | descriptorEntry (p t : Nat)
  /-- LOAD_W (R268): The Trestle copies weight blocks from shared memory into its store. -/
  | loadW (p t : Nat) (ecc : WordEcc)
  /-- LOAD_CB (R268): The Trestle loads codebooks from shared memory. -/
  | loadCb (p t : Nat) (ecc : WordEcc)
  /-- LOAD_RESCALE (R268): The Trestle loads rescale entries or one activation table. -/
  | loadRescale (p t : Nat) (ecc : WordEcc)
  /-- LOAD_ACT (R260): The Trestle loads activation rows, quantising BF16 or FP32 rows. -/
  | loadAct (p t : Nat) (ecc : WordEcc)
  /-- RUN (R263): The array computes one block of outputs over all K-tiles and writes it through the output stage. -/
  | run (p t : Nat) (ecc : WordEcc) (chk : Option Nat)
  /-- REDUCE_OUT_COPY (R268): REDUCE_OUT in COPY mode writes store blocks to shared memory. -/
  | reduceOutCopy (p t : Nat) (ecc : WordEcc)
  /-- REDUCE_OUT_REDUCE (R273): REDUCE_OUT in a reduce mode registers instances and sends each value as a RED_UP. -/
  | reduceOutReduce (p t : Nat) (ecc : WordEcc)
  /-- EMIT_EVENTS (R275): The Trestle forms graded events of type 0x5 from a buffer and hands them to the projection stage. -/
  | emitEvents (p t : Nat) (ecc : WordEcc)
  /-- FENCE (R271): A FENCE starts when every earlier descriptor completes and completes at once. -/
  | fence (p t : Nat)
  /-- DESCRIPTOR_COMPLETE (R272): A descriptor completes and sends its completion message. -/
  | descriptorComplete (p t : Nat)
  /-- RED_DOWN_PROGRAM_RESULT (R274): A RED_DOWN with a program tag is written to the Trestle's result element, or passed on as orphan. -/
  | redDownProgramResult (p : Nat)
  /-- TRESTLE_PAUSE (R278): A write of TRS_CTRL.PAUSE stops new descriptors from starting, or resumes them. -/
  | trestlePause (r : Req) (p t : Nat) (w : Word)
  /-- TRS_WIN_DATA (R280): A WIN_DATA access reads or writes the Trestle RAM word at WIN_ADDR. -/
  | trsWinData (r : Req) (p t : Nat) (w : Option Word) (ecc : WordEcc)
  /-- BANK_POWER_WRITE (R285): A write of SPAD.BANK_PWR requests a bank power mode change. -/
  | bankPowerWrite (r : Req) (p : Nat) (hi : Bool) (w : Word)
  /-- BANK_TRANSITION_DONE (R285): A bank power transition completes, an OFF bank returning zeroed. -/
  | bankTransitionDone (p b : Nat)
  /-- CORE_INSTRUCTION (R288): The control core executes one ordinary RV32IMC or CSR instruction. -/
  | coreInstruction (p : Nat) (fetch data : EccRead) (parity : Option Nat)
  /-- CORE_INTERRUPT (R291): The core takes the machine external interrupt. -/
  | coreInterrupt (p : Nat)
  /-- QSEND (R298): The core sends a 32-byte message to a queue with no limit. -/
  | qsend (p : Nat) (ecc : EccRead)
  /-- QSEND_T (R307): The core sends a message with a time limit. -/
  | qsendT (p : Nat) (ecc : EccRead)
  /-- QRECV (R305): The core receives the head message of a local queue, or blocks. -/
  | qrecv (p : Nat) (ecc : QmReads)
  /-- QRECV_RECEIVE (R305): A blocked QRECV completes when its queue becomes non-empty. -/
  | qrecvReceive (p : Nat) (ecc : QmReads)
  /-- QPEEK (R305): The core reads a queue's occupancy and optionally copies its head message. -/
  | qpeek (p : Nat) (ecc : QmReads)
  /-- QMCAST (R303): The core offers one copy of a message to each member of a multicast group. -/
  | qmcast (p : Nat) (ecc : QmReads)
  /-- HZWAIT (R308): The core waits until the Cabinet's safe time reaches a time. -/
  | hzwait (p : Nat)
  /-- HZWAIT_RETIRE (R308): A waiting HZWAIT retires when S reaches its time. -/
  | hzwaitRetire (p : Nat)
  /-- EVINJ (R309): The core injects one event from an injection block. -/
  | evinj (p : Nat) (ecc : EccRead)
  /-- OFFER (R298): A destination queue manager accepts or refuses an offered message. -/
  | offer (p : Nat) (unit : Option Nat) (ecc : EccRead)
  /-- SEND_ANSWER (R298): A sender receives the acceptance or refusal notice of its message. -/
  | sendAnswer (i : Nat)
  /-- SEND_RETRY (R298): After QRETRY ns a send refused FULL is offered again. -/
  | sendRetry (e unit : Nat)
  /-- CTX_CREATE (R295): CTX_CMD CREATE loads a queue context. -/
  | ctxCreate (r : Req) (p : Checked EccRead)
  /-- CTX_DESTROY (R295): CTX_CMD DESTROY invalidates an empty, unblocked queue. -/
  | ctxDestroy (r : Req) (p : Checked EccRead)
  /-- CTX_SET_THR (R295): CTX_CMD SET_THR sets THR and IE and arms or disarms the level cause. -/
  | ctxSetThr (r : Req) (p : Checked EccRead)
  /-- CTX_FLUSH (R295): CTX_CMD FLUSH sets HEAD to TAIL. -/
  | ctxFlush (r : Req) (p : Checked EccRead)
  /-- PORT_DRAIN (R302): The queue manager moves a bound queue's head message into its port when the port can take it. -/
  | portDrain (p q : Nat) (ecc : QmReads)
  /-- PREFETCH (R302): The expander command fetches an axon's directory, row and codebook lines into the row cache. -/
  | prefetch (p : Nat)
  /-- HANG (R310): A blocked-send timer reaches HANG_LIMIT, records class 4 code 0x0A0 and may freeze counters. -/
  | hang (p unit : Nat)
  /-- CORE_RUN_WRITE (R312): A write of CORE_CTRL.RUN releases the core at RESET_PC or resets it. -/
  | coreRunWrite (r : Req) (p : Nat) (w : Word)
  /-- HOST_SIGNAL (R311): A write of HOST_SIGNAL raises CORE_SIGNAL. -/
  | hostSignal (r : Req) (p : Nat) (w : Word)
  /-- QMGR_CTX_READ (R311): A read of CTX0 snapshots the selected queue context between operations. -/
  | qmgrCtxRead (r : Req) (p : Checked EccRead)
  /-- QMGR_HEAD_READ (R311): A read of HEAD_0 snapshots the selected queue's head message. -/
  | qmgrHeadRead (r : Req) (p : Nat) (ecc : QmReads)
  /-- DECODER_INPUT (R314): The decoder endpoint accepts or discards an event flit and applies it to its unit's window. `room` says whether its path to the
  log can take an entry. -/
  | decoderInput (n : Nat) (room : Bool)
  /-- RECORD_WRITE (R333): In the 1,024 fu before release the channel writes the result record's words. -/
  | recordWrite (n : Nat) (bad : Option Bool)
  /-- RESULT_RELEASE (R324): At the release instant the record commits and the trigger and annotation are released. -/
  | resultRelease (a : ChanBad)
  /-- TRIG_OUT_END (R327): WIDTH fu after the leading edge TRIG_OUT[n] returns inactive. -/
  | trigOutEnd (n : Nat)
  /-- RECORD_HELD_COMMIT (R333): Under HOLD a waiting record commits as soon as room frees, with HELD = 1. -/
  | recordHeldCommit (a : ChanBad)
  /-- RF_POP (R334): A read of RF_POP_LO removes and returns the next result FIFO word. -/
  | rfPop (r : Req) (n : Nat) (ecc : EccRead)
  /-- RF_DROP_REST (R334): RF_CMD DROP_REST discards the rest of the record being read. -/
  | rfDropRest (r : Req) (n : Nat)
  /-- RF_FLUSH (R334): RF_CMD FLUSH discards every whole record of the result FIFO. -/
  | rfFlush (r : Req) (n : Nat)
  /-- RF_THR_WRITE (R334): A write of RF_THR arms or disarms the RF_LEVEL cause. -/
  | rfThrWrite (r : Req) (n : Nat) (w : Word)
  /-- RDMA_RECORD_COPY (R334): A committed record is copied into the host ring once it has room, raising RDMA_REC. -/
  | rdmaRecordCopy (n : Nat)
  /-- REWIND (R336): The channel voids inputs of a replaying Cabinet from t_ck and rebuilds open windows. -/
  | rewind (n : Nat)
  /-- FRONT (R336): The channel raises the replay front of a replaying Cabinet. -/
  | front (n : Nat)
  /-- REPLAY_END (R336): The channel clears the replaying mark of a Cabinet. -/
  | replayEnd (n : Nat)
  /-- PART_CONFIG (R354): The mailbox command sets a partition's class, protection, P, checkpoint period and modes. -/
  | partConfig (r : Req) (w : Word)
  /-- IMAGE_LOAD (R348): The mailbox command pulls, checks and writes a network image and reserves capacity. -/
  | imageLoad (r : Req) (w : Word)
  /-- IMAGE_LOAD_TIMEOUT (R348): An image load not finished within 60 s completes with TIMEOUT. -/
  | imageLoadTimeout (f : Nat)
  /-- PART_START (R352): The mailbox command admits, places and starts a partition at T_s. -/
  | partStart (r : Req) (w : Word)
  /-- PART_STOP (R353): The mailbox command stops a partition's sources at T_p. -/
  | partStop (r : Req) (w : Word)
  /-- PART_RELEASE (R346): The mailbox command releases a partition to FREE. -/
  | partRelease (r : Req) (w : Word)
  /-- MIGRATE (R360): The mailbox command moves one logical Cabinet to another position. -/
  | migrate (r : Req) (w : Word)
  /-- PARK (R363): The mailbox command parks a quiescent logical Cabinet. -/
  | park (r : Req) (w : Word)
  /-- UNPARK (R365): The mailbox command admits a position and migrates a parked Cabinet into it. -/
  | unpark (r : Req) (w : Word)
  /-- REBALANCE (R366): The mailbox command re-places or re-pins a running partition. -/
  | rebalance (r : Req) (w : Word) (obs : List (Nat × Nat × Nat)) (pins : List (Nat × List Nat))
  /-- CONSOLIDATE (R254): The mailbox command sends the forced-consolidation marker for T_c to every Cabinet. -/
  | consolidate (r : Req) (w : Word)
  /-- QUERY (R346): The mailbox command returns a partition's state, class, shortfall, EP and S. -/
  | query (r : Req) (w : Word)
  /-- MAILBOX_COMMAND_DONE (R349): A mailbox command completes, writes MB_STATUS and raises MB_DONE. -/
  | mailboxCommandDone (f : Nat)
  /-- MIGRATION_FREEZE (R360): At the first round sample after the target wakes, the source Cabinet is frozen and its copy begins. -/
  | migrationFreeze (f : Nat)
  /-- MIGRATION_COPY_DONE (R360): The state copy ends and the new map entry is written and switched. -/
  | migrationCopyDone (f : Nat)
  /-- PG_OWNER_WRITE (R398): A PF write of PG_OWNER changes a page's owner or is refused. -/
  | pgOwnerWrite (r : Req) (p : Page) (w : Word)
  /-- PG_LOCK_WRITE (R399): A write of PG_LOCK replaces the lock key when the compare value matches. -/
  | pgLockWrite (r : Req) (p : Page) (w : Word)
  /-- MEMORY_REQUEST (R371): A Hutch checks and serves a memory request, with ECC, mirroring and isolation. -/
  | memoryRequest (f : MFlit) (ecc : List LineEcc)
  /-- SCRUB_READ (R378): The scrubber reads the next line of an allotted region and handles its errors. -/
  | scrubRead (h : Nat) (ecc : LineEcc)
  /-- PC_RETIRE (R379): A partition 0 write of PC_RETIRE with GO retires a pseudo-channel. -/
  | pcRetire (r : Req) (h : Nat) (w : Word)
  /-- IMBALANCE_WINDOW (R381): At the end of each imbalance window the monitor judges every region's pseudo-channel counts. -/
  | imbalanceWindow (h : Nat)
  /-- RELAYOUT (R383): A write of RELAYOUT with GO starts re-laying a region into a free slot, or is refused. -/
  | relayout (r : Req) (h : Nat) (w : Word)
  /-- RELAYOUT_LINE_COPY (R383): The re-layout engine copies line W and advances the watermark. -/
  | relayoutLineCopy (h : Nat)
  /-- PERST_N_RISE (R388): PERST_N rises and the host port answers Request Retry Status until the Bureau is ready. -/
  | perstNRise
  /-- CONFIG_REQUEST (R388): The port answers a PCIe configuration request. -/
  | configRequest (f : Nat) (op : CfgOp) (ready : Bool)
  /-- DOORBELL (R405): A BAR2 doorbell write updates a ring's host index or puts it in ERROR. -/
  | doorbell (f off : Nat) (w : Word) (bus : Bus)
  /-- STACK_WINDOW_ACCESS (R409): A BAR4 access reaches the stacks through its window entry. -/
  | stackWindowAccess (f o : Nat) (acc : WinAcc) (bus : Bus)
  /-- FLR (R389): A function level reset stops and frees the function's partitions and clears its state. -/
  | flr (f : Nat)
  /-- HOT_RESET (R411): A hot reset or link down resets configuration, rings and MSI-X state but no partition. -/
  | hotReset
  /-- PG_IRQ_SET (R396): A write to PG_IRQ_SET sets interrupt causes. -/
  | pgIrqSet (r : Req) (p : Page) (w : Word)
  /-- PG_IRQ_RAW_CLEAR (R396): A write of one to a PG_IRQ_RAW bit clears the cause. -/
  | pgIrqRawClear (r : Req) (p : Page) (w : Word)
  /-- PG_ERR_INFO_CLEAR (R397): A write of one to PG_ERR_INFO bit 31 clears VALID. -/
  | pgErrInfoClear (r : Req) (p : Page) (w : Word)
  /-- SOFT_RESET (R401): A write of PG_CTRL.SOFT_RESET starts resetting the block's registers and state. -/
  | softReset (r : Req) (p : Page) (w : Word)
  /-- SOFT_RESET_DONE (R401): The block's soft reset completes and SOFT_RESET reads 0. -/
  | softResetDone (p : Page)
  /-- VEC_EOI (R403): A write of VEC_EOI re-arms an MSI-X vector and sends at once if a condition holds. -/
  | vecEoi (r : Req) (w : Word)
  /-- MSIX_MESSAGE (R403): An armed vector with a holding condition sends one MSI-X message and disarms. -/
  | msixMessage (f v : Nat)
  /-- RING_FETCH (R406): A host-to-device ring fetches its head entry and offers it to its target. -/
  | ringFetch (f i : Nat)
  /-- RING_STALL (R406): An entry waiting on FULL for HQ_HANG raises RING_STALL. -/
  | ringStall (f i : Nat)
  /-- RING_WRITE (R407): A device-to-host ring takes the head message of its queue and writes it and the shadow word. -/
  | ringWrite (f i : Nat) (ecc : QmReads)
  /-- RING_RESET (R408): RING_CMD RESET zeroes both indices and sets the ring IDLE. -/
  | ringReset (r : Req)
  /-- RING_RETRY (R408): RING_CMD RETRY re-offers the failing entry and returns the ring to ACTIVE. -/
  | ringRetry (r : Req)
  /-- RING_SKIP (R408): RING_CMD SKIP advances the head past the failing entry. -/
  | ringSkip (r : Req)
  /-- RING_CFG_WRITE (R404): A write of RING_CFG configures or enables a ring, or is refused. -/
  | ringCfgWrite (r : Req) (w : Word)
  /-- HOLD (R413): A PF write of DEV_CTRL.HOLD puts the device in reset-hold with device time running. -/
  | hold (r : Req) (w : Word)
  /-- RELEASE (R413): A write of DEV_CTRL.RELEASE restarts the device from firmware delivery and latches the mode. -/
  | release (r : Req) (w : Word) (x : StartPlan)
  /-- LEGACY_WRITE (R414): A write of DEV_CTRL.LEGACY during the hold sets or clears the legacy request. -/
  | legacyWrite (r : Req) (w : Word)
  /-- FAULT_REPORT (R428): The Bureau handles a fault report by faulting, recovering or entering reset-hold. -/
  | faultReport
  /-- SILENT_CABINET (R427): After 16 consecutive INCOMPLETE rounds the Bureau treats the lagging Cabinets as faulted. -/
  | silentCabinet (k : Nat)
  /-- CHECKPOINT_VALID (R437): A checkpoint's last block is written, it becomes valid and earlier journal entries are freed. -/
  | checkpointValid (p : Nat)
  /-- RECOVERY_RESTORE_DONE (R438): The checkpoint copy and undo into the spare end and replay starts. -/
  | recoveryRestoreDone (k : Nat) (ok : Bool)
  /-- FRONT_SEND (R438): Every 10 µs during replay the Bureau sends FRONT with the spare's G. -/
  | frontSend (k : Nat)
  /-- REPLAY_COMPLETE (R440): Replay ends, the map switches to the spare and the recovery finishes. -/
  | replayComplete (k : Nat)
  /-- FILTER (R441): A Cabinet receives FILTER and builds the multiset of journalled events from the faulted Cabinet. -/
  | filter (p : Nat)
  /-- RESET_N_RISE (R449): RESET_N rises and the start sequence of Table 17.3 runs to READY or reset-hold. -/
  | resetNRise (x : StartPlan)
  /-- RESET_N_FALL (R455): RESET_N falls and the start is abandoned. -/
  | resetNFall
  /-- FIRMWARE_BLOCK (R457): A position receives and checks a firmware block. -/
  | firmwareBlock (p index count dest : Nat) (data : List Byte) (crc : Nat)
  /-- SHUTDOWN (R461): A write of BIST_CTRL.SHUTDOWN runs the shutdown self-test and writes the health record. -/
  | shutdown (r : Req) (w : Word)
  /-- BIST_DONE (R461): The shutdown or full self-test and record write complete and BIST_DONE is raised. -/
  | bistDone (l : List Slice) (ms : Nat) (ok : Bool)
  /-- CLEAR_FAULTS (R464): A write of BIST_CTRL.CLEAR_FAULTS marks the fault map for clearing. -/
  | clearFaults (r : Req) (w : Word)
  /-- RUN_FULL (R461): A write of BIST_CTRL.RUN_FULL runs the full self-test now. -/
  | runFull (r : Req) (w : Word)
  /-- HEALTH_RECORD_UPDATE (R463): Within 2 s of a run-time change the Bureau writes it into the health record. -/
  | healthRecordUpdate (ok : Bool)
  /-- TRAINING_RECORD_WRITE (R454): After a full training the Bureau writes new training records within 2 s of READY. -/
  | trainingRecordWrite (ok : Bool)
  /-- POWER_REQUEST (R474): A domain power request is checked and starts, records or is refused. -/
  | powerRequest (r : Req) (p : Option Page) (w : Word)
  /-- TRANSITION_DONE (R476): A domain transition completes, raising TRANS_DONE and executing any recorded request. -/
  | transitionDone (d : Nat) (bad : Bool)
  /-- CLOCK_SWITCH (R479): A DOM_CLKSW write switches a woken domain from FIO to the divided root clocks. -/
  | clockSwitch (r : Req) (w : Word)
  /-- DEVICE_POWER_REQUEST (R480): A write of PWR.DEV_REQ requests device RUN, DEEP or OFF. -/
  | devicePowerRequest (r : Req) (w : Word)
  /-- DEV_DONE (R480): A device-level transition completes and DEV_DONE is raised. -/
  | devDone
  /-- WAKE_N (R480): WAKE_N held low in device OFF starts the device from step 1. -/
  | wakeN (x : StartPlan)
  /-- FREEZE_ARM (R487): A write of FREEZE_CTRL.ARM sets T_freeze to FREEZE_AT, or is refused. -/
  | freezeArm (r : Req) (w : Word)
  /-- SNAP_TAKE (R487): A write of SNAP_CMD.TAKE sets a freeze with a snapshot. -/
  | snapTake (r : Req) (w : Word)
  /-- FREEZE (R488): At T_freeze the counters stop and any snapshot is captured. -/
  | freeze
  /-- THAW (R488): A write of FREEZE_CTRL.THAW sets a thaw time or disarms an armed freeze. -/
  | thaw (r : Req) (w : Word)
  /-- COUNTER_RESUME (R488): At the thaw time frozen counters resume and THAWED is raised. -/
  | counterResume
  /-- SNAP_DONE (R495): The Bureau finishes writing the snapshot, sets COMPLETE and raises SNAP_DONE. -/
  | snapDone (fail : Option Nat)
  /-- TRACE_RECORD_WRITE (R493): A Hutch writes an arriving trace record into the trace ring. -/
  | traceRecordWrite (e : Nat)
  /-- CNT_CLEAR (R486): A write of CNT_CLEAR clears every counter of the page. -/
  | cntClear (r : Req) (p : Page) (w : Word)
  /-- TAP_INSTRUCTION (R496): The TAP executes a loaded JTAG instruction. -/
  | tapInstruction (code : Nat)
  /-- UNLOCK_CHAL (R497): A capture of UNLOCK_CHAL draws a new nonce and forms the challenge. -/
  | unlockChal
  /-- UNLOCK_RESP (R497): A response shifted into UNLOCK_RESP is verified and unlocks or is counted as invalid. -/
  | unlockResp (x : UnlockResp)
  /-- DEBUG_HALT (R498): A debugger halts a control core or the Bureau, freezing timers and blocked-send timers. -/
  | debugHalt (h : Nat)
  /-- MONITOR_READING (R513): Every 100 µs the junction monitors read and the device alarms, releases or trips. -/
  | monitorReading (temps : List Int)
  /-- SMBUS_BLOCK_READ (R512): SMBus command 0x00 returns the VSEC words. -/
  | smbusBlockRead
  /-- SMBUS_MONITOR_READ (R512): SMBus command 0x10 + i returns junction monitor i. -/
  | smbusMonitorRead (i : Nat)
  /-- SMBUS_HIGHEST_READ (R512): SMBus command 0x20 returns the highest monitor reading. -/
  | smbusHighestRead
  /-- SMBUS_ALARM_READ (R512): SMBus command 0x21 returns the alarm and trip bits. -/
  | smbusAlarmRead
  /-- SMBUS_ALARM_CLEAR (R512): SMBus command 0x22 with 1 clears the latched alarm and trip bits. -/
  | smbusAlarmClear (v : Nat) (pec : Option Bool)
  /-- REGISTER_WRITE (R10): A write to a register with no row of its own takes effect, is refused or records a reserved-encoding error. -/
  | registerWrite (r : Req) (t : Target) (v : Nat) (bus : Bus)
  /-- DEBUG_RESUME (R498): A debugger resumes a halted control core or the Bureau, so its timers, blocked-send timers, mailbox and recovery proceed again. -/
  | debugResume (h : Nat)
  /-- ERROR_LOG_POP (R448): A read of INTG.LOG_TIME_LO removes the oldest error-log entry and latches LOG_TIME_HI, LOG_INFO and LOG_SRC, or returns zero with VALID = 0 when the log is empty. -/
  | errorLogPop (r : Req)
  /-- MAP_SWITCH_FLIT (R345): A logical-map holder receives the MGMT flit MAP_SWITCH and records the round instance r_e at which it will make its inactive copy active. -/
  | mapSwitchFlit (e : Nat)
  /-- WAIT_START_RECORD (R490): A control core whose wait of Table 19.2 codes 0 to 2 has lasted 2^MINW CLK_CTL cycles forms a WAIT_START trace record. -/
  | waitStartRecord (p : Nat)
  /-- VDD_AON_RISE (R450): VDD_AON rises from below its tolerance, so the AON counter starts from zero, a new AON epoch is drawn and BIST_STATE.AON_LOST is set. -/
  | vddAonRise
  /-- VDD_AON_LOSS (R414): VDD_AON falls below its tolerance, clearing DEV_CTRL.LEGACY, the latched TRIP and all D_AON state. -/
  | vddAonLoss
  /-- COMPLETION_TIMEOUT (R410): A device read of host memory is not completed within the Device Control 2 timeout, so the ring goes to ERROR with code 0x0EA or IMAGE_LOAD completes TIMEOUT. -/
  | completionTimeout (src : DmaFor)
  /-- DMA_READ_COMPLETION (R410): A completion for a device read of host memory arrives, delivering the ring entry, or putting the ring in ERROR when it is poisoned or UR. -/
  | dmaReadCompletion (src : DmaFor) (d : DmaRead)
  deriving DecidableEq, Repr

end Sys2Proof
end

