-- ==== Sys2Proof/Config.lean ====
section
/-!
DEFINITION. Config.lean: the free values of the model. The spec leaves some values open while the block goes on; each such
value is `Config.free n` for the draw number `n` that State.draws counts, and nothing in Lean can evaluate it.
-/

namespace Sys2Proof

/-- The n-th value that the spec leaves open, as 64 unconstrained bits (DESIGN CHOICE, log entry 4). -/
opaque Config.free : Nat → BitVec 64

/-- The stamping latency DL_RXLAT, in fu, that a link configuration implies (R105; 03_intake.md, Timestamps): LINK_CFG0, LINK_CFG1,
RATE and RBD. The spec gives its value for one configuration only (log entry 5). -/
opaque Config.rxLat (cfg0 cfg1 rate rbd : Nat) : BitVec 16

/-- The row cache's fixed hash of a LINE to one of its 448 sets (08_synapses.md, The row cache). The spec does not give it (log entry 26). -/
opaque Config.rowSet : Nat → Fin 448

/-- One less than the depth, in flits, of a memory-mesh input buffer of class RQ, SYS, RS or RESC, counted from 0 (R127, R137). The spec gives the depths of
the event mesh only (log entry 11). -/
opaque Config.memDepth : Nat → Nat

/-- What a delayed sample `v` of a receive resolution `n` above the transmit resolution `w` is sent as (R329): the spec does not say how it is narrowed
(log entry 31). -/
opaque Config.txNarrow (n w : Nat) (v : Int) : BitVec 32

/-- The item type that an item header of the boot flash holds for each item of Table 17.2, counted from 0 (R451). The spec gives no codes (log entry 40). -/
opaque Config.flashItem : Nat → BitVec 8

/-- The code in MB_STATUS of each mailbox status, counted in the order of Table 13.7's names from OK (R349). The spec gives no codes (log entry 44). -/
opaque Config.mbCode : Nat → BitVec 8

end Sys2Proof
end

