-- ==== Sys2Proof/Machine/State.lean ====
section
/-!
DEFINITION. State.lean: the state of the block as plain data, the reasons a command can stop, and the state after reset.
INVENTORY.md, State, lists every field with the rule that names it and its reset value.
-/

namespace Sys2Proof.Machine

/-- A sparse table: (key, value) pairs in one canonical form, keys strictly rising and no entry equal to what an unlisted
key reads as (Ops.lean: SMap.get, SMap.set, SMap.wf). -/
abbrev SMap (α : Type) : Type := List (Nat × α)

/-! ### Host port, pages and errors (15_host.md, 16_integrity.md) -/

/-- What the last command answered on the interface it came from. -/
inductive Resp where
  /-- Nothing was read. -/
  | none
  /-- A read completed with this data. -/
  | data (v : Nat)
  /-- A read completed poisoned, with this data (R409). -/
  | poisoned (v : Nat)
  /-- Unsupported Request. -/
  | ur
  /-- A bus error: the Bureau's read met a parity error (R424). -/
  | busError
  /-- Request Retry Status. -/
  | retry
  /-- A sequence of words (SMBus, JTAG). -/
  | words (ws : List Nat)
  deriving DecidableEq, Repr

/-- One entry of an error log (R448, Table 16.9). -/
structure LogEntry where
  time : Nat
  info : Word
  src  : Word
  deriving DecidableEq, Repr

/-- A report on the fault sideband (R426). `arg` names the source and the partition key of a lost flit (R428), 512 · key + source; for a link that is
DOWN it is the port, with 8 for the memory mesh; it is 0 for every other report. -/
structure FaultReport where
  page : Page
  code : Nat
  time : Nat
  arg  : Nat
  deriving DecidableEq, Repr

/-! ### Device time, clocks and timers (02_time.md) -/

/-- The three states of device time (02_time.md, States of device time). -/
inductive TState where
  | held | armed | running
  deriving DecidableEq, Repr

/-- The Timekeeper's counter and what a start in progress holds (R36 to R40, Table 2.2). -/
structure TimeBase where
  /-- HELD, ARMED or RUNNING. -/
  state    : TState
  /-- The count, in fu; zero while HELD or ARMED. -/
  count    : Nat
  /-- An accepted START that takes effect at the next CLK_TB edge, with TIME.SET as it was accepted (R36, R38). -/
  startAt  : Option Nat
  /-- SYSREF edges still to let pass (R37). -/
  skipLeft : Nat
  /-- The count to load eight cycles after the captured start edge (Table 2.2, steps 3 and 4). -/
  loadAt   : Option Nat
  /-- T_0: the value of TIME.SET with which device time last started (R39); from an accepted ARM_SYSREF on, the value taken for the start edge to
  come (log entry 18). -/
  t0       : Nat
  /-- Has device time stopped under SOFT_RESET since D_TIME powered up (R40)? -/
  stopped  : Bool
  /-- CLK_TB edges since the last CLK_REG edge, 0 to 7 (Table 2.1: CLK_REG is CLK_TB divided by 8). -/
  phase    : Nat
  deriving DecidableEq, Repr

/-- An entry of a capture queue (R50, R51, Table 2.4): captured time, source code, and the CLK_TB edge at which it entered, by the count of device
time. -/
structure Capture where
  time : Nat
  code : Nat
  edge : Nat
  deriving DecidableEq, Repr

/-- What a timer holds beside its registers (R46 to R51): its capture queue, oldest first; its tick prescaler, in CLK_REG cycles; whether a tick has
fallen on the present CLK_TB edge and is not yet processed; and, when the tick processed on this edge was a reload, the zero and match flags as they
stood before it (R48). -/
structure TimerSt where
  queue  : List Capture
  pre    : Nat
  due    : Bool
  reload : Option (Bool × Bool)
  deriving DecidableEq, Repr

/-- A timer after reset. -/
def TimerSt.reset : TimerSt := ⟨[], 0, false, none⟩

/-- A TRIG_IN edge: its pin, its captured time, whether it was falling, and the log interval since the previous one. -/
structure TrigEdge where
  pin      : Nat
  time     : Nat
  fall     : Bool
  interval : Nat
  deriving DecidableEq, Repr
/-! ### Intake channels (03_intake.md, 04_encoders.md) -/

/-- The link registers in force (R95): those of the last link initialisation. -/
structure LinkRegs where
  cfg0 : Word
  cfg1 : Word
  rate : Nat
  id   : Word
  lanes : Word
  num  : Nat
  den  : Nat
  rbd  : Nat
  deriving DecidableEq, Repr

/-- A whole record of a record FIFO: the words not yet read, the end mark of its trailer, and the first and last time it holds. -/
structure FifoRec where
  words : List Nat
  mark  : Nat
  tLo   : Nat
  tHi   : Nat
  deriving DecidableEq, Repr

/-- A sample record being written (R75): its first time, its values in arrival order, the values it takes, and its flags. -/
structure OpenRec where
  t0   : Nat
  tHi  : Nat
  seq  : Nat
  vals : List Nat
  size : Nat
  m    : Nat
  err  : Bool
  afterGap : Bool
  deriving DecidableEq, Repr

/-- The sample FIFO of a channel (R75 to R82). -/
structure Sfifo where
  recs  : List FifoRec
  cur   : Option OpenRec
  /-- The next record's SEQ. -/
  seq   : Nat
  /-- Samples per converter of a dropped record still to discard (R76). -/
  drop  : Nat
  /-- SINGLE mode has been armed (R75). -/
  armed : Bool
  /-- The reader has begun the first record (R79). -/
  mid   : Bool
  /-- The reader is at a boundary after a false trailer (R81). -/
  afterFalse : Bool
  /-- The level cause is armed (R78). -/
  lvlArmed : Bool
  /-- Word address of the next word read. -/
  addr  : Nat
  deriving DecidableEq, Repr

/-- A break of the stamped stream (03_intake.md, When the input stops): its cause and, once declared, its start time. -/
structure Gap where
  cause : Nat
  start : Option Nat
  deriving DecidableEq, Repr

/-- An encoder event or a gap marker formed and not yet released (R103). Unit 8 is the channel's markers; `itv` is the interval
field of a marker. -/
structure Formed where
  time : Nat
  src  : Nat
  unit : Nat
  slot : Nat
  pay  : Nat
  itv  : Option Nat
  deriving DecidableEq, Repr

/-- One encoder unit: the settings taken at the enable (R120) and its state (R108 to R115). -/
structure EncUnit where
  cfg  : Word
  proj : Word
  p0   : Word
  p1   : Word
  p2   : Word
  /-- The last sample of its converter and the one before it, newest first, since seeding. -/
  prev : List (Int × Nat)
  up   : Nat
  dn   : Nat
  r    : Int
  dl   : Nat
  idle : Nat
  peak : Option Nat
  trough : Option Nat
  cnt  : Nat
  /-- The budget window counted at present and the events it has released (R106). -/
  win  : Nat
  used : Nat
  deriving DecidableEq, Repr

/-- One biquad section with its coefficients at the enable (R110). -/
structure Section where
  b0 : Int
  b1 : Int
  b2 : Int
  a1 : Int
  a2 : Int
  w1 : Int
  w2 : Int
  y1 : Int
  y2 : Int
  deriving DecidableEq, Repr

/-- One band with its settings at the enable (R110). Its accumulator stands in B_ACC. -/
structure Band where
  cfg   : Word
  q     : Nat
  noise : Nat
  sum   : Int
  cnt   : Nat
  tp    : Nat
  settle : Nat
  deriving DecidableEq, Repr

/-- A pair window (R87 to R89): this channel's fault bit, whether its status was sent and noticed, the CRC sent, the partner's
status, and the decision. -/
structure PairWin where
  w       : Nat
  fault   : Bool
  sent    : Bool
  seq     : Nat
  noticed : Bool
  crc     : Nat
  partner : Option (Bool × Nat)
  deliver : Option Bool
  deriving DecidableEq, Repr

/-- The transmit link in force (R92, R95). -/
structure TxLink where
  cfg0 : Word
  cfg1 : Word
  num  : Nat
  den  : Nat
  /-- t_s of the alignment, or the time of the first data frame. -/
  base : Nat
  /-- The next transmit sample. -/
  j    : Nat
  /-- It lost its PLL and starts again by itself. -/
  retrain : Bool
  deriving DecidableEq, Repr

/-- An intake channel. -/
structure Chan where
  link    : LinkRegs
  /-- The parameter check of the last link enable failed (R63). -/
  bad     : Bool
  pllLost : Bool
  ilasOk  : Bool
  /-- t_s or c of R72: the anchor without DL_OFFSET. -/
  base    : Nat
  /-- The index of the next sample. -/
  k       : Nat
  tLast   : Option Nat
  /-- T_gap as the running timer counts it (R83). -/
  tGap    : Nat
  gap     : Option Gap
  /-- The next sample is the first after the enable or a gap, so every unit re-seeds (R115). -/
  seed    : Bool
  pulses  : Nat
  fifo    : Sfifo
  /-- The last sample of converter 0 for the calibration detector. -/
  calPrev : Option (Int × Nat)
  units   : List EncUnit
  bands   : List Band
  secs    : List Section
  mark    : Word
  projs   : List Word
  formed  : List Formed
  /-- R102: the time of the last released event of each source ID. -/
  lastRel : SMap (Option Nat)
  wins    : List PairWin
  /-- When the receive link last left DATA, while it has not come back, and the outages that are over: link down, or a gap (R87). -/
  downAt  : Option Nat
  outs    : List (Nat × Nat)
  /-- The last decided pair window was the secondary's. -/
  bySec   : Bool
  tx      : TxLink
  deriving DecidableEq, Repr

/-- A channel after reset. -/
def Chan.reset : Chan where
  link := ⟨0x84020, 0, 0, 0, 0xE4, 0, 1, 0⟩
  bad := false
  pllLost := false
  ilasOk := false
  base := 0
  k := 0
  tLast := none
  tGap := 0
  gap := none
  seed := true
  pulses := 0
  fifo := ⟨[], none, 0, 0, false, false, false, true, 0⟩
  calPrev := none
  units := []
  bands := []
  secs := []
  mark := 0
  projs := []
  formed := []
  lastRel := []
  wins := []
  downAt := none
  outs := []
  bySec := false
  tx := ⟨0x84020, 0, 0, 1, 0, 0, false⟩


/-! ### Event mesh and memory mesh (05_fabric.md) -/

/-- A flit that stands at an input port of a router (ports 0 local, 1 north, 2 east, 3 south, 4 west). `esc` tells that it travels
on VC5 or RESC (R135, R136), `xy` that it was routed XY at its injection (R129). -/
structure Hop where
  pos  : Nat
  port : Nat
  esc  : Bool
  xy   : Bool
  flit : AnyFlit
  /-- It has passed the checks of its input and taken a buffer (R138, R140). -/
  taken : Bool
  /-- A copy of a tree flit, and a reduction on its way up: the output it waits for (R146, R148). -/
  out  : Option Nat
  /-- When it came to this input, and since when it has stood at the head of its VC (R135, R142). -/
  came : Nat
  head : Nat
  deriving DecidableEq, Repr

/-- What a link of a mesh holds. Of the input port it ends at: the consecutive retries of the flit in transfer and that flit (R139), the cycle in which an
endpoint's flit last came in by it, the token buckets of THROTTLED
partitions that inject there, by key, each as the depth it lacks, in 1/256 flit, at a CLK_FAB cycle (R142), and, at local ports, since when FWD.LIFE counts
(R150). Of the output port it starts from (R142): tok[k] at a CLK_FAB cycle, by key, 64 for the reserve; the cycle in which it last sent a flit; the
class with which the rotating order begins; and the cycles of its last three VC4 flits. -/
structure Link where
  retries : Nat
  bucket  : SMap (Nat × Nat)
  fwdAt   : Nat
  tok     : SMap (Nat × Nat)
  sent    : Option Nat
  rot     : Nat
  vc4     : List Nat
  failing : Option AnyFlit
  got     : Option Nat
  deriving DecidableEq, Repr

/-- A link after reset. -/
def Link.reset : Link := ⟨0, [], 0, [], none, 0, [], none, none⟩

/-- A flit that has reached its destination endpoint's ejection port, and whether it came on VC5. -/
structure Arrival where
  dest : Nat
  esc  : Bool
  flit : Flit
  deriving DecidableEq, Repr

/-- An entry of a reorder buffer (R131, R132): the flit and when it was stored. -/
structure RobEntry where
  flit   : Flit
  esc    : Bool
  stored : Nat
  deriving DecidableEq, Repr

/-- A reduction partial of a router (R148). The value is a 74-bit code. -/
structure RedPartial where
  key   : Nat
  tag   : Nat
  inst  : Nat
  op    : Nat
  v     : Nat
  count : Nat
  exp   : Nat
  err   : Bool
  since : Nat
  deriving DecidableEq, Repr

/-- An acceptance notice on the acceptance sideband (R195): the source it goes to, the destination or tree it names, the key, the
class and the sequence number. -/
structure Notice where
  src  : Nat
  dest : Nat
  key  : Nat
  cls  : Nat
  seq  : Nat
  deriving DecidableEq, Repr
/-! ### Drawers, steps and the synapse expander (06_neurons.md to 09_learning.md) -/

/-- An event at the expander. `remote`: it came over the mesh. `g` and `pass` are those of the step whose barrier it belongs to (R188), 0 for
every other event. -/
structure Evt where
  time : Nat
  axon : Nat
  src  : Nat
  pay  : Nat
  itv  : Nat
  type : Nat
  remote : Bool
  g    : Nat
  pass : Nat
  deriving DecidableEq, Repr

/-- A delivery on its way to a Drawer (R218). `ev` is the time of its event. -/
structure Dlv where
  neuron : Nat
  time   : Nat
  c0     : Int
  ev     : Nat
  remote : Bool
  g      : Nat
  pass   : Nat
  deriving DecidableEq, Repr

/-- An entry of the long-delay queue (Table 7.1). -/
structure Ldq where
  te     : Nat
  q      : Int
  neuron : Nat
  late   : Bool
  deriving DecidableEq, Repr

/-- The step in progress (R188): its end, its pass, whether the barrier of the pass is being worked on, and whether a delivery of that
barrier has landed at or before the end. -/
structure StepSt where
  g       : Nat
  pass    : Nat
  barrier : Bool
  again   : Bool
  deriving DecidableEq, Repr

/-- A processed reward (R250). -/
structure Reward where
  time  : Nat
  value : Int
  deriving DecidableEq, Repr

/-- A relocation of a row (R234, R253): its axon, t_i, the place and length of the new row once the engine has copied it, and whether the
Hutch has reported the copy complete. -/
structure Reloc where
  axon  : Nat
  ti    : Nat
  copy  : Option (Nat × Nat)
  grown : Bool
  done  : Bool
  deriving DecidableEq, Repr

/-- A walk that waits for lines (R230): its event, whether it left the plastic hold, the structure it waits for (0 directory, 1 row, 2 codebooks,
3 learning rules, 4 learning tables), the lines it has requested, the lines that came back UNCORRECTED (R233), and the lines of the structure that it
has not requested yet. -/
structure Wait where
  ev      : Evt
  plastic : Bool
  stage   : Nat
  lines   : List Nat
  bad     : List Nat
  more    : List Nat
  deriving DecidableEq, Repr

/-- What the Drawers' scheduler and the expander of a Cabinet hold beside their registers and stores. -/
structure Xp where
  step    : Option StepSt
  /-- Events of the Cabinet's own that the expander has not taken: barrier events, EVINJ events, graded emissions. -/
  inq     : List Evt
  /-- The plastic hold (R222), with the rewards that wait under R200. -/
  hold    : List Evt
  /-- The T_c of the consolidation markers that wait to be processed (R254). -/
  marker  : List Nat
  waits   : List Wait
  dlv     : List Dlv
  /-- The first delivery found the spill area full (R187). -/
  held    : Bool
  ldq     : List Ldq
  spill   : List Ldq
  history : List Reward
  relocs  : List Reloc
  /-- The learning counters (Table 9.5). -/
  stats   : Vector Nat 11
  /-- The switch time of the armed epoch switch (R228). -/
  epochAt : Nat
  /-- The lines in the row cache, most recently used first, and the pinned ones (R230, R231). -/
  cache   : List Nat
  pinned  : List Nat
  /-- The switch time of the last switch made (R228). -/
  epochPast : Nat
  deriving DecidableEq, Repr

/-- The expander after reset. -/
def Xp.reset : Xp := ⟨none, [], [], [], [], [], false, [], [], [], [], Vector.replicate 11 0, 0, [], [], 0⟩


/-! ### Delay rings, ordering and the safe horizon (07_causality.md) -/

/-- A flit a source has released and that its destination has not yet accepted (R194, R195): `left` counts the notices still to
come, `ord` its place in the source's order of release. -/
structure Sent where
  dest : Nat
  cls  : Nat
  seq  : Nat
  left : Nat
  ord  : Nat
  deriving DecidableEq, Repr

/-- A horizon contribution (R194): the round, the horizon sampled, the sample time, and the release order it waits for. -/
structure Contrib where
  round : Nat
  h     : Nat
  time  : Nat
  ord   : Nat
  deriving DecidableEq, Repr

/-- What one source of a partition holds of the horizon rounds (R191, R194, R206). A Cabinet's S and H, ROUND, LOOKAHEAD and NSRC
stand in its HZN page; `round`, `look` and `nsrc` are those of the other sources. `m` is the minimum of the last complete round; `s` is the safe time,
but for a Cabinet its own contribution to that round (H_f of R439). -/
structure Source where
  /-- Does it contribute (HZN_CTRL.EN for a Cabinet)? -/
  active   : Bool
  s        : Nat
  m        : Nat
  round    : Nat
  look     : Nat
  nsrc     : Nat
  /-- The next round it samples. -/
  next     : Nat
  released : Nat
  sent     : List Sent
  waiting  : List Contrib
  flying   : List Contrib
  /-- Consecutive INCOMPLETE rounds it has seen (R427). -/
  miss     : Nat
  deriving DecidableEq, Repr

/-- A source after reset (Table 7.7: ROUND 3,072 and LOOKAHEAD 32,768). -/
def Source.reset : Source := ⟨false, 0, 0, 0xC00, 0x8000, 0, 0, 0, [], [], [], 0⟩
/-! ### Trestles (10_trestles.md) -/

/-- A descriptor in a Trestle's window (R271): its 256 bits, its state (0 waiting, 1 running, 2 finished), its completion status, whether it
was refused, and the reduction instances whose results it still awaits. -/
structure TDesc where
  raw    : Nat
  state  : Nat
  status : Nat
  left   : List Nat
  deriving DecidableEq, Repr

/-! ### Control cores, queues and scratchpad (11_cabinet_control.md) -/

/-- A queue context (Table 11.4). `crossed`: its LEVEL crossing is pending (LEVEL_Q). -/
structure QCtx where
  base  : Nat
  loc   : Nat
  lsz   : Nat
  head  : Nat
  tail  : Nat
  owner : Nat
  thr   : Nat
  bind  : Nat
  mcast : Bool
  ie    : Bool
  v     : Bool
  blkS  : Bool
  blkR  : Bool
  armed : Bool
  crossed : Bool
  deriving DecidableEq, Repr

/-- An invalid context. -/
def QCtx.reset : QCtx := ⟨0, 0, 0, 0, 0, 0, 0, 0, false, false, false, false, false, false, false⟩

/-- A send of one unit of a Cabinet (R298, R300): unit, queue, the 256-bit message with its header, and its state: 0 to be offered, 1 awaiting
its answer, 2 refused FULL and waiting to retry (since `refusedAt`; first refused at `blocked`). `dest` and `seq` name the pair position of a remote QHEAD; `since` is the time of the first offer,
`limit` QSEND.T's limit in fu; `members` are the multicast members still to be offered, and `worst` the
largest refusal code met, with 256 times the group. -/
structure Send where
  unit  : Nat
  qid   : Nat
  msg   : Nat
  state : Nat
  dest  : Nat
  seq   : Nat
  since : Nat
  refusedAt : Nat
  blocked : Option Nat
  limit : Option Nat
  hung  : Bool
  mcast : Bool
  members : List Nat
  worst : Nat
  deriving DecidableEq, Repr

/-- The queue manager of a Cabinet: contexts, multicast members by 64 · group + entry, sends, read snapshots, and the counts of R442 by
256 · unit + Cabinet. -/
structure Qm where
  ctx    : SMap QCtx
  mc     : SMap Word
  sends  : List Send
  ctxSnap  : List Word
  headSnap : List Word
  sent   : SMap Nat
  taken  : SMap Nat
  /-- The accept counts up to which a replay completes sends without offering them (R442), by 256 · unit + Cabinet. -/
  limits : SMap Nat
  deriving DecidableEq, Repr

/-- What a core waits for (R305, R306): QRECV on a queue, HZWAIT for a time. The message of a QSEND (kind 1),
QSEND.T (2) or QMCAST (3) stands among the sends; `rd` takes its status. -/
inductive CoreWait where
  | qrecv (q rd buf : Nat)
  | hzwait (t : Nat)
  | send (rd : Nat) (kind : Nat)
  | evinj (rd : Nat) (ev : Evt)
  deriving DecidableEq, Repr

/-- A control core (R288 to R292): x0 to x31, pc, the CSRs that hold a value, the latches of DTIMEH and SAFEH, whether it is inside a trap, and
what it waits for. -/
structure Core where
  x     : Vector Word 32
  pc    : Word
  csr   : SMap Word
  dtimeh : Word
  safeh  : Word
  inTrap : Bool
  wait  : Option CoreWait
  /-- When the present wait began, and whether a WAIT_START record was formed for it (R490). -/
  waitSince : Nat
  traced : Bool
  deriving DecidableEq, Repr

/-- A core after reset (R292). Registers the spec gives no reset value hold zero (log entry 6). -/
def Core.reset : Core := ⟨Vector.replicate 32 0, 0x370000, [], 0, 0, false, none, 0, false⟩

/-- What a Cabinet at a position holds beside its registers and memories. -/
structure Cab where
  x    : Xp
  trs0 : List TDesc
  trs1 : List TDesc
  /-- Commands in the Drawers' command ports: the Drawer and its 256-bit descriptor. -/
  drwIn : List (Nat × Nat)
  /-- The descriptor in each Trestle's descriptor port: the Trestle and its 256 bits. -/
  trsIn : List (Nat × Nat)
  /-- The writes of CORE_FLOOR that pending EMIT_EVENTS hold (R270). -/
  floorHeld : List Nat
  /-- The command in the expander's command port. -/
  xIn  : Option Nat
  q    : Qm
  core : Core
  /-- Frozen for a migration or fenced in a recovery (R361, R438), and the ingress log. -/
  frozen  : Bool
  fenced  : Bool
  ingress : List Flit
  /-- A FILTER in force (R441): the Cabinet replayed, M_f, and the payloads of the multiset. -/
  filters : List (Nat × Nat × List Nat)
  /-- The Cabinet's safe time stands fixed during its replay (R440). -/
  replay  : Bool
  /-- The multiples of 2^31 fu at which each Drawer's rest sweep last made a visit (R173): Drawer and multiple. -/
  swept   : List (Nat × Nat)
  deriving DecidableEq, Repr

/-- A Cabinet after reset. -/
def Cab.reset : Cab where
  x := Xp.reset
  trs0 := []
  trs1 := []
  drwIn := []
  trsIn := []
  floorHeld := []
  xIn := none
  q := ⟨[], [], [], [0, 0, 0], [0, 0, 0, 0, 0, 0, 0, 0], [], [], []⟩
  core := Core.reset
  frozen := false
  fenced := false
  ingress := []
  filters := []
  replay := false
  swept := []

/-- A checkpoint of a Cabinet (R435, R436): its time and number, the HZN and XPND registers (by offset, XPND above 4,096), the bytes of its stores
and RAMs by offset (Trestle RAMs above 2^22), what it holds beside them, the journal entry number after its mark, when its write began, whether that is
complete, how long it took in µs, and the events accepted and not yet taken. -/
structure Ckpt where
  t     : Nat
  k     : Nat
  regs  : List (Nat × Word)
  bytes : List (Nat × Byte)
  cab   : Cab
  mark  : Nat
  since : Nat
  valid : Bool
  dur   : Nat
  inbox : List Flit
  deriving DecidableEq, Repr

/-- The journal of a protected Cabinet (R431, R432): 16-byte entries from entry number `base`; its highest level, the times it was full and whether
it blocks at present (R434), and the deferred checkpoints (R437). -/
structure Journal where
  base    : Nat
  entries : List Nat
  hwm     : Nat
  full    : Nat
  blocks  : Bool
  late    : Nat
  deriving DecidableEq, Repr

/-- An empty journal. -/
def Journal.reset : Journal := ⟨0, [], 0, 0, false, 0⟩


/-! ### Decoders (12_decoders.md) -/

/-- An input of a decoder (R314): time, 23-bit source ID, input number, payload and type code, and what it adds to r where a RECON unit takes it: its
weighted, rounded payload (R323). -/
structure DIn where
  time : Nat
  src  : Nat
  inp  : Nat
  pay  : Nat
  type : Nat
  inc  : Int
  deriving DecidableEq, Repr

/-- An entry of the presentation queue (R321 to R326): unit, window, RESULT word, score, payload, evidence time, the source and type of the evidence
input, CAPPED; once it is confirmed its release instant and whether it is late; and what became of its record: 0 nothing yet, 1 its words are
written, 2 bad (R335), 3 the entry is unreadable (R335), 4 released and waiting for room (R333). -/
structure PRes where
  unit   : Nat
  w      : Nat
  value  : Nat
  score  : Nat
  pay    : Nat
  te     : Nat
  src    : Nat
  type   : Nat
  capped : Bool
  conf   : Option (Nat × Bool)
  fate   : Nat
  seq    : Nat
  deriving DecidableEq, Repr

/-- A transmit sample whose content is fixed (R329, R331): its index, ball time and the ball time of the sample before it, and per stream its value
and control bits. -/
structure TxSample where
  j    : Nat
  tau  : Int
  prev : Option Int
  vals : List (Nat × Nat)
  deriving DecidableEq, Repr

/-- What the decoders of a channel hold beside the CHDEC page: the input log; confirmed windows (unit, window), released ones and those whose record
is marked REFORMED; the presentation queue; the next SEQ; replaying Cabinets with t_ck and F_c (R336); the result FIFO; the last pulse of TRIG_OUT
(leading edge, end) and whether it has not ended yet; annotations still to place (R, unit); the delay area; transmit samples fixed and not yet out; VBASE of each unit as the enable
took it (R323); the entries written in the input log (R314) and in the delay area (R329) since the enable; and T_p of a stop with DISCARD: windows that
end at or before it give no result (R353). -/
structure Dec where
  log   : List DIn
  conf  : List (Nat × Nat)
  rel   : List (Nat × Nat)
  reform : List (Nat × Nat)
  pq    : List PRes
  seq   : Nat
  replay : List (Nat × Nat × Nat)
  fifo  : Sfifo
  pulse : Option (Int × Int)
  pin   : Bool
  ann   : List (Nat × Nat)
  delay : List (Nat × List Nat)
  fixed : List TxSample
  vbase : List Int
  logN  : Nat
  dlyN  : Nat
  cut   : Nat
  deriving DecidableEq, Repr

/-- The decoders after reset. -/
def Dec.reset : Dec := ⟨[], [], [], [], [], 0, [], ⟨[], none, 0, 0, false, false, false, true, 0⟩, none, false, [], [], [], [], 0, 0, 0⟩


/-! ### Placement, partitions and guarantees (13_placement.md) -/

/-- Table 13.2: the states of a partition. -/
inductive PartState where
  | free | loaded | running | stopped | faulted
  deriving DecidableEq, Repr

/-- One entry of a logical map (Table 13.1). -/
structure MapEntry where
  phys   : Nat
  parked : Bool
  valid  : Bool
  deriving DecidableEq, Repr

/-- The configuration of a partition (PART_CONFIG, Table 13.9) and what its image and its start set: class, protection, P, the checkpoint
period, the share modes and burst, NLOG, L and ROUND of the image, its start time T_s, and the bytes of the image, as a little-endian number, with its
length. -/
structure PartCfg where
  cls    : Nat
  prot   : Bool
  pres   : Nat
  period : Nat
  emode  : Nat
  mmode  : Nat
  burst  : Nat
  nlog   : Nat
  look   : Nat
  round  : Nat
  start  : Nat
  image  : Nat
  size   : Nat
  /-- T_p of a PART_STOP in progress or done (R353), and whether unreleased results go. -/
  stopAt : Option Nat
  /-- Payloads left in filter multisets at a replay's end (R441). -/
  left   : Nat
  /-- The configuration epoch EP (R351). -/
  ep     : Nat
  /-- EW_k and MW_k as admitted (R355, R356), and the shortfall ratio f_k (R358). -/
  ew     : Nat
  mw     : Nat
  short  : Nat
  /-- G_k,s per stack, in bytes per second (R355). -/
  g      : List Nat
  /-- The regions allotted to it: stack, region, the logical Cabinet it serves (256 none) and its use (Table 14.2's kind). -/
  regions : List (Nat × Nat × Nat × Nat)
  /-- The areas in them (R357): the logical Cabinet or channel each serves, its use, its first byte address and its length. -/
  areas : List (Nat × Nat × Nat × Nat)
  deriving DecidableEq, Repr

/-- A partition nothing has configured. -/
def PartCfg.reset : PartCfg := ⟨0, false, 0, 0, 0, 0, 4, 0, 32768, 3072, 0, 0, 0, none, 0, 0, 0, 0, 256, [], [], []⟩

/-! ### Hutches (14_memory_stacks.md) -/

/-- What a Hutch holds beside its pages: per pseudo-channel the device times of its uncorrectable reads (R379), per region and pseudo-channel the
lines counted in the window (by 32 · region + pc) and the run of hot windows (R381), and a re-layout in progress: region, target slot and function. -/
structure Hutch where
  ueTimes : SMap (List Nat)
  counts  : SMap Nat
  hot     : SMap Nat
  relayout : Option (Nat × Nat × Nat)
  /-- REG_KEY of the region under its new function. -/
  newKey  : Word
  /-- Has the first uncorrectable address been taken into ERR_ADDR? -/
  errHeld : Bool
  /-- R381: the imbalance window that `counts` belongs to, by its number; the windows that have ended and are not judged yet, with their counts, oldest
  first; and the window up to which the runs in `hot` reach. -/
  window  : Nat
  past    : List (Nat × SMap Nat)
  judged  : Nat
  /-- R382: an alarm due for the region in re-layout: its region and pseudo-channel. -/
  alarm   : Option (Nat × Nat)
  deriving DecidableEq, Repr

/-- A Hutch after reset. -/
def Hutch.reset : Hutch := ⟨[], [], [], none, 0, false, 0, [], 0, none⟩


/-! ### Bring-up, self-test and variants (17_bringup.md) -/

/-- The fuse words of Table 17.9: fixed for a part, and changed by no command. Masks are numbers, bit i for item i. -/
structure Fuses where
  /-- 0x4016, 0x4012 or 0x4008. -/
  part     : Nat
  /-- Stack capacity in GiB: 96, 72 or 48. -/
  gib      : Nat
  /-- Silicon revision (DEV_ID.REV). -/
  rev      : Nat
  uid      : Nat
  posEn    : Nat
  chEn     : Nat
  stkEn    : Nat
  keyHash  : List Nat
  revoked  : Nat
  svn      : Nat
  /-- Package delay of the SYSREF pin, then of TRIG_IN[3:0], then of each channel's SYSREF input and TRIG_OUT pin, in fu. -/
  pkgDly   : List Nat
  deriving DecidableEq, Repr

/-- Package delay of the device SYSREF pin (R37). -/
def Fuses.sysrefDly (f : Fuses) : Nat := f.pkgDly.getD 0 0
/-- Package delay of TRIG_IN[n]. -/
def Fuses.trigInDly (f : Fuses) (n : Nat) : Nat := f.pkgDly.getD (1 + n) 0
/-- Package delay of the SYSREF input of channel n. -/
def Fuses.chSysrefDly (f : Fuses) (n : Nat) : Nat := f.pkgDly.getD (5 + n) 0
/-- Package delay of TRIG_OUT[n]. -/
def Fuses.trigOutDly (f : Fuses) (n : Nat) : Nat := f.pkgDly.getD (21 + n) 0

/-- The fuse words of the modelled part after reset: an HV-4016-96 with every resource enabled (DESIGN CHOICE, log entry 2). -/
def Fuses.reset : Fuses :=
  ⟨0x4016, 96, 0, 0, 2 ^ 288 - 1, 0xFFFF, 0xF, [], 0, 0, []⟩

/-! ### Power states and domains (18_power.md) -/

/-- The states of a power domain and their encodings (R400). -/
inductive Pwr where
  | run | idle | sleep | deep | off
  deriving DecidableEq, Repr

/-- One power domain (R476, R477, Table 18.11). -/
structure Dom where
  /-- The state last completed. -/
  cur      : Pwr
  /-- The target of the transition in progress, or the present state. -/
  target   : Pwr
  /-- The latest accepted request. -/
  latest   : Pwr
  /-- The recorded request. -/
  recorded : Option Pwr
  /-- The Bureau made it. -/
  byBureau : Bool
  busy     : Bool
  /-- The domain runs on FIO (R28). -/
  fio      : Bool
  /-- Duration of the last transition, ns. -/
  lastNs   : Nat
  /-- The device time at which the transition in progress was accepted. -/
  since    : Nat
  deriving DecidableEq, Repr

/-- A domain after reset: in RUN on the divided root clocks, as PG_PWR and DOM_STATUS read after reset (Tables 15.5, 18.11). -/
def Dom.reset : Dom := ⟨.run, .run, .run, none, false, false, false, 0, 0⟩

/-- The device-level power state (R480). -/
structure DevPwr where
  cur      : Pwr
  target   : Pwr
  recorded : Option Pwr
  busy     : Bool
  /-- The domains that the last device DEEP took to DEEP. -/
  took     : List Nat
  deriving DecidableEq, Repr

/-! ### Observation and debug (19_observation.md) -/

/-- The counter freeze and the snapshot it may take (R487 to R489, R494, R495). -/
structure Freeze where
  /-- A freeze is armed: T_freeze is set and has not come. -/
  armed   : Bool
  /-- Counters are frozen. -/
  inForce : Bool
  /-- A snapshot captured at T_freeze is being written. -/
  snapping : Bool
  /-- The time at which frozen counters resume, once THAW has been written. -/
  thawAt  : Option Nat
  /-- The cause of the snapshot being written (1 command, 2 HANG), the position and the sender of the HANG. -/
  snapCause : Nat
  snapUnit  : Nat
  deriving DecidableEq, Repr

/-- What the sources of the synchronisation trace hold, per source endpoint (R492): records waiting, and records lost since. -/
structure TraceBuf where
  records : List Nat
  lost    : Nat
  lastKey : Nat
  deriving DecidableEq, Repr

/-- The debug unlock and the TAP (R496 to R498). -/
structure Debug where
  /-- The instruction in force in the TAP. -/
  tapInstr : Nat
  /-- The nonce of the last challenge, while one is outstanding. -/
  nonce    : Option (BitVec 128)
  invalid  : Nat
  unlocked : Bool
  /-- Control cores halted, by position, and the Bureau as 288 (R497), each with the device time of its halt. -/
  halted   : List (Nat × Nat)
  deriving DecidableEq, Repr
/-! ### Bring-up: the flash, the health record and the pins of D_AON (17_bringup.md, 20_package.md) -/

/-- A copy of the health record in the flash (Table 17.7): masks are numbers, bit i for item i; `slices` holds the slice result words; `good` tells that
its CRC matches. -/
structure Health where
  seq        : Nat
  epoch      : Nat
  stamp      : Nat
  fuseDigest : Nat
  fwVer      : Nat
  coreDigest : Nat
  full       : Bool
  posFault   : Nat
  pcRetired  : List Nat
  lanes      : List Nat
  slices     : List Nat
  runtime    : Nat
  good       : Bool
  deriving DecidableEq, Repr

/-- What the pins, D_AON, the flash and the self-test hold. -/
structure Boot where
  /-- RESET_N and PERST_N are high. -/
  resetN   : Bool
  perstN   : Bool
  /-- The port answers configuration requests with Request Retry Status (R388). -/
  crs      : Bool
  /-- ALERT_N is driven low. -/
  alert    : Bool
  /-- ALARM now, since cleared, and TRIP (Table 20.9), and the sixteen junction readings in °C. -/
  alarm    : Bool
  alarmed  : Bool
  trip     : Bool
  temps    : List Int
  /-- The device is OFF: only D_AON is powered. -/
  off      : Bool
  vddAon   : Bool
  aonEpoch : Nat
  aonCount : Nat
  aonLost  : Bool
  /-- DEV_CTRL.LEGACY, and the straps as D_AON holds them (R414, R450). -/
  legacyReq : Bool
  strapLegacy : Bool
  strapSrc : Nat
  strapSvc : Bool
  /-- The two copies of the health record. -/
  rec0     : Option Health
  rec1     : Option Health
  /-- The fault map is marked for clearing (R464). -/
  clearMark : Bool
  /-- A run-time change not yet in the record (R463), and training records not yet written (R454). -/
  recDirty : Bool
  trainDirty : Bool
  /-- Positions that failed self-test or stand in the record's fault map, those fenced at run time, and the two spares of each row
  (05_fabric.md). -/
  posFail  : Nat
  posFence : Nat
  spareSet : Nat
  /-- SLICE_RESULT by 4,096 · code + instance. -/
  slices   : SMap Word
  /-- Blocks of control-core firmware a position has received (R457), its bitmap by position, and the number of blocks. -/
  fwGot    : SMap Nat
  fwBlocks : Nat
  /-- Times a position was found lacking after the last block (R457). -/
  fwTries  : SMap Nat
  /-- Digests of the fuses and the control-core firmware of the last start. -/
  fuseDigest : Nat
  coreDigest : Nat
  /-- Subsystem IDs from the flash (R387). -/
  subsys   : Nat
  /-- The failing block of Table 15.10: FAIL_TYPE, FAIL_INST and FAIL_CODE. -/
  failInfo : Nat
  /-- KA and KM as the Bureau drew them at this boot, as a REG_KEY word (R372). -/
  hashKey  : Word
  deriving DecidableEq, Repr

/-- The spares of a part whose fuses clear no position: columns 16 and 17 of every row (the choice of the columns is the model's, log entry 39). -/
def spareColumns : Nat := (List.range 16).foldl (fun a r => a + 3 * 2 ^ (18 * r + 16)) 0

/-- After reset: RESET_N has not risen, VDD_AON is present, the flash holds no health record. -/
def Boot.reset : Boot where
  resetN := false
  perstN := false
  crs := true
  alert := false
  alarm := false
  alarmed := false
  trip := false
  temps := List.replicate 16 0
  off := false
  vddAon := true
  aonEpoch := 0
  aonCount := 0
  aonLost := false
  legacyReq := false
  strapLegacy := false
  strapSrc := 0
  strapSvc := false
  rec0 := none
  rec1 := none
  clearMark := false
  recDirty := false
  trainDirty := false
  posFail := 0
  posFence := 0
  spareSet := spareColumns
  slices := []
  fwGot := []
  fwBlocks := 0
  fwTries := []
  fuseDigest := 0
  coreDigest := 0
  subsys := 0
  failInfo := 0
  hashKey  := 0

/-! ### MSI-X and configuration space of a function (15_host.md) -/

/-- What a function holds of MSI-X (R403): whether it is enabled and masked, its table by 4 · vector + word, the vectors that are not armed, and those
whose pending bit is set. -/
structure Msix where
  enabled : Bool
  masked  : Bool
  table   : SMap Word
  fired   : List Nat
  pend    : List Nat
  deriving DecidableEq, Repr

/-- After reset every vector is armed, and MSI-X is disabled. -/
def Msix.reset : Msix := ⟨false, false, [], [], []⟩

/-- A message the port has sent: function, vector, address and data. -/
structure MsixMsg where
  fn     : Nat
  vector : Nat
  addr   : Nat
  data   : Word
  deriving DecidableEq, Repr

/-- The severity with which AER reports an error (R410). -/
inductive AerSev where
  | correctable | nonFatal | fatal
  deriving DecidableEq, Repr

/-- One error the port has reported through AER. -/
structure AerReport where
  fn  : Nat
  err : AerErr
  sev : AerSev
  deriving DecidableEq, Repr

/-- What the host programs in configuration space for the port (Table 15.1, R410), the errors that hold in each function's AER status, and the reports
sent, oldest first. -/
structure Pci where
  mps     : Nat
  mrrs    : Nat
  timeout : Nat
  ecrcGen : Bool
  ecrcCheck : Bool
  vfEnable : Bool
  numVfs  : Nat
  ari     : Bool
  fatal   : List AerErr
  status  : List (Nat × AerErr)
  reports : List AerReport
  deriving DecidableEq, Repr

/-- After a reset: 128-byte payloads, 512-byte read requests, the default timeout, ECRC and SR-IOV off, and the severities that PCI Express gives
(PRESUMED, log entry 58). -/
def Pci.reset : Pci := ⟨0, 2, 0, false, false, false, 0, false, [.malformed, .internal], [], []⟩

/-! ### The mailbox (13_placement.md) -/

/-- The statuses of mailbox commands (Table 13.7). -/
inductive MbSt where
  | ok | busy | notOwner | unsupported | badImage | refusedCapacity | refusedBandwidth | timeout | staleEpoch | faulted
  deriving DecidableEq, Repr

/-- A mailbox command (R349): the issuing function, the word written to MB_CMD, the argument registers once it has started, how far it is, and its
outcome. Phases: 0 queued, 1 running, 2 the source is frozen (Table 13.9), 3 the map is switching, 4 FWD runs out, 5 it ends with `status`. -/
structure MbCmd where
  fn     : Nat
  w      : Word
  args   : List Nat
  phase  : Nat
  status : MbSt
  d0     : Nat
  d1     : Nat
  res    : List Nat
  since  : Nat
  /-- The migrated Cabinet, its source and target position (512 its park area), and the round r_e of the switch. -/
  cab    : Nat
  src    : Nat
  dst    : Nat
  re     : Nat
  /-- What the engine brings to a REBALANCE: the rates it has observed (from, to, events per ms), and the pins it chooses per logical Cabinet. -/
  obs    : List (Nat × Nat × Nat)
  pins   : List (Nat × List Nat)
  /-- The moves still to make: logical Cabinet and target; for CONSOLIDATE, the positions still to answer. -/
  todo   : List (Nat × Nat)
  deriving DecidableEq, Repr

/-! ### Recovery (16_integrity.md) -/

/-- A recovery in progress or waiting (R438 to R444): partition, logical Cabinet, its position and the spare (512 not chosen), the detection time, the
last step of Table 16.5 reached (1 waiting, 2 fenced, 4 replay, 5 the map switches, 6 the spare has taken over), M_f and S_f as they stood at the fence,
the round r_e of the switch, the replay's journal entries still to be taken, each with its message, and the journal's entries, freed ones included, at the
fence. -/
structure Recov where
  key   : Nat
  cab   : Nat
  src   : Nat
  dst   : Nat
  td    : Nat
  step  : Nat
  mf    : Nat
  sf    : Nat
  re    : Nat
  left  : List (Nat × Nat)
  mark  : Nat
  deriving DecidableEq, Repr



/-! ### Host rings (15_host.md) -/

/-- A host ring (R404 to R408): its configuration registers, its state (0 IDLE, 1 ACTIVE, 2 ERROR), the status code and index of the failing
entry, both indices, whether a fetch is outstanding, and since when its head entry waits on FULL and whether that was raised. -/
structure Ring where
  cfg    : Word
  baseLo : Word
  baseHi : Word
  shLo   : Word
  shHi   : Word
  target : Word
  st     : Nat
  code   : Nat
  fail   : Nat
  head   : Nat
  tail   : Nat
  since  : Option Nat
  stalled : Bool
  reading : Bool
  deriving DecidableEq, Repr

/-- A ring after reset: RING_CFG.LSZ is 2 (Table 15.17). -/
def Ring.reset : Ring := ⟨0x10, 0, 0, 0, 0, 0, 0, 0, 0, 0, 0, none, false, false⟩

/-! ### Outcomes and the state -/

/-- Why the block stops with a fault. No rule of the spec stops the block: every fault the spec names is a report or a state
it goes on in, so nothing raises a fault. -/
inductive Fault where
  /-- Raised by no command. -/
  | never
  deriving DecidableEq, Repr

/-- Why a command is refused by the model. -/
inductive Refusal where
  /-- Raised by a command whose meaning the model does not hold. Safe: nothing is claimed of it. -/
  | notModelled (mnemonic : String)
  deriving DecidableEq, Repr

/-- The state of the block. -/
structure State where
  /-- The commands that wait, first in, first out. -/
  pending : List Instr
  /-- What the last command answered. -/
  resp    : Resp
  /-- How many free values have been drawn (the model's own field, log entry 4). -/
  draws   : Nat
  fuses   : Fuses
  /-- The register file: every register of every page, by page key and offset (R11). -/
  regs    : SMap Word
  /-- The byte memories (stacks, scratchpads, and the RAMs of the queue managers and Trestles), in one address space. -/
  mem     : SMap Byte
  /-- The error log of each view (R448). -/
  logs    : SMap (List LogEntry)
  /-- Reports waiting on the fault sideband (R426). -/
  faultReports : List FaultReport
  /-- The hidden lock key of each page (R399), by page key. -/
  locks   : SMap Nat
  /-- The latch of each wide register per requester (R53, R54). -/
  latches : SMap Nat
  /-- The staged low half of each writable wide register (R55), by register key. -/
  staging : SMap (Option Word)
  tb      : TimeBase
  /-- What each timer holds beside its registers (R46 to R51), by the key of its TMR_CTRL. -/
  timers  : SMap TimerSt
  /-- TRIG_IN edges that wait for their qualification width (R43). -/
  trigQual : List TrigEdge
  /-- Captured edges whose external trigger event is not yet injected (R45). -/
  trigEvents : List TrigEdge
  /-- Which domains' local copies of device time are synchronised (R33, R35), by domain number. -/
  synced  : SMap Bool
  freeze  : Freeze
  traces  : SMap TraceBuf
  debugger   : Debug
  doms    : SMap Dom
  devPwr  : DevPwr
  /-- Functions in D3hot (R389). -/
  d3hot   : SMap Bool
  partState : SMap PartState
  /-- The two copies of each partition's logical map (R345), by 256 · key + logical Cabinet. -/
  maps    : SMap MapEntry
  maps2   : SMap MapEntry
  /-- Which copy each holder reads, and the round instance from which it reads the other (R345), by 512 · key + endpoint. -/
  mapCur  : SMap Bool
  mapRe   : SMap (Option Nat)
  /-- Flits at router inputs. -/
  net     : List Hop
  /-- Flits at ejection ports, and flits their endpoints have taken and not yet acted on. -/
  arrivals : List Arrival
  inbox   : List Arrival
  /-- RED_UP flits at routers that have not combined them yet, by position. -/
  redIn   : List Hop
  robs    : SMap (List RobEntry)
  /-- Expected sequence numbers (R131), by the pair's index. -/
  expect  : SMap Nat
  /-- Sequence counters of sources (R130, R147), by the pair's or the tree's index. -/
  seqs    : SMap Nat
  /-- The order-pressure mask, one bit per endpoint ID (R129). -/
  pressure : List Nat
  partials : SMap (List RedPartial)
  /-- The links of both meshes, by position, port, plane and mesh. -/
  links : SMap Link
  /-- The frame last replayed and its consecutive replays, by die-to-die group and direction (R124), and whether the group is in its one retraining. -/
  d2dReplays : SMap (Nat × Nat)
  d2dRetried : SMap Bool
  /-- Leaf counts of the trees (R147), by 64 · key + tree, 4,096 + key for broadcast. -/
  leaves  : SMap Nat
  notices : List Notice
  /-- The sources of each partition, by 512 · key + endpoint. -/
  sources : SMap Source
  chans   : SMap Chan
  decs    : SMap Dec
  /-- Host memory as the device has written it, by host address. -/
  hostMem : SMap Byte
  /-- Host rings, by 1,024 · function + local ring. -/
  rings   : SMap Ring
  /-- What each position's Cabinet holds. -/
  cabs    : SMap Cab
  hutches : SMap Hutch
  /-- The configuration of each partition. -/
  parts   : SMap PartCfg
  /-- Journals and checkpoints, by 256 · key + logical Cabinet. -/
  journals : SMap Journal
  ckpts   : SMap (List Ckpt)
  /-- The state of each parked Cabinet in its park area (R363), by the same key. -/
  parkAreas : SMap (Option Ckpt)
  boot    : Boot
  /-- MSI-X of each function, the messages the port has sent, oldest first, and the route entry of each page, by page key (R402). -/
  msix    : SMap Msix
  sentMsi : List MsixMsg
  routes  : SMap Word
  /-- The configuration of the port that the host programs, and its AER state (R386, R410). -/
  pci     : Pci
  /-- Mailbox commands queued and running, oldest first (R349). -/
  mbox    : List MbCmd
  recov   : List Recov
  deriving DecidableEq, Repr

/-- The state right after reset. -/
def State.reset : State where
  pending := []
  resp := .none
  draws := 0
  fuses := Fuses.reset
  regs := []
  mem := []
  logs := []
  faultReports := []
  locks := []
  latches := []
  staging := []
  tb := ⟨.held, 0, none, 0, none, 0, false, 0⟩
  timers := []
  trigQual := []
  trigEvents := []
  synced := []
  freeze := ⟨false, false, false, none, 0, 0⟩
  traces := []
  debugger := ⟨0xFF, none, 0, false, []⟩
  doms := []
  devPwr := ⟨.run, .run, none, false, []⟩
  d3hot := []
  partState := []
  maps := []
  maps2 := []
  mapCur := []
  mapRe := []
  net := []
  arrivals := []
  inbox := []
  redIn := []
  robs := []
  expect := []
  seqs := []
  pressure := []
  partials := []
  links := []
  d2dReplays := []
  d2dRetried := []
  leaves := []
  notices := []
  sources := []
  chans := []
  decs := []
  hostMem := []
  rings := []
  cabs := []
  hutches := []
  parts := []
  journals := []
  ckpts := []
  parkAreas := []
  boot := Boot.reset
  msix := []
  sentMsi := []
  routes := []
  pci := Pci.reset
  mbox := []
  recov := []

end Sys2Proof.Machine
end

