-- ==== Sys2Proof/Machine/RegTable.lean ====
section
/-!
DEFINITION. RegTable.lean: the register maps of the register pages, row by row from the register tables of the chapters:
offset, number of repetitions and their stride, reset value, and the fields a write can reach. A bit that no writable field
holds is read-only or reserved, and a write ignores it (R8). Where a table says that a write of any value clears a counter,
the row says so.
-/

namespace Sys2Proof

/-- Table 15.6: the block type code. -/
def Block.code : Block → Nat
  | .dev => 0x01 | .bur => 0x02 | .pwr => 0x03 | .time0 => 0x04 | .time1 => 0x04 | .plc => 0x05 | .intg => 0x06
  | .obs => 0x07 | .bist => 0x08 | .hq => 0x09 | .chin => 0x10 | .chenc => 0x11 | .chdec => 0x12 | .chtmr => 0x13
  | .hut0 => 0x20 | .hut1 => 0x20 | .d2d => 0x21 | .cctl => 0x30 | .qmgr => 0x31 | .spad => 0x32 | .drw => 0x33
  | .trs => 0x34 | .xpnd => 0x35 | .hzn => 0x36 | .rtr => 0x37 | .cobs => 0x38

/-- PG_ID [11:8]: the page within its block. -/
def Block.pageNo : Block → Nat
  | .time1 => 1 | .hut1 => 1 | _ => 0

/-- PG_CAPS of each block: the capability fields of the block-specific header tables. -/
def Block.caps : Block → Nat
  | .time0 => 16 + 4 * 2 ^ 5
  | .chtmr => 2
  | .chin => 4 + 4 * 2 ^ 3 + 2 ^ 6 + 2 ^ 7
  | .chenc => 8 + 64 * 2 ^ 4 + 256 * 2 ^ 11
  | .chdec => 4 + 256 * 2 ^ 3
  | .drw => 8192 + 16 * 2 ^ 14 + 32 * 2 ^ 19 + 8 * 2 ^ 25
  | .hzn => 4
  | .xpnd => 8 + 7168 * 2 ^ 4 + 16 * 2 ^ 17
  | .trs => 16 + 16 * 2 ^ 5 + 16 * 2 ^ 10
  | .cctl => 1
  | .qmgr => 4096 + 256 * 2 ^ 13
  | .spad => 32 + 128 * 2 ^ 6
  | .plc => 288 + 64 * 2 ^ 9
  | .hut0 => 24 + 32 * 2 ^ 5 + 8 * 2 ^ 11
  | .bist => 6
  | .pwr => 312
  | .obs => 16
  | .cobs => 9
  | .hq => 16
  | .intg => 16
  | .dev | .bur | .time1 | .hut1 | .d2d | .rtr => 0

/-- The cause bits a block defines in PG_IRQ_RAW; the rest are reserved. -/
def Block.causes : Block → Nat
  | .time0 => 0x7FFF
  | .time1 => 0xFFFFFFFF
  | .chtmr => 0x3000F
  | .chin => 0x7FFFF
  | .chenc => 0x1FFFF
  | .chdec => 0x1FFF
  | .rtr => 0xFFF
  | .d2d => 0xF
  | .drw => 0xFF
  | .hzn => 0x3F
  | .xpnd => 0x1FF
  | .trs => 0x3FF
  | .cctl => 0x7
  | .qmgr => 0x3F
  | .spad => 0xF
  | .plc => 0x1F
  | .bur => 0x7
  | .hut0 => 0xFF
  | .hut1 => 0
  | .dev => 0x3
  | .hq => 0xF
  | .intg => 0x1FF
  | .bist => 0x1F
  | .pwr => 0xF
  | .obs => 0x3F
  | .cobs => 0x3

end Sys2Proof

namespace Sys2Proof.Machine

/-- Access codes of 00_scope.md, Notation, for the fields a write can reach. -/
inductive Acc where
  | rw | wo | w1c
  deriving DecidableEq, Repr

/-- A writable field: bits [hi:lo], its access code, and the ranges of encodings that are not reserved (none listed:
every encoding is legal, R10). -/
structure Fld where
  hi  : Nat
  lo  : Nat
  acc : Acc
  ok  : List (Nat × Nat)
  deriving DecidableEq, Repr

/-- One row of a register map. -/
structure RegRow where
  off    : Nat
  n      : Nat
  stride : Nat
  reset  : Nat
  clears : Bool
  fields : List Fld
  deriving DecidableEq, Repr

/-- A read-write field. -/
def rw (hi lo : Nat) : Fld := ⟨hi, lo, .rw, []⟩
/-- A read-write field with reserved encodings: the listed ranges are the legal ones. -/
def rwIn (hi lo : Nat) (ok : List (Nat × Nat)) : Fld := ⟨hi, lo, .rw, ok⟩
/-- A write-only field: it reads as zero, and its effect is a command's. -/
def wo (hi lo : Nat) : Fld := ⟨hi, lo, .wo, []⟩
/-- A write-only field with reserved encodings. -/
def woIn (hi lo : Nat) (ok : List (Nat × Nat)) : Fld := ⟨hi, lo, .wo, ok⟩
/-- A field whose bits clear when written one. -/
def w1c (hi lo : Nat) : Fld := ⟨hi, lo, .w1c, []⟩

/-- A register with writable fields. -/
def reg (off reset : Nat) (fields : List Fld) : RegRow := ⟨off, 1, 4, reset, false, fields⟩
/-- `n` registers at a stride. -/
def regs (off n stride reset : Nat) (fields : List Fld) : RegRow := ⟨off, n, stride, reset, false, fields⟩
/-- A read-only register. -/
def ro (off reset : Nat) : RegRow := ⟨off, 1, 4, reset, false, []⟩
/-- `n` read-only registers at a stride. -/
def ros (off n stride : Nat) : RegRow := ⟨off, n, stride, 0, false, []⟩
/-- A counter that a write of any value clears. -/
def ctr (off : Nat) : RegRow := ⟨off, 1, 4, 0, true, []⟩
/-- `n` such counters at a stride. -/
def ctrs (off n stride : Nat) : RegRow := ⟨off, n, stride, 0, true, []⟩

/-- Table 15.5: the common page header. PG_IRQ_RAW, PG_IRQ_SET and PG_IRQ_EN reach the block's defined causes. -/
def headerRows (b : Block) : List RegRow :=
  [ro 0x000 0, ro 0x004 b.caps, reg 0x008 0 [rw 0 0, wo 1 1, rw 2 2], ro 0x00C 0,
   reg 0x010 0 [w1c 31 0], reg 0x014 0 [rw 31 0], ro 0x018 0, reg 0x01C 0 [wo 31 0],
   reg 0x020 0 [w1c 31 31], ctr 0x024, reg 0x028 0 [rw 5 0], reg 0x02C 0 [wo 31 0],
   reg 0x030 0 [rwIn 2 0 [(0, 4)]]]

/-- Tables 2.9 and 2.10: one row for each register of a general or channel timer. -/
def timerRows (base n : Nat) (src : List Fld) : List RegRow :=
  [regs base n 0x40 0 [rw 0 0, wo 1 1, rw 2 2, rw 3 3, rw 4 4, rw 9 5, rw 10 10],
   regs (base + 4) n 0x40 0 [rw 31 0], ros (base + 8) n 0x40, regs (base + 0xC) n 0x40 0xFFFFFFFF [rw 31 0],
   regs (base + 0x10) n 0x40 0 [w1c 2 0], regs (base + 0x14) n 0x40 0 src,
   ros (base + 0x18) n 0x40, ros (base + 0x1C) n 0x40, ros (base + 0x20) n 0x40]

/-- Tables 2.6 to 2.8. -/
def time0Rows : List RegRow :=
  [ro 0x040 0, ro 0x044 0, reg 0x048 0 [rw 31 0], reg 0x04C 0 [rw 31 0], reg 0x050 0 [wo 0 0, wo 1 1, wo 2 2, rw 15 8],
   ro 0x054 0, reg 0x058 0 [rw 31 0], reg 0x05C 2 [rw 7 0], ro 0x060 0, ro 0x064 0, ro 0x068 0, ro 0x06C 0, ro 0x070 0,
   ro 0x074 0, ro 0x078 0,
   regs 0x080 4 0x20 0 [rw 0 0, rwIn 2 1 [(0, 2)], rw 3 3, rw 7 4], regs 0x084 4 0x20 0 [rw 15 0],
   ros 0x088 4 0x20, ros 0x08C 4 0x20, regs 0x090 4 0x20 0 [rw 5 0, rw 13 6, rw 31 16],
   ctrs 0x094 4 0x20, ros 0x098 4 0x20]

/-- Table 3.12: LINK_CFG0 (and TX_CFG0), with the encodings the table calls reserved. -/
def linkCfg0Fields : List Fld :=
  [rwIn 1 0 [(0, 2)], rwIn 3 2 [(0, 1)], rw 4 4, rwIn 7 5 [(1, 2), (4, 4)], rw 9 8, rwIn 14 10 [(8, 16)], rwIn 19 15 [(16, 16)],
   rwIn 21 20 [(0, 2)], rwIn 24 22 [(0, 4)], rw 25 25]

/-- R91: TX_CFG0, where the JESD204B and 64b/80b modes are reserved. -/
def txCfg0Fields : List Fld := rwIn 1 0 [(0, 0), (2, 2)] :: linkCfg0Fields.drop 1

/-- Table 3.12: LINK_CFG1 (and TX_CFG1). -/
def linkCfg1Fields : List Fld := [rw 4 0, rw 9 5, rwIn 11 10 [(0, 0)]]

/-- Tables 3.11 and 3.12. -/
def chinRows : List RegRow :=
  [reg 0x040 0 [rw 0 0, wo 1 1, rw 2 2], reg 0x044 0x84020 linkCfg0Fields, reg 0x048 0 linkCfg1Fields, reg 0x04C 0 [rw 12 0],
   reg 0x050 0 [rw 16 0], reg 0x054 0xE4 [rw 11 0], ro 0x058 0, reg 0x060 0 [rw 31 0], reg 0x064 1 [rwIn 15 0 [(1, 65535)]],
   reg 0x068 0 [rw 31 0], reg 0x06C 0 [rw 9 0], ro 0x070 0, reg 0x074 0 [rw 0 0, rw 1 1, rw 2 2], ro 0x078 0, ro 0x07C 0,
   reg 0x080 2 [rw 7 0], ro 0x084 0, reg 0x088 0 [rw 0 0], ctr 0x08C, reg 0x090 0 [rwIn 1 0 [(0, 2)], rw 2 2],
   reg 0x094 0x100 [rwIn 15 0 [(1, 65534)]], reg 0x098 0x8000 [rw 16 0], ro 0x09C 0, ro 0x0A0 0, reg 0x0A4 0 [woIn 3 0 [(0, 3)]],
   ro 0x0A8 0, ro 0x0AC 0, ro 0x0B0 0, ctr 0x0B4, ctr 0x0B8, reg 0x0C0 0 [rw 31 12], reg 0x0C4 0 [rw 31 0],
   reg 0x0C8 12 [rwIn 4 0 [(12, 30)]], ro 0x0CC 0, reg 0x0D0 0 [rw 31 0], reg 0x0E0 0 [rw 0 0, rw 1 1, rw 31 16],
   ro 0x0E4 0, ro 0x0E8 0, ctrs 0x100 4 0x10, ros 0x104 4 0x10, ros 0x108 4 0x10, reg 0x180 0 [rw 0 0],
   reg 0x184 0x84020 txCfg0Fields, reg 0x188 0 linkCfg1Fields, reg 0x18C 0 [rw 31 0], reg 0x190 0 [rw 31 0],
   reg 0x194 1 [rwIn 15 0 [(1, 65535)]], ro 0x198 0, reg 0x1A0 0 [rw 0 0, rw 1 1], reg 0x1A4 0 [rw 31 0], ro 0x1A8 0,
   ctr 0x1AC, ctr 0x1B0]

/-- Tables 4.8, 4.9, 4.11 and 4.12. P1 [31:28] and P2 [31:24] are reserved for every kind (Table 4.10); B_Q is not checked at the write (R517). -/
def chencRows : List RegRow :=
  [reg 0x040 0 [rw 23 0], ro 0x044 0, ro 0x048 0, reg 0x04C 0 [rw 10 0], ctr 0x050,
   regs 0x080 8 0x40 0 [rwIn 2 0 [(0, 5)], rw 4 3, rwIn 6 5 [(0, 2)], rw 7 7, rw 15 8, rw 19 16],
   regs 0x084 8 0x40 0 [rw 7 0, rw 9 8, rwIn 22 16 [(0, 64)]],
   regs 0x088 8 0x40 0 [rw 31 0], regs 0x08C 8 0x40 0 [rw 27 0], regs 0x090 8 0x40 0 [rw 23 0],
   ctrs 0x094 8 0x40, ctrs 0x098 8 0x40, ctrs 0x09C 8 0x40, ctrs 0x0A0 8 0x40,
   regs 0x300 256 4 0 [rw 23 0, rw 31 31],
   regs 0x700 64 0x10 0 [rw 5 0, rw 7 6, rwIn 10 8 [(0, 6)], rw 15 11, rw 23 16],
   regs 0x704 64 0x10 0 [rw 31 0], regs 0x708 64 0x10 0 [rw 31 0], ros 0x70C 64 0x10,
   regs 0xB00 64 0x14 0 [rw 19 0], regs 0xB04 64 0x14 0 [rw 19 0], regs 0xB08 64 0x14 0 [rw 19 0],
   regs 0xB0C 64 0x14 0 [rw 19 0], regs 0xB10 64 0x14 0 [rw 19 0]]

/-- Tables 5.13 to 5.15. -/
def rtrRows : List RegRow :=
  [reg 0x040 3 [rw 0 0, rw 1 1], reg 0x044 0x10 [rw 7 0], reg 0x048 0x7D0 [rwIn 15 0 [(1, 65535)]],
   reg 0x04C 0x40 [rwIn 15 0 [(1, 65535)]], ro 0x050 0, ctr 0x054, reg 0x058 0 [rw 8 0, rw 27 16, rw 31 31], ctr 0x05C,
   ctr 0x060, ctr 0x064, ro 0x068 0, reg 0x06C 0 [rw 5 0, rw 8 6, rw 9 9], ctr 0x070, ctr 0x074,
   regs 0x080 5 8 1 [rw 31 1], regs 0x084 5 8 0 [rw 31 0], regs 0x0C0 5 8 1 [rw 31 1], regs 0x0C4 5 8 0 [rw 31 0],
   regs 0x100 64 4 0x400000 [rw 7 0, rw 15 8, rwIn 17 16 [(0, 2)], rwIn 19 18 [(0, 2)], rwIn 24 20 [(1, 16)]],
   regs 0x200 64 4 0x700 [rw 4 0, rwIn 10 8 [(0, 4), (7, 7)]],
   regs 0x300 64 4 0 [rw 4 0, rw 21 16, rw 31 31]]

/-- Table 5.17. -/
def d2dRows : List RegRow :=
  [reg 0x040 2 [wo 0 0, rw 1 1], ro 0x044 0, ro 0x048 0, ctr 0x04C, ctr 0x050, ro 0x054 0, ro 0x058 0, ro 0x05C 0,
   ros 0x060 10 4]

/-- Tables 6.12 and 6.13. -/
def drwRows : List RegRow :=
  [reg 0x040 0x400 [rw 0 0, rwIn 15 8 [(1, 255)]], ro 0x044 0, ctr 0x048, ctr 0x04C, ctr 0x050, ro 0x054 0, ro 0x058 0,
   ro 0x05C 0, ro 0x060 0, ro 0x064 0, reg 0x068 0 [rw 18 2, rw 31 31], reg 0x06C 0 [rw 31 0], ro 0x070 0, ro 0x074 0,
   regs 0x100 16 0x20 4 [rwIn 4 0 [(4, 20)], rw 12 8, rw 20 16],
   regs 0x104 16 0x20 0 [rw 0 0, rw 1 1, rw 2 2, rw 3 3, rw 8 4, rw 23 16],
   regs 0x108 16 0x20 0x10000 [rwIn 31 0 [(1, 2147483647)]], regs 0x10C 16 0x20 0 [rw 31 0],
   regs 0x110 16 0x20 0 [rw 15 0], regs 0x114 16 0x20 0 [rw 31 0]]

/-- Table 7.7. -/
def hznRows : List RegRow :=
  [reg 0x040 0 [rw 0 0, rwIn 15 8 [(0, 8)]], reg 0x044 0xC00 [rw 19 0], reg 0x048 0x8000 [rw 23 0],
   reg 0x04C 8 [rwIn 4 0 [(4, 20)]], reg 0x050 0 [rw 31 0], reg 0x054 0 [rw 9 0], ro 0x058 0, ro 0x05C 0, ro 0x060 0,
   ro 0x064 0, ro 0x068 0, ro 0x06C 0, reg 0x070 0 [rw 0 0], reg 0x074 0 [rw 31 0], reg 0x078 0 [rw 31 0], ro 0x07C 0,
   ro 0x080 0, ctr 0x084, ctr 0x088, ctr 0x08C, reg 0x090 0 [rw 31 0], ctr 0x094, ctr 0x098,
   reg 0x0A0 0 [rw 21 4], reg 0x0A4 13 [rwIn 4 0 [(8, 15)]], reg 0x0A8 0 [rw 31 12], reg 0x0AC 0 [rw 31 0],
   reg 0x0B0 26 [rwIn 4 0 [(20, 30)]], ro 0x0B4 0, ro 0x0B8 0, ctr 0x0BC]

/-- Table 8.12. DTAB_63 is read-only. -/
def xpndRows : List RegRow :=
  [reg 0x040 0x10 [rwIn 4 0 [(1, 16)]], reg 0x044 0 [wo 1 1], reg 0x048 0 [rw 31 0], reg 0x04C 0 [rw 31 0],
   reg 0x050 0 [rw 30 0], reg 0x054 0 [rw 30 0], reg 0x058 0 [rwIn 20 0 [(0, 1048576)]], reg 0x05C 0 [rw 21 4],
   reg 0x060 0 [rw 21 4], reg 0x064 0x1800 [rwIn 12 0 [(0, 6144)]], ro 0x068 0, reg 0x06C 0x400000 [rw 23 0], ctr 0x070,
   ctr 0x074, ctr 0x078, ctr 0x07C, ctr 0x080, ctr 0x084, ro 0x088 0, ctr 0x08C, ctr 0x090,
   regs 0x100 63 4 0 [rw 31 0], ro 0x1FC 0]

/-- Table 10.13. -/
def trsRows : List RegRow :=
  [reg 0x040 0 [rw 0 0], ro 0x044 0, ctr 0x048, ctr 0x04C, ctr 0x050, ctr 0x054, ctr 0x058, ctr 0x05C, ctr 0x060, ctr 0x064,
   ctr 0x068, ctr 0x06C, ctr 0x070, ctr 0x074, reg 0x078 0 [rw 19 2, rw 31 31], reg 0x07C 0 [rw 31 0]]

/-- Table 11.12. -/
def cctlRows : List RegRow :=
  [reg 0x040 0 [rw 0 0, rw 1 1], reg 0x044 0x370000 [rw 21 1], reg 0x048 0x2710 [rw 23 0],
   reg 0x04C 0x100 [rwIn 11 0 [(16, 4095)]], reg 0x050 0 [rw 11 0], reg 0x054 0 [rw 6 0], ro 0x058 0, ro 0x05C 0, ro 0x060 0,
   ro 0x064 0, reg 0x068 0 [wo 0 0], reg 0x06C 0 [rw 15 0], ctr 0x070]

/-- Table 11.15. -/
def qmgrRows : List RegRow :=
  [reg 0x040 0 [rw 11 0], reg 0x044 0 [rw 31 0], reg 0x048 0 [rw 31 0], reg 0x04C 0 [rw 31 0], reg 0x050 0 [rw 31 0],
   reg 0x054 0 [woIn 2 0 [(1, 4)]], ro 0x058 0, ros 0x060 8 4, reg 0x080 0 [rw 13 0], reg 0x084 0 [rw 19 0, rw 31 31],
   reg 0x088 0 [rw 11 0, rw 31 31], ro 0x08C 0, ctr 0x090, ctr 0x094, ctr 0x098, ctr 0x09C, ctr 0x0A0]

/-- Table 11.18: every two-bit bank mode but 3. -/
def bankFields : List Fld := (List.range 16).map (fun b => rwIn (2 * b + 1) (2 * b) [(0, 2)])

/-- Table 11.18. -/
def spadRows : List RegRow :=
  [reg 0x040 0 bankFields, reg 0x044 0 bankFields, ro 0x048 0, ro 0x04C 0, ctrs 0x050 6 4, ro 0x070 0]

/-- Tables 12.5 and 12.6. -/
def chdecRows : List RegRow :=
  [reg 0x040 0 [rw 31 0], ro 0x044 0, ro 0x048 0,
   reg 0x04C 0x6400000 [rw 3 0, rw 4 4, rw 5 5, rwIn 31 16 [(64, 65535)]], reg 0x050 0 [rw 15 0],
   reg 0x054 0 [rwIn 1 0 [(0, 2)], rw 3 2, rwIn 9 8 [(0, 2)], rw 11 10, rwIn 17 16 [(0, 2)], rw 19 18,
     rwIn 25 24 [(0, 2)], rw 27 26],
   reg 0x058 0 [rw 5 0, rw 13 8, rw 21 16, rw 29 24], reg 0x060 0 [rw 31 12], reg 0x064 0 [rw 31 0],
   reg 0x068 0 [rwIn 4 0 [(0, 0), (12, 30)]], reg 0x06C 0 [rw 31 12], reg 0x070 0 [rw 31 0],
   reg 0x074 0 [rwIn 4 0 [(0, 0), (12, 30)]], reg 0x078 0 [rw 31 12], reg 0x07C 0 [rw 31 0],
   reg 0x080 0 [rwIn 4 0 [(0, 0), (12, 34)]], ro 0x084 0, ctr 0x088, ctr 0x08C, ctr 0x090, ctr 0x094, ctr 0x098, ctr 0x09C,
   ctr 0x0A0, ctr 0x0A4, ctr 0x0A8, reg 0x0C0 0 [rw 0 0, rw 1 1], reg 0x0C4 0x4000 [rw 15 0], ro 0x0C8 0, ro 0x0CC 0,
   reg 0x0D0 0 [woIn 3 0 [(0, 1), (3, 3)]], ro 0x0D4 0, ro 0x0D8 0, ro 0x0DC 0, ctr 0x0E0, ctr 0x0E4, ctr 0x0E8, ctr 0x0EC,
   reg 0x0F0 0 [rw 31 12], reg 0x0F4 0 [rw 31 0], reg 0x0F8 12 [rwIn 4 0 [(12, 30)]], ro 0x0FC 0, reg 0x100 0 [rw 31 0],
   regs 0x200 4 0x20 0x100 [rwIn 2 0 [(0, 3)], rwIn 4 3 [(0, 2)], rw 5 5, rwIn 10 6 [(4, 30)], rw 23 16, rw 29 24],
   regs 0x204 4 0x20 1 [rw 15 0], regs 0x208 4 0x20 0 [rw 5 0], regs 0x20C 4 0x20 0 [rw 31 0],
   ctrs 0x210 4 0x20, ros 0x214 4 0x20, regs 0x400 256 4 0 [rw 15 0]]

/-- Table 13.12. -/
def plcRows : List RegRow :=
  [reg 0x040 3 [rw 0 0, rw 1 1], ro 0x044 0, reg 0x048 0 [rw 5 0, rw 15 8], ro 0x04C 0, ros 0x050 4 8, ros 0x054 4 8,
   reg 0x070 0 [rw 5 0], ro 0x074 0, ro 0x078 0, ctr 0x07C, ctr 0x080, ctr 0x084]

/-- Table 13.14. -/
def burRows : List RegRow :=
  [reg 0x040 0 [rw 13 0, rw 31 16], regs 0x044 8 4 0 [rw 31 0], ro 0x064 0, ro 0x068 0, ro 0x06C 0, ros 0x070 4 4,
   ro 0x080 0x100]

/-- Table 14.5, page 0. -/
def hut0Rows : List RegRow :=
  [reg 0x040 3 [rw 0 0, rw 1 1], ro 0x044 0, ro 0x048 0, reg 0x04C 0 [wo 4 0, wo 31 31], ro 0x050 0,
   reg 0x054 0x18 [rwIn 15 0 [(1, 65535)]], ro 0x058 0, ctr 0x05C, ctr 0x060, ctr 0x064, ctr 0x068,
   reg 0x06C 4 [rwIn 7 0 [(1, 255)]], reg 0x070 0x19 [rwIn 4 0 [(20, 30)]], reg 0x074 0x3BA [rwIn 15 0 [(1, 65535)]],
   reg 0x078 0x1000 [rw 31 0], reg 0x07C 0 [rw 31 31], reg 0x080 0 [rw 11 0, wo 30 30], ro 0x084 0, ro 0x088 0, ro 0x08C 0,
   ro 0x090 0]

/-- Tables 14.5 and 14.6, page 1. SLOT of REG_CFG_r resets to r (Table 14.6), HASH to 1; the reset of the other fields is
zero in the table. -/
def hut1Rows : List RegRow :=
  (List.range 24).map (fun r => (⟨0x100 + 8 * r, 1, 4, 0x400 + r * 2 ^ 12, false,
    [rw 5 0, rwIn 9 6 [(0, 9)], rw 11 10, rw 18 17, rw 23 19, rw 24 24, rw 31 31]⟩ : RegRow)) ++
  [regs 0x104 24 8 0 [rw 30 0], ros 0x300 32 4]

/-- Table 15.14. UID and the identification registers read the fuses; FUNC reads the view's function. -/
def devRows : List RegRow :=
  [ro 0x040 0, ro 0x044 0, reg 0x048 0 [rw 0 0, wo 1 1, wo 2 2], ro 0x04C 0, ro 0x050 0, ro 0x054 0, ro 0x058 0, ro 0x05C 0,
   ro 0x060 0]

/-- Tables 15.16 and 15.17. -/
def hqRows : List RegRow :=
  [reg 0x040 0 [rw 9 0], reg 0x044 0x10 [rw 0 0, rw 2 1, rwIn 7 3 [(2, 16)], rw 8 8], reg 0x048 0 [rw 31 12],
   reg 0x04C 0 [rw 31 0], reg 0x050 0 [rw 31 3], reg 0x054 0 [rw 31 0], reg 0x058 0 [rw 19 0, rw 29 24], ro 0x05C 0,
   ro 0x060 0, ro 0x064 0, reg 0x068 0 [woIn 2 0 [(1, 3)]], reg 0x06C 0x100 [rwIn 11 0 [(16, 4095)]],
   reg 0x070 0x2710 [rw 23 0], reg 0x074 0 [rw 13 0], reg 0x078 0 [rw 10 0, rw 14 14, rw 15 15], reg 0x07C 0 [wo 10 0],
   reg 0x080 0x8000 [rwIn 23 0 [(4096, 16777215)]], ctr 0x084, ctr 0x088, ctr 0x08C, regs 0x100 64 4 0 [rw 6 0, rw 31 31]]

/-- Table 16.9. -/
def intgRows : List RegRow :=
  [ro 0x040 0, ro 0x044 0, ro 0x048 0, ro 0x04C 0, ro 0x050 0, ctrs 0x058 6 4, ro 0x070 0, ro 0x074 0, ro 0x078 0, ro 0x07C 0,
   ctr 0x080, ctr 0x084, ctr 0x088, reg 0x08C 0 [rw 5 0, rw 15 8], ro 0x090 0, ro 0x094 0, ro 0x098 0, ctr 0x09C, ro 0x0A0 0,
   ctr 0x0A4, ctr 0x0A8, ro 0x0AC 0]

/-- Table 17.12. -/
def bistRows : List RegRow :=
  [reg 0x040 0 [wo 0 0, wo 1 1, wo 2 2], ro 0x044 0, ro 0x048 0, reg 0x04C 0 [rw 15 0], ro 0x050 0, reg 0x054 0 [rw 8 0],
   ro 0x058 0, ro 0x05C 0, ro 0x060 0, ro 0x064 0xFFFFFFFF, ro 0x068 0, ro 0x06C 0, reg 0x070 0 [rw 7 0], ro 0x074 0,
   ro 0x078 0]

/-- Table 18.11. -/
def pwrRows : List RegRow :=
  [reg 0x040 1 [rw 0 0], reg 0x044 0 [rwIn 2 0 [(0, 0), (3, 4)]], ro 0x048 0, reg 0x04C 0 [rwIn 8 0 [(0, 311)]],
   reg 0x050 0 [rwIn 2 0 [(0, 4)]], ro 0x054 0, reg 0x058 0 [wo 0 0], ro 0x05C 0, ctr 0x060, ctr 0x064, ctr 0x068,
   ros 0x070 39 4]

/-- Table 19.9. The counters of channel n lie at 0x100 + 0x40 n, 14 words each. -/
def obsRows : List RegRow :=
  [reg 0x040 0 [rw 15 0], reg 0x044 0 [wo 0 0, wo 1 1, rw 2 2, rw 4 3], reg 0x048 0 [rw 31 0], reg 0x04C 0 [rw 31 0],
   reg 0x050 0x2000 [rwIn 23 0 [(4096, 16777215)]], ro 0x054 0, ro 0x058 0, ro 0x05C 0, ctr 0x060, reg 0x064 0 [wo 0 0],
   reg 0x070 0 [rw 0 0, rw 1 1, rw 2 2, rw 3 3, rw 4 4, rw 9 5], reg 0x074 0 [rw 31 0], reg 0x078 0 [rw 31 0],
   reg 0x07C 0 [rw 31 12], reg 0x080 0 [rw 4 0], reg 0x084 20 [rwIn 4 0 [(12, 30)]], ro 0x088 0, ctr 0x08C, reg 0x090 0 [wo 0 0],
   reg 0x094 0 [rw 31 30], reg 0x098 0 [rw 4 0], ro 0x09C 0, ctr 0x0A0, ros 0x100 256 4]

/-- Table 19.11. -/
def cobsRows : List RegRow := [reg 0x040 0 [rw 8 0], reg 0x044 0 [wo 0 0], ros 0x100 216 4]

/-- The block-specific rows of a page. -/
def blockRows : Block → List RegRow
  | .dev => devRows | .bur => burRows | .pwr => pwrRows | .time0 => time0Rows | .time1 => timerRows 0x100 16 [rw 4 0, rw 31 16]
  | .plc => plcRows | .intg => intgRows | .obs => obsRows | .bist => bistRows | .hq => hqRows
  | .chin => chinRows | .chenc => chencRows | .chdec => chdecRows | .chtmr => timerRows 0x100 2 [rw 5 0]
  | .hut0 => hut0Rows | .hut1 => hut1Rows | .d2d => d2dRows | .cctl => cctlRows | .qmgr => qmgrRows | .spad => spadRows
  | .drw => drwRows | .trs => trsRows | .xpnd => xpndRows | .hzn => hznRows | .rtr => rtrRows | .cobs => cobsRows

/-- Does the row hold the register at this offset? -/
def RegRow.hit (r : RegRow) (off : Nat) : Bool :=
  decide (r.off ≤ off) && decide ((off - r.off) % r.stride = 0) && decide ((off - r.off) / r.stride < r.n)

/-- The row of a register, if the page has one there; any other offset is reserved. -/
def findRow (b : Block) (off : Nat) : Option RegRow :=
  if off < 0x40 then (headerRows b).find? (·.hit off) else (blockRows b).find? (·.hit off)

/-- The reset value of a register; a reserved register reads as zero (R8). -/
def resetWord (b : Block) (off : Nat) : Word :=
  match findRow b off with
  | some r => BitVec.ofNat 32 r.reset
  | none => 0

end Sys2Proof.Machine
end

