-- ==== Sys2Proof/Machine/Ops.lean ====
section
/-!
DEFINITION. Ops.lean: the named operations over the state that every family of commands uses: the sparse canonical map, the
register file, error capture (R397, R448), interrupt causes (R396), the byte memory, and the drawing of a free value.
-/

namespace Sys2Proof

/-- The index of a block's pages in register keys. -/
def Block.idx : Block → Nat
  | .dev => 0 | .bur => 1 | .pwr => 2 | .time0 => 3 | .time1 => 4 | .plc => 5 | .intg => 6 | .obs => 7 | .bist => 8
  | .hq => 9 | .chin => 10 | .chenc => 11 | .chdec => 12 | .chtmr => 13 | .hut0 => 14 | .hut1 => 15 | .d2d => 16
  | .cctl => 17 | .qmgr => 18 | .spad => 19 | .drw => 20 | .trs => 21 | .xpnd => 22 | .hzn => 23 | .rtr => 24 | .cobs => 25

/-- The key of a page in the register file: block, then instance. Each page takes 4,096 keys, its byte offsets. -/
def Page.key (p : Page) : Nat := (p.blk.idx * 4096 + p.inst % 4096) * 4096

end Sys2Proof

namespace Sys2Proof.Machine

/-! ### The sparse map -/

/-- The value at a key; an unlisted key reads as `d` says. -/
def SMap.get {α : Type} (d : Nat → α) : SMap α → Nat → α
  | [], k => d k
  | (k', v) :: m, k => if k = k' then v else SMap.get d m k

/-- The map without an entry for the key. -/
def SMap.erase {α : Type} : SMap α → Nat → SMap α
  | [], _ => []
  | (k', v) :: m, k => if k = k' then SMap.erase m k else (k', v) :: SMap.erase m k

/-- The map with the entry put in its place. -/
def SMap.insert {α : Type} : SMap α → Nat → α → SMap α
  | [], k, v => [(k, v)]
  | (k', v') :: m, k, v =>
    if k < k' then (k, v) :: (k', v') :: m else if k = k' then (k, v) :: m else (k', v') :: SMap.insert m k v

/-- A write. The canonical form is kept: a value equal to what an unlisted key reads as leaves no entry. -/
def SMap.set {α : Type} [DecidableEq α] (d : Nat → α) (m : SMap α) (k : Nat) (v : α) : SMap α :=
  if v = d k then SMap.erase m k else SMap.insert m k v

/-- The canonical form: keys strictly rising from `lo`, and no entry equal to what an unlisted key reads as. -/
def SMap.wfFrom {α : Type} [DecidableEq α] (d : Nat → α) : Nat → SMap α → Bool
  | _, [] => true
  | lo, (k, v) :: m => decide (lo ≤ k) && decide (v ≠ d k) && SMap.wfFrom d (k + 1) m

/-- The canonical form of a sparse map. -/
def SMap.wf {α : Type} [DecidableEq α] (d : Nat → α) (m : SMap α) : Bool := SMap.wfFrom d 0 m

/-! ### Registers -/

/-- The block of an index. -/
def blockOf : Nat → Block
  | 0 => .dev | 1 => .bur | 2 => .pwr | 3 => .time0 | 4 => .time1 | 5 => .plc | 6 => .intg | 7 => .obs | 8 => .bist
  | 9 => .hq | 10 => .chin | 11 => .chenc | 12 => .chdec | 13 => .chtmr | 14 => .hut0 | 15 => .hut1 | 16 => .d2d
  | 17 => .cctl | 18 => .qmgr | 19 => .spad | 20 => .drw | 21 => .trs | 22 => .xpnd | 23 => .hzn | 24 => .rtr | _ => .cobs

/-- What an unlisted register reads as: its reset value (Tables of the register maps). -/
def regDefault (k : Nat) : Word := resetWord (blockOf (k / 16777216)) (k % 4096)

/-- The stored word of a register. -/
def State.rd (s : State) (p : Page) (off : Nat) : Word := SMap.get regDefault s.regs (p.key + off % 4096)

/-- The state with a register's stored word replaced. -/
def State.wr (s : State) (p : Page) (off : Nat) (w : Word) : State :=
  { s with regs := SMap.set regDefault s.regs (p.key + off % 4096) w }

/-- A field of a stored register. -/
def State.fld (s : State) (p : Page) (off hi lo : Nat) : Nat := (s.rd p off).bits hi lo

/-- The state with a field of a register replaced. -/
def State.setFld (s : State) (p : Page) (off hi lo v : Nat) : State := s.wr p off ((s.rd p off).setBits hi lo v)

/-- One bit of a stored register. -/
def State.flag (s : State) (p : Page) (off i : Nat) : Bool := (s.rd p off).bit i

/-- The state with one bit of a register replaced. -/
def State.setFlag (s : State) (p : Page) (off i : Nat) (b : Bool) : State := s.setFld p off i i (b2n b)

/-- A 32-bit register as a number. -/
def State.rdN (s : State) (p : Page) (off : Nat) : Nat := (s.rd p off).toNat

/-- The state with a 32-bit register replaced by the low 32 bits of a number. -/
def State.wrN (s : State) (p : Page) (off v : Nat) : State := s.wr p off (BitVec.ofNat 32 v)

/-- The 64-bit value of a wide register whose low half lies at `off`. -/
def State.rd64 (s : State) (p : Page) (off : Nat) : Nat := s.rdN p off + s.rdN p (off + 4) * 4294967296

/-- The state with a wide register replaced. -/
def State.wr64 (s : State) (p : Page) (off v : Nat) : State := (s.wrN p off v).wrN p (off + 4) (v / 4294967296)

/-- R488: do the saturating counters of this page count nothing at present? -/
def State.ctrFrozen (s : State) (p : Page) : Bool := s.freeze.inForce && s.flag p 0x008 2

/-- A saturating counter register goes up by `n`, unless the counter freeze holds it (R488). -/
def State.addCtr (s : State) (p : Page) (off n : Nat) : State :=
  s.wrN p off (if s.ctrFrozen p then s.rdN p off else min (s.rdN p off + n) 4294967295)

/-- A saturating counter register goes up by one. -/
def State.incCtr (s : State) (p : Page) (off : Nat) : State := s.addCtr p off 1

/-! ### Interrupt causes -/

/-- R396: a hardware event sets a cause bit of PG_IRQ_RAW. -/
def State.raise (s : State) (p : Page) (i : Nat) : State := s.setFlag p 0x010 i true

/-- R394: PG_IRQ_PEND is PG_IRQ_RAW & PG_IRQ_EN. -/
def State.irqPend (s : State) (p : Page) : Word := s.rd p 0x010 &&& s.rd p 0x014

/-! ### Owners -/

/-- The owner of a page, as a partition key (Table 15.5). -/
def State.owner (s : State) (p : Page) : Nat := s.fld p 0x028 5 0

/-- Device time as software reads it: the count while RUNNING, zero before (02_time.md, States of device time). -/
def State.now (s : State) : Nat := if s.tb.state = .running then s.tb.count else 0

/-! ### Errors -/

/-- The INTG page of a function's view (R447). -/
def intg (f : Nat) : Page := ⟨.intg, f⟩

/-- The depth of a view's error log (R448). -/
def logDepth (f : Nat) : Nat := if f = 0 then 256 else 16

/-- The error log of a view. -/
def State.log (s : State) (f : Nat) : List LogEntry := SMap.get (fun _ => []) s.logs f

/-- R448: an error enters the log of one view, or is discarded with LOG_OVF when the log is full; CLASS_COUNT counts it. -/
def State.logIn (s : State) (f cls : Nat) (e : LogEntry) : State :=
  let s := s.incCtr (intg f) (0x054 + 4 * cls)
  if (s.log f).length < logDepth f then
    ({ s with logs := SMap.set (fun _ => []) s.logs f (s.log f ++ [e]) }).raise (intg f) 0
  else (s.setFlag (intg f) 0x00C 1 true).raise (intg f) 1

/-- LOG_SRC of an entry (Table 16.9). -/
def logSrc (p : Page) (key : Nat) : Word :=
  BitVec.ofNat 32 (key % 64 + p.inst % 4096 * 2 ^ 12 + p.blk.code % 128 * 2 ^ 24 + 2 ^ 31)

/-- R448: an error of a page enters the log of the PF view and of the view of the function that owns the block. -/
def State.logErr (s : State) (p : Page) (key cls : Nat) (info : Word) : State :=
  let e : LogEntry := ⟨s.now, info, logSrc p key⟩
  let s := s.logIn 0 cls e
  if key = 0 then s else s.logIn key cls e

/-- PG_ERR_INFO of an error (Table 15.5). -/
def errInfo (cls code loc : Nat) : Word :=
  BitVec.ofNat 32 (2 ^ 31 + cls % 8 * 2 ^ 28 + code % 4096 * 2 ^ 16 + loc % 65536)

/-- R397: PG_ERR_COUNT counts every error, class 1 in the corrected half and the others in the uncorrected half. -/
def State.countErr (s : State) (p : Page) (cls : Nat) : State :=
  if cls = 1 then s.setFld p 0x024 15 0 (min (s.fld p 0x024 15 0 + 1) 65535)
  else s.setFld p 0x024 31 16 (min (s.fld p 0x024 31 16 + 1) 65535)

/-- R397, R448: an error is detected by the block of a page: counted, and captured and logged when VALID is 0. The errors of one command
arrive one after another (DESIGN CHOICE, log entry 60). -/
def State.err (s : State) (p : Page) (cls code loc : Nat) : State :=
  let c := s.countErr p cls
  if s.flag p 0x020 31 then c
  else (c.wr p 0x020 (errInfo cls code loc)).logErr p (s.owner p) cls (errInfo cls code loc)

/-- R447: an error recorded on the INTG page itself, captured in the header of the PF view and of the view of the function
concerned; R448 enters it in the log of both views once. -/
def State.errIntg (s : State) (f cls code loc : Nat) : State :=
  let cap (s : State) (g : Nat) : State :=
    let c := s.countErr (intg g) cls
    if s.flag (intg g) 0x020 31 then c else c.wr (intg g) 0x020 (errInfo cls code loc)
  let s := if f = 0 then cap s 0 else cap (cap s 0) f
  s.logErr (intg f) f cls (errInfo cls code loc)

/-- A write refused in the present partition or device state (Table 15.7, code 0x013). -/
def State.refuse (s : State) (p : Page) (off : Nat) : State := s.err p 5 0x013 off

/-- A reserved encoding (R10, code 0x010). -/
def State.badEnc (s : State) (p : Page) (off : Nat) : State := s.err p 5 0x010 off

/-- R426: a block reports a fault to the Bureau on the fault sideband; the report waits there until the Bureau handles it. -/
def State.reportWith (s : State) (p : Page) (code arg : Nat) : State :=
  { s with faultReports := s.faultReports ++ [⟨p, code, s.now, arg⟩] }

/-- R426: a report that names no flit. -/
def State.report (s : State) (p : Page) (code : Nat) : State := s.reportWith p code 0

/-! ### Memory -/

/-- The byte at an address of the device's memories; a byte that nothing has written reads as zero (log entry 3). -/
def State.byte (s : State) (a : Nat) : Byte := SMap.get (fun _ => 0) s.mem a

/-- The state with one byte of memory replaced. -/
def State.setByte (s : State) (a : Nat) (b : Byte) : State := { s with mem := SMap.set (fun _ => 0) s.mem a b }

/-- `n` bytes from an address, as a little-endian number (R11). -/
def State.load (s : State) (a : Nat) : Nat → Nat
  | 0 => 0
  | n + 1 => (s.byte a).toNat + 256 * State.load s (a + 1) n

/-- The state with `n` bytes from an address replaced by a number, little-endian. -/
def State.store (s : State) (a : Nat) : Nat → Nat → State
  | 0, _ => s
  | n + 1, v => State.store (s.setByte a (BitVec.ofNat 8 v)) (a + 1) n (v / 256)

/-! ### Free values -/

/-- The next value the spec leaves open, and the state that has drawn it. -/
def State.draw (s : State) : BitVec 64 × State := (Config.free s.draws, { s with draws := s.draws + 1 })

/-- Four free values as one number. -/
def State.draw256 (s : State) : Nat × State :=
  let a := s.draw
  let b := a.2.draw
  let c := b.2.draw
  let d := c.2.draw
  (a.1.toNat + b.1.toNat * 2 ^ 64 + c.1.toNat * 2 ^ 128 + d.1.toNat * 2 ^ 192, d.2)

/-! ### Debug halts -/

/-- R497: is a hart halted by a debugger? -/
def State.isHalted (s : State) (h : Nat) : Bool := s.debugger.halted.any (·.1 = h)

/-! ### Run-time changes of the health record -/

/-- R463: a change at run time (DEV_STATE READY) that the health record does not hold yet. -/
def State.recChange (s : State) : State :=
  if s.fld ⟨.dev, 0⟩ 0x04C 2 0 = 2 then { s with boot := { s.boot with recDirty := true } } else s

/-! ### Outcomes -/

/-- The command completes with this state. -/
abbrev Result := Host.Outcome State Fault Refusal

/-- The state with the answer of the command just run. -/
def State.ans (s : State) (r : Resp) : State := { s with resp := r }

/-- The command has its effect, and the block answers nothing. -/
def done (s : State) : Result := .next (s.ans .none)

/-- The command has its effect and answers. -/
def answer (s : State) (r : Resp) : Result := .next (s.ans r)

end Sys2Proof.Machine
end

