-- ==== Sys2Proof/Machine/Arith.lean ====
section
/-!
DEFINITION. Arith.lean: the integer helpers of 00_scope.md, Arithmetic helpers (R12), and those the chapters add: variables are
mathematical integers, narrowed only by the helpers.
-/

namespace Sys2Proof.Machine

/-- 00_scope.md: round-half-to-even shift of a signed number; a shift of 0 is exact. -/
def rne (x : Int) (s : Nat) : Int :=
  if s = 0 then x
  else
    let m : Int := 2 ^ s
    let q := x.fdiv m
    let r := x.fmod m
    let h : Int := 2 ^ (s - 1)
    if r > h || (r = h && q.fmod 2 = 1) then q + 1 else q

/-- rne with a shift that may be negative: then an exact left shift. -/
def rneI (x : Int) (s : Int) : Int := if s ≤ 0 then x * 2 ^ (-s).toNat else rne x s.toNat

/-- 00_scope.md: saturation to w bits, signed. -/
def sat (x : Int) (w : Nat) : Int := min (max x (-(2 ^ (w - 1)))) (2 ^ (w - 1) - 1)

/-- 00_scope.md: saturation to w bits, unsigned. -/
def satu (x : Int) (w : Nat) : Int := min (max x 0) (2 ^ w - 1)

/-- 00_scope.md: the product with a factor of 24 fractional bits. -/
def mul24 (a f : Int) : Int := rne (a * f) 24

/-- The w-bit two's-complement code of a number. -/
def toBits (x : Int) (w : Nat) : Nat := (x.emod (2 ^ w)).toNat

/-- The signed value of a w-bit code. -/
def ofBits (n w : Nat) : Int := if n % 2 ^ w ≥ 2 ^ (w - 1) then ((n % 2 ^ w : Nat) : Int) - 2 ^ w else ((n % 2 ^ w : Nat) : Int)

/-- 04_encoders.md: division rounded to the nearest integer, ties to the even one, by a positive divisor. -/
def divr (x : Int) (y : Nat) : Int :=
  let q := x.fdiv y
  let r := x.fmod y
  if 2 * r > y || (2 * r = y && q.fmod 2 = 1) then q + 1 else q

/-- R13, R14: the 16-bit log code of an interval. -/
def lg16 : Option Nat → Nat
  | none => 0xFFFF
  | some delta =>
    if delta < 2 ^ 11 then delta
    else
      let n := delta.log2
      let e := n - 10
      if e > 31 then 0xFFFF else e * 2 ^ 11 + (delta / 2 ^ (n - 11) - 2 ^ 11)

/-- 00_scope.md: the interval a code decodes to. -/
def lg16Value (c : Nat) : Nat :=
  let e := c / 2 ^ 11
  let m := c - e * 2 ^ 11
  if e = 0 then m else (2 ^ 11 + m) * 2 ^ (e - 1)

/-- R16, R17: the decay product of an interval over a table of factors, in ascending bit order, from accumulator `acc`. -/
def decayFrom (delta : Nat) : Int → List Nat → Int
  | acc, [] => acc
  | acc, f :: fs => if delta % 2 = 1 then decayFrom (delta / 2) (mul24 acc f) fs else decayFrom (delta / 2) acc fs

/-- D(Δ, table) of 00_scope.md: 2^24 is one. A product that reaches zero stays zero. -/
def decay (delta : Nat) (table : List Nat) : Int := decayFrom delta (2 ^ 24) table

/-- R41: the unique time with these low 48 bits within 2^47 fu of the present time; below zero never arises in a run and reads
as zero. -/
def rebuild (t48 now : Nat) : Nat :=
  let d := (t48 + 2 ^ 48 - now % 2 ^ 48) % 2 ^ 48
  if d ≥ 2 ^ 47 then now + d - 2 ^ 48 else now + d

/-- R157, R159: the time with these low 48 bits within 2^47 fu of a reference time; both are integers, and a record's time may lie before device time
zero. -/
def rebuildI (t48 : Nat) (ref : Int) : Int :=
  let d := ((t48 : Int) - ref) % 2 ^ 48
  if 2 ^ 47 ≤ d then ref + d - 2 ^ 48 else ref + d

/-- Is serial number `a` (of w bits) at or after `b`? -/
def serialGe (a b w : Nat) : Bool := decide ((a + 2 ^ w - b % 2 ^ w) % 2 ^ w < 2 ^ (w - 1))

end Sys2Proof.Machine
end

