-- ==== Sys2Proof/Machine/HostBus.lean ====
section
/-!
DEFINITION. HostBus.lean: who may write which page when: presence (R391), device state (R388, R412, R413), ownership (R392),
power (R400), soft reset (R401) and locks (R399), as one gate that every register write passes.
-/

namespace Sys2Proof

/-- Table 18.1: the power domain that holds a page's block. -/
def Page.dom (p : Page) : Nat :=
  match p.blk with
  | .dev | .bur | .pwr | .plc | .intg | .obs | .bist | .hq => 1
  | .time0 | .time1 => 2
  | .rtr | .d2d => 3
  | .chin | .chenc | .chdec | .chtmr => 292 + p.inst
  | .hut0 | .hut1 => 308 + p.inst
  | .cctl | .qmgr | .spad | .xpnd | .hzn | .cobs => 4 + p.inst
  | .drw => 4 + p.inst / 4
  | .trs => 4 + p.inst / 2

/-- The physical position of a Cabinet page. -/
def Page.pos (p : Page) : Nat :=
  match p.blk with
  | .drw => p.inst / 4
  | .trs => p.inst / 2
  | _ => p.inst

/-- The page slot of R402 in the PF view: the BAR0 offset divided by 4,096 (Tables 15.4, 0.4, 0.5). -/
def Page.slot (p : Page) : Nat :=
  match p.blk with
  | .dev => 0 | .bur => 1 | .pwr => 2 | .time0 => 3 | .time1 => 4 | .plc => 5 | .intg => 6 | .obs => 7 | .bist => 8 | .hq => 9
  | .chin => 0x10 + 4 * p.inst | .chenc => 0x11 + 4 * p.inst | .chdec => 0x12 + 4 * p.inst | .chtmr => 0x13 + 4 * p.inst
  | .hut0 => 0x80 + 2 * p.inst | .hut1 => 0x81 + 2 * p.inst | .d2d => 0x90 + p.inst
  | .cctl => 0x1000 + 16 * p.inst | .qmgr => 0x1001 + 16 * p.inst | .spad => 0x1002 + 16 * p.inst
  | .drw => 0x1003 + 16 * (p.inst / 4) + p.inst % 4 | .trs => 0x1007 + 16 * (p.inst / 2) + p.inst % 2
  | .xpnd => 0x1009 + 16 * p.inst | .hzn => 0x100A + 16 * p.inst | .rtr => 0x100B + 16 * p.inst | .cobs => 0x100C + 16 * p.inst

/-- Does the page belong to each function's own view (R391, R447)? -/
def Page.perView (p : Page) : Bool := p.blk = .dev || p.blk = .bur || p.blk = .intg || p.blk = .hq

/-- Is the requester partition 0, that is the PF or the Bureau? -/
def Req.isPf : Req → Bool
  | .fn f => decide (f = 0)
  | .bureau => true
  | .core _ => false

/-- Is the requester a control core? -/
def Req.isCore : Req → Bool
  | .core _ => true
  | _ => false

/-- Is the requester the Bureau? -/
def Req.isBureau : Req → Bool
  | .bureau => true
  | _ => false

/-- The function whose own views (DEV, BUR, INTG, HQ) an access reaches. -/
def Req.view : Req → Nat
  | .fn f => f
  | _ => 0

/-- The registers of a page that a soft reset keeps beside PG_OWNER (R401; R40 for TIME.STOP, R175 for OUT_TIME). -/
def Block.retained : Block → List Nat
  | .time0 => [0x074, 0x078]
  | .drw => [0x070, 0x074]
  | _ => []

end Sys2Proof

namespace Sys2Proof.Machine

/-- The state of a partition; partition 0 is always RUNNING (R346). -/
def State.part (s : State) (k : Nat) : PartState :=
  if k = 0 then .running else SMap.get (fun _ => PartState.free) s.partState k

/-- Is the partition stopped, that is neither RUNNING nor, for partition 0, under way? The management partition owns pages
of its own and is never stopped (R346), so a write the spec allows only while the owning partition is stopped asks this. -/
def State.partStopped (s : State) (k : Nat) : Bool := k = 0 || s.part k ≠ .running

/-- One copy of a partition's logical map. -/
def State.mapCopy (s : State) (second : Bool) (k c : Nat) : MapEntry :=
  SMap.get (fun _ => (⟨0, false, false⟩ : MapEntry)) (if second then s.maps2 else s.maps) (256 * k + c)

/-- Does holder `e` of a partition's map read the second copy (R345)? -/
def State.mapSecond (s : State) (e k : Nat) : Bool := SMap.get (fun _ => false) s.mapCur (512 * k + e)

/-- The entry of a partition's logical map in the copy that holder `e` reads (R345). -/
def State.mapEntryAt (s : State) (e k c : Nat) : MapEntry := s.mapCopy (s.mapSecond e k) k c

/-- The entry of a partition's active logical map, as the Bureau holds it. -/
def State.mapEntry (s : State) (k c : Nat) : MapEntry := s.mapEntryAt 0x161 k c

/-- The logical Cabinet that one copy of a partition's map places at a position. -/
def State.logicalIn (s : State) (second : Bool) (k p : Nat) : Option Nat :=
  (List.range 256).find? fun c => let m := s.mapCopy second k c; m.valid && !m.parked && m.phys = p

/-- The logical Cabinet of partition `k` at a physical position, if the active map places one there. -/
def State.logicalOf (s : State) (k p : Nat) : Option Nat := s.logicalIn (s.mapSecond 0x161 k) k p

/-- The same, or the one that the inactive copy places there: during a migration both positions are the logical Cabinet's, and during
a recovery's replay the spare is too (R440). -/
def State.logicalAny (s : State) (k p : Nat) : Option Nat :=
  match s.logicalOf k p with
  | some c => some c
  | none => match s.logicalIn (!s.mapSecond 0x161 k) k p with
    | some c => some c
    | none => (s.recov.find? fun r => r.key = k && r.dst = p && decide (4 ≤ r.step)).map (·.cab)

/-- R2: the logical number of a physical channel, its rank among the enabled ones. -/
def State.logChan (s : State) (n : Nat) : Nat := ((List.range n).filter (s.fuses.chEn.testBit ·)).length

/-- R2: the number of channels of the part. -/
def State.chanCount (s : State) : Nat := ((List.range 16).filter (s.fuses.chEn.testBit ·)).length

/-- R2: the physical channel of a logical number. -/
def State.physChan (s : State) (l : Nat) : Nat := ((List.range 16).filter (s.fuses.chEn.testBit ·)).getD l 16

/-- The page slot of a page in the view of a function (R391, R402): a VF's view numbers channels and Cabinets logically (R395). -/
def State.viewSlot (s : State) (f : Nat) (p : Page) : Nat :=
  if f = 0 || p.slot < 0x10 || (0x50 ≤ p.slot && p.slot < 0x1000) then p.slot
  else if p.slot < 0x50 then 0x10 + 4 * s.logChan p.inst + p.slot % 4
  else match s.logicalOf f p.pos with
    | some c => 0x1000 + 16 * c + p.slot % 16
    | none => p.slot

/-- The domain of a number (Table 18.1). -/
def State.dom (s : State) (d : Nat) : Dom := SMap.get (fun _ => Dom.reset) s.doms d

/-- R391, R1: is the page's resource enabled by the fuses? -/
def State.present (s : State) (p : Page) : Bool :=
  match p.blk with
  | .chin | .chenc | .chdec | .chtmr => s.fuses.chEn.testBit p.inst
  | .hut0 | .hut1 => s.fuses.stkEn.testBit p.inst
  | .cctl | .qmgr | .spad | .drw | .trs | .xpnd | .hzn | .rtr | .cobs => s.fuses.posEn.testBit p.pos
  | .d2d => decide (p.inst < 6)
  | _ => decide (p.inst < 64)

/-- R391, R392: may a function reach the page at all? The PF reaches every page but the views of the others; a VF reaches its
own views and the channel pages its partition owns, and, RTR apart, the Cabinet pages at the positions where the active map places its logical
Cabinets (R393). -/
def State.reaches (s : State) (f : Nat) (p : Page) : Bool :=
  if p.perView then decide (p.inst = f)
  else if f = 0 then true
  else match p.blk with
    | .chin | .chenc | .chdec | .chtmr => decide (s.owner p = f)
    | .cctl | .qmgr | .spad | .drw | .trs | .xpnd | .hzn | .cobs => decide (s.owner p = f) && (s.logicalOf f p.pos).isSome
    | _ => false

/-- DEV_STATE.STATE (Table 15.14): 0 HOLD, 1 STARTING, 2 READY. -/
def State.devState (s : State) : Nat := s.fld ⟨.dev, 0⟩ 0x04C 2 0

/-- DEV_STATE.HOLD_CAUSE. -/
def State.holdCause (s : State) : Nat := s.fld ⟨.dev, 0⟩ 0x04C 7 4

/-- R388, R412, R413: does a BAR0 access to this page get an answer in the present device state? -/
def State.answers (s : State) (p : Page) : Bool :=
  s.boot.resetN && !s.boot.off && (s.devState = 2 || (s.devState = 1 && (p.blk = .dev || p.blk = .bur)) ||
  (s.devState = 0 && s.holdCause = 0 && p.blk = .dev))

/-- R400: does the power domain of the page serve register accesses? -/
def State.awake (s : State) (p : Page) : Bool := (s.dom p.dom).cur = .run || (s.dom p.dom).cur = .idle

/-- R399: does the lock leave this register writable (PG_LOCK, W1C writes, PG_ERR_INFO clears, counter clears: those of the counter engines too)? -/
def lockExempt (p : Page) (off : Nat) : Bool :=
  (p.blk = .obs && (off = 0x064 || (decide (0x100 ≤ off) && decide (off < 0x500)))) ||
  (p.blk = .cobs && (off = 0x044 || (decide (0x100 ≤ off) && decide (off < 0x460)))) ||
  match findRow p.blk off with
  | some r => off = 0x02C || r.clears || r.fields.any (fun f => f.acc = .w1c)
  | none => false

/-- The hidden lock key of a page (R399). -/
def State.lockKey (s : State) (p : Page) : Nat := SMap.get (fun _ => 0) s.locks p.key

/-- Is the page locked (R399)? -/
def State.locked (s : State) (p : Page) : Bool := s.lockKey p ≠ 0

/-- Is the function in D3hot (R389)? -/
def State.inD3 (s : State) (f : Nat) : Bool := (SMap.get (fun _ => false) s.d3hot f)

/-- R410: the severity of an error: Bad TLP, which stands for the errors the data link replays, and the egress advisory are correctable; of the others the
host programs it. -/
def Pci.sev (x : Pci) (e : AerErr) : AerSev :=
  if e = .badTlp || e = .egressPoisoned then .correctable else if x.fatal.contains e then .fatal else .nonFatal

/-- R410: an error of a function holds in its AER status and is reported. -/
def State.aer (s : State) (f : Nat) (e : AerErr) : State :=
  let x := s.pci
  { s with pci := { x with status := (f, e) :: x.status.filter (· ≠ (f, e)), reports := x.reports ++ [⟨f, e, x.sev e⟩] } }

/-- Table 15.9: an access completes with Unsupported Request. -/
def unsupported (f : Nat) (s : State) : Result := answer (s.aer f .unsupported) .ur

/-- R410: what AER reports as an access of a function arrives; an ECRC error only where its check is enabled. -/
def State.received (s : State) (f : Nat) : Bus → State
  | .ecrc => if s.pci.ecrcCheck then s.aer f .ecrc else s
  | .poisoned => s.aer f .poisoned
  | .malformed => s.aer f .malformed
  | .replayed => s.aer f .badTlp
  | _ => s

/-- R410: is the TLP discarded? -/
def State.discards (s : State) (bus : Bus) : Bool := (bus = .ecrc && s.pci.ecrcCheck) || bus = .malformed

/-- Is the device in legacy mode (R414)? -/
def State.legacy (s : State) : Bool := s.flag ⟨.dev, 0⟩ 0x04C 8

/-- R418: does a page of legacy mode not hold this offset? -/
def State.legacyHides (s : State) (p : Page) (off : Nat) : Bool :=
  s.legacy && ((p.blk = .chin && decide (0x0C0 ≤ off)) ||
    (p.blk = .chenc && decide (0x040 ≤ off) && !(decide (off < 0x050) || (decide (0x080 ≤ off) && decide (off < 0x180)) ||
      (decide (0x300 ≤ off) && decide (off < 0x400)))))

/-- The verdict of the gate on a write. -/
inductive Gate where
  /-- The write reaches the register. -/
  | pass
  /-- It is dropped, and this is the state afterwards. -/
  | drop (s : State)
  /-- The access completes with Unsupported Request. -/
  | ur
  deriving DecidableEq, Repr

/-- The checks a register write passes before its own rule applies. -/
def State.gate (s : State) (r : Req) (p : Page) (off : Nat) : Gate :=
  match r with
  | .fn f =>
    if !s.answers p || s.inD3 f then .ur
    else if !s.reaches f p then .drop (s.errIntg f 6 0x102 (s.viewSlot f p))
    else if !s.present p then .drop s
    else if !s.awake p && off ≠ 0x030 then .drop (s.err ⟨.pwr, 0⟩ 5 0x004 p.dom)
    else if s.flag p 0x008 1 && off ≠ 0x02C && off ≠ 0x030 then .drop s
    else if s.locked p && !lockExempt p off then .drop (s.err p 5 0x003 off)
    else .pass
  | _ =>
    if !s.present p then .drop s
    else if !s.awake p && off ≠ 0x030 then .drop (s.err ⟨.pwr, 0⟩ 5 0x004 p.dom)
    else if s.flag p 0x008 1 && off ≠ 0x02C && off ≠ 0x030 then .drop s
    else .pass

/-- A register write: dropped, answered with UR, refused at an offset that a legacy page does not hold (R418), or given to the register's own rule. -/
def gated (r : Req) (p : Page) (off : Nat) (s : State) (k : State → State) : Result :=
  match s.gate r p off with
  | .pass => done (if s.legacyHides p off then s.badEnc p off else k s)
  | .drop t => done t
  | .ur => unsupported r.view s

/-- Does a read by this requester reach the page (R388, R391, R392, R400)? Otherwise the register reads as zero. -/
def State.readable (s : State) (r : Req) (p : Page) : Bool :=
  s.present p && s.awake p && (match r with | .fn f => s.reaches f p | _ => true)

/-- Does a read complete with Unsupported Request (R388, R389, R412)? -/
def State.readUr (s : State) (r : Req) (p : Page) : Bool :=
  match r with
  | .fn f => !s.answers p || s.inD3 f
  | _ => false

/-- The key of a requester's latch of a wide register (R53). -/
def latchKey (r : Req) (p : Page) (off : Nat) : Nat :=
  (match r with | .fn f => f | .bureau => 64 | .core _ => 65) * 2 ^ 32 + p.key + off

/-- R53: a requester's latch of the wide register whose low half lies at `off` takes this high half. -/
def State.latch (s : State) (r : Req) (p : Page) (off v : Nat) : State :=
  { s with latches := SMap.set (fun _ => 0) s.latches (latchKey r p off) v }

/-- What the requester's latch of a wide register holds (R54). -/
def State.latched (s : State) (r : Req) (p : Page) (off : Nat) : Nat := SMap.get (fun _ => 0) s.latches (latchKey r p off)

/-- A register read with an effect: answered with UR, with zero (the reset value too, during a soft reset, R401), or by the register's own rule. -/
def gatedRead (r : Req) (p : Page) (s : State) (k : State → Nat × State) : Result :=
  if s.readUr r p then unsupported r.view s
  else if s.readable r p && !s.flag p 0x008 1 then answer (k s).2 (.data (k s).1)
  else answer s (.data 0)

/-- R8, R10: the fields of a row that a written word reaches, field by field: a reserved encoding leaves the field as it was. -/
def writeFields (old w : Word) : List Fld → Word
  | [] => old
  | f :: fs =>
    let v := w.bits f.hi f.lo
    let legal := f.ok.isEmpty || f.ok.any (fun r => decide (r.1 ≤ v) && decide (v ≤ r.2))
    let new := match f.acc with
      | .rw => if legal then old.setBits f.hi f.lo v else old
      | .wo => old
      | .w1c => old &&& ~~~((w >>> f.lo &&& Word.ones (f.hi + 1 - f.lo)) <<< f.lo)
    writeFields new w fs

/-- R10: does the written word hold a reserved encoding in some field? -/
def hasReserved (w : Word) (fs : List Fld) : Bool :=
  fs.any fun f => !(f.ok.isEmpty || f.ok.any (fun r => decide (r.1 ≤ w.bits f.hi f.lo) && decide (w.bits f.hi f.lo ≤ r.2)))

/-- Is this the low half of a counter of more than 32 bits (DELIV, Table 8.12; MACS, Table 10.13)? A write of either half clears both. -/
def wideCtr (b : Block) (off : Nat) : Bool := (b = .xpnd && off = 0x074) || (b = .trs && off = 0x054)

/-- Where a page keeps, out of software's sight, whether a register holds what it takes of a first error: ERR_SYND and ERR_TIME of a D2D page
(05_fabric.md, Table 5.17), ERR_ADDR of an SPAD page (R287). A clear of PG_ERR_INFO lets the next one in. -/
def errCaptured : Nat := 0x0FC

/-- The plain rule of a register write: every writable field takes its bits (R8, R10), a counter is cleared, and anything
else is ignored; a reserved encoding records code 0x010. -/
def plainWrite (p : Page) (off : Nat) (w : Word) (s : State) : State :=
  match findRow p.blk off with
  | none => s
  | some r =>
    if r.clears then
      if wideCtr p.blk off then (s.wr p off 0).wr p (off + 4) 0 else if wideCtr p.blk (off - 4) then (s.wr p (off - 4) 0).wr p off 0 else s.wr p off 0
    else
      let t := s.wr p off (writeFields (s.rd p off) w r.fields)
      let t := if hasReserved w r.fields then t.badEnc p off else t
      if (p.blk = .d2d || p.blk = .spad) && off = 0x020 && w.bit 31 then t.wr p errCaptured 0 else t

/-- R401: the registers of a page return to their reset values, except PG_OWNER and the retained ones. -/
def State.resetPage (s : State) (p : Page) : State :=
  { s with regs := s.regs.filter fun e =>
      !(decide (p.key ≤ e.1) && decide (e.1 < p.key + 4096)) || e.1 = p.key + 0x028 || p.blk.retained.any (fun o => e.1 = p.key + o) }

end Sys2Proof.Machine
end

