-- ==== Sys2Proof/Machine/Mesh.lean ====
section
/-!
DEFINITION. Mesh.lean: the commands of 05_fabric.md that move flits: routers, trees, reductions, link retry, escape and the
die-to-die groups; and the injection of a flit by an endpoint.
-/

namespace Sys2Proof

/-! ### CRC-16 -/

/-- R125: one bit enters the CRC-16. -/
def crc16Bit (c : Nat) (b : Bool) : Nat := (c * 2 % 65536) ^^^ (if c.testBit 15 != b then 0x1021 else 0)

/-- R125: the CRC-16 of an n-bit number, most significant bit first. -/
def crc16 (n v : Nat) : Nat := (List.range n).foldl (fun c i => crc16Bit c (v.testBit (n - 1 - i))) 0xFFFF

/-- Table 5.3: the header of an event-mesh flit. -/
def Flit.header (f : Flit) : Nat :=
  f.dest % 512 * 2 ^ 39 + f.src % 512 * 2 ^ 30 + f.vc % 8 * 2 ^ 27 + f.key % 64 * 2 ^ 21 + f.seq % 4096 * 2 ^ 9 + f.kind % 8 * 2 ^ 6 + f.tag % 64

/-- Table 5.6: the header of a memory-mesh flit. -/
def MFlit.header (f : MFlit) : Nat :=
  f.dest % 512 * 2 ^ 79 + f.src % 512 * 2 ^ 70 + f.key % 64 * 2 ^ 64 + f.op % 8 * 2 ^ 61 + f.len % 4 * 2 ^ 59 + f.tag % 2048 * 2 ^ 48 +
    f.line % 2 ^ 31 * 2 ^ 17 + f.qmask % 256 * 2 ^ 9 + f.hops % 64

/-- R125: the CRC-16 that a flit carries, over its header and then its payload or data. -/
def AnyFlit.crc : AnyFlit → Nat
  | .ev f => crc16 176 (f.header * 2 ^ 128 + f.payload % 2 ^ 128)
  | .mem f => crc16 600 (f.header * 2 ^ 512 + f.data % 2 ^ 512)

/-- Is it a flit of the memory mesh? -/
def AnyFlit.isMem : AnyFlit → Bool | .ev _ => false | .mem _ => true
/-- Its plane: 0 for the event mesh and the request plane. -/
def AnyFlit.plane : AnyFlit → Nat | .ev _ => 0 | .mem f => f.plane
/-- Its key. -/
def AnyFlit.key : AnyFlit → Nat | .ev f => f.key | .mem f => f.key
/-- Its destination. -/
def AnyFlit.dest : AnyFlit → Nat | .ev f => f.dest | .mem f => f.dest

/-- R127: the classes that are sprayed: VC0, VC1, VC6 and responses. -/
def AnyFlit.sprayed : AnyFlit → Bool
  | .ev f => f.vc = 0 || f.vc = 1 || f.vc = 6
  | .mem f => f.resp

end Sys2Proof

namespace Sys2Proof.Machine

/-- Bits [hi:lo] of a number. -/
def nb (n hi lo : Nat) : Nat := n / 2 ^ lo % 2 ^ (hi + 1 - lo)

/-- The RTR page of a position. -/
def rtr (p : Nat) : Page := ⟨.rtr, p⟩

/-- The PLC page. -/
def pPlc : Page := ⟨.plc, 0⟩

/-! ### Endpoints -/

/-- Table 5.1: is the ID a physical Cabinet? -/
def isCab (e : Nat) : Bool := decide (e < 288)

/-- Table 5.1: is the ID an intake channel? -/
def isChan (e : Nat) : Bool := decide (0x120 ≤ e) && decide (e < 0x130)

/-- Tables 5.1, 5.2: the router and the edge port where an edge endpoint of the event mesh is attached. -/
def evAttach (e : Nat) : Option (Nat × Nat) :=
  if isChan e then
    let n := e - 0x120
    if n < 8 then some (18 * (2 * n + 1), 4) else some (18 * (2 * n - 15) + 17, 2)
  else if e = 0x130 then some (4, 1) else if e = 0x131 then some (13, 1)
  else if e = 0x132 then some (18 * 15 + 4, 3) else if e = 0x133 then some (18 * 15 + 13, 3)
  else if e = 0x160 then some (0, 4) else if e = 0x161 then some (36, 4) else none

/-- Tables 5.1, 5.2: the same for the memory mesh. -/
def memAttach (e : Nat) : Option (Nat × Nat) :=
  if isChan e then evAttach e
  else if 0x140 ≤ e ∧ e < 0x160 then
    let s := (e - 0x140) / 8
    let i := (e - 0x140) % 8
    let col := if s % 2 = 0 then 1 + i else 9 + i
    if s < 2 then some (col, 1) else some (18 * 15 + col, 3)
  else if e = 0x161 then some (36, 4)
  else if 0x162 ≤ e ∧ e < 0x166 then some (18 * (4 + 2 * (e - 0x162)), 4) else none

/-- The event-mesh endpoint attached at an edge port, if one is. -/
def evEndpointAt (p port : Nat) : Option Nat :=
  ((List.range 16).map (0x120 + ·) ++ [0x130, 0x131, 0x132, 0x133, 0x160, 0x161]).find? (fun e => evAttach e = some (p, port))

/-- R1, R122: is the endpoint present in this part? -/
def State.endpointPresent (s : State) (e : Nat) : Bool :=
  if isCab e then s.fuses.posEn.testBit e
  else if isChan e then s.fuses.chEn.testBit (e - 0x120)
  else if 0x130 ≤ e ∧ e < 0x134 then s.fuses.stkEn.testBit (e - 0x130)
  else if 0x140 ≤ e ∧ e < 0x160 then s.fuses.stkEn.testBit ((e - 0x140) / 8)
  else true

/-- R131: the index of an endpoint in sequence state: its logical Cabinet when it is a Cabinet of the partition, its ID otherwise. -/
def State.seqIndex (s : State) (k e : Nat) : Nat :=
  if isCab e then match s.logicalAny k e with | some c => 1024 + c | none => e else e

/-- The key of a pair's state: destination, source, partition and class (R130). -/
def State.pairKey (s : State) (k src dest cls : Nat) : Nat :=
  ((s.seqIndex k dest * 2048 + s.seqIndex k src) * 64 + k) * 8 + cls

/-! ### Injection -/

/-- The router input at which an endpoint's flits enter. -/
def entryPort (e : Nat) : Nat × Nat := if isCab e then (e, 0) else (evAttach e).getD (0, 4)

/-- A flit that comes to a router input now. -/
def State.newHop (s : State) (p port : Nat) (esc xy : Bool) (f : AnyFlit) : Hop := ⟨p, port, esc, xy, f, false, none, s.now, s.now⟩

/-- A flit enters the mesh at its source's router. -/
def State.enter (s : State) (f : Flit) : State :=
  { s with net := s.net ++ [s.newHop (entryPort f.src).1 (entryPort f.src).2 false false (.ev f)] }

/-- The sources of a partition. -/
def State.source (s : State) (k e : Nat) : Source := SMap.get (fun _ => Source.reset) s.sources (512 * k + e)

/-- The state with one source replaced. -/
def State.setSource (s : State) (k e : Nat) (v : Source) : State :=
  { s with sources := SMap.set (fun _ => Source.reset) s.sources (512 * k + e) v }

/-- The source whose horizon an endpoint's events count for: those the Bureau's endpoint injects are the HQ engine's (R420). -/
def eventSource (e : Nat) : Nat := if e = 0x161 then 0x162 else e

/-- R194: a source remembers a released event flit until it is accepted. -/
def State.remember (s : State) (k e dest cls seq left : Nat) : State :=
  let src := eventSource e
  let v := s.source k src
  s.setSource k src { v with released := v.released + 1, sent := v.sent ++ [⟨dest, cls, seq, left, v.released⟩] }

/-- R130: a source injects a unicast flit on VC0, VC1 or VC6 with the pair's next sequence number; an event flit is remembered
until accepted. Other classes carry sequence number zero. -/
def State.inject (s : State) (src dest vc key kind payload : Nat) : State :=
  if vc = 0 || vc = 1 || vc = 6 then
    let pk := s.pairKey key src dest vc
    let q := SMap.get (fun _ => 0) s.seqs pk
    let s := ({ s with seqs := SMap.set (fun _ => 0) s.seqs pk ((q + 1) % 4096) }).enter ⟨dest, src, vc, key, q, kind, 0, payload⟩
    if kind = 0 then s.remember key src (s.seqIndex key dest) vc q 1 else s
  else s.enter ⟨dest, src, vc, key, 0, kind, 0, payload⟩

/-- The leaf count of a tree (R147). -/
def State.leafCount (s : State) (key dest : Nat) : Nat :=
  SMap.get (fun _ => 0) s.leaves (if dest ≥ 0x1C0 then 4096 + key else 64 * key + (dest - 0x180))

/-- R147: a source injects a tree flit with the tree's next sequence number; an event flit is remembered until every leaf has
accepted its copy. -/
def State.injectTree (s : State) (src dest vc key kind tag payload : Nat) : State :=
  if vc = 2 then s.enter ⟨dest, src, vc, key, 0, kind, tag, payload⟩
  else
    let pk := ((dest * 2048 + s.seqIndex key src) * 64 + key) * 8 + vc
    let q := SMap.get (fun _ => 0) s.seqs pk
    let s := ({ s with seqs := SMap.set (fun _ => 0) s.seqs pk ((q + 1) % 4096) }).enter ⟨dest, src, vc, key, q, kind, tag, payload⟩
    if kind = 0 then s.remember key src dest vc q (s.leafCount key dest) else s

/-- R364: an event to a parked logical Cabinet is discarded and counted. -/
def State.parkedDrop (s : State) (k c : Nat) : State :=
  ((s.incCtr pPlc 0x080).raise pPlc 3).err pPlc 3 0x0E4 (c % 256 + k % 64 * 256)

/-- Table 5.5: the payload of an event flit. -/
def eventPayload (time axon source pay interval type : Nat) : Nat :=
  time % 2 ^ 48 * 2 ^ 80 + axon % 2 ^ 16 * 2 ^ 64 + source % 2 ^ 23 * 2 ^ 41 + pay % 256 * 2 ^ 33 + interval % 2 ^ 16 * 2 ^ 17 +
    type % 16 * 2 ^ 13

/-- The time field of an event payload. -/
def evTime (p : Nat) : Nat := nb p 127 80
/-- The axon field. -/
def evAxon (p : Nat) : Nat := nb p 79 64
/-- The source field. -/
def evSource (p : Nat) : Nat := nb p 63 41
/-- The payload field. -/
def evPay (p : Nat) : Nat := nb p 40 33
/-- The interval field. -/
def evInterval (p : Nat) : Nat := nb p 32 17
/-- The type field. -/
def evType (p : Nat) : Nat := nb p 16 13

/-- R116, R364: a source sends an event to a logical Cabinet of the partition: through the logical map, or discarded when the
Cabinet is parked or outside the partition. -/
def State.sendEvent (s : State) (src key cab payload : Nat) : State :=
  let m := s.mapEntryAt src key cab
  if !m.valid then s
  else if m.parked then s.parkedDrop key cab
  else s.inject src m.phys 0 key 0 payload

/-! ### Routing -/

/-- The neighbour of a position through a port, and the port at which a flit arrives there; none off the grid. -/
def neighbour (p port : Nat) : Option (Nat × Nat) :=
  if port = 1 then (if 18 ≤ p then some (p - 18, 3) else none)
  else if port = 2 then (if p % 18 < 17 then some (p + 1, 4) else none)
  else if port = 3 then (if p + 18 < 288 then some (p + 18, 1) else none)
  else if port = 4 then (if 0 < p % 18 then some (p - 1, 2) else none)
  else none

/-- The output port from `p` towards an endpoint attached at router `q` through port `eport`: along the row first, or, where both
directions are productive and `goX` is false, along the column (R128). -/
def outPort (p q eport : Nat) (goX : Bool) : Nat :=
  let dx := p % 18 ≠ q % 18
  let dy := p / 18 ≠ q / 18
  let x := if p % 18 < q % 18 then 2 else 4
  let y := if p / 18 < q / 18 then 3 else 1
  if dx && dy then (if goX then x else y) else if dx then x else if dy then y else eport

/-- R122: the discard of a flit with a reserved or absent destination, or past its hop limit. -/
def State.hopDiscard (s : State) (p dest : Nat) : State := (s.err (rtr p) 3 0x033 (dest % 512)).raise (rtr p) 10

/-- The key mask of a router's input port (R140): EKEY for the event mesh, MKEY for the memory mesh. Bit 0 reads 1. -/
def State.keyAllowed (s : State) (p port key : Nat) (memMesh : Bool) : Bool :=
  key = 0 || (s.rdN (rtr p) ((if memMesh then 0x0C0 else 0x080) + 8 * port + 4 * (key / 32))).testBit (key % 32)

/-- Endpoint IDs of Table 5.1 that a unicast event-mesh flit may name. -/
def evDestValid (e : Nat) : Bool := isCab e || isChan e || (decide (0x130 ≤ e) && decide (e < 0x134)) || e = 0x160 || e = 0x161

/-- Endpoint IDs of Table 5.1 that a memory-mesh flit may name. -/
def memDestValid (e : Nat) : Bool :=
  isCab e || isChan e || (decide (0x140 ≤ e) && decide (e < 0x160)) || e = 0x161 || (decide (0x162 ≤ e) && decide (e < 0x166))

/-! ### Links -/

/-- A link, as an index: the router port it ends at or starts from, the plane and the mesh. -/
def linkKey (p port plane : Nat) (memMesh : Bool) : Nat := ((p * 5 + port) * 4 + plane) * 2 + b2n memMesh

/-- What a link holds. -/
def State.link (s : State) (k : Nat) : Link := SMap.get (fun _ => Link.reset) s.links k

/-- The state with a link replaced. -/
def State.setLinkAt (s : State) (k : Nat) (v : Link) : State := { s with links := SMap.set (fun _ => Link.reset) s.links k v }

/-- The location of a link error (Table 5.12, code 0x020). -/
def linkLoc (port plane : Nat) (memMesh : Bool) : Nat := b2n memMesh * 2 ^ 15 + port * 2 ^ 12 + plane * 2 ^ 10

/-- The state with the retry count of a link replaced. -/
def State.setRetries (s : State) (k n : Nat) : State := s.setLinkAt k { s.link k with retries := n, failing := none }

/-- R140: the discard at a key check. -/
def State.keyDrop (s : State) (p port key : Nat) (memMesh : Bool) : State :=
  ((s.incCtr (rtr p) 0x05C).err (rtr p) 6 0x030 (b2n memMesh * 2 ^ 15 + port * 2 ^ 12 + key % 64)).raise (rtr p) 0

/-- R138, R139: a flit that fails its CRC-16 is not taken; the retry is counted, and the consecutive ones of this flit with it. -/
def State.linkRetry (s : State) (p port : Nat) (f : AnyFlit) : State :=
  let k := linkKey p port f.plane f.isMem
  let l := s.link k
  let s := s.setLinkAt k { l with retries := if l.failing = some f then l.retries + 1 else 1, failing := some f }
  ((s.incCtr (rtr p) 0x064).err (rtr p) 1 0x020 (linkLoc port f.plane f.isMem)).raise (rtr p) 5

/-- LINK_STATE of a port (Table 5.13) as its own end of the link stands: 0 DOWN, 1 HALF, 2 FULL. The stored field is 2 less this, so that a link after reset
runs in full; Peek.lean gives what the register reads. -/
def State.ownLink (s : State) (p port : Nat) (memMesh : Bool) : Nat :=
  let lo := (if memMesh then 10 else 0) + 2 * port
  2 - s.fld (rtr p) 0x068 (lo + 1) lo

/-- The state of a link: the worse of its two ends. -/
def State.linkWidth (s : State) (p port : Nat) (memMesh : Bool) : Nat :=
  match neighbour p port with
  | some (q, i) => min (s.ownLink p port memMesh) (s.ownLink q i memMesh)
  | none => s.ownLink p port memMesh

/-- Does a link of this position stand in a state (Table 5.11: DEGRADED, LINK_FAIL)? -/
def State.anyLink (s : State) (p v : Nat) : Bool := (List.range 5).any fun i => s.linkWidth p i false = v || s.linkWidth p i true = v

/-- DEGRADED and LINK_FAIL of a position's PG_STATUS. -/
def State.linkStatus (s : State) (p : Nat) : State := (s.setFlag (rtr p) 0x00C 1 (s.anyLink p 1)).setFlag (rtr p) 0x00C 2 (s.anyLink p 0)

/-- The state of a link set; the PG_STATUS of the positions at both its ends follow. -/
def State.setLink (s : State) (p port : Nat) (memMesh : Bool) (v : Nat) : State :=
  let lo := (if memMesh then 10 else 0) + 2 * port
  let s := (s.setFld (rtr p) 0x068 (lo + 1) lo (2 - v)).linkStatus p
  match neighbour p port with
  | some (q, _) => s.linkStatus q
  | none => s

/-- R139: after eight retries of one flit the link retrains and runs full, at half width or DOWN. -/
def execLinkRetrain (p port plane : Nat) (memMesh : Bool) (o : LinkOutcome) (s : State) : Result :=
  let k := linkKey p port plane memMesh
  if (s.link k).retries < 8 then done s
  else
    let s := s.setRetries k 0
    match o with
    | .full => done (s.setLink p port memMesh 2)
    | .half => done (((s.setLink p port memMesh 1).err (rtr p) 3 0x021 (linkLoc port plane memMesh)).raise (rtr p) 6)
    | .down =>
      done ((((s.setLink p port memMesh 0).err (rtr p) 3 0x022 (linkLoc port plane memMesh)).raise (rtr p) 7).reportWith (rtr p) 0x022
        (port + 8 * b2n memMesh))

/-- The D2D page of a group. -/
def d2dPage (g : Nat) : Page := ⟨.d2d, g⟩

/-- 05_fabric.md, Die-to-die links: the group that carries an edge port. -/
def d2dGroup (p port : Nat) : Option Nat :=
  if p < 18 then none
  else if port = 4 && p % 18 = 0 then some ((p / 18 - 1) / 5)
  else if port = 2 && p % 18 = 17 then some (3 + (p / 18 - 1) / 5) else none

/-- R124: does the group of an edge port, if it has one, carry traffic? -/
def State.d2dUp (s : State) (p port : Nat) : Bool :=
  match d2dGroup p port with
  | some g => decide (2 ≤ s.fld (d2dPage g) 0x044 2 0)
  | none => true

/-- R124: a flit crosses the group of an edge port, so the frames of its direction pass: none of them fails consecutively. -/
def State.d2dCross (s : State) (p port : Nat) (inward : Bool) : State :=
  match d2dGroup p port with
  | some g => { s with d2dReplays := SMap.set (fun _ => (0, 0)) s.d2dReplays (2 * g + b2n inward) (0, 0) }
  | none => s

/-! ### FWD (R150) -/

/-- What is left of FWD.LIFE, in units of 16 ns. -/
def State.fwdLeft (s : State) (p : Nat) : Nat := s.fld (rtr p) 0x058 27 16 - (s.now - (s.link (linkKey p 0 0 false)).fwdAt) / 512

/-- Does a router forward: V, while LIFE has not run out? -/
def State.fwdOn (s : State) (p : Nat) : Bool := s.flag (rtr p) 0x058 31 && decide (0 < s.fwdLeft p)

/-- FWD is written: LIFE counts from now. -/
def State.setFwd (s : State) (p : Nat) (w : Word) : State :=
  let k := linkKey p 0 0 false
  (s.wr (rtr p) 0x058 w).setLinkAt k { s.link k with fwdAt := s.now }

/-- R150: FWD.LIFE has counted down to zero, and V clears. -/
def execFwdExpiry (p : Nat) (s : State) : Result :=
  if s.flag (rtr p) 0x058 31 && !s.fwdOn p then done ((s.setFld (rtr p) 0x058 27 16 0).setFlag (rtr p) 0x058 31 false) else done s

/-! ### Buffers and credits -/

/-- Table 5.7: the depth of an event-mesh VC. -/
def vcDepth (v : Nat) : Nat := if v < 4 || v = 6 then 4 else 2

/-- The VC on which a flit stands (Table 5.7), or its class on the memory mesh (Table 5.8): 0 RQ, 1 SYS, 2 RS, 3 RESC. -/
def Hop.vc (h : Hop) : Nat :=
  match h.flit with
  | .ev f => if h.esc then 5 else f.vc
  | .mem f => if f.resp then (if h.esc then 3 else 2) else if 2 ≤ f.op then 1 else 0

/-- The input buffer in which a flit stands (R127): router, port, mesh, plane and VC. -/
def Hop.buffer (h : Hop) : Nat × Nat × Bool × Nat × Nat := (h.pos, h.port, h.flit.isMem, h.flit.plane, h.vc)

/-- How many flits stand in a buffer's list: each that waits for one output, and the copies of a tree flit as one. Equal tree flits count apart, since they
leave by each output in order. -/
def standIn (l : List Hop) : Nat :=
  let copies := l.filter (·.out.isSome)
  (l.filter (·.out.isNone)).length +
    ((copies.map (·.flit)).eraseDups.map fun f => (List.range 5).foldl (fun a o => max a ((copies.filter fun h => h.flit = f && h.out = some o).length)) 0).foldl (· + ·) 0

/-- The flits that stand in a buffer, or are on the way to it, a reduction that waits for the combiner with them (R148). -/
def State.standing (s : State) (b : Nat × Nat × Bool × Nat × Nat) : Nat :=
  standIn (s.net.filter fun h => h.buffer = b) + (s.redIn.filter fun h => h.buffer = b).length

/-- The depth of a buffer. -/
def bufDepth (memMesh : Bool) (vc : Nat) : Nat := if memMesh then Config.memDepth vc + 1 else vcDepth vc

/-- R137: the flits that stand in the buffer behind an output, if it leads to a router. -/
def State.behind (s : State) (p out : Nat) (h : Hop) : Nat :=
  match neighbour p out with
  | some (q, i) => s.standing (q, i, h.flit.isMem, h.flit.plane, h.vc)
  | none => 0

/-- R137: does the router hold a credit for the buffer behind an output? -/
def State.credit (s : State) (p out : Nat) (h : Hop) : Bool := decide (s.behind p out h < bufDepth h.flit.isMem h.vc)

/-- Does a flit stand at the head of its buffer: no other before it there, or only copies of a tree flit for other outputs? A reduction that waits for the
combiner holds its buffer (R148). -/
def State.atHead (s : State) (h : Hop) : Bool :=
  !(s.redIn.any fun g => g.buffer = h.buffer) && !(s.net.takeWhile (· ≠ h)).any fun g => g.buffer = h.buffer && (h.out.isNone || g.out.isNone || g.out = h.out)

/-- A list of flits with one of them replaced by others, in its place. -/
def splice (h : Hop) (new : List Hop) : List Hop → List Hop
  | [] => []
  | g :: l => if g = h then new ++ l else g :: splice h new l

/-- The next flit of the buffer that a flit has left comes to its head; the other copies of a tree flit stand there already. -/
def promote (h : Hop) (now : Nat) : List Hop → List Hop
  | [] => []
  | g :: l =>
    if g.buffer = h.buffer then (if g.flit = h.flit && g.out.isSome then g else { g with head := now }) :: l else g :: promote h now l

/-- A flit leaves its buffer. -/
def State.unbuffer (s : State) (h : Hop) : List Hop := if s.atHead h then promote h s.now (s.net.erase h) else s.net.erase h

/-! ### Routing -/

/-- Where an endpoint hangs on a mesh: its router and the port to it. -/
def homeOf (memMesh : Bool) (e : Nat) : Nat × Nat := if isCab e then (e, 0) else ((if memMesh then memAttach e else evAttach e).getD (0, 0))

/-- R128, R129, R135: the output that a flit requests: the one it is a copy for; else its only productive one; else the X direction for XY routing, and for
sprayed routing the direction behind which the VC has more free credits, the X direction on a tie. -/
def State.wants (s : State) (h : Hop) : Nat :=
  match h.out with
  | some o => o
  | none =>
    let q := homeOf h.flit.isMem h.flit.dest
    let x := outPort h.pos q.1 q.2 true
    let y := outPort h.pos q.1 q.2 false
    if h.xy || h.esc || !h.flit.sprayed || decide (s.behind h.pos x h ≤ s.behind h.pos y h) then x else y

/-- R129: does the router at which a flit is injected route it XY? -/
def State.injectXy (s : State) (p : Nat) : AnyFlit → Bool
  | .ev f => !(AnyFlit.ev f).sprayed || !s.flag (rtr p) 0x040 0 || s.pressure.contains f.dest
  | .mem f => !f.resp || !s.flag (rtr p) 0x040 1

/-- Is a port one at which endpoints inject: the local port or an edge port? -/
def entryAt (p port : Nat) : Bool := port = 0 || (neighbour p port).isNone

/-! ### Arbitration (R142) -/

/-- Whose tokens a flit is served with: its key's, or those of the reserve, 64 (Tables 5.7 and 5.8; log entry 11). -/
def Hop.share (h : Hop) : Nat :=
  match h.flit with
  | .ev f => if f.vc = 3 || f.vc = 4 || f.vc = 7 then 64 else f.key
  | .mem f => if f.key = 0 && !f.resp then 64 else f.key

/-- w[k] at a router (R141, R142). -/
def State.weight (s : State) (p k : Nat) (memMesh : Bool) : Nat :=
  if k = 64 then (if memMesh then 8 else 24)
  else if memMesh then s.fld (rtr p) (0x100 + 4 * k) 15 8 else s.fld (rtr p) (0x100 + 4 * k) 7 0

/-- The congestion mode of a key at a router: 0 WORK_CONSERVING, 1 SCHEDULED, 2 THROTTLED; the reserve uses idle slots. -/
def State.shareMode (s : State) (p k : Nat) (memMesh : Bool) : Nat :=
  if k = 64 then 0 else if memMesh then s.fld (rtr p) (0x100 + 4 * k) 19 18 else s.fld (rtr p) (0x100 + 4 * k) 17 16

/-- The CLK_FAB cycle of device time: 32 fu. -/
def State.fabCycle (s : State) : Nat := s.now / 32

/-- tok[k] of an output in this cycle. -/
def State.tokens (s : State) (p out plane k : Nat) (memMesh : Bool) : Nat :=
  let v := SMap.get (fun _ => (0, 0)) (s.link (linkKey p out plane memMesh)).tok k
  min (v.1 + s.weight p k memMesh * (s.fabCycle - v.2)) 512

/-- R142: what the bucket of a THROTTLED key lacks at an injection port, in 1/256 flit. -/
def State.bucketLack (s : State) (p port plane k : Nat) (memMesh : Bool) : Nat :=
  let v := SMap.get (fun _ => (0, 0)) (s.link (linkKey p port plane memMesh)).bucket k
  v.1 - s.weight p k memMesh * (s.fabCycle - v.2)

/-- R141: SHARE_k of a router is about to change: its tokens and buckets count at the old weight up to this cycle. -/
def State.settleShare (s : State) (p k : Nat) : State :=
  (List.range 20).foldl (fun s j =>
    let m := decide (j % 4 ≠ 3)
    let plane := if m then j % 4 else 0
    let n := linkKey p (j / 4) plane m
    let l := s.link n
    s.setLinkAt n { l with tok := SMap.set (fun _ => (0, 0)) l.tok k (s.tokens p (j / 4) plane k m, s.fabCycle)
                           bucket := SMap.set (fun _ => (0, 0)) l.bucket k (s.bucketLack p (j / 4) plane k m, s.fabCycle) }) s

/-- R141: would a write of SHARE_k make the weights of all keys exceed their sums? -/
def State.shareOver (s : State) (p : Page) (off : Nat) (w : Word) (hi lo most : Nat) : Bool :=
  decide (most < (List.range 64).foldl (fun a k => a + (if 0x100 + 4 * k = off then w.bits hi lo else s.fld p (0x100 + 4 * k) hi lo)) 0)

/-- R141: a write of SHARE_k: a weight that would make its sum too large stays, with code 0x010. -/
def State.shareWrite (s : State) (i off : Nat) (w : Word) : State :=
  let p := rtr i
  let ew := s.shareOver p off w 7 0 232
  let mw := s.shareOver p off w 15 8 248
  let w' := (if ew then fun (x : Word) => x.setBits 7 0 (s.fld p off 7 0) else id) (if mw then w.setBits 15 8 (s.fld p off 15 8) else w)
  let t := plainWrite p off w' (s.settleShare i ((off - 0x100) / 4))
  if ew || mw then t.badEnc p off else t

/-- R142: does a flit inject through a token bucket? The classes that shares do not limit do not (R143). -/
def State.throttled (s : State) (h : Hop) : Bool :=
  entryAt h.pos h.port && h.share ≠ 64 && !h.esc && (h.flit.isMem || h.vc ≠ 2) && s.shareMode h.pos h.share h.flit.isMem = 2

/-- R142: a flit of a THROTTLED key waits at its source, before the router's input takes it, while the bucket holds less than one flit. -/
def State.bucketOk (s : State) (h : Hop) : Bool :=
  !s.throttled h || decide (s.bucketLack h.pos h.port h.flit.plane h.share h.flit.isMem + 256 ≤ 256 * s.fld (rtr h.pos) (0x100 + 4 * h.share) 24 20)

/-- Table 5.7: at most three VC4 flits per 100 cycles per link. -/
def State.vc4Ok (s : State) (p out : Nat) : Bool :=
  decide (((s.link (linkKey p out 0 false)).vc4.filter fun c => decide (s.fabCycle < c + 100)).length < 3)

/-- Is it a reduction on its way to the combiner of its router (R148)? -/
def Hop.isRed (h : Hop) : Bool := h.out.isNone && match h.flit with | .ev f => f.kind = 3 | .mem _ => false

/-- R142: the flits that are ready at an output, in the order in which they came. -/
def State.readyAt (s : State) (p out plane : Nat) (memMesh : Bool) : List Hop :=
  s.net.filter fun h => h.pos = p && h.taken && !h.isRed && h.flit.isMem = memMesh && h.flit.plane = plane && s.wants h = out && s.atHead h && s.credit p out h &&
    (memMesh || h.vc ≠ 4 || s.vc4Ok p out)

/-- R142: the oldest flit of a list, then the lowest input port. -/
def oldest : List Hop → Option Hop
  | [] => none
  | h :: l =>
    match oldest l with
    | none => some h
    | some g => if h.came / 32 < g.came / 32 || (h.came / 32 = g.came / 32 && decide (h.port ≤ g.port)) then some h else some g

/-- R142: the key with the most tokens, the lowest on a tie. -/
def bestKey (tok : Nat → Nat) : List Nat → Option Nat
  | [] => none
  | k :: l =>
    match bestKey tok l with
    | none => some k
    | some j => if tok j < tok k || (tok j = tok k && decide (k ≤ j)) then some k else some j

/-- R142: the rotating order of the classes of a key. -/
def classOrder (memMesh : Bool) (rot : Nat) : List Nat :=
  if memMesh then [1, 0, 2] else if rot = 1 then [1, 6, 0] else if rot = 2 then [6, 0, 1] else [0, 1, 6]

/-- R142: the flit that an output sends, and how: nothing for the strict classes, else whether in a lent slot. -/
def State.arbitrate (s : State) (p out plane : Nat) (memMesh : Bool) : Option (Hop × Option Bool) :=
  let l := s.readyAt p out plane memMesh
  let pick (k : Nat) : Option Hop :=
    let mine := l.filter (·.share = k)
    match (classOrder memMesh (s.link (linkKey p out plane memMesh)).rot).findSome? fun c => oldest (mine.filter (·.vc = c)) with
    | some h => some h
    | none => oldest mine
  match oldest (l.filter fun h => !memMesh && h.vc = 2) with
  | some h => some (h, none)
  | none =>
    match oldest (l.filter (·.esc)) with
    | some h => some (h, none)
    | none =>
      let tok (k : Nat) : Nat := s.tokens p out plane k memMesh
      let keys := (l.map Hop.share).eraseDups
      match bestKey tok (keys.filter fun k => decide (256 ≤ tok k)) with
      | some k => (pick k).map fun h => (h, some false)
      | none =>
        match bestKey tok (keys.filter fun k => s.shareMode p k memMesh ≠ 1) with
        | some k => (pick k).map fun h => (h, some true)
        | none => none

/-- R139: may a link of this width carry a flit in this cycle, after one in cycle `last`: one a cycle, or one in two on a half link. While device time does
not run, every command falls in a cycle of its own (log entry 11). -/
def State.linkFree (s : State) (width : Nat) (last : Option Nat) : Bool :=
  width ≠ 0 && match last with
    | some c => s.tb.state ≠ .running || decide (c + (if width = 1 then 2 else 1) ≤ s.fabCycle)
    | none => true

/-- R121, R124, R139: may an output send in this cycle, for the link behind it: the link is not DOWN nor its die-to-die group? -/
def State.linkOpen (s : State) (p out plane : Nat) (memMesh : Bool) : Bool :=
  s.d2dUp p out && s.linkFree (s.linkWidth p out memMesh) (s.link (linkKey p out plane memMesh)).sent

/-- R123: is a flit of the event mesh ready to leave by a port of the die-to-die group of an edge port? It goes before those of the memory mesh. -/
def State.groupBusy (s : State) (p out : Nat) : Bool :=
  (d2dGroup p out).isSome && s.net.any fun h => !h.flit.isMem && h.taken && !h.isRed && d2dGroup h.pos (s.wants h) = d2dGroup p out &&
    s.linkOpen h.pos (s.wants h) 0 false && (s.arbitrate h.pos (s.wants h) 0 false).isSome

/-- R123, R142: may an output send in this cycle? -/
def State.outputOpen (s : State) (p out plane : Nat) (memMesh : Bool) : Bool :=
  s.linkOpen p out plane memMesh && !(memMesh && s.groupBusy p out)

/-- A flit has left a router by an output: to a neighbour's input, to the local endpoint, or to the endpoint at an edge port. The Hutches serve memory
requests as MEMORY_REQUEST, and a response ends at its requester. -/
def State.leave (s : State) (p out : Nat) (h : Hop) : State :=
  match (if out = 0 then none else neighbour p out), h.flit with
  | some (q, port), f => { s with net := s.net ++ [s.newHop q port h.esc h.xy f] }
  | none, .mem _ => s
  | none, .ev f =>
    if out = 0 then { s with arrivals := s.arrivals ++ [⟨p, h.esc, f⟩] }
    else match evEndpointAt p out with
      | some e => if s.endpointPresent e then { s with arrivals := s.arrivals ++ [⟨e, h.esc, f⟩] } else s
      | none => s

/-- R142: what an output keeps of a flit it sends: the tokens it cost, the cycle, the rotation, and the count of VC4. -/
def State.spend (s : State) (out : Nat) (h : Hop) (how : Option Bool) : State :=
  let m := h.flit.isMem
  let k := linkKey h.pos out h.flit.plane m
  let l := s.link k
  s.setLinkAt k { l with
    sent := some s.fabCycle
    tok := if how.isNone then l.tok else SMap.set (fun _ => (0, 0)) l.tok h.share (s.tokens h.pos out h.flit.plane h.share m - 256, s.fabCycle)
    rot := if how.isNone || m then l.rot else if h.vc = 0 then 1 else if h.vc = 1 then 2 else if h.vc = 6 then 0 else l.rot
    vc4 := if !m && h.vc = 4 then (s.fabCycle :: l.vc4).take 3 else l.vc4 }

/-- R142: an injected flit of a THROTTLED key takes one flit from its bucket. -/
def State.payBucket (s : State) (h : Hop) : State :=
  if s.throttled h then
    let k := linkKey h.pos h.port h.flit.plane h.flit.isMem
    let l := s.link k
    s.setLinkAt k { l with
      bucket := SMap.set (fun _ => (0, 0)) l.bucket h.share (s.bucketLack h.pos h.port h.flit.plane h.share h.flit.isMem + 256, s.fabCycle) }
  else s

/-- Table 5.13: WATCH_FLITS and WATCH_LENT count a flit of the watched key on the watched output. -/
def State.watch (s : State) (out : Nat) (h : Hop) (lent : Bool) : State :=
  let p := rtr h.pos
  if s.fld p 0x06C 5 0 = h.flit.key && s.fld p 0x06C 8 6 = out && s.flag p 0x06C 9 = h.flit.isMem then
    (if lent then (s.incCtr p 0x070).incCtr p 0x074 else s.incCtr p 0x070)
  else s

/-- An output sends a flit. -/
def State.sendOut (s : State) (h : Hop) (out : Nat) (how : Option Bool) : State :=
  let s := (s.spend out h how).watch out h (how = some true)
  ({ s with net := s.unbuffer h }.d2dCross h.pos out false).leave h.pos out h

/-- A flit that stands in a buffer goes on, if the output it requests sends it in this cycle; else it waits (R142). A reduction at the head of its buffer
goes to the combiner, and holds the buffer until that has taken it (R148). -/
def State.sendOn (s : State) (h : Hop) : State :=
  let out := s.wants h
  if h.isRed then (if s.atHead h then { s with net := s.net.erase h, redIn := s.redIn ++ [h] } else s)
  else if !s.outputOpen h.pos out h.flit.plane h.flit.isMem then s
  else match s.arbitrate h.pos out h.flit.plane h.flit.isMem with
    | some (g, how) => if g = h then s.sendOut h out how else s
    | none => s

/-! ### A router input -/

/-- The flits that take a buffer in place of one, and try their outputs. -/
def State.setOff (s : State) (h : Hop) (new : List Hop) : State :=
  new.foldl State.sendOn { s with net := splice h new s.net }

/-- A flit is gone from its input. -/
def State.gone (s : State) (h : Hop) : State := { s with net := s.unbuffer h }

/-- R146, R147: the tree of a flit at a router: its output set, or none where the tree is not the flit's. Only an endpoint of the partition, or of key 0,
injects on its broadcast tree. -/
def State.treeSet (s : State) (p : Nat) (f : Flit) : Option Nat :=
  if 0x1C0 ≤ f.dest then
    (if f.key = 0 || f.key = f.dest - 0x1C0 then some (s.fld (rtr p) (0x200 + 4 * (f.dest - 0x1C0)) 4 0) else none)
  else
    let m := s.rd (rtr p) (0x300 + 4 * (f.dest - 0x180))
    if m.bit 31 && m.bits 21 16 = f.key then some (m.bits 4 0) else none

/-- R146: a copy for every output of the set but the link the flit came in by. -/
def copiesOf (h : Hop) (set : Nat) : List Hop :=
  ((List.range 5).filter fun o => set.testBit o && (o = 0 || o ≠ h.port)).map fun o => { h with out := some o }

/-- R122, R146, R148, R150: an event flit that has taken its buffer at an input is routed: a RED_UP to the combiner, a tree flit as its copies, one for
this position to where FWD says, and any other towards its endpoint. -/
def State.routeEv (s : State) (h g : Hop) (f : Flit) : State :=
  let p := h.pos
  if f.kind = 3 then s.setOff h [g]
  else if 0x180 ≤ f.dest then
    match s.treeSet p f with
    | some set => if (copiesOf g set).isEmpty then s.gone h else s.setOff h (copiesOf g set)
    | none => if 0x1C0 ≤ f.dest then s.gone h else (s.gone h).err (rtr p) 6 0x034 (f.dest - 0x180)
  else if !evDestValid f.dest then (s.gone h).hopDiscard p f.dest
  else
    let f := if f.dest = p && s.fwdOn p then { f with dest := s.fld (rtr p) 0x058 8 0 } else f
    if p = (homeOf false f.dest).1 && !s.endpointPresent f.dest then (s.gone h).hopDiscard p f.dest
    else s.setOff h [{ g with flit := .ev f }]

/-- R122: a memory-mesh flit that has taken its buffer is routed towards its endpoint. -/
def State.routeMem (s : State) (h g : Hop) (f : MFlit) : State :=
  if !memDestValid f.dest || (h.pos = (homeOf true f.dest).1 && !s.endpointPresent f.dest) then (s.gone h).hopDiscard h.pos f.dest
  else s.setOff h [g]

/-- R139, R142: what an input port keeps of a flit that comes in: no retry stands, the cycle, and the token of a THROTTLED key. -/
def State.came (s : State) (h : Hop) : State :=
  let k := linkKey h.pos h.port h.flit.plane h.flit.isMem
  let s := (s.setRetries k 0).payBucket h
  if entryAt h.pos h.port then s.setLinkAt k { s.link k with got := some s.fabCycle } else s

/-- R127, R137, R139, R142: may an endpoint's flit come in at the port where it is injected: the link carries one, the buffer has room and the bucket
holds a token? -/
def State.entryOpen (s : State) (h : Hop) : Bool :=
  let taken := standIn (s.net.filter fun g => g.buffer = h.buffer && g.taken) + (s.redIn.filter fun g => g.buffer = h.buffer).length
  !entryAt h.pos h.port ||
    (s.linkFree (s.linkWidth h.pos h.port h.flit.isMem) (s.link (linkKey h.pos h.port h.flit.plane h.flit.isMem)).got &&
      decide (taken < bufDepth h.flit.isMem h.vc) && s.bucketOk h)

/-- Is no flit before this one on the way into the same buffer? -/
def State.nextIn (s : State) (h : Hop) : Bool := !(s.net.takeWhile (· ≠ h)).any fun g => g.buffer = h.buffer && !g.taken

/-- R123: does a flit of the event mesh wait to come in by the die-to-die group of an edge port? It goes before those of the memory mesh. -/
def State.groupIn (s : State) (h : Hop) : Bool :=
  h.flit.isMem && (d2dGroup h.pos h.port).isSome &&
    s.net.any fun g => !g.flit.isMem && !g.taken && d2dGroup g.pos g.port = d2dGroup h.pos h.port && s.nextIn g && s.entryOpen g

/-- May a router input take a flit that has come with a sound CRC? -/
def State.mayTake (s : State) (h : Hop) : Bool := s.d2dUp h.pos h.port && s.nextIn h && s.entryOpen h && !s.groupIn h

/-- R140, R122, R129: a router input takes a flit: its key is checked, it takes a buffer, and it is routed; the hop count of all but RED_UP and RED_DOWN
goes up. -/
def State.take (s : State) (h : Hop) : State :=
  let p := h.pos
  let s := (s.came h).d2dCross p h.port true
  if !s.keyAllowed p h.port h.flit.key h.flit.isMem then (s.gone h).keyDrop p h.port h.flit.key h.flit.isMem
  else
    let g := if entryAt p h.port then { h with taken := true, xy := s.injectXy p h.flit, came := s.now, head := s.now } else { h with taken := true }
    match h.flit with
    | .ev f =>
      if f.kind = 3 || f.kind = 4 then s.routeEv h g f
      else if 63 ≤ f.tag then (s.gone h).hopDiscard p f.dest
      else s.routeEv h { g with flit := .ev { f with tag := f.tag + 1 } } { f with tag := f.tag + 1 }
    | .mem f =>
      if 63 ≤ f.hops then (s.gone h).hopDiscard p f.dest
      else s.routeMem h { g with flit := .mem { f with hops := f.hops + 1 } } { f with hops := f.hops + 1 }

/-- 16_integrity.md, Table 16.1: a parity error in the buffer from which a flit is read: code 0x050, BUF_PARITY, and the position reported faulted. The flit
is lost (DESIGN CHOICE, log entry 11). -/
def State.bufParity (s : State) (h : Hop) : State :=
  ((((s.gone h).err (rtr h.pos) 2 0x050 (b2n h.flit.isMem * 2 ^ 15 + h.port * 2 ^ 12)).raise (rtr h.pos) 11).report (rtr h.pos) 0x050)

/-- The flit that comes to a router input, or stands there. -/
def State.hopAt (s : State) (p port : Nat) (f : AnyFlit) : Option Hop := s.net.find? fun h => h.pos = p && h.port = port && h.flit = f

/-- R121, R138, R140, R142: a flit comes to a router input with a CRC-16, or stands in its buffer: it is taken, and goes on where its output sends it. One
that no router has sent comes from a neighbouring block, and waits there while the port cannot take it. `parity` tells of a parity error in the buffer it stands in. -/
def execFlitReceive (p port crc : Nat) (parity : Bool) (f : AnyFlit) (s : State) : Result :=
  if (s.dom 3).cur ≠ .run || s.boot.off then done s
  else match s.hopAt p port f with
    | none =>
      let h := s.newHop p port false false f
      if crc ≠ f.crc then done (s.linkRetry p port f)
      else if !s.d2dUp p port || (!entryAt p port && decide (bufDepth f.isMem h.vc ≤ s.standing h.buffer)) then done s
      else
        let s := { s with net := s.net ++ [h] }
        if s.mayTake h then done (s.take h) else done s
    | some h =>
      if h.taken then (if parity then done (s.bufParity h) else done ((s.net.filter fun g => g.pos = p && g.port = port && g.flit = f).foldl State.sendOn s))
      else if crc ≠ f.crc then done (s.linkRetry p port f)
      else if s.mayTake h then done (s.take h) else done s

/-- R135, R136: may this flit escape: one of the event mesh's VC0, VC1, VC3, VC4 or VC6, with a tree flit already copied, or a response? -/
def Hop.mayEscape (h : Hop) : Bool :=
  !h.esc && h.taken && match h.flit with
    | .ev f => (f.vc = 0 || f.vc = 1 || f.vc = 3 || f.vc = 4 || f.vc = 6) && (decide (f.dest < 0x180) || h.out.isSome)
    | .mem f => f.resp

/-- R135, R136: a flit that has stood 256 cycles at the head of its VC moves to VC5, a response to RESC, once a credit is there on its XY or tree
output. -/
def execEscape (p port : Nat) (f : AnyFlit) (s : State) : Result :=
  match s.net.find? (fun h => h.pos = p && h.port = port && h.flit = f && h.mayEscape) with
  | some h =>
    let g := { h with esc := true, head := s.now }
    if s.atHead h && decide (h.head + 8192 ≤ s.now) && s.credit p (s.wants g) g then
      done ((({ s with net := promote h s.now (splice h [g] s.net) }).incCtr (rtr p) 0x060).raise (rtr p) 1)
    else done s
  | none => done s

/-! ### Reductions -/

/-- The payload of a RED_UP or RED_DOWN flit (Table 5.10). -/
def redPayload (v op count exp inst : Nat) (incomplete ovf : Bool) : Nat :=
  v % 2 ^ 64 * 2 ^ 64 + v / 2 ^ 64 % 1024 * 2 ^ 54 + op % 4 * 2 ^ 52 + min count 1023 * 2 ^ 42 + exp % 1024 * 2 ^ 32 + inst % 65536 * 2 ^ 16 +
    b2n incomplete * 2 ^ 15 + b2n ovf * 2 ^ 14

/-- The 74-bit value of a RED_UP payload. -/
def redValue (pl : Nat) : Nat := nb pl 127 64 + nb pl 63 54 * 2 ^ 64

/-- The reduction port of a key at a router (Table 5.15): 0 for the root. -/
def State.redUpPort (s : State) (p key : Nat) : Nat := s.fld (rtr p) (0x200 + 4 * key) 10 8

/-- The open partials of a router. -/
def State.redPartials (s : State) (p : Nat) : List RedPartial := SMap.get (fun _ => []) s.partials p

/-- The state with a router's partials replaced. -/
def State.setPartials (s : State) (p : Nat) (l : List RedPartial) : State :=
  { s with partials := SMap.set (fun _ => []) s.partials p l }

/-- A RED_UP stands at a router for the output towards the root, in a buffer of the combiner's own (port 5). -/
def State.sendUp (s : State) (p : Nat) (f : Flit) : State :=
  match neighbour p (s.redUpPort p f.key) with
  | some _ => { s with net := s.net ++ [{ s.newHop p 5 false true (.ev f) with taken := true, out := some (s.redUpPort p f.key) }] }
  | none => s

/-- A partial as one RED_UP flit. -/
def partialFlit (p : Nat) (r : RedPartial) : Flit :=
  ⟨0, p, 2, r.key, 0, 3, r.tag, redPayload r.v r.op r.count r.exp r.inst false false⟩

/-- The root broadcasts a RED_DOWN on the partition's broadcast tree. -/
def State.redBroadcast (s : State) (p : Nat) (r : RedPartial) (v : Nat) (incomplete ovf : Bool) : State :=
  s.injectTree p (0x1C0 + r.key) 2 r.key 4 r.tag (redPayload (v % 2 ^ 64) r.op r.count r.exp r.inst incomplete ovf)

/-- R148: the root resolves a partial that is complete: the exact sum narrowed with OVF, or the minimum or maximum. -/
def redResult (r : RedPartial) : Nat × Bool :=
  let x := ofBits r.v 74
  if r.op = 1 then (toBits (sat x 64) 64, decide (sat x 64 ≠ x))
  else if r.op = 0 then (toBits (sat x 32) 64, decide (sat x 32 ≠ x))
  else (r.v % 2 ^ 64, false)

/-- R148: root_check: complete, over-count or mismatch, or timeout. -/
def State.rootCheck (s : State) (p : Nat) (r : RedPartial) : State :=
  let rest := (s.redPartials p).erase r
  if r.count = r.exp && !r.err then
    (s.setPartials p rest).redBroadcast p r (redResult r).1 false (redResult r).2
  else if r.count > r.exp || r.err then
    (((s.setPartials p rest).redBroadcast p r r.v true false).err (rtr p) 3 0x041 r.tag).raise (rtr p) 9
  else if s.now ≥ r.since + s.fld (rtr p) 0x048 15 0 * 32 then
    (((s.setPartials p rest).redBroadcast p r r.v true false).err (rtr p) 4 0x040 r.tag).raise (rtr p) 8
  else s

/-- R148: the value of a partial with one more contribution. The count goes past its field's 1,023 rather than wrap (00_scope.md), so an over-count shows. -/
def redCombine (r : RedPartial) (v op count exp : Nat) : RedPartial :=
  let bad := decide (exp ≠ r.exp) || decide (op ≠ r.op)
  let w := if r.op = 0 || r.op = 1 then (r.v + v) % 2 ^ 74 else if r.op = 2 then min r.v v else max r.v v
  { r with v := w, count := r.count + count, err := r.err || bad }

/-- The combiner has taken a reduction: it leaves its buffer. -/
def State.redTaken (s : State) (h : Hop) : State := { s with redIn := s.redIn.erase h, net := promote h s.now s.net }

/-- R148: a router combines a RED_UP that stands at one of its inputs, or holds it at the root while 16 partials are open, or forwards it. -/
def execRedUp (p : Nat) (f : Flit) (s : State) : Result :=
  let inst := nb f.payload 31 16
  let op := nb f.payload 53 52
  let count := nb f.payload 51 42
  let exp := nb f.payload 41 32
  let root := decide (s.redUpPort p f.key = 0)
  let ps := s.redPartials p
  match s.redIn.find? (fun h => h.pos = p && h.flit = .ev f) with
  | none => done s
  | some h =>
  let taken := s.redTaken h
  match ps.find? (fun r => r.key = f.key && r.tag = f.tag && r.inst = inst) with
  | none =>
    if 16 ≤ ps.length then (if root then done s else done (taken.sendUp p f))
    else
      let r : RedPartial := ⟨f.key, f.tag, inst, op, redValue f.payload, count, exp, false, s.now⟩
      let s := taken.setPartials p (ps ++ [r])
      if root then done (s.rootCheck p r)
      else if s.fld (rtr p) 0x044 7 0 = 0 then done ((s.setPartials p ps).sendUp p (partialFlit p r)) else done s
  | some r =>
    let r' := redCombine r (redValue f.payload) op count exp
    let s := taken.setPartials p (ps.erase r ++ [r'])
    let s := if r'.err && !r.err && !root then (s.err (rtr p) 3 0x041 r.tag).raise (rtr p) 9 else s
    if root then done (s.rootCheck p r')
    else if s.now ≥ r.since + s.fld (rtr p) 0x044 7 0 * 32 then done ((s.setPartials p (ps.erase r)).sendUp p (partialFlit p r'))
    else done s

/-- The open partial of a router with this key, tag and instance. -/
def State.findPartial (s : State) (p key tag inst : Nat) : Option RedPartial :=
  (s.redPartials p).find? fun r => r.key = key && r.tag = tag && r.inst = inst

/-- R148: a non-root partial whose combining window has passed is sent upward. -/
def execRedWindowExpiry (p key tag inst : Nat) (s : State) : Result :=
  match s.findPartial p key tag inst with
  | some r =>
    if s.redUpPort p key ≠ 0 && decide (s.now ≥ r.since + s.fld (rtr p) 0x044 7 0 * 32) then
      done ((s.setPartials p ((s.redPartials p).erase r)).sendUp p (partialFlit p r))
    else done s
  | none => done s

/-- The contributions to a partial that stand at the inputs of a router. -/
def State.redAt (s : State) (p key tag inst : Nat) : List Hop :=
  s.redIn.filter fun h => h.pos = p && match h.flit with | .ev f => f.key = key && f.tag = tag && nb f.payload 31 16 = inst | .mem _ => false

/-- A contribution combined into a partial (R148). -/
def redJoin (r : RedPartial) (h : Hop) : RedPartial :=
  match h.flit with
  | .ev f => redCombine r (redValue f.payload) (nb f.payload 53 52) (nb f.payload 51 42) (nb f.payload 41 32)
  | .mem _ => r

/-- R148: a root partial open for RED_TMO is broadcast as INCOMPLETE; contributions that stand at the root's inputs in this cycle are combined first. -/
def execRedTmo (p key tag inst : Nat) (s : State) : Result :=
  match s.findPartial p key tag inst with
  | some r =>
    if s.redUpPort p key ≠ 0 then done s
    else
      let l := s.redAt p key tag inst
      let r' := l.foldl redJoin r
      done (((l.foldl State.redTaken s).setPartials p ((s.redPartials p).erase r ++ [r'])).rootCheck p r')
  | none => done s

/-! ### Die-to-die groups -/

/-- The frame of a group last replayed in a direction, and how many times in a row. -/
def State.replaysOf (s : State) (g : Nat) (inward : Bool) : Nat × Nat := SMap.get (fun _ => (0, 0)) s.d2dReplays (2 * g + b2n inward)

/-- The state with that replaced. -/
def State.setReplays (s : State) (g : Nat) (inward : Bool) (v : Nat × Nat) : State :=
  { s with d2dReplays := SMap.set (fun _ => (0, 0)) s.d2dReplays (2 * g + b2n inward) v }

/-- No frame of a group fails consecutively. -/
def State.noReplays (s : State) (g : Nat) : State := (s.setReplays g false (0, 0)).setReplays g true (0, 0)

/-- The state in which a group is, or is not, in its one retraining (R124). -/
def State.setRetried (s : State) (g : Nat) (b : Bool) : State := { s with d2dRetried := SMap.set (fun _ => false) s.d2dRetried g b }

/-- R123, R124, Table 5.16: a frame of the replay buffer that failed its CRC-24 is replayed. The syndrome and lane group are those of the failure; the
first failure since PG_ERR_INFO was cleared is captured (Table 5.17). -/
def execD2dReplay (g : Nat) (frame : BadFrame) (lanes : Nat) (s : State) : Result :=
  let p := d2dPage g
  let s := ((s.incCtr p 0x04C).incCtr p 0x050).raise p 3
  let s := if s.rdN p errCaptured = 0 then
      ((s.wrN p 0x054 (frame.syndrome % 2 ^ 24 + lanes % 256 * 2 ^ 24)).wr64 p 0x058 s.now).wrN p errCaptured 1
    else s
  let was := s.replaysOf g frame.inward
  let n := if was.1 = frame.seq then was.2 + 1 else 1
  done ((s.setReplays g frame.inward (frame.seq, n)).err p 1 0x020 lanes)

/-- A training of a group ends: `failing` lists the lanes it found failing, and `us` is its duration. Up to 32 are replaced by
spares; more leave the group DOWN (R124). -/
def State.d2dTrain (s : State) (g : Nat) (failing : List Nat) (us : Nat) : State :=
  let p := d2dPage g
  let s := s.setFld p 0x048 23 0 us
  let s := (List.range 10).foldl (fun s i =>
    s.wrN p (0x060 + 4 * i) ((failing.filter (fun l => l / 32 = i)).eraseDups.foldl (fun a l => a + 2 ^ (l % 32)) 0)) s
  let n := failing.eraseDups.length
  if n > 32 then ((((s.wrN p 0x044 0).err p 3 0x022 0).raise p 1).report p 0x022)
  else
    let s := ((s.setRetried g false).wrN p 0x044 ((if n = 0 then 2 else 3) + n * 256)).raise p 0
    if n = 0 then s else ((failing.eraseDups.foldl (fun s l => s.err p 1 0x021 l) s).raise p 2).recChange

/-- R124: a frame that has failed sixteen replays in a row takes the group DOWN; it retrains once, with this outcome, unless this failure falls in that
retraining itself. -/
def execD2dGroupDown (g : Nat) (failing : List Nat) (us : Nat) (s : State) : Result :=
  let p := d2dPage g
  if (s.replaysOf g false).2 < 16 && (s.replaysOf g true).2 < 16 then done s
  else
    let s := ((s.wrN p 0x044 0).err p 3 0x022 0).raise p 1
    let s := s.noReplays g
    if SMap.get (fun _ => false) s.d2dRetried g then done (s.report p 0x022)
    else done ((s.setRetried g true).d2dTrain g failing us)

/-- R124, Table 5.17: a write of D2D_CTRL: USE_SAVED is held, and RETRAIN trains the group, with this outcome. -/
def d2dCtrlWrite (g : Nat) (w : Word) (failing : List Nat) (us : Nat) (s : State) : State :=
  let s := s.setFld (d2dPage g) 0x040 1 1 (w.bits 1 1)
  if w.bit 0 then ((s.noReplays g).setRetried g false).d2dTrain g failing us else s

/-- The lanes of a group that its last training found failing: a plain register write of RETRAIN finds them again (DESIGN CHOICE, log entry 59). -/
def State.lanesFailed (s : State) (g : Nat) : List Nat :=
  (List.range 320).filter fun l => (s.rd (d2dPage g) (0x060 + 4 * (l / 32))).bit (l % 32)

/-- R124: a write of D2D_CTRL with RETRAIN set. -/
def execD2dRetrain (r : Req) (g : Nat) (w : Word) (failing : List Nat) (us : Nat) (s : State) : Result :=
  gated r (d2dPage g) 0x040 s (d2dCtrlWrite g (w.setBits 0 0 1) failing us)

/-! ### The reorder buffer -/

/-- The RTR page of the router an endpoint is attached to; its ROB registers and error codes serve that endpoint (log entry 32). -/
def endPage (e : Nat) : Page := rtr (entryPort e).1

/-- The reorder buffer of an endpoint. -/
def State.rob (s : State) (e : Nat) : List RobEntry := SMap.get (fun _ => []) s.robs e

/-- General entries in use. -/
def robGeneral (l : List RobEntry) : Nat := (l.filter (!·.esc)).length

/-- Escape entries in use. -/
def robEsc (l : List RobEntry) : Nat := (l.filter (·.esc)).length

/-- The state with an endpoint's reorder buffer replaced; ROB_STATUS follows, and the order-pressure bit under R133. -/
def State.setRob (s : State) (e : Nat) (l : List RobEntry) : State :=
  let s := { s with robs := SMap.set (fun _ => []) s.robs e l }
  let g := robGeneral l
  let s := if isCab e then
      ((s.setFld (rtr e) 0x050 8 0 g).setFld (rtr e) 0x050 22 16 (robEsc l)).setFld (rtr e) 0x050 31 23 (max (s.fld (rtr e) 0x050 31 23) g)
    else s
  if 384 ≤ g && !s.pressure.contains e then
    let s := ({ s with pressure := e :: s.pressure }).raise (endPage e) 2
    if isCab e then s.setFlag (rtr e) 0x00C 0 true else s
  else if g ≤ 256 && s.pressure.contains e then
    let s := { s with pressure := s.pressure.filter (· ≠ e) }
    if isCab e then s.setFlag (rtr e) 0x00C 0 false else s
  else s

/-- Every reorder buffer keeps the entries that pass a test (R133). -/
def State.keepRobs (s : State) (keep : RobEntry → Bool) : State :=
  s.robs.foldl (fun t e => t.setRob e.1 (e.2.filter keep)) s

end Sys2Proof.Machine
end

