-- ==== Sys2Proof/Machine/Time.lean ====
section
/-!
DEFINITION. Time.lean: the commands of 02_time.md: the root PLL, starting and stopping device time, SYSREF, the local copies,
TRIG_IN, the timers and their capture queues, and the wide registers' staging.
-/

namespace Sys2Proof.Machine

/-- TIME page 0. -/
def pTime : Page := ⟨.time0, 0⟩
/-- TIME page 1. -/
def pTimers : Page := ⟨.time1, 0⟩

/-! ### The root PLL -/

/-- R26: holdover is entered: HOLDOVER is set, LOCK drops, the entry is counted and PLL_UNLOCK is raised. -/
def execHoldoverEntry (s : State) : Result :=
  if s.flag pTime 0x070 1 then done s
  else
    let n := min (s.fld pTime 0x070 31 16 + 1) 65535
    done ((s.wrN pTime 0x070 (2 + n * 65536)).raise pTime 2)

/-- R27: the PLL relocks, whatever was reset since holdover began; device time is not stepped, and PLL_RELOCK is raised. -/
def execPllRelock (s : State) : Result :=
  if s.flag pTime 0x070 1 then done (((s.setFlag pTime 0x070 1 false).setFlag pTime 0x070 0 true).raise pTime 3)
  else done s

/-! ### Starting device time -/

/-- TIME.SET. -/
def State.timeSet (s : State) : Nat := s.rd64 pTime 0x048

/-- TIME.STOP. -/
def State.timeStop (s : State) : Nat := s.rd64 pTime 0x074

/-- Device time enters RUNNING with this count: ω and SET_DONE (R36, Table 2.2 step 4). -/
def State.enterRunning (s : State) (v : Nat) : State :=
  (({ s with tb := { s.tb with state := .running, count := v, startAt := none, loadAt := none } }).setFld pTime 0x054 3 0 (v % 16)).raise
    pTime 0

/-- R38, R40: may a START or ARM_SYSREF be accepted? -/
def State.startAllowed (s : State) : Bool :=
  s.tb.state = .held && s.tb.startAt.isNone && (!s.tb.stopped || decide (s.timeStop + 16 ≤ s.timeSet))

/-- Does the write set more than one of START, ARM_SYSREF and DISARM (R38)? -/
def ctrlMixed (w : Word) : Bool := decide (1 < b2n (w.bit 0) + b2n (w.bit 1) + b2n (w.bit 2))

/-- A write of TIME.CTRL (Table 2.7): START, ARM_SYSREF and DISARM act under R36 to R38, and SKIP is written; a refused write and a DISARM without effect
change nothing, SKIP included (that SKIP stays in a write that sets more than one of the three is the model's choice, log entry 18). ARM_SYSREF takes
TIME.SET as it then stands, as START does: so the check of R40 holds of the time that the start edge gets (DESIGN CHOICE, log entry 18). -/
def timeCtrlWrite (w : Word) (s : State) : State :=
  if ctrlMixed w || (w.bit 0 || w.bit 1) && !s.startAllowed then s.refuse pTime 0x050
  else
    let t := s.setFld pTime 0x050 15 8 (w.bits 15 8)
    if w.bit 0 then { t with tb := { t.tb with startAt := some s.timeSet, t0 := s.timeSet } }
    else if w.bit 1 then
      ({ t with tb := { t.tb with state := .armed, skipLeft := w.bits 15 8, loadAt := none, t0 := s.timeSet } }).wr pTime 0x06C 0
    else if w.bit 2 then
      if s.tb.state = .armed && s.tb.loadAt.isNone then { t with tb := { t.tb with state := .held } } else s
    else t

/-- R36: a write of TIME.CTRL with START set. -/
def execStart (r : Req) (w : Word) (s : State) : Result := gated r pTime 0x050 s (timeCtrlWrite (w.setBits 0 0 1))

/-- R37: a write of TIME.CTRL with ARM_SYSREF set. -/
def execArmSysref (r : Req) (w : Word) (s : State) : Result := gated r pTime 0x050 s (timeCtrlWrite (w.setBits 1 1 1))

/-- R38: a write of TIME.CTRL with DISARM set. -/
def execDisarm (r : Req) (w : Word) (s : State) : Result := gated r pTime 0x050 s (timeCtrlWrite (w.setBits 2 2 1))

/-! ### Capture queues -/

/-- What timer `i` of a page holds beside its registers. -/
def State.timer (s : State) (p : Page) (i : Nat) : TimerSt := SMap.get (fun _ => TimerSt.reset) s.timers (p.key + 0x100 + 0x40 * i)

/-- The state with that replaced. -/
def State.setTimer (s : State) (p : Page) (i : Nat) (t : TimerSt) : State :=
  { s with timers := SMap.set (fun _ => TimerSt.reset) s.timers (p.key + 0x100 + 0x40 * i) t }

/-- The capture queue of timer `i` of a page. -/
def State.captureQ (s : State) (p : Page) (i : Nat) : List Capture := (s.timer p i).queue

/-- The state with that queue replaced. -/
def State.setCaptureQ (s : State) (p : Page) (i : Nat) (q : List Capture) : State := s.setTimer p i { s.timer p i with queue := q }

/-- The page and the bits of CAP_AVAIL and CAP_OVF for the timers of a page (Tables 2.5, 3.8). -/
def capCauses (p : Page) : Page × Nat × Nat := if p.blk = .time1 then (pTime, 12, 13) else (p, 2, 3)

/-- R50: the place of a capture among those that fell on its CLK_TB edge: by captured time, then by source code; it follows all of earlier edges. -/
def placeCapture (c : Capture) : List Capture → List Capture
  | [] => [c]
  | d :: q =>
    if d.edge = c.edge && (decide (c.time < d.time) || (c.time = d.time && decide (c.code < d.code))) then c :: d :: q
    else d :: placeCapture c q

/-- R50, R51: a capture enters a timer's queue of four at its place; the fifth is discarded with CAP_OVF. -/
def State.capture (s : State) (p : Page) (i time code : Nat) : State :=
  let q := placeCapture ⟨time, code, s.tb.count⟩ (s.captureQ p i)
  let causes := capCauses p
  let t := s.setCaptureQ p i (q.take 4)
  if q.length ≤ 4 then
    if (s.captureQ p i).isEmpty && s.flag p (0x100 + 0x40 * i) 10 then t.raise causes.1 causes.2.1 else t
  else (t.setFlag p (0x110 + 0x40 * i) 2 true).raise causes.1 causes.2.2

/-- The timers of the device: sixteen general ones and two per channel. -/
def allTimers : List (Page × Nat) :=
  (List.range 16).map (fun i => (pTimers, i)) ++ (List.range 32).map (fun j => (⟨.chtmr, j / 2⟩, j % 2))

/-- A captured edge or gap mark is offered to every timer whose TMR_CAPSRC selects it (bit `src`, Table 2.9). -/
def State.offerCapture (s : State) (src time code : Nat) : State :=
  allTimers.foldl (fun s t => if s.flag t.1 (0x114 + 0x40 * t.2) src then s.capture t.1 t.2 time code else s) s

/-! ### SYSREF -/

/-- A signed 32-bit register value. -/
def word32 (x : Int) : Nat := toBits x 32

/-- R37, R39, Table 2.2: a rising SYSREF edge at `phi` fu after the last CLK_TB edge. While ARMED it is skipped or is the start
edge; while RUNNING it is captured, offered to the timers, and compared with its expected time. While HELD it is ignored. The start edge loads the
TIME.SET that the write of ARM_SYSREF took: a write of TIME.SET after it changes nothing of this start, for which the spec does not fix the instant
(DESIGN CHOICE, log entry 18). The start edge itself is not offered to the timers that select SYSREF: the spec does not say whether it is (DESIGN CHOICE,
log entry 18). -/
def sysrefEdge (phi : Nat) (s : State) : State :=
  let p := phi % 16
  let d := s.fuses.sysrefDly
  match s.tb.state with
  | .held => s
  | .armed =>
    let s := s.wrN pTime 0x06C (s.rdN pTime 0x06C + 1)
    if s.tb.loadAt.isSome then s
    else if 0 < s.tb.skipLeft then
      ({ s with tb := { s.tb with skipLeft := s.tb.skipLeft - 1 } }).wr64 pTime 0x060 0
    else
      let set := s.tb.t0
      let s := (s.setFld pTime 0x054 11 8 p).wr64 pTime 0x060 set
      { s with tb := { s.tb with loadAt := some ((set + d + 128 + 2 ^ 64 - p) % 2 ^ 64) } }
  | .running =>
    let t := s.tb.count + p - d
    let s := ((s.wrN pTime 0x06C (s.rdN pTime 0x06C + 1)).wr64 pTime 0x060 t).offerCapture 4 t 4
    let per := s.rdN pTime 0x058
    if per = 0 then s
    else
      let diff : Int := (t : Int) - s.tb.t0
      let drift := diff - divr diff per * per
      let s := s.wrN pTime 0x068 (word32 drift)
      if drift.natAbs > s.fld pTime 0x05C 7 0 then s.raise pTime 1 else s

/-- R39: a rising SYSREF edge at the Timekeeper. -/
def execSysrefEdge (phi : Nat) (s : State) : Result := done (sysrefEdge phi s)

/-- R37, Table 2.2 steps 4 and 5: the counter is loaded and device time runs. Without a captured start edge there is nothing to
load. -/
def execDeviceTimeLoad (s : State) : Result :=
  match s.tb.state, s.tb.loadAt with
  | .armed, some v => done (s.enterRunning v)
  | _, _ => done s

/-! ### Local copies -/

/-- The state with the local copy of a domain synchronised, or not. -/
def State.setSynced (s : State) (d : Nat) (b : Bool) : State := { s with synced := SMap.set (fun _ => false) s.synced d b }

/-- R28, R35: may a block stamp, evaluate and take part in a partition? Device time is RUNNING, its domain is in RUN and not in
transition, on the divided root clocks, and its local copy is synchronised. -/
def State.ready (s : State) (p : Page) : Bool :=
  s.tb.state = .running && (s.dom p.dom).cur = .run && !(s.dom p.dom).busy && !(s.dom p.dom).fio && SMap.get (fun _ => false) s.synced p.dom

/-- R35: 256 CLK_TB cycles after device time runs, or after its domain has left FIO, the local copy of a block is synchronised. -/
def execCopySync (p : Page) (s : State) : Result :=
  let d := s.dom p.dom
  if s.tb.state = .running && d.cur = .run && !d.fio && !d.busy then
    done (s.setSynced p.dom true)
  else done s

/-! ### Soft reset of TIME -/

/-- R40: is some partition RUNNING or STOPPED? Partition 0, which is always RUNNING (R346), does not count (DEDUCED, log entry 16). -/
def State.anyPlaced (s : State) : Bool :=
  (List.range 63).any fun k => s.part (k + 1) = .running || s.part (k + 1) = .stopped

/-- Is some intake channel enabled (CHIN.PG_CTRL.ENABLE)? -/
def State.anyChannel (s : State) : Bool := (List.range 16).any fun n => s.flag ⟨.chin, n⟩ 0x008 0

/-- R40, R401: the effect of an accepted TIME soft reset. LOCK and HOLDOVER of PLL_STATUS show the root PLL, which a soft reset of TIME does not
touch (R26, R27; log entry 50). -/
def timeSoftReset (s : State) : State :=
  let running := decide (s.tb.state = .running)
  let pll := s.fld pTime 0x070 1 0
  let s := if running then s.wr64 pTime 0x074 s.tb.count else s
  let s := ((s.resetPage pTime).resetPage pTimers).setFld pTime 0x070 1 0 pll
  let s := (s.setFlag pTime 0x008 1 true).setFlag pTimers 0x008 1 true
  { s with tb := ⟨.held, 0, none, 0, none, 0, s.tb.stopped || running, s.tb.phase⟩, timers := s.timers.filter (fun e => e.1 / 16777216 ≠ 4)
           trigQual := [], trigEvents := [], synced := [] }

/-- R40: a write of TIME.PG_CTRL with SOFT_RESET set. -/
def execTimeSoftReset (r : Req) (_w : Word) (s : State) : Result :=
  gated r pTime 0x008 s fun s =>
    if s.anyPlaced || s.anyChannel then s.err pTime 5 0x011 0x008 else timeSoftReset s

/-! ### Wide registers -/

/-- The writable wide registers (R55): TIME.SET, HZN.CORE_FLOOR, XPND.EPOCH_AT and OBS.FREEZE_AT, whose tables speak of a staged half or a commit, by
the offset of the low half. The LO and HI registers of base addresses (SDMA_BASE, SPILL_BASE, TRC_BASE, RING_BASE and the like) are two registers of
their own, and each half takes effect at its write: the spec does not say whether R55 covers them (DESIGN CHOICE, log entry 18). -/
def isWideWritable (p : Page) (off : Nat) : Bool :=
  match p.blk with
  | .time0 => off = 0x048 | .hzn => off = 0x074 | .xpnd => off = 0x048 | .obs => off = 0x048 | _ => false

/-- R55: the low half goes into the staging register. -/
def stageLow (p : Page) (off : Nat) (w : Word) (s : State) : State :=
  { s with staging := SMap.set (fun _ => none) s.staging (p.key + off) (some w) }

/-- The low half a commit takes: the staged one, or the present one when none is staged. -/
def State.stagedLow (s : State) (p : Page) (off : Nat) : Word :=
  (SMap.get (fun _ => none) s.staging (p.key + off)).getD (s.rd p off)

/-- R55: the high half commits all bits at once. -/
def commitWide (p : Page) (off : Nat) (w : Word) (s : State) : State :=
  let t := (s.wr p off (s.stagedLow p off)).wr p (off + 4) w
  { t with staging := SMap.set (fun _ => none) t.staging (p.key + off) none }

/-- R55: a write of the low half of a writable wide register, named by the offset of that half. -/
def execWideLowWrite (r : Req) (p : Page) (off : Nat) (w : Word) (s : State) : Result :=
  if isWideWritable p off then gated r p off s (stageLow p off w) else done s

/-- R55: a write of the high half of a writable wide register, named by the offset of its low half. CORE_FLOOR has a row of its
own (R193). -/
def execWideHighWrite (r : Req) (p : Page) (off : Nat) (w : Word) (s : State) : Result :=
  if isWideWritable p off && p.blk ≠ .hzn then gated r p (off + 4) s (commitWide p off w) else done s

/-! ### TRIG_IN -/

/-- The counter freeze takes a source (R487, R489): the first arms it, an earlier time replaces an armed one, and a source that
arises while a freeze is in force is counted as missed. `cause` is the snapshot cause, 0 for none. -/
def State.offerFreeze (s : State) (src t cause pos unit : Nat) : State :=
  let obs : Page := ⟨.obs, 0⟩
  if s.freeze.inForce then (s.incCtr obs 0x060).raise obs 4
  else if s.freeze.armed && decide (s.rd64 obs 0x054 ≤ t) then s
  else
    let s := (s.wr64 obs 0x054 t).wrN obs 0x05C (src + pos % 512 * 256)
    { (s.setFlag obs 0x00C 0 true) with freeze := { s.freeze with armed := true, snapCause := cause, snapUnit := unit } }

/-- R44: a missed edge on a pin is counted and raised. -/
def State.trigMiss (s : State) (pin : Nat) : State := (s.incCtr pTime (0x094 + 0x20 * pin)).raise pTime (8 + pin)

/-- R42, R44, R45: an edge that counts is captured: LAST, INFO, the cause, the timers, the external trigger event and the freeze;
less than 64 fu after the previous captured edge it is missed. -/
def State.trigCapture (s : State) (e : TrigEdge) : State :=
  let b := 0x20 * e.pin
  let valid := s.flag pTime (0x098 + b) 0
  let last := s.rd64 pTime (0x088 + b)
  if valid && decide (e.time < last + 64) then s.trigMiss e.pin
  else
    let e := { e with interval := lg16 (if valid then some (e.time - last) else none) }
    let s := ((s.wr64 pTime (0x088 + b) e.time).wrN pTime (0x098 + b) (1 + 2 * b2n e.fall)).raise pTime (4 + e.pin)
    let s := s.offerCapture e.pin e.time e.pin
    let s := if s.flag pTime (0x080 + b) 3 && s.part (s.fld pTime (0x090 + b) 5 0) = .running then
        { s with trigEvents := s.trigEvents ++ [e] } else s
    if s.flag ⟨.obs, 0⟩ 0x044 2 && s.fld ⟨.obs, 0⟩ 0x044 4 3 = e.pin then
      s.offerFreeze 2 (e.time + s.fld ⟨.obs, 0⟩ 0x050 23 0) 0 0 0
    else s

/-- Does TRIGIN_CFG.EDGE select this edge (Table 2.8)? -/
def edgeSelected (edge : Nat) (fall : Bool) : Bool := (edge = 0 && !fall) || (edge = 1 && fall) || edge = 2

/-- R42 to R45, R516: an edge on TRIG_IN[pin], `phi` fu after the last CLK_TB edge. A captured time that delay and skew put below zero is zero (DESIGN
CHOICE, log entry 18). -/
def execTriginEdge (pin : Nat) (fall : Bool) (phi : Nat) (s : State) : Result :=
  let b := 0x20 * pin
  if decide (pin < 4) && s.tb.state = .running && s.flag pTime (0x080 + b) 0 && edgeSelected (s.fld pTime (0x080 + b) 2 1) fall then
    let t : Int := (s.tb.count + phi % 16 : Nat) - (s.fuses.trigInDly pin : Int) - ofBits (s.fld pTime (0x084 + b) 15 0) 16
    let e : TrigEdge := ⟨pin, t.toNat, fall, 0xFFFF⟩
    if s.fld pTime (0x080 + b) 7 4 = 0 then done (s.trigCapture e) else done { s with trigQual := s.trigQual ++ [e] }
  else done s

/-- R43: the oldest waiting edge of a pin has held its level for MINW cycles, or has returned sooner. -/
def execTriginQualify (pin : Nat) (held : Bool) (s : State) : Result :=
  match s.trigQual.find? (fun e => e.pin = pin) with
  | none => done s
  | some e =>
    let s := { s with trigQual := s.trigQual.erase e }
    if held then done (s.trigCapture e) else done (s.trigMiss pin)

/-- R45: TRIGIN_EVT changes only while the partition it names, before and after, is stopped. -/
def trigEvtWrite (pin : Nat) (w : Word) (s : State) : State :=
  let off := 0x090 + 0x20 * (pin % 4)
  if s.partStopped (s.fld pTime off 5 0) && s.partStopped (w.bits 5 0) then plainWrite pTime off w s else s.refuse pTime off

/-- R45: a write of TRIGIN_EVT. -/
def execTriginEvtWrite (r : Req) (pin : Nat) (w : Word) (s : State) : Result := gated r pTime (0x090 + 0x20 * (pin % 4)) s (trigEvtWrite pin w)

/-! ### Timers -/

/-- Does the page hold timer `i`? -/
def isTimer (p : Page) (i : Nat) : Bool := (p.blk = .time1 && decide (i < 16)) || (p.blk = .chtmr && decide (i < 2))

/-- R46: the match flag of a count just reached. -/
def State.timerMatch (s : State) (p : Page) (i : Nat) : State :=
  if s.rd p (0x108 + 0x40 * i) = s.rd p (0x10C + 0x40 * i) then s.raise p (16 + i) else s

/-- R46, R47: a reload: the count is loaded from TMR_PERIOD, and a match is flagged; the zero flag is not set. -/
def State.timerReload (s : State) (p : Page) (i : Nat) : State :=
  (s.wr p (0x108 + 0x40 * i) (s.rd p (0x104 + 0x40 * i))).timerMatch p i

/-- R46: one tick of an enabled timer. -/
def State.onTick (s : State) (p : Page) (i : Nat) : State :=
  let b := 0x40 * i
  let count := s.rdN p (0x108 + b)
  let s :=
    if count = 0 then
      let s := s.wr p (0x108 + b) (s.rd p (0x104 + b))
      if s.rdN p (0x104 + b) = 0 then s.raise p i else s
    else
      let s := s.wrN p (0x108 + b) (count - 1)
      if count = 1 then
        let s := s.raise p i
        if s.flag p (0x100 + b) 2 then s.setFlag p (0x100 + b) 0 false else s
      else s
  s.timerMatch p i

/-- R46, R48: a tick is processed; whether it was a reload is noted until the next CLK_TB edge, with the zero and match flags as they stood. -/
def State.takeTick (s : State) (p : Page) (i : Nat) : State :=
  let reload := if s.rdN p (0x108 + 0x40 * i) = 0 then some (s.flag p 0x010 i, s.flag p 0x010 (16 + i)) else none
  (s.onTick p i).setTimer p i { s.timer p i with due := false, reload := reload }

/-- R46, R49: does the timer receive ticks? It is enabled, its domain is clocked, and no debugger halts the Bureau or a core unless DBG_RUN is 1. -/
def State.ticking (s : State) (p : Page) (i : Nat) : Bool :=
  isTimer p i && s.flag p (0x100 + 0x40 * i) 0 && s.awake p && (s.debugger.halted.isEmpty || s.flag p (0x100 + 0x40 * i) 3)

/-- Does a tick reach timer `i` of a page now? One has fallen on the present CLK_TB edge; a CLK_REG timer of a domain that runs on FIO ticks at FIO's
pace, which the grid of CLK_TB does not give (R28). -/
def State.ticks (s : State) (p : Page) (i : Nat) : Bool :=
  s.ticking p i && ((s.timer p i).due || (!s.flag p (0x100 + 0x40 * i) 4 && (s.dom p.dom).fio))

/-- R46, R49: a tick reaches a timer; one that the timer does not receive is lost. -/
def execTimerTick (p : Page) (i : Nat) (s : State) : Result := if s.ticks p i then done (s.takeTick p i) else done s

/-- R48: the tick of a timer that falls on the present edge is processed before a register write of that edge. -/
def State.settleTick (s : State) (p : Page) (i : Nat) : State := if (s.timer p i).due then s.takeTick p i else s

/-- R48: the same, for every timer of a page. -/
def State.settlePage (s : State) (p : Page) : State :=
  if isTimer p 0 then (List.range 16).foldl (fun s i => if isTimer p i then s.settleTick p i else s) s else s

/-- R46, R48: a write of TMR_PERIOD changes the buffer; on the edge of a reload that reload uses it. -/
def tmrPeriodWrite (p : Page) (i : Nat) (w : Word) (s : State) : State :=
  let s := (s.settleTick p i).wr p (0x104 + 0x40 * i) w
  match (s.timer p i).reload with
  | none => s
  | some (zero, hit) =>
    let s := (s.setFlag p 0x010 i (s.flag p 0x010 i && zero)).setFlag p 0x010 (16 + i) (s.flag p 0x010 (16 + i) && hit)
    let s := if w = 0 then s.raise p i else s
    s.timerReload p i

/-- R46: is this DIV legal for this CLKSEL? -/
def divLegal (clksel : Bool) (div : Nat) : Bool := if clksel then decide (4 ≤ div) else decide (div ≤ 15)

/-- A write of TMR_CTRL (Table 2.10): the fields are written, RESTART reloads (R47) and clears the prescaler in CLK_REG mode, and EN from 0 to 1 loads
the count (R46). While GAP_CFG.EN is 1, timer 0 of a channel takes no write, which the CHIN page records (R83, Table 3.10). -/
def tmrCtrlWrite (p : Page) (i : Nat) (w : Word) (s : State) : State :=
  let off := 0x100 + 0x40 * i
  if p.blk = .chtmr && i = 0 && s.flag ⟨.chin, p.inst⟩ 0x088 0 then s.err ⟨.chin, p.inst⟩ 5 0x015 0
  else
    let s := s.settleTick p i
    let was := s.flag p off 0
    let good := divLegal (w.bit 4) (w.bits 9 5)
    let new := ((s.rd p off).setBits 0 0 (w.bits 0 0)).setBits 4 2 (w.bits 4 2)
    let new := (if good then new.setBits 9 5 (w.bits 9 5) else new).setBits 10 10 (w.bits 10 10)
    let s := s.wr p off new
    let s := if w.bit 1 || (w.bit 0 && !was) then s.timerReload p i else s
    let s := if w.bit 1 && !w.bit 4 then s.setTimer p i { s.timer p i with pre := 0 } else s
    if good then s else s.badEnc p off

/-- R46: a write of TMR_CTRL with EN set. -/
def execTimerEnable (r : Req) (p : Page) (i : Nat) (w : Word) (s : State) : Result :=
  if isTimer p i then gated r p (0x100 + 0x40 * i) s (tmrCtrlWrite p i (w.setBits 0 0 1)) else done s

/-- R47: a write of TMR_CTRL with RESTART set. -/
def execTimerRestart (r : Req) (p : Page) (i : Nat) (w : Word) (s : State) : Result :=
  if isTimer p i then gated r p (0x100 + 0x40 * i) s (tmrCtrlWrite p i (w.setBits 1 1 1)) else done s

/-- R52, R53: the oldest capture of a timer leaves its queue; its high half is latched for the requester and its code in TMR_CAP_INFO. On an empty queue
the high half and the code read as zero beside VALID 0 (DESIGN CHOICE, log entry 18). -/
def capturePop (r : Req) (p : Page) (i : Nat) (s : State) : Nat × State :=
  let b := 0x40 * i
  match s.captureQ p i with
  | [] => (0, (s.latch r p (0x118 + b) 0).wr p (0x120 + b) 0)
  | c :: q =>
    (c.time % 2 ^ 32,
      ((s.setCaptureQ p i q).latch r p (0x118 + b) (c.time / 2 ^ 32)).wrN p (0x120 + b) (2 ^ 31 + c.code % 256))

/-- R52: a read of TMR_CAP_TLO removes the oldest capture and latches its high half and its code. -/
def execCapturePop (r : Req) (p : Page) (i : Nat) (s : State) : Result :=
  if isTimer p i then gatedRead r p s (capturePop r p i) else done s

/-- Does a tick fall on a timer at the CLK_TB edge that has just passed, and what does its prescaler then hold? In device-time mode a tick falls where
bits [63:DIV] of device time change, `old` being its value before the edge; in CLK_REG mode every 2^DIV cycles of CLK_REG. The prescaler counts while
the timer is enabled (DESIGN CHOICE, log entry 18). -/
def State.tickFalls (s : State) (p : Page) (i old : Nat) : Bool × Nat :=
  let div := s.fld p (0x100 + 0x40 * i) 9 5
  let pre := (s.timer p i).pre
  if s.flag p (0x100 + 0x40 * i) 4 then (s.tb.count / 2 ^ div ≠ old / 2 ^ div, pre)
  else if s.tb.phase ≠ 0 || (s.dom p.dom).fio then (false, pre)
  else if 2 ^ div ≤ pre + 1 then (true, 0) else (false, pre + 1)

/-- The tick of one timer at a CLK_TB edge: due, if it falls and the timer receives it; otherwise lost (R46, R49). -/
def State.timerEdge (s : State) (p : Page) (i old : Nat) : State :=
  let t := s.timer p i
  if s.flag p (0x100 + 0x40 * i) 0 && s.awake p then
    s.setTimer p i { t with pre := (s.tickFalls p i old).2, due := (s.tickFalls p i old).1 && s.ticking p i, reload := none }
  else if t.reload.isSome then s.setTimer p i { t with reload := none } else s

/-- The ticks of an edge that TIMER_TICK has not taken are processed before the next edge. -/
def State.settleTimers (s : State) : State := allTimers.foldl (fun s t => s.settleTick t.1 t.2) s

/-- Device time over one CLK_TB edge: an accepted START takes effect, or the count goes on by 16 fu (R29, R36). -/
def State.countEdge (s : State) : State :=
  let s := { s with tb := { s.tb with phase := (s.tb.phase + 1) % 8 } }
  match s.tb.state, s.tb.startAt with
  | .held, some v => s.enterRunning v
  | .running, _ => { s with tb := { s.tb with count := s.tb.count + 16 } }
  | _, _ => s

/-- One CLK_TB edge passes (what step does on an empty queue, log entry 1): device time goes on, and the ticks of the timers fall. Device time's start
is itself no tick (DESIGN CHOICE, log entry 18). -/
def clockEdge (s : State) : State :=
  let t := s.settleTimers
  let u := t.countEdge
  allTimers.foldl (fun s x => s.timerEdge x.1 x.2 (if t.tb.state = .running then t.tb.count else u.tb.count)) u

end Sys2Proof.Machine
end

