-- ==== Sys2Proof/Machine/Cabinet.lean ====
section
/-!
DEFINITION. Cabinet.lean: the pages and memories of a Cabinet, what it holds, and its access to the memory stacks: the region check of R371, the
interleave of R372 and the undo entries of R433.
-/

namespace Sys2Proof.Machine

/-- The CCTL page of a position. -/
def cctl (p : Nat) : Page := ⟨.cctl, p⟩
/-- The QMGR page. -/
def qmgr (p : Nat) : Page := ⟨.qmgr, p⟩
/-- The SPAD page. -/
def spad (p : Nat) : Page := ⟨.spad, p⟩
/-- The DRW page of Drawer d. -/
def drw (p d : Nat) : Page := ⟨.drw, 4 * p + d⟩
/-- The TRS page of Trestle t. -/
def trs (p t : Nat) : Page := ⟨.trs, 2 * p + t⟩
/-- The XPND page. -/
def xpnd (p : Nat) : Page := ⟨.xpnd, p⟩
/-- The HZN page. -/
def hzn (p : Nat) : Page := ⟨.hzn, p⟩

/-- What a position's Cabinet holds. -/
def State.cab (s : State) (p : Nat) : Cab := SMap.get (fun _ => Cab.reset) s.cabs p

/-- The state with one Cabinet replaced. -/
def State.setCab (s : State) (p : Nat) (c : Cab) : State := { s with cabs := SMap.set (fun _ => Cab.reset) s.cabs p c }

/-- The expander of a Cabinet. -/
def State.xp (s : State) (p : Nat) : Xp := (s.cab p).x

/-- The state with an expander replaced. -/
def State.setXp (s : State) (p : Nat) (x : Xp) : State := s.setCab p { s.cab p with x := x }

/-- The partition key of a Cabinet: the owner of its pages. -/
def State.cabKey (s : State) (p : Nat) : Nat := s.owner (cctl p)

/-- The logical number of the Cabinet at a position (0 when the map places none there). -/
def State.cabLog (s : State) (p : Nat) : Nat := (s.logicalAny (s.cabKey p) p).getD 0

/-- The configuration of a partition. -/
def State.cfg (s : State) (k : Nat) : PartCfg := SMap.get (fun _ => PartCfg.reset) s.parts k

/-- The state with a partition's configuration replaced. -/
def State.setCfg (s : State) (k : Nat) (c : PartCfg) : State := { s with parts := SMap.set (fun _ => PartCfg.reset) s.parts k c }

/-- The round period at a source (R206). -/
def State.roundOf (s : State) (k e : Nat) : Nat := if isCab e then s.fld (hzn e) 0x044 19 0 else (s.source k e).round

/-- R353, Table 13.2: is a source silent: its partition does not run, or it has sampled its last round at or before T_p? -/
def State.silent (s : State) (k e : Nat) : Bool :=
  s.part k ≠ .running || (match (s.cfg k).stopAt with | some t => decide (t < (s.source k e).next * s.roundOf k e) | none => false)

/-- Do the Cabinet's units work? Its local copy is in use (R28), and it is neither frozen (R361) nor fenced (R438). -/
def State.live (s : State) (p : Nat) : Bool := s.ready (cctl p) && !(s.cab p).frozen && !(s.cab p).fenced

/-- S, the safe time in force at the Cabinet (HZN.S). -/
def State.safe (s : State) (p : Nat) : Nat := s.rd64 (hzn p) 0x058
/-- G, the end of its last completed step (HZN.G). -/
def State.gEnd (s : State) (p : Nat) : Nat := s.rd64 (hzn p) 0x068
/-- L, the lookahead of its partition. -/
def State.look (s : State) (p : Nat) : Nat := s.fld (hzn p) 0x048 23 0
/-- Q = 2^STEP. -/
def State.stepQ (s : State) (p : Nat) : Nat := 2 ^ s.fld (hzn p) 0x04C 4 0
/-- CORE_FLOOR. -/
def State.floor (s : State) (p : Nat) : Nat := s.rd64 (hzn p) 0x074
/-- CORE_CFG.EN. -/
def State.floorEn (s : State) (p : Nat) : Bool := s.flag (hzn p) 0x070 0

/-! ### Memories -/

/-- The address of a scratchpad offset of a position in the byte memories. -/
def spadAt (p off : Nat) : Nat := 2 ^ 37 + p * 2 ^ 22 + off
/-- The address of a Drawer store offset (Table 11.1). -/
def drwAt (p d off : Nat) : Nat := spadAt p (d * 2 ^ 19 + off)
/-- The address of a Trestle window offset (Table 10.14): the store lies in the scratchpad, the RAMs in memories of their own. -/
def trsAt (p t off : Nat) : Nat := if off < 2 ^ 19 then spadAt p (2 ^ 21 + t * 2 ^ 19 + off) else 2 ^ 38 + (2 * p + t) * 2 ^ 20 + off
/-- The address of an accumulator of row `i` and column `n` (R257): the window does not reach the accumulator RAM, which lies above the other RAMs. -/
def accAt (p t i n : Nat) : Nat := trsAt p t (0x90000 + 64 * i + 4 * n)

/-- The bank of a scratchpad offset (Table 11.1). -/
def bankOf (x : Nat) : Nat :=
  if x < 0x200000 then x / 0x80000 * 4 + x / 16 % 4
  else if x < 0x300000 then 16 + (x - 0x200000) / 0x80000 * 4 + x / 16 % 4
  else 24 + x / 16 % 8

/-- The present mode of a bank (BANK_CUR): 0 ON, 1 RETENTION, 2 OFF. -/
def State.bankMode (s : State) (p b : Nat) : Nat := if b < 16 then s.fld (spad p) 0x048 (2 * b + 1) (2 * b) else s.fld (spad p) 0x04C (2 * b - 31) (2 * b - 32)

/-- The requested mode of a bank (BANK_PWR). -/
def State.bankReq (s : State) (p b : Nat) : Nat := if b < 16 then s.fld (spad p) 0x040 (2 * b + 1) (2 * b) else s.fld (spad p) 0x044 (2 * b - 31) (2 * b - 32)

/-- R286: can a bank be accessed? It is ON and in no transition. -/
def State.bankOn (s : State) (p b : Nat) : Bool := s.bankMode p b = 0 && s.bankReq p b = 0

/-- R286: the first bank of the shared area that is not ON. -/
def State.sharedBankOff (s : State) (p : Nat) : Option Nat := (List.range' 24 8).find? fun b => !s.bankOn p b

/-- R286: an access to a bank that is not ON: recorded and raised. -/
def State.bankErr (s : State) (p b : Nat) : State := (s.err (spad p) 5 0x0B0 b).raise (spad p) 2

/-- The entries of the sparse memory with an address in [lo, hi). -/
def State.bytesIn (s : State) (lo hi : Nat) : List (Nat × Byte) := s.mem.filter fun e => decide (lo ≤ e.1) && decide (e.1 < hi)

/-- The memory without the bytes in [lo, hi), which read as zero again. -/
def State.clearBytes (s : State) (lo hi : Nat) : State := { s with mem := s.mem.filter fun e => !(decide (lo ≤ e.1) && decide (e.1 < hi)) }

/-! ### Stacks -/

/-- The HUT page 0 of a stack. -/
def hut0 (h : Nat) : Page := ⟨.hut0, h⟩
/-- The HUT page 1 of a stack. -/
def hut1 (h : Nat) : Page := ⟨.hut1, h⟩

/-- A Hutch. -/
def State.hutch (s : State) (h : Nat) : Hutch := SMap.get (fun _ => Hutch.reset) s.hutches h

/-- The state with a Hutch replaced. -/
def State.setHutch (s : State) (h : Nat) (v : Hutch) : State := { s with hutches := SMap.set (fun _ => Hutch.reset) s.hutches h v }

/-- R369: the regions of each stack of the part. -/
def State.regionCount (s : State) : Nat := if s.fuses.part = 0x4016 && s.fuses.gib = 48 then 12 else 24

/-- The stack of a stack byte address. -/
def stackOf (a : Nat) : Nat := a / 2 ^ 35 % 4
/-- The region number of a stack byte address. -/
def regionOf (a : Nat) : Nat := a / 2 ^ 30 % 32
/-- The line within the region. -/
def lineOf (a : Nat) : Nat := a / 64 % 2 ^ 24

/-- XY hops between two positions. -/
def hops (p q : Nat) : Nat := (p / 18 - q / 18) + (q / 18 - p / 18) + (p % 18 - q % 18) + (q % 18 - p % 18)

/-- The stack of a position's quadrant (05_fabric.md, Edge attachments). -/
def stackAt (p : Nat) : Nat := (if p / 18 < 8 then 0 else 2) + (if p % 18 < 9 then 0 else 1)

/-- The memory-mesh hops from a position to a stack. -/
def hutHops (p h : Nat) : Nat :=
  (List.range 8).foldl (fun a i => match memAttach (0x140 + 8 * h + i) with | some x => min a (hops p x.1 + 1) | none => a) 1000

/-- R344, rule 4: the stacks in the order in which the engine takes them for a Cabinet at a position. -/
def State.stackOrder (s : State) (p : Nat) : List Nat :=
  let rank (h : Nat) : Nat := if h = stackAt p then 0 else 4 * hutHops p h + h + 1
  ((List.range 4).foldl (fun l h => (l.takeWhile fun x => rank x ≤ rank h) ++ [h] ++ l.dropWhile fun x => rank x ≤ rank h) []).filter
    s.fuses.stkEn.testBit

/-- REG_CFG of a region. -/
def State.regCfg (s : State) (h r : Nat) : Word := s.rd (hut1 h) (0x100 + 8 * r)

/-- R372: five-bit xor fold. -/
def foldFrom (x : Nat) : Nat → Nat
  | 0 => 0
  | n + 1 => (x % 32) ^^^ foldFrom (x / 32) n

/-- R372: pseudo-channel and local line of a line. -/
def place (h l ka km : Nat) : Nat × Nat :=
  let lo := l % 32
  let hi := l / 32
  if h = 0 then (lo, hi)
  else if h = 1 then (lo ^^^ foldFrom hi 4, hi)
  else if h = 2 then
    let v := ((hi ^^^ ka) * (2 * km + 1)) % 2 ^ 19
    (lo ^^^ (v / 2 ^ 14) ^^^ (v % 32), hi)
  else ((hi % 32) ^^^ foldFrom (l / 1024) 3, l / 1024 * 32 + lo)

/-- R383: is a line of a region below the watermark of the region's re-layout? -/
def State.relaidIn (s : State) (h r a : Nat) : Option Nat :=
  match (s.hutch h).relayout with
  | some (x, _, f) => if x = r && decide (lineOf a < s.fld (hut0 h) 0x084 24 0) then some f else none
  | none => none

/-- The stack and region whose re-layout moves an address: its own, or for a mirror that of its primary (R383). -/
def State.layoutOf (s : State) (a : Nat) : Nat × Nat :=
  let w := s.regCfg (stackOf a) (regionOf a)
  if w.bits 9 6 = 2 then (w.bits 18 17, w.bits 23 19) else (stackOf a, regionOf a)

/-- R383: the new function of a line below the watermark of a re-layout. -/
def State.relaid (s : State) (a : Nat) : Option Nat := s.relaidIn (s.layoutOf a).1 (s.layoutOf a).2 a

/-- The pseudo-channel of a stack byte address by the Hutch's own table; below the watermark of a re-layout the new function holds (R383). -/
def State.pcOf (s : State) (a : Nat) : Nat :=
  let h := stackOf a
  let r := regionOf a
  match s.relaid a with
  | some f => let key := (s.hutch (s.layoutOf a).1).newKey; (place f (lineOf a) (key.bits 18 0) (key.bits 30 19)).1
  | none => let key := s.rd (hut1 h) (0x104 + 8 * r); (place ((s.regCfg h r).bits 11 10) (lineOf a) (key.bits 18 0) (key.bits 30 19)).1

/-- R374: the Hutch port a requester sends a request to: by its copy of the region's HASH, which the Bureau writes at allotment and at the end of a
re-layout, so that it is REG_CFG's; lines of an H2 region or of one in re-layout go by the low line bits. The Hutch takes them at any port. -/
def State.hutPort (s : State) (a : Nat) : Nat :=
  let h := stackOf a
  let f := (s.regCfg h (regionOf a)).bits 11 10
  if f = 2 || (s.hutch (s.layoutOf a).1).relayout.any (fun x => x.1 = (s.layoutOf a).2) then a / 64 % 32 / 4
  else (place f (lineOf a) 0 0).1 / 4

/-- R371: does a request with this key reach the address? `sys`: a SYS request of a mirror engine or the Bureau. Otherwise the error code. -/
def State.stackDenied (s : State) (key a : Nat) (sys : Bool) : Option Nat :=
  let h := stackOf a
  let w := s.regCfg h (regionOf a)
  if !s.fuses.stkEn.testBit h || s.regionCount ≤ regionOf a then some 0x0F1
  else if !w.bit 31 || w.bits 9 6 = 0 then some 0x0F1
  else if w.bits 9 6 = 2 && !sys then some 0x0F1
  else if key ≠ w.bits 5 0 && key ≠ 0 then some 0x0F0
  else none

/-- R371: the ISOLATION answer: recorded, counted and raised. -/
def State.isolate (s : State) (key a code : Nat) : State :=
  let p := hut0 (stackOf a)
  ((s.err p 6 code (regionOf a + key % 64 * 32)).incCtr p 0x068).raise p 6

/-- The address of a mirrored line's copy (R377). -/
def State.mirrorAt (s : State) (a : Nat) : Option Nat :=
  let w := s.regCfg (stackOf a) (regionOf a)
  if w.bit 24 then some (w.bits 18 17 * 2 ^ 35 + w.bits 23 19 * 2 ^ 30 + a % 2 ^ 30) else none

/-- R377, R380: is the line unreadable: on a retired pseudo-channel, with no mirror or with a mirror line that lies on a retired one of its own stack? -/
def State.lineLost (s : State) (a : Nat) : Bool :=
  let gone (b : Nat) : Bool := (s.rdN (hut0 (stackOf b)) 0x048).testBit (s.pcOf b)
  gone a && (match s.mirrorAt a with | some m => gone m | none => true)

/-- `n` bytes written to a stack address: at the primary, and at the mirror of a mirrored region (R375, R377). -/
def State.stackPut (s : State) (a n v : Nat) : State :=
  match s.mirrorAt a with
  | some m => (s.store a n v).store m n v
  | none => s.store a n v

/-- The device's own write of `n` bytes to a stack address for a key, made where the region belongs to it, and recorded like any other where not (R371). -/
def State.ownPut (s : State) (key a n v : Nat) : State :=
  match s.stackDenied key a false with
  | some c => s.isolate key a c
  | none => s.stackPut a n v

/-- The journal of a logical Cabinet. -/
def State.journal (s : State) (k c : Nat) : Journal := SMap.get (fun _ => Journal.reset) s.journals (256 * k + c)

/-- The state with that journal replaced. -/
def State.setJournal (s : State) (k c : Nat) (j : Journal) : State :=
  { s with journals := SMap.set (fun _ => Journal.reset) s.journals (256 * k + c) j }

/-- R434: the capacity of a journal in entries. -/
def journalMax : Nat := 4194304

/-- The base of an area of a partition. -/
def State.areaOf (s : State) (k c use : Nat) : Option Nat := ((s.cfg k).areas.find? fun a => a.1 = c && a.2.1 = use).map (·.2.2.1)

/-- R431, R432: journal entries from number `n` on are written into the ring in the Cabinet's journal area. Entry number i stands in slot
i mod 4,194,304, its least significant byte lowest (DESIGN CHOICE, log entry 49). -/
def State.journalWrite (s : State) (k c n : Nat) (es : List Nat) : State :=
  match s.areaOf k c 2 with
  | some a => es.zipIdx.foldl (fun s e => s.stackPut (a + 16 * ((n + e.2) % journalMax)) 16 e.1) s
  | none => s

/-- Entries appended to the journal of a logical Cabinet of a protected partition, in the state and in the ring of the stacks (R431). -/
def State.journalAdd (s : State) (k c : Nat) (es : List Nat) : State :=
  let j := s.journal k c
  (s.journalWrite k c (j.base + j.entries.length) es).setJournal k c
    { j with entries := j.entries ++ es, hwm := max j.hwm (j.entries.length + es.length) }

/-- R434: has the journal no room for another entry? -/
def State.journalFull (s : State) (k c : Nat) : Bool := (s.cfg k).prot && decide (journalMax ≤ (s.journal k c).entries.length)

/-- R434: a full journal refuses: it is counted once and raised on the INTG pages. -/
def State.journalBlock (s : State) (k c : Nat) : State :=
  let j := s.journal k c
  if j.blocks then s
  else ((s.setJournal k c { j with full := min (j.full + 1) 4294967295, blocks := true }).raise (intg 0) 5).raise (intg k) 5

/-- R433: the KIND 6 entry of a word about to be written. -/
def undoEntry (old a : Nat) : Nat := old % 2 ^ 64 * 2 ^ 64 + a % 2 ^ 37 / 8 * 8 * 2 ^ 27 + 6

/-- R433: the undo entries of a write of `n` bytes at a stack address by a unit of a protected Cabinet. -/
def State.undo (s : State) (p a n : Nat) : State :=
  let k := s.cabKey p
  let kind := (s.regCfg (stackOf a) (regionOf a)).bits 9 6
  if (s.cfg k).prot && (kind = 1 || kind = 7) then
    s.journalAdd k (s.cabLog p) ((List.range ((a % 8 + n + 7) / 8)).map fun i => undoEntry (s.load (a / 8 * 8 + 8 * i) 8) (a / 8 * 8 + 8 * i))
  else s

/-- R381: the number of the imbalance window of 2^IMB_WIN fu that device time stands in. -/
def State.imbWindow (s : State) (h : Nat) : Nat := s.now / 2 ^ s.fld (hut0 h) 0x070 4 0

/-- R381: one line accessed in a pseudo-channel of a region of a stack, in the window that device time stands in. -/
def Hutch.count (x : Hutch) (w k : Nat) : Hutch :=
  let x := if w = x.window then x else { x with past := x.past ++ [(x.window, x.counts)], counts := [], window := w }
  { x with counts := SMap.set (fun _ => 0) x.counts k (SMap.get (fun _ => 0) x.counts k + 1) }

/-- R381: the lines of an access are counted in their pseudo-channels. -/
def State.countLine (s : State) (a : Nat) : State :=
  s.setHutch (stackOf a) ((s.hutch (stackOf a)).count (s.imbWindow (stackOf a)) (32 * regionOf a + s.pcOf a))

/-- R377, R381: a written line, with its copy in the mirror. -/
def State.countCopies (s : State) (a : Nat) : State :=
  match s.mirrorAt a with
  | some m => (s.countLine a).countLine m
  | none => s.countLine a

/-- R381: the lines that `n` bytes touch. -/
def State.countLines (s : State) (a n : Nat) : State :=
  (List.range ((a % 64 + n + 63) / 64)).foldl (fun s i => s.countLine (a / 64 * 64 + 64 * i)) s

/-- R381: the lines that a write of `n` bytes touches, at every copy. -/
def State.countWrites (s : State) (a n : Nat) : State :=
  (List.range ((a % 64 + n + 63) / 64)).foldl (fun s i => s.countCopies (a / 64 * 64 + 64 * i)) s

/-- R371 for `n` bytes, which may reach into a second region: the address and code of the first refused access. -/
def State.spanDenied (s : State) (key a n : Nat) : Option (Nat × Nat) :=
  match s.stackDenied key a false with
  | some c => some (a, c)
  | none => (s.stackDenied key (a + n - 1) false).map fun c => (a + n - 1, c)

/-- A read of `n` bytes of a stack by a requester with this key: the value, or none where the Hutch answers ISOLATION (R371). -/
def State.stackRead (s : State) (key a n : Nat) : Option Nat × State :=
  match s.spanDenied key a n with
  | some (b, code) => (none, s.isolate key b code)
  | none => (some (s.load a n), s.countLines a n)

/-- R377: a read served from the mirror: recorded, counted and raised. -/
def State.mirrorServed (s : State) (a : Nat) : State :=
  let h := stackOf a
  ((s.err (hut0 h) 1 0x0F2 (s.pcOf a)).incCtr (hut0 h) 0x064).raise (hut0 h) 2

/-- R377, R380: the pseudo-channel of an address is retired. -/
def State.onRetired (s : State) (a : Nat) : Bool := (s.rdN (hut0 (stackOf a)) 0x048).testBit (s.pcOf a)

/-- R376, R380, R428: a line has no good copy: recorded, counted and reported, with the owner of its region. -/
def State.uncorrected (s : State) (a : Nat) : State :=
  let h := stackOf a
  let s := ((s.err (hut0 h) 2 0x031 (s.pcOf a)).incCtr (hut0 h) 0x060).raise (hut0 h) 1
  let s := if (s.hutch h).errHeld then s else (s.wr64 (hut0 h) 0x088 a).setHutch h { s.hutch h with errHeld := true }
  s.reportWith (hut0 h) 0x031 (512 * (s.regCfg h (regionOf a)).bits 5 0 + b2n (s.lineLost a))

/-- R377, R380: a unit's read of `n` bytes of a stack. A line on a retired pseudo-channel is served from its mirror; without one it is answered
UNCORRECTED: its value is free. -/
def State.stackFetch (s : State) (key a n : Nat) : Option Nat × State :=
  let r := s.stackRead key a n
  if r.1.isNone then r
  else if s.lineLost a then (some ((r.2.uncorrected a).draw256.1 % 256 ^ n), (r.2.uncorrected a).draw256.2)
  else if s.onRetired a then (r.1, ((s.mirrorAt a).map fun m => (r.2.countLine m).mirrorServed a).getD r.2) else r

/-- The bytes of a write in its first region, and those in the second. -/
def State.stackSplit (s : State) (a n v : Nat) : State :=
  let k := 2 ^ 30 - a % 2 ^ 30
  if n ≤ k then s.stackPut a n v else (s.stackPut a k v).stackPut (a + k) (n - k) (v / 256 ^ k)

/-- A write of `n` bytes of a stack by a unit of a Cabinet: true where it took place. -/
def State.stackWrite (s : State) (p key a n v : Nat) : Bool × State :=
  match s.spanDenied key a n with
  | some (b, code) => (false, s.isolate key b code)
  | none => (true, ((s.undo p a n).stackSplit a n v).countWrites a n)

/-! ### Shared-memory addresses -/

/-- R297: where a shared-memory address of a descriptor reaches: a stack byte address, a scratchpad offset of the general shared area, or nothing. -/
inductive Shared where
  | stack (a : Nat)
  | spad (off : Nat)
  | bad
  deriving DecidableEq, Repr

/-- R297, R9: the decoding of a shared-memory address. -/
def sharedAddr (a : Nat) : Shared :=
  if a / 2 ^ 63 % 2 = 0 then (if a % 2 ^ 63 < 2 ^ 37 then .stack (a % 2 ^ 37) else .bad)
  else if a % 2 ^ 63 < 2 ^ 22 && decide (0x370000 ≤ a % 2 ^ 63) then .spad (a % 2 ^ 22) else .bad

/-- The 16-byte units that an access of `n` bytes at a scratchpad offset takes: the offset and length of each part (R281). -/
def spadParts (off n : Nat) : List (Nat × Nat) :=
  (List.range ((off % 16 + n + 15) / 16)).map fun i =>
    let lo := max off (off / 16 * 16 + 16 * i)
    (lo, min (off + n) (off / 16 * 16 + 16 * i + 16) - lo)

/-- R286: the first bank not ON that an access of `n` bytes meets; the general shared area repeats its banks every eight units. -/
def State.spanOff (s : State) (p off n : Nat) : Option Nat :=
  ((List.range (min 8 ((off % 16 + n + 15) / 16))).map fun i => bankOf (off + 16 * i)).find? fun b => !s.bankOn p b

/-- R286: a read by the queue manager: the units in a bank not ON are recorded and read as zero. -/
def State.spadGet (s : State) (p off n : Nat) : Nat × State :=
  match s.spanOff p off n with
  | none => (s.load (spadAt p off) n, s)
  | some _ => (spadParts off n).foldl (fun a x =>
      if s.bankOn p (bankOf x.1) then (a.1 + s.load (spadAt p x.1) x.2 * 256 ^ (x.1 - off), a.2) else (a.1, a.2.bankErr p (bankOf x.1))) (0, s)

/-- R286: a write by the queue manager: the units in a bank not ON are recorded and dropped. -/
def State.spadSet (s : State) (p off n v : Nat) : State :=
  match s.spanOff p off n with
  | none => s.store (spadAt p off) n v
  | some _ => (spadParts off n).foldl (fun u x =>
      if s.bankOn p (bankOf x.1) then u.store (spadAt p x.1) x.2 (v / 256 ^ (x.1 - off)) else u.bankErr p (bankOf x.1)) s

/-- Does a block of `n` bytes at a shared-memory address stay in the stacks, or in the general shared area? -/
def sharedFits (a n : Nat) : Bool :=
  match sharedAddr a with
  | .stack b => decide (b + n ≤ 2 ^ 37)
  | .spad off => decide (off + n ≤ 2 ^ 22)
  | .bad => false

/-- R286: the bank not ON that a unit of the Cabinet meets at a shared-memory address. -/
def State.sharedOff (s : State) (p a n : Nat) : Option Nat :=
  match sharedAddr a with
  | .spad off => s.spanOff p off n
  | _ => none

/-- Does an access lie in the general shared area? -/
def inShared (a n : Nat) : Bool := decide (0x370000 ≤ a) && decide (a + n ≤ 0x400000)

/-- R282: a requester, by its number in STALL_r (R283), reaches into an area of another unit. -/
def State.areaErr (s : State) (p who : Nat) : State := (s.err (spad p) 5 0x0B1 who).raise (spad p) 3

/-- R282, R286: does an access of the scratchpad by the expander (2) or the queue manager (3) not take place, whole or in part? -/
def State.areaOff (s : State) (p who off n : Nat) : Bool :=
  !(inShared off n || (who = 2 && decide (0x300000 ≤ off) && decide (off + n ≤ 0x400000))) || (s.spanOff p off n).isSome

/-- R282, R286: a read of the scratchpad by the expander (2) or the queue manager (3). The expander also reaches the row cache's area. -/
def State.areaGet (s : State) (p who off n : Nat) : Nat × State :=
  if inShared off n || (who = 2 && decide (0x300000 ≤ off) && decide (off + n ≤ 0x400000)) then s.spadGet p off n else (0, s.areaErr p who)

/-- R282, R286: a write of the scratchpad by the expander (2) or the queue manager (3). -/
def State.areaSet (s : State) (p who off n v : Nat) : State :=
  if inShared off n || (who = 2 && decide (0x300000 ≤ off) && decide (off + n ≤ 0x400000)) then s.spadSet p off n v else s.areaErr p who

/-- `n` bytes read through a shared-memory address by a unit of the Cabinet: none where the access does not take place. -/
def State.sharedRead (s : State) (p a n : Nat) : Option Nat × State :=
  match sharedAddr a with
  | .stack b => s.stackFetch (s.cabKey p) b n
  | .spad off => (some (s.load (spadAt p off) n), s)
  | .bad => (none, s)

/-- `n` bytes written through a shared-memory address by a unit of the Cabinet. -/
def State.sharedWrite (s : State) (p a n v : Nat) : Bool × State :=
  match sharedAddr a with
  | .stack b => s.stackWrite p (s.cabKey p) b n v
  | .spad off => (true, s.store (spadAt p off) n v)
  | .bad => (false, s)

/-- R426: a unit of a Cabinet reports the Cabinet to the Bureau as faulted. -/
def State.cabFault (s : State) (p code : Nat) : State := s.report (cctl p) code

/-- R287: ERR_ADDR takes the offset of the first ECC error, until PG_ERR_INFO is cleared. -/
def State.spadAddr (s : State) (p off : Nat) : State :=
  if s.rdN (spad p) errCaptured = 0 then (s.wrN (spad p) 0x070 (off / 8 * 8)).wrN (spad p) errCaptured 1 else s

/-- R287: a correctable error in a read by the control core, the queue manager or observation. -/
def State.spadCorr (s : State) (p off : Nat) : State := ((s.err (spad p) 1 0x030 (bankOf off)).raise (spad p) 0).spadAddr p off

/-- R287: an uncorrectable error in such a read. -/
def State.spadUncorr (s : State) (p off : Nat) : State := (((s.err (spad p) 2 0x031 (bankOf off)).raise (spad p) 1).cabFault p 0x031).spadAddr p off

/-- The 8-byte word of up to 32 bytes in which the lowest of some flipped bits lies. -/
def flippedWord (flips : Nat) : Nat := ((List.range 4).find? fun i => nb flips (64 * i + 63) (64 * i) ≠ 0).getD 0

/-- R287: the error check of a scratchpad read by the queue manager or the control core: the value used, and whether it was uncorrectable. -/
def State.spadCheck (s : State) (p off v : Nat) : EccRead → Nat × Bool × State
  | .clean => (v, false, s)
  | .corrected i => (v, false, s.spadCorr p (off + 8 * (i % 4)))
  | .uncorrectable flips _ => (v ^^^ flips, true, s.spadUncorr p (off + 8 * flippedWord flips))


end Sys2Proof.Machine
end

