-- ==== Sys2Proof/Machine/Intake.lean ====
section
/-!
DEFINITION. Intake.lean: the receive link of an intake channel, its timestamps, its sample FIFO and its gaps (03_intake.md),
up to the encoders, which Encoder.lean holds.
-/

namespace Sys2Proof.Machine

/-- The CHIN page of a channel. -/
def chin (n : Nat) : Page := ⟨.chin, n⟩
/-- The CHENC page of a channel. -/
def chenc (n : Nat) : Page := ⟨.chenc, n⟩
/-- The CHTMR page of a channel. -/
def chtmr (n : Nat) : Page := ⟨.chtmr, n⟩

/-- A channel. -/
def State.chan (s : State) (n : Nat) : Chan := SMap.get (fun _ => Chan.reset) s.chans n

/-- The state with one channel replaced. -/
def State.setChan (s : State) (n : Nat) (c : Chan) : State := { s with chans := SMap.set (fun _ => Chan.reset) s.chans n c }

/-- The decoders of a channel. -/
def State.dec (s : State) (n : Nat) : Dec := SMap.get (fun _ => Dec.reset) s.decs n

/-- The state with a channel's decoders replaced. -/
def State.setDec (s : State) (n : Nat) (d : Dec) : State := { s with decs := SMap.set (fun _ => Dec.reset) s.decs n d }

/-- The CHDEC page. -/
def chdec (n : Nat) : Page := ⟨.chdec, n⟩

/-- CHIN.PG_CTRL.ENABLE (R59). -/
def State.chanOn (s : State) (n : Nat) : Bool := s.flag (chin n) 0x008 0

/-! ### Link parameters -/

/-- LINK_CFG0.MODE. -/
def cfgMode (w : Word) : Nat := w.bits 1 0
/-- LINK_CFG0.SUBCLASS. -/
def cfgSub (w : Word) : Nat := w.bits 3 2
/-- L, lanes. -/
def cfgL (w : Word) : Nat := w.bits 7 5
/-- M, converters. -/
def cfgM (w : Word) : Nat := w.bits 9 8 + 1
/-- N, resolution. -/
def cfgN (w : Word) : Nat := w.bits 14 10
/-- CS, control bits. -/
def cfgCS (w : Word) : Nat := w.bits 21 20
/-- S, samples per converter per frame. -/
def cfgS (w : Word) : Nat := 2 ^ w.bits 24 22
/-- K, frames per multiframe. -/
def cfgK (w : Word) : Nat := w.bits 4 0 + 1
/-- E, multiblocks per extended multiblock. -/
def cfgE (w : Word) : Nat := w.bits 9 5 + 1
/-- F = M · S · 2 / L, octets per frame. -/
def cfgF (w : Word) : Nat := cfgM w * cfgS w * 2 / cfgL w

/-- R63: the first failing parameter of a set, as Table 3.10 numbers them. -/
def linkParamFail (c0 c1 : Word) (rate : Nat) : Option Nat :=
  let f := cfgF c0
  if cfgMode c0 = 0 then none
  else if cfgM c0 * cfgS c0 * 2 % cfgL c0 ≠ 0 || f = 0 || 32 < f then some 1
  else if cfgMode c0 = 1 && (f * cfgK c1 < 17 || 1024 < f * cfgK c1) then some 2
  else if cfgMode c0 = 2 && 256 * cfgE c1 % f ≠ 0 then some 3
  else if 16 < cfgN c0 + cfgCS c0 then some 4
  else if cfgMode c0 = 1 && (rate < 500 || 2000 < rate) then some 5
  else if cfgMode c0 = 2 && (rate < 960 || 5120 < rate) then some 5
  else if cfgMode c0 = 2 && !c0.bit 4 then some 7
  else none

/-- The link registers as they stand (R95). -/
def State.linkRegs (s : State) (n : Nat) : LinkRegs :=
  let p := chin n
  ⟨s.rd p 0x044, s.rd p 0x048, s.fld p 0x04C 12 0, s.rd p 0x050, s.rd p 0x054, s.rdN p 0x060, s.fld p 0x064 15 0, s.fld p 0x06C 9 0⟩

/-- The link registers in force (R95): those of the last link initialisation, or of the last check of an enabled link, and the registers themselves
while the link is not enabled. -/
def State.inForce (s : State) (n : Nat) : LinkRegs := if s.flag (chin n) 0x040 0 then (s.chan n).link else s.linkRegs n

/-- R90: PAIR_HOLD_MIN, with the duration of one multiblock of 2,112 bits at the lane rate in force in JESD204C mode. -/
def State.pairHoldMin (s : State) (n : Nat) : Nat :=
  let r := s.inForce n
  let mb := if cfgMode r.cfg0 = 2 && r.rate ≠ 0 then (10813440 + r.rate - 1) / r.rate else 0
  4096 + 9600 + 2 * mb + 640

/-- H_p: the pair hold of a paired channel, zero of an unpaired one (R61, R88). -/
def State.pairHold (s : State) (n : Nat) : Nat :=
  if s.flag (chin n) 0x1A0 0 then
    (if s.rdN (chin n) 0x1A4 = 0 then s.pairHoldMin n else s.rdN (chin n) 0x1A4)
  else 0

/-- R87: the channel of the other side of the pair; 16 where a ROLE of 1 stands in the lower half, which has no such channel. -/
def State.partner (s : State) (n : Nat) : Nat :=
  let half := s.chanCount / 2
  let l := s.logChan n
  if s.flag (chin n) 0x1A0 1 && decide (l < half) then 16 else s.physChan (if s.flag (chin n) 0x1A0 1 then l - half else l + half)

/-- R100: the logical number in the source IDs of a channel: that of the primary of its pair. -/
def State.srcChan (s : State) (n : Nat) : Nat :=
  if s.flag (chin n) 0x1A0 0 && s.flag (chin n) 0x1A0 1 then s.logChan n - s.chanCount / 2 else s.logChan n

/-- E, the encoder latency in force. -/
def State.encLat (s : State) (n : Nat) : Nat := s.fld (chenc n) 0x048 23 0

/-! ### Link state -/

/-- LINK_STATE [2:0]: 0 DOWN, 1 TRAIN, 2 ALIGN, 3 DATA, 4 ILAS_FAIL. -/
def State.linkSt (s : State) (n : Nat) : Nat := s.fld (chin n) 0x058 2 0

/-- LINK_CTRL.EN. -/
def State.linkEn (s : State) (n : Nat) : Bool := s.flag (chin n) 0x040 0

/-- The level of a SYNC_N pin. -/
inductive Level where
  | low | high | float
  deriving DecidableEq, Repr

/-- R70: the level of SYNC_N[n] beside the error pulses of R66: low in JESD204B mode until DATA. Step 3 of Table 3.2 has it go high at the LMFC
boundary after code group synchronisation; the model follows R70 (DESIGN CHOICE, log entry 19). -/
def State.syncN (s : State) (n : Nat) : Level :=
  if (s.dom (292 + n)).cur = .off then .float
  else if (s.dom (292 + n)).cur ≠ .run then .low
  else
    if cfgMode (s.inForce n).cfg0 = 1 && !(s.linkEn n && s.linkSt n = 3) then .low else .high

/-- The link leaves DATA: LINK_DOWN, and a gap of an enabled channel (03_intake.md, When the input stops). While ENABLE is 0 there is no gap, and an open
record of the sample FIFO stays open: samples of the new anchor fill it (DESIGN CHOICE, log entry 19). -/
def State.linkLeave (s : State) (n cause : Nat) : State :=
  if s.linkSt n = 3 then
    let s := (s.setFlag (chin n) 0x00C 0 false).raise (chin n) 1
    let c := { s.chan n with downAt := some s.now }
    s.setChan n (if s.chanOn n && c.gap.isNone then { c with gap := some ⟨cause, none⟩ } else c)
  else s

/-- The link is DOWN or waits in a state of bring-up: lanes unlocked, not aligned, no anchor in force. -/
def State.linkTo (s : State) (n st : Nat) : State :=
  let s := (s.wrN (chin n) 0x058 st).setFlag (chin n) 0x00C 2 false
  (List.range 4).foldl (fun s i => s.wrN (chin n) (0x108 + 0x10 * i) 0) s

/-- A link initialisation: the held registers come into force (R95) and the link trains; a mode of 0 leaves it DOWN (R63). -/
def State.linkInit (s : State) (n : Nat) : State :=
  let r := s.linkRegs n
  (s.setChan n { s.chan n with link := r, bad := false, ilasOk := false }).linkTo n (if cfgMode r.cfg0 = 0 then 0 else 1)

/-- R63: the check of the parameters as a set, then the initialisation; an inconsistent set leaves the link DOWN. -/
def State.linkStart (s : State) (n : Nat) : State :=
  let r := s.linkRegs n
  match linkParamFail r.cfg0 r.cfg1 r.rate with
  | some loc => ((s.setChan n { s.chan n with link := r, bad := true }).linkTo n 0).err (chin n) 5 0x011 loc
  | none => s.linkInit n

/-- A write of LINK_CTRL (R63, R31; Table 3.11): SYNC_RPT is written; EN starts or ends the link; REINIT forces an initialisation. -/
def linkCtrlWrite (n : Nat) (w : Word) (s : State) : State :=
  let p := chin n
  let was := s.linkEn n
  let s := s.setFld p 0x040 2 2 (w.bits 2 2)
  if !w.bit 0 then
    if was then (s.linkLeave n 2).setFlag p 0x040 0 false |>.linkTo n 0 else s
  else if (!was || w.bit 1 || s.linkSt n = 0) && s.tb.state ≠ .running then s.err p 5 0x012 0
  else
    let s := s.setFlag p 0x040 0 true
    if w.bit 1 then (s.linkLeave n 0).linkStart n
    else if !was || s.linkSt n = 0 then s.linkStart n else s

/-- R63: a write of LINK_CTRL with EN set. -/
def execLinkEnable (r : Req) (n : Nat) (w : Word) (s : State) : Result :=
  gated r (chin n) 0x040 s (linkCtrlWrite n (w.setBits 0 0 1))

/-- R63: a write of LINK_CTRL with REINIT set. -/
def execLinkReinit (r : Req) (n : Nat) (w : Word) (s : State) : Result :=
  gated r (chin n) 0x040 s (linkCtrlWrite n (w.setBits 1 1 1))

/-- R84: a write of LINK_CTRL with EN clear. -/
def execLinkDisable (r : Req) (n : Nat) (w : Word) (s : State) : Result :=
  gated r (chin n) 0x040 s (linkCtrlWrite n (w.setBits 0 0 0))

/-- Table 3.2, steps 2 and 3: the SerDes PLL and the CDRs lock and every mapped lane is synchronised. After a loss of the PLL the link
trains again by itself while EN is 1. -/
def execLaneLock (n : Nat) (s : State) : Result :=
  let c := s.chan n
  let s := if c.pllLost && s.linkSt n = 0 && s.linkEn n && !c.bad then s.linkStart n else s
  let c := s.chan n
  let s := if c.pllLost then s.setChan n { c with pllLost := false } else s
  if s.linkEn n && s.linkSt n = 1 then
    let l := cfgL c.link.cfg0
    let s := s.wrN (chin n) 0x058 (2 + (2 ^ l - 1) * 16)
    done ((List.range l).foldl (fun s i => s.wrN (chin n) (0x108 + 0x10 * i) 3) s)
  else done s

/-- A SYSREF edge at the channel, `phi` fu after the last CLK_TB edge, as captured (R42). -/
def State.chanSysref (s : State) (n phi : Nat) : Nat := s.tb.count + phi % 16 - s.fuses.chSysrefDly n

/-- TS_ANCHOR, the anchor t_a of R72. -/
def State.setAnchor (s : State) (n : Nat) : State :=
  s.wr64 (chin n) 0x078 (toBits (((s.chan n).base : Int) + ofBits (s.rdN (chin n) 0x068) 32) 64)

/-- R72, Table 3.2 step 4: the first admitted SYSREF edge after lock aligns a subclass 1 link and fixes its anchor. -/
def execLmfcAlign (n phi : Nat) (s : State) : Result :=
  let c := s.chan n
  if s.tb.state = .running && s.linkSt n = 2 && cfgSub c.link.cfg0 = 1 && !s.flag (chin n) 0x058 8 && s.flag (chin n) 0x074 0 then
    done (((s.setChan n { c with base := s.chanSysref n phi, k := 0 }).setFlag (chin n) 0x058 8 true).setFlag (chin n) 0x00C 2 true
      |>.setAnchor n)
  else done s

/-- The ILAS configuration octets of a lane under the configuration in force (log entry 20): octets 0 to 12 in the JESD204B layout. -/
def ilasOctets (r : LinkRegs) (lane : Nat) : List Nat :=
  let c := r.cfg0
  let lid := (r.id.bits 16 12 + lane) % 32
  [r.id.bits 7 0, r.id.bits 11 8, lid, b2n (c.bit 4) * 128 + (cfgL c - 1), cfgF c - 1, r.cfg1.bits 4 0, cfgM c - 1,
   cfgCS c * 64 + (cfgN c - 1), cfgSub c * 32 + (c.bits 19 15 - 1), 32 + (cfgS c - 1), b2n (c.bit 25) * 128, 0, 0]

/-- FCHK of received octets: the sum of the fields of octets 0 to 12, modulo 256. -/
def ilasSum (o : List Nat) : Nat :=
  let g i := o.getD i 0
  (g 0 + g 1 / 16 + g 1 % 16 + g 2 / 64 % 2 + g 2 / 32 % 2 + g 2 % 32 + g 3 / 128 + g 3 % 32 + g 4 + g 5 % 32 + g 6 + g 7 / 64 + g 7 % 32 +
    g 8 / 32 + g 8 % 32 + g 9 / 32 + g 9 % 32 + g 10 / 128 + g 10 % 32 + g 11 + g 12) % 256

/-- The bits of each octet that R64 compares: DID, BID, LID, SCR and L, F, K, M, CS and N, subclass and N', S, HD. -/
def ilasMask : List Nat := [0xFF, 0x0F, 0x1F, 0x9F, 0xFF, 0x1F, 0xFF, 0xDF, 0xFF, 0x1F, 0x80]

/-- The first octet of a lane that differs, if one does. -/
def ilasLaneFail (r : LinkRegs) (lane : Nat) (got : List Nat) : Option Nat :=
  match (List.range 11).find? (fun i => (got.getD i 0) &&& ilasMask.getD i 0 ≠ ((ilasOctets r lane).getD i 0) &&& ilasMask.getD i 0) with
  | some i => some i
  | none => if got.getD 13 0 = ilasSum got then none else some 13

/-- The first lane, and its octet, at which a received ILAS differs. -/
def ilasFail (r : LinkRegs) (got : List (List Nat)) : Option (Nat × Nat) :=
  (List.range (cfgL r.cfg0)).findSome? fun i => (ilasLaneFail r i (got.getD i [])).map fun o => (i, o)

/-- R64: the ILAS of every lane, 14 octets each, is checked against the configuration. -/
def execIlasCheck (n : Nat) (got : List (List Nat)) (s : State) : Result :=
  let c := s.chan n
  if s.linkSt n = 2 && cfgMode c.link.cfg0 = 1 && (cfgSub c.link.cfg0 = 0 || s.flag (chin n) 0x058 8) then
    match ilasFail c.link got with
    | none => done (s.setChan n { c with ilasOk := true })
    | some (lane, o) => done (((s.linkTo n 4).err (chin n) 3 0x020 (lane * 256 + o)).raise (chin n) 4)
  else done s

/-- R64: 2^22 fu after an ILAS failure the link retries from step 3, a link initialisation. -/
def execIlasRetry (n : Nat) (s : State) : Result :=
  if s.linkEn n && s.linkSt n = 4 then done (s.linkStart n) else done s

/-- L_rx: the stamping latency that the link configuration in force implies (R105), free of any value (log entry 5). -/
def State.rxLat (s : State) (n : Nat) : Nat :=
  let r := s.inForce n
  (Config.rxLat r.cfg0.toNat r.cfg1.toNat r.rate r.rbd).toNat

/-- Table 3.2 step 6, R72: the lane data leave the elastic buffers and the link enters DATA. In subclass 1 the first sample stamped has
index `k` from the anchor boundary; in subclass 0 the anchor is this CLK_TB edge and its index 0. `elastic` names a logical lane whose elastic buffer
has over- or underflowed: code 0x022 of Table 3.10 is recorded, and the link does not enter DATA (DESIGN CHOICE, log entry 19). -/
def execLinkUp (n : Nat) (k : LinkAlign) (s : State) : Result :=
  let c := { s.chan n with downAt := none, outs := (s.chan n).outs ++ [((s.chan n).downAt.getD 0, s.now)] }
  let sub1 := decide (cfgSub c.link.cfg0 = 1)
  if s.tb.state = .running && s.linkSt n = 2 && (cfgMode c.link.cfg0 ≠ 1 || c.ilasOk) && (!sub1 || s.flag (chin n) 0x058 8) then
    if k.elastic.isSome then done (s.err (chin n) 3 0x022 (k.elastic.getD 0)) else
    let s := s.setChan n (if sub1 then { c with k := k.k } else { c with base := s.tb.count, k := 0 })
    let s := ((s.setFld (chin n) 0x058 2 0 3).setFlag (chin n) 0x00C 0 true).raise (chin n) 0
    let s := s.wrN (chin n) 0x070 (Config.rxLat c.link.cfg0.toNat c.link.cfg1.toNat c.link.rate c.link.rbd).toNat
    let s := (List.range (cfgL c.link.cfg0)).foldl (fun s i => s.wrN (chin n) (0x108 + 0x10 * i) 7) s
    done (s.setAnchor n)
  else done s

/-! ### Errors of a running link -/

/-- A pair window of a channel. -/
def Chan.win (c : Chan) (w : Nat) : PairWin := (c.wins.find? (fun x => x.w = w)).getD ⟨w, false, false, 0, false, 0, none, none⟩

/-- The channel with one pair window replaced. -/
def Chan.setWin (c : Chan) (x : PairWin) : Chan := { c with wins := x :: c.wins.filter (fun y => y.w ≠ x.w) }

/-- Does a stretch of times touch a pair window? -/
def inWindow (w a b : Nat) : Bool := decide (a ≤ 4096 * w + 4095) && decide (4096 * w ≤ b)

/-- R87: the fault bit of a window whose status is not sent: a detected fault, link DOWN or a gap at any of its times. -/
def State.winFault (s : State) (n w : Nat) : Bool :=
  let c := s.chan n
  (c.win w).fault || c.outs.any (fun o => inWindow w o.1 o.2) || (s.linkSt n ≠ 3 && inWindow w (c.downAt.getD 0) (4096 * w)) ||
    (c.gap.isSome && inWindow w (c.tLast.getD 0) (4096 * w))

/-- R69, R87: a detected fault of a paired channel in every window that the times from `a` to `b` touch and whose status it has not sent. -/
def State.pairFault (s : State) (n a b : Nat) : State :=
  if s.flag (chin n) 0x1A0 0 then
    s.setChan n ((List.range (b / 4096 + 1 - a / 4096)).foldl (fun c i => let x := c.win (a / 4096 + i)
      c.setWin { x with fault := x.fault || !x.sent }) (s.chan n))
  else s

/-- R34: one block's local copy differs from the broadcast: it records code 0x001, COPY_MISMATCH is raised, the copy is reloaded
and the block reports itself faulted. In a paired channel it is a detected fault of the window of this time (R87). -/
def copyMismatch (s : State) (p : Page) : State :=
  let s := ((s.err p 2 0x001 0).raise pTime 14).report p 0x001
  match p.blk with
  | .chin | .chenc | .chdec | .chtmr => s.pairFault p.inst s.now s.now
  | _ => s

/-- R34: the comparison at the start of a horizon round; `bad` lists the pages whose copies differ. -/
def execCopyCheck (bad : List Page) (s : State) : Result :=
  if s.tb.state = .running then done (bad.foldl copyMismatch s) else done s

/-- R69: LINKERR in the trailer of every record that holds samples of the times from `a` to `b`. -/
def Sfifo.linkErr (f : Sfifo) (a b : Nat) : Sfifo :=
  let hit (lo hi : Nat) : Bool := decide (lo ≤ b) && decide (a ≤ hi)
  let mark (ws : List Nat) : List Nat := match ws.getLast? with | some t => ws.dropLast ++ [t ||| 8] | none => ws
  { f with recs := f.recs.map (fun r => if hit r.tLo r.tHi then { r with words := mark r.words } else r)
           cur := f.cur.map (fun o => if hit o.t0 o.tHi then { o with err := true } else o) }

/-- R66: a disparity error or a not-in-table character on a lane is counted; SYNC_RPT makes one pulse on SYNC_N. In JESD204C mode
`code` counts an invalid sync header (R68). -/
def execLaneErr (n lane : Nat) (code : Bool) (s : State) : Result :=
  let c := s.chan n
  if s.linkEn n && lane < cfgL c.link.cfg0 && (cfgMode c.link.cfg0 = 1 || (cfgMode c.link.cfg0 = 2 && code)) then
    let s := (s.incCtr (chin n) ((if code then 0x104 else 0x100) + 0x10 * lane)).raise (chin n) 5
    if cfgMode c.link.cfg0 = 1 && s.flag (chin n) 0x040 2 then done (s.setChan n { c with pulses := c.pulses + 1 }) else done s
  else done s

/-- A lane loses synchronisation: the link goes DOWN and restarts at step 3 (R67, R68). -/
def State.lossOfLock (s : State) (n lane : Nat) : State :=
  ((s.linkLeave n 1).err (chin n) 3 0x021 lane).linkStart n

/-- R67: four invalid characters within one multiframe on a JESD204B lane. -/
def execLossOfCodeGroupSync (n lane : Nat) (s : State) : Result :=
  if s.linkEn n && decide (2 ≤ s.linkSt n) && cfgMode (s.chan n).link.cfg0 = 1 then done (s.lossOfLock n lane) else done s

/-- R68: 16 of 64 consecutive sync headers of a JESD204C lane are invalid. -/
def execLossOfSyncHeaderLock (n lane : Nat) (s : State) : Result :=
  if s.linkEn n && decide (2 ≤ s.linkSt n) && cfgMode (s.chan n).link.cfg0 = 2 then done (s.lossOfLock n lane) else done s

/-- R68, R69: the CRC-12 of a multiblock whose samples have the times from `a` to `b`. -/
def execMultiblockCrcCheck (n lane : Nat) (ok : Bool) (a b : Nat) (s : State) : Result :=
  let c := s.chan n
  if !ok && s.linkEn n && lane < cfgL c.link.cfg0 && cfgMode c.link.cfg0 = 2 then
    let s := s.setChan n { c with fifo := c.fifo.linkErr a b }
    done (((s.incCtr (chin n) (0x100 + 0x10 * lane)).raise (chin n) 5).pairFault n a b)
  else done s

/-- Both links of a channel go DOWN, and start again by themselves. -/
def State.linksDown (s : State) (n : Nat) : State :=
  let s := (s.linkLeave n 4).linkTo n 0
  let c := s.chan n
  let up := s.fld (chin n) 0x198 1 0
  let s := s.setChan n { c with pllLost := true, tx := { c.tx with retrain := c.tx.retrain || decide (up ≠ 0) } }
  if up = 0 then s else if up = 2 then (s.wrN (chin n) 0x198 0).raise (chin n) 14 else s.wrN (chin n) 0x198 0

/-- 03_intake.md, Supported JESD204 features; R84: the SerDes PLL loses lock and both links go DOWN. -/
def execSerdesPllLoss (n : Nat) (s : State) : Result := done (s.linksDown n)

/-! ### Timestamps -/

/-- R71: stamp(k) from an anchor. -/
def stamp (anchor : Int) (num den k : Nat) : Int := anchor + divr (k * num) den

/-- The anchor t_a with the present DL_OFFSET (R72, R74). -/
def State.anchor (s : State) (n : Nat) : Int := ((s.chan n).base : Int) + ofBits (s.rdN (chin n) 0x068) 32

/-- The samples per LMFC or LEMC period of a link. -/
def lmfcSamples (r : LinkRegs) : Nat :=
  if cfgMode r.cfg0 = 1 then cfgK r.cfg1 * cfgS r.cfg0 else 256 * cfgE r.cfg1 / cfgF r.cfg0 * cfgS r.cfg0

/-- R73: a SYSREF edge after the aligning one on a subclass 1 link with CONT, in DATA or on the way there. The edge falls on a boundary when the frame start nearest to it is
one (log entry 21). -/
def execChannelSysrefCheck (n phi : Nat) (s : State) : Result :=
  let c := s.chan n
  let r := c.link
  if s.tb.state = .running && (s.linkSt n = 3 || s.linkSt n = 2) && s.flag (chin n) 0x058 8 && cfgSub r.cfg0 = 1 && s.flag (chin n) 0x074 1 then
    let d : Int := (s.chanSysref n phi : Int) - c.base
    let k := (divr (d * r.den) (r.num * cfgS r.cfg0)).toNat * cfgS r.cfg0
    if k % lmfcSamples r = 0 then
      let drift := d - divr (k * r.num) r.den
      let s := s.wrN (chin n) 0x084 (word32 drift)
      if drift.natAbs > s.fld (chin n) 0x080 7 0 then done (s.raise (chin n) 6) else done s
    else
      let s := s.raise (chin n) 7
      if s.flag (chin n) 0x074 2 then done ((s.linkLeave n 3).linkStart n) else done s
  else done s

/-- R74: a write of DL_OFFSET, refused while the channel is enabled and its partition runs. TS_ANCHOR shows the new anchor at once: samples are stamped
with it from the next edge on, and the spec does not say when the register follows (DESIGN CHOICE, log entry 19). -/
def dlOffsetWrite (n : Nat) (w : Word) (s : State) : State :=
  if s.chanOn n && !s.partStopped (s.owner (chin n)) then s.refuse (chin n) 0x068
  else
    let s := s.wr (chin n) 0x068 w
    if s.flag (chin n) 0x00C 2 || s.linkSt n = 3 then s.setAnchor n else s

/-- R74: a write of DL_OFFSET. -/
def execDlOffsetWrite (r : Req) (n : Nat) (w : Word) (s : State) : Result := gated r (chin n) 0x068 s (dlOffsetWrite n w)

/-- The registers whose writes R95 holds while the link is enabled. -/
def isLinkReg (off : Nat) : Bool := [0x044, 0x048, 0x04C, 0x050, 0x054, 0x060, 0x064, 0x06C].contains off

/-- The registers whose writes R95 holds while the transmit link is enabled. -/
def isTxReg (off : Nat) : Bool := [0x184, 0x188, 0x190, 0x194].contains off

/-- R10, R62, R95, R418: a write of a link configuration register: a field with a reserved or refused value stays as it was, and the others take effect.
The register comes into force at the next initialisation. -/
def linkConfigWrite (n off : Nat) (w : Word) (s : State) : State :=
  let p := chin n
  let legacyBad := s.legacy && ((off = 0x044 && cfgMode w = 2) || (off = 0x04C && decide (2000 < w.bits 12 0)))
  if legacyBad && off = 0x04C then s.badEnc p off
  else if legacyBad then plainWrite p off (w.setBits 1 0 3) s
  else plainWrite p off w s

/-- R95: a write of a link configuration register. -/
def execLinkConfigWrite (r : Req) (n off : Nat) (w : Word) (s : State) : Result :=
  if isLinkReg off || isTxReg off then gated r (chin n) off s (linkConfigWrite n off w) else done s

/-! ### The sample FIFO -/

/-- Words of an open record that stand in the FIFO: its header and its full sample words (R77). -/
def OpenRec.len (o : OpenRec) : Nat := 1 + o.vals.length / 4

/-- Words present (R77). -/
def Sfifo.level (f : Sfifo) : Nat := f.recs.foldl (fun a r => a + r.words.length) 0 + (match f.cur with | some o => o.len | none => 0)

/-- R79, R81: is the reader at a boundary? -/
def Sfifo.atBoundary (f : Sfifo) : Bool := !f.mid || f.afterFalse

/-- The state with a channel's FIFO replaced: LEVEL and RECORDS follow, and the level cause under R78. -/
def State.setFifo (s : State) (n : Nat) (f : Sfifo) : State :=
  let thr := s.fld (chin n) 0x098 16 0
  let fire := f.lvlArmed && decide (thr ≤ f.level)
  let s := s.setChan n { s.chan n with fifo := { f with lvlArmed := if f.level < thr then true else f.lvlArmed && !fire } }
  let s := (s.wrN (chin n) 0x09C f.level).wrN (chin n) 0x0A0 f.recs.length
  if fire then s.raise (chin n) 8 else s

/-- Table 3.4: four values per word, the first in [15:0]; a partial word is padded with zeros. -/
def packValues : List Nat → List Nat
  | [] => []
  | [a] => [a]
  | [a, b] => [a + b * 2 ^ 16]
  | [a, b, c] => [a + b * 2 ^ 16 + c * 2 ^ 32]
  | a :: b :: c :: d :: rest => (a + b * 2 ^ 16 + c * 2 ^ 32 + d * 2 ^ 48) :: packValues rest

/-- Table 3.4: the trailer word. -/
def sampleTrailer (o : OpenRec) : Nat :=
  o.seq % 65536 * 2 ^ 48 + o.vals.length % 2 ^ 18 * 2 ^ 30 + (o.m - 1) % 4 * 2 ^ 28 + b2n o.err * 8 + b2n o.afterGap * 4

/-- A record is committed with its end mark (Table 3.5: 1 END, 2 TRUNC). -/
def closeRec (o : OpenRec) (mark : Nat) : FifoRec :=
  ⟨(o.t0 % 2 ^ 64) :: packValues o.vals ++ [sampleTrailer o], mark, o.t0, o.tHi⟩

/-- R84: the open record is closed with TRUNC. -/
def State.truncate (s : State) (n : Nat) : State :=
  let c := s.chan n
  match c.fifo.cur with
  | some o =>
    let f := { c.fifo with cur := none, recs := c.fifo.recs ++ [closeRec o 2], drop := 0 }
    ((s.setFifo n f).incCtr (chin n) 0x0B8).raise (chin n) 10
  | none => s.setFifo n { c.fifo with drop := 0 }

/-- R75, R76: one stamped sample of all converters enters the sample FIFO. What the spec leaves open is the model's choice (log entry 19): a write of
SFIFO_CFG.MODE, of OFF too, lets an open record fill to its end, a RECLEN that a later M makes illegal gives a record of the next whole sample, and AFTER_GAP marks the record that the
first sample after a gap begins, and no later one where that record is dropped (R76) or the FIFO is idle (R85, Table 3.4). -/
def State.fifoSample (s : State) (n t : Nat) (xs : List Nat) (err after : Bool) : State :=
  let c := s.chan n
  let f := c.fifo
  let m := cfgM c.link.cfg0
  let mode := s.fld (chin n) 0x090 1 0
  let reclen := s.fld (chin n) 0x094 15 0
  match f.cur with
  | some o =>
    let o := { o with vals := o.vals ++ xs, tHi := t, err := o.err || err }
    if o.size ≤ o.vals.length then s.setFifo n { f with cur := none, recs := f.recs ++ [closeRec o 1] }
    else s.setFifo n { f with cur := some o }
  | none =>
    if 0 < f.drop then s.setChan n { c with fifo := { f with drop := f.drop - 1 } }
    else if mode = 1 || (mode = 2 && f.armed) then
      let f := { f with armed := false, seq := (f.seq + 1) % 65536 }
      if f.level + reclen + 2 ≤ 65536 then
        let o : OpenRec := ⟨t, t, (f.seq + 65535) % 65536, xs, 4 * reclen, m, err, after⟩
        if o.size ≤ xs.length then s.setFifo n { f with recs := f.recs ++ [closeRec o 1] }
        else s.setFifo n { f with cur := some o }
      else
        ((s.setChan n { c with fifo := { f with drop := 4 * reclen / m - 1 } }).incCtr (chin n) 0x0B4).raise (chin n) 9
    else s

/-- A write of GAP_CFG: while EN is 1 the channel owns timer 0, in device-time mode with DIV 4 (R83). -/
def gapCfgWrite (n : Nat) (w : Word) (s : State) : State :=
  let s := plainWrite (chin n) 0x088 w s
  if w.bit 0 then (s.settleTick (chtmr n) 0).setFld (chtmr n) 0x100 9 4 (1 + 4 * 2) else s

/-- The pop latch: SFIFO_POP_HI and SFIFO_POP_INFO (R79). -/
def State.popLatch (s : State) (n hi info : Nat) : State := (s.wrN (chin n) 0x0AC hi).wrN (chin n) 0x0B0 info

/-- R79, R81, R82: a read of SFIFO_POP_LO; `ecc` is how the word reads. An ECC error is a detected fault of the window of this time (R87). -/
def sfifoPop (n : Nat) (ecc : EccRead) (s : State) : Nat × State :=
  let f := (s.chan n).fifo
  if s.flag (chin n) 0x090 2 then (0, (s.popLatch n 0 8).err (chin n) 5 0x014 0)
  else match f.recs with
  | [] => (0, s.popLatch n 0 4)
  | r :: rest =>
    match r.words with
    | [] => (0, s.popLatch n 0 4)
    | w :: ws =>
      let last := ws.isEmpty
      let mark := if last then r.mark else 0
      let s := match ecc with
        | .clean => s
        | .corrected _ => (s.err (chin n) 1 0x030 f.addr).pairFault n s.now s.now
        | .uncorrectable _ _ => (s.err (chin n) 2 0x031 f.addr).pairFault n s.now s.now
      let v := match ecc with | .uncorrectable x _ => w ^^^ (x % 2 ^ 64) | _ => w
      let bad := match ecc with | .uncorrectable _ m => m | _ => false
      let info := (if bad then 2 else mark) + (match ecc with | .uncorrectable _ _ => 16 | _ => 0)
      let f := { f with recs := if last then rest else { r with words := ws } :: rest, mid := !last, afterFalse := bad && !last
                        addr := (f.addr + 1) % 65536 }
      (v % 2 ^ 32, (s.popLatch n (v / 2 ^ 32) info).setFifo n f)

/-- R79: a read of SFIFO_POP_LO. -/
def execSfifoPop (r : Req) (n : Nat) (ecc : EccRead) (s : State) : Result := gatedRead r (chin n) s (sfifoPop n ecc)

/-- R80: DROP_REST discards the rest of the record being read, or the oldest whole record, or what follows a false trailer (R81). -/
def sfifoDropRest (n : Nat) (s : State) : State :=
  let f := (s.chan n).fifo
  match f.recs with
  | [] => s
  | r :: rest => s.setFifo n { f with recs := rest, mid := false, afterFalse := false, addr := (f.addr + r.words.length) % 65536 }

/-- R80: a write of SFIFO_CMD = DROP_REST. -/
def execSfifoDropRest (r : Req) (n : Nat) (s : State) : Result := gated r (chin n) 0x0A4 s (sfifoDropRest n)

/-- R75: a write of SFIFO_CMD = ARM: SINGLE mode takes one record from the next stamped sample. -/
def sfifoArm (n : Nat) (s : State) : State :=
  let c := s.chan n
  if s.fld (chin n) 0x090 1 0 = 2 then s.setChan n { c with fifo := { c.fifo with armed := true } } else s

/-- R75: a write of SFIFO_CMD = ARM. -/
def execSfifoArm (r : Req) (n : Nat) (s : State) : Result := gated r (chin n) 0x0A4 s (sfifoArm n)

/-- R80: FLUSH discards every whole record and leaves a record being written untouched. -/
def sfifoFlush (n : Nat) (s : State) : State :=
  let f := (s.chan n).fifo
  let len := f.recs.foldl (fun a r => a + r.words.length) 0
  s.setFifo n { f with recs := [], mid := false, afterFalse := false, addr := (f.addr + len) % 65536 }

/-- R80: a write of SFIFO_CMD = FLUSH. -/
def execSfifoFlush (r : Req) (n : Nat) (s : State) : Result := gated r (chin n) 0x0A4 s (sfifoFlush n)

/-- A write of SFIFO_CMD (Table 3.11). -/
def sfifoCmdWrite (n : Nat) (w : Word) (s : State) : State :=
  match w.bits 3 0 with
  | 0 => s
  | 1 => sfifoDropRest n s
  | 2 => sfifoArm n s
  | 3 => sfifoFlush n s
  | _ => s.badEnc (chin n) 0x0A4

/-- R78: a write of SFIFO_THR arms the level cause when LEVEL lies below the new value, and disarms it otherwise. -/
def sfifoThrWrite (n : Nat) (w : Word) (s : State) : State :=
  let s := s.setFld (chin n) 0x098 16 0 (w.bits 16 0)
  let c := s.chan n
  s.setChan n { c with fifo := { c.fifo with lvlArmed := decide (c.fifo.level < w.bits 16 0) } }

/-- R78: a write of SFIFO_THR. -/
def execSfifoThrWrite (r : Req) (n : Nat) (w : Word) (s : State) : Result := gated r (chin n) 0x098 s (sfifoThrWrite n w)

/-! ### Host memory, as the device writes it -/

/-- The state with one byte of host memory written. -/
def State.hostByte (s : State) (a : Nat) (b : Byte) : State := { s with hostMem := SMap.set (fun _ => 0) s.hostMem (a % 2 ^ 64) b }

/-- `n` bytes of a number written to a host ring of `size` bytes at `base`, from byte offset `at'`, little-endian and wrapping at its
end. -/
def State.hostRing (s : State) (base size at' : Nat) : Nat → Nat → State
  | 0, _ => s
  | n + 1, v => State.hostRing (s.hostByte (base + at' % size) (BitVec.ofNat 8 v)) base size (at' + 1) n (v / 256)

/-- 64-bit words written to a host ring in order. -/
def State.hostRingWords (s : State) (base size at' : Nat) : List Nat → State
  | [] => s
  | w :: ws => State.hostRingWords (s.hostRing base size at' 8 w) base size (at' + 8) ws

/-- Bytes of a ring not yet consumed. -/
def ringUsed (size w r : Nat) : Nat := (w + size - r % size) % size

/-- R82, Reading by DMA: the oldest whole record and its length word go into the host ring when it has room for both; WPTR advances and
SDMA_REC is raised. A ring holds at most its size less one byte, so that WPTR = RPTR is the empty ring (log entry 22). While the reader stands inside a
record nothing is copied, and the copy reads its words without an ECC error: the spec names neither case (DESIGN CHOICE, log entry 19). -/
def execSdmaRecordCopy (n : Nat) (s : State) : Result :=
  let p := chin n
  let f := (s.chan n).fifo
  match f.recs with
  | [] => done s
  | r :: rest =>
    let size := 2 ^ s.fld p 0x0C8 4 0
    let w := s.rdN p 0x0CC
    let need := 8 * (r.words.length + 1)
    if s.flag p 0x090 2 && f.atBoundary && !f.afterFalse && ringUsed size w (s.rdN p 0x0D0) + need < size then
      let s := s.hostRingWords (s.rd64 p 0x0C0) size w ((r.words.length + r.mark * 2 ^ 32) :: r.words)
      let s := s.setFifo n { f with recs := rest, addr := (f.addr + r.words.length) % 65536 }
      done ((s.wrN p 0x0CC ((w + need) % size)).raise p 11)
    else done s

end Sys2Proof.Machine
end

