-- ==== Sys2Proof/Machine/Encoder.lean ====
section
/-!
DEFINITION. Encoder.lean: the encoder units, the band splitter, the formation and the release of events (04_encoders.md), the
stamping of a word, gaps, pairs and the transmit link of 03_intake.md.
-/

namespace Sys2Proof.Machine

/-! ### Crossings -/

/-- 04_encoders.md: division rounded half to even, by any divisor but zero. -/
def divrZ (a b : Int) : Int := if b < 0 then divr (-a) (-b).toNat else divr a b.toNat

/-- 04_encoders.md: the time of a rising crossing of `lam`. -/
def crossUp (lam x0 t0 x1 t1 : Int) : Int := if x0 ≥ lam then t0 else t0 + divrZ ((lam - x0) * (t1 - t0)) (x1 - x0)

/-- 04_encoders.md: the time of a falling crossing of `lam`. -/
def crossDn (lam x0 t0 x1 t1 : Int) : Int := if x0 < lam then t0 else t0 + divrZ ((x0 - lam) * (t1 - t0)) (x0 - x1)

/-- An event a unit forms: time, sub-index, projection slot, graded quantity, and the payload where the kind gives it. -/
structure Ev where
  time : Int
  sub  : Nat
  slot : Nat
  g    : Int
  pay  : Option Nat
  deriving DecidableEq, Repr

/-- Insertion in ascending time, then ascending sub-index (R99). -/
def insertEv (e : Ev) : List Ev → List Ev
  | [] => [e]
  | x :: xs => if e.time < x.time || (e.time = x.time && e.sub < x.sub) then e :: x :: xs else x :: insertEv e xs

/-- The events of one interval in the order of R99. -/
def sortEvs (l : List Ev) : List Ev := l.foldl (fun a e => insertEv e a) []

/-! ### Level crossing (R108) -/

/-- The arming bits after seeding with x: bit j of each mask. -/
def lcSeed (base step hyst : Int) (count : Nat) (x : Int) : Nat × Nat :=
  (List.range count).foldl (fun a (j : Nat) =>
    let lam := base + j * step
    (a.1 + b2n (decide (x < lam - hyst)) * 2 ^ j, a.2 + b2n (decide (x ≥ lam + hyst)) * 2 ^ j)) (0, 0)

/-- R108: one interval. `upSub j` and the like give the sub-index and slot of the events of level j. -/
def lcInterval (base step hyst : Int) (count dir : Nat) (sub : Nat → Bool → Nat × Nat) (up dn : Nat) (x0 t0 x1 t1 : Int) :
    Nat × Nat × List Ev :=
  let g : Int := (x1 - x0).natAbs
  let formed := (List.range count).foldl (fun (a : Nat × Nat × List Ev) (j : Nat) =>
    let lam := base + j * step
    let a := if dir.testBit 0 && a.1.testBit j && decide (x0 < lam) && decide (lam ≤ x1) then
      (a.1 - 2 ^ j, a.2.1, a.2.2 ++ [⟨crossUp lam x0 t0 x1 t1, (sub j false).1, (sub j false).2, g, none⟩]) else a
    if dir.testBit 1 && a.2.1.testBit j && decide (x0 ≥ lam) && decide (lam > x1) then
      (a.1, a.2.1 - 2 ^ j, a.2.2 ++ [⟨crossDn lam x0 t0 x1 t1, (sub j true).1, (sub j true).2, g, none⟩]) else a) (up, dn, [])
  (List.range count).foldl (fun (a : Nat × Nat × List Ev) (j : Nat) =>
    let lam := base + j * step
    (if x1 < lam - hyst then a.1 ||| 2 ^ j else a.1, if x1 ≥ lam + hyst then a.2.1 ||| 2 ^ j else a.2.1, a.2.2)) formed

/-- Table 4.1: sub-index and slot of a level-crossing event. -/
def lcSub (j : Nat) (fall : Bool) : Nat × Nat := if fall then (16 + j, 2 * j + 1) else (j, 2 * j)

/-- R113: sub-index and slot of a zero crossing. -/
def zcSub (_j : Nat) (fall : Bool) : Nat × Nat := if fall then (3, 3) else (2, 2)

/-! ### Adaptive delta (R109) -/

/-- The step loop of R109: up to `fuel` more steps. Reference, step size, events, and the number of steps taken. -/
def adSteps (dmax aup : Nat) (x0 t0 x1 t1 : Int) : Nat → Int → Nat → List Ev → Nat → Int × Nat × List Ev × Nat
  | 0, r, dl, es, k => (r, dl, es, k)
  | fuel + 1, r, dl, es, k =>
    let wide := min dmax (dl + max 1 (dl / 2 ^ aup))
    if x1 ≥ r + dl then
      let r' := r + dl
      adSteps dmax aup x0 t0 x1 t1 fuel r' wide (es ++ [⟨crossUp r' x0 t0 x1 t1, 0, 0, dl, none⟩]) (k + 1)
    else if x1 ≤ r - dl then
      let r' := r - dl
      adSteps dmax aup x0 t0 x1 t1 fuel r' wide (es ++ [⟨crossDn (r' + 1) x0 t0 x1 t1, 1, 1, dl, none⟩]) (k + 1)
    else (r, dl, es, k)

/-- R109: one interval of an adaptive-delta unit; the last component tells that the step limit was reached. -/
def adInterval (u : EncUnit) (x0 t0 x1 t1 : Int) : EncUnit × List Ev × Bool :=
  let dmin := u.p0.bits 15 0
  let dmax := u.p0.bits 31 16
  let res := adSteps dmax (u.p1.bits 19 16) x0 t0 x1 t1 8 u.r u.dl [] 0
  let r := res.1
  let dl := res.2.1
  let n := res.2.2.2
  let clip := decide (n = 8) && (decide (x1 ≥ r + dl) || decide (x1 ≤ r - dl))
  let r := if clip then x1 else r
  if n = 0 then
    if u.idle + 1 = 2 ^ u.p1.bits 27 24 then
      ({ u with r := r, dl := max dmin (dl - max 1 (dl / 2 ^ u.p1.bits 23 20)), idle := 0 }, res.2.2.1, clip)
    else ({ u with r := r, dl := dl, idle := u.idle + 1 }, res.2.2.1, clip)
  else ({ u with r := r, dl := dl, idle := 0 }, res.2.2.1, clip)

/-! ### Peaks, raw values and seeding -/

/-- R113: the extremum part for the newest sample (x2, t2) after (x1, t1) and (x0, t0). -/
def peakStep (u : EncUnit) (x0 t0 x1 t1 x2 t2 : Int) : EncUnit × List Ev :=
  let zl := ofBits (u.p0.bits 15 0) 16
  let prom : Int := u.p0.bits 31 16
  let hold := u.p2.bits 23 0
  let tk := t1 + divrZ ((x0 - x2) * (t2 - t0)) (4 * (x0 - 2 * x1 + x2))
  let free (last : Option Nat) : Bool := match last with | none => true | some l => decide (tk ≥ (l : Int) + hold)
  let g : Int := (x1 - zl).natAbs
  if u.p1.bit 0 && decide (x0 < x1) && decide (x1 ≥ x2) && decide (x1 - zl ≥ prom) && free u.peak then
    ({ u with peak := some tk.toNat }, [⟨tk, 0, 0, g, none⟩])
  else if u.p1.bit 1 && decide (x0 > x1) && decide (x1 ≤ x2) && decide (zl - x1 ≥ prom) && free u.trough then
    ({ u with trough := some tk.toNat }, [⟨tk, 1, 1, g, none⟩])
  else (u, [])

/-- R114: every 2^DEC-th sample of a raw-value unit. -/
def rawStep (u : EncUnit) (x : Int) (t : Nat) : EncUnit × List Ev :=
  let n := 2 ^ u.p0.bits 23 20
  let e : Ev := ⟨t, 0, 0, 0, some (satu (rne (x - ofBits (u.p0.bits 15 0) 16) (u.p0.bits 19 16)) 8).toNat⟩
  ({ u with cnt := (u.cnt + 1) % n }, if u.cnt = 0 then [e] else [])

/-- U_CFG.KIND of a unit. -/
def EncUnit.kind (u : EncUnit) : Nat := u.cfg.bits 2 0

/-- R115, Table 4.5: re-seeding of a unit from the sample x_f, bands apart; a raw-value unit forms an event from it. -/
def seedUnit (u : EncUnit) (x : Int) (t : Nat) : EncUnit × List Ev :=
  let u := { u with prev := [(x, t)] }
  if u.kind = 1 then
    let a := lcSeed (ofBits (u.p0.bits 15 0) 16) (u.p0.bits 31 16) (u.p1.bits 27 16) (u.p1.bits 3 0 + 1) x
    ({ u with up := a.1, dn := a.2 }, [])
  else if u.kind = 2 then ({ u with r := x, idle := 0 }, [])
  else if u.kind = 4 then
    let a := lcSeed (ofBits (u.p0.bits 15 0) 16) 0 (u.p1.bits 15 4) 1 x
    ({ u with up := a.1, dn := a.2 }, [])
  else if u.kind = 5 then rawStep { u with cnt := 0 } x t
  else (u, [])

/-- One sample of a unit that is not a band-energy unit: its new state, its events, and whether its step limit was reached. -/
def unitStep (u : EncUnit) (x : Int) (t : Nat) : EncUnit × List Ev × Bool :=
  match u.prev with
  | [] => let r := seedUnit u x t; (r.1, r.2, false)
  | (x0, t0) :: rest =>
    let keep (v : EncUnit) : EncUnit := { v with prev := [(x, t), (x0, t0)] }
    if u.kind = 1 then
      let a := lcInterval (ofBits (u.p0.bits 15 0) 16) (u.p0.bits 31 16) (u.p1.bits 27 16) (u.p1.bits 3 0 + 1) (u.p1.bits 5 4) lcSub u.up u.dn
        x0 t0 x t
      (keep { u with up := a.1, dn := a.2.1 }, a.2.2, false)
    else if u.kind = 2 then
      let a := adInterval u x0 t0 x t
      (keep a.1, a.2.1, a.2.2)
    else if u.kind = 4 then
      let z := lcInterval (ofBits (u.p0.bits 15 0) 16) 0 (u.p1.bits 15 4) 1 (u.p1.bits 3 2) zcSub u.up u.dn x0 t0 x t
      let u := { u with up := z.1, dn := z.2.1 }
      match rest with
      | [] => (keep u, z.2.2, false)
      | (xa, ta) :: _ => let a := peakStep u xa ta x0 t0 x t; (keep a.1, z.2.2 ++ a.2, false)
    else if u.kind = 5 then let a := rawStep u x t; (keep a.1, a.2, false)
    else (keep u, [], false)

/-! ### Bands (R110, R111) -/

/-- One section: direct form I with coefficients in Q2.18 and 24-bit state. The last component tells that sat() clipped. -/
def sectionStep (c : Section) (w : Int) : Section × Int × Bool :=
  let a := rne (c.b0 * w + c.b1 * c.w1 + c.b2 * c.w2 - c.a1 * c.y1 - c.a2 * c.y2) 18
  let y := sat a 24
  ({ c with w2 := c.w1, w1 := w, y2 := c.y1, y1 := y }, y, decide (y ≠ a))

/-- The cascade of a band's sections: their new states, the output, and the number of clips. -/
def cascade : List Section → Int → List Section × Int × Nat
  | [], w => ([], w, 0)
  | c :: cs, w =>
    let a := sectionStep c w
    let r := cascade cs a.2.1
    (a.1 :: r.1, r.2.1, r.2.2 + b2n a.2.2)

/-- The firing loop of R110 from its m-th crossing: the times, and the m at which it ends. -/
def bandFire (acc inc q tp t : Int) : Nat → Int → List Int × Int
  | 0, m => ([], m)
  | fuel + 1, m =>
    if 0 < inc && m * q ≤ acc + inc then
      let r := bandFire acc inc q tp t fuel (m + 1)
      ((tp + divrZ ((m * q - acc) * (t - tp)) inc) :: r.1, r.2)
    else ([], m)

/-- R110: one decimated sample v of a band: band, accumulator, sections, events (times and energy), clipped, section clips. -/
structure BandOut where
  band  : Band
  acc   : Nat
  secs  : List Section
  times : List Int
  e     : Int
  clip  : Bool
  sats  : Nat

/-- R110: band_sample. -/
def bandSample (b : Band) (acc : Nat) (secs : List Section) (v : Int) (t : Nat) : BandOut :=
  let c := cascade secs (v * 256)
  if 0 < b.settle then ⟨{ b with settle := b.settle - 1, tp := t }, acc, c.1, [], 0, false, c.2.2⟩
  else
    let e := rne (c.2.1 * c.2.1) (b.cfg.bits 15 11)
    let inc := e - b.noise
    let f := bandFire acc inc b.q b.tp t 8 1
    let acc' := satu (acc + inc - (f.2 - 1) * b.q) 32
    let clip := decide (acc' ≥ b.q)
    ⟨{ b with tp := t }, if clip then b.q - 1 else acc'.toNat, c.1, f.1, e, clip, c.2.2⟩

/-! ### Forming events -/

/-- Table 4.2: the source ID of an encoder event. -/
def encSource (chan u conv sub : Nat) : Nat := 0xFE * 2 ^ 15 + chan % 16 * 2 ^ 11 + u % 8 * 2 ^ 8 + conv % 4 * 2 ^ 6 + sub % 64

/-- Table 4.2: the source ID of a channel's gap markers. -/
def gapSource (chan : Nat) : Nat := 0xFD * 2 ^ 15 + chan % 16 * 2 ^ 11

/-- R419: the time of an event in legacy mode: the next step after its native time. -/
def State.legacyTime (s : State) (t : Nat) : Nat := if s.legacy then (t / 2 ^ 15 + 1) * 2 ^ 15 else t

/-- R101: the payload of an event. -/
def evPayload (u : EncUnit) (e : Ev) : Nat :=
  match e.pay with
  | some p => p
  | none => if u.cfg.bit 7 then (satu (rne e.g (u.cfg.bits 19 16)) 8).toNat else u.cfg.bits 15 8

/-- One unit of a channel. -/
def Chan.unit (c : Chan) (u : Nat) : EncUnit := c.units.getD u ⟨0, 0, 0, 0, 0, [], 0, 0, 0, 0, 0, none, none, 0, 0, 0⟩

/-- The channel with one unit replaced. -/
def Chan.setUnit (c : Chan) (u : Nat) (v : EncUnit) : Chan := { c with units := c.units.set u v }

/-- R519, R106: an event of a unit is not released: counted, with its cause. -/
def State.suppress (s : State) (n u : Nat) : State := (s.incCtr (chenc n) (0x098 + 0x40 * u)).raise (chenc n) u

/-- R98, R519: an event is formed: gated, discarded as formed after its release instant, or kept for its release. `flags` are the
control bits of the sample that completed it. An event that is both gated and late counts in U_GATED alone (DESIGN CHOICE, log entry 38). -/
def State.formEvent (s : State) (n u flags : Nat) (e : Ev) : State :=
  let c := s.chan n
  let v := c.unit u
  let q := v.cfg.bits 6 5
  if 0 < q && flags.testBit (q - 1) then s.incCtr (chenc n) (0x0A0 + 0x40 * u)
  else
    let t := s.legacyTime e.time.toNat
    if t + s.encLat n + s.pairHold n < s.now then (s.suppress n u).err (chenc n) 3 0x045 u
    else
      s.setChan n { c with formed := c.formed ++
        [⟨t, encSource (s.srcChan n) u (v.cfg.bits 4 3) e.sub, u, e.slot, if s.legacy then 1 else evPayload v e, none⟩] }

/-- The sample value x of a converter word (R97) and its control bits, under the configuration in force. The CS bits follow the sample (Table 3.4);
that control bit 0 of R98 is the lowest of them is the model's choice (DESIGN CHOICE, log entry 38). -/
def sampleValue (r : LinkRegs) (w : Nat) : Int × Nat :=
  let n := cfgN r.cfg0
  let cs := cfgCS r.cfg0
  (ofBits (w % 65536 / 2 ^ (16 - n)) n, w % 65536 / 2 ^ (16 - n - cs) % 2 ^ cs)

/-- B_ACC of a band. -/
def State.bandAcc (s : State) (n b : Nat) : Nat := s.rdN (chenc n) (0x70C + 0x10 * b)

/-- One decimated sample of a band of a unit: the filter counts, and the crossings as events. More than eight crossings (R110) raise the unit's CLIP cause
beside its counter, as the step limit does (DESIGN CHOICE, log entry 38). -/
def State.bandStep (s : State) (n u b flags : Nat) (v : Int) (t : Nat) : State × List Ev :=
  let c := s.chan n
  match c.bands[b]? with
  | none => (s, [])
  | some bd =>
    let first := bd.cfg.bits 5 0
    let cnt := bd.cfg.bits 7 6 + 1
    let o := bandSample bd (s.bandAcc n b) ((c.secs.drop first).take cnt) v t
    let c := { c with bands := c.bands.set b o.band, secs := c.secs.take first ++ o.secs ++ c.secs.drop (first + cnt) }
    let s := (s.setChan n c).wrN (chenc n) (0x70C + 0x10 * b) o.acc
    let s := if 0 < o.sats then (s.addCtr (chenc n) 0x050 o.sats).raise (chenc n) 16 else s
    let s := if o.clip then (s.incCtr (chenc n) (0x09C + 0x40 * u)).raise (chenc n) (8 + u) else s
    let _ := flags
    (s, o.times.map fun tk => ⟨tk, b, b - (c.unit u).p0.bits 5 0, o.e, none⟩)

/-- One input sample of a band: the boxcar sum of 2^d samples (R110). -/
def State.bandInput (s : State) (n u b flags : Nat) (x : Int) (t : Nat) (seed : Bool) : State × List Ev :=
  let c := s.chan n
  match c.bands[b]? with
  | none => (s, [])
  | some bd =>
    let d := bd.cfg.bits 10 8
    let first := bd.cfg.bits 5 0
    let cnt := bd.cfg.bits 7 6 + 1
    let c := if seed then
        { c with secs := c.secs.take first ++ ((c.secs.drop first).take cnt).map (fun k => { k with w1 := x * 256, w2 := x * 256, y1 := 0, y2 := 0 }) ++
                          c.secs.drop (first + cnt) } else c
    let bd := if seed then { bd with sum := 0, cnt := 0, tp := t, settle := bd.cfg.bits 23 16 } else bd
    let sum := bd.sum + x
    if bd.cnt + 1 = 2 ^ d then
      let s := s.setChan n { c with bands := c.bands.set b { bd with sum := 0, cnt := 0 } }
      s.bandStep n u b flags (rne sum d) t
    else (s.setChan n { c with bands := c.bands.set b { bd with sum := sum, cnt := bd.cnt + 1 } }, [])

/-- One stamped sample at one unit (R96): its events are formed in the order of R99. -/
def State.unitSample (s : State) (n u t : Nat) (xs : List Nat) (seed : Bool) : State :=
  let c := s.chan n
  let v := c.unit u
  let x := sampleValue c.link (xs.getD (v.cfg.bits 4 3) 0)
  if v.kind = 0 then s
  else if v.kind = 3 then
    let r := (List.range (v.p0.bits 12 6)).foldl (fun (a : State × List Ev) i =>
      let o := a.1.bandInput n u (v.p0.bits 5 0 + i) x.2 x.1 t seed
      (o.1, a.2 ++ o.2)) (s, [])
    (sortEvs r.2).foldl (fun s e => s.formEvent n u x.2 e) r.1
  else
    let o := unitStep (if seed then { v with prev := [] } else v) x.1 t
    let s := s.setChan n (c.setUnit u o.1)
    let s := if o.2.2 then (s.incCtr (chenc n) (0x09C + 0x40 * u)).raise (chenc n) (8 + u) else s
    (sortEvs o.2.1).foldl (fun s e => s.formEvent n u x.2 e) s

/-- R96: one stamped sample at every unit of an enabled channel. -/
def State.encode (s : State) (n t : Nat) (xs : List Nat) : State :=
  let seed := (s.chan n).seed
  let s := (List.range 8).foldl (fun s u => s.unitSample n u t xs seed) s
  s.setChan n { s.chan n with seed := false }

/-! ### Gaps -/

/-- A gap marker is formed (Table 3.6), when the channel sends markers. -/
def State.formMarker (s : State) (n time cause : Nat) (fin : Bool) (itv : Nat) : State :=
  let c := s.chan n
  if s.chanOn n && c.mark.bit 10 then
    let f : Formed := ⟨s.legacyTime time, gapSource (s.srcChan n), 8, 0, if s.legacy then 1 else b2n fin + cause % 8 * 2, some itv⟩
    s.setChan n { c with formed := c.formed ++ [f] }
  else s

/-- R84: the gap is declared with its start time. -/
def State.declareGap (s : State) (n cause start : Nat) : State :=
  let s := s.truncate n
  let s := ((s.raise (chin n) 2).setFlag (chin n) 0x00C 1 true).incCtr (chin n) 0x08C
  let s := allTimers.foldl (fun s t =>
    if (t.1.blk = .time1 && s.flag t.1 (0x114 + 0x40 * t.2) (16 + n)) || (t.1 = chtmr n && s.flag t.1 (0x114 + 0x40 * t.2) 5) then
      s.capture t.1 t.2 start (0x10 + n) else s) s
  let s := s.setChan n { s.chan n with gap := some ⟨cause, some start⟩ }
  (s.formMarker n start cause false 0xFFFF).pairFault n start start

/-- R85: the first sample after the gap ends it. -/
def State.endGap (s : State) (n cause start first : Nat) : State :=
  let c := s.chan n
  let s := s.setChan n { c with gap := none, seed := true, calPrev := none, outs := c.outs ++ [(c.tLast.getD 0, first)] }
  let s := s.formMarker n first cause true (lg16 (some (first - start)))
  let s := allTimers.foldl (fun s t =>
    if (t.1.blk = .time1 && s.flag t.1 (0x114 + 0x40 * t.2) (16 + n)) || (t.1 = chtmr n && s.flag t.1 (0x114 + 0x40 * t.2) 5) then
      s.capture t.1 t.2 first (0x20 + n) else s) s
  (s.setFlag (chin n) 0x00C 1 false).raise (chin n) 3

/-- R84: the gap timer has expired: at t_gs + DL_RXLAT the gap is declared with t_gs = t_last + T_gap. -/
def execGapStart (n : Nat) (s : State) : Result :=
  let c := s.chan n
  match c.gap, c.tLast with
  | some ⟨cause, none⟩, some tl =>
    if s.chanOn n && s.flag (chin n) 0x088 0 && decide (s.now ≥ tl + c.tGap + s.fld (chin n) 0x070 15 0) then
      done (s.declareGap n cause (tl + c.tGap))
    else done s
  | _, _ => done s

/-! ### Stamping -/

/-- Table 3.3: the calibration detector on converter 0. -/
def State.calibrate (s : State) (n t : Nat) (x : Int) : State :=
  let c := s.chan n
  let p := chin n
  let s := s.setChan n { c with calPrev := some (x, t) }
  if s.flag p 0x0E0 0 then
    match c.calPrev with
    | some (x0, t0) =>
      let lam := ofBits (s.fld p 0x0E0 31 16) 16
      let hit : Option Int :=
        if !s.flag p 0x0E0 1 then (if x0 < lam && lam ≤ x then some (crossUp lam x0 t0 x t) else none)
        else (if x0 ≥ lam && lam > x then some (crossDn lam x0 t0 x t) else none)
      match hit with
      | some tc => ((s.wr64 p 0x0E4 tc.toNat).setFlag p 0x0E0 0 false).raise p 12
      | none => s
    | none => s
  else s

/-- R329: a stamped sample goes into the delay area, which holds 16 bytes per sample instant (R340): its time and 16 bits for every converter
(log entry 30). -/
def State.delayPut (s : State) (n t : Nat) (xs : List Nat) : State :=
  let size := s.fld (chdec n) 0x080 4 0
  if size = 0 then s
  else
    let d := s.dec n
    let l := d.delay ++ [(t, xs)]
    let v := xs.zipIdx.foldl (fun a x => a + x.1 % 2 ^ 16 * 2 ^ (64 + 16 * x.2)) (t % 2 ^ 64)
    (s.setDec n { d with delay := l.drop (l.length - 2 ^ size / 16), dlyN := d.dlyN + 1 }).ownPut (s.owner (chin n))
      (s.rd64 (chdec n) 0x078 + 16 * (d.dlyN % (2 ^ size / 16))) 16 v

/-- One stamped sample of all converters (R71): the gap before it ends, and the FIFO, the encoders and the calibration take it. With GAP_CFG.EN = 0 the
gap timer is not armed, and a gap is declared only at this sample, with t_gs = t_first (DESIGN CHOICE, log entry 19). -/
def State.stampSample (s : State) (n : Nat) (err : Bool) (xs : List Nat) : State :=
  let c := s.chan n
  let t := (stamp (s.anchor n) c.link.num c.link.den c.k).toNat
  let on := s.chanOn n
  let s := match c.gap with
    | some g =>
      let early := match c.tLast with
        | some tl => if s.flag (chin n) 0x088 0 then min (tl + c.tGap) t else t
        | none => t
      let start := g.start.getD early
      let s := if g.start.isNone then s.declareGap n g.cause start else s
      s.endGap n g.cause start t
    | none => s
  let s := (s.fifoSample n t xs err c.gap.isSome).delayPut n t xs
  let s := if err then s.pairFault n t t else s
  let s := if on then s.encode n t xs else s
  let s := s.calibrate n t (sampleValue c.link (xs.getD 0 0)).1
  s.setChan n { s.chan n with k := c.k + 1, tLast := some t }

/-- R83: at a stamped word the channel starts gap timer 0 again; T_gap is what the timer then counts. -/
def State.restartGapTimer (s : State) (n : Nat) : State :=
  if s.flag (chin n) 0x088 0 then
    let p := chtmr n
    let s := (((s.settleTick p 0).setFld p 0x100 9 4 (1 + 4 * 2)).setFld p 0x100 0 0 1).timerReload p 0
    s.setChan n { s.chan n with tGap := 16 * s.rdN p 0x104 }
  else s

/-- R71: a deframed word of M-converter samples is stamped while the link is in DATA and device time runs for the channel (R31, R28).
`err` tells that its characters had an error (R69). -/
def execWordStamp (n : Nat) (samples : List (List Nat)) (err : Bool) (s : State) : Result :=
  if s.ready (chin n) && s.linkSt n = 3 then
    done ((samples.foldl (fun s xs => s.stampSample n err xs) s).restartGapTimer n)
  else if s.awake (chin n) && s.linkSt n = 3 then done (s.setChan n { s.chan n with k := (s.chan n).k + samples.length })
  else done s

/-! ### Checks at enable -/

/-- The settings of a unit as the registers stand. -/
def State.unitRegs (s : State) (n u : Nat) : Word × Word × Word × Word × Word :=
  let b := 0x080 + 0x40 * u
  (s.rd (chenc n) b, s.rd (chenc n) (b + 4), s.rd (chenc n) (b + 8), s.rd (chenc n) (b + 0xC), s.rd (chenc n) (b + 0x10))

/-- Table 4.1: the projection slots a unit uses. -/
def slotsUsed (cfg p0 p1 : Word) : Nat :=
  match cfg.bits 2 0 with
  | 1 => 2 * (p1.bits 3 0 + 1)
  | 2 => 2
  | 3 => p0.bits 12 6
  | 4 => 4
  | 5 => 1
  | _ => 0

/-- Table 4.4: the formation lag of a unit, under the link configuration in force; band 63 is the last band. -/
def State.formationLag (s : State) (n u : Nat) : Nat :=
  let r := s.unitRegs n u
  let l := s.inForce n
  let ts := (l.num + l.den - 1) / l.den
  if r.1.bits 2 0 = 0 then 0
  else if r.1.bits 2 0 = 3 then
    (List.range (min (r.2.2.1.bits 12 6) (64 - r.2.2.1.bits 5 0))).foldl (fun a i =>
      let w := s.rd (chenc n) (0x700 + 0x10 * (r.2.2.1.bits 5 0 + i))
      max a (2 * 2 ^ w.bits 10 8 * ts + 32 * (w.bits 7 6 + 1))) 0
  else 2 * ts

/-- R105: E_MIN = L_rx + F_max + 512. -/
def State.encMin (s : State) (n : Nat) : Nat :=
  s.rxLat n + ((List.range 8).foldl (fun a u => max a (s.formationLag n u)) 0) + 512

/-- The bands that the enabled band-energy units own, with their units. -/
def State.ownedBands (s : State) (n : Nat) : List (Nat × Nat) :=
  (List.range 8).flatMap fun u =>
    let r := s.unitRegs n u
    if r.1.bits 2 0 = 3 then (List.range (r.2.2.1.bits 12 6)).map fun i => (u, r.2.2.1.bits 5 0 + i) else []

/-- Do the sections of two bands overlap? -/
def sectionsOverlap (a b : Word) : Bool :=
  decide (a.bits 5 0 ≤ b.bits 5 0 + b.bits 7 6) && decide (b.bits 5 0 ≤ a.bits 5 0 + a.bits 7 6)

/-- R112, R517: does a band of an enabled unit fail a range or overlap check (code 0x041)? A band above 63 has no registers to compare. -/
def State.bandBad (s : State) (n : Nat) (o : Nat × Nat) : Bool :=
  let cfg (b : Nat) : Word := s.rd (chenc n) (0x700 + 0x10 * b)
  let own := (s.ownedBands n).filter (fun x => decide (x.2 < 64))
  decide (63 < o.2) || decide (63 < (cfg o.2).bits 5 0 + (cfg o.2).bits 7 6) || decide (s.rdN (chenc n) (0x704 + 0x10 * o.2) = 0) ||
  own.any (fun x => x.1 ≠ o.1 && x.2 = o.2) ||
  own.any (fun x => x.2 ≠ o.2 && sectionsOverlap (cfg x.2) (cfg o.2))

/-- The failures of R105, R107, R112, R117 and R517 at an enable, as (code, location). -/
def State.encFailures (s : State) (n : Nat) : List (Nat × Nat) :=
  let p := chenc n
  let l := s.inForce n
  let m := cfgM l.cfg0
  let mark := s.rd p 0x04C
  let units := (List.range 8).filter fun u => (s.unitRegs n u).1.bits 2 0 ≠ 0
  let fan (u : Nat) : Nat := (s.unitRegs n u).2.1.bits 9 8 + 1
  let flits := units.foldl (fun a u => a + (s.unitRegs n u).2.1.bits 22 16 * fan u) 0 + (if mark.bit 10 then 2 * (mark.bits 9 8 + 1) else 0)
  let unitBad (u : Nat) : Bool :=
    let r := s.unitRegs n u
    let p0 := r.2.2.1
    let p1 := r.2.2.2.1
    decide (m ≤ r.1.bits 4 3) ||
    (r.1.bits 2 0 = 1 && p1.bits 5 4 = 0) ||
    (r.1.bits 2 0 = 2 && !(decide (1 ≤ p0.bits 15 0) && decide (p0.bits 15 0 ≤ p1.bits 15 0) && decide (p1.bits 15 0 ≤ p0.bits 31 16))) ||
    (r.1.bits 2 0 = 3 && (p0.bits 12 6 = 0 || decide (64 < p0.bits 12 6)))
  let lat := s.fld p 0x040 23 0
  let min' := s.encMin n
  (if 64 < flits then [(0x040, 0)] else []) ++
  (units.filter unitBad).map (fun u => (0x041, u)) ++
  ((s.ownedBands n).filter (s.bandBad n ·)).map (fun o => (0x041, 0x100 + o.2)) ++
  ((s.ownedBands n).filter (fun o => o.2 < 64 && l.num * 2 ^ s.fld p (0x700 + 0x10 * o.2) 10 8 < 32 * l.den)).map (fun o => (0x042, 0x100 + o.2)) ++
  (if (lat ≠ 0 && lat < min') || 2 ^ 24 ≤ min' then [(0x043, 0)] else []) ++
  (units.filter (fun u => 256 < (s.unitRegs n u).2.1.bits 7 0 + slotsUsed (s.unitRegs n u).1 (s.unitRegs n u).2.2.1 (s.unitRegs n u).2.2.2.1 * fan u)).map
    (fun u => (0x044, u)) ++
  (if 256 < mark.bits 7 0 + (mark.bits 9 8 + 1) then [(0x044, 0x0FF)] else [])

/-- R518: the failure recorded: the lowest code, then the lowest location. -/
def lowestFailure (l : List (Nat × Nat)) : Option (Nat × Nat) :=
  l.foldl (fun a x => match a with
    | none => some x
    | some y => if x.1 < y.1 || (x.1 = y.1 && x.2 < y.2) then some x else some y) none

/-- R105, R120: the encoder settings are taken from the registers and every unit starts fresh. A gap goes on to its end (R85): one not
yet declared when ENABLE was written 0 is declared after the next enable with its old time. The integrators B_ACC and the peak hold times start at zero
(DESIGN CHOICE, log entries 19, 38). -/
def State.encTake (s : State) (n : Nat) : State :=
  let p := chenc n
  let c := s.chan n
  let units := (List.range 8).map fun u =>
    let r := s.unitRegs n u
    (⟨r.1, r.2.1, r.2.2.1, r.2.2.2.1, r.2.2.2.2, [], 0, 0, 0, r.2.2.2.1.bits 15 0, 0, none, none, 0, 0, 0⟩ : EncUnit)
  let bands := (List.range 64).map fun b =>
    (⟨s.rd p (0x700 + 0x10 * b), s.rdN p (0x704 + 0x10 * b), s.rdN p (0x708 + 0x10 * b), 0, 0, 0, 0⟩ : Band)
  let co (off : Nat) : Int := ofBits (s.fld p off 19 0) 20
  let secs := (List.range 64).map fun k =>
    let b := 0xB00 + 0x14 * k
    (⟨co b, co (b + 4), co (b + 8), co (b + 0xC), co (b + 0x10), 0, 0, 0, 0⟩ : Section)
  let s := s.setChan n { c with units := units, bands := bands, secs := secs, mark := s.rd p 0x04C
                                projs := (List.range 256).map (fun i => s.rd p (0x300 + 4 * i)), formed := [], lastRel := [], wins := []
                                bySec := false, seed := true }
  (List.range 64).foldl (fun s b => s.wrN p (0x70C + 0x10 * b) 0) s

/-! ### Pairs -/

/-- One bit of CRC-32 with the IEEE 802.3 polynomial, least significant bit first. -/
def crc32Bit (c : Nat) (b : Bool) : Nat :=
  let x := (c ^^^ b2n b) % 2
  if x = 1 then (c / 2) ^^^ 0xEDB88320 else c / 2

/-- The CRC-32 of a list of bytes (IEEE 802.3; log entry 23). -/
def crc32 (bytes : List Nat) : Nat :=
  (bytes.foldl (fun c b => (List.range 8).foldl (fun c i => crc32Bit c (b.testBit i)) c) 0xFFFFFFFF) ^^^ 0xFFFFFFFF

/-- The bytes of a 128-bit payload, least significant first. -/
def payloadBytes (p : Nat) : List Nat := (List.range 16).map fun i => p / 256 ^ i % 256

/-- The projection entries of a formed event, for its copies in order (R116). -/
def Chan.entries (c : Chan) (f : Formed) : List Word :=
  if f.unit = 8 then (List.range (c.mark.bits 9 8 + 1)).map fun j => c.projs.getD (c.mark.bits 7 0 + j) 0
  else
    let fan := (c.unit f.unit).proj.bits 9 8 + 1
    (List.range fan).map fun j => c.projs.getD ((c.unit f.unit).proj.bits 7 0 + f.slot * fan + j) 0

/-- The last release of a source (R102). -/
def Chan.lastOf (c : Chan) (src : Nat) : Option Nat := SMap.get (fun _ => none) c.lastRel src

/-- The payload of a copy of a formed event to the projection entry `e`. -/
def formedPayload (legacy : Bool) (c : Chan) (f : Formed) (e : Word) : Nat :=
  let itv := match f.itv with
    | some i => i
    | none => lg16 ((c.lastOf f.src).map fun l => f.time - l)
  if legacy then eventPayload f.time (e.bits 23 8) f.src 1 (if f.unit = 8 then 2 else 1) 0xF
  else eventPayload f.time (e.bits 23 8) f.src f.pay itv (if f.unit = 8 then 3 else 1)

/-- R106: does the unit's budget of the event's window still allow it? -/
def Chan.budgetOk (c : Chan) (f : Formed) : Bool :=
  let u := c.unit f.unit
  f.unit = 8 || decide ((if u.win = f.time / 4096 then u.used else 0) < u.proj.bits 22 16)

/-- R102, R106: the history and the budget after a release. -/
def Chan.afterRelease (c : Chan) (f : Formed) : Chan :=
  let c := { c with lastRel := SMap.set (fun _ => none) c.lastRel f.src (some f.time) }
  if f.unit = 8 then c
  else
    let u := c.unit f.unit
    c.setUnit f.unit { u with win := f.time / 4096, used := (if u.win = f.time / 4096 then u.used else 0) + 1 }

/-- Does `a` go before `b` in the order of R103: time, then source ID? -/
def formedBefore (a b : Formed) : Bool := decide (a.time < b.time) || (a.time = b.time && decide (a.src < b.src))

/-- The formed events in the order of their release. -/
def releaseOrder (l : List Formed) : List Formed :=
  let ins (f : Formed) (l : List Formed) : List Formed :=
    l.takeWhile (fun x => !formedBefore f x) ++ f :: l.dropWhile (fun x => !formedBefore f x)
  l.foldl (fun a f => ins f a) []

/-- R87: the payloads of the events of window w that the budgets let pass, in formation order, each with its first copy's axon. -/
def windowPayloads (legacy : Bool) (c : Chan) (w : Nat) : List Nat :=
  let run := (releaseOrder (c.formed.filter (fun f => f.time / 4096 ≤ w))).foldl (fun (a : Chan × List (Formed × Nat)) f =>
    if a.1.budgetOk f then (a.1.afterRelease f, a.2 ++ [(f, formedPayload legacy a.1 f ((a.1.entries f).getD 0 0))]) else a) (c, [])
  (c.formed.filter (fun f => f.time / 4096 = w)).flatMap fun f => (run.2.filter (fun x => x.1 = f)).map (·.2)

/-- R87, R145: once a window has ended, its status goes to the partner: a MGMT flit of opcode 0x10 on VC2. -/
def execPairStatusSend (n w : Nat) (s : State) : Result :=
  let c := s.chan n
  if s.chanOn n && s.flag (chin n) 0x1A0 0 && decide (4096 * (w + 1) ≤ s.now) && !(c.win w).sent then
    let fault := s.winFault n w
    let crc := crc32 ((windowPayloads s.legacy c w).flatMap payloadBytes)
    let s := s.setChan n (c.setWin { c.win w with sent := true, fault := fault, crc := crc })
    done (s.enter ⟨0x120 + s.partner n, 0x120 + n, 2, s.owner (chin n), 0, 5, 0,
      0x10 * 2 ^ 120 + w % 2 ^ 48 * 2 ^ 72 + b2n fault * 2 ^ 71 + crc * 2 ^ 32⟩)
  else done s

/-- R88: the partner's status of a window arrives. Its endpoint returns an acceptance notice, which its sender holds from then on. -/
def execPairStatusReceive (n : Nat) (f : Flit) (s : State) : Result :=
  match s.inbox.find? (fun a => a.dest = 0x120 + n && a.flit = f) with
  | some a =>
    if f.kind = 5 && nb f.payload 127 120 = 0x10 then
      let s := { s with inbox := s.inbox.erase a }
      let w := nb f.payload 119 72
      let c := s.chan n
      let s := s.setChan n (c.setWin { c.win w with partner := some (nb f.payload 71 71 = 1, nb f.payload 63 32) })
      done { s with notices := s.notices ++ [⟨f.src, f.dest, f.key, 2, w⟩] }
    else done s
  | none => done s

/-- R88, R89: this channel decides a window, once, by the fault bit of its own status; where it has sent none yet, by what it knows at this time. -/
def State.decideWindow (s : State) (n w : Nat) : State × Bool :=
  let c := s.chan n
  let x := c.win w
  match x.deliver with
  | some d => (s, d)
  | none =>
    let sec := s.flag (chin n) 0x1A0 1
    let fault := if x.sent then x.fault else s.winFault n w
    let d := if !sec then !(x.partner.any (fun p => !p.1) && (fault || !x.noticed))
      else !fault && x.noticed && x.partner.all (fun p => p.1)
    let bySec := d = sec
    let s := s.setChan n { c.setWin { x with deliver := some d, fault := fault } with bySec := bySec }
    let s := s.setFlag (chin n) 0x00C 3 d
    let s := if bySec then s.incCtr (chin n) 0x1B0 else s
    match x.partner with
    | some (pf, crc) =>
      if x.noticed then
        let primF := if sec then pf else fault
        let secF := if sec then fault else pf
        if !primF then (if crc ≠ x.crc then ((s.incCtr (chin n) 0x1AC).raise (chin n) 16, d) else (s, d))
        else if !secF then (if !c.bySec then (s.raise (chin n) 15, d) else (s, d))
        else (s.raise (chin n) 17, d)
      else (s.raise (chin n) 18, d)
    | none => (s.raise (chin n) 18, d)

/-- R88: at the delivery time of a window's first event each channel of a pair decides whether it delivers the window. -/
def execPairDeliveryDecision (n w : Nat) (s : State) : Result :=
  let c := s.chan n
  if s.chanOn n && s.flag (chin n) 0x1A0 0 &&
      c.formed.any (fun f => f.time / 4096 = w && decide (f.time + s.encLat n + s.pairHold n ≤ s.now)) then
    done (s.decideWindow n w).1
  else done s

/-! ### Release -/

/-- R103, R106, R116, R353: the first formed event that is due leaves (and goes nowhere while its channel is a silent source): suppressed by its unit's budget, delivered by the partner, or sent to
the entries of its projection slot. -/
def execEncoderEventRelease (n : Nat) (s : State) : Result :=
  let c := s.chan n
  match releaseOrder c.formed with
  | [] => done s
  | f :: _ =>
    if s.ready (chin n) && decide (f.time + s.encLat n + s.pairHold n ≤ s.now) then
      let s := s.setChan n { c with formed := c.formed.erase f }
      let c := s.chan n
      if !c.budgetOk f then done (s.suppress n f.unit)
      else
        let paired := s.flag (chin n) 0x1A0 0
        let dec := if paired then s.decideWindow n (f.time / 4096) else (s, true)
        let s := dec.1
        let c := s.chan n
        let s := s.setChan n (c.afterRelease f)
        if !dec.2 || s.silent (s.owner (chin n)) (0x120 + n) then done s
        else
          let s := if f.unit = 8 then s else s.incCtr (chenc n) (0x094 + 0x40 * f.unit)
          done ((c.entries f).foldl (fun s e =>
            if e.bit 31 then s.sendEvent (0x120 + n) (s.owner (chin n)) (e.bits 7 0) (formedPayload s.legacy c f e) else s) s)
    else done s

/-! ### The transmit link -/

/-- R62, R91: the first failing parameter of a transmit set, as Table 3.10 numbers them: only the JESD204C entries of Table 3.1 are supported. -/
def txParamFail (c0 c1 : Word) (rate : Nat) : Option Nat := if cfgMode c0 = 0 then none else linkParamFail (c0.setBits 1 0 2) c1 rate

/-- R92: a write of TX_CTRL. EN from 0 to 1 takes the held registers, needs device time to run, and starts the link in ALIGN; subclass 0 sends data
from the next frame boundary on TX_ALIGN too. EN to 0 stops it. A set outside Table 3.1 is not accepted (R62, R91): as R63 says of the receive link, EN
keeps the 1, the link stays DOWN, and code 0x011 names the parameter; with MODE 0 it stays DOWN and nothing is recorded (the spec does not state the
answer for the transmit link: DESIGN CHOICE, log entry 19). -/
def txCtrlWrite (n : Nat) (w : Word) (s : State) : State :=
  let p := chin n
  let was := s.flag p 0x180 0
  if w.bit 0 && !was then
    if s.tb.state ≠ .running then s.err p 5 0x012 0
    else
      let c := s.chan n
      let tx : TxLink := ⟨s.rd p 0x184, s.rd p 0x188, s.rdN p 0x190, s.fld p 0x194 15 0, 0, 0, false⟩
      let s := (s.setChan n { c with tx := tx }).setFlag p 0x180 0 true
      match txParamFail tx.cfg0 tx.cfg1 (s.inForce n).rate with
      | some loc => s.err p 5 0x011 loc
      | none => if cfgMode tx.cfg0 = 0 then s else s.wrN p 0x198 1
  else if !w.bit 0 && was then
    let up := s.fld p 0x198 1 0
    let s := (s.setFlag p 0x180 0 false).wrN p 0x198 0
    if up = 2 then s.raise p 14 else s
  else s

/-- R92: a write of TX_CTRL with EN set. -/
def execTxEnable (r : Req) (n : Nat) (w : Word) (s : State) : Result := gated r (chin n) 0x180 s (txCtrlWrite n (w.setBits 0 0 1))

/-- What the transmit lanes of a channel carry (R92, R93). -/
inductive TxLanes where
  | floating | idle | pilot | samples
  deriving DecidableEq, Repr

/-- R92, R93: the transmit lanes: sync headers and the pilot signal until the link is aligned, then samples, zero ones where there is no content; they
float when D_CHn is OFF. -/
def State.txLanes (s : State) (n : Nat) : TxLanes :=
  if (s.dom (292 + n)).cur = .off then .floating
  else match s.fld (chin n) 0x198 1 0 with
    | 1 => .pilot
    | 2 => .samples
    | _ => .idle

/-- R92: the transmitter aligns its LEMC to an admitted SYSREF edge (subclass 1), or takes the CLK_TB edge of its first data frame
(subclass 0), starts data and raises TX_UP. -/
def execTxAlign (n phi : Nat) (s : State) : Result :=
  let p := chin n
  let c := s.chan n
  let st := s.fld p 0x198 1 0
  let sub1 := decide (cfgSub c.tx.cfg0 = 1)
  if s.tb.state = .running && (s.dom (292 + n)).cur = .run && s.flag p 0x180 0 && cfgMode c.tx.cfg0 = 2 && (st = 1 || (st = 0 && c.tx.retrain)) &&
      (!sub1 || s.flag p 0x074 0) then
    let base := if sub1 then s.chanSysref n phi else s.tb.count
    done (((s.setChan n { c with tx := { c.tx with base := base, j := 0, retrain := false } }).wrN p 0x198 2).raise p 13)
  else done s

end Sys2Proof.Machine
end

