-- ==== Sys2Proof/Machine/Messages.lean ====
section
/-!
DEFINITION. Messages.lean: the queue messages units send (R296, R298, R300), the control core's registers, and the synchronisation trace (R490 to R492),
shared by the Drawers, the expander, the Trestles, the queue manager and the control core.
-/

namespace Sys2Proof.Machine

/-- Table 11.6: the common header, with the bytes above it given by `body`. -/
def message (cab unit key : Nat) (mc : Bool) (user body : Nat) : Nat :=
  cab % 256 + unit % 16 * 2 ^ 8 + key % 64 * 2 ^ 16 + b2n mc * 2 ^ 24 + user % 2 ^ 32 * 2 ^ 32 + body % 2 ^ 192 * 2 ^ 64

/-- The USER field of a message. -/
def msgUser (m : Nat) : Nat := nb m 63 32

/-- Byte `i` of a message or descriptor. -/
def byteOf (m i : Nat) : Nat := m / 256 ^ i % 256

/-- Bytes `lo` to `hi` of a message or descriptor, low byte first. -/
def bytesOf (m hi lo : Nat) : Nat := m / 256 ^ lo % 256 ^ (hi + 1 - lo)

/-- Device time in whole nanoseconds, at 32 fu each (R12 of 00_scope.md: 1 fu is 1/32 ns). -/
def State.nowNs (s : State) : Nat := s.now / 32

/-- The queue manager of a Cabinet. -/
def State.qm (s : State) (p : Nat) : Qm := (s.cab p).q

/-- The state with a queue manager replaced. -/
def State.setQm (s : State) (p : Nat) (q : Qm) : State := s.setCab p { s.cab p with q := q }

/-- R300: does a message of this unit wait on a full queue? The unit then stalls. -/
def State.unitStalled (s : State) (p unit : Nat) : Bool := (s.qm p).sends.any fun x => x.unit = unit && x.state = 2

/-- A new send of a unit, to be offered (R298). -/
def newSend (s : State) (unit qid msg : Nat) (limit : Option Nat) : Send :=
  ⟨unit, qid, msg, 0, 0, 0, s.now, 0, none, limit, false, false, [], 0⟩

/-- The queue manager's list with the first send `x` replaced. -/
def Qm.put (q : Qm) (x y : Send) : Qm :=
  { q with sends := (q.sends.takeWhile (· ≠ x)) ++ y :: (q.sends.dropWhile (· ≠ x)).drop 1 }

/-- The list without the first send `x`. -/
def Qm.drop (q : Qm) (x : Send) : Qm := { q with sends := q.sends.erase x }

/-- The send of a unit that comes first: each unit has one message awaiting its answer (R298). -/
def Qm.first (q : Qm) (unit : Nat) : Option Send := q.sends.find? fun x => x.unit = unit

/-- R293, R364: where a queue ID lies for a sender at endpoint `e` of partition `k`: its position, or nothing. -/
def State.queueAt (s : State) (e k qid : Nat) : Option Nat :=
  let m := s.mapEntryAt e k (qid / 4096 % 256)
  if 2 ^ 20 ≤ qid || !m.valid || m.parked then none else some m.phys

/-- The index of the counts of R442. -/
def countKey (unit cab : Nat) : Nat := 256 * (if 16 ≤ unit then 9 else unit) + cab

/-- The partition key a message carries. -/
def msgKey (m : Nat) : Nat := nb m 21 16

/-- What the first message of a unit does when it is to be offered. -/
inductive Launch where
  /-- The offer leaves, and this is the state. -/
  | leaves (s : State)
  /-- The send ends at once with this status. -/
  | ends (st : Nat) (x : Send)
  /-- Nothing is to be offered. -/
  | idle

/-- R298, R293, R442: the first message of a unit at endpoint `e` is offered: within the Cabinet, or as one QHEAD and two QDATA flits on VC1. -/
def State.launch1 (s : State) (e unit : Nat) : Launch :=
  match (s.qm e).first unit with
  | none => .idle
  | some x =>
    if x.state ≠ 0 then .idle
    else
      let q := s.qm e
      let k := msgKey x.msg
      let lc := x.qid / 4096 % 256
      if (s.cab e).replay && decide (SMap.get (fun _ => 0) q.sent (countKey unit lc) < SMap.get (fun _ => 0) q.limits (countKey unit lc)) then .ends 0 x
      else
        let s := if isCab e then s.incCtr (qmgr e) 0x090 else s
        if isCab e && x.qid < 2 ^ 20 && lc = s.cabLog e then .leaves (s.setQm e (q.put x { x with state := 1, dest := 1024 + lc, seq := 4096 + unit }))
        else match s.queueAt e k x.qid with
          | none => .ends 2 x
          | some p =>
            let n := SMap.get (fun _ => 0) s.seqs (s.pairKey k e p 1)
            let s := s.setQm e (q.put x { x with state := 1, dest := s.seqIndex k p, seq := n })
            .leaves (((s.inject e p 1 k 1 (x.qid % 2 ^ 20 * 2 ^ 108)).inject e p 1 k 2 (x.msg % 2 ^ 128)).inject e p 1 k 2 (x.msg / 2 ^ 128))

/-! ### The control core's registers -/

/-- The control core of a position. -/
def State.core (s : State) (p : Nat) : Core := (s.cab p).core

/-- The state with a control core replaced. -/
def State.setCore (s : State) (p : Nat) (c : Core) : State := s.setCab p { s.cab p with core := c }

/-- CCTL.STATE: 0 RESET, 1 RUNNING, 2 HALTED, 3 LOCKUP. -/
def State.coreState (s : State) (p : Nat) : Nat := s.fld (cctl p) 0x00C 1 0

/-- A write of a core register; x0 discards it. -/
def Core.put (c : Core) (rd : Nat) (v : Word) : Core := if rd = 0 then c else { c with x := c.x.setIfInBounds rd v }

/-- A core register; x0 reads zero. -/
def Core.reg (c : Core) (r : Nat) : Word := if r = 0 then 0 else c.x[r]?.getD 0

/-- A CSR that holds a value. -/
def Core.getCsr (c : Core) (n : Nat) : Word := SMap.get (fun _ => 0) c.csr n

/-- The core with that CSR replaced. -/
def Core.setCsr (c : Core) (n : Nat) (v : Word) : Core := { c with csr := SMap.set (fun _ => 0) c.csr n v }

/-- minstret (0xB02, 0xB82) counts a retired instruction. -/
def Core.countInstret (c : Core) : Core :=
  let n := (c.getCsr 0xB02).toNat + (c.getCsr 0xB82).toNat * 2 ^ 32 + 1
  (c.setCsr 0xB02 (BitVec.ofNat 32 n)).setCsr 0xB82 (BitVec.ofNat 32 (n / 2 ^ 32))

/-! ### The synchronisation trace -/

/-- The OBS page. -/
def pObs : Page := ⟨.obs, 0⟩

/-- The trace buffer of a source endpoint. -/
def State.traceBuf (s : State) (e : Nat) : TraceBuf := SMap.get (fun _ => (⟨[], 0, 0⟩ : TraceBuf)) s.traces e

/-- The state with a trace buffer replaced. -/
def State.setTraceBuf (s : State) (e : Nat) (b : TraceBuf) : State := { s with traces := SMap.set (fun _ => (⟨[], 0, 0⟩ : TraceBuf)) s.traces e b }

/-- R490: does partition `k` trace records of a kind (TRC_CTRL bit `bit`) with this time? -/
def State.tracing (s : State) (k bit t : Nat) : Bool :=
  s.flag pObs 0x070 0 && s.flag pObs 0x070 bit && (s.rd64 pObs 0x074).testBit k &&
    !(s.flag pObs 0x070 2 && (s.freeze.armed || s.freeze.inForce) && decide (s.rd64 pObs 0x054 ≤ t))

/-- Table 19.4: a record, its kind-specific bits [60:0] given. -/
def traceRecord (t kind k e rest : Nat) : Nat :=
  t % 2 ^ 48 * 2 ^ 80 + kind % 16 * 2 ^ 76 + k % 64 * 2 ^ 70 + e % 512 * 2 ^ 61 + rest % 2 ^ 61

/-- R490, R492: a source forms a record, with a LOST record ahead of it where it has lost some; a record that finds the buffer of 16 full is lost. -/
def State.traceForm (s : State) (e k : Nat) (rec : Nat) : State :=
  let b := s.traceBuf e
  let b := if b.lost ≠ 0 && decide (b.records.length < 16) then
      ⟨b.records ++ [traceRecord s.now 3 b.lastKey e (min b.lost 4294967295 * 2 ^ 29)], 0, b.lastKey⟩ else b
  if b.records.length < 16 then s.setTraceBuf e { b with records := b.records ++ [rec] }
  else (s.incCtr pObs 0x08C).setTraceBuf e { b with lost := b.lost + 1, lastKey := k }

/-- BLOCK_INFO (Table 11.12) of a core: the queue or group, and what it waits in. -/
def State.blockInfo (s : State) (p : Nat) : Nat :=
  match (s.core p).wait with
  | none => 0
  | some (.qrecv q _ _) => s.cabLog p * 4096 + q + 4 * 2 ^ 20
  | some (.hzwait _) => 5 * 2 ^ 20
  | some (.evinj ..) => 0
  | some (.send _ kind) =>
    match (s.qm p).first 0 with
    | some x => (if x.mcast then x.worst / 256 % 256 else x.qid % 2 ^ 20) + kind * 2 ^ 20
    | none => kind * 2 ^ 20

/-- A wait record of a core (Table 19.4). -/
def State.waitRecord (s : State) (p kind dur : Nat) : Nat :=
  let b := s.blockInfo p
  traceRecord (s.core p).waitSince kind (s.cabKey p) p
    (b / 2 ^ 20 % 16 * 2 ^ 57 + b % 4096 * 2 ^ 45 + b / 4096 % 256 * 2 ^ 37 + min dur 16777215 * 2 ^ 13)

/-- R490: a core's wait ends; it forms a WAIT_END where it formed a WAIT_START. -/
def State.endWait (s : State) (p : Nat) : State :=
  let c := s.core p
  let t := if c.traced && s.tracing (s.cabKey p) 4 s.now then
      s.traceForm p (s.cabKey p) (s.waitRecord p 2 ((s.now - c.waitSince) / 1024)) else s
  t.setCore p { t.core p with wait := none, traced := false }

/-- A core starts to wait. -/
def State.startWait (s : State) (p : Nat) (w : CoreWait) : State :=
  s.setCore p { s.core p with wait := some w, waitSince := s.now, traced := false }

/-- A queue instruction (4 bytes) retires with a value in rd. -/
def State.retire (s : State) (p rd : Nat) (v : Word) : State :=
  let s := s.endWait p
  let c := s.core p
  (s.wr (cctl p) 0x060 c.pc).setCore p { c.put rd v with pc := c.pc + 4 }.countInstret

/-! ### How a send ends -/

/-- A unit's send has ended with a status: OK, or why not (Table 11.8). A QMCAST goes on to its next member; a host ring's send is taken up by
the ring. -/
def State.sendEnds (s : State) (e : Nat) (x : Send) (st : Nat) (ring : State → Nat → Nat → State) : State :=
  let q := s.qm e
  let lc := x.qid / 4096 % 256
  let q := if st = 0 then { q with sent := SMap.set (fun _ => 0) q.sent (countKey x.unit lc) ((SMap.get (fun _ => 0) q.sent (countKey x.unit lc) + 1) % 2 ^ 32) } else q
  let s := if isCab e && (st = 2 || st = 4) then s.err (qmgr e) 5 0x0C2 st else s
  let worst := max (x.worst % 256) st + x.worst / 256 * 256
  if x.mcast then
    match x.members with
    | m :: ms => s.setQm e (q.put x { x with qid := m, members := ms, worst := worst, state := 0, blocked := none, hung := false })
    | [] =>
      match (s.core e).wait with
      | some (.send rd _) => (s.setQm e (q.drop x)).retire e rd (BitVec.ofNat 32 (worst % 256))
      | _ => s.setQm e (q.drop x)
  else
    let s := s.setQm e (q.drop x)
    if x.unit = 0 then
      match (s.core e).wait with
      | some (.send rd _) => s.retire e rd (BitVec.ofNat 32 st)
      | _ => s
    else if x.unit = 10 && st ≠ 0 then s.incCtr (qmgr e) 0x0A0
    else if 16 ≤ x.unit then ring s x.unit st
    else s

/-- The messages of a unit leave until one awaits its answer. -/
def State.launchWith (ring : State → Nat → Nat → State) (e unit : Nat) : Nat → State → State
  | 0, s => s
  | n + 1, s =>
    match s.launch1 e unit with
    | .leaves t => t
    | .idle => s
    | .ends st x => State.launchWith ring e unit n (s.sendEnds e x st ring)

/-- The messages of a Cabinet's unit leave until one awaits its answer. -/
def State.launch (s : State) (p unit : Nat) : State := State.launchWith (fun s _ _ => s) p unit ((s.qm p).sends.length + 64) s

/-- R300: a unit of a Cabinet other than the core hands the queue manager a message, which is offered, or waits behind the unit's earlier ones. -/
def State.post (s : State) (p unit qid user body : Nat) : State :=
  let q := s.qm p
  let m := message (s.cabLog p) unit (s.cabKey p) false user body
  (s.setQm p { q with sends := q.sends ++ [newSend s unit qid m none] }).launch p unit

/-- R180, R272, R302: the completion of a command: byte 8 the status, byte 9 the opcode, and `extra` bytes 12 to 15 (log entry 24). REPLY[31] asks
for none. -/
def State.complete (s : State) (p unit reply user op status extra : Nat) : State :=
  if nb reply 31 31 = 1 then s
  else s.post p unit (nb reply 19 0) user (status % 256 + op % 256 * 2 ^ 8 + extra % 2 ^ 32 * 2 ^ 32)

end Sys2Proof.Machine
end

