-- ==== Sys2Proof/Machine/Drawer.lean ====
section
/-!
DEFINITION. Drawer.lean: the Drawers of 06_neurons.md: records, profiles, decay tables, the landing of deliveries (R165, R183 to R187), the
evaluation of slots (R167), the projection of spikes (R226), the rest sweep, the catch-up pass, and the command port and window.
-/

namespace Sys2Proof.Machine

/-! ### The store -/

/-- The 192-bit record of a neuron (Table 6.2). -/
def State.nrec (s : State) (p d i : Nat) : Nat := s.load (drwAt p d (24 * i)) 24

/-- RESTED of a record. -/
def recRested (r : Nat) : Bool := r.testBit 27
/-- PROFILE of a record. -/
def recProfile (r : Nat) : Nat := nb r 31 28
/-- PLASTIC_POST of a record. -/
def recPlastic (r : Nat) : Bool := r.testBit 25
/-- GROUP of a record. -/
def recGroup (r : Nat) : Nat := nb r 47 32

/-- A record with its potential, adaptation, times and RESTED replaced. -/
def recWith (r : Nat) (v : Int) (a tu ts : Nat) (rested : Bool) : Nat :=
  toBits v 32 * 2 ^ 160 + a % 65536 * 2 ^ 144 + tu % 2 ^ 48 * 2 ^ 96 + ts % 2 ^ 48 * 2 ^ 48 + r % 2 ^ 48 - r / 2 ^ 27 % 2 * 2 ^ 27 + b2n rested * 2 ^ 27

/-- R154: the profile shadow of a neuron. -/
def State.shadow (s : State) (p d i : Nat) : Nat :=
  (s.byte (drwAt p d (0x73800 + i / 2))).toNat / (if i % 2 = 0 then 1 else 16) % 16

/-- A record is written: with it the shadow of its profile (R154) and the count RESTED (Table 6.12). -/
def State.setNrec (s : State) (p d i r : Nat) : State :=
  let old := s.nrec p d i
  let a := drwAt p d (0x73800 + i / 2)
  let b := (s.byte a).toNat
  let s := s.setByte a (BitVec.ofNat 8 (if i % 2 = 0 then b / 16 * 16 + recProfile r else recProfile r * 16 + b % 16))
  let s := s.wrN (drw p d) 0x060 (s.rdN (drw p d) 0x060 + b2n (recRested r) - b2n (recRested old))
  s.store (drwAt p d (24 * i)) 24 r

/-- R15, R154: decay table m of a Drawer. -/
def State.dtable (s : State) (p d m : Nat) : List Nat := (List.range 48).map fun b => s.load (drwAt p d (0x72000 + 192 * m + 4 * b)) 4 % 2 ^ 25

/-- A field of profile j (Table 6.13). -/
def State.prof (s : State) (p d j off hi lo : Nat) : Nat := s.fld (drw p d) (0x100 + 0x20 * j + off) hi lo

/-- The slot width exponent K of profile j. -/
def State.profK (s : State) (p d j : Nat) : Nat := s.prof p d j 0 4 0

/-- The charge of ring position j. -/
def State.ring (s : State) (p d i j : Nat) : Int := ofBits (s.load (drwAt p d (0x30000 + 32 * i + 4 * j)) 4) 32

/-- The state with the charge of a ring position replaced. -/
def State.setRing (s : State) (p d i j : Nat) (q : Int) : State := s.store (drwAt p d (0x30000 + 32 * i + 4 * j)) 4 (toBits q 32)

/-- Is ring position j of a neuron occupied? -/
def State.occ (s : State) (p d i j : Nat) : Bool := (s.byte (drwAt p d (0x70000 + 1024 * j + i / 8))).toNat.testBit (i % 8)

/-- The state with an occupancy bit replaced. -/
def State.setOcc (s : State) (p d i j : Nat) (b : Bool) : State :=
  let a := drwAt p d (0x70000 + 1024 * j + i / 8)
  let v := (s.byte a).toNat
  s.setByte a (BitVec.ofNat 8 (v - b2n (v.testBit (i % 8)) * 2 ^ (i % 8) + b2n b * 2 ^ (i % 8)))

/-- R186: the ring base of a profile of width 2^K. -/
def State.ringBase (s : State) (p k : Nat) : Nat := s.gEnd p / 2 ^ k

/-- The slot number that ring position j holds: the one in [b, b + 8). -/
def slotOf (b j : Nat) : Nat := b + (j + 8 - b % 8) % 8

/-- The end of the earliest occupied ring slot of a neuron. -/
def State.ringEarliest (s : State) (p d i : Nat) : Option Nat :=
  let k := s.profK p d (s.shadow p d i)
  ((List.range 8).filter (s.occ p d i)).foldl (fun m j =>
    let te := (slotOf (s.ringBase p k) j + 1) * 2 ^ k
    match m with | some x => some (min x te) | none => some te) none

/-- The entries of the long-delay queue, on die and spilled. -/
def State.ldqAll (s : State) (p : Nat) : List Ldq := (s.xp p).ldq ++ (s.xp p).spill

/-- The smaller of two optional ends. -/
def minEnd : Option Nat → Option Nat → Option Nat
  | some x, some y => some (min x y)
  | none, y => y
  | x, none => x

/-- R186, R190: the end of the earliest pending slot of a neuron: where it is held, in the ring or in the long-delay queue, is all the same. -/
def State.earliest (s : State) (p d i : Nat) : Option Nat :=
  ((s.ldqAll p).filter fun e => e.neuron = 8192 * d + i).foldl (fun m e => minEnd m (some e.te)) (s.ringEarliest p d i)

/-- The neurons of a Drawer that have an occupied slot, from the listed bytes of its bitmaps. -/
def State.occupied (s : State) (p d : Nat) : List Nat :=
  ((s.bytesIn (drwAt p d 0x70000) (drwAt p d 0x72000)).flatMap fun e =>
    ((List.range 8).filter e.2.toNat.testBit).map fun b => (e.1 - drwAt p d 0x70000) % 1024 * 8 + b).eraseDups

/-- The earliest pending slot end of a Drawer. -/
def State.drwEarliest (s : State) (p d : Nat) : Option Nat :=
  ((s.ldqAll p).filter fun e => e.neuron / 8192 = d).foldl (fun m e => minEnd m (some e.te))
    ((s.occupied p d).foldl (fun m i => minEnd m (s.ringEarliest p d i)) none)

/-- DRW_CTRL.PAUSE. -/
def State.paused (s : State) (p d : Nat) : Bool := s.flag (drw p d) 0x040 0

/-- R175: does the catch-up pass run? -/
def State.catchup (s : State) (p d : Nat) : Bool := s.flag (drw p d) 0x00C 2

/-- R286: are the four banks of a Drawer accessible? -/
def State.drwBanks (s : State) (p d : Nat) : Bool := (List.range 4).all fun b => s.bankOn p (4 * d + b)

/-- R286: an operation of a Drawer that meets a bank that is not ON; the handshake does not complete (R178). -/
def State.drwBankErr (s : State) (p d : Nat) : State :=
  match (List.range 4).find? (fun b => !s.bankOn p (4 * d + b)) with | some b => s.bankErr p (4 * d + b) | none => s

/-- R178, R179: a Drawer becomes FAULTED, and the Cabinet is reported. -/
def State.drwFault (s : State) (p d code : Nat) : State :=
  (((s.setFld (drw p d) 0x044 1 0 3).setFlag (drw p d) 0x00C 0 true).setFlag (drw p d) 0x00C 1 false).cabFault p code

/-- Table 6.12: DRW_STATE and PG_STATUS.PAUSED follow PAUSE; a FAULTED Drawer stays so. -/
def State.drwShow (s : State) (p d : Nat) : State :=
  if s.fld (drw p d) 0x044 1 0 = 3 then s
  else (s.setFlag (drw p d) 0x00C 1 (s.paused p d)).setFld (drw p d) 0x044 1 0 (if s.paused p d then 2 else 0)

/-- Table 6.12: RESTED counts the rested records of the store as it stands. -/
def State.countRested (s : State) (p d : Nat) : State :=
  s.wrN (drw p d) 0x060 ((List.range 8192).filter fun i => recRested (s.nrec p d i)).length

/-- R179: the error check of a Drawer's store in one operation; false: the operation stops. -/
def State.drwEcc (s : State) (p d : Nat) : WordEcc → Bool × State
  | .clean => (true, s)
  | .corrected off => (true, (s.err (drw p d) 1 0x030 (off / 8)).raise (drw p d) 3)
  | .uncorrectable off => (false, (((s.err (drw p d) 2 0x031 (off / 8)).raise (drw p d) 4).drwFault p d 0x031))

/-- R172: a saturation. -/
def State.saturation (s : State) (p d i : Nat) : State :=
  let r := s.nrec p d i
  (((if r.testBit 26 then s else s.setNrec p d i (r + 2 ^ 26)).incCtr (drw p d) 0x048).raise (drw p d) 0)

/-! ### Deliveries -/

/-- R183: the landing slot of a delivery, and whether it is late and deferred. -/
def State.landing (s : State) (p d i t g pass : Nat) : Nat × Bool × Bool :=
  let k := s.profK p d (s.shadow p d i)
  let r := s.nrec p d i
  let te := (t / 2 ^ k + 1) * 2 ^ k
  let tu := rebuildI (nb r 143 96) t
  let late := !recRested r && decide ((te : Int) ≤ tu)
  let te := if late then tu.toNat + 2 ^ k else te
  let defer := decide (te ≤ g) && decide (pass = 8)
  (if defer then (g / 2 ^ k + 1) * 2 ^ k else te, late, defer)

/-- R165: the contribution of a delivery that lands in the slot ending at `te`. -/
def State.contribution (s : State) (p d i t te : Nat) (c0 : Int) : Int :=
  mul24 c0 (decay (te - t) (s.dtable p d (s.prof p d (s.shadow p d i) 0 12 8)))

/-- R165, R166: a contribution enters its slot. -/
def State.slotAdd (s : State) (p d i te : Nat) (q : Int) : State :=
  let k := s.profK p d (s.shadow p d i)
  let j := (te / 2 ^ k + 7) % 8
  let x := s.ring p d i j + q
  let s := if x = sat x 32 then s else s.saturation p d i
  (s.setRing p d i j (sat x 32)).setOcc p d i j true

/-- Table 7.1: an entry of the long-delay queue as its 16 bytes. -/
def ldqWord (e : Ldq) : Nat := b2n e.late * 2 ^ 32 + e.neuron % 2 ^ 15 * 2 ^ 33 + toBits e.q 32 * 2 ^ 48 + e.te % 2 ^ 48 * 2 ^ 80

/-- R282, R286: an entry of the on-die queue is written where the memory does not hold it yet. -/
def State.ldqPut (s : State) (p off w : Nat) : State := if s.load (spadAt p off) 16 = w then s else s.areaSet p 2 off 16 w

/-- R186, Table 7.1: the entries stand in the scratchpad from LDQ_BASE and in the stacks from SPILL_BASE, in the order in which they entered each part
(log entry 54). -/
def State.ldqStore (s : State) (p : Nat) : State :=
  let x := s.xp p
  let a := s.fld (hzn p) 0x0A0 21 4 * 16
  let b := s.rd64 (hzn p) 0x0A8
  let s := x.ldq.zipIdx.foldl (fun s e => s.ldqPut p (a + 16 * e.2) (ldqWord e.1)) s
  x.spill.zipIdx.foldl (fun s e => s.ownPut (s.cabKey p) (b + 16 * e.2) 16 (ldqWord e.1)) s

/-- The LDQ's memory and registers follow the queue and its spill area (Tables 7.1, 7.7). -/
def State.ldqRegs (s : State) (p : Nat) : State :=
  let x := s.xp p
  let s := s.ldqStore p
  let n := x.spill.length
  (((s.wrN (hzn p) 0x0B4 x.ldq.length).wrN (hzn p) 0x0B8 n).wrN (hzn p) 0x0BC (max n (s.rdN (hzn p) 0x0BC))).setFlag (hzn p) 0x00C 2 (decide (0 < n))

/-- The entry of a list with the latest landing end. -/
def latestLdq : List Ldq → Option Ldq
  | [] => none
  | e :: es => match latestLdq es with | some f => if e.te ≥ f.te then some e else some f | none => some e

/-- The entry of a list with the earliest landing end. -/
def earliestLdq : List Ldq → Option Ldq
  | [] => none
  | e :: es => match earliestLdq es with | some f => if e.te ≤ f.te then some e else some f | none => some e

/-- The on-die entries (2^LDQ_SIZE) and the entries of the spill area. -/
def State.ldqCap (s : State) (p : Nat) : Nat × Nat := (2 ^ s.fld (hzn p) 0x0A4 4 0, 2 ^ s.fld (hzn p) 0x0B0 4 0 / 16)

/-- R186, R187: an entry is placed in the long-delay queue; none where the on-die part and the spill area are full. -/
def State.ldqAdd (s : State) (p : Nat) (e : Ldq) : Option State :=
  let x := s.xp p
  if x.ldq.length < (s.ldqCap p).1 then some ((s.setXp p { x with ldq := x.ldq ++ [e] }).ldqRegs p)
  else if x.spill.length < (s.ldqCap p).2 then
    let all := x.ldq ++ [e]
    match latestLdq all with
    | some f => some (((s.setXp p { x with ldq := all.erase f, spill := x.spill ++ [f] }).ldqRegs p).raise (hzn p) 1)
    | none => none
  else none

/-- R282, R286, R371: an entry of the queue is read where it stands: the `i`-th in the scratchpad, or in the spill area. An access that does not take place
reads zero, which is no contribution: the entry is gone (DEDUCED, log entry 54). -/
def State.ldqRead (s : State) (p i : Nat) (spilled : Bool) : Bool × State :=
  if spilled then
    match s.spanDenied (s.cabKey p) (s.rd64 (hzn p) 0x0A8 + 16 * i) 16 with
    | some (b, code) => (false, s.isolate (s.cabKey p) b code)
    | none => (true, s)
  else
    let off := s.fld (hzn p) 0x0A0 21 4 * 16 + 16 * i
    (!(s.areaOff p 2 off 16), (s.areaGet p 2 off 16).2)

/-- R186: the entries of a list, with their places, that a read finds. -/
def State.ldqReads (s : State) (p : Nat) (spilled : Bool) (l : List (Ldq × Nat)) : List Ldq × State :=
  l.foldl (fun a e => let r := a.2.ldqRead p e.2 spilled; (if r.1 then a.1 ++ [e.1] else a.1, r.2)) ([], s)

/-- R186: some entries of the long-delay queue enter the ring. -/
def State.ldqMove (s : State) (p : Nat) (go : Ldq → Bool) : State :=
  let x := s.xp p
  if !(x.ldq ++ x.spill).any go then s
  else
    let a := s.ldqReads p false (x.ldq.zipIdx.filter fun e => go e.1)
    let b := a.2.ldqReads p true (x.spill.zipIdx.filter fun e => go e.1)
    let s := (b.2.setXp p { x with ldq := x.ldq.filter (fun e => !go e), spill := x.spill.filter (fun e => !go e) }).ldqRegs p
    (a.1 ++ b.1).foldl (fun s e => s.slotAdd p (e.neuron / 8192) (e.neuron % 8192) e.te e.q) s

/-- R186: does the landing slot of an entry lie in the ring window of its neuron, in a Drawer that takes deliveries (R175)? -/
def State.inWindow8 (s : State) (p : Nat) (e : Ldq) : Bool :=
  let k := s.profK p (e.neuron / 8192) (s.shadow p (e.neuron / 8192) (e.neuron % 8192))
  decide (e.te / 2 ^ k ≤ s.ringBase p k + 8) && !s.catchup p (e.neuron / 8192)

/-- R154, R179: the neuron whose record, ring or bitmap byte holds a store offset; none beyond them. A bitmap word serves 64 neurons. -/
def eccHits (off i : Nat) : Bool :=
  if off < 0x30000 then off / 24 = i else if off < 0x70000 then (off - 0x30000) / 32 = i else off < 0x72000 && (off - 0x70000) % 1024 / 8 = i / 64

/-- R179: does the store's check stop an operation on a neuron of the Cabinet? -/
def storeStops (e : StoreEcc) (n : Nat) : Bool :=
  match e.ecc with | .uncorrectable off => n / 8192 % 4 = e.d && (eccHits off (n % 8192) || decide (0x74800 ≤ off)) | _ => false

/-- R179, R286: what the operations on some neurons of a Cabinet record: a Drawer with a bank that is not ON, and the store's check. -/
def State.storeErrs (s : State) (p : Nat) (ecc : StoreEcc) (ns : List Nat) : State :=
  let ds := (ns.map fun n => n / 8192 % 4).eraseDups
  let s := ds.foldl (fun s d => if s.drwBanks p d then s else s.drwBankErr p d) s
  if ds.contains ecc.d && s.drwBanks p ecc.d then (s.drwEcc p ecc.d ecc.ecc).2 else s

/-- R186, R179, R286: the entries whose landing slot lies in the ring window enter the ring; one that its Drawer cannot take stays. -/
def State.ldqSettle (s : State) (p : Nat) (ecc : StoreEcc) : State :=
  let l := (s.ldqAll p).filter (s.inWindow8 p)
  if l.isEmpty then s
  else
    let s := s.storeErrs p ecc (l.map (·.neuron))
    s.ldqMove p fun e => s.inWindow8 p e && s.drwBanks p (e.neuron / 8192) && !storeStops ecc e.neuron

/-- R186, R190: the entries of a neuron that land at or before `te` enter the ring, so that the evaluation at `te` finds them. -/
def State.ldqDue (s : State) (p d i te : Nat) : State := s.ldqMove p fun e => e.neuron = 8192 * d + i && decide (e.te ≤ te)

/-- The counts of a late or deferred landing (R184). -/
def State.landCounts (s : State) (p d : Nat) (late defer : Bool) : State :=
  let s := if late then (s.incCtr (drw p d) 0x04C).raise (drw p d) 1 else s
  if defer then (s.incCtr (drw p d) 0x050).raise (drw p d) 2 else s

/-- R165, R183 to R186: a delivery lands, in the ring or in the long-delay queue; none where the spill area is full (R187). A landing at or before
the end of the step in progress asks for another pass (R188). -/
def State.land (s : State) (p : Nat) (e : Dlv) : Option State :=
  let d := e.neuron / 8192
  let i := e.neuron % 8192
  let (te, late, defer) := s.landing p d i e.time e.g e.pass
  let k := s.profK p d (s.shadow p d i)
  let q := s.contribution p d i e.time te e.c0
  let again (s : State) : State :=
    match (s.xp p).step with
    | some st => if e.pass ≠ 0 && decide (te ≤ st.g) then s.setXp p { s.xp p with step := some { st with again := true } } else s
    | none => s
  if te / 2 ^ k ≤ s.ringBase p k + 8 then some (again ((s.landCounts p d late defer).slotAdd p d i te q))
  else (s.ldqAdd p ⟨te, q, e.neuron, late⟩).map fun s => again (s.landCounts p d late defer)

/-- R187: the delivery that finds the spill area full is held. -/
def State.spillFull (s : State) (p : Nat) : State :=
  ((s.setXp p { s.xp p with held := true }).err (hzn p) 5 0x061 0).raise (hzn p) 2

/-- The first delivery on its way is placed, or held (R187). -/
def State.landHead (s : State) (p : Nat) : State :=
  match (s.xp p).dlv with
  | [] => s
  | e :: es => match s.land p e with
    | some t => t.setXp p { t.xp p with dlv := es, held := false }
    | none => if (s.xp p).held then s else s.spillFull p

/-- R165, R175, R179, R300: the first delivery on its way meets its Drawer: it is taken unless the Drawer's catch-up pass runs, the Drawer stalls, its
banks are off or its words are bad. -/
def State.landFirst (s : State) (p : Nat) (ecc : WordEcc) : State :=
  match (s.xp p).dlv with
  | [] => s
  | e :: es =>
    let d := e.neuron / 8192
    if s.catchup p d || s.unitStalled p (3 + d) then s
    else if !s.drwBanks p d then s.drwBankErr p d
    else match s.drwEcc p d ecc with
      | (false, t) => t.setXp p { t.xp p with dlv := es, held := false }
      | (true, t) => t.landHead p

/-- R165, R183: a Drawer lands the first delivery on its way from the expander or the command port. -/
def execDelivery (p : Nat) (ecc : WordEcc) (s : State) : Result :=
  if s.live p && !(s.xp p).held then done (s.landFirst p ecc) else done s

/-- A spilled entry returns on die when room frees (R186). -/
def execLdqReturn (p : Nat) (s : State) : Result :=
  let x := s.xp p
  match earliestLdq x.spill with
  | some e =>
    if s.live p && decide (x.ldq.length < (s.ldqCap p).1) then
      let r := s.ldqRead p (x.spill.idxOf e) true
      done ((r.2.setXp p { x with ldq := if r.1 then x.ldq ++ [e] else x.ldq, spill := x.spill.erase e }).ldqRegs p)
    else done s
  | none => done s

/-- R187: when room frees the held delivery is placed, and the walk of its event resumes. -/
def execSpillResume (p : Checked WordEcc) (s : State) : Result :=
  if s.live p.i && (s.xp p.i).held then done (s.landFirst p.i p.ecc) else done s

/-! ### The post log -/

/-- R243: the offsets of the post log entries that hold a spike, with their words. -/
def State.postLog (s : State) (p d : Nat) : List (Nat × Nat) :=
  ((s.bytesIn (drwAt p d 0x74800) (drwAt p d 0x80000)).map fun e => (e.1 - drwAt p d 0x74800) / 8).eraseDups.filterMap fun u =>
    let w := s.load (drwAt p d (0x74800 + 8 * u)) 8
    if w.testBit 63 then some (u, w) else none

/-- The lowest free entry of the post log. -/
def lowestFree (used : List Nat) (n : Nat) : Option Nat := (List.range n).find? fun u => !used.contains u

/-- Is the post log of a Drawer full (R243)? -/
def State.postFull (s : State) (p d : Nat) : Bool := decide (5888 ≤ (s.postLog p d).length)

/-- POST_FULL follows the log. -/
def State.postFlag (s : State) (p d : Nat) : State := s.setFlag (drw p d) 0x00C 3 (s.postFull p d)

/-- R243: a spike is entered in the log. -/
def State.postEnter (s : State) (p d i te : Nat) : State :=
  match lowestFree ((s.postLog p d).map (·.1)) 5888 with
  | some u => (s.store (drwAt p d (0x74800 + 8 * u)) 8 (te % 2 ^ 48 + i * 2 ^ 48 + 2 ^ 63)).postFlag p d
  | none => s

/-- R157, R158: the last spike of a neuron in its record, or none where it is rested or has no previous spike at `t`. -/
def State.ownSpike (s : State) (p d i t : Nat) : Option Int :=
  let r := s.nrec p d i
  let tu := rebuildI (nb r 143 96) t
  let ts := rebuildI (nb r 95 48) tu
  if recRested r || decide (ts + 2 ^ 46 ≤ max (t : Int) tu) then none else some ts

/-- R243: the logged spikes of a neuron, rebuilt against `t`. -/
def State.logSpikes (s : State) (p d i t : Nat) : List Int := ((s.postLog p d).filter (fun e => nb e.2 60 48 = i)).map fun e => rebuildI (nb e.2 47 0) t

/-- R242, R243: the spikes of a neuron that a post read at `t` may see: none of a neuron that is rested or has no previous spike, and none that lies 2^46
fu back (R158). -/
def State.spikesOf (s : State) (p d i t : Nat) : List Int :=
  match s.ownSpike p d i t with
  | none => []
  | some x => (x :: s.logSpikes p d i t).filter fun x => decide ((t : Int) < x + 2 ^ 46)

/-- R158, R243: the logged spikes of a neuron that has no previous spike are freed: none of them can be read again (DEDUCED, log
entry 25). -/
def State.postForget (s : State) (p d i : Nat) : State :=
  (((s.postLog p d).filter fun e => nb e.2 60 48 = i).foldl (fun s e => s.store (drwAt p d (0x74800 + 8 * e.1)) 8 0) s).postFlag p d

/-! ### Evaluation -/

/-- R228: the copy of the projection tables that a spike at `te` is projected from: the new copy of an armed switch, or the old one of the last switch
made, where a step still lies before it. -/
def State.pgtCopy (s : State) (p te : Nat) : Nat :=
  let cur := s.fld (xpnd p) 0x044 0 0
  if (s.flag (xpnd p) 0x044 1 && decide ((s.xp p).epochAt ≤ te)) || decide (te < (s.xp p).epochPast) then 1 - cur else cur

/-- A projection group record (Table 8.6), as the expander reads it (R282, R286). -/
def State.pgroup (s : State) (p c x : Nat) : Nat × State := s.areaGet p 2 (s.fld (xpnd p) 0x05C 21 4 * 16 + c * 0x10000 + 8 * x) 8
/-- A destination record (Table 8.7), as the expander reads it. -/
def State.pdest (s : State) (p c y : Nat) : Nat × State := s.areaGet p 2 (s.fld (xpnd p) 0x05C 21 4 * 16 + c * 0x10000 + 0x8000 + 8 * y) 8

/-- R226: one copy of an event of neuron `n`, to the destination record `w` of a group whose range begins at `rlo`. -/
def State.project (s : State) (p w n rlo time pay itv type g pass : Nat) : State :=
  let k := s.cabKey p
  let c := s.cabLog p
  let src := c * 2 ^ 15 + n
  let axon := nb w 41 26 + (n - rlo)
  let pl := eventPayload time axon src pay itv type
  let tgt := nb w 61 42
  if nb w 63 62 = 0 then
    if tgt % 256 = c then s.setXp p { s.xp p with inq := (s.xp p).inq ++ [⟨time, axon % 65536, src, pay, itv, type, false, g, pass⟩] }
    else s.sendEvent p k (tgt % 256) pl
  else if nb w 63 62 = 1 then (if s.physChan (tgt % 16) < 16 then s.inject p (0x120 + s.physChan (tgt % 16)) 0 k 0 pl else s)
  else if nb w 63 62 = 2 then s.injectTree p (0x180 + tgt % 64) 0 k 0 0 pl
  else s.post p 7 tgt 0 pl

/-- R226, R227: an event of a neuron goes to every destination of its group, in pool order. -/
def State.projectGroup (s : State) (p n group time pay itv type g pass : Nat) : State :=
  let c := s.pgtCopy p time
  let x := (s.pgroup p c group).1
  let s := (s.pgroup p c group).2
  if n < nb x 14 0 || nb x 29 15 < n then (s.err (xpnd p) 3 0x073 n).raise (xpnd p) 1
  else (List.range (nb x 34 30)).foldl (fun s y =>
    let r := s.pdest p c (nb x 46 35 + y)
    r.2.project p r.1 n (nb x 14 0) time pay itv type g pass) s

/-- What an evaluation computes (R167): the new record fields and the spike's payload and interval. -/
structure EvalOut where
  v     : Int
  a     : Nat
  ts    : Option Int
  satd  : Bool
  spike : Option (Nat × Nat)
  deriving DecidableEq, Repr

/-- R167: the evaluation datapath, on the record `r`, the charge `c` and the slot end `te`. -/
def evalCore (s : State) (p d r te : Nat) (c : Int) : EvalOut :=
  let j := recProfile r
  let tu := rebuildI (nb r 143 96) te
  let ts0 := rebuildI (nb r 95 48) tu
  let age := ((te : Int) - tu).toNat
  let rested := recRested r
  let v0 : Int := if rested then 0 else mul24 (ofBits (nb r 191 160) 32) (decay age (s.dtable p d (s.prof p d j 0 12 8)))
  let a0 : Int := if rested then 0 else mul24 (nb r 159 144) (decay age (s.dtable p d (s.prof p d j 0 20 16)))
  let ts : Option Int := if rested || decide (ts0 + 2 ^ 46 ≤ te) then none else some ts0
  let theta : Int := ofBits (s.prof p d j 0x08 31 0) 32 + a0 * 256
  let refr := match ts with | some x => decide ((te : Int) ≤ x + s.prof p d j 0x14 31 0) | none => false
  let c : Int := if refr && s.prof p d j 0x04 2 2 = 0 then 0 else c
  let v1 := v0 + c
  let v := sat v1 32
  let spike := !refr && decide (v ≥ theta)
  if spike then
    let pay := if s.prof p d j 0x04 3 3 = 1 then (min 255 ((v - theta) / 2 ^ s.prof p d j 0x04 8 4)).toNat else s.prof p d j 0x04 23 16
    let iv := lg16 (ts.map fun x => ((te : Int) - x).toNat)
    ⟨if s.prof p d j 0x04 1 1 = 1 then v - theta else ofBits (s.prof p d j 0x0C 31 0) 32,
      (satu (a0 + s.prof p d j 0x10 15 0) 16).toNat, some (te : Int), decide (v1 ≠ v), some (pay, iv)⟩
  else ⟨v, a0.toNat, ts, decide (v1 ≠ v), none⟩

/-- R167, R171: a slot is evaluated, and its spike is handed to the projection stage and the post log. -/
def State.evaluate (s : State) (p d i te g pass : Nat) : State :=
  let r := s.nrec p d i
  let k := s.profK p d (recProfile r)
  let j := (te / 2 ^ k + 7) % 8
  let o := evalCore s p d r te (s.ring p d i j)
  let s := (s.setRing p d i j 0).setOcc p d i j false
  let s := if o.satd then s.saturation p d i else s
  let tspk := match o.ts with | some x => (x % 2 ^ 48).toNat | none => te + 2 ^ 48 - 2 ^ 46
  let s := s.setNrec p d i (recWith (s.nrec p d i) o.v o.a te tspk false)
  match o.spike with
  | none => s
  | some (pay, iv) =>
    let s := if recPlastic r then (if iv = 0xFFFF then s.postForget p d i else s).postEnter p d i te else s
    if recGroup r = 0xFFFF then s else s.projectGroup p (8192 * d + i) (recGroup r) te pay iv 0 g pass

/-- R167, R186, R190: in a pass of the step in progress, a Drawer evaluates the earliest pending slot of a neuron whose end is at or before the step's;
what the long-delay queue holds for it enters the ring first.
A slot whose spike the full post log could not take waits (log entry 25). -/
def execEvaluate (p d i : Nat) (ecc : WordEcc) (s : State) : Result :=
  match (s.xp p).step with
  | none => done s
  | some st =>
    if !s.live p || st.barrier || s.paused p d || s.catchup p d || s.unitStalled p (3 + d) || s.unitStalled p 7 || decide (4 ≤ d) || decide (8192 ≤ i) then done s
    else match s.earliest p d i with
      | none => done s
      | some te =>
        if st.g < te then done s
        else if !s.drwBanks p d then done (s.drwBankErr p d)
        else match s.drwEcc p d ecc with
          | (false, t) => done t
          | (true, t) =>
            if recPlastic (t.nrec p d i) && t.postFull p d then done t else done ((t.ldqDue p d i te).evaluate p d i te st.g st.pass)

/-! ### The rest sweep -/

/-- R173: the visit of one record. -/
def State.sweep (s : State) (p d i : Nat) : State :=
  let r := s.nrec p d i
  if recRested r || (s.ringEarliest p d i).isSome then s
  else if rebuildI (nb r 143 96) s.now + 2 ^ 46 < (s.now : Int) then s.setNrec p d i (recWith r 0 0 (nb r 143 96) (nb r 95 48) true) else s

/-- R173: at a multiple of 2^31 fu (seen at the first CLK_TB edge that reaches it) the sweep visits the record at SWEEP_POS, once. -/
def execSweepVisit (p d : Nat) (ecc : WordEcc) (s : State) : Result :=
  let c := s.cab p
  if !s.ready (drw p d) || decide (4 ≤ d) || decide (16 ≤ s.now % 2 ^ 31) || c.swept.contains (d, s.now / 2 ^ 31) then done s
  else
    let s := s.setCab p { c with swept := (d, s.now / 2 ^ 31) :: c.swept.filter (·.1 ≠ d) }
    let pos := s.fld (drw p d) 0x054 12 0
    let (ok, s) := if s.drwBanks p d then s.drwEcc p d ecc else (false, s.drwBankErr p d)
    let s := if ok then s.sweep p d pos else s
    let s := s.wrN (drw p d) 0x054 ((pos + 1) % 8192)
    if pos = 8191 then done ((s.wr64 (drw p d) 0x058 s.now).raise (drw p d) 6) else done s

/-- R175: what the catch-up pass does to one record; the two counts go up when it clears a ring. -/
def State.catchupOne (s : State) (p d outTime i : Nat) : State :=
  let r := s.nrec p d i
  if recRested r || !decide (rebuildI (nb r 143 96) outTime + 2 ^ 46 < (s.now : Int)) then s
  else
    let occd := (s.ringEarliest p d i).isSome
    let s := s.setNrec p d i (recWith r 0 0 (nb r 143 96) (nb r 95 48) true)
    if occd then
      let s := (List.range 8).foldl (fun s j => (s.setRing p d i j 0).setOcc p d i j false) s
      s.setFld (drw p d) 0x064 13 0 (s.fld (drw p d) 0x064 13 0 + 1)
    else s

/-- R175, R179: the catch-up pass over all records, once the domain is back in RUN and its copy is synchronised (PG_STATUS.CATCHUP is set on the return).
`ecc` is how the one word of the store that reads bad reads; a neuron whose word is uncorrectable stays as it is. -/
def execCatchupPass (p : Nat) (d : Checked WordEcc) (s : State) : Result :=
  if !s.ready (drw p d.i) || !s.catchup p d.i then done s
  else if !s.drwBanks p d.i then done (s.drwBankErr p d.i)
  else
    let s := (s.drwEcc p d.i d.ecc).2.setFld (drw p d.i) 0x064 13 0 0
    let out := s.rd64 (drw p d.i) 0x070
    let skip (i : Nat) : Bool := match d.ecc with | .uncorrectable off => eccHits off i | _ => false
    let s := ((List.range 8192).filter (!skip ·)).foldl (fun s i => s.catchupOne p d.i out i) s
    done ((s.setFlag (drw p d.i) 0x00C 2 false).raise (drw p d.i) 7)

/-- R178: a handshake with a Drawer has been open for DRW_CTRL.TMO; `i` is the local index, or 0x1FFF. -/
def execHandshakeTimeout (p d i : Nat) (s : State) : Result :=
  done ((((s.err (drw p d) 4 0x050 (if i < 8192 then i else 0x1FFF)).raise (drw p d) 5).drwFault p d 0x050))

/-! ### The command port and the window -/

/-- The first command in a Drawer's command port. -/
def State.drwHead (s : State) (p d : Nat) : Option Nat := ((s.cab p).drwIn.find? fun e => e.1 = d).map (·.2)

/-- The state with that command taken. -/
def State.drwTake (s : State) (p d m : Nat) : State := s.setCab p { s.cab p with drwIn := (s.cab p).drwIn.erase (d, m) }

/-- R180: the fields of a Drawer command: opcode, neuron, reply, argument, charge. -/
def drwCmdOp (m : Nat) : Nat := byteOf m 8

/-- R180: are the bytes that Table 6.9 reserves zero? -/
def drwCmdClean (m : Nat) : Bool :=
  let op := drwCmdOp m
  byteOf m 9 = 0 && nb (bytesOf m 11 10) 15 13 = 0 && nb (bytesOf m 15 12) 30 20 = 0 && bytesOf m 31 28 = 0 &&
    (if op = 3 then decide (bytesOf m 23 22 = 0) else decide (bytesOf m 27 24 = 0))

/-- R180: a refused command: its error and its completion with status 1. -/
def State.drwRefuse (s : State) (p d m code loc : Nat) : State :=
  (s.err (drw p d) 5 code loc).complete p (3 + d) (bytesOf m 15 12) (msgUser m) (drwCmdOp m) 1 0

/-- R180: a command that was done. -/
def State.drwDone (s : State) (p d m : Nat) : State := s.complete p (3 + d) (bytesOf m 15 12) (msgUser m) (drwCmdOp m) 0 0

/-- The local index of a Drawer command. -/
def drwCmdNeuron (m : Nat) : Nat := nb (bytesOf m 11 10) 12 0

/-- A Drawer takes the command at the head of its port when it is the one the row names (R176, R180). A command with a reserved opcode is refused by
whichever row meets it. -/
def drwCommand (p d op : Nat) (s : State) (k : Nat → State → State) : Result :=
  match s.drwHead p d with
  | none => done s
  | some m =>
    if !s.live p || s.catchup p d || s.unitStalled p (3 + d) then done s
    else if drwCmdOp m = 0 || decide (3 < drwCmdOp m) then done ((s.drwTake p d m).drwRefuse p d m 0x014 (drwCmdNeuron m))
    else if drwCmdOp m ≠ op then done s
    else if !drwCmdClean m then done ((s.drwTake p d m).drwRefuse p d m 0x014 (drwCmdNeuron m))
    else done (k m (s.drwTake p d m))

/-- R180: READ_NEURON: record, ring and occupancy bits go to the area of ARG. -/
def execReadNeuron (p d : Nat) (ecc : WordEcc) (s : State) : Result :=
  drwCommand p d 1 s fun m s =>
    let i := drwCmdNeuron m
    let arg := bytesOf m 23 16
    if arg % 8 ≠ 0 || !sharedFits arg 64 then s.drwRefuse p d m 0x014 i
    else if !s.drwBanks p d then s.drwBankErr p d
    else match s.sharedOff p arg 64 with
    | some b => s.bankErr p b
    | none => match s.drwEcc p d ecc with
      | (false, t) => t
      | (true, t) =>
        let o := (List.range 8).foldl (fun o j => o + b2n (t.occ p d i j) * 2 ^ j) 0
        let v := t.nrec p d i + t.load (drwAt p d (0x30000 + 32 * i)) 32 * 2 ^ 192 + o * 2 ^ 448
        match t.sharedWrite p arg 64 v with
        | (ok, t) => t.complete p (3 + d) (bytesOf m 15 12) (msgUser m) 1 (b2n !ok) 0

/-- R156: may a record be written by a command or an image? -/
def State.recLegal (s : State) (p d r : Nat) : Bool :=
  (decide (recGroup r < 4096) || recGroup r = 0xFFFF) && s.prof p d (recProfile r) 0x04 0 0 = 1 && r % 2 ^ 25 = 0

/-- R163: does the Drawer take writes of its store and profiles? -/
def State.drwWritable (s : State) (p d : Nat) : Bool := s.partStopped (s.cabKey p) || s.paused p d

/-- R180: WRITE_NEURON: record, ring and occupancy bits come from the area of ARG. -/
def execWriteNeuron (p d : Nat) (ecc : WordEcc) (s : State) : Result :=
  drwCommand p d 2 s fun m s =>
    let i := drwCmdNeuron m
    let arg := bytesOf m 23 16
    if arg % 8 ≠ 0 || !sharedFits arg 64 then s.drwRefuse p d m 0x014 i
    else if !s.drwWritable p d then s.drwRefuse p d m 0x013 (0x8000 + 24 * i / 128)
    else match s.sharedOff p arg 64 with
    | some b => s.bankErr p b
    | none => match s.sharedRead p arg 64 with
      | (none, t) => t.complete p (3 + d) (bytesOf m 15 12) (msgUser m) 2 1 0
      | (some v, t) =>
        if !t.recLegal p d (v % 2 ^ 192) then t.drwRefuse p d m 0x014 i
        else if !t.drwBanks p d then t.drwBankErr p d
        else match t.drwEcc p d ecc with
          | (false, u) => u
          | (true, u) =>
            let u := (u.setNrec p d i (v % 2 ^ 192)).store (drwAt p d (0x30000 + 32 * i)) 32 (v / 2 ^ 192 % 2 ^ 256)
            ((List.range 8).foldl (fun u j => u.setOcc p d i j ((v / 2 ^ 448).testBit j)) u).drwDone p d m

/-- R193: may the Cabinet issue an event, charge or emission at this time? -/
def State.floorAllows (s : State) (p t : Nat) : Bool := s.floorEn p && decide (s.floor p ≤ t)

/-- R193: a command below the floor, or with EN = 0. -/
def State.floorRefuse (s : State) (p what : Nat) : State := (s.err (hzn p) 5 0x063 what).raise (hzn p) 3

/-- R179, R180, R193: CHARGE: a delivery with a time and a charge, landed at once; while a delivery is held (R187) the command waits in its port. -/
def execCharge (p : Nat) (d : Checked WordEcc) (s : State) : Result :=
  if (s.xp p).held then done s else drwCommand p d.i 3 s fun m s =>
    let t := rebuild (bytesOf m 21 16) s.now
    if !s.floorAllows p t then
      (s.floorRefuse p 1).complete p (3 + d.i) (bytesOf m 15 12) (msgUser m) 3 1 0
    else
      let e : Dlv := ⟨8192 * d.i + drwCmdNeuron m, t, ofBits (bytesOf m 27 24) 32, t - s.rdN (hzn p) 0x050, false, 0, 0⟩
      if !s.drwBanks p d.i then s.drwBankErr p d.i
      else match s.drwEcc p d.i d.ecc with
        | (false, u) => u
        | (true, s) =>
          match s.land p e with
          | some u => u.drwDone p d.i m
          | none => ((s.setXp p { s.xp p with dlv := e :: (s.xp p).dlv }).spillFull p).drwDone p d.i m

/-- R181, R179: the store word at WIN_ADDR is written under R163; AUTOINC advances the address. -/
def drwWinWrite (p d : Nat) (ecc : WordEcc) (w : Word) (s : State) : State :=
  let off := s.fld (drw p d) 0x068 18 2 * 4
  let s' := if s.flag (drw p d) 0x068 31 then s.setFld (drw p d) 0x068 18 2 (off / 4 + 1) else s
  if (0x73800 ≤ off ∧ off < 0x80000) then s'.badEnc (drw p d) (0x8000 + off / 128)
  else if !s.drwWritable p d then s'.refuse (drw p d) (0x8000 + off / 128)
  else if !s.bankOn p (bankOf (d * 2 ^ 19 + off)) then s'.bankErr p (bankOf (d * 2 ^ 19 + off))
  else match s'.drwEcc p d ecc with
    | (false, u) => u
    | (true, u) =>
      if off < 0x30000 then
        let i := off / 24
        let r := s.nrec p d i
        let sh := off % 24 * 8
        u.setNrec p d i (r - r / 2 ^ sh % 2 ^ 32 * 2 ^ sh + w.toNat * 2 ^ sh)
      else u.store (drwAt p d off) 4 w.toNat

/-- R282, R287: a read of WIN_DATA is an observation read: the SPAD page records its errors. Which bits of an uncorrectable word are wrong is open: the
value is free (log entry 4). -/
def drwWinRead (p d : Nat) (ecc : WordEcc) (s : State) : Nat × State :=
  let off := s.fld (drw p d) 0x068 18 2 * 4
  let s' := if s.flag (drw p d) 0x068 31 then s.setFld (drw p d) 0x068 18 2 (off / 4 + 1) else s
  if !s.bankOn p (bankOf (d * 2 ^ 19 + off)) then (0, s'.bankErr p (bankOf (d * 2 ^ 19 + off)))
  else match ecc with
    | .clean => (s.load (drwAt p d off) 4, s')
    | .corrected _ => (s.load (drwAt p d off) 4, s'.spadCorr p (d * 2 ^ 19 + off))
    | .uncorrectable _ => let f := (s'.spadUncorr p (d * 2 ^ 19 + off)).draw; (f.1.toNat % 2 ^ 32, f.2)

/-- Table 6.12: an access to WIN_DATA: a write of the word given, or a read. -/
def execDrwWinData (r : Req) (p d : Nat) (w : Option Word) (ecc : WordEcc) (s : State) : Result :=
  match w with
  | some w => gated r (drw p d) 0x06C s (drwWinWrite p d ecc w)
  | none => gatedRead r (drw p d) s (drwWinRead p d ecc)

/-- R182: a write of DRW_CTRL. A PAUSE of a running partition's Drawer is taken from partition 0 only. -/
def drwCtrlWrite (r : Req) (p d : Nat) (w : Word) (s : State) : State :=
  if w.bit 0 && !s.partStopped (s.cabKey p) && !r.isPf then s.refuse (drw p d) 0x040
  else (plainWrite (drw p d) 0x040 w s).drwShow p d

/-- R182: a write of DRW_CTRL. -/
def execDrawerPause (r : Req) (p d : Nat) (w : Word) (s : State) : Result := gated r (drw p d) 0x040 s (drwCtrlWrite r p d w)

end Sys2Proof.Machine
end

