-- ==== Sys2Proof/Machine/Hutch.lean ====
section
/-!
DEFINITION. Hutch.lean: the memory stacks (14_memory_stacks.md): requests, ECC, mirrors and isolation, scrub, retirement and the shortfall it causes
(R358, R359), the imbalance monitor and re-layout.
-/

namespace Sys2Proof.Machine

/-- The BUR page of a function. -/
def bur (f : Nat) : Page := ⟨.bur, f⟩

/-! ### Bandwidth and shortfall -/

/-- n_s: the healthy pseudo-channels of a stack. -/
def State.healthyPcs (s : State) (h : Nat) : Nat := ((List.range 32).filter fun p => !(s.rdN (hut0 h) 0x048).testBit p).length

/-- R355: B_s in GB/s; a stack that is fused off has none (R1). -/
def State.stackBw (s : State) (h : Nat) : Nat := if s.fuses.stkEn.testBit h then 31 * s.healthyPcs h else 0

/-- R358: the ratio of one class on one stack, and what is left, both with bandwidths in 1/256 of a byte per second. -/
def classRatio (avail need : Nat) : Nat × Nat :=
  if need * 256 ≤ avail then (256, avail - need * 256) else (avail / need, avail - need * (avail / need))

/-- The partitions that run, 1 to 63. -/
def State.runningParts (s : State) : List Nat := (List.range 64).filter fun k => k ≠ 0 && s.part k = .running

/-- The guarantee of a partition on a stack. -/
def State.guarantee (s : State) (k h : Nat) : Nat := (s.cfg k).g.getD h 0

/-- R358: the ratios of the running partitions on one stack: (partition, f). -/
def State.stackRatios (s : State) (h : Nat) : List (Nat × Nat) :=
  let of (c : Nat) := (s.runningParts.filter fun k => (s.cfg k).cls = c)
  let need (c : Nat) := (of c).foldl (fun a k => a + s.guarantee k h) 0
  let a0 := s.stackBw h * 1000000000 * 248
  let r0 := classRatio a0 (need 0)
  let r1 := classRatio r0.2 (need 1)
  let r2 := classRatio r1.2 (need 2)
  ((of 0).map fun k => (k, r0.1)) ++ ((of 1).map fun k => (k, r1.1)) ++ ((of 2).map fun k => (k, r2.1))

/-- R358: f_k: the minimum over the stacks on which the partition has a guarantee. -/
def State.ratioOf (s : State) (k : Nat) : Nat :=
  (List.range 4).foldl (fun f h =>
    if s.fuses.stkEn.testBit h && s.guarantee k h ≠ 0 then
      (match (s.stackRatios h).find? (fun x => x.1 = k) with | some x => min f x.2 | none => f) else f) 256

/-- R358, R359: one partition's ratio is applied: its MW in every router, and, where it changed, SHORTFALL and EP. -/
def State.applyRatio (s : State) (k f : Nat) : State :=
  let c := s.cfg k
  let mw := c.mw * f / 256
  let s := (List.range 288).foldl (fun s p => (s.settleShare p k).setFld (rtr p) (0x100 + 4 * k) 15 8 mw) s
  if f = c.short then s
  else (((s.setCfg k { c with short := f, ep := (c.ep + 1) % 2 ^ 32 }).wrN (bur k) 0x080 f).raise (bur k) 1).raise pPlc 1

/-- R358, R359: B_s of a stack has changed. -/
def State.shortfall (s : State) : State :=
  let s := (List.range 4).foldl (fun s h => s.setFld pPlc (0x050 + 8 * h) 15 0 (s.stackBw h)) s
  let rs := s.runningParts.map fun k => (k, s.ratioOf k)
  let s := rs.foldl (fun s x => s.applyRatio x.1 x.2) s
  s.setFlag pPlc 0x00C 1 (rs.any fun x => decide (x.2 < 256))

/-! ### Retirement -/

/-- HUT_STATE and BW follow the retired pseudo-channels of a stack that is UP. -/
def State.hutState (s : State) (h : Nat) : State :=
  let n := s.healthyPcs h
  ((s.wrN (hut0 h) 0x044 ((if n = 32 then 2 else 3) + n * 256)).wrN (hut0 h) 0x050 (31 * n)).setFlag (hut0 h) 0x00C 2 (n ≠ 32)

/-- The region numbers of the part. -/
def State.regions (s : State) : List Nat := List.range s.regionCount

/-- R380: mirrored regions of a stack with a retired pseudo-channel show DEGRADED. -/
def State.degrade (s : State) (h : Nat) : State :=
  s.regions.foldl (fun s r => if (s.regCfg h r).bit 31 && (s.regCfg h r).bit 24 then s.setFlag (hut1 h) (0x100 + 8 * r) 25 true else s) s

/-- R380: a mirror region of a stack with a retired pseudo-channel is copied anew into a free region of a stack with none, other than its primary's, where
one exists. A degraded primary keeps its place: the spec does not say how its lines' addresses would follow it (DESIGN CHOICE, log entry 46). -/
def State.reprotect (s : State) (h : Nat) : State :=
  s.regions.foldl (fun s r =>
    let w := s.regCfg h r
    let free (g : Nat) : Option Nat := s.regions.find? fun x => !(s.regCfg g x).bit 31 || (s.regCfg g x).bits 9 6 = 0
    if !w.bit 31 || w.bits 9 6 ≠ 2 then s
    else match (List.range 4).findSome? fun g =>
        if g = h || g = w.bits 18 17 || !s.fuses.stkEn.testBit g || s.healthyPcs g ≠ 32 then none else (free g).map fun x => (g, x) with
      | none => s
      | some (g, x) =>
        let a := w.bits 18 17 * 2 ^ 35 + w.bits 23 19 * 2 ^ 30
        let b := g * 2 ^ 35 + x * 2 ^ 30
        let p := hut1 (w.bits 18 17)
        let s := s.wr (hut1 g) (0x100 + 8 * x) ((w.setBits 16 12 ((s.regCfg g x).bits 16 12)).setBits 11 10 ((s.regCfg g x).bits 11 10))
        let s := (s.setFld p (0x100 + 8 * w.bits 23 19) 18 17 g).setFld p (0x100 + 8 * w.bits 23 19) 23 19 x
        let s := s.wr (hut1 h) (0x100 + 8 * r) ((w.setBits 9 0 0).setBits 31 17 0)
        (s.bytesIn a (a + 2 ^ 30)).foldl (fun s e => s.setByte (b + (e.1 - a)) e.2) (s.clearBytes b (b + 2 ^ 30))) s

/-- R380: a retirement abandons the re-layout of an unmirrored region of its stack, with the old layout kept. -/
def State.relayoutAbandon (s : State) (h : Nat) : State :=
  match (s.hutch h).relayout with
  | some (r, _, _) =>
    if (s.regCfg h r).bit 24 then s
    else ((s.setHutch h { s.hutch h with relayout := none }).setFlag (hut0 h) 0x080 31 false).setFlag (hut0 h) 0x00C 0 false
  | none => s

/-- R379, R380, R358: a pseudo-channel is retired. -/
def State.retirePc (s : State) (h p : Nat) : State :=
  if (s.rdN (hut0 h) 0x048).testBit p then s
  else
    let s := (((s.setFlag (hut0 h) 0x048 p true).err (hut0 h) 3 0x0F3 p).raise (hut0 h) 3).hutState h
    (((s.degrade h).relayoutAbandon h).reprotect h).shortfall.recChange

/-- A write of PC_RETIRE (R379). -/
def pcRetireWrite (h : Nat) (w : Word) (s : State) : State := if w.bit 31 then s.retirePc h (w.bits 4 0) else s

/-- R379: a write of PC_RETIRE. -/
def execPcRetire (r : Req) (h : Nat) (w : Word) (s : State) : Result := gated r (hut0 h) 0x04C s (pcRetireWrite h w)

/-- R379: a pseudo-channel has returned an uncorrectable read; it is retired when AUTO_RETIRE is 1 and RET_THR came within one second. -/
def State.ueRead (s : State) (h p : Nat) : State :=
  let x := s.hutch h
  let ts := (SMap.get (fun _ => []) x.ueTimes p).filter (fun t => decide (s.now < t + 32000000000)) ++ [s.now]
  let s := s.setHutch h { x with ueTimes := SMap.set (fun _ => []) x.ueTimes p ts }
  if s.flag (hut0 h) 0x040 1 && decide (s.fld (hut0 h) 0x06C 7 0 ≤ ts.length) then s.retirePc h p else s

/-! ### Reading a line -/

/-- R376, R377, R380: the controller reads a 64-byte line: its data, or nothing where no good copy exists. -/
def State.readLine (s : State) (a : Nat) (ecc : LineEcc) : Option Nat × State :=
  let h := stackOf a
  let p := s.pcOf a
  let retired := (s.rdN (hut0 h) 0x048).testBit p
  let bad := match ecc with | .uncorrectable _ => true | _ => false
  let mirrorBad := match ecc with | .uncorrectable b => b | _ => false
  if retired || bad then
    let t := if bad && !retired then s.ueRead h p else s
    match s.mirrorAt a with
    | some m =>
      let t := t.countLine m
      if mirrorBad || s.onRetired m then (none, t.uncorrected a)
      else
        let v := s.load m 64
        let t := if retired then t else t.store a 64 v
        (some v, t.mirrorServed a)
    | none => (none, t.uncorrected a)
  else
    let t := match ecc with
      | .onDie => s.incCtr (hut0 h) 0x05C
      | .corrected => ((s.err (hut0 h) 1 0x030 p).incCtr (hut0 h) 0x05C).raise (hut0 h) 0
      | _ => s
    (some (s.load a 64), t)

/-! ### Requests -/

/-- A response of a Hutch port leaves for its requester; beats alternate over the two response planes. -/
def State.respond (s : State) (f : MFlit) (status beat data : Nat) : State :=
  let r : MFlit := ⟨f.src, f.dest, f.key, status, beat, f.tag, f.line, 0, 0, 1 + beat % 2, true, data⟩
  let at' := (memAttach f.dest).getD (0, 0)
  { s with net := s.net ++ [s.newHop at'.1 at'.2 false false (.mem r)] }

/-- A read request of `n` lines is served, line by line (R376, R377). -/
def State.serveRead (s : State) (f : MFlit) (a : Nat) (ecc : List LineEcc) (i : Nat) : Nat → State
  | 0 => s
  | n + 1 =>
    let r := (s.countLine (a + 64 * i)).readLine (a + 64 * i) (ecc.getD i .clean)
    State.serveRead (match r.1 with | some v => r.2.respond f 0 i v | none => r.2.respond f 2 i 0) f a ecc (i + 1) n

/-- The 8-byte words of a line that QMASK selects are written, at every copy (R375, R377). -/
def State.writeLine (s : State) (a qmask data : Nat) : State :=
  (List.range 8).foldl (fun s i => if qmask.testBit i then s.stackPut (a + 8 * i) 8 (data / 2 ^ (64 * i) % 2 ^ 64) else s) s

/-- R371, R374 to R377: a Hutch serves a memory request. `ecc` is how its lines read. Reserved codes of OP and LEN name no request, and have no
effect. Only the SYS requests of a mirror engine, which stands in a Hutch, and of the Bureau reach a mirror region. -/
def execMemoryRequest (f : MFlit) (ecc : List LineEcc) (s : State) : Result :=
  let a := f.line * 64
  let h := stackOf a
  if f.resp || 4 ≤ f.op || 3 ≤ f.len then done s
  else
    let sys := decide (2 ≤ f.op) && ((decide (0x140 ≤ f.src) && decide (f.src < 0x160)) || f.src = 0x161)
    let lines := if f.op % 2 = 0 then 2 ^ f.len else 1
    match (List.range lines).findSome? (fun i => s.stackDenied f.key (a + 64 * i) sys) with
    | some code => done ((s.isolate f.key a code).respond f 3 0 0)
    | none =>
      if f.op % 2 = 0 then done (s.serveRead f a ecc 0 lines)
      else
        let s := (s.countCopies a).writeLine a f.qmask f.data
        if s.fuses.stkEn.testBit h && (f.line + 1) % 2 ^ f.len = 0 then done (s.respond f 1 0 0) else done s

/-! ### Scrub -/

/-- The region whose data a slot of a stack holds, where it is allotted. -/
def State.slotRegion (s : State) (h slot : Nat) : Option Nat :=
  s.regions.find? fun r => (s.regCfg h r).bits 16 12 = slot && (s.regCfg h r).bit 31 && (s.regCfg h r).bits 9 6 ≠ 0

/-- The next allotted slot at or after a slot, wrapping. -/
def State.nextSlot (s : State) (h slot : Nat) : Option (Nat × Nat) :=
  (List.range 24).findSome? fun i => (s.slotRegion h ((slot + i) % 24)).map fun r => ((slot + i) % 24, r)

/-- R378: the scrubber reads the next line of an allotted region, in slot and line order, and handles its errors. -/
def execScrubRead (h : Nat) (ecc : LineEcc) (s : State) : Result :=
  if !s.flag (hut0 h) 0x040 0 then done s
  else
    let slot := s.fld (hut0 h) 0x058 4 0
    match s.nextSlot h slot with
    | none => done s
    | some (sl, r) =>
      let line := if sl = slot then s.fld (hut0 h) 0x058 28 5 else 0
      let a := h * 2 ^ 35 + r * 2 ^ 30 + line * 64
      let t := ((s.countLine a).readLine a ecc).2
      let next := if line + 1 = 2 ^ 24 then ((s.nextSlot h ((sl + 1) % 24)).map (·.1)).getD sl else sl + (line + 1) * 32
      done (t.wrN (hut0 h) 0x058 next)

/-! ### Re-layout -/

/-- R384: may region `r` be re-laid into slot `f`? -/
def State.relayoutOk (s : State) (h r f : Nat) : Bool :=
  (s.hutch h).relayout.isNone && decide (r < s.regionCount) && (s.regCfg h r).bit 31 && (s.regCfg h r).bits 9 6 ≠ 0 &&
    s.regions.any (fun x => (s.regCfg h x).bits 16 12 = f) && (s.slotRegion h f).isNone

/-- R383: a re-layout of region `r` into slot `f` under a function and key starts. -/
def State.relayoutStart (s : State) (h r f fn : Nat) (key : Word) : State :=
  let s := s.setHutch h { s.hutch h with relayout := some (r, f, fn), newKey := key }
  ((s.wrN (hut0 h) 0x084 0).setFlag (hut0 h) 0x080 31 true).setFlag (hut0 h) 0x00C 0 true

/-- A write of RELAYOUT (R383, R384). -/
def relayoutWrite (h : Nat) (w : Word) (s : State) : State :=
  let r := w.bits 4 0
  let t := s.setFld (hut0 h) 0x080 11 0 (w.bits 11 0)
  if (s.hutch h).relayout.isSome then s.err (hut0 h) 5 0x0F4 r
  else if !w.bit 30 then t
  else
    if s.relayoutOk h r (w.bits 9 5) then t.relayoutStart h r (w.bits 9 5) (w.bits 11 10) (s.rd (hut1 h) (0x104 + 8 * r))
    else s.err (hut0 h) 5 0x0F4 r

/-- R383: a write of RELAYOUT. -/
def execRelayout (r : Req) (h : Nat) (w : Word) (s : State) : Result := gated r (hut0 h) 0x080 s (relayoutWrite h w)

/-- R382: the engine answers an alarm by re-laying the region out with the next function into the free region of lowest number, where it may. Keys
drawn afresh are free values. -/
def State.autoRelayout (s : State) (h r : Nat) : State :=
  match s.regions.find? (fun x => !(s.regCfg h x).bit 31 || (s.regCfg h x).bits 9 6 = 0) with
  | none => s
  | some x =>
    if (s.hutch h).relayout.isSome then s
    else
      let fn := (s.regCfg h r).bits 11 10
      let f := (s.regCfg h x).bits 16 12
      if fn = 2 then
        let d := s.draw
        let s := d.2.setFld (hut0 h) 0x080 11 0 (r + f * 32 + 2 * 1024)
        s.relayoutStart h r f 2 (BitVec.ofNat 32 (d.1.toNat % 2 ^ 31))
      else
        let n := if fn = 1 then 2 else 1
        (s.setFld (hut0 h) 0x080 11 0 (r + f * 32 + n * 1024)).relayoutStart h r f n (s.rd (hut1 h) (0x104 + 8 * r))

/-- R381, R382: a pseudo-channel has been hot for IMB_HOLD judged windows: the alarm; for a region in re-layout it waits until that completes. -/
def State.imbAlarm (s : State) (h r p : Nat) : State :=
  if (s.hutch h).relayout.any (fun x => x.1 = r) then s.setHutch h { s.hutch h with alarm := some (r, p) }
  else
    let s := ((s.wrN (hut0 h) 0x07C (r + p * 32 + 2 ^ 31)).setFlag (hut0 h) 0x00C 1 true).raise (hut0 h) 4
    if s.flag pPlc 0x040 0 then s.autoRelayout h r else s

/-- R383: a mirror is re-laid out with its primary: it takes the new function, in the slot of the free region of lowest number of its own stack where one
is free (DESIGN CHOICE, log entry 46). `w` is the primary's REG_CFG. -/
def State.mirrorRelaid (s : State) (w : Word) (fn : Nat) (key : Word) : State :=
  let g := w.bits 18 17
  let m := w.bits 23 19
  let old := (s.regCfg g m).bits 16 12
  let s := match s.regions.find? (fun x => !(s.regCfg g x).bit 31 || (s.regCfg g x).bits 9 6 = 0) with
    | some x => (s.setFld (hut1 g) (0x100 + 8 * m) 16 12 ((s.regCfg g x).bits 16 12)).setFld (hut1 g) (0x100 + 8 * x) 16 12 old
    | none => s
  (s.setFld (hut1 g) (0x100 + 8 * m) 11 10 fn).wr (hut1 g) (0x104 + 8 * m) key

/-- R383: the watermark has reached the end: the slots swap, the new function holds, and RELAYOUT_DONE is raised. -/
def State.relayoutEnd (s : State) (h r f fn : Nat) : State :=
  let old := (s.regCfg h r).bits 16 12
  let s := match s.regions.find? (fun x => (s.regCfg h x).bits 16 12 = f) with
    | some x => s.setFld (hut1 h) (0x100 + 8 * x) 16 12 old
    | none => s
  let s := (s.setFld (hut1 h) (0x100 + 8 * r) 16 12 f).setFld (hut1 h) (0x100 + 8 * r) 11 10 fn
  let s := if (s.regCfg h r).bit 24 then s.mirrorRelaid (s.regCfg h r) fn (s.hutch h).newKey else s
  let s := (s.wr (hut1 h) (0x104 + 8 * r) (s.hutch h).newKey).setHutch h { s.hutch h with relayout := none }
  let s := ((s.setFlag (hut0 h) 0x080 31 false).setFlag (hut0 h) 0x00C 0 false).raise (hut0 h) 5
  match (s.hutch h).alarm with
  | some x => (s.setHutch h { s.hutch h with alarm := none }).imbAlarm h x.1 x.2
  | none => s

/-- R383: the re-layout engine copies line W, and the watermark advances past it. -/
def execRelayoutLineCopy (h : Nat) (s : State) : Result :=
  match (s.hutch h).relayout with
  | none => done s
  | some (r, f, fn) =>
    let w := s.fld (hut0 h) 0x084 24 0 + 1
    let a := h * 2 ^ 35 + r * 2 ^ 30 + (w - 1) * 64
    let s := ((s.countCopies a).wrN (hut0 h) 0x084 w).countCopies a
    if w = 2 ^ 24 then done (s.relayoutEnd h r f fn) else done s

/-! ### The imbalance monitor -/

/-- R381: one region is judged over its pseudo-channels. -/
def State.judge (s : State) (h r : Nat) (counts : SMap Nat) : State :=
  let c (p : Nat) := SMap.get (fun _ => 0) counts (32 * r + p)
  let sum := (List.range 32).foldl (fun a p => a + c p) 0
  let judged := decide (s.rdN (hut0 h) 0x078 ≤ sum)
  let n := s.healthyPcs h
  (List.range 32).foldl (fun s p =>
    let x := s.hutch h
    let run := if judged && decide (n * c p > 4 * sum) then SMap.get (fun _ => 0) x.hot (32 * r + p) + 1 else 0
    let hit := run ≠ 0 && decide (s.fld (hut0 h) 0x074 15 0 ≤ run)
    let s := s.setHutch h { x with hot := SMap.set (fun _ => 0) x.hot (32 * r + p) (if hit then 0 else run) }
    if hit then s.imbAlarm h r p else s) s

/-- R381: a window that has ended is judged over every region; a window between in which nothing was judged resets the runs. -/
def State.judgeWindow (s : State) (h : Nat) (e : Nat × SMap Nat) : State :=
  let x := s.hutch h
  let s := s.setHutch h { x with hot := if x.judged + 1 < e.1 then [] else x.hot, judged := e.1 }
  s.regions.foldl (fun s r => s.judge h r e.2) s

/-- R381: imbalance windows of a Hutch have ended: PC_LOAD shows the counts of the last, and every region is judged in each. While device time stands in
the window counted in and none before it waits, none ends. -/
def execImbalanceWindow (h : Nat) (s : State) : Result :=
  let x := s.hutch h
  let w := s.imbWindow h
  if w = x.window && x.past.isEmpty then done s
  else
    let l := if w = x.window then x.past else x.past ++ [(x.window, x.counts)]
    let s := s.setHutch h { x with counts := if w = x.window then x.counts else [], past := [], window := w }
    let last := ((l.find? fun e => e.1 + 1 = w).map (·.2)).getD []
    let s := (List.range 32).foldl (fun s p =>
      s.wrN (hut1 h) (0x300 + 4 * p) ((last.filter fun e => e.1 % 32 = p).foldl (fun a e => a + e.2) 0)) s
    let s := l.foldl (fun s e => s.judgeWindow h e) s
    let y := s.hutch h
    done (s.setHutch h { y with hot := if y.judged + 1 < w then [] else y.hot, judged := w - 1 })

end Sys2Proof.Machine
end

