-- ==== Sys2Proof/Machine/Expander.lean ====
section
/-!
DEFINITION. Expander.lean: the synapse expander of 08_synapses.md and 09_learning.md: the row cache, the walk (R218), the plastic hold, the learning
step (R246), creation (R252), relocation, rewards and the consolidation marker.
-/

namespace Sys2Proof.Machine

/-! ### The structures in the stacks -/

/-- The LINE of the axon directory. -/
def State.dirLine (s : State) (p : Nat) : Nat := s.fld (xpnd p) 0x050 30 0

/-- The line that holds an axon's directory entry (Table 8.1). -/
def State.dirLineOf (s : State) (p axon : Nat) : Nat := s.dirLine p + axon / 8

/-- The directory entry of an axon. -/
def State.dirEntry (s : State) (p axon : Nat) : Nat := s.load (s.dirLineOf p axon * 64 + 8 * (axon % 8)) 8

/-- First line of the row. -/
def dirRow (d : Nat) : Nat := nb d 30 0
/-- Row length in lines. -/
def dirLen (d : Nat) : Nat := nb d 42 31
/-- The row is plastic. -/
def dirPlastic (d : Nat) : Bool := d.testBit 43
/-- The axon has a row. -/
def dirValid (d : Nat) : Bool := d.testBit 63

/-- Table 8.3: the header of a row. -/
structure RowHdr where
  axon    : Nat
  nent    : Nat
  nwords  : Nat
  gsize   : Nat
  cbbase  : Nat
  base    : Nat
  plastic : Bool
  remote  : Bool
  reloc   : Bool
  vacant  : Nat
  cwbase  : Nat
  cwlog   : Nat
  deriving DecidableEq, Repr

/-- The fields of a 128-bit header. -/
def rowHdrOf (h : Nat) : RowHdr :=
  ⟨nb h 127 112, nb h 111 99, nb h 98 85, nb h 84 83, nb h 82 63, nb h 62 48, h.testBit 47, h.testBit 46, h.testBit 45, nb h 44 32, nb h 31 17,
    nb h 16 13⟩

/-- The header of the row at a line. -/
def State.rowHdr (s : State) (line : Nat) : RowHdr := rowHdrOf (s.load (line * 64) 16)

/-- R208: the offset T of the tags. -/
def rowTagAt (nwords : Nat) : Nat := 16 + 16 * ((nwords + 7) / 8)

/-- R208: the lines of a row. -/
def rowLines (nwords nent : Nat) (plastic : Bool) : Nat := (rowTagAt nwords + (if plastic then 2 * nent else 0) + 63) / 64

/-- An entry of a row (R209, R210): its index, its word's index, the word, its target and the anchor in force. -/
structure RowEnt where
  j      : Nat
  w      : Nat
  word   : Nat
  tgt    : Nat
  anchor : Nat
  deriving DecidableEq, Repr

/-- TD of an entry. -/
def RowEnt.td (e : RowEnt) : Nat := e.word % 64
/-- DCODE of an entry. -/
def RowEnt.dcode (e : RowEnt) : Nat := e.word / 64 % 64
/-- CODE of an entry. -/
def RowEnt.code (e : RowEnt) : Nat := e.word / 4096 % 16

/-- R210: the entries of a row's words; `pend` is an entry word whose escape word comes next. -/
def rowEntsFrom : List Nat → Nat → Nat → Nat → Option Nat → List RowEnt
  | [], _, _, _, _ => []
  | x :: xs, _, j, w, some e => ⟨j, w - 1, e, x % 2 ^ 15, x % 2 ^ 15⟩ :: rowEntsFrom xs (x % 2 ^ 15) (j + 1) (w + 1) none
  | x :: xs, a, j, w, none =>
    if x % 64 = 63 then rowEntsFrom xs a j (w + 1) (some x) else ⟨j, w, x, a + x % 64, a⟩ :: rowEntsFrom xs a (j + 1) (w + 1) none

/-- The words of a row. -/
def State.rowWords (s : State) (line nwords : Nat) : List Nat := (List.range nwords).map fun w => s.load (line * 64 + 16 + 2 * w) 2

/-- The entries of the row at a line. -/
def State.rowEnts (s : State) (line : Nat) : List RowEnt :=
  let h := s.rowHdr line
  (rowEntsFrom (s.rowWords line h.nwords) h.base 0 0 none).take h.nent

/-- R218: does the row fit its directory entry and the layout of R208? -/
def rowFits (h : RowHdr) (ents : List RowEnt) (d axon : Nat) : Bool :=
  h.axon = axon && decide (0 < h.nent) && h.gsize ≠ 3 && ents.length = h.nent && dirLen d = rowLines h.nwords h.nent h.plastic &&
    h.nwords = h.nent + (ents.filter (fun e => e.td = 63)).length

/-- R208: are the header's reserved bits, the bytes between the words and the tags, and those after the last part of a row zero? -/
def State.rowPad (s : State) (line : Nat) : Bool :=
  let h := s.rowHdr line
  let w := 16 + 2 * h.nwords
  let t := rowTagAt h.nwords
  let z := t + (if h.plastic then 2 * h.nent else 0)
  s.load (line * 64) 16 % 2 ^ 13 = 0 && s.load (line * 64 + w) (t - w) = 0 && s.load (line * 64 + z) (64 * rowLines h.nwords h.nent h.plastic - z) = 0

/-- The LINE of a codebook record. -/
def State.cbLineOf (s : State) (p i : Nat) : Nat := s.fld (xpnd p) 0x054 30 0 + i / 2

/-- A codebook record (Table 8.5), as a 32-byte number. -/
def State.codebook (s : State) (p i : Nat) : Nat := s.load (s.fld (xpnd p) 0x054 30 0 * 64 + 32 * i) 32

/-- CB[c] of a record. -/
def cbVal (r c : Nat) : Int := ofBits (byteOf r c) 8
/-- ZC of a record. -/
def cbZero (r : Nat) : Nat := byteOf r 18 % 16

/-- R216: the product of a code. -/
def product (r a c : Nat) : Int := cbVal r c * a * byteOf r 16

/-- R216: the charge of a code. -/
def charge (r a c : Nat) : Int := rneI (product r a c) (-(ofBits (byteOf r 17 % 64) 6))

/-- R215: the delay of a delay code. -/
def State.dtab (s : State) (p i : Nat) : Nat := if i = 63 then 0 else s.rdN (xpnd p) (0x100 + 4 * i)

/-- The group of an entry. -/
def rowGroup (h : RowHdr) (j : Nat) : Nat := j / (32 * 2 ^ h.gsize)

/-! ### The learning block -/

/-- R240: the first byte of the learning block. -/
def State.learnAt (s : State) (p : Nat) : Nat := (s.dirLine p + 8192) * 64

/-- Learning rule record of a profile (Table 9.2), as a 512-bit number. -/
def State.rule (s : State) (p i : Nat) : Nat := s.load (s.learnAt p + 64 * i) 64

/-- Learning decay table m. -/
def State.etab (s : State) (p m : Nat) : List Nat := (List.range 48).map fun b => s.load (s.learnAt p + 64 * (17 + 3 * m) + 4 * b) 4 % 2 ^ 25

/-- VALID of a rule. -/
def ruleValid (r : Nat) : Bool := r.testBit 128

/-! ### The row cache -/

/-- R230: a line enters the cache in the most recent place; an unpinned line of its full set makes room, the least recently used. -/
def cacheTouch (pinned cache : List Nat) (l : Nat) : List Nat :=
  let rest := cache.filter (· ≠ l)
  let set := rest.filter fun x => Config.rowSet x = Config.rowSet l
  if set.length < 16 then l :: rest
  else match (set.reverse.find? fun x => !pinned.contains x) with
    | some v => l :: rest.filter (· ≠ v)
    | none => rest

/-- The lines of a list that are in the cache are touched. -/
def State.cacheUse (s : State) (p : Nat) (ls : List Nat) : State :=
  let x := s.xp p
  s.setXp p { x with cache := ls.foldl (cacheTouch x.pinned) x.cache }

/-- R230: a structure's lines are looked up: the hits and misses are counted, and the missing lines are answered. -/
def State.lookupLines (s : State) (p : Nat) (ls : List Nat) : List Nat × State :=
  let miss := ls.filter fun l => !(s.xp p).cache.contains l
  (miss, (((s.addCtr (xpnd p) 0x07C (ls.length - miss.length)).addCtr (xpnd p) 0x080 miss.length)).cacheUse p (ls.filter fun l => !miss.contains l))

/-- The row lines of a directory entry. -/
def dirRowLines (d : Nat) : List Nat := (List.range (dirLen d)).map (dirRow d + ·)

/-- The codebook lines of a row. -/
def State.rowCbLines (s : State) (p : Nat) (h : RowHdr) : List Nat :=
  ((List.range ((h.nent + 32 * 2 ^ h.gsize - 1) / (32 * 2 ^ h.gsize))).map fun g => s.cbLineOf p (h.cbbase + g)).eraseDups

/-- The profile of a neuron of the Cabinet. -/
def State.profileOf (s : State) (p n : Nat) : Nat := recProfile (s.nrec p (n / 8192 % 4) (n % 8192))

/-- The profiles whose rules a plastic row uses. -/
def State.rowProfiles (s : State) (p line : Nat) : List Nat :=
  (((s.rowEnts line).filter fun e => e.dcode ≠ 63 && decide (e.tgt < 32768)).map fun e => s.profileOf p e.tgt).eraseDups

/-- The lines of a structure of a walk, by its stage (Wait.stage). -/
def State.stageLines (s : State) (p : Nat) (ev : Evt) (stage : Nat) : List Nat :=
  let d := s.dirEntry p ev.axon
  if stage = 0 then [s.dirLineOf p ev.axon]
  else if stage = 1 then dirRowLines d
  else if stage = 2 then s.rowCbLines p (s.rowHdr (dirRow d))
  else if !dirPlastic d then []
  else
    let ps := s.rowProfiles p (dirRow d)
    if stage = 3 then ps.map fun i => s.dirLine p + 8192 + i
    else (ps.flatMap fun i =>
      let r := s.rule p i
      ([nb r 60 56, nb r 68 64, nb r 76 72].flatMap fun m => (List.range 3).map fun t => s.dirLine p + 8192 + 17 + 3 * m + t)).eraseDups

/-! ### Checks, errors and counters -/

/-- R218, R220, R227: an error of a row. -/
def State.rowErr (s : State) (p code loc : Nat) : State := (s.err (xpnd p) 3 code loc).raise (xpnd p) 1

/-- DELIV counts deliveries in 48 bits. -/
def State.addDeliv (s : State) (p n : Nat) : State :=
  if s.ctrFrozen (xpnd p) then s else s.wr64 (xpnd p) 0x074 (min (s.rd64 (xpnd p) 0x074 + n) (2 ^ 48 - 1))

/-- Table 9.5: a learning counter goes up by one. -/
def State.stat (s : State) (p i : Nat) : State :=
  let x := s.xp p
  s.setXp p { x with stats := x.stats.setIfInBounds i (min (x.stats[i]?.getD 0 + 1) (2 ^ 32 - 1)) }

/-- R256: the statistics line is written. -/
def State.statsWrite (s : State) (p : Nat) : State :=
  (List.range 11).foldl (fun s i => s.ownPut (s.cabKey p) (s.learnAt p + 64 * 16 + 4 * i) 4 ((s.xp p).stats[i]?.getD 0)) s

/-- R256: the counters as the statistics line holds them. -/
def State.statsLoad (s : State) (p : Nat) : State :=
  s.setXp p { s.xp p with stats := Vector.ofFn fun i : Fin 11 => s.load (s.learnAt p + 64 * 16 + 4 * i) 4 }

/-- Table 8.12: HOLD_MAX follows the hold. -/
def State.holdMax (s : State) (p : Nat) : State := s.wrN (xpnd p) 0x08C (max (s.rdN (xpnd p) 0x08C) (s.xp p).hold.length)

/-- R222: is the plastic hold full? -/
def Xp.holdFull (x : Xp) : Bool := decide (1024 ≤ x.hold.length)

/-- The key order of R199: time, source, type, and for rewards the position in the reward sequence. -/
def evtBefore (a b : Evt) : Bool :=
  if a.time ≠ b.time then decide (a.time < b.time)
  else if a.src ≠ b.src then decide (a.src < b.src)
  else if a.type ≠ b.type then decide (a.type < b.type)
  else decide (a.itv ≠ b.itv) && serialGe b.itv a.itv 16

/-- The first event of the plastic hold in the order of R199. -/
def firstOf : List Evt → Option Evt
  | [] => none
  | e :: es => match firstOf es with | some f => if evtBefore f e then some f else some e | none => some e

/-! ### The walk -/

/-- R232: the error check of a cached line. -/
def State.cacheEcc (s : State) (p : Nat) : WordEcc → State
  | .clean => s
  | .corrected off => (s.err (xpnd p) 1 0x030 off).raise (xpnd p) 2
  | .uncorrectable off => ((s.err (xpnd p) 2 0x031 off).raise (xpnd p) 3).incCtr (xpnd p) 0x080

/-- R233: are the lines that hold an entry's words, or its group's codebook, good? -/
def State.entGood (s : State) (p line : Nat) (h : RowHdr) (bad : List Nat) (e : RowEnt) : Bool :=
  !bad.contains (line + (16 + 2 * e.w) / 64) && !(e.td = 63 && bad.contains (line + (18 + 2 * e.w) / 64)) &&
    !bad.contains (s.cbLineOf p (h.cbbase + rowGroup h e.j))

/-- R218: the delivery of one entry, or the skipped entry of R220. -/
def State.deliverEnt (s : State) (p : Nat) (ev : Evt) (h : RowHdr) (g pass : Nat) (e : RowEnt) : State :=
  if 32767 < e.tgt then s.rowErr p 0x072 e.j
  else if e.dcode = 63 then s
  else
    let a := if ev.type = 0xF then 1 else ev.pay
    let dv : Dlv := ⟨e.tgt, ev.time + s.dtab p e.dcode, charge (s.codebook p (h.cbbase + rowGroup h e.j)) a e.code, ev.time, ev.remote, g, pass⟩
    (s.setXp p { s.xp p with dlv := (s.xp p).dlv ++ [dv] }).addDeliv p 1

/-- R218: the deliveries of a walk, in the order of synapse index. -/
def State.deliverRow (s : State) (p : Nat) (ev : Evt) (h : RowHdr) (ents : List RowEnt) (bad : List Nat) (line : Nat) : State :=
  (ents.filter (s.entGood p line h bad)).foldl (fun s e => s.deliverEnt p ev h ev.g ev.pass e) (s.incCtr (xpnd p) 0x070)

/-! ### Learning -/

/-- A learning write (R230): through the cache to the stack, with its undo entries. -/
def State.learnPut (s : State) (p a n v : Nat) : State := (s.stackWrite p (s.cabKey p) a n v).2

/-- R179, R286: can the post read of a neuron be made: the banks of its Drawer are ON, and the store's check does not stop it? -/
def State.postOk (s : State) (p : Nat) (ecc : StoreEcc) (n : Nat) : Bool := s.drwBanks p (n / 8192 % 4) && !storeStops ecc n

/-- R242, R243: the post read of a neuron at a time: its profile, PLASTIC_POST and its last spike at or before the time. -/
def State.postRead (s : State) (p n t : Nat) : Nat × Bool × Option Int :=
  let d := n / 8192 % 4
  let i := n % 8192
  let r := s.nrec p d i
  (recProfile r, recPlastic r, ((s.spikesOf p d i t).filter fun x => decide (x ≤ (t : Int))).foldl (fun (m : Option Int) x =>
    match m with | some y => some (max x y) | none => some x) none)

/-- R245: the 6-bit log magnitude. -/
def lg6 (x : Nat) : Nat := 4 * x.log2 + (x * 4 / 2 ^ x.log2 - 4)
/-- R245: the magnitude of a code. -/
def lg6Value (c : Nat) : Nat := (4 + c % 4) * 2 ^ (c / 4) / 4
/-- R245: a rebuilt tag time; below zero never arises in a run and reads as zero. -/
def tagTime (tag t g : Nat) : Nat :=
  let u := t / 2 ^ g
  (u - (u + 256 - tag % 256) % 256) * 2 ^ g

/-- R251: the generator. -/
def prng16 (cab axon j t : Nat) : Nat :=
  let z := ((cab % 256 * 2 ^ 29 + axon % 65536 * 2 ^ 13 + j % 8192) ^^^ t % 2 ^ 64) % 2 ^ 64
  let z := (z + 0x9E3779B97F4A7C15) % 2 ^ 64
  let z := (z ^^^ z / 2 ^ 30) * 0xBF58476D1CE4E5B9 % 2 ^ 64
  let z := (z ^^^ z / 2 ^ 27) * 0x94D049BB133111EB % 2 ^ 64
  (z ^^^ z / 2 ^ 31) / 2 ^ 48

/-- R246: consolidation: the new code and whether it was clamped. -/
def State.consolidate (s : State) (p : Nat) (code tag tt t rl j axon : Nat) : Nat × Bool :=
  let m : Int := if tag.testBit 14 then -(lg6Value (nb tag 13 8) : Int) else lg6Value (nb tag 13 8)
  let tab := s.etab p (nb rl 76 72)
  let acc : Int := (s.xp p).history.foldl (fun a r => if tt < r.time then a + mul24 (r.value * m) (decay (r.time - tt) tab) else a) 0
  if acc = 0 then (code, false)
  else
    let y := rne (acc * nb rl 47 32) (nb rl 53 48)
    let n := y.fdiv 65536
    let n := if y.fmod 65536 > prng16 (s.cabLog p) axon j t then n + 1 else n
    let c := (code : Int) + n
    ((min (max c 0) 15).toNat, decide (c < 0) || decide (15 < c))

/-- R246: has an idle entry reached its prune age? -/
def agedTag (tag t iv rl : Nat) : Bool :=
  let age := nb rl 108 96
  iv = 0xFFFF || decide (age * 2 ^ nb rl 92 88 ≤ lg16Value iv) || decide (age ≤ (t / 2 ^ nb rl 92 88 + 2 ^ 14 - tag % 2 ^ 14) % 2 ^ 14)

/-- R246: the pairing of an event with a neuron's last spike. -/
def State.pairing (s : State) (p rl t : Nat) (tp : Option Int) (ts : Option Int) : Int :=
  match ts with
  | none => 0
  | some x =>
    let fresh := match tp with | none => true | some y => decide (y < x)
    if !fresh then 0
    else
      (match tp with | some y => mul24 (nb rl 15 0) (decay (x - y).toNat (s.etab p (nb rl 60 56))) | none => 0) -
        (if x < t then mul24 (nb rl 31 16) (decay (t - x).toNat (s.etab p (nb rl 68 64))) else 0)

/-- The place of a word and of a tag of a row, in bytes. -/
def wordAt (line w : Nat) : Nat := line * 64 + 16 + 2 * w
/-- The place of a tag. -/
def tagAt (line nwords j : Nat) : Nat := line * 64 + rowTagAt nwords + 2 * j

/-- R234: the copy in progress of a row, if its relocation engine has one: the new row's line. -/
def State.relocLine (s : State) (p axon : Nat) : Option Nat :=
  ((s.xp p).relocs.find? fun r => r.axon = axon && r.grown).bind fun r => r.copy.map (·.1)

/-- A word of a row is written, and the corresponding word of a relocation copy (R234). -/
def State.putWord (s : State) (p axon line w v : Nat) : State :=
  let s := s.learnPut p (wordAt line w) 2 v
  match s.relocLine p axon with | some l => s.learnPut p (wordAt l w) 2 v | none => s

/-- A tag of a row is written, and the corresponding tag of a relocation copy. -/
def State.putTag (s : State) (p axon line j v : Nat) : State :=
  let s := s.learnPut p (tagAt line (s.rowHdr line).nwords j) 2 v
  match s.relocLine p axon with | some l => s.learnPut p (tagAt l (s.rowHdr l).nwords j) 2 v | none => s

/-- VACANT of a row's header goes up or down by one, in the row and in a relocation copy. -/
def State.addVacant (s : State) (p axon line : Nat) (up : Bool) : State :=
  let one (s : State) (l : Nat) : State :=
    let h := s.load (l * 64) 16
    let v := if up then nb h 44 32 + 1 else nb h 44 32 - 1
    s.learnPut p (l * 64) 8 ((h - nb h 44 32 * 2 ^ 32 + v % 8192 * 2 ^ 32) % 2 ^ 64)
  let s := one s line
  match s.relocLine p axon with | some l => one s l | none => s

/-- Step 1 of the learning step: a valid tag is consolidated, or expires when it is stale: the code, the tag that is left, and the state. -/
def State.learnTag (s : State) (p : Nat) (ev : Evt) (e : RowEnt) (rl tag : Nat) : Nat × Nat × State :=
  if !tag.testBit 15 then (e.code, tag, s)
  else if ev.itv = 0xFFFF || decide (2 ^ (nb rl 84 80 + 7) ≤ lg16Value ev.itv) then (e.code, 0, s.stat p 2)
  else
    let c := s.consolidate p e.code tag (tagTime tag ev.time (nb rl 84 80)) ev.time rl e.j ev.axon
    (c.1, 0, (if c.2 then s.stat p 3 else s).stat p 1)

/-- The entry's code and tag are written where they have changed. -/
def State.learnPutEnt (s : State) (p : Nat) (ev : Evt) (line : Nat) (e : RowEnt) (code tag tag' : Nat) : State :=
  let s := if code = e.code then s else s.putWord p ev.axon line e.w (e.word % 4096 + code * 4096)
  if tag' = tag then s else s.putTag p ev.axon line e.j tag'

/-- R246: the learning step of one entry. -/
def State.learn (s : State) (p : Nat) (ev : Evt) (h : RowHdr) (line : Nat) (e : RowEnt) : State :=
  if e.dcode = 63 || decide (32767 < e.tgt) then s
  else
    let (prof, plastic, ts) := s.postRead p e.tgt ev.time
    let rl := s.rule p prof
    if !plastic || !ruleValid rl then s
    else
      let t := ev.time
      let tag := s.load (tagAt line h.nwords e.j) 2
      let o := s.learnTag p ev e rl tag
      let tp : Option Int := if ev.itv = 0xFFFF then none else some ((t : Int) - lg16Value ev.itv)
      let x := o.2.2.pairing p rl t tp ts
      if x ≠ 0 then
        (o.2.2.stat p 0).learnPutEnt p ev line e o.1 tag (2 ^ 15 + b2n (decide (x < 0)) * 2 ^ 14 + lg6 x.natAbs * 2 ^ 8 + t / 2 ^ nb rl 84 80 % 256)
      else if o.1 ≠ cbZero (o.2.2.codebook p (h.cbbase + rowGroup h e.j)) then o.2.2.learnPutEnt p ev line e o.1 tag 0
      else if !(o.2.1.testBit 14 && !o.2.1.testBit 15) then o.2.2.learnPutEnt p ev line e o.1 tag (2 ^ 14 + t / 2 ^ nb rl 92 88 % 2 ^ 14)
      else if rl.testBit 129 && e.td ≠ 63 && agedTag o.2.1 t ev.itv rl then
        (((o.2.2.putWord p ev.axon line e.w (63 * 64 + e.td)).putTag p ev.axon line e.j 0).addVacant p ev.axon line true).stat p 4
      else o.2.2.learnPutEnt p ev line e o.1 tag o.2.1

/-- R252: the candidate that an event draws on a row. -/
def State.candidate (s : State) (p : Nat) (ev : Evt) (h : RowHdr) : Nat := h.cwbase + prng16 (s.cabLog p) ev.axon 8191 ev.time % 2 ^ h.cwlog

/-- R252: after learning, one candidate is drawn and handled. -/
def State.create (s : State) (p : Nat) (ev : Evt) (line : Nat) : State :=
  let h := s.rowHdr line
  if h.cwlog = 0 then s
  else
    let c := s.candidate p ev h
    let (prof, plastic, ts) := s.postRead p c ev.time
    let rl := s.rule p prof
    let ents := s.rowEnts line
    let near := match ts with | some x => decide ((ev.time : Int) - x ≤ nb rl 191 160) | none => false
    if !plastic || !ruleValid rl || !rl.testBit 130 || !near || ents.any (fun e => e.dcode ≠ 63 && e.tgt = c) then s
    else if 0 < h.vacant then
      match ents.find? (fun e => e.dcode = 63 && decide (e.anchor ≤ c) && decide (c ≤ e.anchor + 62)) with
      | some e =>
        let w := nb rl 123 120 * 4096 + nb rl 117 112 * 64 + (c - e.anchor)
        ((s.putWord p ev.axon line e.w w).addVacant p ev.axon line false).stat p 5
      | none => s.stat p 6
    else
      let s := s.stat p 7
      if h.reloc then s
      else
        let b := s.load (line * 64) 8
        let s := s.learnPut p (line * 64) 8 (b + 2 ^ 45)
        let x := s.xp p
        s.setXp p { x with relocs := x.relocs ++ [⟨ev.axon, ev.time + s.fld (xpnd p) 0x06C 23 0, none, false, false⟩] }

/-- R242: the neurons whose post reads a walk makes. -/
def State.postReads (s : State) (p : Nat) (ev : Evt) (h : RowHdr) (ents : List RowEnt) : List Nat :=
  ((ents.filter fun e => e.dcode ≠ 63 && decide (e.tgt < 32768)).map (·.tgt)) ++ (if h.cwlog = 0 then [] else [s.candidate p ev h])

/-- R246, R252: the learning of a walk: the learning steps of its good entries, then creation. A neuron whose post read is not made takes part in
neither (R179, R286). -/
def State.learnRow (s : State) (p : Nat) (ev : Evt) (h : RowHdr) (ents : List RowEnt) (line : Nat) (post : StoreEcc) : State :=
  let s := s.storeErrs p post (s.postReads p ev h ents)
  let s := (ents.filter fun e => s.postOk p post e.tgt).foldl (fun s e => s.learn p ev h line e) s
  if s.postOk p post (s.candidate p ev h) then s.create p ev line else s

/-- R218, R219: a whole walk: every delivery, then, for a plastic row, the learning steps and creation. -/
def State.walk (s : State) (p : Nat) (ev : Evt) (bad : List Nat) (post : StoreEcc) : State :=
  let d := s.dirEntry p ev.axon
  let line := dirRow d
  let h := s.rowHdr line
  let ents := s.rowEnts line
  if !rowFits h ents d ev.axon || !s.rowPad line then (s.rowErr p 0x070 ev.axon).report (xpnd p) 0x070
  else
    let s := s.deliverRow p ev h ents bad line
    if h.plastic then
      s.learnRow p ev h (ents.filter fun e => s.entGood p line h bad e && !bad.contains (line + (rowTagAt h.nwords + 2 * e.j) / 64)) line post
    else s

/-- R233: a line of the walk came back UNCORRECTED. -/
def State.lineFailed (s : State) (p axon : Nat) : State := ((s.err (xpnd p) 2 0x032 axon).raise (xpnd p) 3).report (xpnd p) 0x032

/-- R230: the lines requested and not answered yet. -/
def Xp.asked (x : Xp) : Nat := (x.waits.map (·.lines.length)).foldl (· + ·) 0

/-- R230: at most 256 line requests are outstanding: the waiting walks, oldest first, request what they still need while there is room. -/
def askMore : List Wait → Nat → List Wait
  | [], _ => []
  | w :: ws, n => { w with lines := w.lines ++ w.more.take n, more := w.more.drop n } :: askMore ws (n - min n w.more.length)

/-- R230: the requests that fit go out. -/
def State.ask (s : State) (p : Nat) : State :=
  let x := s.xp p
  s.setXp p { x with waits := askMore x.waits (256 - x.asked) }

/-- A walk goes on from a stage: each structure's lines are looked up (R230), and the first that misses makes the walk wait. When the directory
entry is plastic and the event has not yet been held, the event enters the plastic hold (R222). -/
def State.walkFrom (s : State) (p : Nat) (ev : Evt) (plastic : Bool) (bad : List Nat) (post : StoreEcc) : Nat → Nat → State
  | 0, _ => s
  | fuel + 1, stage =>
    let d := s.dirEntry p ev.axon
    if 1 ≤ stage && bad.contains (s.dirLineOf p ev.axon) then s
    else if 1 ≤ stage && !dirValid d then (s.incCtr (xpnd p) 0x084).raise (xpnd p) 0
    else if 1 ≤ stage && dirPlastic d && !plastic then
      let x := s.xp p
      (s.setXp p { x with hold := x.hold ++ [{ ev with g := 0, pass := 0 }] }).holdMax p
    else if 2 ≤ stage && bad.contains (dirRow d) then s
    else if 5 ≤ stage then s.walk p ev bad post
    else
      let (miss, s) := s.lookupLines p ((s.stageLines p ev stage).filter fun l => !bad.contains l)
      if miss.isEmpty then State.walkFrom s p ev plastic bad post fuel (stage + 1)
      else (s.setXp p { s.xp p with waits := (s.xp p).waits ++ [⟨ev, plastic, stage, [], bad, miss⟩] }).ask p

/-- The expander takes an event that is to be walked. While a bank of the row cache is not ON (R286) its directory entry reads as zero: the axon has no row
(log entry 53). -/
def State.walkStart (s : State) (p : Nat) (ev : Evt) (plastic : Bool) (post : StoreEcc) : State :=
  match s.sharedBankOff p with
  | some b => ((s.bankErr p b).incCtr (xpnd p) 0x084).raise (xpnd p) 0
  | none => s.walkFrom p ev plastic [] post 6 0

/-- R286: lines come in for a walk while a bank of the row cache is not ON: they are not kept, and the structure reads as zero, as walkStart has it. A row
of zeros does not fit its directory entry (R218; log entry 53). -/
def State.fillOff (s : State) (p b : Nat) (w : Wait) : State :=
  let s := s.bankErr p b
  if w.stage = 0 then (s.incCtr (xpnd p) 0x084).raise (xpnd p) 0 else (s.rowErr p 0x070 w.ev.axon).report (xpnd p) 0x070

/-- An event flit as the expander takes it (R41). -/
def meshEvt (pl now : Nat) : Evt :=
  ⟨rebuild (evTime pl) now, evAxon pl, evSource pl, evPay pl, evInterval pl, evType pl, true, 0, 0⟩

/-- Is an event's directory entry, as the stacks hold it, that of a plastic row? -/
def State.evPlastic (s : State) (p : Nat) (ev : Evt) : Bool := ev.type ≠ 2 && dirValid (s.dirEntry p ev.axon) && dirPlastic (s.dirEntry p ev.axon)

/-- R199, R200: the events and rewards of the plastic order that the Cabinet has accepted and that have not reached its plastic hold: at its port, in the
ingress log of a frozen Cabinet (R361), in its own queue, or waiting for their directory line. -/
def State.unheld (s : State) (p : Nat) : List Evt :=
  ((s.inbox.filter fun a => a.dest = p && a.flit.kind = 0).map (fun a => meshEvt a.flit.payload s.now) ++
    ((s.cab p).ingress.filter (·.kind = 0)).map (fun f => meshEvt f.payload s.now) ++ (s.xp p).inq ++ ((s.xp p).waits.filter (!·.plastic)).map (·.ev)).filter fun e => e.type = 2 || s.evPlastic p e

/-- R200: does an accepted event or reward that comes before this one in the order of R199 still have to reach the hold? -/
def State.overtakes (s : State) (p : Nat) (ev : Evt) : Bool := (s.unheld p).any (evtBefore · ev)

/-- R243: the logged spikes that a later spike has made unreadable are freed. -/
def State.postFree (s : State) (p : Nat) : State :=
  let lim : Int := (s.safe p : Int) - s.look p
  let held := (s.xp p).hold ++ s.unheld p ++ ((s.xp p).waits.filter (·.plastic)).map (·.ev)
  (List.range 4).foldl (fun s d =>
    let log := s.postLog p d
    if log.isEmpty then s
    else
      let free := log.filter fun e =>
        let i := nb e.2 60 48
        let later := ((s.ownSpike p d i (s.safe p)).toList ++ s.logSpikes p d i (s.safe p)).filter fun x => decide (rebuildI (nb e.2 47 0) (s.safe p) < x)
        match later with
        | [] => false
        | x :: xs =>
          let nx := xs.foldl min x
          decide (nx < lim) && held.all (fun ev => decide (nx ≤ ev.time))
      (free.foldl (fun s e => s.store (drwAt p d (0x74800 + 8 * e.1)) 8 0) s).postFlag p d) s

/-- R230, R233, R371: some lines arrive; `bad` came back UNCORRECTED: those answered ISOLATION, those that no copy holds, and the state. -/
def State.fillLines (s : State) (p : Nat) (bad ls : List Nat) : List Nat × List Nat × State :=
  ls.foldl (fun (a : List Nat × List Nat × State) l => match a.2.2.stackDenied (s.cabKey p) (l * 64) false with
    | some c => (a.1 ++ [l], a.2.1, a.2.2.isolate (s.cabKey p) (l * 64) c)
    | none =>
      let x := (a.2.2.countLine (l * 64)).readLine (l * 64) (if bad.contains l then .uncorrectable true else .clean)
      (a.1, if x.1.isNone then a.2.1 ++ [l] else a.2.1, x.2)) ([], [], s)

/-- R230, R233: the lines that the first waiting walk with requests out has asked for arrive; `bad` came back UNCORRECTED. A line the partition does not own
is answered ISOLATION (R371) and counts as failed. A structure of more lines than could be requested goes on being fetched. -/
def execRowLineFill (p : Nat) (lines : FillReads) (s : State) : Result :=
  match (s.xp p).waits.find? (fun w => !w.lines.isEmpty) with
  | none => done s
  | some w =>
    if !s.live p || s.unitStalled p 7 || (w.stage = 0 && !w.plastic && s.evPlastic p w.ev && (s.xp p).holdFull) then done s
    else
      let rest := (s.xp p).waits
      let (iso, lost, s) := s.fillLines p lines.bad w.lines
      let failed := w.lines.filter fun l => iso.contains l || lost.contains l
      match s.sharedBankOff p with
      | some b => done (((s.setXp p { s.xp p with waits := rest.erase w }).ask p).fillOff p b w)
      | none =>
      let s := s.cacheUse p (w.lines.filter fun l => !failed.contains l)
      let s := if failed.any (fun l => !iso.contains l) && decide (w.stage ≤ 2) then s.lineFailed p w.ev.axon else s
      if w.more.isEmpty then done (((s.setXp p { s.xp p with waits := rest.erase w }).ask p).walkFrom p w.ev w.plastic (w.bad ++ failed) lines.post 6 (w.stage + 1))
      else done ((s.setXp p { s.xp p with waits := rest.replace w { w with lines := [], bad := w.bad ++ failed } }).ask p)

/-! ### Events -/

/-- R217: an event is handled by its type. -/
def State.handleEvt (s : State) (p : Nat) (ev : Evt) : State :=
  if ev.type = 2 then
    let x := s.xp p
    (s.setXp p { x with hold := x.hold ++ [ev] }).holdMax p
  else if ev.type = 0 || ev.type = 1 || ev.type = 3 || ev.type = 4 || ev.type = 5 || (ev.type = 0xF && s.legacy) then s.walkStart p ev false ⟨0, .clean⟩
  else (s.err (xpnd p) 3 0x071 (ev.type % 16)).raise (xpnd p) 8

/-- R222: the Cabinet's own plastic events that wait outside the hold: those of its queue that find no place in it, behind the walks that still wait for
their directory line. -/
def State.outside (s : State) (p : Nat) : List Evt :=
  let x := s.xp p
  let coming := (x.waits.filter fun w => w.stage = 0 && !w.plastic && s.evPlastic p w.ev).length
  (x.inq.filter fun e => e.type = 2 || s.evPlastic p e).drop (1024 - (x.hold.length + coming))

/-- R222: the core's EVINJ of an event that waited outside the full plastic hold retires once the expander has taken the event. -/
def State.evinjEnds (s : State) (p : Nat) (ev : Evt) : State :=
  match (s.core p).wait with
  | some (.evinj rd e) => if e = ev then s.retire p rd 0 else s
  | _ => s

/-- R217, R221, R222: the expander takes an event: the first at the ejection port (`mesh`), or the first of the Cabinet's own. With a held delivery
(R187), or while a completion or a copy of its own waits on a full queue (R300), it takes none; with INFLIGHT walks waiting, none; with a full plastic hold, none from the port, and a plastic one of its own waits. -/
def execExpanderEvent (p : Nat) (mesh : Bool) (ecc : WordEcc) (s : State) : Result :=
  let x := s.xp p
  if !s.live p || x.held || s.unitStalled p 7 || decide (s.fld (xpnd p) 0x040 4 0 ≤ x.waits.length) then done s
  else if mesh then
    match s.inbox.find? (fun a => a.dest = p && a.flit.kind = 0) with
    | none => done s
    | some a =>
      if x.holdFull then done s
      else done (({ s with inbox := s.inbox.erase a }.cacheEcc p ecc).handleEvt p (meshEvt a.flit.payload s.now))
  else
    match x.inq with
    | [] => done s
    | ev :: rest =>
      let working := match x.step with | some st => ev.pass ≠ 0 && !st.barrier | none => false
      if working || (x.holdFull && (ev.type = 2 || s.evPlastic p ev)) then done s
      else done ((((s.setXp p { x with inq := rest }).cacheEcc p ecc).handleEvt p ev).evinjEnds p ev)

/-- R200: does safe time allow an event or reward of this time to leave the plastic hold? -/
def State.r200 (s : State) (p t : Nat) : Bool := decide (t + s.look p < s.safe p)

/-- R254, R255: must this event wait for a consolidation marker? -/
def Xp.afterMarker (x : Xp) (t : Nat) : Bool := x.marker.any fun tc => decide (tc < t)

/-- R235: the relocation that a walk of this event must wait for. -/
def Xp.relocFor (x : Xp) (ev : Evt) : Option Reloc := x.relocs.find? fun r => r.axon = ev.axon && decide (r.ti ≤ ev.time)

/-- R200, R243, R235: the first event of the plastic hold is walked, with learning. -/
def execPlasticEventWalk (p : Nat) (ecc : WalkEcc) (s : State) : Result :=
  let x := s.xp p
  match firstOf x.hold with
  | none => done s
  | some ev =>
    if !s.live p || x.held || s.unitStalled p 7 || ev.type = 2 || !s.r200 p ev.time || s.overtakes p ev || decide (s.gEnd p < ev.time / 16 * 16) || x.afterMarker ev.time ||
      decide (s.fld (xpnd p) 0x040 4 0 ≤ x.waits.length) || x.waits.any (·.plastic) then done s
    else match x.relocFor ev with
      | some r =>
        if r.done then done s else done ((s.setFlag (xpnd p) 0x00C 4 true).raise (xpnd p) 7)
      | none => done ((((s.setXp p { x with hold := x.hold.erase ev }).cacheEcc p ecc.row).walkStart p ev true ecc.post).postFree p)

/-- R250: the first event of the plastic hold is a reward, and is processed. -/
def execRewardProcess (p : Nat) (s : State) : Result :=
  let x := s.xp p
  match firstOf x.hold with
  | none => done s
  | some ev =>
    if !s.live p || s.unitStalled p 7 || ev.type ≠ 2 || !s.r200 p ev.time || s.overtakes p ev || x.afterMarker ev.time || x.waits.any (·.plastic) then done s
    else
      let h := x.history ++ [⟨ev.time, ofBits ev.pay 8⟩]
      done (((s.setXp p { x with hold := x.hold.erase ev, history := h.drop (h.length - 16) }).stat p 9).postFree p)

/-! ### Epochs and pins -/

/-- The scratchpad offset of the pin table's copy `c`. -/
def State.pinOff (s : State) (p c : Nat) : Nat := s.fld (xpnd p) 0x060 21 4 * 16 + c * 0x1000
/-- The address of its entry `z`. -/
def State.pinAt (s : State) (p c z : Nat) : Nat := spadAt p (s.pinOff p c + 4 * z)

/-- R282, R286: the accesses of a pass over the pin table's copy `c`, 16 bytes each, that do not take place. -/
def State.pinReads (s : State) (p c : Nat) : State :=
  if (s.sharedBankOff p).isNone && decide (0x300000 ≤ s.pinOff p c) && decide (s.pinOff p c + 0x1000 ≤ 0x400000) then s
  else (List.range 256).foldl (fun u i => (u.areaGet p 2 (s.pinOff p c + 16 * i) 16).2) s

/-- R231: the lines of a pinned axon's row. -/
def State.pinLines (s : State) (p axon : Nat) : List Nat :=
  let d := s.dirEntry p axon
  [s.dirLineOf p axon] ++ (if dirValid d then dirRowLines d ++ s.rowCbLines p (s.rowHdr (dirRow d)) else [])

/-- R231: the pins of the active copy are applied in table order, until one would pass PIN_LINES_MAX. -/
def State.pinsFrom (s : State) (p c : Nat) : List Nat → List Nat → List Nat × Bool
  | [], acc => (acc, false)
  | z :: zs, acc =>
    let e := (s.areaGet p 2 (s.pinOff p c + 4 * z) 4).1
    if e.testBit 31 then
      let acc' := (acc ++ s.pinLines p (e % 65536)).eraseDups
      if s.fld (xpnd p) 0x064 12 0 < acc'.length then (acc, true) else State.pinsFrom s p c zs acc'
    else State.pinsFrom s p c zs acc

/-- R231: the pin entries that hold a pin, from the listed bytes of the table. -/
def State.pinEntries (s : State) (p c : Nat) : List Nat :=
  ((s.bytesIn (s.pinAt p c 0) (s.pinAt p c 1024)).map fun e => (e.1 - s.pinAt p c 0) / 4).eraseDups

/-- R231: the pinned rows of the active copy are in force. -/
def State.applyPins (s : State) (p : Nat) : State :=
  let c := s.fld (xpnd p) 0x044 0 0
  let (ls, ovf) := s.pinsFrom p c (s.pinEntries p c) []
  let s := s.pinReads p c
  let s := (s.setXp p { s.xp p with pinned := ls }).cacheUse p ls
  let s := s.wrN (xpnd p) 0x068 ls.length
  if ovf then s.raise (xpnd p) 4 else s

/-- R228: a write of XPND.EPOCH. -/
def epochWrite (p : Nat) (w : Word) (s : State) : State :=
  if !w.bit 1 then s
  else
    let at' := s.rd64 (xpnd p) 0x048
    if at' ≤ s.safe p then s.err (xpnd p) 5 0x075 0
    else (s.setXp p { s.xp p with epochAt := at' }).setFlag (xpnd p) 0x044 1 true

/-- R228: a write of XPND.EPOCH. -/
def execEpochRequest (r : Req) (p : Nat) (w : Word) (s : State) : Result := gated r (xpnd p) 0x044 s (epochWrite p w)

/-- R228, R231: the safe time has passed EPOCH_AT: the copies switch, and the new copy's pins are fetched. -/
def execEpochSwitch (p : Nat) (s : State) : Result :=
  if s.live p && s.flag (xpnd p) 0x044 1 && decide ((s.xp p).epochAt < s.safe p) then
    let s := (s.setFlag (xpnd p) 0x044 1 false).setFld (xpnd p) 0x044 0 0 (1 - s.fld (xpnd p) 0x044 0 0)
    let s := s.setXp p { s.xp p with epochPast := (s.xp p).epochAt }
    done ((s.raise (xpnd p) 5).applyPins p)
  else done s

/-! ### Relocation -/

/-- R253: the entries of the grown row. -/
def grownEnts (h : RowHdr) : Nat :=
  let g := 32 * 2 ^ h.gsize
  min (min ((h.nent + g - 1) / g * g) 8191) (h.nent + 16383 - h.nwords)

/-- R253: the header of the new row, as its 16 bytes. -/
def grownHdr (old nent' : Nat) (h : RowHdr) : Nat :=
  let add := nent' - h.nent
  old - b2n h.reloc * 2 ^ 45 + add * 2 ^ 99 + add * 2 ^ 85 + add * 2 ^ 32

/-- R253: the new row is built at `line`: words and tags keep their index, and vacant entries are appended. -/
def State.buildRow (s : State) (old line nent' : Nat) : State :=
  let h := s.rowHdr old
  let nw' := h.nwords + (nent' - h.nent)
  let s := (List.range (rowLines nw' nent' true)).foldl (fun s i => s.stackPut (line * 64 + 64 * i) 64 0) s
  let s := s.stackPut (line * 64) 16 (grownHdr (s.load (old * 64) 16) nent' h)
  let s := (List.range h.nwords).foldl (fun s w => s.stackPut (wordAt line w) 2 (s.load (wordAt old w) 2)) s
  let s := (List.range (nent' - h.nent)).foldl (fun s w => s.stackPut (wordAt line (h.nwords + w)) 2 (63 * 64)) s
  (List.range h.nent).foldl (fun s j => s.stackPut (tagAt line nw' j) 2 (s.load (tagAt old h.nwords j) 2)) s

/-- The lines in use of a partition's synapse regions, as runs of a first line and a length: its directories with their learning blocks, the rows that
these name, its codebook tables, and the rows that relocations have built (log entry 27). -/
def State.usedRuns (s : State) (k : Nat) : List (Nat × Nat) :=
  ((s.cfg k).areas.flatMap fun a =>
    if a.2.1 = 0 then
      (a.2.2.1 / 64, 8305) :: (((s.bytesIn a.2.2.1 (a.2.2.1 + 524288)).map fun e => (e.1 - a.2.2.1) / 8).eraseDups.filterMap fun i =>
        let d := s.load (a.2.2.1 + 8 * i) 8
        if dirValid d then some (dirRow d, dirLen d) else none)
    else if a.2.1 = 1 then [(a.2.2.1 / 64, (a.2.2.2 + 63) / 64)] else []) ++
  ((List.range 288).filter fun p => s.cabKey p = k).flatMap fun p => (s.xp p).relocs.filterMap fun r => if r.grown then r.copy else none

/-- 14_memory_stacks.md, Sweeper and relocation engine: the lowest-addressed run of `n` free lines of a region of 2^24 lines that begins at line `b`. -/
def lowestRun (used : List (Nat × Nat)) (b n : Nat) : Option Nat :=
  ((b :: used.map fun u => u.1 + u.2).filter fun c =>
    decide (b ≤ c) && decide (c + n ≤ b + 2 ^ 24) && used.all fun u => decide (c + n ≤ u.1) || decide (u.1 + u.2 ≤ c)).foldl
      (fun m c => match m with | some x => some (min x c) | none => some c) none

/-- R253: the first line of a free run in the synapse regions of partition `k` in a stack. -/
def State.runIn (s : State) (used : List (Nat × Nat)) (k h n : Nat) : Option Nat :=
  (List.range s.regionCount).findSome? fun r =>
    let w := s.regCfg h r
    if w.bit 31 && decide (w.bits 9 6 = 1) && decide (w.bits 5 0 = k) then lowestRun used (h * 2 ^ 29 + r * 2 ^ 24) n else none

/-- R253: where the engine places `n` lines for a row of the Cabinet at a position that lies at line `old`: in the row's stack, or else in the stack that
rule 4 of R344 gives, the nearest other one (log entry 27). -/
def State.rowPlace (s : State) (p old n : Nat) : Option Nat :=
  let k := s.cabKey p
  let used := s.usedRuns k
  let h := old / 2 ^ 29 % 4
  match s.runIn used k h n with
  | some l => some l
  | none => ((s.stackOrder p).find? (· ≠ h)).bind fun g => s.runIn used k g n

/-- R253: the relocation engine takes a request and judges once whether there is space for the grown row. While a line
of the old row is answered UNCORRECTED it builds nothing, and the request stays (DESIGN CHOICE, log entry 27). -/
def execRelocationCopy (p axon : Nat) (bad : List Nat) (s : State) : Result :=
  let x := s.xp p
  if (dirRowLines (s.dirEntry p axon)).any (fun l => bad.contains l || s.lineLost (l * 64)) then done s else
  match x.relocs.find? (fun r => r.axon = axon && r.copy.isNone) with
  | none => done s
  | some r =>
    let old := dirRow (s.dirEntry p axon)
    let h := s.rowHdr old
    let n := grownEnts h
    match (if n = h.nent then none else s.rowPlace p old (rowLines (h.nwords + (n - h.nent)) n true)) with
    | some l =>
      let s := s.buildRow old l n
      done (s.setXp p { s.xp p with relocs := x.relocs.map fun q => if q = r then { q with copy := some (l, rowLines (h.nwords + (n - h.nent)) n true), grown := true } else q })
    | none =>
      let s := s.stat p 8
      done (s.setXp p { s.xp p with relocs := x.relocs.map fun q => if q = r then { q with copy := some (old, dirLen (s.dirEntry p axon)) } else q })

/-- R235: the Hutch reports the copy complete. -/
def execRelocDone (p axon : Nat) (s : State) : Result :=
  let x := s.xp p
  match x.relocs.find? (fun r => r.axon = axon && r.copy.isSome && !r.done) with
  | none => done s
  | some r =>
    let y := { x with relocs := x.relocs.map fun q => if q = r then { q with done := true } else q }
    let still := match firstOf y.hold with | some ev => (match y.relocFor ev with | some q => !q.done | none => false) | none => false
    done (((s.setXp p y).setFlag (xpnd p) 0x00C 4 (s.flag (xpnd p) 0x00C 4 && still)).raise (xpnd p) 6)

/-- R234: at t_i, once every earlier event of the row has been walked, the new directory entry is written and the old row's lines are invalidated. A
copy with no growth leaves the row where it is, with RELOC clear. -/
def execRelocationInstall (p axon : Nat) (s : State) : Result :=
  let x := s.xp p
  match x.relocs.find? (fun r => r.axon = axon && r.done) with
  | none => done s
  | some r =>
    if !s.live p || !s.r200 p r.ti || (x.hold ++ s.unheld p).any (fun e => e.axon = axon && e.type ≠ 2 && decide (e.time < r.ti)) || x.waits.any (fun w => w.ev.axon = axon)
    then done s
    else match r.copy with
      | none => done s
      | some (l, n) =>
        let d := s.dirEntry p axon
        let at' := s.dirLineOf p axon * 64 + 8 * (axon % 8)
        let s := s.incCtr (xpnd p) 0x090
        let s := if r.grown then s.learnPut p at' 8 (d - d % 2 ^ 43 + l % 2 ^ 31 + n % 4096 * 2 ^ 31)
          else
            let b := s.load (l * 64) 8
            s.learnPut p (l * 64) 8 (b - b / 2 ^ 45 % 2 * 2 ^ 45)
        let x := s.xp p
        let s := s.setXp p { x with relocs := x.relocs.erase r, cache := x.cache.filter fun c => !(dirRowLines d).contains c }
        done (if (dirRowLines d).any x.pinned.contains then s.applyPins p else s)

/-! ### Forced consolidation -/

/-- R254: the answer of a Cabinet to the Bureau's CONSOLIDATE: the command ends once every Cabinet has answered, with STALE_EPOCH where one refused. -/
def State.markerAnswer (s : State) (p : Nat) (ok : Bool) : State :=
  { s with mbox := s.mbox.map fun m =>
      if m.phase = 1 && m.w.bits 7 0 = 0x0A && m.w.bits 13 8 = s.cabKey p then
        let todo := m.todo.filter fun x => x.1 ≠ p
        { m with todo := todo, status := if ok then m.status else .staleEpoch, phase := if todo.isEmpty then 5 else 1 }
      else m }

/-- R254: the marker of a MGMT flit arrives: it takes its place in the order, or is refused because S has reached T_c. -/
def execConsolidationMarker (p : Nat) (s : State) : Result :=
  match s.inbox.find? (fun a => a.dest = p && a.flit.kind = 5 && nb a.flit.payload 127 120 = 0x20) with
  | none => done s
  | some a =>
    let s := { s with inbox := s.inbox.erase a }
    let tc := rebuild (nb a.flit.payload 119 72) s.now
    if tc ≤ s.safe p then done (s.markerAnswer p false) else done ((s.setXp p { s.xp p with marker := (s.xp p).marker ++ [tc] }).markerAnswer p true)

/-- R255: one tag at the marker; a neuron whose post read is not made leaves it as it is (R179, R286). -/
def State.markTag (s : State) (p tc axon : Nat) (h : RowHdr) (line : Nat) (post : StoreEcc) (e : RowEnt) : State :=
  let tag := s.load (tagAt line h.nwords e.j) 2
  if !s.postOk p post e.tgt || e.dcode = 63 || decide (32767 < e.tgt) || !tag.testBit 15 then s
  else
    let (prof, plastic, _) := s.postRead p e.tgt tc
    let rl := s.rule p prof
    if !plastic || !ruleValid rl then s
    else
      let (code, cl) := s.consolidate p e.code tag (tagTime tag tc (nb rl 84 80)) tc rl e.j axon
      let s := (if cl then s.stat p 3 else s).stat p 1
      let s := if code = e.code then s else s.putWord p axon line e.w (e.word % 4096 + code * 4096)
      s.putTag p axon line e.j
        (if code = cbZero (s.codebook p (h.cbbase + rowGroup h e.j)) then 2 ^ 14 + tc / 2 ^ nb rl 92 88 % 2 ^ 14 else 0)

/-- R255: the axons of the Cabinet's plastic rows, from the listed bytes of its directory. -/
def State.plasticAxons (s : State) (p : Nat) : List Nat :=
  let lo := s.dirLine p * 64
  (((s.bytesIn lo (lo + 524288)).map fun e => (e.1 - lo) / 8).eraseDups).filter fun a => dirValid (s.dirEntry p a) && dirPlastic (s.dirEntry p a)

/-- The neurons whose post reads a marker makes: the targets of the valid tags. -/
def State.taggedPosts (s : State) (p : Nat) : List Nat :=
  (s.plasticAxons p).flatMap fun a =>
    let line := dirRow (s.dirEntry p a)
    let h := s.rowHdr line
    ((s.rowEnts line).filter fun e => e.dcode ≠ 63 && decide (e.tgt < 32768) && (s.load (tagAt line h.nwords e.j) 2).testBit 15).map (·.tgt)

/-- R254, R255: the first of the waiting markers is processed once S exceeds T_c + L and nothing of T_c or earlier is left in the hold. -/
def execMarkerProcess (c : Checked StoreEcc) (s : State) : Result :=
  let p := c.i
  let x := s.xp p
  match x.marker.min? with
  | none => done s
  | some tc =>
    if !s.live p || s.unitStalled p 7 || !s.r200 p tc || (x.hold ++ s.unheld p).any (fun e => decide (e.time ≤ tc)) || !x.waits.isEmpty then done s
    else
      let s := s.storeErrs p c.ecc (s.taggedPosts p)
      let s := (s.plasticAxons p).foldl (fun s a =>
        let line := dirRow (s.dirEntry p a)
        let h := s.rowHdr line
        (s.rowEnts line).foldl (fun s e => s.markTag p tc a h line c.ecc e) s) s
      let s := s.setXp p { s.xp p with marker := (s.xp p).marker.erase tc }
      done ((s.stat p 10).statsWrite p)

/-! ### The expander's command port -/

/-- R286: lines are fetched into the row cache, unless a bank of it is not ON. -/
def State.fetch (s : State) (p : Nat) (ls : List Nat) : State :=
  match s.sharedBankOff p with
  | some b => s.bankErr p b
  | none => s.cacheUse p ls

/-- R302: PREFETCH: an axon's directory, row and codebook lines are fetched into the row cache; the command completes with its status. -/
def execPrefetch (p : Nat) (s : State) : Result :=
  match (s.cab p).xIn with
  | none => done s
  | some m =>
    if !s.live p || s.unitStalled p 7 then done s
    else
      let s := s.setCab p { s.cab p with xIn := none }
      let axon := bytesOf m 11 10
      let clean := byteOf m 8 = 1 && byteOf m 9 = 0 && nb (bytesOf m 15 12) 30 20 = 0 && bytesOf m 31 16 = 0
      if !clean then done (s.complete p 7 (bytesOf m 15 12) (msgUser m) (byteOf m 8) 1 0)
      else done ((s.fetch p (s.pinLines p axon)).complete p 7 (bytesOf m 15 12) (msgUser m) 1 0 0)

end Sys2Proof.Machine
end

