-- ==== Sys2Proof/Machine/Horizon.lean ====
section
/-!
DEFINITION. Horizon.lean: steps and the grant (R188, R189, R196), the checkpoint a protected Cabinet takes at a step's end (R435 to R437), and the
sampling and sending of horizon contributions (R191 to R195).
-/

namespace Sys2Proof.Machine

/-! ### What a Cabinet's state is, for checkpoints and moves -/

/-- The bytes of a Cabinet's scratchpad and Trestle RAMs, by offset; the RAMs lie above 2^22 (R436). -/
def State.cabBytes (s : State) (p : Nat) : List (Nat × Byte) :=
  (s.bytesIn (spadAt p 0) (spadAt (p + 1) 0)).map (fun e => (e.1 - spadAt p 0, e.2)) ++
    (s.bytesIn (2 ^ 38 + 2 * p * 2 ^ 20) (2 ^ 38 + (2 * p + 2) * 2 ^ 20)).map fun e => (e.1 - (2 ^ 38 + 2 * p * 2 ^ 20) + 2 ^ 22, e.2)

/-- The address of such an offset at a position. -/
def cabByteAt (p off : Nat) : Nat := if off < 2 ^ 22 then spadAt p off else 2 ^ 38 + 2 * p * 2 ^ 20 + (off - 2 ^ 22)

/-- The registers of a page, by offset. -/
def State.pageRegs (s : State) (p : Page) : List (Nat × Word) :=
  (s.regs.filter fun e => decide (p.key ≤ e.1) && decide (e.1 < p.key + 4096)).map fun e => (e.1 - p.key, e.2)

/-- The pages of R436: HZN, and XPND above 4,096. -/
def State.cabRegs (s : State) (p : Nat) : List (Nat × Word) := s.pageRegs (hzn p) ++ (s.pageRegs (xpnd p)).map fun e => (e.1 + 4096, e.2)

/-- The checkpoints of a logical Cabinet, oldest first. -/
def State.ckptsOf (s : State) (k c : Nat) : List Ckpt := SMap.get (fun _ => []) s.ckpts (256 * k + c)

/-- The state with those checkpoints replaced. -/
def State.setCkpts (s : State) (k c : Nat) (l : List Ckpt) : State := { s with ckpts := SMap.set (fun _ => []) s.ckpts (256 * k + c) l }

/-- Table 16.4: the KIND 5 mark. -/
def markEntry (t k : Nat) : Nat := t % 2 ^ 64 * 2 ^ 64 + k % 32 * 8 + 5

/-- R435: the event flits that a Cabinet has accepted and its expander has not taken yet: a checkpoint holds them. -/
def State.acceptedEvents (s : State) (p : Nat) : List Flit := (s.inbox.filter fun a => a.dest = p && a.flit.kind = 0).map (·.flit)

/-- R435, R436: the mark is appended, and the state as it stands becomes checkpoint `n`, which is then written. -/
def State.ckptTake (s : State) (p n t : Nat) : State :=
  let k := s.cabKey p
  let c := s.cabLog p
  let s := (s.statsWrite p).journalAdd k c [markEntry t n]
  let j := s.journal k c
  let ck : Ckpt := ⟨t, n, s.cabRegs p, s.cabBytes p, s.cab p, j.base + j.entries.length, s.now, false, 0, s.acceptedEvents p⟩
  s.setCkpts k c ((s.ckptsOf k c).filter (·.valid) ++ [ck])

/-- R435: the time of checkpoint `n` of a Cabinet. -/
def State.ckptTime (s : State) (p n : Nat) : Nat :=
  let f := s.cfg (s.cabKey p)
  (f.start + n * f.period) / s.stepQ p * s.stepQ p

/-- R435, R437: at the end of the step that ends at `g`, a due checkpoint is taken, or waits for the one before it. -/
def State.ckptDue (s : State) (p g : Nat) : State :=
  let k := s.cabKey p
  let c := s.cabLog p
  if !(s.cfg k).prot || s.part k ≠ .running || (s.cab p).replay then s
  else
    let last := (s.ckptsOf k c).getLast?
    let n := match last with | some x => x.k + 1 | none => 0
    let t := s.ckptTime p n
    if g < t then s
    else if last.all (·.valid) then s.ckptTake p n g
    else if g = t then
      let j := s.journal k c
      (((s.setJournal k c { j with late := min (j.late + 1) 4294967295 }).errIntg k 4 0x111 (c + 256 * k)).raise (intg 0) 6).raise (intg k) 6
    else s

/-! ### The grant -/

/-- The smaller of a bound and an optional one. -/
def minOpt (a : Nat) : Option Nat → Nat
  | some b => min a b
  | none => a

/-- The earliest occupied slot end of the paused Drawers of a Cabinet (R192). -/
def State.pausedMin (s : State) (p : Nat) : Option Nat :=
  (List.range 4).foldl (fun m d => if s.paused p d then (match m, s.drwEarliest p d with
    | some x, some y => some (min x y) | none, y => y | x, none => x) else m) none

/-- The held events of grant_limit(), with the time a delivery of each is later than: remote ones are bounded by L, the Cabinet's own by DMIN. -/
def State.heldBounds (s : State) (p : Nat) : List Nat :=
  let x := s.xp p
  let bound (e : Evt) : Nat := if e.remote then e.time + s.look p else e.time + s.rdN (hzn p) 0x050
  (x.hold ++ x.inq ++ x.waits.map (·.ev)).map bound ++
    x.dlv.map (fun d => if d.remote then d.ev + s.look p else d.ev + s.rdN (hzn p) 0x050) ++
    ((s.inbox.filter fun a => a.dest = p && a.flit.kind = 0).map fun a => rebuild (evTime a.flit.payload) s.now + s.look p)

/-- 07_causality.md, The grant: grant_limit(); a Cabinet of a partition that stops holds at T_p + L (R353). -/
def State.grantLimit (s : State) (p : Nat) : Nat :=
  let g := (s.heldBounds p).foldl min (s.safe p)
  let g := if s.floorEn p then min g (s.floor p) else g
  let g := minOpt g ((s.pausedMin p).map (· - 16))
  let g := minOpt g ((s.cfg (s.cabKey p)).stopAt.map (· + s.look p))
  g / s.stepQ p * s.stepQ p

/-! ### Steps -/

/-- Does some Drawer hold an occupied slot that ends at or before `g`? -/
def State.evaluable (s : State) (p g : Nat) : Bool :=
  (List.range 4).any fun d => match s.drwEarliest p d with | some te => decide (te ≤ g) | none => false

/-- Does barrier work remain (R189): events, walks or deliveries of the step, or KIND 3 copies of the projection stage (R300)? -/
def State.barrierWork (s : State) (p : Nat) : Bool :=
  let x := s.xp p
  x.inq.any (fun e => e.pass ≠ 0) || x.waits.any (fun w => w.ev.pass ≠ 0) || x.dlv.any (fun d => d.pass ≠ 0) ||
    (s.qm p).sends.any (fun m => m.unit = 7)

/-- R188, R189: the step that ends at `g` is complete: G moves, the ring window with it, and a due checkpoint is taken. -/
def State.stepDone (s : State) (p g : Nat) (ecc : StoreEcc) : State :=
  let s := (s.wr64 (hzn p) 0x068 g).setXp p { s.xp p with step := none }
  ((s.setFlag (hzn p) 0x00C 0 false).ldqSettle p ecc).ckptDue p g

/-- R188, R196: the next step starts when its end is at or below the grant limit, or is skipped and completes at once. While a post log is full none
starts (R243). -/
def execStepStart (c : Checked StoreEcc) (s : State) : Result :=
  let p := c.i
  let s := s.postFree p
  let x := s.xp p
  let q := s.stepQ p
  let g := (s.gEnd p / q + 1) * q
  if !s.live p || x.step.isSome || s.grantLimit p < g || (List.range 4).any (s.postFull p) || (List.range 4).any (s.catchup p) then done s
  else
    let s := s.ldqSettle p c.ecc
    if s.evaluable p g || s.barrierWork p then
      done ((s.setXp p { s.xp p with step := some ⟨g, 1, false, false⟩ }).setFlag (hzn p) 0x00C 0 true)
    else done (s.stepDone p g c.ecc)

/-- R188: where the pass of the step in progress has evaluated every slot its barrier begins; where the barrier has ended and a delivery landed at or
before the end the next pass begins; and where none did the step is complete (R189). -/
def execStepComplete (c : Checked StoreEcc) (s : State) : Result :=
  let p := c.i
  match (s.xp p).step with
  | none => done s
  | some st =>
    if !s.live p then done s
    else if !st.barrier then
      if s.evaluable p st.g then done s
      else done (s.setXp p { s.xp p with step := some { st with barrier := true } })
    else if s.barrierWork p then done s
    else if st.again then done (s.setXp p { s.xp p with step := some ⟨st.g, st.pass + 1, false, false⟩ })
    else
      let s := (s.wrN (hzn p) 0x094 (max (s.fld (hzn p) 0x094 3 0) st.pass)).incCtr (hzn p) 0x098
      let thr := s.fld (hzn p) 0x040 15 8
      let s := if thr ≠ 0 && decide (thr < st.pass) then s.raise (hzn p) 4 else s
      done (s.stepDone p st.g c.ecc)

/-! ### The core floor -/

/-- R270: does an accepted EMIT_EVENTS of either Trestle that has not completed hold a floor of `v`? -/
def State.floorPending (s : State) (p v : Nat) : Bool :=
  ((s.cab p).trs0 ++ (s.cab p).trs1).any fun t => byteOf t.raw 8 = 7 && decide (rebuild (bytesOf t.raw 21 16) s.now < v)

/-- R193: a write of CORE_FLOOR is committed, or refused where it would lower the floor. A pending EMIT_EVENTS holds it (R270). -/
def floorCommit (p : Nat) (hi : Word) (s : State) : State :=
  let low := s.stagedLow (hzn p) 0x074
  let v := low.toNat + hi.toNat * 2 ^ 32
  if v < s.floor p then s.err (hzn p) 5 0x062 0
  else if s.floorPending p v then s.setCab p { s.cab p with floorHeld := (s.cab p).floorHeld ++ [v] }
  else (commitWide (hzn p) 0x074 hi s)

/-- R193, R55: a write of the high half of CORE_FLOOR. -/
def execCoreFloorWrite (r : Req) (p : Nat) (w : Word) (s : State) : Result := gated r (hzn p) 0x078 s (floorCommit p w)

/-! ### Contributions -/

/-- R192: the horizon of a Cabinet. -/
def State.cabHorizon (s : State) (p : Nat) : Nat :=
  let h := min (s.safe p) (s.gEnd p + 16)
  let h := if s.floorEn p then min h (s.floor p) else h
  minOpt h ((s.pausedMin p).map (· - s.look p))

/-- R45: is some TRIGIN_EVT of a partition enabled? TRIGIN_CFG.EVT_EN, with the KEY of TRIGIN_EVT. -/
def State.trigSource (s : State) (k : Nat) : Bool :=
  (List.range 4).any fun n => s.flag pTime (0x080 + 0x20 * n) 3 && s.fld pTime (0x090 + 0x20 * n) 5 0 = k

/-- The sources of the Bureau's endpoint beside its own endpoint ID: the HQ source of legacy mode (R420) and the parked Cabinets (R363). -/
def srcHq : Nat := 0x162
/-- The source index of the parked Cabinets. -/
def srcParked : Nat := 0x163

/-- R363: the parked Cabinets of a partition. -/
def State.parkedCount (s : State) (k : Nat) : Nat := ((List.range 256).filter fun c => let m := s.mapEntry k c; m.valid && m.parked).length

/-- R363, Table 13.9: the parked Cabinets for which the Bureau contributes to a round: a Cabinet whose park takes effect at that round is among them, and
one whose return takes effect is not. -/
def State.parkedAt (s : State) (k r : Nat) : Nat :=
  let switching (f : MbCmd → Nat) := (s.mbox.filter fun m => m.phase = 3 && m.w.bits 13 8 = k && f m = 512 && decide (m.re ≤ r)).length
  s.parkedCount k + switching (·.dst) - switching (·.src)

/-- Table 13.9, step 6, Table 16.5, step 5: has a migration or a recovery handed the rounds from `r` on to its target? -/
def State.handed (s : State) (e r : Nat) : Bool :=
  (s.mbox.any fun m => m.phase = 3 && m.src = e && decide (m.re ≤ r)) || s.recov.any fun m => m.step = 5 && m.src = e && decide (m.re ≤ r)

/-- R191, Table 7.2: the horizon of a source at present, or none where it takes no part. For a fenced or replaying Cabinet the Bureau stands in
with its contribution to the last complete round (R439). -/
def State.horizonOf (s : State) (k e : Nat) : Option Nat :=
  if isCab e then
    if s.cabKey e ≠ k || !s.flag (hzn e) 0x040 0 then none
    else if (s.cab e).fenced || (s.cab e).replay then some (s.source k e).s
    else if s.ready (hzn e) then some (s.cabHorizon e) else none
  else if isChan e then
    let n := e - 0x120
    if s.owner (chin n) = k && s.chanOn n && s.ready (chin n) then some (s.now - s.encLat n - s.pairHold n) else none
  else if e = 0x160 then (if s.trigSource k then some (s.now - 1600) else none)
  else if e = srcHq then (if s.legacy then some (s.now - s.fld ⟨.hq, 0⟩ 0x080 23 0) else none)
  else if e = srcParked then (if s.parkedAt k (s.source k e).next = 0 then none else some (2 ^ 64 - 1))
  else none

/-- NSRC at a source. -/
def State.nsrcOf (s : State) (k e : Nat) : Nat := if isCab e then s.fld (hzn e) 0x054 9 0 else (s.source k e).nsrc

/-- R194: at the sample time of its next round a source samples its horizon; it waits while its previous contribution waits or four are in flight. -/
def execHorizonRoundSample (k e : Nat) (s : State) : Result :=
  let v := s.source k e
  if s.silent k e || s.handed e v.next || k = 0 || s.tb.state ≠ .running || s.now < v.next * s.roundOf k e || !v.waiting.isEmpty || decide (4 ≤ v.flying.length) then done s
  else match s.horizonOf k e with
    | none => done s
    | some h =>
      done (s.setSource k e { v with next := v.next + 1, waiting := [⟨v.next, h, s.now, v.released⟩] })

/-- R194, R195: once every event released before the sample is accepted, the contribution leaves as a RED_UP. -/
def execHorizonContributionSend (k e : Nat) (s : State) : Result :=
  let v := s.source k e
  match v.waiting with
  | [] => done s
  | c :: rest =>
    if v.sent.any (fun x => decide (x.ord < c.ord)) then done s
    else
      let src := if 0x162 ≤ e || (isCab e && ((s.cab e).fenced || (s.cab e).replay)) then 0x161 else e
      let count := if e = srcParked then s.parkedAt k c.round else 1
      let s := s.setSource k e { v with waiting := rest, flying := v.flying ++ [c] }
      let s := if isCab e then s.wr64 (hzn e) 0x060 c.h else s
      done (s.enter ⟨0, src, 2, k, 0, 3, 63, redPayload c.h 2 count (s.nsrcOf k e) c.round false false⟩)

/-- R195: an acceptance notice arrives at its source: the flit, or one leaf of the tree flit, is accepted. A notice of a pair status tells the channel
that its partner has the status (R88). -/
def execAcceptanceNotice (i : Nat) (s : State) : Result :=
  match s.notices[i]? with
  | none => done s
  | some n =>
    if 16 ≤ n.cls then done s
    else
      let s := { s with notices := s.notices.eraseIdx i }
      if n.cls = 2 && isChan n.src then
        let c := s.chan (n.src - 0x120)
        done (s.setChan (n.src - 0x120) (c.setWin { c.win n.seq with noticed := true }))
      else
        let src := eventSource n.src
        let v := s.source n.key src
        match v.sent.find? (fun x => x.dest = n.dest && x.cls = n.cls && x.seq = n.seq) with
        | none => done s
        | some x =>
          let rest := if x.left ≤ 1 then v.sent.erase x else v.sent.map fun y => if y = x then { x with left := x.left - 1 } else y
          done (s.setSource n.key src { v with sent := rest })

end Sys2Proof.Machine
end

