-- ==== Sys2Proof/Machine/Decoder.lean ====
section
/-!
DEFINITION. Decoder.lean: the commands of 12_decoders.md: decoder inputs, windows, the presentation queue, releases, TRIG_OUT, the result FIFO, rewind
and replay, the transmit stream; and the enable and disable of a channel (R59, R105, R340).
-/

namespace Sys2Proof.Machine

/-! ### Units -/

/-- D_CFG of a unit. -/
def State.dcfg (s : State) (n u : Nat) : Word := s.rd (chdec n) (0x200 + 0x20 * u)
/-- KIND: 0 off, 1 VOTE, 2 VALUE, 3 RECON (R313). -/
def State.dkind (s : State) (n u : Nat) : Nat := (s.dcfg n u).bits 2 0
/-- EVID. -/
def State.devid (s : State) (n u : Nat) : Nat := (s.dcfg n u).bits 4 3
/-- 2^WLOG. -/
def State.dwin (s : State) (n u : Nat) : Nat := 2 ^ (s.dcfg n u).bits 10 6
/-- IN_BASE. -/
def State.dbase (s : State) (n u : Nat) : Nat := (s.dcfg n u).bits 23 16
/-- IN_CNT. -/
def State.dcnt (s : State) (n u : Nat) : Nat := (s.dcfg n u).bits 29 24 + 1
/-- THR. -/
def State.dthr (s : State) (n u : Nat) : Nat := s.fld (chdec n) (0x204 + 0x20 * u) 15 0
/-- VSHIFT. -/
def State.dshift (s : State) (n u : Nat) : Nat := s.fld (chdec n) (0x208 + 0x20 * u) 5 0
/-- VBASE. -/
def State.dvbase (s : State) (n u : Nat) : Int := ofBits (s.rdN (chdec n) (0x20C + 0x20 * u)) 32
/-- VWT of a class. -/
def State.dvwt (s : State) (n u i : Nat) : Int := ofBits (s.fld (chdec n) (0x400 + 0x100 * u + 4 * i) 15 0) 16

/-- R313: the unit that owns a decoder input. -/
def State.inputUnit (s : State) (n i : Nat) : Option Nat :=
  (List.range 4).find? fun u => s.dkind n u ≠ 0 && decide (s.dkind n u < 4) && decide (s.dbase n u ≤ i) && decide (i < s.dbase n u + s.dcnt n u)

/-- R199: the order of inputs; the copies of one event at two inputs go by input number (DEDUCED, log entry 29). -/
def inBefore (a b : DIn) : Bool :=
  if a.time ≠ b.time then decide (a.time < b.time)
  else if a.src ≠ b.src then decide (a.src < b.src)
  else if a.type ≠ b.type then decide (a.type < b.type)
  else decide (a.inp < b.inp)

/-- An input put in its place. -/
def insertIn (e : DIn) : List DIn → List DIn
  | [] => [e]
  | x :: l => if inBefore e x then e :: x :: l else x :: insertIn e l

/-- The inputs of a unit in the order of R199. -/
def State.unitInputs (s : State) (n u : Nat) : List DIn :=
  ((s.dec n).log.filter fun e => decide (s.dbase n u ≤ e.inp) && decide (e.inp < s.dbase n u + s.dcnt n u)).foldl (fun a e => insertIn e a) []

/-- The inputs of a window of a unit, in the order of R199. -/
def State.windowInputs (s : State) (n u w : Nat) : List DIn := (s.unitInputs n u).filter fun e => e.time / s.dwin n u = w

/-- R321: one class of a VOTE: its score, its threshold crossing and its last counted input. -/
def voteClass (vw : Bool) (thr : Nat) : List DIn → Nat → Option DIn → Option DIn → Nat × Option DIn × Option DIn
  | [], sc, x, y => (sc, x, y)
  | e :: l, sc, x, _ =>
    let sc := min (sc + (if vw then e.pay else 1)) 65535
    voteClass vw thr l sc (if x.isNone && decide (thr ≤ sc) then some e else x) (some e)

/-- R321: the better of two classes that crossed. -/
def voteBest (a : Option (Nat × Nat × DIn × Option DIn)) (b : Nat × Nat × DIn × Option DIn) : Option (Nat × Nat × DIn × Option DIn) :=
  match a with
  | none => some b
  | some x => if x.2.1 < b.2.1 || (x.2.1 = b.2.1 && inBefore b.2.2.1 x.2.2.1) then some b else some x

/-- An entry of the presentation queue with its evidence input, or none for EVID 2. -/
def presOf (u w wEnd value score : Nat) (capped : Bool) : Option DIn → PRes
  | some e => ⟨u, w, value, score, e.pay, e.time, e.src, e.type, capped, none, 0, 0⟩
  | none => ⟨u, w, value, score, 0, wEnd, 0x7FFFFF, 0xF, capped, none, 0, 0⟩

/-- R321: VOTE over the inputs of a window. -/
def State.vote (s : State) (n u w : Nat) (evs : List DIn) (capped : Bool) : Option PRes :=
  let cls := (List.range (s.dcnt n u)).foldl (fun a i =>
    let r := voteClass ((s.dcfg n u).bit 5) (s.dthr n u) (evs.filter fun e => e.inp = s.dbase n u + i) 0 none none
    match r.2.1 with
    | some x => voteBest a (i, r.1, x, r.2.2)
    | none => a) none
  cls.map fun c => presOf u w ((w + 1) * s.dwin n u) c.1 c.2.1 capped (if s.devid n u = 0 then some c.2.2.1 else if s.devid n u = 1 then c.2.2.2 else none)

/-- R322: VALUE over the inputs of a window. -/
def State.value (s : State) (n u w : Nat) (evs : List DIn) (capped : Bool) : Option PRes :=
  let acc : Int := evs.foldl (fun a e => a + s.dvwt n u (e.inp - s.dbase n u) * e.pay) 0
  let v := sat (rne acc (s.dshift n u) + s.dvbase n u) 32
  if v.natAbs < s.dthr n u then none
  else some (presOf u w ((w + 1) * s.dwin n u) (toBits v 32) (min evs.length 65535) capped
    (if s.devid n u = 0 then evs.head? else if s.devid n u = 1 then evs.getLast? else none))

/-- R319, R321, R322: the decision of a window. -/
def State.decision (s : State) (n u w : Nat) : Option PRes :=
  let all := s.windowInputs n u w
  if all.isEmpty then none
  else if s.dkind n u = 1 then s.vote n u w (all.take 4096) (decide (4096 < all.length))
  else s.value n u w (all.take 4096) (decide (4096 < all.length))

/-- R323: what an input adds to r, by the weights as it is applied. -/
def State.reconInc (s : State) (n u i pay : Nat) : Int := rne (s.dvwt n u (i - s.dbase n u) * pay) (s.dshift n u)

/-- R323: the reconstructed value at a time, before the narrowing to N bits: VBASE of the enable, and every input with a time at most `t` in the order of
R199. -/
def State.recon (s : State) (n u : Nat) (t : Int) : Int :=
  ((s.unitInputs n u).filter fun e => decide ((e.time : Int) ≤ t)).foldl (fun r e => sat (r + e.inc) 32) ((s.dec n).vbase[u]?.getD 0)

/-! ### Windows -/

/-- P of a channel. -/
def State.presLat (s : State) (n : Nat) : Nat := s.rdN (chdec n) 0x040

/-- The safe time S a channel keeps. -/
def State.chanS (s : State) (n : Nat) : Nat := (s.source (s.owner (chin n)) (0x120 + n)).s
/-- The time M a channel keeps. -/
def State.chanM (s : State) (n : Nat) : Nat := (s.source (s.owner (chin n)) (0x120 + n)).m

/-- The state with a channel's decoders replaced: PQ_LEVEL and PQ_SPILL follow the presentation queue (R326). -/
def State.putDec (s : State) (n : Nat) (d : Dec) : State :=
  ((s.setDec n d).wrN (chdec n) 0x084 d.pq.length).setFlag (chdec n) 0x00C 2 (decide (2048 < d.pq.length))

/-! ### The presentation queue -/

/-- R325: the order of releases; a formed result not yet confirmed counts with the instant te + P at which it would be on time. -/
def presAt (pres : Nat) (x : PRes) : Nat := match x.conf with | some r => r.1 | none => x.te + pres

/-- A result put in its place in the order of release. -/
def insertPres (pres : Nat) (x : PRes) : List PRes → List PRes
  | [] => [x]
  | y :: l =>
    if presAt pres x < presAt pres y || (presAt pres x = presAt pres y && decide (x.te < y.te)) then x :: y :: l else y :: insertPres pres x l

/-- An entry of the presentation queue in the stacks, 64 bytes: the evidence time and the release instant, the value, score and payload, the evidence
source and type, the unit and the window (log entry 30). -/
def presEntry (x : PRes) : Nat :=
  x.te % 2 ^ 64 + (match x.conf with | some r => r.1 % 2 ^ 64 | none => 0) * 2 ^ 64 +
    (x.value % 2 ^ 32 + x.score % 2 ^ 16 * 2 ^ 32 + x.pay % 2 ^ 8 * 2 ^ 48 + b2n x.capped * 2 ^ 56) * 2 ^ 128 +
    (x.src % 2 ^ 32 + x.type % 16 * 2 ^ 32 + x.unit % 4 * 2 ^ 36 + x.fate % 8 * 2 ^ 40 + x.seq % 2 ^ 16 * 2 ^ 48) * 2 ^ 192 + x.w % 2 ^ 64 * 2 ^ 256

/-- R326: the entries of the presentation queue beyond the 2,048 on die stand in the stack area in release order. -/
def State.spillPq (s : State) (n : Nat) : State :=
  let d := s.dec n
  if d.pq.length ≤ 2048 then s
  else
    let a := s.rd64 (chdec n) 0x06C
    (((d.pq.foldl (fun l x => insertPres (s.presLat n) x l) []).drop 2048).zipIdx).foldl (fun s e =>
      s.ownPut (s.owner (chin n)) (a + 64 * e.2) 64 (presEntry e.1)) s

/-- R316, R337: may a window with this end be confirmed? -/
def State.confirmable (s : State) (n wEnd : Nat) : Bool :=
  decide (wEnd ≤ s.chanM n) && (s.dec n).replay.all fun r => decide (wEnd ≤ r.2.1) || decide (wEnd ≤ r.2.2)

/-- R316: a unit forms (or forms anew) the decision of a window. -/
def State.formWindow (s : State) (n u w : Nat) : State :=
  let d := s.dec n
  let pq := d.pq.filter fun x => !(x.unit = u && x.w = w)
  (s.putDec n { d with pq := match s.decision n u w with | some r => pq ++ [r] | none => pq }).spillPq n

/-- R316, R324: a unit confirms the decision of a window: its result's release instant is settled. -/
def State.confirmWindow (s : State) (n u w : Nat) : State :=
  let d := s.dec n
  let rel (x : PRes) : Nat × Bool := if s.now + 1024 ≤ x.te + s.presLat n then (x.te + s.presLat n, false) else (s.now + 1024, true)
  let t := if d.pq.any (fun x => x.unit = u && x.w = w) then s.wrN (chdec n) (0x214 + 0x20 * u) w else s
  (t.putDec n { d with conf := d.conf ++ [(u, w)], pq := d.pq.map fun x => if x.unit = u && x.w = w then { x with conf := some (rel x) } else x }).spillPq n

/-- R316: a window with inputs is formed once S has reached its end, and confirmed once it may be. A window that a stop with DISCARD has cut off gives
none (R353). -/
def State.stepWindow (s : State) (n u w : Nat) : State :=
  let wEnd := (w + 1) * s.dwin n u
  if (s.dec n).conf.contains (u, w) || decide (wEnd ≤ (s.dec n).cut) then s
  else
    let c := s.confirmable n wEnd
    let s := if (decide (wEnd ≤ s.chanS n) || c) && !(s.dec n).pq.any (fun x => x.unit = u && x.w = w) then s.formWindow n u w else s
    if c then s.confirmWindow n u w else s

/-- The windows of a unit that have inputs, in the order of their ends. -/
def State.openWindows (s : State) (n u : Nat) : List Nat := ((s.unitInputs n u).map fun e => e.time / s.dwin n u).eraseDups

/-- R316: S, M or a replay front has moved. -/
def State.decAdvance (s : State) (n : Nat) : State :=
  (List.range 4).foldl (fun s u =>
    if s.dkind n u = 1 || s.dkind n u = 2 then (s.openWindows n u).foldl (fun s w => s.stepWindow n u w) s else s) s

/-! ### Inputs -/

/-- R314: an input is refused. -/
def State.inputErr (s : State) (n i ty : Nat) : State := (s.err (chdec n) 3 0x0D0 (i % 256 + ty % 16 * 256)).raise (chdec n) 10

/-- R318: an input to a confirmed window. -/
def State.lateInput (s : State) (n i : Nat) : State := ((s.err (chdec n) 3 0x0D1 i).incCtr (chdec n) 0x094).raise (chdec n) 4

/-- R314, R316 to R318, R337, R338: an accepted input is applied to its unit. -/
def State.applyInput (s : State) (n u : Nat) (e : DIn) : State :=
  let d := s.dec n
  let logged := s.setDec n { d with log := d.log ++ [e] }
  let w := e.time / s.dwin n u
  let wEnd := (w + 1) * s.dwin n u
  if s.dkind n u = 3 || decide (wEnd ≤ d.cut) then logged
  else
    let exempt := d.replay.any fun r => r.1 = e.src / 2 ^ 15 && decide (r.2.1 ≤ e.time)
    if d.rel.contains (u, w) then (if exempt then s else s.lateInput n e.inp)
    else if d.conf.contains (u, w) || (s.confirmable n wEnd && !exempt) then s.lateInput n e.inp
    else
      let formed := decide (wEnd ≤ s.chanS n)
      let again := formed && !(s.windowInputs n u w).isEmpty
      let s := if again then
          ((logged.setDec n { logged.dec n with reform := (u, w) :: d.reform.filter (· ≠ (u, w)) }).incCtr (chdec n) 0x090).raise (chdec n) 3
        else logged
      let s := if formed then s.formWindow n u w else s
      s.stepWindow n u w

/-- An acceptance notice goes back to the source of an event flit: it names the pair, or the tree, and the sequence number (R195). -/
def State.notice (s : State) (e : Nat) (f : Flit) : State :=
  let dest := if 0x180 ≤ f.dest then f.dest else s.seqIndex f.key e
  let src := if isCab f.src then
      (match s.logicalAny f.key f.src with
        | some c => if (s.mapEntry f.key c).parked then f.src else (s.mapEntry f.key c).phys
        | none => f.src)
    else f.src
  { s with notices := s.notices ++ [⟨src, dest, f.key, f.vc, f.seq⟩] }

/-- The capacity of an area of the decoders in entries of `b` bytes: 2^SIZE bytes, or none (Table 12.3; log entry 30). -/
def State.areaEntries (s : State) (n o b : Nat) : Nat :=
  let z := s.fld (chdec n) o 4 0
  if z = 0 then 0 else 2 ^ z / b

/-- R314, R315: the inputs of the log still needed: those of a window that is not released, and those of a RECON unit that are younger than P (log entry
30). -/
def State.logLive (s : State) (n : Nat) : Nat :=
  ((s.dec n).log.filter fun e => match s.inputUnit n e.inp with
    | some u => if s.dkind n u = 3 then decide (s.now ≤ e.time + s.presLat n) else !(s.dec n).rel.contains (u, e.time / s.dwin n u)
    | none => false).length

/-- R315: the input log and the presentation queue have room for another input (log entry 30). -/
def State.inputRoom (s : State) (n : Nat) : Bool :=
  decide (s.logLive n < s.areaEntries n 0x068 32) && decide ((s.dec n).pq.length < 2048 + s.areaEntries n 0x074 64)

/-- An entry of the input log in the stacks: time, source, input with payload and type, and its place in the order of R199 (log entry 30). -/
def logEntry (e : DIn) (place : Nat) : Nat :=
  e.time % 2 ^ 64 + e.src % 2 ^ 64 * 2 ^ 64 + (e.inp % 2 ^ 8 + e.pay % 2 ^ 8 * 2 ^ 8 + e.type % 2 ^ 4 * 2 ^ 16) * 2 ^ 128 + place % 2 ^ 64 * 2 ^ 192

/-- R314: an accepted input is written in the input log at LOG_BASE, around the area; where the region takes no write of the owner's it stays unwritten. -/
def State.writeLog (s : State) (n : Nat) (e : DIn) : State :=
  let d := s.dec n
  let a := s.rd64 (chdec n) 0x060 + 32 * (d.logN % s.areaEntries n 0x068 32)
  let t := s.setDec n { d with logN := d.logN + 1 }
  t.ownPut (s.owner (chin n)) a 32 (logEntry e (d.log.filter fun x => inBefore x e).length)

/-- R314, R315: the endpoint takes the next input. While the input log, the path to it (`room`, log entry 30) or the presentation queue of an enabled
channel has no room it takes no flit, and HOLDING is 1; a disabled channel keeps no log and discards what reaches it. -/
def execDecoderInput (n : Nat) (room : Bool) (s : State) : Result :=
  match s.inbox.find? (fun a => a.dest = 0x120 + n && a.flit.kind = 0) with
  | none => done s
  | some a =>
    let pl := a.flit.payload
    let u := s.inputUnit n (evAxon pl)
    let good := s.chanOn n && (evType pl = 0 || evType pl = 5) && u.isSome
    if s.chanOn n && !(room && s.inputRoom n) then done (s.setFlag (chdec n) 0x00C 1 true)
    else
      let s := ({ s with inbox := s.inbox.erase a }.notice (0x120 + n) a.flit).setFlag (chdec n) 0x00C 1 false
      match u with
      | some u =>
        if good then
          let e : DIn := ⟨rebuild (evTime pl) s.now, evSource pl, evAxon pl, evPay pl, evType pl, s.reconInc n u (evAxon pl) (evPay pl)⟩
          done ((s.writeLog n e).applyInput n u e)
        else done (s.inputErr n (evAxon pl) (evType pl))
      | none => done (s.inputErr n (evAxon pl) (evType pl))

/-! ### The result FIFO -/

/-- Words of records written and not committed: three of each. -/
def Dec.openWords (d : Dec) : Nat := 3 * (d.pq.filter fun x => x.fate = 1).length

/-- RF_LEVEL: words present, open records included (Table 12.5). -/
def Dec.level (d : Dec) : Nat := d.fifo.recs.foldl (fun a r => a + r.words.length) 0 + d.openWords

/-- The state with the decoders replaced: RF_LEVEL and RF_RECORDS follow, and the level cause under R78. -/
def State.putRf (s : State) (n : Nat) (d : Dec) : State :=
  let thr := s.fld (chdec n) 0x0C4 15 0
  let fire := d.fifo.lvlArmed && decide (thr ≤ d.level)
  let d := { d with fifo := { d.fifo with lvlArmed := if d.level < thr then true else d.fifo.lvlArmed && !fire } }
  let s := ((s.putDec n d).wrN (chdec n) 0x0C8 d.level).wrN (chdec n) 0x0CC d.fifo.recs.length
  if fire then s.raise (chdec n) 0 else s

/-- Are four words of the result FIFO free (R333)? A record already written has its fourth word kept for it. -/
def Dec.room (d : Dec) : Bool := decide (d.level + (d.pq.filter fun x => x.fate = 1).length + 4 ≤ 32768)

/-- R325: the order of releases. -/
def presBefore (a b : PRes) : Bool :=
  match a.conf, b.conf with
  | some x, some y =>
    if x.1 ≠ y.1 then decide (x.1 < y.1)
    else if a.te ≠ b.te then decide (a.te < b.te)
    else if a.src ≠ b.src then decide (a.src < b.src)
    else if a.type ≠ b.type then decide (a.type < b.type)
    else decide (a.unit < b.unit)
  | some _, none => true
  | _, _ => false

/-- The first of a list of results in the order of release. -/
def firstPres (l : List PRes) : Option PRes :=
  l.foldl (fun a x => match a with | none => some x | some y => if presBefore x y then some x else some y) none

/-- The confirmed results not released yet. -/
def Dec.toRelease (d : Dec) : List PRes := d.pq.filter fun x => x.conf.isSome && x.fate ≠ 4

/-- A queue entry replaced. -/
def Dec.put (d : Dec) (x y : PRes) : Dec := { d with pq := d.pq.replace x y }

/-- The SEQ a result not yet released will take (R325). -/
def Dec.seqOf (d : Dec) (x : PRes) : Nat := (d.seq + (d.toRelease.filter fun y => presBefore y x).length) % 65536

/-- R335: a record cannot be written. -/
def State.badRecord (s : State) (n seq : Nat) : State :=
  ((((s.incCtr (chdec n) 0x0E8).err (chdec n) 2 0x032 seq).raise (chdec n) 8).report (chdec n) 0x032).pairFault n s.now s.now

/-- R333: in the 1,024 fu before its release the record of the next result is written, where there is room. `bad`: it cannot be written, because its
queue entry is unreadable (true) or a FIFO word fails its write check (false) (R335). -/
def execRecordWrite (n : Nat) (bad : Option Bool) (s : State) : Result :=
  let d := s.dec n
  match firstPres (d.toRelease.filter fun x => x.fate = 0) with
  | none => done s
  | some x =>
    match x.conf with
    | none => done s
    | some (r, _) =>
      if !s.chanOn n || decide (s.now + 1024 < r) then done s
      else match bad with
        | some e => done ((s.putRf n (d.put x { x with fate := if e then 3 else 2 })).badRecord n (d.seqOf x))
        | none => if d.room && !d.pq.any (fun y => y.fate = 4) then done (s.putRf n (d.put x { x with fate := 1 })) else done s

/-- Table 12.1: the words of a result record. -/
def resultWords (x : PRes) (kind r seq : Nat) (late held reformed : Bool) : List Nat :=
  [x.te, r, x.value % 2 ^ 32 + x.score % 65536 * 2 ^ 32 + x.pay % 256 * 2 ^ 48,
   seq % 65536 + x.unit * 2 ^ 16 + kind * 2 ^ 18 + b2n late * 2 ^ 21 + b2n held * 2 ^ 22 + b2n reformed * 2 ^ 23 + b2n x.capped * 2 ^ 24 +
     x.w % 2 ^ 32 * 2 ^ 32]

/-- R333: a record commits: word 3 is written with END. -/
def State.commitRecord (s : State) (n : Nat) (x : PRes) (seq : Nat) (held : Bool) : State :=
  let d := s.dec n
  let r := x.conf.getD (0, false)
  let words := resultWords x (s.dkind n x.unit) r.1 seq r.2 held (d.reform.contains (x.unit, x.w))
  (s.putRf n { d with pq := d.pq.erase x, fifo := { d.fifo with recs := d.fifo.recs ++ [⟨words, 1, x.te, r.1⟩] } }).incCtr (chdec n) 0x088

/-- R327: R − TRIG_SKEW, the time at which the leading edge for a release at `r` crosses the ball. -/
def State.trigEdge (s : State) (n r : Nat) : Int := (r : Int) - ofBits (s.fld (chdec n) 0x050 15 0) 16

/-- R327: does TRIG_CFG select a unit: EN and UNITS? -/
def State.trigOn (s : State) (n u : Nat) : Bool := s.flag (chdec n) 0x04C 5 && (s.fld (chdec n) 0x04C 3 0).testBit u

/-- R335: does a result of the queue drive TRIG_OUT at its release: its unit is selected, and its entry was not unreadable? -/
def State.trigs (s : State) (n : Nat) (x : PRes) : Bool := x.fate ≠ 3 && s.trigOn n x.unit

/-- The leading edges of confirmed results not released yet. -/
def State.edgesAhead (s : State) (n : Nat) : List Int :=
  ((s.dec n).toRelease.filter (s.trigs n)).filterMap fun x => x.conf.map fun r => s.trigEdge n r.1

/-- R327: is TRIG_OUT[n] at its active level now? A release drives it from R − TRIG_SKEW on, which may lie before R, for WIDTH fu; with EN = 0, or while
the channel is disabled, it is inactive. -/
def State.trigActive (s : State) (n : Nat) : Bool :=
  let d := s.dec n
  s.chanOn n && s.flag (chdec n) 0x04C 5 &&
    ((match d.pulse with | some (a, _) => d.pin && decide (a ≤ (s.now : Int)) | none => false) ||
      (s.edgesAhead n).any fun a => decide (a ≤ (s.now : Int)) && decide ((s.now : Int) < a + s.fld (chdec n) 0x04C 31 16))

/-- R327, R328: the level of the TRIG_OUT[n] ball: the active level as POL selects it; it floats while D_CHn is OFF. -/
def State.trigOut (s : State) (n : Nat) : Option Bool :=
  if (s.dom (chin n).dom).cur = .off then none else some (s.trigActive n != s.flag (chdec n) 0x04C 4)

/-- R327, R328: TRIG_OUT for a release at `r`: a pulse, or the extension of the one before. -/
def State.trigPulse (s : State) (n r : Nat) : State :=
  let p := chdec n
  let edge := s.trigEdge n r
  let stop := edge + s.fld p 0x04C 31 16
  let d := s.dec n
  match d.pulse with
  | some (a, e) =>
    if edge < e + 64 then ((s.setDec n { d with pulse := some (a, stop), pin := true }).incCtr p 0x0A8).raise p 9
    else (s.setDec n { d with pulse := some (edge, stop), pin := true }).incCtr p 0x0A4
  | none => (s.setDec n { d with pulse := some (edge, stop), pin := true }).incCtr p 0x0A4

/-- R331: does ANN place a bit for a unit? -/
def State.annOn (s : State) (n u : Nat) : Bool :=
  let a := s.fld (chdec n) 0x058 (8 * u + 7) (8 * u)
  a.testBit 5 && decide (a / 16 % 2 < cfgCS (s.chan n).tx.cfg0)

/-- R331: does the annotation of a release at `r` fall on this transmit sample? -/
def annFalls (x : TxSample) (r : Nat) : Bool := decide ((r : Int) ≤ x.tau) && (match x.prev with | some p => decide (p < r) | none => true)

/-- R331: the annotation bit ORed into a sample's streams. -/
def annSample (mask bit : Nat) (x : TxSample) : TxSample :=
  { x with vals := x.vals.zipIdx.map fun v => if mask.testBit v.2 then (v.1.1, v.1.2 ||| 2 ^ bit) else v.1 }

/-- R331: the annotation of a release: in a sample already fixed, or kept for one to come. -/
def State.annotate (s : State) (n u r : Nat) : State :=
  let d := s.dec n
  let a := s.fld (chdec n) 0x058 (8 * u + 7) (8 * u)
  if !s.annOn n u then s
  else if d.fixed.any (annFalls · r) then
    s.setDec n { d with fixed := d.fixed.map fun x => if annFalls x r then annSample (a % 16) (a / 16 % 2) x else x }
  else s.setDec n { d with ann := d.ann ++ [(r, u)] }

/-- R324 to R328: what leaves with a released result: the count, the late mark, the trigger pulse and the annotation. -/
def State.releaseOut (s : State) (n : Nat) (x : PRes) (r : Nat) (late : Bool) : State :=
  let s := s.incCtr (chdec n) (0x210 + 0x20 * x.unit)
  let s := if late then (s.incCtr (chdec n) 0x08C).raise (chdec n) 2 else s
  let s := if s.trigs n x then s.trigPulse n r else s
  if x.fate ≠ 3 then s.annotate n x.unit r else s

/-- R324, R333: the record of a released result commits, waits for room under HOLD, or is dropped; a bad or cancelled one leaves the queue. `bad`: a word
that it commits with fails its write check, or its queue entry is unreadable (R335). -/
def State.releaseRecord (s : State) (n : Nat) (x : PRes) (q : Nat) (bad : Bool) : State :=
  let d := s.dec n
  if bad && (x.fate = 1 || (x.fate = 0 && d.room && !d.pq.any (fun y => y.fate = 4))) then (s.putRf n { d with pq := d.pq.erase x }).badRecord n q
  else if x.fate = 1 || (x.fate = 0 && d.room && !d.pq.any (fun y => y.fate = 4)) then s.commitRecord n x q false
  else if x.fate = 2 || x.fate = 3 then s.putRf n { d with pq := d.pq.erase x }
  else if s.flag (chdec n) 0x0C0 1 then ((s.putRf n { d with pq := d.pq.erase x }).incCtr (chdec n) 0x0E0).raise (chdec n) 7
  else (s.putRf n (d.put x { x with fate := 4, seq := q })).incCtr (chdec n) 0x0E4

/-- R324, R325, R333: the next result is released: its record commits, waits or is dropped, and the trigger and the annotation fall. Where its words are
still to be written the entry may be unreadable, and then neither falls (R335). -/
def execResultRelease (a : ChanBad) (s : State) : Result :=
  let n := a.n
  let d := s.dec n
  match firstPres d.toRelease with
  | none => done s
  | some y =>
    let x := if y.fate = 0 && a.bad = some true && d.room && !d.pq.any (fun z => z.fate = 4) then { y with fate := 3 } else y
    let s := if x = y then s else (s.setDec n (d.put y x)).badRecord n d.seq
    let d := s.dec n
    match x.conf with
    | none => done s
    | some (r, late) =>
      if !s.chanOn n || !s.ready (chin n) || decide (s.now < r) then done s
      else
        done (((s.setDec n { d with seq := (d.seq + 1) % 65536, rel := d.rel ++ [(x.unit, x.w)] }).releaseOut n x r late).releaseRecord n x d.seq a.bad.isSome)

/-- R333, R335: under HOLD the first record that waits commits once four words are free, or is bad. -/
def execRecordHeldCommit (a : ChanBad) (s : State) : Result :=
  let d := s.dec a.n
  match firstPres (d.pq.filter fun x => x.fate = 4) with
  | none => done s
  | some x =>
    if !d.room then done s
    else if a.bad.isSome then done ((s.putRf a.n { d with pq := d.pq.erase x }).badRecord a.n x.seq)
    else done (s.commitRecord a.n x x.seq true)

/-- R327, R328: WIDTH fu after the leading edge the pin returns inactive; where the edge of a result to come falls less than 64 fu after that, it stays
active until that release extends it. -/
def execTrigOutEnd (n : Nat) (s : State) : Result :=
  let d := s.dec n
  match d.pulse with
  | some (_, e) =>
    if d.pin && decide (e ≤ (s.now : Int)) && !(s.edgesAhead n).any (fun a => decide (a < e + 64)) then done (s.setDec n { d with pin := false }) else done s
  | none => done s

/-! ### Reading the result FIFO (R334) -/

/-- The pop latch: RF_POP_HI and RF_POP_INFO. -/
def State.rfLatch (s : State) (n hi info : Nat) : State := (s.wrN (chdec n) 0x0D8 hi).wrN (chdec n) 0x0DC info

/-- R334: a read of RF_POP_LO; `ecc` is how the word reads. -/
def rfPop (n : Nat) (ecc : EccRead) (s : State) : Nat × State :=
  let d := s.dec n
  let f := d.fifo
  let p := chdec n
  if s.flag p 0x0C0 0 then (0, (s.rfLatch n 0 8).err p 5 0x014 0)
  else match f.recs with
  | [] => (0, s.rfLatch n 0 4)
  | r :: rest =>
    match r.words with
    | [] => (0, s.rfLatch n 0 4)
    | w :: ws =>
      let last := ws.isEmpty
      let mark := if last then r.mark else 0
      let s := match ecc with
        | .clean => s
        | .corrected _ => ((s.err p 1 0x030 f.addr).raise p 11).pairFault n s.now s.now
        | .uncorrectable _ _ => ((s.err p 2 0x031 f.addr).raise p 12).pairFault n s.now s.now
      let v := match ecc with | .uncorrectable x _ => w ^^^ (x % 2 ^ 64) | _ => w
      let bad := match ecc with | .uncorrectable _ m => m | _ => false
      let info := (if bad then 2 else mark) + (match ecc with | .uncorrectable _ _ => 16 | _ => 0)
      let f := { f with recs := if last then rest else { r with words := ws } :: rest, mid := !last, afterFalse := bad && !last
                        addr := (f.addr + 1) % 32768 }
      (v % 2 ^ 32, (s.rfLatch n (v / 2 ^ 32) info).putRf n { d with fifo := f })

/-- R334: a read of RF_POP_LO. -/
def execRfPop (r : Req) (n : Nat) (ecc : EccRead) (s : State) : Result := gatedRead r (chdec n) s (rfPop n ecc)

/-- R334: DROP_REST. -/
def rfDropRest (n : Nat) (s : State) : State :=
  let d := s.dec n
  match d.fifo.recs with
  | [] => s
  | r :: rest => s.putRf n { d with fifo := { d.fifo with recs := rest, mid := false, afterFalse := false, addr := (d.fifo.addr + r.words.length) % 32768 } }

/-- R334: FLUSH. -/
def rfFlush (n : Nat) (s : State) : State :=
  let d := s.dec n
  let len := d.fifo.recs.foldl (fun a r => a + r.words.length) 0
  s.putRf n { d with fifo := { d.fifo with recs := [], mid := false, afterFalse := false, addr := (d.fifo.addr + len) % 32768 } }

/-- A write of RF_CMD (Table 12.5). -/
def rfCmdWrite (n : Nat) (w : Word) (s : State) : State :=
  match w.bits 3 0 with
  | 0 => s
  | 1 => rfDropRest n s
  | 3 => rfFlush n s
  | _ => s.badEnc (chdec n) 0x0D0

/-- R334: a write of RF_CMD = DROP_REST. -/
def execRfDropRest (r : Req) (n : Nat) (s : State) : Result := gated r (chdec n) 0x0D0 s (rfCmdWrite n 1)

/-- R334: a write of RF_CMD = FLUSH. -/
def execRfFlush (r : Req) (n : Nat) (s : State) : Result := gated r (chdec n) 0x0D0 s (rfCmdWrite n 3)

/-- R334, R78: a write of RF_THR arms or disarms the level cause. -/
def rfThrWrite (n : Nat) (w : Word) (s : State) : State :=
  let s := s.setFld (chdec n) 0x0C4 15 0 (w.bits 15 0)
  let d := s.dec n
  s.setDec n { d with fifo := { d.fifo with lvlArmed := decide (d.level < w.bits 15 0) } }

/-- R334: a write of RF_THR. -/
def execRfThrWrite (r : Req) (n : Nat) (w : Word) (s : State) : Result := gated r (chdec n) 0x0C4 s (rfThrWrite n w)

/-- R334, R82: the oldest record goes into the host ring once it has room; RDMA_WPTR advances and RDMA_REC is raised. -/
def execRdmaRecordCopy (n : Nat) (s : State) : Result :=
  let p := chdec n
  let d := s.dec n
  match d.fifo.recs with
  | [] => done s
  | r :: rest =>
    let size := 2 ^ s.fld p 0x0F8 4 0
    let w := s.rdN p 0x0FC
    let need := 8 * r.words.length
    if s.flag p 0x0C0 0 && d.fifo.atBoundary && !d.fifo.afterFalse && ringUsed size w (s.rdN p 0x100) + need < size then
      let s := s.hostRingWords (s.rd64 p 0x0F0) size w r.words
      let s := s.putRf n { d with fifo := { d.fifo with recs := rest, addr := (d.fifo.addr + r.words.length) % 32768 } }
      done ((s.wrN p 0x0FC ((w + need) % size)).raise p 1)
    else done s

/-! ### Rewind and replay -/

/-- The first MGMT flit with an opcode that has reached an endpoint. -/
def State.mgmtAt (s : State) (e op : Nat) : Option Arrival := s.inbox.find? fun a => a.dest = e && a.flit.kind = 5 && nb a.flit.payload 127 120 = op

/-- R336, R338: REWIND of Cabinet `c` from `t`. -/
def State.rewind (s : State) (n c t : Nat) : State :=
  let d := s.dec n
  let win (e : DIn) : Option (Nat × Nat) :=
    (s.inputUnit n e.inp).bind fun u => if s.dkind n u = 3 then none else if t < (e.time / s.dwin n u + 1) * s.dwin n u then some (u, e.time / s.dwin n u) else none
  let touched := (d.log.filterMap win).eraseDups
  let late := d.rel.filter fun x => decide (t < (x.2 + 1) * s.dwin n x.1)
  let gone := d.pq.filter fun x => x.fate ≠ 4 && decide (t < (x.w + 1) * s.dwin n x.unit)
  let s := late.foldl (fun s x => ((s.err (chdec n) 4 0x0D2 x.1).incCtr (chdec n) 0x098).raise (chdec n) 5) s
  let s := s.addCtr (chdec n) 0x0EC (gone.filter fun x => x.fate = 1).length
  let d := { d with
    log := d.log.filter fun e => !(e.src / 2 ^ 15 = c && decide (t ≤ e.time))
    pq := d.pq.filter fun x => !gone.contains x
    conf := d.conf.filter fun x => d.rel.contains x || decide ((x.2 + 1) * s.dwin n x.1 ≤ t)
    reform := d.reform ++ (touched.filter fun x => !d.rel.contains x && !d.reform.contains x)
    replay := (c, t, t) :: d.replay.filter fun r => r.1 ≠ c }
  ((s.putRf n d).setFlag (chdec n) 0x00C 0 true).decAdvance n

/-- R336: the REWIND flit reaches the channel. -/
def execRewind (n : Nat) (s : State) : Result :=
  match s.mgmtAt (0x120 + n) 0x30 with
  | none => done s
  | some a => done ({ s with inbox := s.inbox.erase a }.rewind n (nb a.flit.payload 71 64) (rebuild (nb a.flit.payload 119 72) s.now))

/-- R336: the FRONT flit raises the replay front of a replaying Cabinet. -/
def execFront (n : Nat) (s : State) : Result :=
  match s.mgmtAt (0x120 + n) 0x31 with
  | none => done s
  | some a =>
    let c := nb a.flit.payload 71 64
    let t := rebuild (nb a.flit.payload 119 72) s.now
    let s := { s with inbox := s.inbox.erase a }
    let d := s.dec n
    done ((s.setDec n { d with replay := d.replay.map fun r => if r.1 = c then (c, r.2.1, max r.2.2 t) else r }).decAdvance n)

/-- R336: the REPLAY_END flit clears the mark of a replaying Cabinet. -/
def execReplayEnd (n : Nat) (s : State) : Result :=
  match s.mgmtAt (0x120 + n) 0x32 with
  | none => done s
  | some a =>
    let s := { s with inbox := s.inbox.erase a }
    let d := s.dec n
    let l := d.replay.filter fun r => r.1 ≠ nb a.flit.payload 71 64
    done (((s.setDec n { d with replay := l }).setFlag (chdec n) 0x00C 0 (!l.isEmpty)).decAdvance n)

/-! ### The transmit stream -/

/-- R329: a delayed sample of receive stream `k` at time `t`: its value and control bits, or none in a gap or where the delay area holds it no more. A
sample's instant lasts one sample period (DEDUCED, log entry 31). -/
def State.delayed (s : State) (n k : Nat) (t : Int) : Option (Int × Nat) :=
  let c := s.chan n
  match ((s.dec n).delay.filter fun e => decide ((e.1 : Int) ≤ t)).foldl (fun (b : Option (Nat × List Nat)) e =>
      match b with | none => some e | some x => if e.1 < x.1 then some x else some e) none with
  | none => none
  | some e =>
    if (e.1 : Int) + (c.link.num + c.link.den - 1) / c.link.den ≤ t then none
    else e.2[k]?.map (sampleValue c.link)

/-- R329, R330: the content of stream `m` of a transmit sample with ball time `tau`. A value wider than the transmit resolution is not given by the
spec: a free value of the sample (log entry 31). -/
def State.txContent (s : State) (n m : Nat) (tau : Int) : (Nat × Nat) × State :=
  let p := chdec n
  let src := s.fld p 0x054 (8 * m + 1) (8 * m)
  let sel := s.fld p 0x054 (8 * m + 3) (8 * m + 2)
  let tx := (s.chan n).tx
  let w := cfgN tx.cfg0
  let t := tau - s.presLat n
  if src = 1 then
    match s.delayed n sel t with
    | none => ((0, 0), s.incCtr p 0x0A0)
    | some v =>
      let ctrl := v.2 % 2 ^ cfgCS tx.cfg0
      if cfgN (s.chan n).link.cfg0 ≤ w then ((toBits v.1 w, ctrl), s)
      else (((Config.txNarrow (cfgN (s.chan n).link.cfg0) w v.1).toNat % 2 ^ w, ctrl), s)
  else if src = 2 then
    let late := decide ((s.chanM n : Int) ≤ t)
    let s' := if late then (s.incCtr p 0x09C).raise p 6 else s
    ((toBits (sat (s.recon n sel t) w) w, 0), s')
  else ((0, 0), s)

/-- The streams of a transmit sample from `m` on. -/
def State.txStreams (s : State) (n : Nat) (tau : Int) : Nat → Nat → List (Nat × Nat) × State
  | 0, _ => ([], s)
  | k + 1, m =>
    let r := s.txContent n m tau
    let rest := State.txStreams r.2 n tau k (m + 1)
    (r.1 :: rest.1, rest.2)

/-- R329 to R331, R92: the next transmit sample's content is fixed 4,096 fu before its ball time. -/
def execTxSample (n : Nat) (s : State) : Result :=
  let c := s.chan n
  let off := ofBits (s.rdN (chin n) 0x18C) 32
  let at' (j : Nat) : Int := stamp ((c.tx.base : Int) + off) c.tx.num c.tx.den j
  let tau := at' c.tx.j
  if s.fld (chin n) 0x198 1 0 ≠ 2 || (s.now : Int) + 4096 < tau then done s
  else
    let r := s.txStreams n tau (cfgM c.tx.cfg0) 0
    let s := r.2.setChan n { c with tx := { c.tx with j := c.tx.j + 1 } }
    let d := s.dec n
    let x : TxSample := ⟨c.tx.j, tau, if c.tx.j = 0 then none else some (at' (c.tx.j - 1)), r.1⟩
    let mine := d.ann.filter fun a => annFalls x a.1
    let x := mine.foldl (fun x a =>
      let w := s.fld (chdec n) 0x058 (8 * a.2 + 7) (8 * a.2)
      annSample (w % 16) (w / 16 % 2) x) x
    let s := s.setDec n { d with ann := d.ann.filter fun a => !mine.contains a, fixed := (d.fixed.filter fun y => decide ((s.now : Int) ≤ y.tau) || d.toRelease.any fun z => annFalls y ((z.conf.getD (0, false)).1)) ++ [x] }
    answer s (.words (x.vals.flatMap fun v => [v.1, v.2]))

/-! ### Enable and disable -/

/-- R320, R340: the checks of the decoders at an enable: the locations that fail. -/
def State.decFailures (s : State) (n : Nat) : List Nat :=
  let p := chdec n
  let units := (List.range 4).filter fun u => s.dkind n u ≠ 0
  let past (u : Nat) : Bool := decide (256 < s.dbase n u + s.dcnt n u)
  let meets (u v : Nat) : Bool := u ≠ v && decide (s.dbase n u < s.dbase n v + s.dcnt n v) && decide (s.dbase n v < s.dbase n u + s.dcnt n u)
  let wide (u : Nat) : Bool := decide (62 * s.dwin n u < (s.cfg (s.owner (chin n))).look) && s.dkind n u ≠ 3
  let txcs := cfgCS (if s.fld (chin n) 0x198 1 0 = 0 then s.rd (chin n) 0x184 else (s.chan n).tx.cfg0)
  let ann (u : Nat) : Bool := (s.fld p 0x058 (8 * u + 7) (8 * u)).testBit 5 && decide (txcs ≤ s.fld p 0x058 (8 * u + 4) (8 * u + 4))
  let src (m : Nat) : Nat × Nat := (s.fld p 0x054 (8 * m + 1) (8 * m), s.fld p 0x054 (8 * m + 3) (8 * m + 2))
  let delayed := (List.range 4).any fun m => (src m).1 = 1
  let num := (s.inForce n).num
  let den := (s.inForce n).den
  let size := s.fld p 0x080 4 0
  (units.filter fun u => past u || units.any (meets u) || wide u) ++ ((List.range 4).filter ann) ++
    (if (List.range 4).any fun m => (src m).1 = 1 && decide (cfgM (s.inForce n).cfg0 ≤ (src m).2) then [0xFF] else []) ++
    ((List.range 4).filter fun m => (src m).1 = 2 && s.dkind n (src m).2 ≠ 3).map (fun m => (src m).2) ++
    (if delayed && (num = 0 || decide (2 ^ size < 16 * ((s.presLat n * den + num - 1) / num + 512)) || size = 0) then [0xFF] else []) ++
    (if (!units.isEmpty && s.fld p 0x068 4 0 = 0) || (units.any (fun u => s.dkind n u ≠ 3) && s.fld p 0x074 4 0 = 0) then [0xFF] else [])

/-- R59, R105, R120, R323: an accepted enable: E is fixed, the settings are taken, and the decoders start anew. Records that wait under HOLD stay (R333). -/
def State.chanEnable (s : State) (n : Nat) : State :=
  let lat := s.fld (chenc n) 0x040 23 0
  let s := s.wrN (chenc n) 0x048 (if lat = 0 then s.encMin n else lat)
  let s := (s.encTake n).setFlag (chin n) 0x008 0 true
  let d := s.dec n
  s.putRf n { d with log := [], conf := [], rel := [], reform := [], pq := d.pq.filter (·.fate = 4), replay := [], ann := [], delay := [], logN := 0
                     dlyN := 0, cut := 0, vbase := (List.range 4).map (s.dvbase n) }

/-- R59, R105, R340: a write of CHIN.PG_CTRL. ENABLE changes only while the owning partition is stopped. The spec leaves open, and the model chooses (log
entry 38), that ENC_LAT_MIN is written at every attempt and ENC_LAT_EFF only at an accepted enable, that a 1 written while ENABLE reads 1 does nothing,
and that CFG_OK tells the checks of the CHENC page alone. -/
def chanCtrlWrite (n : Nat) (w : Word) (s : State) : State :=
  let p := chin n
  let was := s.chanOn n
  if w.bit 0 ≠ was && !s.partStopped (s.owner p) then s.err p 5 0x013 0x008
  else
    let s := s.setFlag p 0x008 2 (w.bit 2)
    if w.bit 0 && !was then
      let s := s.wrN (chenc n) 0x044 (min (s.encMin n) 0xFFFFFF)
      let enc := lowestFailure (s.encFailures n)
      let dec := s.decFailures n
      let s := (match enc with | some e => s.err (chenc n) 5 e.1 e.2 | none => s).setFlag (chenc n) 0x00C 0 enc.isNone
      let s := match dec with | l :: _ => s.err (chdec n) 5 0x0D3 l | [] => s
      if enc.isNone && dec.isEmpty then s.chanEnable n else s
    else if !w.bit 0 && was then
      let c := s.chan n
      let d := (s.dec n)
      ((s.setChan n { c with formed := [], wins := [] }).setDec n { d with pin := false }).setFlag p 0x008 0 false
    else s

/-- R105: a write of CHIN.PG_CTRL with ENABLE = 1. -/
def execChannelEnable (r : Req) (n : Nat) (w : Word) (s : State) : Result := gated r (chin n) 0x008 s (chanCtrlWrite n (w.setBits 0 0 1))

/-- R59: a write of CHIN.PG_CTRL with ENABLE = 0. -/
def execChannelDisable (r : Req) (n : Nat) (w : Word) (s : State) : Result := gated r (chin n) 0x008 s (chanCtrlWrite n (w.setBits 0 0 0))

/-! ### Writes of the channel pages -/

/-- Is the register one of the counters of its page, which a write clears? -/
def isCounter (p : Page) (off : Nat) : Bool := match findRow p.blk off with | some r => r.clears | none => false

/-- The CHIN page (R94). -/
def chinWrite (n off : Nat) (w : Word) (s : State) : State :=
  let p := chin n
  if off = 0x040 then linkCtrlWrite n w s
  else if isLinkReg off || isTxReg off then linkConfigWrite n off w s
  else if off = 0x068 then dlOffsetWrite n w s
  else if off = 0x094 then
    if 4 * w.bits 15 0 % cfgM (s.inForce n).cfg0 = 0 then plainWrite p off w s else s.badEnc p off
  else if off = 0x088 then gapCfgWrite n w s
  else if off = 0x098 then sfifoThrWrite n w s
  else if off = 0x0A4 then sfifoCmdWrite n w s
  else if off = 0x180 then txCtrlWrite n w s
  else if off = 0x1A4 then
    if w ≠ 0 && decide (w.toNat < s.pairHoldMin n) then s.err p 5 0x011 6 else plainWrite p off w s
  else plainWrite p off w s

/-- R418: the fields of U_CFG that a legacy page refuses. -/
def legacyUnit (old w : Word) : Word × Bool :=
  let kind := w.bits 2 0 = 0 || w.bits 2 0 = 1 || w.bits 2 0 = 5
  let pay := w.bits 19 7 = 0
  ((if pay then id else fun (x : Word) => x.setBits 19 7 (old.bits 19 7)) (if kind then w else w.setBits 2 0 (old.bits 2 0)), !(kind && pay))

/-- The CHENC page (R119, R120). -/
def chencWrite (n off : Nat) (w : Word) (s : State) : State :=
  let p := chenc n
  if isCounter p off then plainWrite p off w s
  else if !s.partStopped (s.owner p) then s.refuse p off
  else if s.legacy && 0x080 ≤ off && off < 0x280 && (off - 0x080) % 0x40 = 0 then
    let x := legacyUnit (s.rd p off) w
    let t := plainWrite p off x.1 s
    if x.2 then t.badEnc p off else t
  else plainWrite p off w s

/-- The CHDEC page (R341, R342). A threshold of zero is reserved in VOTE mode (R321). -/
def chdecWrite (n off : Nat) (w : Word) (s : State) : State :=
  let p := chdec n
  if off = 0x0C4 then rfThrWrite n w s
  else if off = 0x0D0 then rfCmdWrite n w s
  else if isCounter p off || off = 0x100 || (0x0D4 ≤ off && off ≤ 0x0DC) then plainWrite p off w s
  else if !s.partStopped (s.owner p) then s.refuse p off
  else if 0x204 ≤ off && off < 0x280 && (off - 0x204) % 0x20 = 0 && s.fld p (off - 4) 2 0 = 1 && w.bits 15 0 = 0 then s.badEnc p off
  else if off = 0x04C && !w.bit 5 then (plainWrite p off w s).setDec n { (plainWrite p off w s).dec n with pin := false }
  else plainWrite p off w s

/-- A write of a register of a channel's CHIN, CHENC or CHDEC page, by the page's rule; an offset that a legacy page does not hold is refused (R418). -/
def chanWrite (p : Page) (off : Nat) (w : Word) (s : State) : State :=
  if s.legacyHides p off then s.badEnc p off
  else match p.blk with
    | .chin => chinWrite p.inst off w s
    | .chenc => chencWrite p.inst off w s
    | _ => chdecWrite p.inst off w s

end Sys2Proof.Machine
end

