-- ==== Sys2Proof/Machine/Rings.lean ====
section
/-!
DEFINITION. Rings.lean: host rings and doorbells (R404 to R408): what a ring holds, its configuration and commands, and what the answer to its
offer does to it.
-/

namespace Sys2Proof.Machine

/-- The HQ page of a function. -/
def hq (f : Nat) : Page := ⟨.hq, f⟩

/-- The number of local rings of a function (R404). -/
def ringCount (f : Nat) : Nat := if f = 0 then 1024 else 16

/-- A ring of a function. -/
def State.hring (s : State) (f i : Nat) : Ring := SMap.get (fun _ => Ring.reset) s.rings (1024 * f + i)

/-- The state with that ring replaced. -/
def State.setHring (s : State) (f i : Nat) (r : Ring) : State := { s with rings := SMap.set (fun _ => Ring.reset) s.rings (1024 * f + i) r }

/-- RING_CFG.EN. -/
def Ring.en (r : Ring) : Bool := r.cfg.bit 0
/-- RING_CFG.KIND. -/
def Ring.kind (r : Ring) : Nat := r.cfg.bits 2 1
/-- 2^LSZ. -/
def Ring.size (r : Ring) : Nat := 2 ^ r.cfg.bits 7 3
/-- Is the device index the head (host to device) or the tail? -/
def Ring.toDevice (r : Ring) : Bool := r.kind % 2 = 0
/-- R404: the occupancy. -/
def Ring.occ (r : Ring) : Nat := (r.tail + 2 * r.size - r.head % (2 * r.size)) % (2 * r.size)
/-- RING_BASE. -/
def Ring.base (r : Ring) : Nat := r.baseLo.toNat + r.baseHi.toNat * 2 ^ 32
/-- The size of an entry (Table 15.8). -/
def Ring.entry (r : Ring) : Nat := if r.kind < 2 then 32 else 8
/-- R404: the partition key a ring carries. -/
def Ring.key (r : Ring) (f : Nat) : Nat := if f = 0 then r.target.bits 29 24 else f
/-- Is the ring enabled and not in ERROR? -/
def Ring.active (r : Ring) : Bool := r.en && r.st = 1

/-- R405: the shadow word of a ring, written to host memory. -/
def State.ringShadow (s : State) (r : Ring) : State :=
  s.hostRing (r.shLo.toNat + r.shHi.toNat * 2 ^ 32) (2 ^ 64) 0 8 ((if r.toDevice then r.head else r.tail) % 2 ^ 17 + b2n (r.st = 2) * 2 ^ 17)

/-- A ring enters ERROR, with an error code of the HQ page. -/
def State.ringError (s : State) (f i code cls st : Nat) : State :=
  let r := s.hring f i
  ((s.setHring f i { r with st := 2, code := st, fail := r.head }).err (hq f) cls code i).raise (hq f) 0

/-- The head of a host-to-device ring advances past its entry, and the shadow is written. -/
def State.ringAdvance (s : State) (f i : Nat) : State :=
  let r := s.hring f i
  let r := { r with head := (r.head + 1) % (2 * r.size), since := none, stalled := false }
  (s.setHring f i r).ringShadow r

/-- R406: the answer to the offer of a ring: on acceptance the head advances, otherwise the ring goes to ERROR. -/
def ringTakes (s : State) (unit st : Nat) : State :=
  let f := (unit - 16) / 1024
  let i := (unit - 16) % 1024
  if st = 0 then s.ringAdvance f i else s.ringError f i 0x0EA 4 st

/-- Table 15.9: a write that arrives poisoned is dropped and recorded, and a malformed one, or one that fails a checked ECRC, is discarded; otherwise it goes
on. -/
def busChecked (f : Nat) (bus : Bus) (s : State) (k : Result) : Result :=
  if s.discards bus then done s else if bus = .poisoned then done (s.errIntg f 3 0x103 f) else k

/-- R388, R389: does a BAR2 access of a function get an answer? -/
def State.bar2Open (s : State) (f : Nat) : Bool := s.boot.resetN && !s.boot.off && s.devState = 2 && !s.inD3 f

/-- R405: a 4-byte write at a BAR2 offset. -/
def doorbellWrite (f off : Nat) (w : Word) (s : State) : Result :=
  let i := off / 0x400
  if off % 0x400 ≠ 0 || decide (ringCount f ≤ i) then done s
  else
    let r := s.hring f i
    let m := 2 * r.size
    let idx := w.bits 16 0 % m
    if !r.en then done (s.incCtr (hq f) 0x08C)
    else if r.toDevice then
      if (idx + m - r.head % m) % m > r.size then done ((s.ringError f i 0x0E9 5 0).raise (hq f) 3)
      else done (s.setHring f i { r with tail := idx })
    else if (idx + m - r.head % m) % m > r.occ then done ((s.ringError f i 0x0E9 5 0).raise (hq f) 3)
    else done (s.setHring f i { r with head := idx })

/-- R390, R410: a write of `size` bytes through BAR2: one of another size than 4 is dropped and recorded, at the HQ page's slot (log entry 58). -/
def bar2Write (f off size : Nat) (w : Word) (bus : Bus) (s : State) : Result :=
  let s := s.received f bus
  busChecked f bus s <|
    if !s.bar2Open f then unsupported f s
    else if size ≠ 4 then done (s.errIntg f 5 0x101 9)
    else doorbellWrite f off w s

/-- R405: a doorbell write of function `f` at a BAR2 offset. -/
def execDoorbell (f off : Nat) (w : Word) (bus : Bus) (s : State) : Result := bar2Write f off 4 w bus s

/-- R390: a read through BAR2 returns zero. -/
def bar2Read (f : Nat) (bus : Bus) (s : State) : Result :=
  let s := s.received f bus
  if s.discards bus then done s else if !s.bar2Open f then unsupported f s else answer s (.data 0)

/-- The local ring that RING_SEL names, where the function has it (R422). -/
def State.ringSel (s : State) (f : Nat) : Option Nat :=
  let i := s.fld (hq f) 0x040 9 0
  if i < ringCount f then some i else none

/-- R404: does another enabled ring of KIND 1 or 3 drain the same logical Cabinet of the same partition? -/
def State.ringTaken (s : State) (f i : Nat) (x : Ring) : Bool :=
  s.rings.any fun e => e.1 ≠ 1024 * f + i && e.2.en && !e.2.toDevice && e.2.key (e.1 / 1024) = x.key f && e.2.target.bits 7 0 = x.target.bits 7 0

/-- R404, Table 15.17: a write of RING_CFG. While EN is 1 only EN can be cleared (DEDUCED, log entry 28). -/
def ringCfgWrite (f : Nat) (w : Word) (s : State) : State :=
  match s.ringSel f with
  | none => s.errIntg f 6 0x102 9
  | some i =>
    let r := s.hring f i
    if r.en then
      if w.bit 0 then s.refuse (hq f) 0x044
      else s.setHring f i { r with cfg := r.cfg.setBits 0 0 0, st := if r.st = 1 then 0 else r.st }
    else
      let kindOk := decide (w.bits 2 1 < 2) || s.legacy
      let sizeOk := decide (2 ≤ w.bits 7 3) && decide (w.bits 7 3 ≤ 16)
      let c := (if kindOk then r.cfg.setBits 2 1 (w.bits 2 1) else r.cfg).setBits 8 8 (w.bits 8 8)
      let x := { r with cfg := if sizeOk then c.setBits 7 3 (w.bits 7 3) else c }
      let s := if kindOk && sizeOk then s else s.badEnc (hq f) 0x044
      if !w.bit 0 then s.setHring f i x
      else if !x.toDevice && s.ringTaken f i x then (s.setHring f i x).err (hq f) 5 0x0E8 i
      else s.setHring f i { x with cfg := x.cfg.setBits 0 0 1, st := if x.st = 0 then 1 else x.st }

/-- R404: a write of RING_CFG in the HQ view of a function. -/
def execRingCfgWrite (r : Req) (w : Word) (s : State) : Result := gated r (hq r.view) 0x044 s (ringCfgWrite r.view w)

/-- R404: a write of another configuration register of the selected ring, by its offset. -/
def ringRegWrite (f off : Nat) (w : Word) (s : State) : State :=
  match s.ringSel f with
  | none => s.errIntg f 6 0x102 9
  | some i =>
    let r := s.hring f i
    if r.en then s.refuse (hq f) off
    else if off = 0x048 then s.setHring f i { r with baseLo := w &&& 0xFFFFF000 }
    else if off = 0x04C then s.setHring f i { r with baseHi := w }
    else if off = 0x050 then s.setHring f i { r with shLo := w &&& 0xFFFFFFF8 }
    else if off = 0x054 then s.setHring f i { r with shHi := w }
    else if f = 0 then s.setHring f i { r with target := w &&& 0x3F0FFFFF }
    else
      let s := s.setHring f i { r with target := w &&& 0xFFFFF }
      if w.bits 29 24 ≠ 0 then s.errIntg f 6 0x102 9 else s

/-- RING_CMD RESET (Table 15.17): both indices become 0 and the ring IDLE; a change of the device's own index is written to the shadow word (R405). -/
def State.ringReset (s : State) (f i : Nat) (r : Ring) : State :=
  let x := { r with head := 0, tail := 0, st := 0, since := none, stalled := false }
  let s := s.setHring f i x
  if (if r.toDevice then r.head else r.tail) = 0 then s else s.ringShadow x

/-- R408: a write of RING_CMD. -/
def ringCmdWrite (f : Nat) (w : Word) (s : State) : State :=
  match s.ringSel f with
  | none => s.errIntg f 6 0x102 9
  | some i =>
    let r := s.hring f i
    let c := w.bits 2 0
    if c = 1 then (if r.en then s.refuse (hq f) 0x068 else s.ringReset f i r)
    else if c = 2 then (if r.st = 2 then s.setHring f i { r with st := 1 } else s.refuse (hq f) 0x068)
    else if c = 3 then (if r.st = 2 then (s.setHring f i { r with st := 1 }).ringAdvance f i else s.refuse (hq f) 0x068)
    else s.badEnc (hq f) 0x068

/-- R408: RING_CMD RESET. -/
def execRingReset (r : Req) (s : State) : Result := gated r (hq r.view) 0x068 s (ringCmdWrite r.view 1)

/-- R408: RING_CMD RETRY: the ring is ACTIVE again and fetches the failing entry anew. -/
def execRingRetry (r : Req) (s : State) : Result := gated r (hq r.view) 0x068 s (ringCmdWrite r.view 2)

/-- R408: RING_CMD SKIP. -/
def execRingSkip (r : Req) (s : State) : Result := gated r (hq r.view) 0x068 s (ringCmdWrite r.view 3)

/-- R406: an entry that has waited on FULL for HQ_HANG µs raises RING_STALL, once. -/
def execRingStall (f i : Nat) (s : State) : Result :=
  let r := s.hring f i
  let us := s.fld (hq f) 0x070 23 0
  match r.since with
  | some t =>
    if us = 0 || r.stalled || decide (s.now < t + us * 32000) then done s
    else done ((s.setHring f i { r with stalled := true }).raise (hq f) 1)
  | none => done s

end Sys2Proof.Machine
end

