-- ==== Sys2Proof/Machine/Queues.lean ====
section
/-!
DEFINITION. Queues.lean: the queue manager (R293 to R304): contexts and their commands, offers and answers, operand ports; and the hang timer (R310).
-/

namespace Sys2Proof.Machine

/-! ### Contexts -/

/-- Table 11.4: a context of 128 bits. -/
def QCtx.pack (c : QCtx) : Nat :=
  c.base % 2 ^ 32 + c.loc % 2 * 2 ^ 32 + c.lsz % 16 * 2 ^ 33 + c.head % 2 ^ 17 * 2 ^ 37 + c.tail % 2 ^ 17 * 2 ^ 54 + c.owner % 64 * 2 ^ 71 +
    c.thr % 2 ^ 17 * 2 ^ 77 + c.bind % 16 * 2 ^ 94 + b2n c.mcast * 2 ^ 98 + b2n c.ie * 2 ^ 99 + b2n c.v * 2 ^ 100 + b2n c.blkS * 2 ^ 101 +
    b2n c.blkR * 2 ^ 102 + b2n c.armed * 2 ^ 103

/-- The context of 128 bits. -/
def QCtx.unpack (n : Nat) (crossed : Bool) : QCtx :=
  ⟨nb n 31 0, nb n 32 32, nb n 36 33, nb n 53 37, nb n 70 54, nb n 76 71, nb n 93 77, nb n 97 94, n.testBit 98, n.testBit 99, n.testBit 100,
    n.testBit 101, n.testBit 102, n.testBit 103, crossed⟩

/-- A context of a Cabinet. -/
def State.qctx (s : State) (p q : Nat) : QCtx := SMap.get (fun _ => QCtx.reset) (s.qm p).ctx (q % 4096)

/-- The state with a context replaced. -/
def State.setQctx (s : State) (p q : Nat) (c : QCtx) : State :=
  s.setQm p { s.qm p with ctx := SMap.set (fun _ => QCtx.reset) (s.qm p).ctx (q % 4096) c }

/-- Entries of a queue. -/
def QCtx.size (c : QCtx) : Nat := 2 ^ (c.lsz + 2)
/-- R294: the occupancy. -/
def QCtx.occ (c : QCtx) : Nat := (c.tail + 2 * c.size - c.head % (2 * c.size)) % (2 * c.size)
/-- The byte address or offset of entry `e`. -/
def QCtx.entryAt (c : QCtx) (e : Nat) : Nat := c.base * 32 + 32 * (e % c.size)

/-- R301: what a change of occupancy does to the level cause: below THR it is armed again, and a rise to THR raises LEVEL once. -/
def State.qLevel (s : State) (p q : Nat) (c : QCtx) : State :=
  if c.occ < c.thr then s.setQctx p q { c with armed := true }
  else if c.ie && c.thr ≠ 0 && c.armed then (s.setQctx p q { c with armed := false, crossed := true }).raise (qmgr p) 0
  else s.setQctx p q { c with armed := false }

/-- Queue storage answered ISOLATION (Table 11.14, code 0x0C3). -/
def State.qIsolated (s : State) (p loc : Nat) : State := (s.err (qmgr p) 6 0x0C3 loc).raise (qmgr p) 2

/-- The context RAM check of an operation on a queue (Table 11.14): an uncorrectable word leaves the context as read, and the Cabinet is reported. -/
def State.ctxCheck (s : State) (p q : Nat) : EccRead → State
  | .clean => s
  | .corrected _ => (s.err (qmgr p) 1 0x030 (q % 4096)).raise (qmgr p) 3
  | .uncorrectable flips _ =>
    let c := s.qctx p q
    (((s.setQctx p q (QCtx.unpack (c.pack ^^^ flips) c.crossed)).err (qmgr p) 2 0x031 (q % 4096)).raise (qmgr p) 4).cabFault p 0x031

/-- R294: the multicast RAM check of a group (Table 11.14): uncorrectable words stay as read, and the Cabinet is reported. -/
def State.mcCheck (s : State) (p g : Nat) : EccRead → State
  | .clean => s
  | .corrected _ => (s.err (qmgr p) 1 0x030 (0x1000 + g)).raise (qmgr p) 3
  | .uncorrectable flips _ =>
    let q := s.qm p
    let mc := (List.range 64).foldl (fun m i =>
      SMap.set (fun _ => 0) m (64 * g + i) (SMap.get (fun _ => 0) m (64 * g + i) ^^^ BitVec.ofNat 32 (flips / 2 ^ (32 * i)))) q.mc
    (((s.setQm p { q with mc := mc }).err (qmgr p) 2 0x031 (0x1000 + g)).raise (qmgr p) 4).cabFault p 0x031

/-- The message at an entry of a queue, as the queue manager reads it. -/
def State.qRead (s : State) (p q : Nat) (ecc : EccRead) : Nat × State :=
  let c := s.qctx p q
  let a := c.entryAt c.head
  if c.loc = 1 then
    let g := s.areaGet p 3 a 32
    let r := g.2.spadCheck p a g.1 ecc
    (r.1 % 2 ^ 256, r.2.2)
  else match s.stackFetch (s.cabKey p) a 32 with
    | (some v, t) => (v, t)
    | (none, t) => (0, t.qIsolated p (q % 4096))

/-- R299, R301: the head message leaves a queue. -/
def State.dequeue (s : State) (p q : Nat) : State :=
  let c := s.qctx p q
  s.qLevel p q { c with head := (c.head + 1) % (2 * c.size), blkS := false }

/-- R298: where an accepted message is written: the state, or nothing where the storage is answered ISOLATION. -/
def State.qWrite (s : State) (p q m : Nat) : Option State × State :=
  let c := s.qctx p q
  let a := c.entryAt c.tail
  if c.loc = 1 then
    (some (s.areaSet p 3 a 32 m), s)
  else match s.stackDenied (s.cabKey p) a false with
    | none => (some (s.stackPut a 32 m), s)
    | some code => (none, s.isolate (s.cabKey p) a code)

/-- The code FULL as a refusal notice carries it; it is no final status (Table 11.8). -/
def qFull : Nat := 8

/-- An offer refused FULL. -/
def State.qRefuse (s : State) (p q : Nat) : State := ((s.setQctx p q { s.qctx p q with blkS := true }).incCtr (qmgr p) 0x098).raise (qmgr p) 1

/-- R431: the three journal entries of an accepted message. -/
def msgEntries (qid m : Nat) : List Nat := [qid % 2 ^ 20 * 2 ^ 108 + 2, m % 2 ^ 128, m / 2 ^ 128 % 2 ^ 128]

/-- R434: is there no room in the journal for a message? -/
def State.journalNoRoom (s : State) (k c n : Nat) : Bool := (s.cfg k).prot && decide (journalMax < (s.journal k c).entries.length + n)

/-- R298: offer() at the destination queue manager, with the refusals of R361, R438 and R434: the answer, and the state. `jrn`: the accepted message goes
into the journal, which must have room for it. -/
def State.offerWith (s : State) (p qid m : Nat) (jrn : Bool) : Nat × State :=
  let q := qid % 4096
  let c := s.qctx p q
  let key := msgKey m
  let k := s.cabKey p
  let lc := s.cabLog p
  if (s.cab p).frozen || (s.cab p).fenced || (s.cab p).replay then (qFull, (s.incCtr (qmgr p) 0x098).raise (qmgr p) 1)
  else if !c.v then (2, s)
  else if key ≠ c.owner && key ≠ 0 then (3, (s.err (qmgr p) 6 0x0C1 q).raise (qmgr p) 2)
  else if m.testBit 24 && !c.mcast then (2, s)
  else if c.occ = c.size then (qFull, s.qRefuse p q)
  else if jrn && s.journalNoRoom k lc 3 then (qFull, (s.journalBlock k lc).qRefuse p q)
  else match s.qWrite p q m with
    | (none, t) => (2, (t.setQctx p q { c with v := false }).qIsolated p q)
    | (some t, _) =>
      let c := t.qctx p q
      let t := t.qLevel p q { c with tail := (c.tail + 1) % (2 * c.size) }
      let u := t.qm p
      let i := countKey (nb m 11 8) (nb m 7 0)
      let t := t.setQm p { u with taken := SMap.set (fun _ => 0) u.taken i ((SMap.get (fun _ => 0) u.taken i + 1) % 2 ^ 32) }
      let t := if jrn && (t.cfg k).prot then t.journalAdd k lc (msgEntries qid m) else t
      (0, t.incCtr (qmgr p) 0x094)

/-- R298, R431: an offer of a message that the journal does not hold yet. -/
def State.offer (s : State) (p qid m : Nat) : Nat × State := s.offerWith p qid m true

/-- R195, R298: where the sender of a pair's flits is at present: a Cabinet is found by its logical number. -/
def State.senderAt (s : State) (k e : Nat) : Nat :=
  if isCab e then match s.logicalAny k e with
    | some c => if (s.mapEntry k c).parked then e else (s.mapEntry k c).phys
    | none => e
  else e

/-- An answer on the acceptance sideband: its class is 16 plus the status. -/
def State.answerSend (s : State) (src dest key seq st : Nat) : State := { s with notices := s.notices ++ [⟨src, dest, key, 16 + st, seq⟩] }

/-- The remaining QDATA flits of a message whose head has arrived, in sequence. -/
def qdataOf (l : List Arrival) (p : Nat) (h : Flit) : List Arrival :=
  l.filter fun a => a.dest = p && a.flit.kind = 2 && a.flit.src = h.src && a.flit.key = h.key

/-- R298: the destination queue manager answers the oldest whole message that has arrived over the mesh, or (`unit`) the message a unit of its own
Cabinet offers. -/
def execOffer (p : Nat) (unit : Option Nat) (ecc : EccRead) (s : State) : Result :=
  if !s.ready (cctl p) then done s
  else match unit with
    | some u =>
      match (s.qm p).sends.find? (fun x => x.unit = u && x.state = 1 && x.seq = 4096 + u) with
      | none => done s
      | some x =>
        let r := (s.ctxCheck p x.qid ecc).offer p x.qid x.msg
        done (r.2.answerSend p x.dest (msgKey x.msg) x.seq r.1)
    | none =>
      match s.inbox.find? (fun a => a.dest = p && a.flit.kind = 1 && decide (2 ≤ (qdataOf s.inbox p a.flit).length)) with
      | none => done s
      | some h =>
        match qdataOf s.inbox p h.flit with
        | d0 :: d1 :: _ =>
          let s := { s with inbox := ((s.inbox.erase h).erase d0).erase d1 }
          let qid := h.flit.payload / 2 ^ 108
          let r := (s.ctxCheck p qid ecc).offer p qid (d0.flit.payload + d1.flit.payload * 2 ^ 128)
          done (r.2.answerSend (s.senderAt h.flit.key h.flit.src) (s.seqIndex h.flit.key p) h.flit.key h.flit.seq r.1)
        | _ => done s

/-- The messages of a unit leave until one awaits its answer, host rings among them. -/
def State.relaunch (s : State) (e unit : Nat) : State := State.launchWith ringTakes e unit ((s.qm e).sends.length + 64) s

/-- R298, R307: a refusal FULL makes the send wait to retry, or ends a QSEND.T whose limit has passed. -/
def State.sendFull (s : State) (e : Nat) (x : Send) : State :=
  let out := match x.limit with | some l => decide (x.since + l ≤ s.now) | none => false
  if out then (s.sendEnds e x 1 ringTakes).relaunch e x.unit
  else
    let s := s.setQm e ((s.qm e).put x { x with state := 2, refusedAt := s.now, blocked := some (x.blocked.getD s.now) })
    if x.unit = 0 && x.blocked.isNone then s.setCore e { s.core e with waitSince := s.now }
    else if 16 ≤ x.unit then
      let f := (x.unit - 16) / 1024
      let i := (x.unit - 16) % 1024
      let r := s.hring f i
      s.setHring f i { r with since := some (r.since.getD s.now) }
    else s

/-- R298: notice `i` of the sideband, an acceptance or a refusal, reaches the sender. -/
def execSendAnswer (i : Nat) (s : State) : Result :=
  match s.notices[i]? with
  | none => done s
  | some n =>
    if n.cls < 16 then done s
    else
      let s := { s with notices := s.notices.eraseIdx i }
      match (s.qm n.src).sends.find? (fun x => x.state = 1 && x.dest = n.dest && x.seq = n.seq && msgKey x.msg = n.key) with
      | none => done s
      | some x =>
        if n.cls = 16 + qFull then done (s.sendFull n.src x)
        else done ((s.sendEnds n.src x (n.cls - 16) ringTakes).relaunch n.src x.unit)

/-- The retry wait of a sender, in fu: CCTL.QRETRY, or HQ_RETRY of a ring's function. -/
def State.retryWait (s : State) (e unit : Nat) : Nat :=
  32 * (if isCab e then s.fld (cctl e) 0x04C 11 0 else s.fld (hq ((unit - 16) / 1024)) 0x06C 11 0)

/-- R298: after the retry wait a send refused FULL is offered again. -/
def execSendRetry (e unit : Nat) (s : State) : Result :=
  match (s.qm e).first unit with
  | none => done s
  | some x =>
    if x.state ≠ 2 || decide (s.now < x.refusedAt + s.retryWait e unit) || (isCab e && !s.live e) then done s
    else
      let s := if isCab e then s.incCtr (qmgr e) 0x09C else s
      done ((s.setQm e ((s.qm e).put x { x with state := 0 })).relaunch e unit)

/-! ### Context commands -/

/-- The context that CTX0 to CTX3 stage. -/
def State.ctxStaged (s : State) (p : Nat) : QCtx :=
  QCtx.unpack (s.rdN (qmgr p) 0x044 + s.rdN (qmgr p) 0x048 * 2 ^ 32 + s.rdN (qmgr p) 0x04C * 2 ^ 64 + s.rdN (qmgr p) 0x050 * 2 ^ 96) false

/-- R295: a refused context command. -/
def State.ctxRefuse (s : State) (p : Nat) : State := s.err (qmgr p) 5 0x0C0 (s.fld (qmgr p) 0x040 11 0)

/-- The partition key a requester acts with. -/
def State.reqKey (s : State) : Req → Nat
  | .fn f => f
  | .bureau => 0
  | .core p => s.cabKey p

/-- Does queue storage lie wholly in the general shared area or in the stacks (Table 11.5)? -/
def QCtx.storageOk (c : QCtx) : Bool :=
  let e := c.base * 32 + 32 * c.size
  if c.loc = 1 then decide (0x370000 ≤ c.base * 32) && decide (e ≤ 0x400000) else decide (e ≤ 2 ^ 37)

/-- Table 11.5: the conditions on a context that CREATE loads. `others` are the other valid contexts. -/
def QCtx.createOk (c : QCtx) (key : Nat) (others : List QCtx) : Bool :=
  c.lsz ≠ 15 && decide (c.bind < 10) && c.storageOk && (c.owner = key || key = 0) && (c.bind = 0 || !others.any (fun o => o.v && o.bind = c.bind)) &&
    (c.bind ≠ 8 || c.owner = 0)

/-- A context as CREATE makes it: empty, valid, its level cause armed below THR. -/
def QCtx.fresh (c : QCtx) : QCtx := { c with head := 0, tail := 0, v := true, blkS := false, blkR := false, armed := decide (0 < c.thr), crossed := false }

/-- Table 11.5: CREATE. A context with a reserved bit set is refused (R9, Table 11.4). -/
def ctxCreate (r : Req) (p : Nat) (ecc : EccRead) (s : State) : State :=
  let q := s.fld (qmgr p) 0x040 11 0
  let s := s.ctxCheck p q ecc
  let c := s.ctxStaged p
  if !(s.qctx p q).v && nb (s.rdN (qmgr p) 0x050) 31 8 = 0 && c.createOk (s.reqKey r) ((s.qm p).ctx.map (·.2)) then s.setQctx p q c.fresh else s.ctxRefuse p

/-- Table 11.5: DESTROY. -/
def ctxDestroy (p : Nat) (ecc : EccRead) (s : State) : State :=
  let q := s.fld (qmgr p) 0x040 11 0
  let s := s.ctxCheck p q ecc
  let c := s.qctx p q
  if c.occ = 0 && !c.blkR then s.setQctx p q { c with v := false } else s.ctxRefuse p

/-- Table 11.5, R301: SET_THR. -/
def ctxSetThr (p : Nat) (ecc : EccRead) (s : State) : State :=
  let q := s.fld (qmgr p) 0x040 11 0
  let s := s.ctxCheck p q ecc
  let c := s.qctx p q
  let n := s.ctxStaged p
  if c.v then s.setQctx p q { c with thr := n.thr, ie := n.ie, armed := decide (c.occ < n.thr) } else s.ctxRefuse p

/-- Table 11.5: FLUSH. -/
def ctxFlush (p : Nat) (ecc : EccRead) (s : State) : State :=
  let q := s.fld (qmgr p) 0x040 11 0
  let s := s.ctxCheck p q ecc
  let c := s.qctx p q
  if c.v then s.qLevel p q { c with head := c.tail, blkS := false } else s.ctxRefuse p

/-- A write of CTX_CMD (Table 11.15). -/
def ctxCmdWrite (r : Req) (p : Nat) (w : Word) (ecc : EccRead) (s : State) : State :=
  let c := w.bits 2 0
  if c = 1 then ctxCreate r p ecc s else if c = 2 then ctxDestroy p ecc s else if c = 3 then ctxSetThr p ecc s else if c = 4 then ctxFlush p ecc s
  else s.badEnc (qmgr p) 0x054

/-- R295: CTX_CMD CREATE. -/
def execCtxCreate (r : Req) (p : Checked EccRead) (s : State) : Result := gated r (qmgr p.i) 0x054 s (ctxCmdWrite r p.i 1 p.ecc)
/-- R295: CTX_CMD DESTROY. -/
def execCtxDestroy (r : Req) (p : Checked EccRead) (s : State) : Result := gated r (qmgr p.i) 0x054 s (ctxCmdWrite r p.i 2 p.ecc)
/-- R295: CTX_CMD SET_THR. -/
def execCtxSetThr (r : Req) (p : Checked EccRead) (s : State) : Result := gated r (qmgr p.i) 0x054 s (ctxCmdWrite r p.i 3 p.ecc)
/-- R295: CTX_CMD FLUSH. -/
def execCtxFlush (r : Req) (p : Checked EccRead) (s : State) : Result := gated r (qmgr p.i) 0x054 s (ctxCmdWrite r p.i 4 p.ecc)

/-- R311: a read of CTX0 snapshots the selected context; CTX1 to CTX3 then read its other words. -/
def ctxRead (p : Nat) (ecc : EccRead) (s : State) : Nat × State :=
  let s := s.ctxCheck p (s.fld (qmgr p) 0x040 11 0) ecc
  let n := (s.qctx p (s.fld (qmgr p) 0x040 11 0)).pack
  (n % 2 ^ 32, s.setQm p { s.qm p with ctxSnap := [nb n 63 32, nb n 95 64, nb n 127 96].map (BitVec.ofNat 32) })

/-- R311: a read of CTX0. -/
def execQmgrCtxRead (r : Req) (p : Checked EccRead) (s : State) : Result := gatedRead r (qmgr p.i) s (ctxRead p.i p.ecc)

/-- R311: a read of HEAD_0 snapshots the head message of the selected queue, which HEAD_1 to HEAD_7 then read; zero when it is empty. -/
def headRead (p : Nat) (ctx ecc : EccRead) (s : State) : Nat × State :=
  let q := s.fld (qmgr p) 0x040 11 0
  let s := s.ctxCheck p q ctx
  let c := s.qctx p q
  let r := if c.v && c.occ ≠ 0 then s.qRead p q ecc else (0, s)
  (r.1 % 2 ^ 32, r.2.setQm p { r.2.qm p with headSnap := (List.range 8).map fun i => BitVec.ofNat 32 (r.1 / 2 ^ (32 * i)) })

/-- R311: a read of HEAD_0. -/
def execQmgrHeadRead (r : Req) (p : Nat) (ecc : QmReads) (s : State) : Result := gatedRead r (qmgr p) s (headRead p ecc.ctx ecc.msg)

/-! ### Operand ports -/

/-- R302: can the port of a BIND take a message? The Bureau's always can; a host queue is drained by its ring (R407). -/
def State.portFree (s : State) (p bind : Nat) : Bool :=
  let c := s.cab p
  if bind = 1 || bind = 2 then !c.trsIn.any (fun e => e.1 = bind - 1)
  else if 3 ≤ bind ∧ bind ≤ 6 then !c.drwIn.any (fun e => e.1 = bind - 3)
  else if bind = 7 then c.xIn.isNone
  else bind = 8

/-- The message enters the port. -/
def State.portPut (s : State) (p bind m : Nat) : State :=
  let c := s.cab p
  if bind = 1 || bind = 2 then s.setCab p { c with trsIn := c.trsIn ++ [(bind - 1, m)] }
  else if 3 ≤ bind ∧ bind ≤ 6 then s.setCab p { c with drwIn := c.drwIn ++ [(bind - 3, m)] }
  else if bind = 7 then s.setCab p { c with xIn := some m }
  else s

/-- R302, R294, R300: the queue manager moves the head message of a bound queue into its port; a unit that stalls takes none. -/
def execPortDrain (p q : Nat) (ecc : QmReads) (s : State) : Result :=
  let s := if s.live p then s.ctxCheck p q ecc.ctx else s
  let c := s.qctx p q
  if s.live p && c.v && c.occ ≠ 0 && s.portFree p c.bind && !s.unitStalled p c.bind then
    let r := s.qRead p q ecc.msg
    done ((r.2.dequeue p q).portPut p c.bind r.1)
  else done s

/-! ### The hang timer -/

/-- R487, R494: a source that freezes the counters and takes a snapshot: ignored and counted while a snapshot is being written. -/
def State.offerSnap (s : State) (src cause pos unit : Nat) : State :=
  let s := if s.freeze.snapping then (s.incCtr pObs 0x0A0).raise pObs 3 else s
  s.offerFreeze src (s.now + s.fld pObs 0x050 23 0) cause pos unit

/-- R310: the blocked-send timer of a unit reaches HANG_LIMIT. The timer of a core that a debugger halts stands (R498). -/
def execHang (p unit : Nat) (s : State) : Result :=
  let us := s.fld (cctl p) 0x048 23 0
  match (s.qm p).first unit with
  | none => done s
  | some x =>
    match x.blocked with
    | none => done s
    | some t =>
      if us = 0 || x.hung || decide (s.now < t + us * 32000) || (unit = 0 && s.isHalted p) then done s
      else
        let s := s.setQm p ((s.qm p).put x { x with hung := true })
        let s := ((s.err (cctl p) 4 0x0A0 (unit % 16)).raise (cctl p) 0).incCtr (cctl p) 0x070
        done (if s.flag (cctl p) 0x040 1 then s.offerSnap 3 2 p unit else s)

/-- Table 11.12: a write of HOST_SIGNAL. -/
def hostSignalWrite (p : Nat) (w : Word) (s : State) : State := if w.bit 0 then s.raise (cctl p) 2 else s

/-- R311: a write of HOST_SIGNAL raises CORE_SIGNAL. -/
def execHostSignal (r : Req) (p : Nat) (w : Word) (s : State) : Result := gated r (cctl p) 0x068 s (hostSignalWrite p w)

end Sys2Proof.Machine
end

