-- ==== Sys2Proof/Machine/HostRing.lean ====
section
/-!
DEFINITION. HostRing.lean: what host rings fetch and write (R405 to R408, R410), and the legacy event words of KIND 2 and 3 (R415, R416, R420).
-/

namespace Sys2Proof.Machine

/-- The unit number of a ring's sends at the Bureau's endpoint. -/
def ringUnit (f i : Nat) : Nat := 16 + 1024 * f + i

/-- R406: may a ring of KIND 0 or 2 fetch its head entry? -/
def State.ringFetchable (s : State) (f i : Nat) : Bool :=
  let r := s.hring f i
  s.devState = 2 && r.active && r.toDevice && r.occ ≠ 0 && !r.reading && !(s.qm 0x161).sends.any (fun x => x.unit = ringUnit f i)

/-- R406: a ring reads the entry at its head from host memory. -/
def execRingFetch (f i : Nat) (s : State) : Result :=
  if s.ringFetchable f i then done (s.setHring f i { s.hring f i with reading := true }) else done s

/-- R406: the entry of a KIND 0 ring is offered to RING_TARGET with SRC_CAB 0xFF, SRC_UNIT 9 and the ring's key. -/
def State.ringOffer (s : State) (f i entry : Nat) : State :=
  let r := s.hring f i
  let m := message 0xFF 9 (r.key f) false (nb entry 63 32) (entry / 2 ^ 64)
  let q := s.qm 0x161
  (s.setQm 0x161 { q with sends := q.sends ++ [newSend s (ringUnit f i) (r.target.bits 19 0) m none] }).relaunch 0x161 (ringUnit f i)

/-- R415: the step a 20-bit STEP stands for: the one within 2^19 of the present step. -/
def rebuildStep (step now : Nat) : Nat :=
  let p := now / 2 ^ 15
  let d := (step + 2 ^ 20 - p % 2 ^ 20) % 2 ^ 20
  if d ≥ 2 ^ 19 then p + d - 2 ^ 20 else p + d

/-- R416: the native event of a legacy word whose time is `t`. -/
def legacyPayload (w t : Nat) : Nat := eventPayload t (nb w 43 28) (nb w 27 5) 1 (nb w 4 3) 0xF

/-- R420: the HQ engine injects a legacy word, or discards it as late; the head advances either way. -/
def State.ringWord (s : State) (f i w : Nat) : State :=
  let r := s.hring f i
  let t := rebuildStep (nb w 63 44) s.now * 2 ^ 15
  let s := if s.now ≤ t + s.fld (hq 0) 0x080 23 0 then s.sendEvent 0x161 (r.key f) (r.target.bits 7 0) (legacyPayload w t)
    else (s.incCtr (hq f) 0x084).raise (hq f) 2
  s.ringAdvance f i

/-- R406, R410: the read of a ring's entry completes. -/
def State.ringRead (s : State) (f i : Nat) (d : DmaRead) : State :=
  let r := s.hring f i
  if !r.reading then s
  else
    let s := s.setHring f i { r with reading := false }
    if !r.active then s
    else match d with
      | .data v => if r.kind = 0 then s.ringOffer f i (v % 2 ^ 256) else s.ringWord f i (v % 2 ^ 64)
      | _ => s.ringError f i 0x0EA 4 0

/-- R416: the legacy word of a projection message, where its event can leave. -/
def legacyWord (m : Nat) : Option Nat :=
  let pl := m / 2 ^ 64 % 2 ^ 128
  if nb m 11 8 = 7 && evType pl = 0 && evTime pl % 2 ^ 15 = 0 then
    some (evTime pl / 2 ^ 15 % 2 ^ 20 * 2 ^ 44 + evAxon pl * 2 ^ 28 + evSource pl * 2 ^ 5)
  else none

/-- The entry is written at the ring's tail, the tail advances and the shadow word follows (R405, R407). -/
def State.ringPut (s : State) (f i v : Nat) : State :=
  let r := s.hring f i
  let s := s.hostRing r.base (r.entry * r.size) (r.entry * (r.tail % r.size)) r.entry v
  let r := { r with tail := (r.tail + 1) % (2 * r.size) }
  (s.setHring f i r).ringShadow r

/-- The host-bound queue of a Cabinet: a valid one with BIND 9. -/
def State.hostQueue (s : State) (p : Nat) : Option Nat := ((s.qm p).ctx.find? fun e => e.2.v && e.2.bind = 9).map (·.1)

/-- R407, R420: a ring of KIND 1 or 3 takes the head message of the host-bound queue of its logical Cabinet while it has room. -/
def execRingWrite (f i : Nat) (ecc : QmReads) (s : State) : Result :=
  let r := s.hring f i
  let m := s.mapEntry (r.key f) (r.target.bits 7 0)
  if s.devState ≠ 2 || !r.active || r.toDevice || decide (r.size ≤ r.occ) || !m.valid || m.parked || !s.live m.phys then done s
  else match s.hostQueue m.phys with
    | none => done s
    | some q =>
      let s := s.ctxCheck m.phys q ecc.ctx
      if !(s.qctx m.phys q).v || (s.qctx m.phys q).occ = 0 then done s
      else
        let x := s.qRead m.phys q ecc.msg
        let s := x.2.dequeue m.phys q
        if r.kind = 1 then done (s.ringPut f i x.1)
        else match legacyWord x.1 with
          | some w => done (s.ringPut f i w)
          | none => done (s.incCtr (hq f) 0x088)

end Sys2Proof.Machine
end

