-- ==== Sys2Proof/Machine/Trestle.lean ====
section
/-!
DEFINITION. Trestle.lean: the Trestles of 10_trestles.md: floating-point rounding (R259), the row quantiser (R260), RUN (R262 to R267), the descriptor
window and its scoreboard (R269 to R272), reductions (R273, R274), graded events (R275) and the RAM window.
-/

namespace Sys2Proof.Machine

/-! ### Floating-point formats -/

/-- A format of Table 10.2: precision in bits, exponent of the smallest subnormal, largest finite value in units of it, width, and whether an
exponent of all ones is an infinity or NaN. -/
structure Fmt where
  p    : Nat
  emin : Int
  max  : Nat
  w    : Nat
  ieee : Bool
  deriving DecidableEq, Repr

/-- FP32. -/
def fp32 : Fmt := ⟨24, -149, (2 ^ 24 - 1) * 2 ^ 253, 32, true⟩
/-- BF16. -/
def bf16 : Fmt := ⟨8, -133, (2 ^ 8 - 1) * 2 ^ 253, 16, true⟩
/-- FP8 E4M3. -/
def e4m3 : Fmt := ⟨4, -9, 448 * 2 ^ 9, 8, false⟩
/-- FP8 E5M2. -/
def e5m2 : Fmt := ⟨3, -16, 57344 * 2 ^ 16, 8, true⟩

/-- A finite value m · 2^e of a calculation. -/
structure Dy where
  m : Int
  e : Int
  deriving DecidableEq, Repr

/-- The sum of two such values. -/
def Dy.add (a b : Dy) : Dy :=
  if a.e ≤ b.e then ⟨a.m + b.m * 2 ^ (b.e - a.e).toNat, a.e⟩ else ⟨a.m * 2 ^ (a.e - b.e).toNat + b.m, b.e⟩

/-- The product. -/
def Dy.mul (a b : Dy) : Dy := ⟨a.m * b.m, a.e + b.e⟩

/-- R259: rn_F: the nearest representable value, in units of the format's smallest subnormal, and whether it was saturated: a
magnitude above the largest finite value is, before any rounding. -/
def rnF (f : Fmt) (x : Dy) : Int × Bool :=
  if x.m = 0 then (0, false)
  else
    let u := max ((x.m.natAbs.log2 : Int) + x.e - f.p + 1) f.emin
    let v := rneI x.m (u - x.e) * 2 ^ (u - f.emin).toNat
    if f.max * 2 ^ (f.emin - x.e).toNat < x.m.natAbs * 2 ^ (x.e - f.emin).toNat then (if x.m < 0 then -(f.max : Int) else f.max, true) else (v, false)

/-- The encoding of a value in units of the format's smallest subnormal. -/
def encF (f : Fmt) (v : Int) : Nat :=
  let a := v.natAbs
  let b := if a < 2 ^ (f.p - 1) then a else (a.log2 + 2 - f.p) * 2 ^ (f.p - 1) + (a / 2 ^ (a.log2 + 1 - f.p) - 2 ^ (f.p - 1))
  b + (if v < 0 then 2 ^ (f.w - 1) else 0)

/-- The value of an encoding; none for a NaN or an infinity. -/
def decF (f : Fmt) (b : Nat) : Option Dy :=
  let ex := b % 2 ^ (f.w - 1) / 2 ^ (f.p - 1)
  let mt := b % 2 ^ (f.p - 1)
  let top := 2 ^ (f.w - f.p) - 1
  if ex = top && (f.ieee || mt = 2 ^ (f.p - 1) - 1) then none
  else
    let a : Int := if ex = 0 then mt else ((2 ^ (f.p - 1) + mt) * 2 ^ (ex - 1) : Nat)
    some ⟨if b / 2 ^ (f.w - 1) % 2 = 1 then -a else a, f.emin⟩

/-- Counts that a computation adds to: accumulator saturations, output saturations, NaN operands. -/
structure Cnt where
  acc  : Nat
  osat : Nat
  nan  : Nat
  deriving DecidableEq, Repr

/-- The sum of two counts. -/
def Cnt.add (a b : Cnt) : Cnt := ⟨a.acc + b.acc, a.osat + b.osat, a.nan + b.nan⟩
/-- No counts. -/
def Cnt.zero : Cnt := ⟨0, 0, 0⟩

/-- R259: an operand, with a NaN or infinity used as +0 and counted. -/
def operandF (f : Fmt) (b : Nat) : Dy × Cnt := match decF f b with | some x => (x, Cnt.zero) | none => (⟨0, 0⟩, ⟨0, 0, 1⟩)

/-- rn32 of a value, in units of 2^-149, with its saturation counted. -/
def rn32 (x : Dy) : Dy × Cnt := let r := rnF fp32 x; (⟨r.1, -149⟩, ⟨0, b2n r.2, 0⟩)

/-! ### Descriptors -/

/-- The descriptors of a Trestle's window. -/
def State.win (s : State) (p t : Nat) : List TDesc := if t = 0 then (s.cab p).trs0 else (s.cab p).trs1

/-- The state with a window replaced. -/
def State.setWin (s : State) (p t : Nat) (l : List TDesc) : State :=
  s.setCab p (if t = 0 then { s.cab p with trs0 := l } else { s.cab p with trs1 := l })

/-- OP of a descriptor. -/
def dOp (d : Nat) : Nat := byteOf d 8
/-- A field of the 16-bit value at byte `b`. -/
def dF (d b hi lo : Nat) : Nat := nb d (8 * b + hi) (8 * b + lo)

/-- The bits [8b+hi : 8b+lo] of a descriptor, as a mask. -/
def dMask (b hi lo : Nat) : Nat := 2 ^ (8 * b + hi + 1) - 2 ^ (8 * b + lo)

/-- R268: the bits a descriptor of each opcode may hold. -/
def dAllowed (d : Nat) : Nat :=
  let base := 2 ^ 64 - 1 + dMask 8 7 0 + dMask 12 19 0 + dMask 12 31 31
  match dOp d with
  | 1 => base + dMask 10 12 0 + dMask 16 63 0 + dMask 24 13 0
  | 2 => base + dMask 10 7 0 + dMask 16 63 0 + dMask 24 8 0
  | 3 => base + dMask 9 2 0 + dMask 10 11 0 + dMask 16 63 0 + dMask 24 12 0
  | 4 => base + dMask 9 2 0 + dMask 10 12 0 + dMask 16 63 0 + dMask 24 12 0 + dMask 26 9 0
  | 5 => base + dMask 9 7 0 + dMask 10 15 0 + dMask 16 14 0 + dMask 18 12 0 + dMask 18 15 14 + dMask 20 12 0 + dMask 22 15 0 + dMask 24 9 0 +
      dMask 26 11 0 + dMask 28 5 0 + dMask 28 15 8 + dMask 30 0 0
  | 6 => if dF d 9 2 0 = 0 then base + dMask 9 5 0 + dMask 10 12 0 + dMask 16 63 0 + dMask 24 13 0
      else base + dMask 9 5 0 + dMask 10 12 0 + dMask 16 12 0 + dMask 18 9 0 + dMask 20 14 0 + dMask 22 15 0 + dMask 24 9 0
  | 7 => base + dMask 9 7 0 + dMask 10 12 0 + dMask 16 47 0 + dMask 22 11 0 + dMask 24 9 0 + dMask 26 12 0 + dMask 28 14 0 + dMask 30 15 0
  | _ => base

/-- The blocks of a number of bytes. -/
def blocks (n : Nat) : Nat := (n + 63) / 64

/-- K of a RUN. -/
def runK (d : Nat) : Nat := (dF d 22 7 0 + 1) * 16
/-- M of a descriptor. -/
def dM (d : Nat) : Nat := dF d 24 9 0 + 1
/-- MODE of a RUN. -/
def runMode (d : Nat) : Nat := dF d 9 2 0
/-- OFMT of a RUN. -/
def runFmt (d : Nat) : Nat := dF d 10 15 13
/-- GS of a RUN. -/
def runGs (d : Nat) : Nat := if runMode d = 0 then 16 else 32 * 2 ^ dF d 18 15 14
/-- Is the mode an integer one? -/
def runInt (d : Nat) : Bool := runMode d = 0 || runMode d = 3 || runMode d = 4
/-- Bytes of an output value (Table 10.3). -/
def runSize (d : Nat) : Nat := match runFmt d with | 0 => 4 | 1 => 4 | 2 => 1 | 3 => 1 | 4 => 1 | _ => 2
/-- The stride of output rows in bytes; `size` is that of the rows read or written. -/
def runStride (d size : Nat) : Nat := if dF d 28 15 8 = 0 then 16 * size else 16 * dF d 28 15 8

/-- The store blocks of a RUN: activations with their scales, weights, group scales, outputs; first block and count. -/
def runAct (d : Nat) : Nat × Nat :=
  let n := dM d * runK d
  (dF d 16 12 0, if runMode d = 2 then blocks (2 * n) else if runInt d && dF d 30 0 0 = 0 then blocks n + blocks (4 * dM d) else blocks n)
/-- The weight blocks. -/
def runWgt (d : Nat) : Nat × Nat :=
  (dF d 18 12 0, blocks (runK d * (if runMode d = 2 then 32 else if runMode d = 3 || runMode d = 4 then 8 else 16)))
/-- The group-scale blocks. -/
def runGsc (d : Nat) : Nat × Nat :=
  (dF d 20 12 0, if runMode d = 3 || runMode d = 4 then blocks (runK d / runGs d * 32) else 0)
/-- The output blocks; with ACC_IN also those of the RAW values read. -/
def runOut (d : Nat) : Nat × Nat :=
  let n (size : Nat) := blocks ((dM d - 1) * runStride d size + 16 * size)
  (dF d 10 12 0, if dF d 9 4 4 = 1 then max (n (runSize d)) (n 4) else n (runSize d))

/-- LOAD_ACT: K, rows, and the blocks it writes. -/
def actK (d : Nat) : Nat := dF d 24 12 0
/-- Rows of a LOAD_ACT. -/
def actM (d : Nat) : Nat := dF d 26 9 0 + 1
/-- Blocks a LOAD_ACT writes. -/
def actBlocks (d : Nat) : Nat :=
  let n := actK d * actM d
  match dF d 9 2 0 with | 3 => blocks n | 4 => blocks (2 * n) | _ => blocks n + blocks (4 * actM d)

/-- A use of a resource of Table 10.4: its kind (0 store blocks, 1 codebooks, 2 rescale entries, 3 activation tables), first, count, written. -/
structure Use where
  kind  : Nat
  first : Nat
  n     : Nat
  wr    : Bool
  deriving DecidableEq, Repr

/-- Table 10.4: the resources of a descriptor. -/
def dUses (d : Nat) : List Use :=
  match dOp d with
  | 1 => [⟨0, dF d 10 12 0, dF d 24 13 0, true⟩]
  | 2 => [⟨1, dF d 10 7 0, dF d 24 8 0, true⟩]
  | 3 => if dF d 9 2 0 = 0 then [⟨2, dF d 10 11 0, dF d 24 12 0, true⟩] else [⟨3, dF d 9 2 0 - 1, 1, true⟩]
  | 4 => [⟨0, dF d 10 12 0, actBlocks d, true⟩]
  | 5 => [⟨0, (runAct d).1, (runAct d).2, false⟩, ⟨0, (runWgt d).1, (runWgt d).2, false⟩, ⟨0, (runGsc d).1, (runGsc d).2, false⟩,
      ⟨0, (runOut d).1, (runOut d).2, true⟩] ++ (if runMode d = 3 then [⟨1, dF d 22 15 8, runK d / runGs d, false⟩] else []) ++
      (if runFmt d = 0 then [] else [⟨2, dF d 26 11 0, 16, false⟩]) ++ (if dF d 9 5 5 = 1 then [⟨3, dF d 9 7 6, 1, false⟩] else [])
  | 6 => if dF d 9 2 0 = 0 then [⟨0, dF d 10 12 0, dF d 24 13 0, false⟩]
      else [⟨0, dF d 10 12 0, dF d 18 9 0 + 1, false⟩] ++ (if dF d 9 5 5 = 1 then [⟨0, dF d 16 12 0, dF d 18 9 0 + 1, true⟩] else [])
  | 7 => [⟨0, dF d 10 12 0, blocks (dM d * dF d 26 12 0), false⟩]
  | _ => []

/-- Do two uses conflict (R271)? -/
def Use.hits (a b : Use) : Bool := a.kind = b.kind && (a.wr || b.wr) && decide (a.first < b.first + b.n) && decide (b.first < a.first + a.n)

/-- R271: do two descriptors conflict? -/
def dConflict (a b : Nat) : Bool := (dUses a).any fun x => (dUses b).any fun y => x.hits y

/-- How many of a kind there are. -/
def kindMax (k : Nat) : Nat := match k with | 0 => 8192 | 1 => 256 | 2 => 4096 | _ => 4

/-- R269: encodings and reserved bits (code 0x014). -/
def dBadEnc (d : Nat) : Bool :=
  let op := dOp d
  let m := runMode d
  let fpOut := decide (3 ≤ runFmt d)
  op = 0 || decide (8 < op) || (d % 2 ^ 256) ||| dAllowed d ≠ dAllowed d ||
    (decide (op ≤ 4) && decide (1 ≤ op) && sharedAddr (bytesOf d 23 16) = .bad) ||
    (op = 3 && (decide (4 < dF d 9 2 0) || (dF d 9 2 0 ≠ 0 && (dF d 10 11 0 ≠ 0 || dF d 24 12 0 ≠ 0)))) || (op = 4 && decide (4 < dF d 9 2 0)) ||
    (op = 5 && (decide (4 < m) || decide (5 < runFmt d) || (dF d 18 15 14 = 3 && decide (3 ≤ m)) || (m ≠ 1 && dF d 16 14 13 ≠ 0) ||
      (decide (m < 3) && (dF d 18 15 14 ≠ 0 || dF d 20 12 0 ≠ 0)) || (m ≠ 3 && dF d 22 15 8 ≠ 0) || (dF d 9 5 5 = 1 && runFmt d ≠ 2) ||
      (dF d 9 3 3 = 1 && !runInt d) || (dF d 28 5 0 ≠ 0 && !(runInt d && fpOut)))) ||
    (op = 6 && (decide (4 < dF d 9 2 0) || (dF d 9 2 0 = 0 && sharedAddr (bytesOf d 23 16) = .bad) || (dF d 9 2 0 = 1 && dF d 9 3 3 = 1) ||
      (dF d 9 2 0 ≠ 0 && dF d 9 5 4 = 0)))

/-- The bytes that a load reads, or COPY writes, in shared memory. -/
def dBytes (d : Nat) : Nat :=
  match dOp d with
  | 1 => 64 * dF d 24 13 0
  | 2 => 16 * dF d 24 8 0
  | 3 => if dF d 9 2 0 = 0 then 8 * dF d 24 12 0 else 256
  | 4 =>
    let n := actK d * actM d
    match dF d 9 2 0 with | 0 => 64 * blocks n + 4 * actM d | 1 => 2 * n | 2 => 4 * n | 3 => n | _ => 2 * n
  | _ => 64 * dF d 24 13 0

/-- R269: ranges and sizes (code 0x015). -/
def dBadRange (d : Nat) : Bool :=
  let op := dOp d
  let al := bytesOf d 23 16
  (dUses d).any (fun u => decide (kindMax u.kind < u.first + u.n)) ||
    ((op ≤ 4 || (op = 6 && dF d 9 2 0 = 0)) && !sharedFits al (dBytes d)) ||
    (op = 1 && (dF d 24 13 0 = 0 || decide (8192 < dF d 24 13 0) || al % 64 ≠ 0)) ||
    (op = 2 && (dF d 24 8 0 = 0 || decide (256 < dF d 24 8 0) || al % 16 ≠ 0)) ||
    (op = 3 && ((dF d 9 2 0 = 0 && (dF d 24 12 0 = 0 || decide (4096 < dF d 24 12 0))) || al % 8 ≠ 0)) ||
    (op = 4 && (decide (actK d < 16) || decide (4096 < actK d) || actK d % 16 ≠ 0 || al % 64 ≠ 0)) ||
    (op = 5 && ((3 ≤ runMode d && runK d % runGs d ≠ 0) || [runAct d, runWgt d, runGsc d].any fun r =>
      (⟨0, r.1, r.2, true⟩ : Use).hits ⟨0, (runOut d).1, (runOut d).2, true⟩)) ||
    (op = 6 && ((dF d 9 2 0 = 0 && (dF d 24 13 0 = 0 || decide (8192 < dF d 24 13 0) || al % 64 ≠ 0)) ||
      (dF d 9 2 0 ≠ 0 && (decide (47 < dF d 20 5 0) || dF d 24 9 0 = 0)))) ||
    (op = 7 && (dF d 26 12 0 = 0 || decide (4096 < dF d 26 12 0) || decide (32768 < dF d 28 14 0 + dF d 26 12 0)))

/-- R269: the group check of EMIT_EVENTS (code 0x016), on the active copy of the projection tables. -/
def State.dBadGroup (s : State) (p d : Nat) : Bool :=
  let x := (s.pgroup p (s.fld (xpnd p) 0x044 0 0) (dF d 22 11 0)).1
  dOp d = 7 && (decide (dF d 28 14 0 < nb x 14 0) || decide (nb x 29 15 < dF d 28 14 0 + dF d 26 12 0 - 1) || nb x 34 30 = 0)

/-- The completion of a descriptor: counts, the message (R272), and IDLE when the window empties. -/
def State.trsDone (s : State) (p t d status : Nat) : State :=
  let s := s.incCtr (trs p t) 0x04C
  let s := s.complete p (1 + t) (bytesOf d 15 12) (msgUser d) (dOp d) status (s.rdN (trs p t) 0x04C)
  if (s.win p t).isEmpty then s.raise (trs p t) 9 else s

/-- R269: a refused descriptor. -/
def State.trsRefuse (s : State) (p t d code loc : Nat) : State :=
  (((s.err (trs p t) 5 code loc).incCtr (trs p t) 0x050).raise (trs p t) 0).trsDone p t d 1

/-- TRS_CTRL.PAUSE. -/
def State.trsPaused (s : State) (p t : Nat) : Bool := s.flag (trs p t) 0x040 0

/-- TRS_STATE and PG_STATUS.PAUSED follow PAUSE; a FAULTED Trestle stays so. -/
def State.trsShow (s : State) (p t : Nat) : State :=
  if s.fld (trs p t) 0x044 1 0 = 3 then s
  else (s.setFlag (trs p t) 0x00C 1 (s.trsPaused p t)).setFld (trs p t) 0x044 1 0 (if s.trsPaused p t then 2 else 0)

/-- R269 to R271: the descriptor at the port enters the window, or is refused. -/
def execDescriptorEntry (p t : Nat) (s : State) : Result :=
  match (s.cab p).trsIn.find? fun e => e.1 = t with
  | none => done s
  | some e =>
    if !s.live p || s.unitStalled p (1 + t) || decide (16 ≤ (s.win p t).length) then done s
    else
      let s := s.setCab p { s.cab p with trsIn := (s.cab p).trsIn.erase e }
      let d := e.2
      let acc := s.rdN (trs p t) 0x048 % 65536
      if dBadEnc d then done (s.trsRefuse p t d 0x014 acc)
      else if dBadRange d then done (s.trsRefuse p t d 0x015 acc)
      else if s.dBadGroup p d then done (s.trsRefuse p t d 0x016 (dF d 22 11 0))
      else if dOp d = 7 && !s.floorAllows p (rebuild (bytesOf d 21 16) s.now) then done ((s.floorRefuse p 2).trsDone p t d 1)
      else done ((s.setWin p t (s.win p t ++ [⟨d, 0, 0, []⟩])).incCtr (trs p t) 0x048)

/-- The unit of an opcode (Table 10.4): 0 load, 1 array, 2 output, 3 none. -/
def dUnit (op : Nat) : Nat := if op ≤ 4 then 0 else if op = 5 then 1 else if op = 8 then 3 else 2

/-- R271: may a descriptor start, with these before it in the window and all of the window's? -/
def dMayStart (before all : List TDesc) (x : TDesc) : Bool :=
  x.state = 0 && !(all.any fun y => y.state ≠ 0 && dUnit (dOp y.raw) = dUnit (dOp x.raw)) &&
    !(before.any fun y => dOp y.raw = 8 || dConflict y.raw x.raw)

/-- R271: the first descriptor of an opcode (and, for REDUCE_OUT, of a mode kind) that may start. -/
def dPick (all : List TDesc) (f : Nat → Bool) : List TDesc → List TDesc → Option TDesc
  | _, [] => none
  | before, x :: xs => if f x.raw && dMayStart before all x then some x else dPick all f (before ++ [x]) xs

/-- A descriptor of a window gets a new state. -/
def State.trsSet (s : State) (p t : Nat) (x y : TDesc) : State :=
  s.setWin p t ((s.win p t).replace x y)

/-- R267, R277, R286: a Trestle becomes FAULTED, and the Cabinet is reported. -/
def State.trsFaulted (s : State) (p t code : Nat) : State :=
  (((s.setFld (trs p t) 0x044 1 0 3).setFlag (trs p t) 0x00C 0 true).setFlag (trs p t) 0x00C 1 false).cabFault p code

/-- R267: the descriptor stops without completion, and the Trestle is FAULTED. -/
def State.trsFault (s : State) (p t code : Nat) (x : TDesc) : State := (s.trsSet p t x { x with state := 3 }).trsFaulted p t code

/-- R277: an uncorrectable word: the running descriptors stop without completion, and the Trestle is FAULTED. -/
def State.trsUncorr (s : State) (p t off : Nat) : State :=
  (((s.setWin p t ((s.win p t).map fun z => if z.state = 1 then { z with state := 3 } else z)).err (trs p t) 2 0x031 (off / 16)).raise (trs p t) 8).trsFaulted
    p t 0x031

/-- R277: the error check of a Trestle's RAMs; false: the descriptor stops. -/
def State.trsEcc (s : State) (p t : Nat) (x : TDesc) : WordEcc → Bool × State
  | .clean => (true, s)
  | .corrected off => (true, (s.err (trs p t) 1 0x030 (off / 16)).raise (trs p t) 7)
  | .uncorrectable off => (false, (s.trsSet p t x { x with state := 1 }).trsUncorr p t off)

/-- R286: are the four banks of a Trestle's store accessible? -/
def State.trsBanks (s : State) (p t : Nat) : Option Nat := (List.range' (16 + 4 * t) 4).find? fun b => !s.bankOn p b

/-- R271: a descriptor that may start runs; `k` answers the state after it, its status and the instances it still awaits. -/
def trsStart (p t : Nat) (ecc : WordEcc) (f : Nat → Bool) (s : State) (k : TDesc → State → State) : Result :=
  if !s.live p || s.trsPaused p t || s.unitStalled p (1 + t) then done s
  else match dPick (s.win p t) f [] (s.win p t) with
    | none => done s
    | some x =>
      match s.trsBanks p t with
      | some b => done ((s.bankErr p b).trsFault p t 0x0B0 x)
      | none => match s.trsEcc p t x ecc with
        | (false, u) => done u
        | (true, u) => done (k x u)

/-- A descriptor has done its work and waits for its completion (R272). -/
def State.trsFinish (s : State) (p t : Nat) (x : TDesc) : State := s.trsSet p t x { x with state := 2 }

/-! ### Loads -/

/-- A load of `n` bytes from shared memory: `k` takes them; an access that does not take place leaves the RAM as it is, and a bank that is not ON
stops the descriptor (R286). -/
def State.trsLoad (s : State) (p t : Nat) (x : TDesc) (src n : Nat) (k : Nat → State → State) : State :=
  match s.sharedOff p src n with
  | some b => (s.bankErr p b).trsFault p t 0x0B0 x
  | none => match s.sharedRead p src n with
    | (some v, u) => (k v u).trsFinish p t x
    | (none, u) => u.trsFinish p t x

/-- A load that copies. -/
def State.trsCopy (s : State) (p t : Nat) (x : TDesc) (src dst n : Nat) : State := s.trsLoad p t x src n fun v u => u.store (trsAt p t dst) n v

/-- R268: LOAD_W. -/
def execLoadW (p t : Nat) (ecc : WordEcc) (s : State) : Result :=
  trsStart p t ecc (fun d => dOp d = 1) s fun x s =>
    s.trsCopy p t x (bytesOf x.raw 23 16) (64 * dF x.raw 10 12 0) (64 * dF x.raw 24 13 0)

/-- R268: LOAD_CB. -/
def execLoadCb (p t : Nat) (ecc : WordEcc) (s : State) : Result :=
  trsStart p t ecc (fun d => dOp d = 2) s fun x s =>
    s.trsCopy p t x (bytesOf x.raw 23 16) (0x80000 + 16 * dF x.raw 10 7 0) (16 * dF x.raw 24 8 0)

/-- R268: LOAD_RESCALE: rescale entries, or one activation table. -/
def execLoadRescale (p t : Nat) (ecc : WordEcc) (s : State) : Result :=
  trsStart p t ecc (fun d => dOp d = 3) s fun x s =>
    let d := x.raw
    if dF d 9 2 0 = 0 then s.trsCopy p t x (bytesOf d 23 16) (0x81000 + 8 * dF d 10 11 0) (8 * dF d 24 12 0)
      else s.trsCopy p t x (bytesOf d 23 16) (0x89000 + 256 * (dF d 9 2 0 - 1)) 256

/-- R260: the row quantiser: values, m and e, on a row in units of 2^-149. -/
def rowQuant (v : List Int) : List Int × Nat × Int :=
  let amax := v.foldl (fun a x => max a x.natAbs) 0
  if amax = 0 then (v.map fun _ => 0, 0, 0)
  else
    let n := amax.log2
    let ceil (j : Int) : Nat := if 0 ≤ j then (amax + 127 * 2 ^ j.toNat - 1) / (127 * 2 ^ j.toNat) else (amax * 2 ^ (-j).toNat + 126) / 127
    let j : Int := (n : Int) - 14
    let m := ceil j
    let (j, m) := if 255 < m then (j + 1, ceil (j + 1)) else (j, m)
    (v.map fun x => divr (x * 2 ^ 14) (m * 2 ^ (j + 14).toNat), m, j - 149)

/-- `n` values of a row of bytes in shared memory, each of `size` bytes. -/
def splitRow (v size : Nat) : Nat → List Nat
  | 0 => []
  | n + 1 => v % 256 ^ size :: splitRow (v / 256 ^ size) size n

/-- A value of a BF16 or FP32 row in units of 2^-149, or none. -/
def in149 (f : Fmt) (b : Nat) : Option Int := (decF f b).map fun x => x.m * 2 ^ (x.e + 149).toNat

/-- R260, R261: one quantised row is stored, with its scale; the NaNs it held are counted. -/
def State.quantRow (s : State) (p t dst scales i k : Nat) (f : Fmt) (raw : List Nat) : State :=
  let vs := raw.map (in149 f)
  let (q, m, e) := rowQuant (vs.map (·.getD 0))
  let nans := (vs.filter Option.isNone).length
  let row := (q.foldr (fun x a => toBits x 8 + 256 * a) 0)
  let s := (s.store (trsAt p t (dst + i * k)) k row).store (trsAt p t (scales + 4 * i)) 4 (m % 256 + toBits e 9 * 256)
  if nans = 0 then s else (s.addCtr (trs p t) 0x064 nans).raise (trs p t) 4

/-- R260, R268: LOAD_ACT. -/
def execLoadAct (p t : Nat) (ecc : WordEcc) (s : State) : Result :=
  trsStart p t ecc (fun d => dOp d = 4) s fun x s =>
    let d := x.raw
    let fmt := dF d 9 2 0
    let k := actK d
    let m := actM d
    let src := bytesOf d 23 16
    let dst := 64 * dF d 10 12 0
    if fmt = 1 || fmt = 2 then
      let size := if fmt = 1 then 2 else 4
      s.trsLoad p t x src (size * k * m) fun v u =>
        (List.range m).foldl (fun u i =>
          u.quantRow p t dst (dst + 64 * blocks (k * m)) i k (if fmt = 1 then bf16 else fp32) (splitRow (v / 256 ^ (size * k * i)) size k)) u
    else s.trsCopy p t x src dst (if fmt = 0 then 64 * blocks (k * m) + 4 * m else if fmt = 3 then k * m else 2 * k * m)

/-! ### RUN -/

/-- `n` bytes of a Trestle's window RAM. -/
def State.tld (s : State) (p t off n : Nat) : Nat := s.load (trsAt p t off) n

/-- R263: the weight value wv(x, n). -/
def State.runW (s : State) (p t d x n : Nat) : Int :=
  let w := 64 * dF d 18 12 0
  if runMode d = 0 then ofBits (s.tld p t (w + 16 * x + n) 1) 8
  else
    let c := s.tld p t (w + 8 * x) 8 / 16 ^ n % 16
    if runMode d = 3 then ofBits (s.tld p t (0x80000 + 16 * (dF d 22 15 8 + x / runGs d) + c) 1) 8 else (c : Int) - 8

/-- The weights a column holds: with CHK, column 15 holds the sums of the other columns (10_trestles.md, The checksum column). -/
def State.runCol (s : State) (p t d x n : Nat) : Int :=
  if dF d 9 3 3 = 1 && n = 15 then (List.range 15).foldl (fun a c => a + s.runW p t d x c) 0 else s.runW p t d x n

/-- The RAW accumulator that ACC_IN starts from, as its 32 bits. -/
def State.runRaw (s : State) (p t d i n : Nat) : Nat := s.tld p t (64 * dF d 10 12 0 + i * runStride d 4 + 4 * n) 4

/-- R263: an integer accumulator, and how often it saturated. -/
def State.runAccI (s : State) (p t d i n : Nat) : Int × Cnt :=
  let k := runK d
  let gs := runGs d
  let act := 64 * dF d 16 12 0 + i * k
  let a0 : Int := if dF d 9 4 4 = 1 then ofBits (s.runRaw p t d i n) 32 else 0
  (List.range (k / gs)).foldl (fun a g =>
    let ps := (List.range gs).foldl (fun (b : Int) j => b + ofBits (s.tld p t (act + g * gs + j) 1) 8 * s.runCol p t d (g * gs + j) n) 0
    let y := if runMode d = 0 then a.1 + ps
      else
        let e := s.tld p t (64 * dF d 20 12 0 + 32 * g + 2 * n) 2
        a.1 + rneI (ps * (e % 256 : Nat)) (-(ofBits (nb e 13 8) 6))
    (sat y 32, if y = sat y 32 then a.2 else a.2.add ⟨1, 0, 0⟩)) (a0, Cnt.zero)

/-- The formats of a floating-point RUN's activations and weights. -/
def runFmts (d : Nat) : Fmt × Fmt :=
  if runMode d = 2 then (bf16, bf16) else (if dF d 16 14 14 = 1 then e5m2 else e4m3, if dF d 16 13 13 = 1 then e5m2 else e4m3)

/-- R264: a floating-point accumulator. -/
def State.runAccF (s : State) (p t d i n : Nat) : Dy × Cnt :=
  let k := runK d
  let (fa, fw) := runFmts d
  let sz := if runMode d = 2 then 2 else 1
  let act := 64 * dF d 16 12 0 + sz * i * k
  let w := 64 * dF d 18 12 0
  let a0 := if dF d 9 4 4 = 1 then operandF fp32 (s.runRaw p t d i n) else (⟨0, -149⟩, Cnt.zero)
  (List.range (k / 16)).foldl (fun a tile =>
    let col := (List.range 16).foldl (fun (b : Dy × Cnt) r =>
      let x := 16 * tile + r
      let u := operandF fa (s.tld p t (act + sz * x) sz)
      let v := operandF fw (s.tld p t (w + 16 * sz * x + sz * n) sz)
      let m := rn32 (u.1.mul v.1)
      let y := rn32 (b.1.add m.1)
      (y.1, (((b.2.add u.2).add v.2).add m.2).add y.2)) (⟨0, -149⟩, Cnt.zero)
    let y := rn32 (a.1.add col.1)
    (y.1, (a.2.add col.2).add y.2)) a0

/-- sat to w bits with the clip counted as OSAT. -/
def satO (x : Int) (w : Nat) : Int × Cnt := (sat x w, ⟨0, b2n (decide (sat x w ≠ x)), 0⟩)

/-- The integer nearest to a value. -/
def Dy.toInt (x : Dy) : Int := rneI x.m (-x.e)

/-- R265: the output of a value `real` with integer value `y`, as the bits stored. -/
def State.runOutVal (s : State) (p t d : Nat) (y : Int) (real : Dy) : Nat × Cnt :=
  match runFmt d with
  | 1 => let z := satO y 32; (toBits z.1 32, z.2)
  | 2 =>
    let z := satO y 8
    (if dF d 9 5 5 = 1 then s.tld p t (0x89000 + 256 * dF d 9 7 6 + (z.1 + 128).toNat) 1 else toBits z.1 8, z.2)
  | 3 => let r := rnF e4m3 real; (encF e4m3 r.1, ⟨0, b2n r.2, 0⟩)
  | 4 => let r := rnF e5m2 real; (encF e5m2 r.1, ⟨0, b2n r.2, 0⟩)
  | _ => let r := rnF bf16 real; (encF bf16 r.1, ⟨0, b2n r.2, 0⟩)

/-- R265: the row's scale m_r, e_r. -/
def State.runScale (s : State) (p t d i : Nat) : Nat × Int :=
  if dF d 30 0 0 = 1 then (1, 0)
  else
    let e := s.tld p t (64 * dF d 16 12 0 + 64 * blocks (dM d * runK d) + 4 * i) 4
    (e % 256, ofBits (nb e 16 8) 9)

/-- R263 to R265: one output of a RUN: the bits stored and the counts. -/
def State.runOne (s : State) (p t d i n : Nat) : Nat × Cnt :=
  let rs := s.tld p t (0x81000 + 8 * (dF d 26 11 0 + n)) 8
  if runFmt d ≠ 0 && dF d 9 3 3 = 1 && n = 15 then (0, if runInt d then (s.runAccI p t d i n).2 else (s.runAccF p t d i n).2)
  else if runInt d then
    let (acc, c) := s.runAccI p t d i n
    if runFmt d = 0 then (toBits acc 32, c)
    else
      let (m, e) := s.runScale p t d i
      let y := satO (rneI (acc * m * nb rs 15 0) (ofBits (nb rs 21 16) 6 - e) + ofBits (nb rs 63 32) 32) 32
      let o := s.runOutVal p t d y.1 ⟨y.1, -(dF d 28 5 0 : Int)⟩
      (o.1, (c.add y.2).add o.2)
  else
    let (acc, c) := s.runAccF p t d i n
    if runFmt d = 0 then (encF fp32 acc.m, c)
    else
      let a := rn32 ⟨acc.m * nb rs 15 0, acc.e + ofBits (nb rs 21 16) 6 - 15⟩
      let b := operandF fp32 (nb rs 63 32)
      let y := rn32 (a.1.add b.1)
      let o := s.runOutVal p t d y.1.toInt y.1
      (o.1, ((((c.add a.2).add b.2).add y.2).add o.2))

/-- The counters and causes of a RUN. -/
def State.trsCount (s : State) (p t : Nat) (c : Cnt) : State :=
  let s := if c.acc = 0 then s else (s.addCtr (trs p t) 0x05C c.acc).raise (trs p t) 2
  let s := if c.osat = 0 then s else (s.addCtr (trs p t) 0x060 c.osat).raise (trs p t) 3
  if c.nan = 0 then s else (s.addCtr (trs p t) 0x064 c.nan).raise (trs p t) 4

/-- R257, R263, R264: the accumulator of a row and a column at the end of a RUN, as its 32 bits. -/
def State.runAcc (s : State) (p t d i n : Nat) : Nat := if runInt d then toBits (s.runAccI p t d i n).1 32 else encF fp32 (s.runAccF p t d i n).1.m

/-- R263 to R266: the block of outputs of a RUN is computed from the state before it and written; the accumulator RAM keeps the
accumulators. -/
def State.runBlock (s : State) (p t d : Nat) : State :=
  let cells := (List.range (dM d)).flatMap fun i => (List.range 16).map fun n => (i, n, s.runOne p t d i n)
  let c := cells.foldl (fun a x => a.add x.2.2.2) Cnt.zero
  let u := cells.foldl (fun u x => u.store (trsAt p t (64 * dF d 10 12 0 + x.1 * runStride d (runSize d) + x.2.1 * runSize d)) (runSize d) x.2.2.1) s
  let u := cells.foldl (fun u x => u.store (accAt p t x.1 x.2.1) 4 (s.runAcc p t d x.1 x.2.1)) u
  let u := if u.ctrFrozen (trs p t) then u
    else u.wr64 (trs p t) 0x054 (min (u.rd64 (trs p t) 0x054 + dM d * runK d / 16) (2 ^ 48 - 1))
  u.trsCount p t c

/-- R263, R267: RUN. `chk` is the activation row at which the checksum column differs, if it does. -/
def execRun (p t : Nat) (ecc : WordEcc) (chk : Option Nat) (s : State) : Result :=
  trsStart p t ecc (fun d => dOp d = 5) s fun x s =>
    match chk with
    | some row =>
      if dF x.raw 9 3 3 = 1 then
        (((s.err (trs p t) 2 0x090 row).incCtr (trs p t) 0x06C).raise (trs p t) 1).trsFault p t 0x090 x
      else (s.runBlock p t x.raw).trsFinish p t x
    | none => (s.runBlock p t x.raw).trsFinish p t x

/-! ### The output unit -/

/-- R268: REDUCE_OUT in COPY mode. -/
def execReduceOutCopy (p t : Nat) (ecc : WordEcc) (s : State) : Result :=
  trsStart p t ecc (fun d => dOp d = 6 && dF d 9 2 0 = 0) s fun x s =>
    let n := 64 * dF x.raw 24 13 0
    match s.sharedOff p (bytesOf x.raw 23 16) n with
    | some b => (s.bankErr p b).trsFault p t 0x0B0 x
    | none => (s.sharedWrite p (bytesOf x.raw 23 16) n (s.tld p t (64 * dF x.raw 10 12 0) n)).2.trsFinish p t x

/-- R273: the operand of a value, and whether it was clipped; the second count is a NaN source. -/
def redOperand (d v : Nat) : Int × Bool × Bool :=
  let (x, clip, nan) : Int × Bool × Bool :=
    if dF d 9 3 3 = 1 then
      match decF fp32 v with
      | some y =>
        let z := rneI y.m (ofBits (dF d 20 14 6) 9 - y.e)
        (min (max z (-(2 ^ 63 - 1))) (2 ^ 63 - 1), decide (z > 2 ^ 63 - 1) || decide (z < -(2 ^ 63 - 1)), false)
      | none => (0, false, true)
    else (ofBits v 32, false, false)
  (if 3 ≤ dF d 9 2 0 then x + 2 ^ 63 else x, clip, nan)

/-- Table 16.4: the KIND 4 entry of a RED_UP. -/
def redUpEntry (pl : Nat) : Nat := pl / 2 ^ 14 * 2 ^ 14 + 4

/-- R442: does the replaying spare's router hold back a RED_UP of this instance, because the journal has it? -/
def State.redHeldBack (s : State) (p inst : Nat) : Bool :=
  (s.cab p).replay && (s.journal (s.cabKey p) (s.cabLog p)).entries.any fun e => e % 8 = 4 && nb e 31 16 = inst

/-- R273: one contribution leaves as a RED_UP, journalled for a protected Cabinet (R431). -/
def State.redSend (s : State) (p t d elem : Nat) : State :=
  let v := s.tld p t (64 * dF d 10 12 0 + 4 * elem) 4
  let (x, clip, nan) := redOperand d v
  let inst := (dF d 22 15 0 + elem) % 65536
  let op := dF d 9 2 0 - 1
  let pl := redPayload (if 3 ≤ dF d 9 2 0 then x.toNat else toBits x 74) op 1 (dF d 24 9 0) inst false false
  let s := if clip then (s.incCtr (trs p t) 0x068).raise (trs p t) 5 else s
  let s := if nan then (s.incCtr (trs p t) 0x064).raise (trs p t) 4 else s
  let k := s.cabKey p
  if s.redHeldBack p inst then s
  else
    let s := if (s.cfg k).prot then s.journalAdd k (s.cabLog p) [redUpEntry pl] else s
    s.enter ⟨0, p, 2, k, 0, 3, dF d 20 5 0, pl⟩

/-- R273, R274: REDUCE_OUT in a reduce mode: with RECV every instance is registered first, then with SEND every value is contributed. -/
def execReduceOutReduce (p t : Nat) (ecc : WordEcc) (s : State) : Result :=
  trsStart p t ecc (fun d => dOp d = 6 && dF d 9 2 0 ≠ 0) s fun x s =>
    let d := x.raw
    let n := 16 * (dF d 18 9 0 + 1)
    let recv := dF d 9 5 5 = 1
    let y : TDesc := { x with state := if recv then 1 else 2, left := if recv then (List.range n).map fun e => (dF d 22 15 0 + e) % 65536 else [] }
    let s := s.trsSet p t x y
    if dF d 9 4 4 = 1 then (List.range n).foldl (fun s e => s.redSend p t d e) s else s

/-- R274: the value written for a result, and whether it saturated. -/
def redResultBits (d r : Nat) (incomplete ovf : Bool) : Nat × Bool :=
  let m := dF d 9 2 0
  if incomplete then (0, ovf)
  else if m = 1 then (r % 2 ^ 32, ovf)
  else
    let x : Int := if 3 ≤ m then (r : Int) - 2 ^ 63 else ofBits r 64
    if dF d 9 3 3 = 1 then let y := rnF fp32 ⟨x, ofBits (dF d 20 14 6) 9⟩; (encF fp32 y.1, y.2 || ovf)
    else (toBits (sat x 32) 32, decide (sat x 32 ≠ x) || ovf)

/-- The descriptor of a window that has registered an instance of a tag. -/
def State.redOwner (s : State) (p t tag inst : Nat) : Option TDesc :=
  (s.win p t).find? fun x => dOp x.raw = 6 && x.state = 1 && dF x.raw 20 5 0 = tag && x.left.contains inst

/-- R274, R277, R286: a matching result is written, where the store's banks are ON; an OVF counts on an incomplete one too; the last one finishes the
descriptor. -/
def State.redTake (s : State) (p t inst pl : Nat) (x : TDesc) : State :=
  match s.trsBanks p t with
  | some b => (s.bankErr p b).trsFault p t 0x0B0 x
  | none =>
  let inc := pl.testBit 15
  let d := x.raw
  let (v, sat) := redResultBits d (nb pl 127 64) inc (pl.testBit 14)
  let elem := (inst + 65536 - dF d 22 15 0) % 65536
  let s := s.store (trsAt p t (64 * dF d 16 12 0 + 4 * elem)) 4 v
  let s := if sat then (s.incCtr (trs p t) 0x068).raise (trs p t) 5 else s
  let s := if inc then (((s.incCtr (trs p t) 0x070).raise (trs p t) 6).err (trs p t) 4 0x092 (dF d 20 5 0)) else s
  let left := x.left.erase inst
  s.trsSet p t x { x with left := left, status := if inc then 2 else x.status, state := if left.isEmpty then 2 else 1 }

/-- R304: an orphan result goes to RED_Q, or is discarded and counted. -/
def State.redOrphan (s : State) (p tag pl : Nat) : State :=
  let s := s.raise (qmgr p) 5
  if s.flag (qmgr p) 0x088 31 then s.post p 10 (s.cabLog p * 4096 + s.fld (qmgr p) 0x088 11 0) 0 (pl + tag * 2 ^ 128)
  else s.incCtr (qmgr p) 0x0A0

/-- R274, R304, R431: a RED_DOWN with a program tag reaches a Cabinet: journalled, and written by each Trestle that registered it, or an orphan. -/
def execRedDownProgramResult (p : Nat) (s : State) : Result :=
  match s.inbox.find? (fun a => a.dest = p && a.flit.kind = 4 && a.flit.tag ≠ 63) with
  | none => done s
  | some a =>
    let k := s.cabKey p
    if !s.live p then done s
    else if s.journalFull k (s.cabLog p) then done (s.journalBlock k (s.cabLog p))
    else
      let s := { s with inbox := s.inbox.erase a }
      let pl := a.flit.payload
      let s := if (s.cfg k).prot then s.journalAdd k (s.cabLog p) [pl / 2 ^ 14 * 2 ^ 14 + 3] else s
      let inst := nb pl 31 16
      match s.redOwner p 0 a.flit.tag inst, s.redOwner p 1 a.flit.tag inst with
      | some x, none => done (s.redTake p 0 inst pl x)
      | some x, some y => done ((s.redTake p 0 inst pl x).redTake p 1 inst pl y)
      | none, some x => done (s.redTake p 1 inst pl x)
      | none, none => done (s.redOrphan p a.flit.tag pl)

/-- R275: EMIT_EVENTS: each value at or above THR becomes an event of the projection group. -/
def execEmitEvents (p t : Nat) (ecc : WordEcc) (s : State) : Result :=
  if s.unitStalled p 7 then done s else trsStart p t ecc (fun d => dOp d = 7) s fun x s =>
    let d := x.raw
    let nc := dF d 26 12 0
    let t0 := rebuild (bytesOf d 21 16) s.now
    let evs := (List.range (dM d)).flatMap fun i => (List.range nc).filterMap fun c =>
      let v := s.tld p t (64 * dF d 10 12 0 + i * nc + c) 1
      if dF d 9 7 0 ≤ v then some (t0 + i * dF d 30 15 0, dF d 28 14 0 + c, v) else none
    let s := evs.foldl (fun s e => s.projectGroup p e.2.1 (dF d 22 11 0) e.1 e.2.2 0xFFFF 5 0 0) s
    (s.addCtr (trs p t) 0x074 evs.length).trsFinish p t x

/-! ### FENCE, completion, pause and window -/

/-- R271: a FENCE starts once every earlier descriptor has completed, and completes at once. -/
def execFence (p t : Nat) (s : State) : Result :=
  match s.win p t with
  | x :: xs =>
    if s.live p && !s.trsPaused p t && !s.unitStalled p (1 + t) && dOp x.raw = 8 then done ((s.setWin p t xs).trsDone p t x.raw 0) else done s
  | [] => done s

/-- R270: the held writes of CORE_FLOOR take effect once no EMIT_EVENTS below them is left. -/
def State.floorRelease (s : State) (p : Nat) : State :=
  let c := s.cab p
  let free := c.floorHeld.filter fun v => !s.floorPending p v
  if free.isEmpty then s
  else (s.setCab p { c with floorHeld := c.floorHeld.filter (s.floorPending p) }).wr64 (hzn p) 0x074 (free.foldl max (s.floor p))

/-- R272: the first descriptor that has done its work completes. An EMIT_EVENTS waits while its events wait outside a full plastic hold (R222). -/
def execDescriptorComplete (p t : Nat) (s : State) : Result :=
  match (s.win p t).find? fun x => x.state = 2 with
  | none => done s
  | some x =>
    if !s.live p || s.unitStalled p (1 + t) || (dOp x.raw = 7 && (s.outside p).any (fun e => e.type = 5)) then done s
    else done (((s.setWin p t ((s.win p t).erase x)).trsDone p t x.raw x.status).floorRelease p)

/-- R278: a write of TRS_CTRL. -/
def trsCtrlWrite (r : Req) (p t : Nat) (w : Word) (s : State) : State :=
  if w.bit 0 && !s.partStopped (s.cabKey p) && !r.isPf then s.refuse (trs p t) 0x040
  else (plainWrite (trs p t) 0x040 w s).trsShow p t

/-- R278: a write of TRS_CTRL. -/
def execTrestlePause (r : Req) (p t : Nat) (w : Word) (s : State) : Result := gated r (trs p t) 0x040 s (trsCtrlWrite r p t w)

/-- Table 10.14: is a window offset one that WIN_ADDR reaches? -/
def trsWinOk (off : Nat) : Bool := decide (off < 0x89400)

/-- The address register advances after an access with AUTOINC. -/
def State.trsWinNext (s : State) (p t : Nat) : State :=
  if s.flag (trs p t) 0x078 31 then s.setFld (trs p t) 0x078 19 2 (s.fld (trs p t) 0x078 19 2 + 1) else s

/-- R278, R280: a write of WIN_DATA. -/
def trsWinWrite (p t : Nat) (w : Word) (s : State) : State :=
  let off := 4 * s.fld (trs p t) 0x078 19 2
  let s := s.trsWinNext p t
  let b := bankOf (2 ^ 21 + t * 2 ^ 19 + off)
  if !trsWinOk off then s.badEnc (trs p t) 0x07C
  else if !(s.partStopped (s.cabKey p) || (s.trsPaused p t && (s.win p t).isEmpty)) then s.refuse (trs p t) (0x8000 + off / 128)
  else if off < 0x80000 && !s.bankOn p b then s.bankErr p b
  else s.store (trsAt p t off) 4 w.toNat

/-- R282, R287: a read of WIN_DATA is an observation read: the SPAD page records the errors of a store word, and the Trestle those of its RAMs (R277).
Which bits of an uncorrectable word are wrong is open: the value is free (log entry 4). -/
def trsWinRead (p t : Nat) (ecc : WordEcc) (s : State) : Nat × State :=
  let off := 4 * s.fld (trs p t) 0x078 19 2
  let s := s.trsWinNext p t
  let b := bankOf (2 ^ 21 + t * 2 ^ 19 + off)
  if !trsWinOk off then (0, s)
  else if off < 0x80000 && !s.bankOn p b then (0, s.bankErr p b)
  else
    match ecc with
    | .clean => (s.tld p t off 4, s)
    | .corrected o => (s.tld p t off 4, if off < 0x80000 then s.spadCorr p (2 ^ 21 + t * 2 ^ 19 + off) else (s.err (trs p t) 1 0x030 (o / 16)).raise (trs p t) 7)
    | .uncorrectable o =>
      let f := (if off < 0x80000 then s.spadUncorr p (2 ^ 21 + t * 2 ^ 19 + off) else s.trsUncorr p t o).draw; (f.1.toNat % 2 ^ 32, f.2)

/-- Table 10.13: an access to WIN_DATA: a write of the word given, or a read. -/
def execTrsWinData (r : Req) (p t : Nat) (w : Option Word) (ecc : WordEcc) (s : State) : Result :=
  match w with
  | some w => gated r (trs p t) 0x07C s (trsWinWrite p t w)
  | none => gatedRead r (trs p t) s (trsWinRead p t ecc)

end Sys2Proof.Machine
end

