-- ==== Sys2Proof/Machine/Peek.lean ====
section
/-!
DEFINITION. Peek.lean: what a read of a register returns: the stored word, and in place of it the identification, capability and status
fields that the tables derive from the state of the blocks (Tables 2.5 to 19.11). Reads that pop or snapshot have commands of their own.
-/

namespace Sys2Proof

/-- The encoding of a power state (R400). -/
def Machine.Pwr.code : Machine.Pwr → Nat
  | .run => 0 | .idle => 1 | .sleep => 2 | .deep => 3 | .off => 4

end Sys2Proof

namespace Sys2Proof.Machine

/-! ### Positions, fuses and the health record -/

/-- POS_STATE [1:0] (Table 17.12): 0 healthy, 1 cleared by fuse, 2 failed self-test, 3 fenced at run time. -/
def State.posState (s : State) (p : Nat) : Nat :=
  if !s.fuses.posEn.testBit p then 1 else if s.boot.posFail.testBit p then 2 else if s.boot.posFence.testBit p then 3 else 0

/-- Does a partition hold the position? -/
def State.assigned (s : State) (p : Nat) : Bool := s.owner (cctl p) ≠ 0

/-- R4, R344: a healthy position of no partition. -/
def State.spare (s : State) (p : Nat) : Bool := s.posState p = 0 && !s.assigned p

/-- The healthy unassigned positions. -/
def State.spares (s : State) : List Nat := (List.range 288).filter s.spare

/-- The healthy positions. -/
def State.healthyCount (s : State) : Nat := ((List.range 288).filter fun p => s.posState p = 0).length

/-- Table 0.1: the logical Cabinets of the part. -/
def Fuses.cabinets (f : Fuses) : Nat := if f.part = 0x4016 then 256 else if f.part = 0x4012 then 192 else 128
/-- Table 0.1: its intake channels. -/
def Fuses.channels (f : Fuses) : Nat := if f.part = 0x4016 then 16 else if f.part = 0x4012 then 12 else 8
/-- Table 0.1: its stacks. -/
def Fuses.stacks (f : Fuses) : Nat := if f.part = 0x4016 then 4 else if f.part = 0x4012 then 3 else 2

/-- Table 17.9 as 32-bit words, in its order (the numbering is the model's, log entry 33): the part and its grade, UID, POS_EN, CH_EN, STK_EN, 24
key-hash words that read as zero, the revocation bits, SVN, and the package delays. -/
def Fuses.word (f : Fuses) (i : Nat) : Nat :=
  if i = 0 then f.part + f.gib * 2 ^ 16 + f.rev * 2 ^ 24
  else if i < 3 then f.uid / 2 ^ (32 * (i - 1))
  else if i < 12 then f.posEn / 2 ^ (32 * (i - 3))
  else if i = 12 then f.chEn else if i = 13 then f.stkEn else if i < 38 then 0 else if i = 38 then f.revoked else if i = 39 then f.svn
  else f.pkgDly.getD (i - 40) 0

/-- R461: the health record in force: the good copy with the higher sequence number. -/
def Boot.record (b : Boot) : Option Health :=
  match b.rec0.filter (·.good), b.rec1.filter (·.good) with
  | some x, some y => if x.seq < y.seq then some y else some x
  | some x, none => some x
  | none, y => y

/-- R462: is a health record valid for a quick check? -/
def State.recordValid (s : State) (h : Health) : Bool :=
  h.good && h.full && h.epoch = s.boot.aonEpoch && decide (h.stamp ≤ s.boot.aonCount) && decide (s.boot.aonCount - h.stamp ≤ 251424) &&
    h.fuseDigest = s.boot.fuseDigest && h.coreDigest = s.boot.coreDigest && h.fwVer = s.rdN ⟨.dev, 0⟩ 0x050

/-- R462: REC_AGE. -/
def State.recAge (s : State) : Nat :=
  match s.boot.record with
  | some h => if s.recordValid h then s.boot.aonCount - h.stamp else 4294967295
  | none => 4294967295

/-! ### Domains -/

/-- R471: is the resource of a domain fused off? -/
def State.fusedOff (s : State) (d : Nat) : Bool :=
  if d < 4 then false
  else if d < 292 then !s.fuses.posEn.testBit (d - 4)
  else if d < 308 then !s.fuses.chEn.testBit (d - 292)
  else decide (312 ≤ d) || !s.fuses.stkEn.testBit (d - 308)

/-- The current state of a domain (R471, R477): a fused-off one stays OFF. -/
def State.curCode (s : State) (d : Nat) : Nat := if s.fusedOff d then 4 else (s.dom d).cur.code

/-- Table 15.5: PG_PWR of a domain. -/
def State.pgPwr (s : State) (d : Nat) : Nat :=
  if s.fusedOff d then 4 * 256 else (s.dom d).latest.code + (s.dom d).cur.code * 2 ^ 8 + b2n (s.dom d).busy * 2 ^ 16

/-- Table 18.4: the phases of a transition, in order. One between two states other than RUN passes through RUN. -/
def phasesOf (c t : Pwr) : List Nat :=
  (match c with | .run => [] | .idle => [1] | .sleep => [4] | .deep => [4, 5] | .off => [4, 6]) ++
    (match t with | .run => [] | .idle => [1] | .sleep => [1] | .deep => [2, 3] | .off => [3])

/-- DOM_STATUS.PHASE (Table 18.11), 0 outside a transition. Table 18.4 bounds each phase and does not time it: which phase of the transition is in
progress is a free value (log entry 56). -/
def State.domPhase (s : State) (x : Dom) : Nat :=
  let l := phasesOf x.cur x.target
  if x.busy then l.getD ((Config.free s.draws).toNat % l.length) 0 else 0

/-- Table 18.11: DOM_STATUS of a domain. -/
def State.domStatus (s : State) (d : Nat) : Nat :=
  if s.fusedOff d then 4 * 256
  else
    let x := s.dom d
    x.latest.code + (x.recorded.map Pwr.code).getD 0 * 2 ^ 4 + b2n x.recorded.isSome * 2 ^ 7 + x.cur.code * 2 ^ 8 + s.domPhase x * 2 ^ 11 +
      b2n x.busy * 2 ^ 16 + b2n x.fio * 2 ^ 17

/-- Is some domain in transition? -/
def State.anyBusy (s : State) : Bool := s.doms.any (·.2.busy)

/-- The registers of the PWR page that are not stored. -/
def State.peekPwr (s : State) (off : Nat) : Option Nat :=
  let sel := s.fld ⟨.pwr, 0⟩ 0x04C 8 0
  if off = 0x00C then some (b2n s.anyBusy + 2 * b2n s.devPwr.busy)
  else if off = 0x048 then
    some (s.devPwr.cur.code + (s.devPwr.recorded.map Pwr.code).getD 0 * 2 ^ 4 + b2n s.devPwr.recorded.isSome * 2 ^ 7 + b2n s.devPwr.busy * 2 ^ 16)
  else if off = 0x050 then some (if s.fusedOff sel then 0 else (s.dom sel).latest.code)
  else if off = 0x054 then some (s.domStatus sel)
  else if off = 0x05C then some (min (s.dom sel).lastNs 16777215)
  else if 0x070 ≤ off && off < 0x10C then
    let i := (off - 0x070) / 4
    some ((List.range 8).foldl (fun a j => if 8 * i + j < 312 then a + s.curCode (8 * i + j) * 8 ^ j else a) 0)
  else none

/-! ### TIME, DEV, BUR, PLC, INTG and BIST -/

/-- The registers of the two TIME pages and of CHTMR that are not stored: STATE, NOW, and TMR_STATUS with the timer's flags and queue level. -/
def State.peekTime (s : State) (p : Page) (off : Nat) : Option Nat :=
  if p.blk = .time0 then
    if off = 0x00C then
      some ((match s.tb.state with | .held => 0 | .armed => 1 | .running => 2) + 4 * s.fld p 0x070 1 0 + 16 * b2n (s.flag p 0x010 1))
    else if off = 0x040 then some (s.now % 2 ^ 32) else if off = 0x044 then some (s.now / 2 ^ 32) else none
  else if 0x100 ≤ off && (off - 0x100) % 0x40 = 0x10 then
    let i := (off - 0x100) / 0x40
    some (b2n (s.flag p 0x010 i) + 2 * b2n (s.flag p 0x010 (16 + i)) + 4 * b2n (s.flag p off 2) + 8 * (s.captureQ p i).length)
  else none

/-- The DEV page of a function's view (Tables 15.13, 15.14). DEV_CTRL.LEGACY lies in D_AON. -/
def State.peekDev (s : State) (f off : Nat) : Option Nat :=
  if off = 0x040 then some (s.fuses.part + s.fuses.gib * 2 ^ 16 + s.fuses.rev % 256 * 2 ^ 24)
  else if off = 0x044 then some (s.fuses.cabinets + s.fuses.channels * 2 ^ 9 + s.fuses.stacks * 2 ^ 14)
  else if off = 0x048 then some (b2n s.boot.legacyReq)
  else if off = 0x04C || off = 0x050 || off = 0x054 then some (s.rdN ⟨.dev, 0⟩ off)
  else if off = 0x058 then some (s.fuses.uid % 2 ^ 32) else if off = 0x05C then some (s.fuses.uid / 2 ^ 32)
  else if off = 0x060 then some f else none

/-- Is a migration in progress? -/
def State.migrating (s : State) : Bool := s.mbox.any fun m => decide (1 ≤ m.phase) && decide (m.phase ≤ 4) && m.dst ≠ m.src

/-- R357: the free regions of a stack: present, allotable and allotted to nothing. -/
def State.freeRegions (s : State) (h : Nat) : List Nat :=
  if s.fuses.stkEn.testBit h then s.regions.filter fun r => !(s.regCfg h r).bit 31 || (s.regCfg h r).bits 9 6 = 0 else []

/-- The PLC page (Table 13.12). -/
def State.peekPlc (s : State) (off : Nat) : Option Nat :=
  let k := s.fld pPlc 0x070 5 0
  let c := s.cfg k
  if off = 0x00C then some (b2n s.migrating + 2 * b2n (s.flag pPlc 0x00C 1))
  else if off = 0x044 then some (s.spares.length + ((List.range 288).filter fun p => s.posState p = 3).length * 2 ^ 16)
  else if off = 0x04C then
    let m := s.mapEntry (s.fld pPlc 0x048 5 0) (s.fld pPlc 0x048 15 8)
    some (m.phys % 512 + b2n m.parked * 2 ^ 14 + b2n m.valid * 2 ^ 15)
  else if 0x050 ≤ off && off < 0x070 then
    let h := (off - 0x050) / 8
    if off % 8 = 0 then some (s.stackBw h + ((s.runningParts.map fun k => s.guarantee k h).foldl (· + ·) 0) / 1000000000 * 2 ^ 16)
    else some (s.freeRegions h).length
  else if off = 0x074 then
    let st := match s.part k with | .free => 0 | .loaded => 1 | .running => 2 | .stopped => 3 | .faulted => 4
    some (st + c.cls * 2 ^ 3 + b2n c.prot * 2 ^ 5 + min c.short 255 * 2 ^ 8 + min c.ew 255 * 2 ^ 16 + min c.mw 255 * 2 ^ 24)
  else if off = 0x078 then some c.ep
  else none

/-- The partition and logical Cabinet whose checkpoint an INTG view selects: a VF sees its own partition's only. -/
def State.ckptSel (s : State) (f : Nat) : Option (Nat × Nat) :=
  let k := s.fld (intg f) 0x08C 5 0
  if f = 0 || k = f then some (k, s.fld (intg f) 0x08C 15 8) else none

/-- The INTG page of a view (Tables 16.7, 16.9). -/
def State.peekIntg (s : State) (f off : Nat) : Option Nat :=
  let j (g : Journal → Nat) : Option Nat := some (match s.ckptSel f with | some (k, c) => g (s.journal k c) | none => 0)
  let ck (g : Ckpt → Nat) : Option Nat :=
    some (match s.ckptSel f with
      | some (k, c) => match ((s.ckptsOf k c).filter (·.valid)).getLast? with | some x => g x | none => 0
      | none => 0)
  if off = 0x004 then some (logDepth f)
  else if off = 0x00C then some (b2n (s.recov.any fun r => (f = 0 || r.key = f) && decide (1 ≤ r.step)) + 2 * b2n (s.flag (intg f) 0x010 1))
  else if off = 0x040 then some (s.log f).length
  else if off = 0x090 then ck (fun x => x.t % 2 ^ 32) else if off = 0x094 then ck (fun x => x.t / 2 ^ 32)
  else if off = 0x098 then ck (·.dur) else if off = 0x09C then j (·.late)
  else if off = 0x0A0 then j (·.entries.length) else if off = 0x0A4 then j (·.hwm) else if off = 0x0A8 then j (·.full)
  else if off = 0x0AC then some (match s.ckptSel f with | some (k, _) => (s.cfg k).left | none => 0)
  else none

/-- The BIST page (Table 17.12). -/
def State.peekBist (s : State) (off : Nat) : Option Nat :=
  let p : Page := ⟨.bist, 0⟩
  let pos := s.fld p 0x054 8 0
  if off = 0x00C then some (b2n (decide (1 ≤ s.fld p 0x044 2 0) && decide (s.fld p 0x044 2 0 ≤ 3) || s.flag p 0x06C 0))
  else if off = 0x044 then some (s.rdN p 0x044 % 64 + 64 * b2n s.boot.aonLost)
  else if off = 0x050 then some (SMap.get (fun _ => (0 : Word)) s.boot.slices (s.fld p 0x04C 3 0 * 4096 + s.fld p 0x04C 15 4)).toNat
  else if off = 0x058 then some (if pos < 288 then s.posState pos + 4 * b2n (s.spare pos) + 8 * b2n (s.assigned pos) else 0)
  else if off = 0x05C then some (s.healthyCount + s.spares.length * 2 ^ 16)
  else if off = 0x060 then some s.boot.aonCount
  else if off = 0x064 then some s.recAge
  else if off = 0x068 then some ((s.boot.record.map (·.seq)).getD 0)
  else if off = 0x074 then some (s.fuses.word (s.fld p 0x070 7 0))
  else none

/-! ### HQ -/

/-- The page with a slot in a function's own view (R402, Table 15.4): the channels and the Cabinet windows of a VF are the logical
ones (R2, R395). -/
def State.slotPage (s : State) (f slot : Nat) : Option Page :=
  let own : List Page := [⟨.dev, f⟩, ⟨.bur, f⟩, ⟨.intg, f⟩, ⟨.hq, f⟩]
  let pf : List Page := [⟨.pwr, 0⟩, ⟨.time0, 0⟩, ⟨.time1, 0⟩, ⟨.plc, 0⟩, ⟨.obs, 0⟩, ⟨.bist, 0⟩] ++
    (List.range 4).flatMap (fun h => [⟨.hut0, h⟩, ⟨.hut1, h⟩]) ++ (List.range 6).map (fun g => ⟨.d2d, g⟩)
  let cab (p i : Nat) : Option Page :=
    if i = 0 then some ⟨.cctl, p⟩ else if i = 1 then some ⟨.qmgr, p⟩ else if i = 2 then some ⟨.spad, p⟩
    else if i < 7 then some ⟨.drw, 4 * p + (i - 3)⟩ else if i < 9 then some ⟨.trs, 2 * p + (i - 7)⟩
    else if i = 9 then some ⟨.xpnd, p⟩ else if i = 10 then some ⟨.hzn, p⟩ else if i = 11 then (if f = 0 then some ⟨.rtr, p⟩ else none)
    else if i = 12 then some ⟨.cobs, p⟩ else none
  if slot < 0x10 || (0x80 ≤ slot && slot < 0x100) then (own ++ (if f = 0 then pf else [])).find? (·.slot = slot)
  else if slot < 0x50 then
    let n := if f = 0 then (slot - 0x10) / 4 else s.physChan ((slot - 0x10) / 4)
    some (if slot % 4 = 0 then ⟨.chin, n⟩ else if slot % 4 = 1 then ⟨.chenc, n⟩ else if slot % 4 = 2 then ⟨.chdec, n⟩ else ⟨.chtmr, n⟩)
  else if slot < 0x1000 then none
  else
    let c := (slot - 0x1000) / 16
    if f = 0 then (if c < 288 then cab c (slot % 16) else none)
    else
      let m := s.mapEntry f c
      if c < 256 && m.valid && !m.parked then cab m.phys (slot % 16) else none

/-- R422: the page a function's IRQ_SEL selects, where it is the function's to route. -/
def State.routePage (s : State) (f : Nat) : Option Page :=
  match s.slotPage f (s.fld (hq f) 0x074 13 0) with
  | some p => if s.reaches f p && (f = 0 || p.perView || s.owner p = f) then some p else none
  | none => none

/-- The route entry of a page: it belongs to the page (R402). -/
def State.route (s : State) (p : Page) : Word := SMap.get (fun _ => (0 : Word)) s.routes p.key

/-- The state with a page's route entry replaced. -/
def State.setRoute (s : State) (p : Page) (w : Word) : State := { s with routes := SMap.set (fun _ => (0 : Word)) s.routes p.key w }

/-- The HQ page of a function (Tables 15.16, 15.17): the selected ring's registers and the selected route entry. -/
def State.peekHq (s : State) (f off : Nat) : Option Nat :=
  let ring (g : Ring → Nat) : Option Nat := some (match s.ringSel f with | some i => g (s.hring f i) | none => 0)
  if off = 0x004 then some (ringCount f)
  else if off = 0x044 then ring (·.cfg.toNat) else if off = 0x048 then ring (·.baseLo.toNat) else if off = 0x04C then ring (·.baseHi.toNat)
  else if off = 0x050 then ring (·.shLo.toNat) else if off = 0x054 then ring (·.shHi.toNat) else if off = 0x058 then ring (·.target.toNat)
  else if off = 0x05C then ring (fun r => r.st + r.code * 4 + r.fail * 2 ^ 8) else if off = 0x060 then ring (·.head) else if off = 0x064 then ring (·.tail)
  else if off = 0x078 then some (match s.routePage f with | some p => (s.route p).toNat | none => 0)
  else if f ≠ 0 && (off = 0x080 || 0x100 ≤ off) then some 0
  else none

/-! ### Cabinet pages -/

/-- The wait of the core, µs (BLOCK_TIME). -/
def State.blockTime (s : State) (p : Nat) : Nat :=
  if (s.core p).wait.isSome then min ((s.now - (s.core p).waitSince) / 32000) 16777215 else 0

/-- The CCTL page (Tables 11.10, 11.12). -/
def State.peekCctl (s : State) (p off : Nat) : Option Nat :=
  if off = 0x00C then
    some (s.coreState p + 4 * b2n (s.unitStalled p 0) + 8 * b2n (match (s.core p).wait with | some (.qrecv ..) | some (.hzwait _) => true | _ => false))
  else if off = 0x058 then some (s.blockInfo p) else if off = 0x05C then some (s.blockTime p) else none

/-- R301: the lowest queue with a pending crossing. -/
def State.levelQ (s : State) (p : Nat) : Nat := (((s.qm p).ctx.find? fun e => e.2.crossed).map (·.1)).getD 0

/-- The QMGR page (Tables 11.13, 11.15). -/
def State.peekQmgr (s : State) (p off : Nat) : Option Nat :=
  let q := s.fld (qmgr p) 0x040 11 0
  if off = 0x00C then some (b2n ((s.qm p).ctx.any fun e => e.2.v && (e.2.blkS || e.2.blkR)))
  else if off = 0x044 then some ((s.qctx p q).pack % 2 ^ 32)
  else if 0x048 ≤ off && off < 0x054 then some ((s.qm p).ctxSnap.getD ((off - 0x048) / 4) 0).toNat
  else if off = 0x058 then some (s.qctx p q).occ
  else if 0x060 ≤ off && off < 0x080 then some ((s.qm p).headSnap.getD ((off - 0x060) / 4) 0).toNat
  else if off = 0x084 then
    some (SMap.get (fun _ => (0 : Word)) (s.qm p).mc (64 * s.fld (qmgr p) 0x080 7 0 + s.fld (qmgr p) 0x080 13 8)).toNat
  else if off = 0x08C then some (s.levelQ p)
  else none

/-- The HZN page's PG_STATUS (Table 7.5): HELD while the grant limit lies below the next grid point. -/
def State.peekHzn (s : State) (p off : Nat) : Option Nat :=
  if off = 0x00C then some (s.fld (hzn p) 0x00C 0 0 + 2 * b2n (decide (s.grantLimit p < s.gEnd p + s.stepQ p)) + 4 * s.fld (hzn p) 0x00C 2 2) else none

/-- The XPND page (Tables 8.10, 8.12). -/
def State.peekXpnd (s : State) (p off : Nat) : Option Nat :=
  let x := s.xp p
  if off = 0x00C then
    some (b2n (!x.waits.isEmpty) + 2 * b2n (!x.hold.isEmpty) + 4 * s.fld (xpnd p) 0x044 1 0 + 16 * s.fld (xpnd p) 0x00C 4 4)
  else if off = 0x088 then some x.hold.length else none

/-- Table 10.13: does the oldest descriptor that has not started conflict with an earlier one (log entry 55)? -/
def oldestConflict : List TDesc → List TDesc → Bool
  | _, [] => false
  | before, x :: xs => if x.state = 0 then before.any (fun y => dConflict y.raw x.raw) else oldestConflict (before ++ [x]) xs

/-- The TRS page (Tables 10.11, 10.13). The units' busy bits are timing. -/
def State.peekTrs (s : State) (p t off : Nat) : Option Nat :=
  let w := s.win p t
  if off = 0x00C then some (s.fld (trs p t) 0x00C 1 0 + 4 * b2n w.isEmpty)
  else if off = 0x044 then
    let st := s.fld (trs p t) 0x044 1 0
    some ((if st = 0 && !w.isEmpty then 1 else st) + w.length % 32 * 4 + b2n (oldestConflict [] w) * 2 ^ 7 +
      ([0, 1, 2].filter fun u => w.any fun x => x.state ≠ 0 && dUnit (dOp x.raw) = u).foldl (fun a u => a + 2 ^ (16 + u)) 0 + (match w with | d :: _ => byteOf d.raw 8 * 2 ^ 8 | [] => 0))
  else none

/-- Table 5.2: does an endpoint hang on an edge port? The ports of a stack that is fused off, and of its Hutch, are not connected (R1). -/
def State.edgeUsed (s : State) (memMesh : Bool) (p port : Nat) : Bool :=
  ((List.range 70).map (0x120 + ·)).any fun e => (if memMesh then memAttach e else evAttach e) = some (p, port) &&
    (if 0x130 ≤ e && e < 0x134 then s.fuses.stkEn.testBit (e - 0x130) else if 0x140 ≤ e && e < 0x160 then s.fuses.stkEn.testBit ((e - 0x140) / 8)
     else if 0x120 ≤ e && e < 0x130 then s.fuses.chEn.testBit (e - 0x120) else true)

/-- The RTR page (Tables 5.11, 5.13; R150). -/
def State.peekRtr (s : State) (p off : Nat) : Option Nat :=
  if off = 0x004 then some ((List.range 4).foldl (fun a i => a + b2n (neighbour p (i + 1)).isNone * 2 ^ i) 0)
  else if off = 0x068 then
    some ((List.range 5).foldl (fun a i =>
      let st (m : Bool) : Nat := if i ≠ 0 && (neighbour p i).isNone && !s.edgeUsed m p i then 3 else s.linkWidth p i m
      a + st false * 4 ^ i + st true * 4 ^ (5 + i)) 0)
  else if off = 0x058 then some (s.fld (rtr p) off 8 0 + s.fwdLeft p * 2 ^ 16 + b2n (s.fwdOn p) * 2 ^ 31)
  else none

/-- HUT page 0 (Tables 14.3, 14.5): SCRUB_POS reports the next line of an allotted slot (R378). The spec gives no source for the temperature of a stack:
TEMP of a stack that is UP is a free value (log entry 56). -/
def State.peekHut (s : State) (h off : Nat) : Option Nat :=
  if off = 0x004 then some (s.regionCount + 32 * 2 ^ 5 + 8 * 2 ^ 11)
  else if off = 0x058 then
    let slot := s.fld (hut0 h) 0x058 4 0
    match s.nextSlot h slot with
    | some (sl, _) => some (if sl = slot then s.rdN (hut0 h) 0x058 else sl)
    | none => none
  else if off = 0x090 then (if 2 ≤ s.fld (hut0 h) 0x044 1 0 then some ((Config.free s.draws).toNat % 256) else none)
  else none

/-! ### The view of a register -/

/-- The instance of a page as partition `k` numbers it: the logical Cabinet or channel. -/
def State.logicalInst (s : State) (k : Nat) (p : Page) : Nat :=
  let c := (s.logicalOf k p.pos).getD 0
  match p.blk with
  | .chin | .chenc | .chdec | .chtmr => s.logChan p.inst
  | .drw => 4 * c + p.inst % 4 | .trs => 2 * c + p.inst % 2 | _ => c

/-- R395, R343: PG_ID. The instance is physical in the PF view and logical in a VF view and to a control core; CHIN and CHENC present a legacy layout in legacy mode. -/
def State.pgId (s : State) (r : Req) (p : Page) : Nat :=
  let inst := match r with
    | .fn f => if f = 0 || p.perView then p.inst else s.logicalInst f p
    | .core c => s.logicalInst (s.cabKey c) p
    | _ => p.inst
  let old := s.legacy && (p.blk = .chin || p.blk = .chenc)
  p.blk.code * 2 ^ 24 + inst % 4096 * 2 ^ 12 + p.blk.pageNo * 2 ^ 8 + (if old then 0x20 else 0x40)

/-- The block's own derived registers. -/
def State.peekBlock (s : State) (p : Page) (off : Nat) : Option Nat :=
  match p.blk with
  | .time0 | .time1 | .chtmr => s.peekTime p off
  | .dev => s.peekDev p.inst off
  | .bur => if off = 0x00C then some (b2n (s.devState = 2)) else none
  | .pwr => s.peekPwr off
  | .plc => s.peekPlc off
  | .intg => s.peekIntg p.inst off
  | .bist => s.peekBist off
  | .hq => s.peekHq p.inst off
  | .obs => if off = 0x00C then
      some (b2n s.freeze.armed + 2 * b2n s.freeze.inForce + 4 * b2n s.freeze.snapping + 8 * b2n s.debugger.unlocked) else none
  | .cobs => if off = 0x00C then some (b2n s.freeze.inForce) else none
  | .hut0 => s.peekHut p.inst off
  | .hut1 => if 0x100 ≤ off && off < 0x1C0 && decide (s.regionCount ≤ (off - 0x100) / 8) then some 0 else none
  | .cctl => s.peekCctl p.inst off
  | .qmgr => s.peekQmgr p.inst off
  | .hzn => s.peekHzn p.inst off
  | .xpnd => s.peekXpnd p.inst off
  | .trs => s.peekTrs (p.inst / 2) (p.inst % 2) off
  | .rtr => s.peekRtr p.inst off
  | .chin => if off = 0x1A8 then some (s.pairHoldMin p.inst) else none
  | .chdec => if off = 0x044 then some (s.chanM p.inst) else if off = 0x048 then some (s.chanM p.inst / 2 ^ 32) else none
  | .d2d | .spad => if off = errCaptured then some 0 else none
  | .chenc | .drw => none

/-- R373: is this REG_KEY of a region, which reads as zero to every requester but the Bureau? -/
def keyHidden (r : Req) (p : Page) (off : Nat) : Bool :=
  p.blk = .hut1 && decide (0x100 ≤ off) && decide (off < 0x1C0) && off % 8 = 4 && !r.isBureau

/-- A register as an access that reaches the page reads it. -/
def State.view (s : State) (r : Req) (p : Page) (off : Nat) : Nat :=
  if s.legacyHides p off || keyHidden r p off then 0
  else if off = 0x000 then s.pgId r p
  else if off = 0x018 then (s.irqPend p).toNat
  else if off = 0x01C then 0
  else if off = 0x02C then b2n (s.locked p)
  else if off = 0x030 then s.pgPwr p.dom
  else match s.peekBlock p off with
    | some v => v % 2 ^ 32
    | none => s.rdN p off

/-- R401: what a register that a soft reset does not keep reads as while the reset runs: its reset value, which for the capability and identity registers
and beyond the grade's regions the fuses decide. -/
def State.resetView (s : State) (p : Page) (off : Nat) : Nat :=
  if off = 0x004 || (p.blk = .dev && [0x040, 0x044, 0x058, 0x05C, 0x060].contains off) ||
      (p.blk = .hut1 && decide (0x100 ≤ off) && decide (off < 0x1C0) && decide (s.regionCount ≤ (off - 0x100) / 8)) then
    ((s.peekBlock p off).map (· % 2 ^ 32)).getD (resetWord p.blk off).toNat
  else (resetWord p.blk off).toNat

/-- R400, R401: a register as a read returns it: zero out of RUN and IDLE but for PG_ID and PG_PWR, and the reset value during a soft reset but for
the header's registers and the retained ones. -/
def State.peek (s : State) (r : Req) (p : Page) (off : Nat) : Nat :=
  if !s.awake p then (if off = 0x000 || off = 0x030 then s.view r p off else 0)
  else if s.flag p 0x008 1 && !(off = 0x000 || off = 0x008 || off = 0x028 || off = 0x02C || off = 0x030 || p.blk.retained.contains off) then
    s.resetView p off
  else s.view r p off

/-! ### Wide registers -/

/-- Is this the offset of the low half of a wide register (the tables' R53)? Reads of the captured time have a rule of their own (R52), and latch
as the others do. -/
def isWide (p : Page) (off : Nat) : Bool :=
  match p.blk with
  | .time0 => [0x040, 0x048, 0x060, 0x074, 0x088, 0x0A8, 0x0C8, 0x0E8].contains off
  | .time1 | .chtmr => decide (0x100 ≤ off) && (off - 0x100) % 0x40 = 0x18 && isTimer p ((off - 0x100) / 0x40)
  | .chin => [0x078, 0x0E4].contains off
  | .d2d => off = 0x058
  | .drw => [0x058, 0x070].contains off
  | .hzn => [0x058, 0x060, 0x068, 0x074].contains off
  | .xpnd => [0x048, 0x074].contains off
  | .trs => off = 0x054
  | .chdec => off = 0x044
  | .hut0 => off = 0x088
  | .dev => off = 0x058
  | .intg => [0x074, 0x090].contains off
  | .obs => [0x048, 0x054].contains off || (decide (0x100 ≤ off) && decide (off < 0x500) && off % 8 = 0)
  | .cobs => decide (0x100 ≤ off) && decide (off < 0x460) && off % 8 = 0
  | _ => false

/-- R53, R54, R282: a read of a register that is not popped or snapshot. The low half of a wide register latches its high half for the requester,
and the high half then reads the latch; the core's reads neither use nor disturb the latches. -/
def readRegister (r : Req) (p : Page) (off : Nat) (s : State) : Nat × State :=
  match r with
  | .core _ => (s.peek r p off, s)
  | _ =>
    if isWide p off && s.awake p then
      (s.peek r p off, s.latch r p off (s.peek r p (off + 4)))
    else if 4 ≤ off && isWide p (off - 4) && s.awake p then (s.latched r p (off - 4), s)
    else (s.peek r p off, s)

end Sys2Proof.Machine
end

