-- ==== Sys2Proof/Machine/Observe.lean ====
section
/-!
DEFINITION. Observe.lean: the commands of 19_observation.md: the counter freeze and the snapshot, the synchronisation trace, counter clears, the
TAP, the debug unlock and debug halts. The engine counters count cycles, which the model leaves out with all timing; their registers, clears and
freeze are here.
-/

namespace Sys2Proof.Machine

/-! ### Freezing and thawing -/

/-- OBS.FREEZE_LEAD. -/
def State.freezeLead (s : State) : Nat := s.fld pObs 0x050 23 0

/-- R487: a write of FREEZE_CTRL.ARM. -/
def State.freezeArm (s : State) : State :=
  let t := s.rd64 pObs 0x048
  if t < s.now + s.freezeLead then s.err pObs 5 0x140 0 else s.offerFreeze 1 t 0 0 0

/-- R488: a write of FREEZE_CTRL.THAW: refused while a snapshot is being written, it disarms an armed freeze, or sets the thaw time of one in force. -/
def State.thaw (s : State) : State :=
  if s.freeze.snapping then s.refuse pObs 0x044
  else if s.freeze.armed then { (s.wr pObs 0x05C 0) with freeze := { s.freeze with armed := false } }
  else if s.freeze.inForce then { s with freeze := { s.freeze with thawAt := some (s.now + s.freezeLead) } }
  else s

/-- Table 19.9: a write of FREEZE_CTRL. -/
def freezeCtrlWrite (w : Word) (s : State) : State :=
  let s := plainWrite pObs 0x044 w s
  let s := if w.bit 0 then s.freezeArm else s
  if w.bit 1 then s.thaw else s

/-- R487: a write of FREEZE_CTRL with ARM set. -/
def execFreezeArm (r : Req) (w : Word) (s : State) : Result := gated r pObs 0x044 s (freezeCtrlWrite (w.setBits 0 0 1))

/-- R488: a write of FREEZE_CTRL with THAW set. -/
def execThaw (r : Req) (w : Word) (s : State) : Result := gated r pObs 0x044 s (freezeCtrlWrite (w.setBits 1 1 1))

/-- R487: a write of SNAP_CMD. -/
def snapCmdWrite (w : Word) (s : State) : State := if w.bit 0 then s.offerSnap 4 1 0 0 else s

/-- R487: a write of SNAP_CMD.TAKE. -/
def execSnapTake (r : Req) (w : Word) (s : State) : Result := gated r pObs 0x090 s (snapCmdWrite w)

/-! ### The snapshot -/

/-- Items of a snapshot: offset, bytes, value. -/
abbrev SnapItems := List (Nat × Nat × Nat)

/-- Snapshot items are written at a base; what is zero stays as the cleared area has it. -/
def State.putItems (s : State) (base : Nat) (l : SnapItems) : State :=
  l.foldl (fun s x => if x.2.2 = 0 then s else s.stackPut (base + x.1) x.2.1 x.2.2) s

/-- The head message of a queue as the snapshot takes it, without an access to be checked. -/
def State.headRaw (s : State) (p : Nat) (c : QCtx) : Nat :=
  if c.v && c.occ ≠ 0 then s.load (if c.loc = 1 then spadAt p (c.entryAt c.head) else c.entryAt c.head) 32 else 0

/-- Table 19.6: the entry of sender `u`. -/
def State.snapSender (s : State) (p u : Nat) : Nat :=
  match (s.qm p).first u with
  | none => 0
  | some x =>
    let code := if u ≠ 0 then 1 else s.blockInfo p / 2 ^ 20
    let q := if u ≠ 0 then x.qid % 2 ^ 20 else s.blockInfo p % 2 ^ 20
    q + code * 2 ^ 20 + b2n (x.state ≠ 0) * 2 ^ 31 + min ((s.now - x.since) / 32000) 4294967295 * 2 ^ 32

/-- The free credits of an output for a mesh, plane and VC: the depth of the neighbour's input buffer less the flits that stand in it; for an output to
an endpoint, the whole depth (log entry 34). -/
def State.freeCredits (s : State) (p out : Nat) (memMesh : Bool) (plane v : Nat) : Nat :=
  match neighbour p out with
  | some (q, port) => bufDepth memMesh v - s.standing (q, port, memMesh, plane, v)
  | none => bufDepth memMesh v

/-- Table 19.6: the plane and the class of column `c` of the memory mesh's credits: RQ, SYS, RS R0, RS R1, RESC R0, RESC R1. -/
def memColumn : Nat → Nat × Nat
  | 0 => (0, 0) | 1 => (0, 1) | 2 => (1, 2) | 3 => (2, 2) | 4 => (1, 3) | _ => (2, 3)

/-- Table 19.6: the section of a position. -/
def State.snapSection (s : State) (p : Nat) : SnapItems :=
  let r (page : Page) (off : Nat) : Nat := s.peek .bureau page off
  let wide (page : Page) (off : Nat) : Nat := r page off + r page (off + 4) * 2 ^ 32
  (s.qm p).ctx.map (fun e => (16 * e.1, 16, e.2.pack)) ++ (s.qm p).ctx.map (fun e => (0x10000 + 32 * e.1, 32, s.headRaw p e.2)) ++
  (List.range 11).map (fun u => (0x30000 + 16 * u, 16, s.snapSender p u)) ++
  [(0x30100, 8, s.coreState p), (0x30108, 8, r (cctl p) 0x060), (0x30110, 8, r (cctl p) 0x064), (0x30118, 8, s.blockInfo p),
   (0x30120, 8, s.blockTime p),
   (0x30200, 8, wide (hzn p) 0x058), (0x30208, 8, wide (hzn p) 0x060), (0x30210, 8, wide (hzn p) 0x068), (0x30218, 8, wide (hzn p) 0x074),
   (0x30220, 8, r (hzn p) 0x07C), (0x30228, 8, r (hzn p) 0x088), (0x30230, 8, r (hzn p) 0x00C),
   (0x30240, 8, r (drw p 0) 0x044), (0x30248, 8, r (drw p 1) 0x044), (0x30250, 8, r (drw p 2) 0x044), (0x30258, 8, r (drw p 3) 0x044),
   (0x30260, 8, r (trs p 0) 0x044), (0x30268, 8, r (trs p 1) 0x044), (0x30270, 8, r (xpnd p) 0x088), (0x30278, 8, r (xpnd p) 0x00C)] ++
  (List.range 40).map (fun j => (0x30400 + j, 1, s.freeCredits p (j / 8) false 0 (j % 8))) ++
  (List.range 30).map (fun j => (0x30428 + j, 1, s.freeCredits p (j / 6) true (memColumn (j % 6)).1 (memColumn (j % 6)).2)) ++
  [(0x30446, 4, r (rtr p) 0x050), (0x3044A, 4, r (rtr p) 0x054), (0x3044E, 1, r (rtr p) 0x00C % 256)]

/-- Table 19.5: the section of a channel. -/
def State.snapChannel (s : State) (n : Nat) : SnapItems :=
  let r (page : Page) (off : Nat) : Nat := s.peek .bureau page off
  let h := (s.horizonOf (s.owner (chin n)) (0x120 + n)).getD 0
  [(0, 8, h), (8, 8, r (chin n) 0x09C), (16, 8, r (chin n) 0x0A0), (24, 8, r (chdec n) 0x0C8), (32, 8, r (chdec n) 0x0CC), (40, 8, r (chdec n) 0x084),
   (48, 8, r (chin n) 0x00C), (56, 8, r (chdec n) 0x00C)]

/-- The positions captured: those whose domain is in RUN. -/
def State.snapPositions (s : State) : List Nat := (List.range 288).filter fun p => s.curCode (4 + p) = 0
/-- The channels captured. -/
def State.snapChannels (s : State) : List Nat := (List.range 16).filter fun n => s.curCode (292 + n) = 0

/-- SNAP_BASE. -/
def State.snapBase (s : State) : Nat := s.rd64 pObs 0x094 % 2 ^ 37

/-- The sections of the positions, each captured from the state `t` at T_snap and written. -/
def State.putSections (s t : State) (base : Nat) : List Nat → State
  | [] => s
  | p :: ps => State.putSections (s.putItems (base + 0x1000 + p * 0x40000) (t.snapSection p)) t base ps

/-- R494, R495: the snapshot at T_snap: the area is cleared and every section written. The header follows when the Bureau has finished. -/
def State.snapTake (s : State) : State :=
  let base := s.snapBase
  let w := s.regCfg (stackOf base) (regionOf base)
  if !(base % 2 ^ 30 = 0 && w.bit 31 && w.bits 9 6 = 9 && s.fuses.stkEn.testBit (stackOf base)) then s.err pObs 5 0x141 0
  else
    let t := (s.clearBytes base (base + 0x4811000)).putSections s base s.snapPositions
    let t := s.snapChannels.foldl (fun t n => t.putItems (base + 0x4801000 + n * 0x1000) (s.snapChannel n)) t
    { (t.wrN pObs 0x09C (t.rdN pObs 0x09C + 1)) with freeze := { t.freeze with snapping := true } }

/-- R488, R494: T_freeze comes: the counters freeze, and the snapshot is captured when the source takes one. -/
def execFreeze (s : State) : Result :=
  if s.freeze.armed && decide (s.rd64 pObs 0x054 ≤ s.now) then
    let s := ({ s with freeze := { s.freeze with armed := false, inForce := true, thawAt := none } }).raise pObs 0
    let s := s.snapPositions.foldl (fun s p => s.raise ⟨.cobs, p⟩ 0) s
    done (if s.freeze.snapCause = 0 then s else s.snapTake)
  else done s

/-- R488: the thaw time comes: the counters resume, and THAWED is raised (at this instant, not at the write: DESIGN CHOICE, log entry 56). -/
def execCounterResume (s : State) : Result :=
  match s.freeze.thawAt with
  | some t =>
    if t ≤ s.now then
      done (({ (s.wr pObs 0x05C 0) with freeze := { s.freeze with inForce := false, thawAt := none, snapCause := 0, snapUnit := 0 } }).raise pObs 1)
    else done s
  | none => done s

/-- A number whose bit `i` tells that the list holds `i`. -/
def maskOf (l : List Nat) : Nat := (l.eraseDups.map (2 ^ ·)).foldl (· + ·) 0

/-- Table 19.5: the header. -/
def State.snapHeader (s : State) : SnapItems :=
  [(0, 4, 0x504E5348), (4, 4, s.rdN pObs 0x09C), (8, 8, s.rd64 pObs 0x054), (16, 1, s.freeze.snapCause),
   (17, 2, if s.freeze.snapCause = 2 then s.fld pObs 0x05C 16 8 else 0), (19, 1, if s.freeze.snapCause = 2 then s.freeze.snapUnit % 256 else 0),
   (20, 36, maskOf s.snapPositions), (56, 2, maskOf s.snapChannels), (60, 4, 0x444F4E45)]

/-- R495: the Bureau has written the snapshot, or the write of a section failed: then the header, and with it COMPLETE, stays zero (log entry 35). -/
def execSnapDone (fail : Option Nat) (s : State) : Result :=
  if !s.freeze.snapping then done s
  else
    let t := { s with freeze := { s.freeze with snapping := false } }
    match fail with
    | some i => done (t.err pObs 4 0x142 i)
    | none =>
      let t := t.putItems s.snapBase s.snapHeader
      done ((s.snapPositions.foldl (fun t p => t.raise ⟨.cobs, p⟩ 1) t).raise pObs 2)

/-! ### The trace -/

/-- R493: the oldest record of a source's buffer reaches the Hutch, which writes it into the ring, or discards it when the ring is full under STOP_FULL
or TRC_BASE lies in no region of kind 8. -/
def execTraceRecordWrite (e : Nat) (s : State) : Result :=
  let b := s.traceBuf e
  match b.records with
  | [] => done s
  | x :: rest =>
    let s := s.setTraceBuf e { b with records := rest }
    let base := s.rd64 pObs 0x07C % 2 ^ 37
    let w := s.regCfg (stackOf base) (regionOf base)
    let n := 2 ^ (s.fld pObs 0x084 4 0 - 4)
    let i := s.rdN pObs 0x088
    if !(w.bit 31 && w.bits 9 6 = 8) || (s.flag pObs 0x070 1 && decide (n ≤ i)) then done (s.incCtr pObs 0x08C)
    else
      let s := (s.stackPut (base + 16 * (i % n)) 16 x).wrN pObs 0x088 (i + 1)
      done (if i % n = 0 && i ≠ 0 then s.raise pObs 5 else s)

/-- R490: the wait of a core has lasted 2^MINW CLK_CTL cycles of 64 fu: it forms a WAIT_START record, once. The record of a wait for a refused send is
formed once the send is refused (Table 19.2, code 0). -/
def execWaitStartRecord (p : Nat) (s : State) : Result :=
  let c := s.core p
  let waits := match c.wait with
    | some (.send ..) => s.unitStalled p 0
    | some (.evinj ..) => false
    | some _ => true
    | none => false
  if waits && !c.traced && decide (c.waitSince + 64 * 2 ^ s.fld pObs 0x070 9 5 ≤ s.now) && s.tracing (s.cabKey p) 4 c.waitSince then
    let t := s.traceForm p (s.cabKey p) (s.waitRecord p 1 0)
    done (t.setCore p { t.core p with traced := true })
  else done s

/-! ### Counter clears -/

/-- R486: the counters of a page clear. -/
def State.clearCounters (s : State) (p : Page) : State :=
  { s with regs := s.regs.filter fun e => !(decide (p.key + 0x100 ≤ e.1) && decide (e.1 < p.key + 4096)) }

/-- R486: a write of CNT_CLEAR of the OBS page, or of a COBS page. -/
def cntClearWrite (p : Page) (w : Word) (s : State) : State :=
  if (p.blk = .obs || p.blk = .cobs) && w.bit 0 then s.clearCounters p else s

/-- R486: a write of CNT_CLEAR. -/
def execCntClear (r : Req) (p : Page) (w : Word) (s : State) : Result := gated r p (if p.blk = .obs then 0x064 else 0x044) s (cntClearWrite p w)

/-- R486: a write of any value to either half of a counter clears both halves. -/
def engineClear (p : Page) (off : Nat) (s : State) : State := (s.wr p (off / 8 * 8) 0).wr p (off / 8 * 8 + 4) 0

/-! ### TAP and debug -/

/-- Table 15.10: the eight words of the vendor-specific capability. The next pointer is zero: the spec names no capability after it (log entry 36). -/
def State.vsec (s : State) : List Nat :=
  [0x1000B, 1 + 2 ^ 16 + 0x20 * 2 ^ 20, s.rdN ⟨.dev, 0⟩ 0x04C, s.boot.failInfo, s.rdN ⟨.dev, 0⟩ 0x050, s.fuses.uid % 2 ^ 32, s.fuses.uid / 2 ^ 32, 0]

/-- R496: IDCODE. -/
def State.idcode (s : State) : Nat := s.fuses.rev % 16 * 2 ^ 28 + s.fuses.part % 65536 * 2 ^ 12 + 0x2B5 * 2 + 1

/-- Table 19.7: does the code act as the boundary instruction it names, as the device stands? -/
def State.tapAllowed (s : State) (code : Nat) : Bool :=
  if code = 0x00 || code = 0x03 || code = 0x04 || code = 0x05 || code = 0x06 then s.devState = 0 || !s.boot.resetN
  else [0x01, 0x02, 0x10, 0x11, 0x20, 0x21, 0x22].contains code

/-- R496: the TAP executes an instruction and answers what its register captures. What the pins, the debug transport and the unlocked debug module
show is open (log entry 37). -/
def execTapInstruction (code : Nat) (s : State) : Result :=
  let i := if s.tapAllowed code then code else 0xFF
  let s := { s with debugger := { s.debugger with tapInstr := i } }
  if i = 0x01 then answer s (.words [s.idcode])
  else if i = 0x22 then answer s (.words s.vsec)
  else if i = 0xFF then answer s (.words [0])
  else if i = 0x11 && !s.debugger.unlocked then answer s (.words [0])
  else if i = 0x20 || i = 0x21 || i = 0x05 || i = 0x06 then answer s (.words [])
  else answer s.draw.2 (.words [s.draw.1.toNat])

/-- R497: a capture of UNLOCK_CHAL: a new nonce and the challenge, the nonce, UID, FW_VER and 96 zero bits; none after three invalid responses. -/
def execUnlockChal (s : State) : Result :=
  if 3 ≤ s.debugger.invalid then answer s (.words [])
  else
    let a := s.draw
    let b := a.2.draw
    let n : BitVec 128 := a.1 ++ b.1
    answer { b.2 with debugger := { b.2.debugger with nonce := some n } } (.words [n.toNat, s.fuses.uid, s.rdN ⟨.dev, 0⟩ 0x050, 0])

/-- R497: a response: a valid one unlocks, a zero one locks, an invalid one counts; the third is refused for good and recorded. A response is valid only
to an outstanding challenge. -/
def execUnlockResp (x : UnlockResp) (s : State) : Result :=
  match x with
  | .zero => done { s with debugger := { s.debugger with unlocked := false } }
  | .valid =>
    if s.debugger.nonce.isSome && decide (s.debugger.invalid < 3) then done { s with debugger := { s.debugger with unlocked := true, nonce := none } }
    else done s
  | .invalid =>
    if 3 ≤ s.debugger.invalid then done s
    else
      let s := { s with debugger := { s.debugger with invalid := s.debugger.invalid + 1 } }
      done (if s.debugger.invalid = 3 then (({ s with debugger := { s.debugger with nonce := none } }).err pObs 6 0x143 0) else s)

/-- R497, R498: with debug unlocked, a debugger halts the core of a position, or the Bureau as hart 288. A halted core's PG_STATUS.STATE is 2. -/
def execDebugHalt (h : Nat) (s : State) : Result :=
  if !s.debugger.unlocked || s.isHalted h then done s
  else if h = 288 then done { s with debugger := { s.debugger with halted := s.debugger.halted ++ [(h, s.now)] } }
  else if h < 288 && s.coreState h = 1 then
    done { (s.setFld (cctl h) 0x00C 1 0 2) with debugger := { s.debugger with halted := s.debugger.halted ++ [(h, s.now)] } }
  else done s

/-- R498: the blocked-send timer of a core's send stood from the halt, or from its refusal if that came later, to the present. -/
def State.timerStood (s : State) (h since : Nat) : State :=
  match (s.qm h).first 0 with
  | some x =>
    match x.blocked with
    | some t => s.setQm h ((s.qm h).put x { x with blocked := some (t + (s.now - max t since)) })
    | none => s
  | none => s

/-- R498: a debugger resumes a halted hart, and its core's blocked-send timer goes on where it paused. -/
def execDebugResume (h : Nat) (s : State) : Result :=
  match s.debugger.halted.find? (·.1 = h) with
  | none => done s
  | some x =>
    let s := { s with debugger := { s.debugger with halted := s.debugger.halted.erase x } }
    if h < 288 then done ((if s.coreState h = 2 then s.setFld (cctl h) 0x00C 1 0 1 else s).timerStood h x.2) else done s

end Sys2Proof.Machine
end

