-- ==== Sys2Proof/Machine/Spad.lean ====
section
/-!
DEFINITION. Spad.lean: the power modes of the scratchpad's banks (R285).
-/

namespace Sys2Proof.Machine

/-- The two halves of BANK_PWR and BANK_CUR: the offset of the register that holds a bank. -/
def bankReg (base b : Nat) : Nat := if b < 16 then base else base + 4

/-- R285: PWR_BUSY: some bank is in transition. -/
def State.banksBusy (s : State) (p : Nat) : Bool := (List.range 32).any fun b => s.bankMode p b ≠ s.bankReq p b

/-- R285: a write of BANK_PWR_LO or BANK_PWR_HI: taken from the host or the Bureau while the partition that owns the Cabinet is stopped, or from
partition 0. -/
def bankPwrWrite (r : Req) (p off : Nat) (w : Word) (s : State) : State :=
  if r.isPf || (s.partStopped (s.owner (spad p)) && !r.isCore) then
    let s := plainWrite (spad p) off w s
    s.setFlag (spad p) 0x00C 0 (s.banksBusy p)
  else s.refuse (spad p) off

/-- R285: a write of SPAD.BANK_PWR, its upper half when `hi`. -/
def execBankPowerWrite (r : Req) (p : Nat) (hi : Bool) (w : Word) (s : State) : Result :=
  let off := if hi then 0x044 else 0x040
  gated r (spad p) off s (bankPwrWrite r p off w)

/-- The memory without the contents of a bank, which reads as zero. -/
def State.clearBank (s : State) (p b : Nat) : State :=
  { s with mem := s.mem.filter fun e => !(decide (spadAt p 0 ≤ e.1) && decide (e.1 < spadAt (p + 1) 0) && bankOf (e.1 - spadAt p 0) = b) }

/-- R285, R181: an OFF bank has lost its contents: a Drawer's records and post log, the on-die entries of the long-delay queue, and everything else. -/
def State.bankLost (s : State) (p b : Nat) : State :=
  let s := s.clearBank p b
  if b < 16 then (s.countRested p (b / 4)).postFlag p (b / 4)
  else if b < 24 then s
  else
    let a := s.fld (hzn p) 0x0A0 21 4 * 16
    let x := s.xp p
    let l := (x.ldq.zipIdx.filter fun e => bankOf (a + 16 * e.2) ≠ b).map (·.1)
    (s.setXp p { x with ldq := l }).wrN (hzn p) 0x0B4 l.length

/-- R285: a bank has the mode requested; an OFF bank has lost its contents, and returns as all zero. -/
def State.bankDone (s : State) (p b : Nat) : State :=
  let m := s.bankReq p b
  let s := if m = 2 then s.bankLost p b else s
  let s := s.setFld (spad p) (bankReg 0x048 b) (2 * (b % 16) + 1) (2 * (b % 16)) m
  s.setFlag (spad p) 0x00C 0 (s.banksBusy p)

/-- R285: the transition of a bank completes. -/
def execBankTransitionDone (p b : Nat) (s : State) : Result :=
  if b < 32 && s.bankMode p b ≠ s.bankReq p b then done (s.bankDone p b) else done s

/-- R285: the Cabinet's domain enters DEEP: every bank that is ON goes to RETENTION. -/
def State.banksDeep (s : State) (p : Nat) : State :=
  (List.range 32).foldl (fun s b =>
    if s.bankMode p b = 0 then s.setFld (spad p) (bankReg 0x048 b) (2 * (b % 16) + 1) (2 * (b % 16)) 1 else s) s

/-- R476, R285: the domain returns from DEEP: every bank has the mode that BANK_PWR requests. -/
def State.banksBack (s : State) (p : Nat) : State := (List.range 32).foldl (fun s b => s.bankDone p b) s

end Sys2Proof.Machine
end

