-- ==== Sys2Proof/Machine/Power.lean ====
section
/-!
DEFINITION. Power.lean: the commands of 18_power.md: requests for the states of power domains and of the device, their transitions, and the clock
switch.
-/

namespace Sys2Proof.Machine

/-- The PWR page. -/
def pPwr : Page := ⟨.pwr, 0⟩

/-- The state of an encoding (R400). -/
def pwrOf : Nat → Option Pwr
  | 0 => some .run | 1 => some .idle | 2 => some .sleep | 3 => some .deep | 4 => some .off | _ => none

/-- The state with a domain replaced. -/
def State.setDom (s : State) (d : Nat) (x : Dom) : State := { s with doms := SMap.set (fun _ => Dom.reset) s.doms d x }

/-! ### Checks -/

/-- Does a migration or a recovery name the position (Tables 13.9, 16.5)? -/
def State.named (s : State) (p : Nat) : Bool :=
  s.mbox.any (fun m => decide (1 ≤ m.phase) && decide (m.phase ≤ 4) && m.src ≠ m.dst && (m.src = p || m.dst = p)) ||
    s.recov.any (fun r => decide (1 ≤ r.step) && (r.src = p || r.dst = p))

/-- R378: a scrub pass of the stack is under way: it is enabled and has left its first line. -/
def State.scrubbing (s : State) (h : Nat) : Bool := s.flag (hut0 h) 0x040 0 && s.rdN (hut0 h) 0x058 ≠ 0

/-- Table 18.3: is a request for this state, not RUN, refused? A domain of a fused-off resource accepts none (R471). `device` tells that the request is
part of the device-level transition in progress (R480), which takes every domain OFF without more ado. -/
def State.powerRefused (s : State) (bureau device : Bool) (d : Nat) (t : Pwr) : Bool :=
  if s.fusedOff d || d < 4 || (s.devPwr.busy && !device) then true
  else if device && t = .off then false
  else if d < 292 then
    let p := d - 4
    let k := s.owner (cctl p)
    (k ≠ 0 && s.part k = .running) || s.named p || (s.spare p && !bureau) || (t = .off && k ≠ 0 && (s.part k = .stopped || s.part k = .faulted))
  else if d < 308 then
    let n := d - 292
    let k := s.owner (chin n)
    s.flag (chin n) 0x008 0 || (t = .off && k ≠ 0 && s.part k ≠ .free)
  else
    let h := d - 308
    s.regions.any (fun r => let w := s.regCfg h r; w.bit 31 && w.bits 9 6 ≠ 0 &&
      (t = .off || (w.bits 5 0 ≠ 0 && s.part (w.bits 5 0) = .running))) ||
      (s.hutch h).relayout.isSome || s.scrubbing h || (s.flag pObs 0x070 0 && stackOf (s.rd64 pObs 0x07C) = h)

/-- R474: a refused request is recorded with the domain number, counted and raised. -/
def State.powerRefuse (s : State) (d : Nat) : State := ((s.err pPwr 5 0x013 d).incCtr pPwr 0x064).raise pPwr 1

/-! ### Transitions -/

/-- What a domain does as it leaves RUN: the Drawers of a Cabinet keep the time (R175), a channel's links go down and its TRIG_OUT is inactive
(R481). -/
def State.leaveRun (s : State) (d : Nat) : State :=
  if 4 ≤ d && d < 292 then (List.range 4).foldl (fun s i => s.wr64 (drw (d - 4) i) 0x070 s.now) s
  else if 292 ≤ d && d < 308 then
    let s := s.linksDown (d - 292)
    s.setDec (d - 292) { s.dec (d - 292) with pin := false }
  else s

/-- R476, R477: an accepted request starts a transition to `t`: the domain leaves RUN, or passes through it. -/
def State.startTransition (s : State) (d : Nat) (t : Pwr) : State :=
  let x := s.dom d
  let s := s.setDom d { x with target := t, latest := t, recorded := none, busy := true, since := s.now }
  if t = .run then s else s.leaveRun d

/-- R474, R477: a request for a domain. -/
def State.powerRequest (s : State) (bureau : Bool) (d : Nat) (t : Pwr) : State :=
  let x := s.dom d
  if s.fusedOff d || (t ≠ .run && s.powerRefused bureau false d t) then s.powerRefuse d
  else if x.busy then
    s.setDom d { x with latest := t, recorded := if t = x.target then none else some t, byBureau := bureau }
  else if t = x.cur then s.setDom d { x with latest := t }
  else s.startTransition d t

/-- R400: a write of PG_PWR of a page. -/
def pgPwrWrite (r : Req) (p : Page) (w : Word) (s : State) : State :=
  match pwrOf (w.bits 2 0) with
  | some t => s.powerRequest r.isBureau p.dom t
  | none => s.badEnc p 0x030

/-- Table 18.11: a write of DOM_REQ for the selected domain. -/
def domReqWrite (r : Req) (w : Word) (s : State) : State :=
  match pwrOf (w.bits 2 0) with
  | some t => s.powerRequest r.isBureau (s.fld pPwr 0x04C 8 0) t
  | none => s.badEnc pPwr 0x050

/-- R474: a request for a domain, through PG_PWR of a page, or through PWR.DOM_REQ when no page is given. -/
def execPowerRequest (r : Req) (p : Option Page) (w : Word) (s : State) : Result :=
  match p with
  | some p => gated r p 0x030 s (pgPwrWrite r p w)
  | none => gated r pPwr 0x050 s (domReqWrite r w)

/-! ### What a domain loses -/

/-- The pages of a position that a partition owns with its Cabinet. -/
def cabPages (p : Nat) : List Page :=
  [cctl p, qmgr p, spad p, drw p 0, drw p 1, drw p 2, drw p 3, trs p 0, trs p 1, xpnd p, hzn p, ⟨.cobs, p⟩]

/-- The pages of a domain. -/
def domPages (d : Nat) : List Page :=
  if d < 4 then []
  else if d < 292 then cabPages (d - 4)
  else if d < 308 then [chin (d - 292), chenc (d - 292), chdec (d - 292), ⟨.chtmr, d - 292⟩]
  else [hut0 (d - 308), hut1 (d - 308)]

/-- Every register of a page returns to its reset value, PG_OWNER and the lock key among them; with its owner its route entry changes (R402). -/
def State.losePage (s : State) (p : Page) : State :=
  { s with regs := s.regs.filter (fun e => !(decide (p.key ≤ e.1) && decide (e.1 < p.key + 4096)))
           timers := s.timers.filter (fun e => !(decide (p.key ≤ e.1) && decide (e.1 < p.key + 4096)))
           locks := SMap.set (fun _ => 0) s.locks p.key 0
           routes := if s.owner p = 0 then s.routes else SMap.set (fun _ => (0 : Word)) s.routes p.key ((s.route p).setBits 15 15 0) }

/-- Table 18.2, R478: the registers and the logic state of a domain are lost. -/
def State.loseState (s : State) (d : Nat) : State :=
  let was := s
  let s := (domPages d).foldl State.losePage s
  if d < 4 then s
  else if d < 292 then s.setCab (d - 4) Cab.reset
  else if d < 308 then (s.setChan (d - 292) Chan.reset).setDec (d - 292) Dec.reset
  else
    let p := hut0 (d - 308)
    ((s.setHutch (d - 308) Hutch.reset).wr p 0x048 (was.rd p 0x048)).setFlag p 0x00C 2 (was.flag p 0x00C 2)

/-- Table 18.2: in OFF the scratchpad and the RAMs of a Cabinet, or the contents of a stack, are lost too. -/
def State.loseMemory (s : State) (d : Nat) : State :=
  if d < 4 then s
  else if d < 292 then
    (s.clearBytes (spadAt (d - 4) 0) (spadAt (d - 3) 0)).clearBytes (2 ^ 38 + 2 * (d - 4) * 2 ^ 20) (2 ^ 38 + 2 * (d - 3) * 2 ^ 20)
  else if d < 308 then s
  else s.clearBytes ((d - 308) * 2 ^ 35) ((d - 307) * 2 ^ 35)

/-- The page on whose behalf a domain is reported faulted (R478). -/
def domPage (d : Nat) : Page := (domPages d).headD pPwr

/-- R478: the retention chain reads wrong at the end of RESTORE: the domain comes up at its reset values and is reported. -/
def State.restoreError (s : State) (d : Nat) : State :=
  ((((s.loseState d).err pPwr 2 0x005 d).raise pPwr 2).incCtr pPwr 0x068).report (domPage d) 0x005

/-- The domain arrives at the target of its transition, with what its contents have become (Table 18.2). -/
def State.arrive (s : State) (d : Nat) (bad : Bool) : State :=
  let x := s.dom d
  let ns := if s.tb.state = .running then (s.now - x.since) / 32 else s.draw.1.toNat
  let s := if s.tb.state = .running then s else s.draw.2
  let woke := x.cur ≠ .idle && (x.cur ≠ .run)
  let s := s.setDom d { x with cur := x.target, busy := false, lastNs := ns, fio := x.target = .run && (woke || x.fio) }
  let s := if x.cur = .deep && bad then s.restoreError d else s
  let s := if x.cur = .off && bad then s.report (domPage d) 0x120 else s
  let s := if x.cur = .deep && 4 ≤ d && d < 292 && x.target ≠ .deep then s.banksBack (d - 4) else s
  let s := if x.target = .deep && 4 ≤ d && d < 292 then s.banksDeep (d - 4) else s
  let s := if x.target = .off then (s.loseState d).loseMemory d else s
  let s := if woke || (x.target ≠ .run && x.target ≠ .idle) then s.setSynced d false else s
  let s := if x.target = .run && 4 ≤ d && d < 292 then
      (List.range 4).foldl (fun s i => s.setFlag (drw (d - 4) i) 0x00C 2 true) s else s
  (s.raise pPwr 0).incCtr pPwr 0x060

/-- R476, R477: the transition of a domain completes: TRANS_DONE, and a recorded request is executed after its second check. `bad` tells that the
retention chain read wrong at the end of a RESTORE (R478), or that the quick check of a domain coming from OFF failed (R460). -/
def execTransitionDone (d : Nat) (bad : Bool) (s : State) : Result :=
  let x := s.dom d
  if !x.busy then done s
  else
    let s := s.arrive d bad
    match x.recorded with
    | none => done s
    | some t =>
      let s := s.setDom d { s.dom d with recorded := none }
      let device := s.devPwr.busy && x.byBureau && t = s.devPwr.target
      if t ≠ .run && s.powerRefused x.byBureau device d t then done (s.powerRefuse d)
      else if t = (s.dom d).cur then done s else done (s.startTransition d t)

/-! ### The clock switch -/

/-- R479: a write of DOM_CLKSW: the selected domain, in RUN on FIO, runs on the divided root clocks; its local copy is not yet synchronised. -/
def domClkswWrite (w : Word) (s : State) : State :=
  let d := s.fld pPwr 0x04C 8 0
  let x := s.dom d
  if !w.bit 0 then s
  else if !s.fusedOff d && x.cur = .run && x.fio && !x.busy then (s.setDom d { x with fio := false }).setSynced d false
  else (s.err pPwr 5 0x013 d).raise pPwr 1

/-- R479: a write of DOM_CLKSW, by the PF or, with AUTO_CLK = 1, by the Bureau. -/
def execClockSwitch (r : Req) (w : Word) (s : State) : Result := gated r pPwr 0x058 s (domClkswWrite w)

/-! ### Device-level states -/

/-- The Cabinet, channel and stack domains that are not fused off. -/
def State.leafDomains (s : State) : List Nat := ((List.range 308).map (· + 4)).filter fun d => !s.fusedOff d

/-- R480: is the device-level request accepted? -/
def State.deviceAllowed (s : State) (t : Pwr) : Bool :=
  let ks := (List.range 63).map (· + 1)
  match t with
  | .deep => ks.all (fun k => s.part k ≠ .running) && !s.migrating && !s.recov.any (fun r => decide (1 ≤ r.step))
  | .off => ks.all (fun k => s.part k = .free)
  | _ => true

/-- R480: the transition to a device-level state starts. DEEP requests DEEP for each domain as the Bureau; OFF takes every domain; RUN asks for the
domains that DEEP took. -/
def State.deviceStart (s : State) (t : Pwr) : State :=
  match t with
  | .deep =>
    let l := s.leafDomains.filter fun d => (s.dom d).cur ≠ .deep
    let s := l.foldl (fun s d => s.powerRequest true d .deep) s
    { s with devPwr := { s.devPwr with target := .deep, busy := true, took := l.filter fun d => (s.dom d).target = .deep || (s.dom d).recorded = some .deep } }
  | .off =>
    let s := s.leafDomains.foldl (fun s d =>
      let x := s.dom d
      if x.busy then (if x.target = .off then s else s.setDom d { x with latest := .off, recorded := some .off, byBureau := true })
      else if x.cur = .off then s else s.startTransition d .off) s
    { s with devPwr := { s.devPwr with target := .off, busy := true } }
  | t =>
    let s := s.devPwr.took.foldl (fun s d => s.powerRequest true d .run) s
    { s with devPwr := { s.devPwr with target := t, busy := true, took := [] } }

/-- R480: a refused device request: location 0x1FF. -/
def State.deviceRefuse (s : State) : State := (s.err pPwr 5 0x013 0x1FF).raise pPwr 1

/-- R480: a device-level request: refused, recorded during a device-level transition, or started. -/
def State.deviceRequest (s : State) (t : Pwr) : State :=
  let x := s.devPwr
  if !s.deviceAllowed t then s.deviceRefuse
  else if x.busy then { s with devPwr := { x with recorded := if t = x.target then none else some t } }
  else if t = x.cur then s
  else s.deviceStart t

/-- R480: a write of DEV_REQ. -/
def devReqWrite (w : Word) (s : State) : State :=
  match pwrOf (w.bits 2 0) with
  | some .idle | some .sleep | none => s.badEnc pPwr 0x044
  | some t => (s.setFld pPwr 0x044 2 0 t.code).deviceRequest t

/-- R480: a write of PWR.DEV_REQ. -/
def execDevicePowerRequest (r : Req) (w : Word) (s : State) : Result := gated r pPwr 0x044 s (devReqWrite w)

/-- D_AON, the pins, the flash and the junction readings, as they stand when every other domain has lost its power. -/
def Boot.aonOnly (b : Boot) : Boot :=
  { Boot.reset with
    resetN := b.resetN, perstN := b.perstN, alert := b.trip, trip := b.trip, temps := b.temps, vddAon := b.vddAon,
    aonEpoch := b.aonEpoch, aonCount := b.aonCount, aonLost := b.aonLost, legacyReq := b.legacyReq, strapLegacy := b.strapLegacy,
    strapSrc := b.strapSrc, strapSvc := b.strapSvc, rec0 := b.rec0, rec1 := b.rec1, clearMark := b.clearMark, subsys := b.subsys }

/-- R480: everything but D_AON, the fuses, the flash and what lies outside the device is lost. -/
def State.powerOff (s : State) : State :=
  { State.reset with
    pending := s.pending, draws := s.draws, fuses := s.fuses, hostMem := s.hostMem, sentMsi := s.sentMsi,
    boot := { s.boot.aonOnly with off := true }, devPwr := ⟨.off, .off, none, false, []⟩ }

/-- R480: the device-level transition completes when its domains have: DEV_DONE, and a recorded request is executed; in OFF only D_AON is left. -/
def execDevDone (s : State) : Result :=
  let x := s.devPwr
  if !x.busy || s.leafDomains.any (fun d => (s.dom d).busy) then done s
  else if x.target = .off then done s.powerOff
  else
    let s := ({ s with devPwr := { x with cur := x.target, busy := false, recorded := none } }).raise pPwr 3
    match x.recorded with
    | none => done s
    | some t => if !s.deviceAllowed t then done s.deviceRefuse else if t = s.devPwr.cur then done s else done (s.deviceStart t)

end Sys2Proof.Machine
end

