-- ==== Sys2Proof/Machine/Bringup.lean ====
section
/-!
DEFINITION. Bringup.lean: the commands of 17_bringup.md: the start sequence, firmware delivery, self-test and spares, the health record, D_AON; and the
entry into reset-hold.
-/

namespace Sys2Proof.Machine

/-- The BIST page. -/
def pBist : Page := ⟨.bist, 0⟩
/-- The DEV page of the PF. -/
def pDev : Page := ⟨.dev, 0⟩

/-! ### Reset-hold -/

/-- ALERT_N is driven low, and the ALERT cause raised on the DEV page of every view (R412, R421, R513). -/
def State.alertOn (s : State) : State :=
  (List.range 64).foldl (fun s f => s.raise ⟨.dev, f⟩ 1) { s with boot := { s.boot with alert := true } }

/-- R412, Table 15.10: the device enters reset-hold for a failing block of this type and instance. -/
def State.resetHold (s : State) (cause ty inst code : Nat) : State :=
  let s := (s.setFld pDev 0x04C 2 0 0).setFld pDev 0x04C 7 4 cause
  { s with boot := { s.boot with failInfo := ty % 256 + inst % 4096 * 2 ^ 8 + code % 4096 * 2 ^ 20 } }.alertOn

/-- R466: a failure without a spare: code 0x121 with the slice's code and instance. -/
def State.noSpare (s : State) (slice ty inst : Nat) : State :=
  (s.err pBist 3 0x121 (slice % 16 + inst % 4096 * 16)).resetHold 1 ty inst 0x121

/-- R454, R466: a training has failed of a block that a slice covers. -/
def State.trainFails (s : State) (slice ty inst : Nat) : State :=
  (s.err pBist 3 0x121 (slice % 16 + inst % 4096 * 16)).resetHold 6 ty inst 0x121

/-- R466: a block without spares that no slice covers has failed: Table 17.11 gives the location by a slice, so here it is a free value. -/
def State.blockFails (s : State) (cause ty inst : Nat) : State :=
  (s.draw.2.err pBist 3 0x121 (s.draw.1.toNat % 65536)).resetHold cause ty inst 0x121

/-! ### Slices and spares -/

/-- Table 17.12: SLICE_RESULT: 1 passed, 2 failed and substituted, 3 failed. -/
def State.sliceResult (s : State) (x : Slice) (r : Nat) : State :=
  let w : Word := BitVec.ofNat 32 (r + x.fail % 256 * 2 ^ 8 + x.us / 16 % 65536 * 2 ^ 16)
  { s with boot := { s.boot with slices := SMap.set (fun _ => (0 : Word)) s.boot.slices (x.code * 4096 + x.inst) w } }

/-- R465: the first healthy spare of the row of a position, or of the nearest row that has one, the lower on a tie. -/
def State.substitute (s : State) (p : Nat) : Option Nat :=
  let rows := (List.range 16).flatMap fun dist =>
    if dist = 0 then [p / 18] else (if dist ≤ p / 18 then [p / 18 - dist] else []) ++ (if p / 18 + dist < 16 then [p / 18 + dist] else [])
  (rows.flatMap fun r => (List.range 18).map (18 * r + ·)).find? fun q => q ≠ p && s.boot.spareSet.testBit q && s.spare q

/-- The number with a bit set, or cleared. -/
def setBitTo (n i : Nat) (b : Bool) : Nat := if n.testBit i = b then n else if b then n + 2 ^ i else n - 2 ^ i

/-- R464, R465: a position is fenced and, unless it was a spare, substituted: was a spare put in its place, and is the loss made good? -/
def State.fencePosition (s : State) (p : Nat) : Bool × Bool × State :=
  let s := { s with boot := { s.boot with posFail := setBitTo s.boot.posFail p true } }
  if s.boot.spareSet.testBit p then (false, true, s)
  else match s.substitute p with
    | some q => (true, true, { s with boot := { s.boot with spareSet := setBitTo (setBitTo s.boot.spareSet q false) p true } })
    | none => (false, false, s)

/-- R465: a position has failed a slice. True where it is made good. -/
def State.positionFails (s : State) (p : Nat) : Bool × State :=
  let r := s.fencePosition p
  (r.2.1, if r.1 then (r.2.2.err pBist 3 0x120 p).raise pBist 2 else r.2.2)

/-- A slice of self-test has its outcome (R458, R465, R466). True in the pair tells that a block without a spare has failed. -/
def State.sliceDone (s : State) (x : Slice) : State :=
  if x.fail = 0 then s.sliceResult x 1
  else
    let s := s.raise pBist 1
    if x.code = 0 || x.code = 1 || x.code = 5 then
      if s.boot.posFail.testBit x.inst then s.sliceResult x 2
      else
        let r := s.positionFails x.inst
        r.2.sliceResult x (if r.1 then 2 else 3)
    else s.sliceResult x 3

/-- The first slice of a block without spares that failed: mesh, stack or channel. -/
def badSlice (l : List Slice) : Option Slice := l.find? fun x => x.fail ≠ 0 && (x.code = 2 || x.code = 3 || x.code = 4)

/-- The block type of a slice (Table 15.6). -/
def sliceType (c : Nat) : Nat := if c = 2 then 0x37 else if c = 3 then 0x20 else if c = 4 then 0x10 else 0x30

/-- R466, R467: the verdict at the end of self-test: reset-hold for a block without spares or too few positions, or SPARE_SHORT. -/
def State.testVerdict (s : State) (l : List Slice) : State :=
  match badSlice l with
  | some x => (s.noSpare x.code (sliceType x.code) x.inst).setFld pBist 0x044 2 0 5
  | none =>
    if s.healthyCount < s.fuses.cabinets then
      let x := (l.find? fun x => x.fail ≠ 0).getD ⟨0, 0, 0, 0⟩
      (s.noSpare x.code 0x30 x.inst).setFld pBist 0x044 2 0 5
    else s.setFlag pBist 0x044 4 (decide (s.healthyCount < s.fuses.cabinets + 8))

/-- Self-test has run these slices. -/
def State.selfTest (s : State) (l : List Slice) (ms : Nat) : State := ((l.foldl State.sliceDone s).setFld pBist 0x048 15 0 (min ms 65535)).testVerdict l

/-! ### Firmware delivery -/

/-- 17_bringup.md, Firmware delivery: a position's scratchpad from 0x37_0000 holds the control-core firmware. -/
def State.deliverFw (s : State) (fw : List (Nat × Byte)) (p : Nat) : State :=
  fw.foldl (fun s e => s.setByte (spadAt p e.1) e.2) (s.clearBytes (spadAt p 0x370000) (spadAt p 0x380000))

/-- R456, R457: a block of control-core firmware with the CRC of its trailer reaches a position: it is written at DEST, and counted as received when the CRC matches. A fourth
failure of one block (the broadcast and three repeats) fails the position's firmware slice. -/
def execFirmwareBlock (p index count dest : Nat) (data : List Byte) (crc : Nat) (s : State) : Result :=
  let k := s.owner (cctl p)
  if 288 ≤ p || !s.present (cctl p) || !s.awake (spad p) || (k ≠ 0 && s.part k = .running) then done s
  else
    let s := (data.take 4096).foldl (fun (x : State × Nat) b => (x.1.setByte (spadAt p (x.2 % 2 ^ 22)) b, x.2 + 1)) (s, dest) |>.1
    let b := { s.boot with fwBlocks := count }
    if crc32 ((data.take 4096).map (·.toNat)) = crc then
      done { s with boot := { b with fwGot := SMap.set (fun _ => 0) b.fwGot p (setBitTo (SMap.get (fun _ => 0) b.fwGot p) index true) } }
    else
      let n : Nat := SMap.get (fun _ => 0) b.fwTries (p * 65536 + index) + 1
      let s := { s with boot := { b with fwTries := SMap.set (fun _ => 0) b.fwTries (p * 65536 + index) n } }
      if n < 4 then done s else done ((s.sliceDone ⟨5, p, 1, 0⟩).err pBist 3 0x124 p)

/-! ### The start sequence -/

/-- 05_fabric.md: the spares of each row that the fuses decide: first positions they clear, then the highest columns (log entry 39). -/
def Fuses.spareSet (f : Fuses) : Nat :=
  (List.range 16).foldl (fun a r =>
    let cols := (List.range 18).map (fun i => 18 * r + (17 - i))
    let l := (cols.filter (fun p => !f.posEn.testBit p) ++ cols.filter (fun p => f.posEn.testBit p)).take 2
    l.foldl (fun a p => a + 2 ^ p) a) 0

/-- Table 17.3, step 1: every domain but D_AON is at its reset values; the mode is latched (R414). The Bureau draws KA and KM from its random source (R372):
free values. -/
def State.startReset (s : State) : State :=
  let d := s.draw
  let b := { s.boot.aonOnly with spareSet := s.fuses.spareSet, alert := false, hashKey := BitVec.ofNat 32 (d.1.toNat % 2 ^ 31) }
  let legacy := b.strapLegacy || b.legacyReq
  let t := { State.reset with pending := s.pending, draws := d.2.draws, fuses := s.fuses, hostMem := s.hostMem, sentMsi := s.sentMsi, boot := b }
  t.wrN pDev 0x04C (b2n legacy * 2 ^ 8 + b2n b.strapLegacy * 2 ^ 9 + b.strapSrc % 4 * 2 ^ 10 + b2n b.strapSvc * 2 ^ 12)

/-- The fault map of the record in force adds to the fuses (R464): its positions are never assigned, and its pseudo-channels are retired. -/
def State.faultMap (s : State) : State :=
  match s.boot.record with
  | none => s
  | some h =>
    let s := (List.range 288).foldl (fun s p => if h.posFault.testBit p && !s.boot.posFail.testBit p then (s.fencePosition p).2.2 else s) s
    (List.range 4).foldl (fun s i => s.wrN (hut0 i) 0x048 (h.pcRetired.getD i 0)) s

/-- Table 17.3, step 6: the stacks have trained; failing pseudo-channels are retired (R379). -/
def State.trainStacks (s : State) (x : StartPlan) : State :=
  (List.range 4).foldl (fun s h =>
    if !s.fuses.stkEn.testBit h then s
    else if x.stackBad.testBit h then (s.wrN (hut0 h) 0x044 0).raise (hut0 h) 7
    else (List.range 32).foldl (fun s p =>
      if (x.pcBad.getD h 0).testBit p && !(s.rdN (hut0 h) 0x048).testBit p then
        let s := s.retirePc h p
        { s with boot := { s.boot with recDirty := true } }
      else s) (s.hutState h)) s

/-- Table 17.3, step 9: healthy spares go to SLEEP, and so do positions that failed; a fused-off domain stays in OFF (R471). -/
def State.parkSpares (s : State) : State :=
  (List.range 288).foldl (fun s p =>
    if s.fuses.posEn.testBit p && (s.boot.spareSet.testBit p || s.posState p ≠ 0) then
      s.setDom (4 + p) { Dom.reset with cur := .sleep, target := .sleep, latest := .sleep }
    else s) s

/-- Table 17.3, step 10: READY. -/
def State.becomeReady (s : State) (ms : Nat) : State :=
  let s := (s.setFld pDev 0x04C 2 0 2).wrN pDev 0x054 (min ms 65535)
  (List.range 64).foldl (fun s f => s.raise ⟨.dev, f⟩ 0) s

/-- Steps 9 and 10: delivery of the firmware, with the slices of code 5, and READY. -/
def State.startEnd (s : State) (x : StartPlan) : State :=
  if s.devState = 0 then s
  else
    let s := (List.range 288).foldl (fun s p => if s.fuses.posEn.testBit p then s.deliverFw x.fw p else s) s
    let bad := x.slices.filter fun y => y.code = 5 && y.fail ≠ 0
    let s := bad.foldl (fun s y => s.err pBist 3 0x124 y.inst) s
    let s := (x.slices.filter (·.code = 5)).foldl State.sliceDone s
    let s := if s.healthyCount < s.fuses.cabinets then (s.noSpare 5 0x30 0).setFld pBist 0x044 2 0 5 else s
    if s.devState = 0 then s
    else
      let s := s.parkSpares
      let bad := x.chanBad &&& s.fuses.chEn
      if bad % 2 ^ 16 ≠ 0 then s.trainFails 4 0x10 (((List.range 16).find? bad.testBit).getD 0) else s.becomeReady x.readyMs

/-- Steps 5 to 8: the die-to-die groups and the stacks train, self-test runs, and the stacks are written with zero. -/
def State.startTest (s : State) (x : StartPlan) : State :=
  let all := if s.boot.strapSrc = 2 || !x.shadowOk then 2 ^ 27 - 1 else x.full % 2 ^ 27
  let full := (List.range 27).foldl (fun a i =>
    if all.testBit i && (i < 6 || i = 10 || (i < 10 && s.fuses.stkEn.testBit (i - 6)) || (10 < i && s.fuses.chEn.testBit (i - 11))) then a + 2 ^ i else a) 0
  let s := { (s.wrN pBist 0x078 full).setFlag pBist 0x044 5 (decide (full ≠ 0)) with boot := { s.boot with trainDirty := decide (full ≠ 0) } }
  let s := (List.range 6).foldl (fun s g => let l := x.lanes.getD g ([], 0); s.d2dTrain g l.1 l.2) s
  match (List.range 6).find? (fun g => s.fld (d2dPage g) 0x044 2 0 = 0) with
  | some g => s.blockFails 6 0x21 g
  | none =>
    let s := s.faultMap.trainStacks x
    match (List.range 4).find? (fun h => s.fuses.stkEn.testBit h && x.stackBad.testBit h) with
    | some h => s.trainFails 3 0x20 h
    | none =>
      let quick := s.boot.strapSvc && (match s.boot.record with | some h => s.recordValid h | none => false)
      let s := s.setFlag pBist 0x044 3 quick
      let s := s.selfTest (x.slices.filter (·.code ≠ 5)) x.ms
      (s.clearBytes 0 (2 ^ 37)).startEnd x

/-- Table 17.3: the start sequence with what the device meets on it. -/
def State.startSequence (s : State) (x : StartPlan) : State :=
  let s := s.startReset
  let s := { s with boot := { s.boot with fuseDigest := x.fuseDigest, subsys := x.subsys } }
  if !x.lockstep then s.blockFails 3 0x02 0
  else if s.boot.strapSrc = 3 then s.resetHold 5 0x02 0 0
  else match x.fwVer with
    | none => s.resetHold 5 0x02 0 0
    | some v =>
      let s := s.wrN pDev 0x050 v
      if !x.coreOk then s.resetHold 5 0x02 0 0
      else
        let b := { s.boot with coreDigest := x.coreDigest }
        let bad (h : Health) : Health := { h with good := h.good && x.shadowOk }
        let s := { s with boot := { b with rec0 := b.rec0.map bad, rec1 := b.rec1.map bad, recDirty := !x.shadowOk } }
        if !x.pllOk then s.blockFails 2 0x04 0
        else
          let s := s.setFlag pTime 0x070 0 true
          if !x.hostOk then s.blockFails 4 0x09 0
          else
            let s := { (s.setFld pDev 0x04C 2 0 1) with boot := { s.boot with crs := !s.boot.perstN } }
            s.startTest x

/-- R449, R450: RESET_N rises: D_AON samples the straps, and the device starts. Without VDD_AON there is nothing to start. -/
def execResetNRise (x : StartPlan) (s : State) : Result :=
  if s.boot.resetN then done s
  else if !s.boot.vddAon then done { s with boot := { s.boot with resetN := true } }
  else
    let s := { s with boot := { s.boot with resetN := true, strapLegacy := x.legacy, strapSrc := x.bootSrc % 4, strapSvc := x.svc } }
    done (s.startSequence x)

/-- R449, R455: RESET_N falls: every domain but D_AON is in reset, and a start under way is abandoned. -/
def execResetNFall (s : State) : Result :=
  if !s.boot.resetN then done s
  else
    done { State.reset with
      pending := s.pending, draws := s.draws, fuses := s.fuses, hostMem := s.hostMem, sentMsi := s.sentMsi,
      boot := { s.boot.aonOnly with resetN := false, off := s.boot.off, spareSet := s.fuses.spareSet } }

/-- R480: WAKE_N, low for at least 1 µs, starts a device that is OFF, with the straps as D_AON holds them. -/
def execWakeN (x : StartPlan) (s : State) : Result :=
  if s.boot.off && s.boot.vddAon then done (s.startSequence x) else done s

/-! ### The health record -/

/-- The number of ones below bit `n`. -/
def ones (n x : Nat) : Nat := ((List.range n).filter x.testBit).length

/-- Table 17.7: the slice result words of the record, at most 256: the slices that failed, then the others, in the order of their codes and instances.
Which slices stand there where more have run, and their order, is the model's choice (log entry 41). -/
def Boot.sliceWords (b : Boot) : List Nat :=
  let failed (e : Nat × Word) : Bool := e.2.bits 1 0 ≠ 1
  ((b.slices.filter failed ++ b.slices.filter fun e => !failed e).take 256).map fun e =>
    e.1 / 4096 % 256 + e.1 % 4096 * 2 ^ 8 + e.2.bits 1 0 * 2 ^ 20 + e.2.bits 15 8 * 2 ^ 24

/-- R461, R463: the record as the Bureau would write it now; `full` gives it a new stamp. -/
def State.newRecord (s : State) (full : Bool) : Health :=
  let old := s.boot.record
  let pos := s.boot.posFail ||| s.boot.posFence
  let pcs := (List.range 4).map fun h => s.rdN (hut0 h) 0x048
  let lanes := (List.range 6).map fun g => (List.range 10).foldl (fun a i => a + s.rdN (d2dPage g) (0x060 + 4 * i) * 2 ^ (32 * i)) 0
  let entries (p : Nat) (c l : List Nat) : Nat := ones 288 p + (c.map (ones 32)).foldl (· + ·) 0 + (l.map (ones 320)).foldl (· + ·) 0
  let before := match old with | some h => entries h.posFault h.pcRetired h.lanes | none => 0
  { seq := (old.map (·.seq + 1)).getD 1
    epoch := s.boot.aonEpoch
    stamp := if full then s.boot.aonCount else (old.map (·.stamp)).getD 0
    fuseDigest := s.boot.fuseDigest
    fwVer := s.rdN pDev 0x050
    coreDigest := s.boot.coreDigest
    full := full || (old.map (·.full)).getD false
    posFault := pos
    pcRetired := pcs
    lanes := lanes
    slices := s.boot.sliceWords
    runtime := if full then 0 else (old.map (·.runtime)).getD 0 + (entries pos pcs lanes - before)
    good := true }

/-- Is copy 0 the one to write: the one that is not in force? -/
def Boot.writesFirst (b : Boot) : Bool :=
  match b.rec0.filter (·.good), b.rec1.filter (·.good) with
  | some x, some y => decide (x.seq ≤ y.seq)
  | some _, none => false
  | none, _ => true

/-- A write into the flash: item `i` of Table 17.2. A failure is recorded, and the older copy stands (Table 17.11). -/
def State.flashDone (s : State) (i : Nat) (ok : Bool) : State :=
  let t := (Config.flashItem i).toNat
  let s := s.wrN pBist 0x06C (t * 2 ^ 8 + 2 * b2n (!ok))
  if ok then s.raise pBist 3 else (s.err pBist 4 0x123 t).raise pBist 4

/-- R461: the record is written into the copy with the older sequence number. -/
def State.writeRecord (s : State) (full ok : Bool) : State :=
  let first := s.boot.writesFirst
  let t := s.flashDone (if first then 5 else 6) ok
  if !ok then t
  else
    let h := s.newRecord full
    { t with boot := { t.boot with rec0 := if first then some h else t.boot.rec0, rec1 := if first then t.boot.rec1 else some h, recDirty := false } }

/-- R463: the Bureau writes run-time changes into the record. -/
def execHealthRecordUpdate (ok : Bool) (s : State) : Result :=
  if s.boot.recDirty && s.devState = 2 then done (s.writeRecord false ok) else done s

/-- R454: the Bureau writes new training records. -/
def execTrainingRecordWrite (ok : Bool) (s : State) : Result :=
  if s.boot.trainDirty && s.devState = 2 then done (({ s with boot := { s.boot with trainDirty := !ok } }).flashDone 4 ok) else done s

/-! ### BIST_CTRL -/

/-- R461: are partitions 1 to 63 all FREE? -/
def State.allFree (s : State) : Bool := (List.range 63).all fun k => s.part (k + 1) = .free

/-- The self-test or the record write starts: the full self-test in MAINTAIN service, the record write alone in NORMAL service. -/
def State.testStart (s : State) : State :=
  if s.boot.strapSvc then s.setFld pBist 0x044 2 0 3 else s.setFlag pBist 0x06C 0 true

/-- R461, R464, Table 17.12: a write of BIST_CTRL. -/
def bistCtrlWrite (w : Word) (s : State) : State :=
  let free := s.allFree
  let busy := s.flag pBist 0x06C 0 || s.fld pBist 0x044 2 0 = 3
  let s := if w.bit 1 then
      (if free && s.boot.strapSvc then { s with boot := { s.boot with clearMark := true } } else s.refuse pBist 0x040) else s
  let s := if w.bit 2 then (if free && s.boot.strapSvc && !busy then s.testStart else s.refuse pBist 0x040) else s
  if w.bit 0 then (if free && !(busy && !w.bit 2) then s.testStart else s.refuse pBist 0x040) else s

/-- R461: a write of BIST_CTRL.SHUTDOWN. -/
def execShutdown (r : Req) (w : Word) (s : State) : Result := gated r pBist 0x040 s (bistCtrlWrite (w.setBits 0 0 1))

/-- R464: a write of BIST_CTRL.CLEAR_FAULTS. -/
def execClearFaults (r : Req) (w : Word) (s : State) : Result := gated r pBist 0x040 s (bistCtrlWrite (w.setBits 1 1 1))

/-- R461: a write of BIST_CTRL.RUN_FULL. -/
def execRunFull (r : Req) (w : Word) (s : State) : Result := gated r pBist 0x040 s (bistCtrlWrite (w.setBits 2 2 1))

/-- R464: the marked entries whose blocks have passed the full self-test leave the fault map. -/
def State.clearPassed (s : State) (l : List Slice) : State :=
  let passed (c i : Nat) : Bool := l.any (fun x => x.code = c && x.inst = i && x.fail = 0)
  let ps := (List.range 288).filter fun p => passed 0 p && passed 1 p
  let b := s.boot
  let s := { s with boot := { b with posFail := ps.foldl (fun n p => setBitTo n p false) b.posFail
                                     posFence := ps.foldl (fun n p => setBitTo n p false) b.posFence
                                     clearMark := false } }
  (List.range 4).foldl (fun s h => if passed 3 h then (s.wrN (hut0 h) 0x048 0).hutState h else s) s

/-- R461: the self-test and the record write complete: BIST_DONE. A record that could not be written leaves the state FAILED (log entry 41). -/
def execBistDone (l : List Slice) (ms : Nat) (ok : Bool) (s : State) : Result :=
  let full := s.fld pBist 0x044 2 0 = 3
  if !full && !s.flag pBist 0x06C 0 then done s
  else
    let s := if full then
        (let s := if s.boot.clearMark then s.clearPassed l else s
         s.selfTest l ms) else s
    if full && s.devState = 0 then done s
    else
      let s := s.writeRecord full ok
      done (if ok then (s.setFld pBist 0x044 2 0 4).raise pBist 0 else s.setFld pBist 0x044 2 0 5)

/-! ### D_AON -/

/-- R450: VDD_AON rises: the counter starts from zero, a new epoch is drawn, and AON_LOST is set. -/
def execVddAonRise (s : State) : Result :=
  if s.boot.vddAon then done s
  else
    let x := s.draw
    done { x.2 with boot := { x.2.boot with vddAon := true, aonCount := 0, aonEpoch := x.1.toNat % 2 ^ 32, aonLost := true } }

/-- R414, R514: VDD_AON falls: what D_AON holds is lost, LEGACY and the latched TRIP with it, and so is everything else (no domain is powered without
it, log entry 42). The flash keeps its records. -/
def execVddAonLoss (s : State) : Result :=
  if !s.boot.vddAon then done s
  else
    done { State.reset with
      pending := s.pending, draws := s.draws, fuses := s.fuses, hostMem := s.hostMem, sentMsi := s.sentMsi,
      boot := { Boot.reset with
        resetN := s.boot.resetN, perstN := s.boot.perstN, temps := s.boot.temps, vddAon := false, off := true, rec0 := s.boot.rec0, rec1 := s.boot.rec1,
        clearMark := s.boot.clearMark, subsys := s.boot.subsys } }

end Sys2Proof.Machine
end

