-- ==== Sys2Proof/Machine/Endpoint.lean ====
section
/-!
DEFINITION. Endpoint.lean: what a destination endpoint does with an arriving flit: the reorder buffer (R130 to R134), delivery and acceptance (R126,
R195), the ingress log (R361), the journal (R431, R434) and the filters (R441); the Timekeeper's external trigger events (R45); and MAP_SWITCH (R345).
-/

namespace Sys2Proof.Machine

/-- The expected sequence number of a pair (R131). -/
def State.expected (s : State) (pk : Nat) : Nat := SMap.get (fun _ => 0) s.expect pk

/-- The state with it replaced. -/
def State.setExpected (s : State) (pk n : Nat) : State := { s with expect := SMap.set (fun _ => 0) s.expect pk (n % 4096) }

/-- The pair of a flit at an endpoint. -/
def State.flitPair (s : State) (e : Nat) (f : Flit) : Nat := s.pairKey f.key f.src e f.vc

/-! ### Delivery -/

/-- R126: is this the type of an event, and are its reserved bits zero? -/
def goodEvent (payload : Nat) : Bool := (decide (evType payload ≤ 5) || evType payload = 15) && nb payload 12 0 = 0

/-- R434: does a full journal keep the router from taking a flit for its local port? -/
def State.jrnBlocked (s : State) (e : Nat) : Bool := isCab e && s.journalFull (s.cabKey e) (s.cabLog e)

/-- The same, counted and raised. -/
def State.jrnRefuse (s : State) (e : Nat) : State := s.journalBlock (s.cabKey e) (s.cabLog e)

/-- A flit joins those its endpoint has taken. -/
def State.toInbox (s : State) (e : Nat) (esc : Bool) (f : Flit) : State := { s with inbox := s.inbox ++ [⟨e, esc, f⟩] }

/-- R441: what a filter does with an event: nothing, or a discard and the filters left. -/
def filterTake (l : List (Nat × Nat × List Nat)) (payload now : Nat) : Option (List (Nat × Nat × List Nat)) :=
  match l.find? (fun x => x.1 = evSource payload / 2 ^ 15) with
  | none => none
  | some x =>
    if rebuild (evTime payload) now < x.2.1 then some l
    else if x.2.2.contains payload then some (l.map fun y => if y = x then (x.1, x.2.1, x.2.2.erase payload) else y)
    else none

/-- Tables 13.9, 16.5: while both positions of a migrating or recovering Cabinet are leaves of its partition's trees, one of them acts on a tree flit:
the source until it hands over, the target from then on (DESIGN CHOICE, log entry 47). -/
def State.twinLeaf (s : State) (p : Nat) (f : Flit) : Bool :=
  decide (0x180 ≤ f.dest) &&
    ((s.mbox.any fun m => m.src ≠ m.dst && ((decide (1 ≤ m.phase) && decide (m.phase ≤ 3) && m.dst = p) || (m.phase = 4 && m.src = p))) ||
     s.recov.any fun r => r.src ≠ r.dst && ((r.step < 6 && r.dst = p) || (r.step = 6 && r.src = p)))

/-- R195, R361, R431, R441: a Cabinet accepts an event. -/
def State.acceptEvent (s : State) (p : Nat) (esc : Bool) (f : Flit) : State :=
  let s := s.notice p f
  let c := s.cab p
  if s.twinLeaf p f then s
  else match filterTake c.filters f.payload s.now with
  | some l => s.setCab p { c with filters := l }
  | none =>
    let k := s.cabKey p
    let s := if (s.cfg k).prot then s.journalAdd k (s.cabLog p) [f.payload + 1] else s
    if c.frozen || c.fenced || c.replay then s.setCab p { c with ingress := c.ingress ++ [f] } else s.toInbox p esc f

/-- R364: the parked logical Cabinet to which a flit forwarded to the Bureau was addressed: the one whose other copy of the map still names a
position. -/
def State.parkedTarget (s : State) (k : Nat) : Nat :=
  ((List.range 256).find? fun c =>
    (s.mapEntry k c).parked && (let m := s.mapCopy (!s.mapSecond 0x161 k) k c; m.valid && !m.parked)).getD 0

/-- R364: a queue message that reaches the Bureau in a parked Cabinet's place: the send fails with NOQUEUE (status 2). `c` is the logical Cabinet. -/
def State.noQueue (s : State) (c : Nat) (f : Flit) : State :=
  let src := if isCab f.src then (match s.logicalAny f.key f.src with
      | some a => if (s.mapEntry f.key a).parked then f.src else (s.mapEntry f.key a).phys
      | none => f.src) else f.src
  { s with notices := s.notices ++ [⟨src, 1024 + c, f.key, 18, f.seq⟩] }

/-- R126, R132: a flit is delivered to its endpoint. Test flits of VC7 end here. -/
def State.deliver (s : State) (e : Nat) (esc : Bool) (f : Flit) : State :=
  if f.vc = 7 then s
  else if f.kind = 4 && f.tag ≠ 63 && s.twinLeaf e f then s
  else if e = 0x161 && f.kind = 1 then s.noQueue (f.payload / 2 ^ 120 % 256) f
  else if e = 0x161 && f.kind = 2 then s
  else if f.kind ≠ 0 then s.toInbox e esc f
  else if !goodEvent f.payload then (s.notice e f).err (endPage e) 3 0x035 f.src
  else if isCab e then s.acceptEvent e esc f
  else if isChan e then s.toInbox e esc f
  else if e = 0x161 && decide (f.dest < 0x180) then (s.notice e f).parkedDrop f.key (s.parkedTarget f.key)
  else s.notice e f

/-- R132: entries of a pair leave the reorder buffer while the next in sequence stands there. -/
def State.robDrain (e pk : Nat) : Nat → State → State
  | 0, s => s
  | n + 1, s =>
    match (s.rob e).find? (fun r => s.flitPair e r.flit = pk && r.flit.seq = s.expected pk) with
    | none => s
    | some r =>
      if s.jrnBlocked e then s.jrnRefuse e
      else State.robDrain e pk n ((((s.setRob e ((s.rob e).erase r)).deliver e r.esc r.flit)).setExpected pk (s.expected pk + 1))

/-- R364: may an event or a queue message at the Bureau be one forwarded from a parked Cabinet's old position: has its partition a parked Cabinet? -/
def State.parkedTraffic (s : State) (e : Nat) (f : Flit) : Bool :=
  e = 0x161 && decide (f.kind ≤ 2) && (List.range 256).any fun c => (s.mapCopy true f.key c).parked || (s.mapCopy false f.key c).parked

/-- R132: is the flit of a class that the reorder buffer orders? Forwarded traffic that the Bureau discards is not ordered: its numbers are those of the
parked Cabinet's pair (R364). -/
def State.ordered (s : State) (e : Nat) (f : Flit) : Bool :=
  (f.vc = 0 || f.vc = 1 || f.vc = 6) && decide (f.dest < 0x180) && !s.parkedTraffic e f

/-- R147: does a tree flit stand at its ejection port behind another of the same source, tree and class? -/
def State.treeBehind (s : State) (a : Arrival) : Bool :=
  decide (0x180 ≤ a.flit.dest) && (s.arrivals.takeWhile (· ≠ a)).any fun b =>
    b.dest = a.dest && b.flit.dest = a.flit.dest && b.flit.src = a.flit.src && b.flit.vc = a.flit.vc && b.flit.key = a.flit.key

/-- R132: a destination delivers, stores, holds or discards a flit that stands at its ejection port. -/
def execFlitEject (e : Nat) (esc : Bool) (f : Flit) (s : State) : Result :=
  let a : Arrival := ⟨e, esc, f⟩
  if !s.arrivals.contains a || s.treeBehind a then done s
  else
    let taken := { s with arrivals := s.arrivals.erase a }
    if !s.ordered e f then
      (if f.kind = 0 && s.jrnBlocked e then done (s.jrnRefuse e) else done (taken.deliver e esc f))
    else
      let pk := s.flitPair e f
      let d := (f.seq + 4096 - s.expected pk) % 4096
      if d = 0 then
        if s.jrnBlocked e then done (s.jrnRefuse e)
        else done (State.robDrain e pk 513 ((taken.deliver e esc f).setExpected pk (s.expected pk + 1)))
      else if d < 2048 then
        if esc && decide (robEsc (s.rob e) < 64) then done (taken.setRob e (s.rob e ++ [⟨f, true, s.now⟩]))
        else if robGeneral (s.rob e) < 448 then done (taken.setRob e (s.rob e ++ [⟨f, false, s.now⟩]))
        else done (s.incCtr (endPage e) 0x054)
      else done ((taken.err (endPage e) 3 0x031 f.src).raise (endPage e) 4)

/-- R134: the oldest entry of an endpoint has stayed in the reorder buffer for ROB_TMO: the missing flits of its pair are lost, and the loss is
reported, with the destination, the key and the source. Where the missing flit stands at the ejection port in this cycle it is delivered instead. -/
def execRobTimeout (e : Nat) (s : State) : Result :=
  let tmo := s.fld (endPage e) 0x04C 15 0 * 2048
  match (s.rob e).find? (fun r => decide (r.stored + tmo ≤ s.now) && s.expected (s.flitPair e r.flit) ≠ r.flit.seq) with
  | none => done s
  | some r =>
    let pk := s.flitPair e r.flit
    match s.arrivals.find? fun a => a.dest = e && s.ordered e a.flit && s.flitPair e a.flit = pk && a.flit.seq = s.expected pk with
    | some a => execFlitEject e a.esc a.flit s
    | none =>
    if s.jrnBlocked e then done (s.jrnRefuse e)
    else
      let s := ((s.err (endPage e) 4 0x032 r.flit.src).raise (endPage e) 3).setExpected pk r.flit.seq
      done ((State.robDrain e pk 513 s).reportWith (endPage e) 0x032 (32768 * e + 512 * r.flit.key + r.flit.src))

/-- R437, R434: the journal of the Cabinet at a position has room again, so what waited there is taken. -/
def State.robResume (s : State) (e : Nat) : State :=
  (s.rob e).foldl (fun s r => State.robDrain e (s.flitPair e r.flit) 513 s) s

/-! ### The Timekeeper's events -/

/-- Table 2.3: the payload of an external trigger event. -/
def trigPayload (s : State) (e : TrigEdge) : Nat :=
  eventPayload e.time (s.fld pTime (0x090 + 0x20 * e.pin) 31 16) (0xFF * 2 ^ 15 + e.pin) (e.pin % 4 + 4 * b2n e.fall) e.interval 4

/-- R45, R364: the Timekeeper injects the oldest waiting external trigger event of a pin; none is formed for a partition that is not RUNNING. -/
def execExternalTriggerEvent (pin : Nat) (s : State) : Result :=
  match s.trigEvents.find? (fun e => e.pin = pin) with
  | none => done s
  | some e =>
    let s := { s with trigEvents := s.trigEvents.erase e }
    let k := s.fld pTime (0x090 + 0x20 * pin) 5 0
    if !s.silent k 0x160 then done (s.sendEvent 0x160 k (s.fld pTime (0x090 + 0x20 * pin) 13 6) (trigPayload s e)) else done s

/-! ### MAP_SWITCH -/

/-- R345: a holder takes the MAP_SWITCH flit that has reached it, and notes r_e. -/
def execMapSwitchFlit (e : Nat) (s : State) : Result :=
  match s.mgmtAt e 0x40 with
  | none => done s
  | some a =>
    let k := nb a.flit.payload 103 98
    done { s with inbox := s.inbox.erase a, mapRe := SMap.set (fun _ => none) s.mapRe (512 * k + e) (some (nb a.flit.payload 119 104)) }

end Sys2Proof.Machine
end

