-- ==== Sys2Proof/Machine/Package.lean ====
section
/-!
DEFINITION. Package.lean: the commands of 20_package.md: the junction monitors and the SMBus interface.
-/

namespace Sys2Proof.Machine

/-- Does the device run at all: RESET_N is high, and it is neither OFF nor tripped? -/
def State.powered (s : State) : Bool := s.boot.resetN && !s.boot.off && s.boot.vddAon

/-- R514: the device trips: every domain but D_AON loses its power and its state, TRIP is latched, and ALERT_N is held low. -/
def State.tripped (s : State) : State := ({ s with boot := { s.boot with trip := true } }).powerOff

/-- R513: an alarm: ALARM and the bit that remembers it are set, ALERT_N driven low, and the ALERT cause raised. -/
def State.alarmSet (s : State) : State := ({ s with boot := { s.boot with alarm := true, alarmed := true } }).alertOn

/-- R513: ALARM releases, and ALERT_N with it unless a latched trip or reset-hold for a failure keeps it low (R412, R514). -/
def State.alarmRelease (s : State) : State :=
  let b := s.boot
  { s with boot := { b with alarm := false, alert := b.alert && (!b.alarm || (s.devState = 0 && s.holdCause ≠ 0)) } }

/-- R513, R514: the sixteen junction monitors have read. -/
def execMonitorReading (temps : List Int) (s : State) : Result :=
  if !s.powered || temps.length ≠ 16 then done s
  else
    let s := { s with boot := { s.boot with temps := temps } }
    if temps.any (fun t => decide (115 ≤ t)) then done s.tripped
    else if temps.any (fun t => decide (105 ≤ t)) then done s.alarmSet
    else if temps.all (fun t => decide (t ≤ 100)) then done s.alarmRelease
    else done s

/-- A reading as the signed byte of Table 20.9. -/
def tempByte (t : Int) : Nat := (BitVec.ofInt 8 t).toNat

/-- Table 20.9, command 0x00: the words of Table 15.10, in reset-hold too (R512). -/
def execSmbusBlockRead (s : State) : Result := if s.powered then answer s (.words s.vsec) else done s

/-- Table 20.9, command 0x10 + i: junction monitor i. -/
def execSmbusMonitorRead (i : Nat) (s : State) : Result :=
  if s.powered && decide (i < 16) then answer s (.data (tempByte (s.boot.temps.getD i 0))) else done s

/-- The highest monitor reading. -/
def Boot.highest (b : Boot) : Int := b.temps.foldl max (b.temps.headD 0)

/-- Table 20.9, command 0x20: the highest reading. -/
def execSmbusHighestRead (s : State) : Result :=
  if s.powered then answer s (.data (tempByte s.boot.highest)) else done s

/-- Table 20.9, command 0x21: ALARM now, an ALARM since the last clear, TRIP latched. -/
def execSmbusAlarmRead (s : State) : Result :=
  if s.powered then answer s (.data (b2n s.boot.alarm + 2 * b2n s.boot.alarmed + 4 * b2n s.boot.trip)) else done s

/-- Table 20.9, command 0x22: 1 clears bits 1 and 2 of command 0x21; other values, and a write whose PEC is wrong, are ignored. -/
def execSmbusAlarmClear (v : Nat) (pec : Option Bool) (s : State) : Result :=
  if s.powered && v = 1 && pec ≠ some false then done { s with boot := { s.boot with alarmed := false, trip := false } } else done s

end Sys2Proof.Machine
end

