-- ==== Sys2Proof/Machine/Host.lean ====
section
/-!
DEFINITION. Host.lean: the host port beside its registers and rings: its resets and configuration requests (R386 to R389, R411), MSI-X (R402, R403),
the stack window (R409), and the hold, the release and the legacy request of the DEV page (R413, R414).
-/

namespace Sys2Proof.Machine

/-! ### MSI-X -/

/-- The vectors of a function (Table 15.1). -/
def vectorCount (f : Nat) : Nat := if f = 0 then 2048 else 32

/-- What a function holds of MSI-X. -/
def State.msixOf (s : State) (f : Nat) : Msix := SMap.get (fun _ => Msix.reset) s.msix f

/-- The state with it replaced. -/
def State.setMsix (s : State) (f : Nat) (x : Msix) : State := { s with msix := SMap.set (fun _ => Msix.reset) s.msix f x }

/-- A word of the MSI-X table. A vector's mask bit is set after reset, as PCI Express has it (PRESUMED, log entry 43). -/
def msixDefault (k : Nat) : Word := if k % 4 = 3 then 1 else 0

/-- Word `i` of a vector's table entry. -/
def Msix.word (x : Msix) (v i : Nat) : Word := SMap.get msixDefault x.table (4 * v + i)

/-- Is the vector masked, by its own bit or by the function's? -/
def Msix.isMasked (x : Msix) (v : Nat) : Bool := x.masked || (x.word v 3).bit 0

/-- The page of a key of the register file. -/
def pageOfKey (k : Nat) : Page := ⟨blockOf (k / 4096 / 4096), k / 4096 % 4096⟩

/-- The pages whose condition always goes to vector 0 of their function (R402). -/
def vectorZero (p : Page) : Bool := p.blk = .dev || p.blk = .bur || p.blk = .hq

/-- The function that a page's condition belongs to (R402). -/
def State.pageFn (s : State) (p : Page) : Nat := if p.perView then p.inst else s.owner p

/-- R402: does a route entry deliver its page's condition to this vector, and does the condition hold? -/
def State.routed (s : State) (f v : Nat) (p : Page) (w : Word) : Bool :=
  !vectorZero p && w.bit 15 && w.bits 10 0 = v && decide ((if w.bit 14 then 0 else s.pageFn p) = f) && decide (s.irqPend p ≠ 0)

/-- R407, R408: the condition of a ring with IRQ_EN on vector 0. -/
def Ring.condition (r : Ring) : Bool := r.en && r.cfg.bit 8 && (r.st = 2 || (!r.toDevice && r.tail ≠ r.head))

/-- R402, R403: does any condition delivered to the vector hold? -/
def State.condition (s : State) (f v : Nat) : Bool :=
  (v = 0 && (decide (s.irqPend ⟨.dev, f⟩ ≠ 0) || decide (s.irqPend (bur f) ≠ 0) || decide (s.irqPend (hq f) ≠ 0) ||
    s.rings.any fun e => e.1 / 1024 = f && e.2.condition)) ||
  s.routes.any fun e => s.routed f v (pageOfKey e.1) e.2

/-- R403: an armed vector with a condition sends its message and is disarmed; where it is masked the pending bit is set instead. -/
def State.msixTry (s : State) (f v : Nat) : State :=
  let x := s.msixOf f
  if !s.powered || !x.enabled || vectorCount f ≤ v || x.fired.contains v || !s.condition f v then s
  else if x.isMasked v then s.setMsix f { x with pend := v :: x.pend.filter (· ≠ v) }
  else
    let m : MsixMsg := ⟨f, v, (x.word v 0).toNat + (x.word v 1).toNat * 2 ^ 32, x.word v 2⟩
    { s.setMsix f { x with fired := v :: x.fired, pend := x.pend.filter (· ≠ v) } with sentMsi := s.sentMsi ++ [m] }

/-- R403: the masks of a function have changed: a pending vector that is not masked any more is sent if its condition still holds. -/
def State.msixUnmask (s : State) (f : Nat) : State :=
  let x := s.msixOf f
  let l := x.pend.filter fun v => !x.isMasked v
  if !x.enabled then s else l.foldl (fun s v => s.msixTry f v) (s.setMsix f { x with pend := x.pend.filter fun v => x.isMasked v })

/-- R403: an armed vector with a holding condition sends one message. -/
def execMsixMessage (f v : Nat) (s : State) : Result := done (s.msixTry f v)

/-- R403: a write of VEC_EOI re-arms a vector; a vector at or above the function's count is a reserved encoding. -/
def vecEoiWrite (f : Nat) (w : Word) (s : State) : State :=
  let v := w.bits 10 0
  if vectorCount f ≤ v then s.badEnc (hq f) 0x07C
  else
    let x := s.msixOf f
    (s.setMsix f { x with fired := x.fired.filter (· ≠ v) }).msixTry f v

/-- R403: a write of VEC_EOI in a function's HQ view. -/
def execVecEoi (r : Req) (w : Word) (s : State) : Result := gated r (hq r.view) 0x07C s (vecEoiWrite r.view w)

/-- R403: a write of a word of the MSI-X table of a function. -/
def State.msixTableWrite (s : State) (f v i : Nat) (w : Word) : State :=
  let x := s.msixOf f
  (s.setMsix f { x with table := SMap.set msixDefault x.table (4 * v + i) (if i = 3 then w &&& 1 else if i = 0 then w &&& 0xFFFFFFFC else w) }).msixUnmask f

/-! ### Resets of the port, and configuration requests -/

/-- R411: every function's configuration state, rings and MSI-X state are reset; no partition changes. -/
def State.portReset (s : State) : State :=
  let idle (r : Ring) : Ring := { r with cfg := r.cfg.setBits 0 0 0, st := 0, since := none, stalled := false, reading := false }
  { s with d3hot := [], msix := [], pci := Pci.reset,
           rings := s.rings.foldl (fun m e => SMap.set (fun _ => Ring.reset) m e.1 (idle e.2)) [] }

/-- R411: a hot reset, or the link goes down. -/
def execHotReset (s : State) : Result := if s.powered then done s.portReset else done s

/-- R388, R449, R455: PERST_N rises: the port is reset as by R411, and answers Request Retry Status until the Bureau is ready. -/
def execPerstNRise (s : State) : Result :=
  let t := s.portReset
  done { t with boot := { t.boot with perstN := true, crs := true } }

/-- R387: the identifiers of Table 15.2, at the offsets PCI Express gives them (PRESUMED, log entry 43), and the words of Table 15.10 in the PF. -/
def State.configWord (s : State) (f off : Nat) : Option Nat :=
  if off = 0x00 then some (0x1D7A + (if f = 0 then s.fuses.part else 0x40F1) * 2 ^ 16)
  else if off = 0x08 then some (s.fuses.rev % 256 + 0x120000 * 2 ^ 8)
  else if off = 0x2C then some (s.boot.subsys % 2 ^ 32)
  else if f = 0 && 0x800 ≤ off && off < 0x820 && off % 4 = 0 then some (s.vsec.getD ((off - 0x800) / 4) 0)
  else none

/-- A field of configuration space that Table 15.1 or R410 names, as a function reads it. The functions share what the PF holds; a VF's own copy of it is
reserved (PRESUMED from PCI Express, log entry 58). -/
def State.pciRead (s : State) (f : Nat) : PciField → Nat
  | .status e => b2n (s.pci.status.contains (f, e))
  | x => if f ≠ 0 then 0 else match x with
    | .maxPayload => s.pci.mps
    | .maxReadRequest => s.pci.mrrs
    | .completionTimeout => s.pci.timeout
    | .ecrcGenerate => b2n s.pci.ecrcGen
    | .ecrcCheck => b2n s.pci.ecrcCheck
    | .vfEnable => b2n s.pci.vfEnable
    | .numVfs => s.pci.numVfs
    | .ariForwarding => b2n s.pci.ari
    | .fatal e => b2n (s.pci.fatal.contains e)
    | .status _ => 0

/-- The encodings of Device Control 2 for the default timeout and the ranges A to D (R410). -/
def timeoutLegal (v : Nat) : Bool := [0, 1, 2, 5, 6, 9, 10, 13, 14].contains v

/-- R386, R410: the host writes such a field; a value outside Table 15.1 changes nothing, and a one clears a recorded error. -/
def State.pciWrite (s : State) (f : Nat) (x : PciField) (v : Nat) : State :=
  let p := s.pci
  let q : Pci := match x with
    | .status e => if v % 2 = 1 then { p with status := p.status.filter (· ≠ (f, e)) } else p
    | x => if f ≠ 0 then p else match x with
      | .maxPayload => if v ≤ 2 then { p with mps := v } else p
      | .maxReadRequest => if v ≤ 5 then { p with mrrs := v } else p
      | .completionTimeout => if timeoutLegal v then { p with timeout := v } else p
      | .ecrcGenerate => { p with ecrcGen := decide (v % 2 = 1) }
      | .ecrcCheck => { p with ecrcCheck := decide (v % 2 = 1) }
      | .vfEnable => { p with vfEnable := decide (v % 2 = 1) }
      | .numVfs => if v ≤ 63 && !p.vfEnable then { p with numVfs := v } else p
      | .ariForwarding => { p with ari := decide (v % 2 = 1) }
      | .fatal e => { p with fatal := if v % 2 = 1 then e :: p.fatal.filter (· ≠ e) else p.fatal.filter (· ≠ e) }
      | .status _ => p
  { s with pci := q }

/-- R387 to R389, R403, R410: a configuration request. `ready` tells that the Bureau has configured the port since PERST_N last rose (R388, R455). What the
spec leaves to PCI Express reads as a free value. -/
def execConfigRequest (f : Nat) (op : CfgOp) (ready : Bool) (s : State) : Result :=
  if !s.powered || !s.boot.perstN || 64 ≤ f then done s
  else if s.boot.crs && !ready then answer s .retry
  else
    let s := { s with boot := { s.boot with crs := false } }
    match op with
    | .read off =>
      match s.configWord f off with
      | some v => answer s (.data v)
      | none => answer s.draw.2 (.data (s.draw.1.toNat % 2 ^ 32))
    | .msix en mask => done ((s.setMsix f { s.msixOf f with enabled := en, masked := mask }).msixUnmask f)
    | .power d3 => done { s with d3hot := SMap.set (fun _ => false) s.d3hot f d3 }
    | .field x => answer s (.data (s.pciRead f x))
    | .setField x v => done (s.pciWrite f x v)
    | .write _ _ => done s

/-! ### The stack window -/

/-- R409: the stack byte address of a BAR4 offset, where its entry is valid. -/
def State.windowAt (s : State) (o : Nat) : Option Nat :=
  let w := s.rd (hq 0) (0x100 + 4 * (o / 2 ^ 30 % 64))
  if w.bit 31 then some (w.bits 1 0 * 2 ^ 35 + w.bits 6 2 * 2 ^ 30 + o % 2 ^ 30) else none

/-- The number of 64-byte lines that `n` bytes from an address touch. -/
def linesOf (a n : Nat) : Nat := (a % 64 + n + 63) / 64

/-- R409, R376: the bytes of the touched lines, as one number; none where a line has no good copy. -/
def State.windowLines (s : State) (a : Nat) (ecc : List LineEcc) : Nat → Nat → Option Nat × State
  | 0, _ => (some 0, s)
  | n + 1, i =>
    let r := (s.countLine (a + 64 * i)).readLine (a + 64 * i) (ecc.getD i .clean)
    let q := State.windowLines r.2 a ecc n (i + 1)
    (match r.1, q.1 with | some x, some y => some (x + y * 2 ^ 512) | _, _ => none, q.2)

/-- R371: the access of the window to these lines is answered ISOLATION: its code. -/
def State.windowDenied (s : State) (a n : Nat) : Option (Nat × Nat) :=
  (List.range (linesOf a n)).findSome? fun i =>
    (s.stackDenied 0 (a / 64 * 64 + 64 * i) false).map fun c => (a / 64 * 64 + 64 * i, c)

/-- R409: an access through BAR4. -/
def execStackWindowAccess (f o : Nat) (acc : WinAcc) (bus : Bus) (s : State) : Result :=
  let s := s.received f bus
  if s.discards bus then done s
  else if !s.powered || s.devState ≠ 2 || f ≠ 0 || s.inD3 0 then unsupported f s
  else
    let e := o / 2 ^ 30 % 64
    match acc with
    | .read n ecc =>
      match s.windowAt o with
        | none => unsupported 0 s
        | some a =>
          match s.windowDenied a n with
          | some x => unsupported 0 (s.isolate 0 x.1 x.2)
          | none =>
            let r := s.windowLines (a / 64 * 64) ecc (linesOf a n) 0
            match r.1 with
            | some v => answer r.2 (.data (v / 256 ^ (a % 64) % 256 ^ n))
            | none => answer (r.2.draw.2.aer 0 .egressPoisoned) (.poisoned r.2.draw.1.toNat)
    | .write bytes =>
      busChecked 0 bus s <|
      match s.windowAt o with
      | none => done (s.errIntg 0 6 0x104 e)
      | some a =>
        match s.windowDenied a bytes.length with
        | some x => done ((s.isolate 0 x.1 x.2).errIntg 0 6 0x104 e)
        | none =>
          let s := (List.range (linesOf a bytes.length)).foldl (fun s i => s.countCopies (a / 64 * 64 + 64 * i)) s
          done (bytes.foldl (fun (x : State × Nat) b => (x.1.stackPut x.2 1 b.toNat, x.2 + 1)) (s, a)).1

/-! ### The DEV page -/

/-- The control core of a position is in reset, and any wait of it ends (R312). -/
def State.coreReset (s : State) (p : Nat) : State :=
  let s := match (s.core p).wait with
    | some (.qrecv i _ _) => s.setQctx p i { s.qctx p i with blkR := false }
    | _ => s
  let q := s.qm p
  let s := s.setQm p { q with sends := q.sends.filter fun x => x.unit ≠ 0 }
  let s := { s with notices := s.notices.filter fun n => !(n.src = p && n.dest = p && n.seq = 4096 && decide (16 ≤ n.cls)) }
  ((s.setFlag (cctl p) 0x040 0 false).setFld (cctl p) 0x00C 1 0 0).setCore p Core.reset

/-- R413: every channel and Cabinet is disabled. -/
def State.disableAll (s : State) : State :=
  let s := (List.range 16).foldl (fun s n =>
    if s.fuses.chEn.testBit n then (linkCtrlWrite n 0 (chanCtrlWrite n 0 s)).linksDown n else s) s
  (List.range 288).foldl (fun s p =>
    if s.fuses.posEn.testBit p then (s.coreReset p).setFlag (hzn p) 0x040 0 false else s) s

/-- R413: DEV_CTRL.HOLD: refused unless partitions 1 to 63 are all FREE; in the hold already it changes nothing more. -/
def State.hostHold (s : State) : State :=
  if !s.allFree then s.refuse pDev 0x048
  else (s.disableAll.setFld pDev 0x04C 2 0 0).setFld pDev 0x04C 7 4 0

/-- Is the device in the hold of R413? -/
def State.inHostHold (s : State) : Bool := s.powered && s.devState = 0 && s.holdCause = 0

/-- R413, R414: DEV_CTRL.LEGACY as a write asks for it; a write that would change it outside the hold is refused. -/
def State.legacyWrite (s : State) (b : Bool) : State :=
  if s.inHostHold then { s with boot := { s.boot with legacyReq := b } }
  else if b = s.boot.legacyReq then s else s.refuse pDev 0x048

/-- R413, R414: DEV_CTRL.RELEASE ends the hold: the mode is latched, the quick check runs, and the start goes on from the delivery of firmware. The
stacks are empty again. -/
def State.hostRelease (s : State) (x : StartPlan) : State :=
  if !s.inHostHold then s
  else
    let s := (s.setFlag pDev 0x04C 8 (s.boot.strapLegacy || s.boot.legacyReq)).setFld pDev 0x04C 2 0 1
    let s := (s.setFlag pBist 0x044 3 true).selfTest (x.slices.filter (·.code ≠ 5)) x.ms
    (s.clearBytes 0 (2 ^ 37)).startEnd x

/-- The start that finds nothing failed, as a plain register write of RELEASE meets it: the command RELEASE tells what another start meets (DESIGN CHOICE,
log entry 58). -/
def State.cleanStart (s : State) : StartPlan :=
  ⟨false, 0, false, true, some (s.rdN pDev 0x050), true, s.boot.coreDigest, s.boot.fuseDigest, true, true, true, [], 0, 0, [], 0, [], 0, 0, [], s.boot.subsys⟩

/-- Table 15.14: a write of DEV_CTRL; `x` is what a start by its RELEASE bit meets. -/
def devCtrlWrite (r : Req) (w : Word) (x : StartPlan) (s : State) : State :=
  if !r.isPf then s.errIntg r.view 6 0x102 0
  else
    let s := s.legacyWrite (w.bit 0)
    let s := if w.bit 1 then s.hostHold else s
    if w.bit 2 then s.hostRelease x else s

/-- R413: a write of DEV_CTRL with HOLD set. -/
def execHold (r : Req) (w : Word) (s : State) : Result := gated r pDev 0x048 s (devCtrlWrite r (w.setBits 1 1 1) s.cleanStart)

/-- R413: a write of DEV_CTRL with RELEASE set. -/
def execRelease (r : Req) (w : Word) (x : StartPlan) (s : State) : Result := gated r pDev 0x048 s (devCtrlWrite r (w.setBits 2 2 1) x)

/-- R414: a write of DEV_CTRL that sets or clears LEGACY. -/
def execLegacyWrite (r : Req) (w : Word) (s : State) : Result := gated r pDev 0x048 s (devCtrlWrite r w s.cleanStart)

end Sys2Proof.Machine
end

