-- ==== Sys2Proof/Machine/Image.lean ====
section
/-!
DEFINITION. Image.lean: the network image (13_placement.md, The network image): its header and sections (R347) and the checks of R348. The layouts of the
sections whose contents the spec names without a layout (0x05's lines, 0x07, 0x09, 0x0B to 0x0F) are the model's (DESIGN CHOICE, log entry 45).
-/

namespace Sys2Proof.Machine

/-! ### Header and sections -/

/-- An image: its bytes as a little-endian number, and its length. -/
structure Img where
  bytes : Nat
  size  : Nat
  deriving DecidableEq, Repr

/-- `n` bytes of a number from an offset. -/
def bytesAt (v off n : Nat) : Nat := v / 256 ^ off % 256 ^ n

/-- The `n` low bytes of a number. -/
def byteList (v n : Nat) : List Nat := (List.range n).map fun i => bytesAt v i 1

/-- `n` bytes of the image. -/
def Img.at (m : Img) (off n : Nat) : Nat := bytesAt m.bytes off n

/-- NSEC. -/
def Img.nsec (m : Img) : Nat := m.at 6 2
/-- NLOG: the logical Cabinets, less one. -/
def Img.nlog (m : Img) : Nat := m.at 8 1
/-- LOOKAHEAD. -/
def Img.look (m : Img) : Nat := m.at 12 3
/-- ROUND. -/
def Img.round (m : Img) : Nat := m.at 16 4
/-- FLAGS.LEGACY. -/
def Img.legacy (m : Img) : Bool := (m.at 10 1).testBit 0

/-- A section descriptor (Table 13.4). -/
structure Sec where
  idx  : Nat
  ty   : Nat
  lcab : Nat
  sub  : Nat
  crc  : Nat
  off  : Nat
  len  : Nat
  pad  : Nat
  deriving DecidableEq, Repr

/-- The descriptor of section `i`. -/
def Img.sec (m : Img) (i : Nat) : Sec :=
  let d := m.at (64 + 32 * i) 32
  ⟨i, bytesAt d 0 1, bytesAt d 1 1, bytesAt d 2 2, bytesAt d 4 4, bytesAt d 8 8, bytesAt d 16 8, bytesAt d 24 8⟩

/-- The section table. -/
def Img.secs (m : Img) : List Sec := (List.range m.nsec).map m.sec

/-- The content of a section, as a number; bytes past LENGTH are zero. -/
def Img.content (m : Img) (x : Sec) : Nat := m.at x.off x.len

/-- The first section of a type for a logical Cabinet and a SUB. -/
def Img.find (m : Img) (ty lcab sub : Nat) : Option Sec := m.secs.find? fun x => x.ty = ty && x.lcab = lcab && x.sub = sub

/-- Its content, or zeros. -/
def Img.get (m : Img) (ty lcab sub : Nat) : Nat := match m.find ty lcab sub with | some x => m.content x | none => 0

/-- Its length, or zero. -/
def Img.lenOf (m : Img) (ty lcab sub : Nat) : Nat := match m.find ty lcab sub with | some x => x.len | none => 0

/-- The logical Cabinets of the image. -/
def Img.cabs (m : Img) : List Nat := List.range (m.nlog + 1)

/-- A failed check (R348): the place of its section in the table (0 for the header, the section's index plus one otherwise), the item, the check code,
and the TYPE and LCAB that MB_DETAIL0 shows. -/
structure ImgFail where
  pos  : Nat
  item : Nat
  code : Nat
  ty   : Nat
  lcab : Nat
  deriving DecidableEq, Repr

/-- R348: the failure reported: the first section, then the lowest item; where one item fails two checks the lower code (DESIGN CHOICE, log entry 45). -/
def firstFail (l : List ImgFail) : Option ImgFail :=
  l.foldl (fun a x => match a with
    | none => some x
    | some y => if x.pos < y.pos || (x.pos = y.pos && (x.item < y.item || (x.item = y.item && x.code < y.code))) then some x else some y) none

/-- Failures of one section with one code. -/
def Sec.fails (x : Sec) (code : Nat) (items : List Nat) : List ImgFail := items.map fun i => ⟨x.idx + 1, i, code, x.ty, x.lcab⟩

/-! ### The header -/

/-- The bit of VARIANTS for this part. -/
def Fuses.variant (f : Fuses) : Nat := if f.part = 0x4016 then (if f.gib = 48 then 1 else 0) else if f.part = 0x4012 then 2 else 3

/-- The logical Cabinets of this part (Table 0.1). -/
def Fuses.nlogMax (f : Fuses) : Nat := if f.part = 0x4016 then 256 else if f.part = 0x4012 then 192 else 128

/-- R348: the checks of the header; the item is the byte offset of the field. `len` is the length IMAGE_LOAD names. -/
def State.headerFails (s : State) (m : Img) : List (Nat × Nat) :=
  (if m.at 0 4 ≠ 0x4E525456 then [(0, 0x01)] else []) ++
  (if m.nsec = 0 then [(6, 0x01)] else []) ++
  (if s.fuses.nlogMax ≤ m.nlog then [(8, 0x01)] else []) ++
  (if !(m.at 9 1).testBit s.fuses.variant then [(9, 0x01)] else []) ++
  (if 16 ≤ m.at 9 1 then [(9, 0x03)] else []) ++
  (if m.legacy ≠ s.flag ⟨.dev, 0⟩ 0x04C 8 then [(10, 0x01)] else []) ++
  (if 4 ≤ m.at 10 1 then [(10, 0x03)] else []) ++
  (if m.at 11 1 ≠ 0 then [(11, 0x03)] else []) ++
  (if m.look < 8192 || (15 < m.nlog && m.look < 32768) || (m.legacy && m.look ≠ 32768) then [(12, 0x0A)] else []) ++
  (if m.at 15 1 ≠ 0 then [(15, 0x03)] else []) ++
  (if m.round < 1024 || m.round % 256 ≠ 0 || 2 ^ 20 ≤ m.round then [(16, 0x0A)] else []) ++
  (if m.at 20 8 ≠ m.size then [(20, 0x01)] else []) ++
  (if m.at 28 4 ≠ crc32 (byteList (m.bytes - m.at 28 4 * 256 ^ 28) m.size) then [(28, 0x01)] else []) ++
  (if m.at 32 32 ≠ 0 then [(32, 0x03)] else [])

/-! ### Section descriptors -/

/-- The largest SUB that a type's sections may have. -/
def subMax (ty : Nat) : Nat :=
  if ty = 0x01 || ty = 0x02 || ty = 0x08 then 3 else if ty = 0x0A then 1 else if ty = 0x0C then 15 else if ty = 0x0F then 63 else 0

/-- Is a type's section one of the whole partition (LCAB 0xFF)? -/
def partSec (ty : Nat) : Bool := ty = 0x03 || ty = 0x0C || ty = 0x0F

/-- R347, check 0x02: range, alignment, overlap and CRC of a section. -/
def Img.secBad (m : Img) (x : Sec) : Bool :=
  x.off % 64 ≠ 0 || decide (x.off < 64 + 32 * m.nsec) || decide (m.size < x.off + x.len) ||
  (if partSec x.ty then x.lcab ≠ 0xFF else decide (m.nlog < x.lcab)) || decide (subMax x.ty < x.sub) ||
  m.secs.any (fun y => y.idx ≠ x.idx && decide (x.off < y.off + y.len) && decide (y.off < x.off + x.len)) ||
  x.crc ≠ crc32 (byteList (m.content x) x.len)

/-- R9, check 0x03: a reserved type or a reserved field of a descriptor, by its byte offset. -/
def Sec.reserved (x : Sec) : Bool := x.ty = 0 || decide (0x0F < x.ty) || x.pad ≠ 0

/-! ### Profiles, tables, codebooks and records -/

/-- A register of profile `j` (Table 6.13) in a section's content. -/
def profAt (c j off : Nat) : Nat := bytesAt c (32 * j + off) 4

/-- Does a word have a bit outside a mask? -/
def outside (v mask : Nat) : Bool := v &&& mask ≠ v

/-- R9, R162, R417: does profile `j` fail? Reserved bits fail a profile that is not VALID too. -/
def profileBad (legacy : Bool) (c j : Nat) : Bool :=
  let tau := profAt c j 0
  let cf := profAt c j 4
  let k := nb tau 4 0
  outside tau 0x1F1F1F || outside cf 0xFF01FF || 65535 < profAt c j 0x10 || profAt c j 0x18 ≠ 0 || profAt c j 0x1C ≠ 0 ||
  (cf.testBit 0 && (k < 4 || 20 < k || ofBits (profAt c j 8) 32 < 1)) ||
    (legacy && (k ≠ 15 || profAt c j 0x10 ≠ 0 || cf.testBit 1 || cf.testBit 3 || nb cf 23 16 ≠ 1 || profAt c j 0x14 % 2 ^ 15 ≠ 0))

/-- R15, R164: the items 48m + b of the decay tables from an offset that fail. -/
def tablesBad (c at' : Nat) : List Nat :=
  (List.range (48 * 32)).filter fun i => let v := bytesAt c (at' + 4 * i) 4; 2 ^ 24 < v || (46 ≤ i % 48 && v ≠ 0)

/-- A codebook record in a section's content. -/
def cbRec (c i : Nat) : Nat := bytesAt c (32 * i) 32

/-- CB[0] ≤ … ≤ CB[15]. -/
def cbSorted (r : Nat) : Bool := (List.range 15).all fun i => cbVal r i ≤ cbVal r (i + 1)

/-- R214: does a codebook record fail by itself? -/
def cbBad (r : Nat) : Bool :=
  let e := byteOf r 17
  let f := byteOf r 18
  64 ≤ e || (9 ≤ e && e < 32) || 32 ≤ f || r / 256 ^ 19 ≠ 0 || (f.testBit 4 && !cbSorted r)

/-- R214: may a plastic row use it? -/
def cbPlasticOk (r : Nat) : Bool := (byteOf r 18).testBit 4 && cbSorted r && cbVal r (cbZero r) = 0

/-- A neuron record of the image. -/
def Img.neuron (m : Img) (c n : Nat) : Option Nat :=
  match m.find 0x08 c (n / 8192) with
  | some x => if n % 8192 < x.len / 24 then some (bytesAt (m.content x) (24 * (n % 8192)) 24) else none
  | none => none

/-- R156: does the record fail? -/
def Img.neuronBad (m : Img) (c d r : Nat) : Bool :=
  (4096 ≤ recGroup r && recGroup r ≠ 0xFFFF) || r % 2 ^ 25 ≠ 0 || !(profAt (m.get 0x01 c d) (recProfile r) 4).testBit 0

/-! ### Projections and trees -/

/-- A projection group record of a logical Cabinet. -/
def Img.group (m : Img) (c x : Nat) : Nat := bytesAt (m.get 0x07 c 0) (8 * x) 8
/-- A destination record. -/
def Img.dest (m : Img) (c y : Nat) : Nat := bytesAt (m.get 0x07 c 0) (0x8000 + 8 * y) 8
/-- RLO. -/
def grpLo (g : Nat) : Nat := nb g 14 0
/-- RHI. -/
def grpHi (g : Nat) : Nat := nb g 29 15
/-- The destinations of a group. -/
def grpDests (g : Nat) : List Nat := (List.range (nb g 34 30)).map (nb g 46 35 + ·)
/-- KIND of a destination. -/
def dstKind (d : Nat) : Nat := nb d 63 62
/-- TARGET. -/
def dstTarget (d : Nat) : Nat := nb d 61 42
/-- AXBASE. -/
def dstAxon (d : Nat) : Nat := nb d 41 26

/-- The leaves of a multicast tree (section 0x0F): one logical Cabinet a byte. -/
def Img.leaves (m : Img) (t : Nat) : Option (List Nat) := (m.find 0x0F 0xFF t).map fun x => byteList (m.content x) x.len

/-- The logical Cabinets that a destination reaches. -/
def Img.destCabs (m : Img) (d : Nat) : List Nat :=
  if dstKind d = 0 then [dstTarget d % 256] else if dstKind d = 2 then (m.leaves (dstTarget d)).getD [] else []

/-- The groups of a logical Cabinet that have destinations, with their number. -/
def Img.groups (m : Img) (c : Nat) : List (Nat × Nat) :=
  if (m.find 0x07 c 0).isNone then [] else ((List.range 4096).map fun x => (x, m.group c x)).filter fun g => nb g.2 34 30 ≠ 0

/-- The neurons of Cabinet `c` whose projection reaches an axon of Cabinet `t`: the group and the neuron. -/
def Img.reaches (m : Img) (c t axon : Nat) : List (Nat × Nat) :=
  (m.groups c).flatMap fun g =>
    (grpDests g.2).filterMap fun y =>
      let d := m.dest c y
      let n := grpLo g.2 + axon - dstAxon d
      if (m.destCabs d).contains t && dstAxon d ≤ axon && n ≤ grpHi g.2 then some (g.1, n) else none

/-! ### Channel sections -/

/-- The registers that a channel section sets: page (0 CHIN, 1 CHENC, 2 CHDEC), offset and value, 8 bytes each. -/
def Img.chanRegs (m : Img) (n : Nat) : List (Nat × Nat × Nat) :=
  (List.range (m.lenOf 0x0C 0xFF n / 8)).map fun i =>
    let e := bytesAt (m.get 0x0C 0xFF n) (8 * i) 8
    (bytesAt e 0 2, bytesAt e 2 2, bytesAt e 4 4)

/-- The logical channels of the image. -/
def Img.chans (m : Img) : List Nat := (List.range 16).filter fun n => (m.find 0x0C 0xFF n).isSome

/-- Does the section of a channel set ENABLE? -/
def Img.enables (m : Img) (n : Nat) : Bool := (m.chanRegs n).any fun e => e.1 = 0 && e.2.1 = 0x008 && e.2.2.testBit 0

/-- The page of a channel section's entry. -/
def chanPage (n i : Nat) : Page := if i = 0 then chin n else if i = 1 then chenc n else chdec n

/-- The registers of a channel section written at a physical channel in the section's order, PG_CTRL apart, each by its own rule (R63, R75, R78, R83, R90,
R92, R95; the order is the model's, log entry 45). -/
def State.putChan (s : State) (m : Img) (l n : Nat) : State :=
  (m.chanRegs l).foldl (fun s e => if e.2.1 < 0x040 then s else chanWrite (chanPage n e.1) e.2.1 (BitVec.ofNat 32 e.2.2) s) s

/-- The same registers as bare values, all in force, as the checks of IMAGE_LOAD take them (R118). -/
def State.putChanBare (s : State) (m : Img) (l n : Nat) : State :=
  let s := (m.chanRegs l).foldl (fun s e => if e.2.1 < 0x040 then s else plainWrite (chanPage n e.1) e.2.1 (BitVec.ofNat 32 e.2.2) s) s
  s.setChan n { s.chan n with link := s.linkRegs n
                              tx := { (s.chan n).tx with cfg0 := s.rd (chin n) 0x184, cfg1 := s.rd (chin n) 0x188 } }

/-- R9, R10: the entries of a channel section that name no writable register of its pages, or hold a reserved bit or encoding of one. -/
def Img.chanReserved (m : Img) (l : Nat) : List Nat :=
  ((m.chanRegs l).zipIdx.filter fun x =>
    let e := x.1
    decide (2 < e.1) || match findRow (chanPage 0 e.1).blk e.2.1 with
      | some r => let w := BitVec.ofNat 32 e.2.2; hasReserved w r.fields || writeFields 0 w (r.fields.map fun f => { f with acc := .rw }) ≠ w
      | none => true).map (·.2)

/-- A scratch state with the channel sections of the image in force for partition `k`, on which the checks of R118 and R340 are made. -/
def State.imgScratch (s : State) (k : Nat) (m : Img) : State :=
  let s := s.setCfg k { s.cfg k with look := m.look }
  m.chans.foldl (fun s l =>
    let n := s.physChan l
    ((((s.resetPage (chin n)).resetPage (chenc n)).resetPage (chdec n)).putChanBare m l n).setFld (chin n) 0x028 5 0 k) s

/-- R118: the projection entries of a channel that name a logical Cabinet outside the partition. -/
def State.projOutside (s : State) (n nlog : Nat) : List Nat :=
  (List.range 256).filter fun i => let w := s.rd (chenc n) (0x300 + 4 * i); w.bit 31 && decide (nlog < w.bits 7 0)

/-- The writable register offsets of a block, for the comparison of R87: status, counters and commands apart, and the areas the engine places. The
host's ring pointers and CAL_CFG.ARM are compared too (DESIGN CHOICE, log entry 19). -/
def cfgOffs (b : Block) : List Nat :=
  ((blockRows b).filter fun r => decide (0x040 ≤ r.off) && !r.clears && r.fields.any (fun f => f.acc = .rw)).flatMap fun r =>
    (List.range r.n).map fun i => r.off + r.stride * i

/-- R87: do the configurations of a channel and its partner match? PAIR_CFG.ROLE may differ. -/
def State.pairOk (s : State) (n : Nat) : Bool :=
  let q := s.partner n
  let same (b : Block) (skip : List Nat) := (cfgOffs b).all fun o => skip.contains o || s.rd ⟨b, n⟩ o = s.rd ⟨b, q⟩ o
  s.flag (chin q) 0x1A0 0 && (s.rd (chin n) 0x1A0).setBits 1 1 0 = (s.rd (chin q) 0x1A0).setBits 1 1 0 &&
    s.flag (chin n) 0x1A0 1 ≠ s.flag (chin q) 0x1A0 1 && s.owner (chin n) = s.owner (chin q) &&
    same .chin [0x1A0] && same .chenc [] && same .chdec [0x060, 0x064, 0x06C, 0x070, 0x078, 0x07C]

/-- R339: is a channel the secondary of a pair? -/
def State.isSecondary (s : State) (n : Nat) : Bool := s.flag (chin n) 0x1A0 0 && s.flag (chin n) 0x1A0 1

/-- Table 15.12: what a legacy channel may not set: the units, and the calibration, transmit and pair registers (CHIN 0x0E0 to 0x0FF, 0x180 on). -/
def State.legacyChanBad (s : State) (n : Nat) : List Nat :=
  ((List.range 8).filter fun u =>
    let k := (s.unitRegs n u).1.bits 2 0
    (4 ≤ u && k ≠ 0) || !(k = 0 || k = 1 || k = 5)) ++
  (if (cfgOffs .chin).any fun o => ((0x0E0 ≤ o && o < 0x100) || 0x180 ≤ o) && s.rd (chin n) o ≠ resetWord .chin o then [0xFF] else [])

/-- The encoder, decoder and pair checks of one channel: (item, code). `dest` tells that a KIND 1 destination of the partition names it. -/
def State.chanFails (s : State) (n nlog : Nat) (dest : Bool) : List (Nat × Nat) :=
  (s.encFailures n).map (fun e => (e.2, 0x0F)) ++ (s.projOutside n nlog).map (fun i => (i, 0x0F)) ++
  (s.decFailures n).map (fun l => (l, 0x10)) ++ (if dest && s.isSecondary n then [(0xFF, 0x10)] else []) ++
  (if s.flag (chin n) 0x1A0 0 && !s.pairOk n then [(0, 0x11)] else []) ++
  (if s.legacy then (s.legacyChanBad n).map (fun l => (l, 0x0F)) else [])

/-- Does some KIND 1 destination of the image name a logical channel? -/
def Img.namesChan (m : Img) (l : Nat) : Bool :=
  m.cabs.any fun c => (m.groups c).any fun g => (grpDests g.2).any fun y => dstKind (m.dest c y) = 1 && dstTarget (m.dest c y) = l

/-- Table 4.1: the sub-index of a unit's projection slot. -/
def slotSub (cfg p0 : Word) (q : Nat) : Nat :=
  if cfg.bits 2 0 = 1 then q / 2 + 16 * (q % 2) else if cfg.bits 2 0 = 3 then p0.bits 5 0 + q else q

/-- Can a unit form events in a projection slot: its direction and sub-index are enabled (Table 4.10: DIR, SEL)? -/
def slotForms (cfg p1 : Word) (q : Nat) : Bool :=
  if cfg.bits 2 0 = 1 then p1.bit (4 + q % 2) else if cfg.bits 2 0 = 4 then p1.bit q else true

/-- The sources of channel events at an axon: source ID and type, through the valid entries of the enabled units and the markers. -/
def State.chanReach (s : State) (n c axon : Nat) : List (Nat × Nat) :=
  let hit (i : Nat) : Bool := let w := s.rd (chenc n) (0x300 + 4 * i); i < 256 && w.bit 31 && w.bits 7 0 = c && w.bits 23 8 = axon
  let src := s.srcChan n
  let units := (List.range 8).flatMap fun u =>
    let r := s.unitRegs n u
    let fan := r.2.1.bits 9 8 + 1
    (List.range (slotsUsed r.1 r.2.2.1 r.2.2.2.1)).filterMap fun q =>
      if slotForms r.1 r.2.2.2.1 q && (List.range fan).any fun j => hit (r.2.1.bits 7 0 + q * fan + j) then some (encSource src u (r.1.bits 4 3) (slotSub r.1 r.2.2.1 q), 1) else none
  let mk := s.rd (chenc n) 0x04C
  units ++ (if mk.bit 10 && (List.range (mk.bits 9 8 + 1)).any fun j => hit (mk.bits 7 0 + j) then [(gapSource src, 3)] else [])

/-- The same for all channels of the partition. -/
def State.chansReach (s : State) (m : Img) (c axon : Nat) : List (Nat × Nat) :=
  (m.chans.flatMap fun l => s.chanReach (s.physChan l) c axon).eraseDups

/-! ### Rows -/

/-- The delay of a delay code in the image (section 0x03). -/
def Img.delay (m : Img) (i : Nat) : Nat := if i = 63 then 0 else bytesAt (m.get 0x03 0xFF 0) (4 * i) 4

/-- The directory entry of an axon in section 0x05's content. LINE counts lines from the start of the content, whose first 8,192 are the directory. -/
def imgDir (c axon : Nat) : Nat := bytesAt c (8 * axon) 8
/-- The bytes of the row of a directory entry. -/
def imgRow (c d : Nat) : Nat := bytesAt c (64 * dirRow d) (64 * dirLen d)
/-- Its header. -/
def imgHdr (row : Nat) : RowHdr := rowHdrOf (bytesAt row 0 16)
/-- Its entries. -/
def imgEnts (row : Nat) : List RowEnt :=
  let h := imgHdr row
  (rowEntsFrom ((List.range h.nwords).map fun w => bytesAt row (16 + 2 * w) 2) h.base 0 0 none).take h.nent
/-- Is an entry vacant? -/
def RowEnt.isVacant (e : RowEnt) : Bool := e.dcode = 63

/-- The axons of a Cabinet that have a row. -/
def Img.axons (m : Img) (c : Nat) : List Nat := (List.range (min 65536 (m.lenOf 0x05 c 0 / 8))).filter fun a => dirValid (imgDir (m.get 0x05 c 0) a)

/-- The smallest delay of a row's entries. -/
def Img.rowMin (m : Img) (row : Nat) : Nat := ((imgEnts row).filter fun e => !e.isVacant).foldl (fun a e => min a (m.delay e.dcode)) 0xFFFFFFFF

/-- R198: the DMIN that the image implies for a Cabinet. -/
def Img.dmin (m : Img) (c : Nat) : Nat :=
  (m.axons c).foldl (fun a x => if (m.reaches c c x).isEmpty then a else min a (m.rowMin (imgRow (m.get 0x05 c 0) (imgDir (m.get 0x05 c 0) x)))) 0xFFFFFFFF

/-- R212: does a row break a check of its layout? -/
def Img.rowBad (m : Img) (c axon : Nat) : Bool :=
  let con := m.get 0x05 c 0
  let d := imgDir con axon
  let row := imgRow con d
  let h := imgHdr row
  let es := imgEnts row
  let t := rowTagAt h.nwords
  let last := t + (if h.plastic then 2 * h.nent else 0)
  let vac := es.filter (·.isVacant)
  !rowFits h es d axon || h.plastic ≠ dirPlastic d || h.remote ≠ d.testBit 44 || nb d 62 45 ≠ 0 || (bytesAt row 0 16) % 2 ^ 13 ≠ 0 ||
  es.any (fun e => decide (32767 < e.tgt)) || h.vacant ≠ vac.length || vac.any (fun e => e.code ≠ 0 || e.td = 63) ||
  decide (m.lenOf 0x04 c 0 / 32 < h.cbbase + (h.nent + 32 * 2 ^ h.gsize - 1) / (32 * 2 ^ h.gsize)) ||
  (!h.plastic && (h.vacant ≠ 0 || h.cwbase ≠ 0 || h.cwlog ≠ 0)) ||
  es.any (fun e => e.td = 63 && decide (2 ^ 15 ≤ bytesAt row (16 + 2 * (e.w + 1)) 2)) ||
  bytesAt row (16 + 2 * h.nwords) (t - 16 - 2 * h.nwords) ≠ 0 || bytesAt row last (64 * dirLen d - last) ≠ 0 ||
  (!(m.reaches c c axon).isEmpty && decide (m.rowMin row < bytesAt (m.get 0x0D c 0) 4 4)) || (m.legacy && h.plastic)

/-- R197: does a valid projection entry of a channel of the image name an axon? -/
def State.chanNames (s : State) (m : Img) (c axon : Nat) : Bool :=
  m.chans.any fun l => (List.range 256).any fun i =>
    let w := s.rd (chenc (s.physChan l)) (0x300 + 4 * i)
    w.bit 31 && w.bits 7 0 = c && w.bits 23 8 = axon

/-- R197: is a row remote-reachable, plastic or marked REMOTE, with a delay below L; or, in a legacy image, with a delay that is not a non-zero
multiple of 2^15 (Table 15.12)? `s` is the scratch state. -/
def State.delayBad (s : State) (m : Img) (c axon : Nat) : Bool :=
  let row := imgRow (m.get 0x05 c 0) (imgDir (m.get 0x05 c 0) axon)
  let h := imgHdr row
  let far := h.remote || h.plastic || m.cabs.any (fun o => o ≠ c && !(m.reaches o c axon).isEmpty) || s.chanNames m c axon
  (far && decide (m.rowMin row < m.look)) ||
  (m.legacy && (imgEnts row).any fun e => !e.isVacant && (m.delay e.dcode = 0 || m.delay e.dcode % 2 ^ 15 ≠ 0))

/-- R45, R239: the TRIG_IN pins whose events reach an axon of partition `k`. -/
def State.trigReach (s : State) (k c axon : Nat) : Nat :=
  ((List.range 4).filter fun n =>
    let w := s.rd pTime (0x090 + 0x20 * n)
    s.flag pTime (0x080 + 0x20 * n) 3 && w.bits 5 0 = k && w.bits 13 6 = c && w.bits 31 16 = axon).length

/-- Is a group of a Cabinet one that only EMIT_EVENTS can use: no neuron record names it (DEDUCED, log entry 45)? -/
def Img.graded (m : Img) (o x : Nat) : Bool := !(List.range 32768).any fun n => (m.neuron o n).map recGroup = some x

/-- R276: is an axon reached by graded events and by spikes of one source? Graded events go by the groups that no neuron record names, which only
EMIT_EVENTS can use (DEDUCED, log entry 45). -/
def Img.gradedBad (m : Img) (c axon : Nat) : Bool :=
  m.cabs.any fun o =>
    let l := m.reaches o c axon
    l.any fun e => m.graded o e.1 && l.any fun f => f.2 = e.2 && (m.neuron o f.2).map recGroup = some f.1

/-- R239: does a plastic row break its conditions? The sources are the neurons that project to it, with their spikes or with graded events, the channels'
slots and the TRIG_IN pins. -/
def State.plasticBad (s : State) (k : Nat) (m : Img) (c axon : Nat) : Bool :=
  let row := imgRow (m.get 0x05 c 0) (imgDir (m.get 0x05 c 0) axon)
  let h := imgHdr row
  let cells := (m.cabs.flatMap fun o => (m.reaches o c axon).filterMap fun x =>
    if (m.neuron o x.2).map recGroup = some x.1 then some (o * 32768 + x.2, 0) else if m.graded o x.1 then some (o * 32768 + x.2, 5) else none).eraseDups
  h.plastic &&
    (decide (1 < cells.length + (s.chansReach m c axon).length + s.trigReach k c axon) || bytesAt row (rowTagAt h.nwords) (2 * h.nent) ≠ 0 ||
      (h.cwlog ≠ 0 && decide (32767 < h.cwbase + 2 ^ h.cwlog - 1)))

/-- The codebook records that the plastic rows of a Cabinet use. -/
def Img.plasticCbs (m : Img) (c : Nat) : List Nat :=
  (m.axons c).flatMap fun a =>
    let h := imgHdr (imgRow (m.get 0x05 c 0) (imgDir (m.get 0x05 c 0) a))
    if h.plastic then (List.range ((h.nent + 32 * 2 ^ h.gsize - 1) / (32 * 2 ^ h.gsize))).map (h.cbbase + ·) else []

/-- Does a Cabinet hold a plastic row? -/
def Img.plasticCab (m : Img) (c : Nat) : Bool := (m.axons c).any fun a => (imgHdr (imgRow (m.get 0x05 c 0) (imgDir (m.get 0x05 c 0) a))).plastic

/-- R241: does a learning rule record fail? -/
def Img.ruleBad (m : Img) (r : Nat) : Bool :=
  let tg := nb r 84 80
  let psh := nb r 92 88
  let age := nb r 108 96
  ruleValid r &&
    (tg < 4 || 30 < tg || psh < 4 || 30 < psh || age = 0 || 8191 < age ||
     (r.testBit 130 && (nb r 117 112 = 63 || m.delay (nb r 117 112) < m.look)) ||
     nb r 55 54 ≠ 0 || nb r 63 61 ≠ 0 || nb r 71 69 ≠ 0 || nb r 79 77 ≠ 0 || nb r 87 85 ≠ 0 || nb r 95 93 ≠ 0 || nb r 111 109 ≠ 0 ||
     nb r 119 118 ≠ 0 || nb r 127 124 ≠ 0 || nb r 159 131 ≠ 0 || nb r 511 192 ≠ 0)

/-! ### Projection checks (R225) -/

/-- R146: does a multicast tree belong to another key than `k`? -/
def State.treeTaken (s : State) (k t : Nat) : Bool :=
  (List.range 288).any fun p => let w := s.rd (rtr p) (0x300 + 4 * t); w.bit 31 && w.bits 21 16 ≠ k

/-- Does a destination record fail? `s` is the scratch state. -/
def State.destBad (s : State) (k : Nat) (m : Img) (d span : Nat) : Bool :=
  let t := dstTarget d
  nb d 25 0 ≠ 0 || decide (65535 < dstAxon d + span) ||
  (if dstKind d = 0 then decide (m.nlog < t)
   else if dstKind d = 1 then
     decide (16 ≤ t) || (m.find 0x0C 0xFF t).isNone ||
       (List.range (span + 1)).any fun i => (s.inputUnit (s.physChan t) (dstAxon d + i)).isNone
   else if dstKind d = 2 then decide (64 ≤ t) || (m.leaves t).isNone || s.treeTaken k t
   else dstAxon d ≠ 0 || decide (m.nlog < t / 4096))

/-- Does a group record fail? -/
def Img.groupBad (m : Img) (c x g : Nat) : Bool :=
  decide (grpHi g < grpLo g) || decide (16 < nb g 34 30) || decide (4096 < nb g 46 35 + nb g 34 30) || nb g 63 47 ≠ 0 ||
  (List.range 32768).any fun n => (m.neuron c n).map recGroup = some x && (decide (n < grpLo g) || decide (grpHi g < n))

/-- R225: the neurons of a Drawer whose GROUP names a group, in an image that gives the Cabinet no projection tables: no group holds them. -/
def Img.groupless (m : Img) (c d : Nat) : List Nat :=
  if (m.find 0x07 c 0).isSome then []
  else ((List.range 8192).map (8192 * d + ·)).filter fun n => match m.neuron c n with | some r => recGroup r ≠ 0xFFFF | none => false

/-- The items of section 0x07 that fail: group x, or 4,096 + y for the destination record y of a group. -/
def State.projFails (s : State) (k : Nat) (m : Img) (c : Nat) : List Nat :=
  ((List.range 4096).filter fun x => m.groupBad c x (m.group c x)) ++
  ((m.groups c).flatMap fun g => (grpDests g.2).filter fun y => s.destBad k m (m.dest c y) (grpHi g.2 - grpLo g.2)).map (4096 + ·) ++
  ((List.range 4096).filter fun y => s.destBad k m (m.dest c y) 0).map (4096 + ·)

/-! ### The general shared area, queues, horizon values -/

/-- PGT_BASE and PIN_BASE of section 0x07, behind the tables and the pins. -/
def Img.pgtBase (m : Img) (c : Nat) : Nat := bytesAt (m.get 0x07 c 0) 0x11000 4
/-- PIN_BASE. -/
def Img.pinBase (m : Img) (c : Nat) : Nat := bytesAt (m.get 0x07 c 0) 0x11004 4

/-- Section 0x09: RESET_PC, the number of relocations, the relocations, and the content. -/
def sharedRelocs (c : Nat) : Nat := bytesAt c 4 4
/-- A relocation list entry. -/
def sharedReloc (c i : Nat) : Nat := bytesAt c (8 + 8 * i) 8
/-- Where the content starts in the section. -/
def sharedAt (c : Nat) : Nat := 8 + 8 * sharedRelocs c

/-- Section 0x0B: the numbers of contexts and of multicast members, the contexts (queue, CTX0 to CTX3) and the members (64 · group + entry, MC word). -/
def queueRecs (c : Nat) : List (Nat × QCtx) :=
  (List.range (bytesAt c 0 4)).map fun i => (bytesAt c (8 + 20 * i) 4, QCtx.unpack (bytesAt c (12 + 20 * i) 16) false)
/-- R9: the local queues whose context has a reserved bit set (Table 11.4), and 4,096 + 64 · group + entry of the members that have one. -/
def queueReserved (c : Nat) : List Nat :=
  ((List.range (bytesAt c 0 4)).filter fun i => nb (bytesAt c (12 + 20 * i) 16) 127 104 ≠ 0).map (fun i => bytesAt c (8 + 20 * i) 4) ++
  ((List.range (bytesAt c 4 4)).filter fun i => outside (bytesAt c (12 + 20 * bytesAt c 0 4 + 8 * i) 4) 0x800FFFFF).map
    fun i => 4096 + bytesAt c (8 + 20 * bytesAt c 0 4 + 8 * i) 4
/-- The multicast members. -/
def memberRecs (c : Nat) : List (Nat × Nat) :=
  (List.range (bytesAt c 4 4)).map fun i => let a := 8 + 20 * bytesAt c 0 4 + 8 * i; (bytesAt c a 4, bytesAt c (a + 4) 4)

/-- Section 0x0D: STEP, DMIN, NSRC, CORE_CFG, LDQ_SIZE and LDQ_BASE, four bytes each. -/
def hznVal (c i : Nat) : Nat := bytesAt c (4 * i) 4

/-- R281: the structures of the general shared area of a Cabinet: section, start and length. -/
def Img.shared (m : Img) (c : Nat) : List (Sec × Nat × Nat) :=
  (match m.find 0x07 c 0 with | some x => [(x, m.pgtBase c, 0x20000), (x, m.pinBase c, 0x2000)] | none => []) ++
  (match m.find 0x0D c 0 with | some x => [(x, hznVal (m.content x) 5, 16 * 2 ^ hznVal (m.content x) 4)] | none => []) ++
  (match m.find 0x0B c 0 with
   | some x => ((queueRecs (m.content x)).filter fun q => q.2.loc = 1).map fun q => (x, q.2.base * 32, 32 * q.2.size)
   | none => []) ++
  (match m.find 0x09 c 0 with | some x => [(x, 0x370000, x.len - sharedAt (m.content x))] | none => [])

/-- R281: does a structure leave the area or overlap another? -/
def Img.sharedFails (m : Img) (c : Nat) : List ImgFail :=
  let l := m.shared c
  l.zipIdx.flatMap fun e =>
    let x := e.1
    let bad := decide (x.2.1 < 0x370000) || decide (0x400000 < x.2.1 + x.2.2) ||
      l.zipIdx.any fun f => f.2 ≠ e.2 && decide (x.2.1 < f.1.2.1 + f.1.2.2) && decide (f.1.2.1 < x.2.1 + x.2.2)
    if bad then x.1.fails 0x0E [x.2.1] else []

/-- R295: the local queues whose context fails the conditions of Table 11.5. -/
def queueFails (k c : Nat) : List Nat :=
  let l := queueRecs c
  (l.zipIdx.filter fun e =>
    let q := e.1
    decide (4096 ≤ q.1) || q.2.owner ≠ k || !q.2.createOk k ((l.zipIdx.filter fun f => f.2 < e.2).map fun f => { f.1.2 with v := true }) ||
      l.zipIdx.any fun f => f.2 < e.2 && f.1.1 = q.1).map (·.1.1)

/-- R198: NSRC as the image alone implies it. -/
def Img.nsrc (m : Img) : Nat := m.nlog + 1 + (m.chans.filter m.enables).length + b2n m.legacy

/-- R198: the register offsets of STEP, DMIN and NSRC that differ from what the image implies. -/
def Img.hznFails (m : Img) (c con : Nat) : List Nat :=
  let step := hznVal con 0
  let dmin := m.dmin c
  (if step = 4 || (5 ≤ step && step ≤ 20 && 2 ^ step ≤ dmin && !m.plasticCab c) then [] else [0x04C]) ++
  (if hznVal con 1 = dmin then [] else [0x050]) ++
  (if hznVal con 2 = m.nsrc || hznVal con 2 = m.nsrc + 1 then [] else [0x054])

/-! ### All checks -/

/-- A word of a logical Cabinet's placement hints (Table 13.8). -/
def Img.hint (m : Img) (c off : Nat) : Nat := bytesAt (m.get 0x0E c 0) off 4

/-- The expected events per ms from one logical Cabinet to another: the list behind the hint record holds one rate for each destination. -/
def Img.rate (m : Img) (a b : Nat) : Nat := m.hint a (64 + 4 * b)

/-- Table 13.8: may the logical Cabinet be parked? -/
def Img.parkable (m : Img) (c : Nat) : Bool := (m.at 10 1).testBit 1 || (bytesAt (m.get 0x0E c 0) 24 1).testBit 0

/-- 4.1 MiB, rounded up to whole lines. -/
def ckptBytes : Nat := 4299200

/-- The smallest exponent from 20 to 30 whose power holds `n` bytes (SPILL_SIZE). -/
def spillLog (n : Nat) : Nat := ((List.range' 20 11).find? fun e => decide (n ≤ 2 ^ e)).getD 30

/-- SPILL_SIZE of a logical Cabinet. -/
def Img.spillLog (m : Img) (c : Nat) : Nat := Machine.spillLog (16 * m.hint c 20)

/-- R187, R357: the bytes by which the expected peaks of the long-delay spill exceed the largest spill area. -/
def Img.spillOver (m : Img) : Nat := (m.cabs.map fun c => 16 * m.hint c 20 - 2 ^ 30).foldl (· + ·) 0

/-- A register value that a channel's section sets. -/
def Img.chanVal (m : Img) (l page off : Nat) : Nat := (((m.chanRegs l).filter fun e => e.1 = page && e.2.1 = off).getLast?.map (·.2.2)).getD 0

/-- The extent of the stack-resident queues of a logical Cabinet: their BASE counts from the start of its queue area. -/
def Img.queueBytes (m : Img) (c : Nat) : Nat :=
  ((queueRecs (m.get 0x0B c 0)).filter fun q => q.2.loc = 0).foldl (fun a q => max a (q.2.base * 32 + 32 * q.2.size)) 0

/-- R357, R429: the areas a partition needs: the logical Cabinet, or 256 and the channel, the use, the region kind (Table 14.2) and the bytes. Uses: 0
directory, learning block and rows; 1 codebooks; 2 journal; 3 and 4 checkpoints; 5 and 6 spill; 7 queues; 8 park area; 9 to 11 the log, presentation
and delay areas of a channel. -/
def Img.areas (m : Img) (prot : Bool) : List (Nat × Nat × Nat × Nat) :=
  let lines (n : Nat) : Nat := (n + 63) / 64 * 64
  (m.cabs.flatMap fun c =>
    [(c, 0, 1, 64 * 8305 + lines (m.lenOf 0x05 c 0 - 524288))] ++
    (if m.lenOf 0x04 c 0 = 0 then [] else [(c, 1, 1, lines (m.lenOf 0x04 c 0))]) ++
    (if prot then [(c, 2, 3, 2 ^ 26), (c, 3, 4, ckptBytes), (c, 4, 4, ckptBytes)] else []) ++
    [(c, 5, 5, 2 ^ m.spillLog c)] ++ (if prot then [(c, 6, 5, 2 ^ m.spillLog c)] else []) ++
    (if m.queueBytes c = 0 then [] else [(c, 7, 7, lines (m.queueBytes c))]) ++
    (if m.parkable c then [(c, 8, 7, ckptBytes)] else [])) ++
  (m.chans.flatMap fun l =>
    [(9, 0x068), (10, 0x074), (11, 0x080)].filterMap fun u =>
      if m.chanVal l 2 u.2 % 32 = 0 then none else some (256 + l, u.1, 6, 2 ^ (m.chanVal l 2 u.2 % 32)))

/-- The memory regions that the image requests, as the region index of a relocation counts them: the areas of R357 in that order. -/
def Img.requests (m : Img) (prot : Bool) : Nat := (m.areas prot).length

/-- R348: the failures of one section's content. -/
def State.contentFails (s : State) (k : Nat) (m : Img) (x : Sec) : List ImgFail :=
  let c := m.content x
  if x.ty = 0x01 then x.fails 0x06 ((List.range 16).filter (profileBad m.legacy c))
  else if x.ty = 0x02 then x.fails 0x04 (tablesBad c 0)
  else if x.ty = 0x03 then (if bytesAt c 252 4 ≠ 0 then x.fails 0x03 [63] else [])
  else if x.ty = 0x04 then
    let used := m.plasticCbs x.lcab
    x.fails 0x08 ((List.range (x.len / 32)).filter fun i => cbBad (cbRec c i) || (used.contains i && !cbPlasticOk (cbRec c i)))
  else if x.ty = 0x05 then
    let l := m.axons x.lcab
    x.fails 0x07 ((List.range (min 65536 (x.len / 8))).filter fun a => nb (imgDir c a) 62 45 ≠ 0) ++ x.fails 0x07 (l.filter fun a => m.rowBad x.lcab a) ++ x.fails 0x09 (l.filter fun a => s.delayBad m x.lcab a) ++
      x.fails 0x0C (l.filter fun a => s.plasticBad k m x.lcab a) ++
      x.fails 0x0D (l.filter fun a => m.gradedBad x.lcab a)
  else if x.ty = 0x06 then
    x.fails 0x0C ((List.range 16).filter fun p => m.ruleBad (bytesAt c (64 * p) 64)) ++ x.fails 0x04 (tablesBad c (64 * 17)) ++
    (if bytesAt c (64 * 16 + 44) 20 ≠ 0 then x.fails 0x03 [64 * 16 + 44] else [])
  else if x.ty = 0x07 then
    x.fails 0x0B (s.projFails k m x.lcab) ++
    x.fails 0x03 (((List.range 1024).filter fun z => nb (bytesAt c (0x10000 + 4 * z) 4) 30 16 ≠ 0).map (8192 + ·)) ++
    x.fails 0x03 ([0x11000, 0x11004].filter fun o => bytesAt c o 4 % 16 ≠ 0)
  else if x.ty = 0x08 then
    x.fails 0x05 (((List.range (min 8192 (x.len / 24))).filter fun i => m.neuronBad x.lcab x.sub (bytesAt c (24 * i) 24)).map (8192 * x.sub + ·)) ++
    x.fails 0x0B (m.groupless x.lcab x.sub)
  else if x.ty = 0x09 then
    (if bytesAt c 0 4 < 0x370000 || 0x400000 ≤ bytesAt c 0 4 || bytesAt c 0 4 % 2 ≠ 0 then x.fails 0x0E [bytesAt c 0 4] else []) ++
    x.fails 0x03 ((List.range (sharedRelocs c)).filter fun i => nb (sharedReloc c i) 63 40 ≠ 0) ++
    x.fails 0x12 ((List.range (sharedRelocs c)).filter fun i => m.requests (s.cfg k).prot ≤ nb (sharedReloc c i) 39 32 || x.len < sharedAt c + nb (sharedReloc c i) 31 0 + 8)
  else if x.ty = 0x0A then (if 0x89400 < x.len then x.fails 0x02 [x.off] else []) ++
    x.fails 0x03 (((List.range 4096).filter fun e => nb (bytesAt c (0x81000 + 8 * e) 8) 31 22 ≠ 0).map (0x81000 + 8 * ·))
  else if x.ty = 0x0B then x.fails 0x13 (queueFails k c) ++ x.fails 0x03 (queueReserved c)
  else if x.ty = 0x0C then
    x.fails 0x03 (m.chanReserved x.sub) ++ (s.chanFails (s.physChan x.sub) m.nlog (m.namesChan x.sub)).flatMap fun e => x.fails e.2 [e.1]
  else if x.ty = 0x0D then x.fails 0x0A (m.hznFails x.lcab c) ++ (if hznVal c 4 < 8 || 15 < hznVal c 4 then x.fails 0x03 [0x0A4] else []) ++
    (if 1 < hznVal c 3 then x.fails 0x03 [0x070] else []) ++ (if hznVal c 5 % 16 ≠ 0 then x.fails 0x03 [0x0A0] else [])
  else if x.ty = 0x0E then
    (if 2 ≤ bytesAt c 24 1 then x.fails 0x03 [24] else []) ++ (if bytesAt c 25 39 ≠ 0 then x.fails 0x03 [25] else [])
  else if x.ty = 0x0F then x.fails 0x0B ((List.range x.len).filter fun i => decide (m.nlog < bytesAt c i 1) || s.treeTaken k x.sub)
  else []

/-- R198: a Cabinet without horizon values has none that the image implies. -/
def Img.hznMissing (m : Img) : List ImgFail :=
  (m.cabs.filter fun c => (m.find 0x0D c 0).isNone).map fun c => ⟨m.nsec + 1, 0x04C, 0x0A, 0x0D, c⟩

/-- R348: the first failed check of an image, its header first. -/
def State.imageFail (s : State) (k : Nat) (m : Img) : Option ImgFail :=
  match s.headerFails m with
  | e :: _ => some ⟨0, e.1, e.2, 0, 0⟩
  | [] =>
    let t := s.imgScratch k m
    firstFail ((m.secs.flatMap fun x =>
      if m.secBad x then x.fails 0x02 [x.off] else if x.reserved then x.fails 0x03 [64 + 32 * x.idx]
      else t.contentFails k m x ++ (if x.ty = 0x07 || x.ty = 0x09 || x.ty = 0x0B || x.ty = 0x0D then (m.sharedFails x.lcab).filter (·.pos = x.idx + 1) else []))
      ++ m.hznMissing)

/-- MB_DETAIL0 of a failed check. -/
def ImgFail.detail (f : ImgFail) : Nat := f.code + f.ty * 2 ^ 8 + f.lcab * 2 ^ 16

end Sys2Proof.Machine
end

