-- ==== Sys2Proof/Machine/Placement.lean ====
section
/-!
DEFINITION. Placement.lean: what the placement engine decides: positions and regions (R344, R357), the trees, key masks and shares (R146, R147, R354), and
admission (R355, R356). The choices that R344 to R356 leave to the engine are the model's (DESIGN CHOICE, log entry 46).
-/

namespace Sys2Proof.Machine

/-! ### Positions -/

/-- The logical columns of a row: its positions but for its two spares. -/
def State.rowColumns (s : State) (r : Nat) : List Nat := ((List.range 18).map (18 * r + ·)).filter fun p => !s.boot.spareSet.testBit p

/-- May a partition be placed at a position: healthy, of no partition and no spare? -/
def State.placeable (s : State) (p : Nat) : Bool := s.spare p && !s.boot.spareSet.testBit p

/-- R344, rule 2: the position sets in which a partition of `n` Cabinets may be placed. -/
def State.blocks (s : State) (n : Nat) : List (List Nat) :=
  if 16 < n then [(List.range 288).filter s.placeable]
  else (List.range 13).flatMap fun r => (List.range 13).map fun c =>
    ((List.range 4).flatMap fun i => ((s.rowColumns (r + i)).drop c).take 4).filter s.placeable

/-- The sum of rate × hops between a logical Cabinet at a position and those already placed. -/
def placeCost (rate : Nat → Nat → Nat) (c p : Nat) (acc : List (Nat × Nat)) : Nat := acc.foldl (fun a x => a + (rate c x.1 + rate x.1 c) * hops p x.2) 0

/-- R344, rule 3: the cheapest placement of the logical Cabinets of a list on the positions of a list: its cost and its positions in the order of the
logical Cabinets, the lexicographically lowest of those with the lowest cost. -/
def searchPlace (rate : Nat → Nat → Nat) (ps : List Nat) : List Nat → List (Nat × Nat) → Option (Nat × List Nat)
  | [], _ => some (0, [])
  | c :: cs, acc =>
    ps.foldl (fun best p =>
      if acc.any (·.2 = p) then best
      else match searchPlace rate ps cs (acc ++ [(c, p)]) with
        | none => best
        | some r =>
          let w := r.1 + placeCost rate c p acc
          match best with
          | some b => if w < b.1 then some (w, p :: r.2) else best
          | none => some (w, p :: r.2)) none

/-- Is a list lexicographically below another? -/
def lexLt : List Nat → List Nat → Bool
  | [], [] => false
  | [], _ :: _ => true
  | _ :: _, [] => false
  | a :: as, b :: bs => decide (a < b) || (a = b && lexLt as bs)

/-- R344: the positions of the logical Cabinets of an image, in order; none where they do not fit. At least eight healthy spares stay. -/
def State.placeFor (s : State) (m : Img) (rate : Nat → Nat → Nat) : Option (List Nat) :=
  let n := m.nlog + 1
  if s.spares.length < n + 8 then none
  else
    ((s.blocks n).foldl (fun (best : Option (Nat × List Nat)) ps =>
      if ps.length < n then best
      else match searchPlace rate ps m.cabs [] with
        | none => best
        | some r =>
          match best with
          | some b => if r.1 < b.1 || (r.1 = b.1 && lexLt r.2 b.2) then some r else best
          | none => some r) none).map (·.2)

/-- R357: the positions that an image lacks. -/
def State.lacking (s : State) (m : Img) : Nat := max 1 (m.nlog + 1 + 8 - s.spares.length)

/-! ### Regions -/

/-- A region that the engine has set aside: stack, number, kind, bytes used, the logical Cabinet it serves (256 for a channel) and its mirror. -/
structure Allot where
  st   : Nat
  r    : Nat
  kind : Nat
  used : Nat
  cab  : Nat
  mir  : Option (Nat × Nat)
  deriving DecidableEq, Repr

/-- Is a region free, and not among those set aside? -/
def State.regionFree (s : State) (acc : List Allot) (h r : Nat) : Bool :=
  (s.freeRegions h).contains r && !acc.any fun a => (a.st = h && a.r = r) || a.mir = some (h, r)

/-- R380: has the stack no retired pseudo-channel? -/
def State.cleanStack (s : State) (h : Nat) : Bool := s.healthyPcs h = 32

/-- The lowest-numbered run of `n` free regions of a stack. -/
def State.freeRun (s : State) (acc : List Allot) (h n : Nat) : Option Nat :=
  s.regions.find? fun r => (List.range n).all fun i => s.regionFree acc h (r + i)

/-- The run of regions in another stack that mirrors `n` regions of stack `h` (R344, R377): the first stack of the order that has one. -/
def State.mirrorRun (s : State) (acc : List Allot) (order : List Nat) (h n : Nat) : Option (Nat × Nat) :=
  order.findSome? fun g => if g = h || !(s.cleanStack g || s.cleanStack h) then none else (s.freeRun acc g n).map fun r => (g, r)

/-- R357: room for an area of a kind in one stack: in a region of that kind set aside already, or in new ones. -/
def State.allotIn (s : State) (acc : List Allot) (order : List Nat) (mirror : Bool) (cab kind bytes h : Nat) : Option (Nat × List Allot) :=
  match acc.find? fun a => a.st = h && a.kind = kind && decide (a.used + bytes ≤ 2 ^ 30) with
  | some a => some (h * 2 ^ 35 + a.r * 2 ^ 30 + a.used, acc.map fun b => if b = a then { a with used := a.used + bytes } else b)
  | none =>
    let n := (bytes + 2 ^ 30 - 1) / 2 ^ 30
    match s.freeRun acc h n with
    | none => none
    | some r =>
      let new (mir : Option (Nat × Nat)) : List Allot := (List.range n).map fun i =>
        ⟨h, r + i, kind, if i + 1 = n then bytes - i * 2 ^ 30 else 2 ^ 30, cab, mir.map fun x => (x.1, x.2 + i)⟩
      if mirror then (s.mirrorRun acc order h n).map fun x => (h * 2 ^ 35 + r * 2 ^ 30, acc ++ new (some x))
      else if s.cleanStack h then some (h * 2 ^ 35 + r * 2 ^ 30, acc ++ new none) else none

/-- R357: the areas of a partition, placed one after another: (Cabinet or channel, use, base, bytes), the regions set aside, and the bytes that found no
room. -/
def State.allotAll (s : State) (prot : Bool) (pos : Nat → Nat) :
    List (Nat × Nat × Nat × Nat) → List Allot → List (Nat × Nat × Nat × Nat) × List Allot × Nat
  | [], acc => ([], acc, 0)
  | (c, use, kind, bytes) :: rest, acc =>
    let order := s.stackOrder (pos c)
    let mirror := prot && (kind = 1 || kind = 3 || kind = 4)
    match order.findSome? (s.allotIn acc order mirror (min c 256) kind bytes) with
    | some x => let t := s.allotAll prot pos rest x.2; ((c, use, x.1, bytes) :: t.1, t.2.1, t.2.2)
    | none => let t := s.allotAll prot pos rest acc; (t.1, t.2.1, t.2.2 + bytes)

/-- REG_CFG of an allotted region: HASH and SLOT stay. -/
def regWord (old : Word) (k kind : Nat) (mir : Option (Nat × Nat)) (primary : Bool) : Word :=
  let w := ((old.setBits 5 0 k).setBits 9 6 kind).setBits 31 31 1
  match mir with
  | some x => ((w.setBits 18 17 x.1).setBits 23 19 x.2).setBits 24 24 (b2n primary)
  | none => (w.setBits 23 17 0).setBits 25 24 0

/-- R372, R380: a region is allotted: its entry, DEGRADED where a mirrored region's stack has a retired pseudo-channel, and its key. -/
def State.putRegion (s : State) (h r : Nat) (w : Word) : State :=
  (s.wr (hut1 h) (0x100 + 8 * r) (w.setBits 25 25 (b2n (w.bit 24 && s.healthyPcs h ≠ 32)))).wr (hut1 h) (0x104 + 8 * r) (s.boot.hashKey.setBits 31 31 0)

/-- The regions set aside become the partition's. -/
def State.takeRegions (s : State) (k : Nat) (l : List Allot) : State :=
  l.foldl (fun s a =>
    let s := s.putRegion a.st a.r (regWord (s.regCfg a.st a.r) k a.kind a.mir true)
    match a.mir with
    | some x => s.putRegion x.1 x.2 (regWord (s.regCfg x.1 x.2) k 2 (some (a.st, a.r)) false)
    | none => s) s

/-- A partition's regions are free again. -/
def State.freePartRegions (s : State) (k : Nat) : State :=
  (List.range 4).foldl (fun s h => s.regions.foldl (fun s r =>
    let w := s.regCfg h r
    if w.bit 31 && w.bits 5 0 = k && decide (w.bits 9 6 < 8) then s.wr (hut1 h) (0x100 + 8 * r) ((w.setBits 9 0 0).setBits 31 17 0) else s) s) s

/-! ### Trees, masks and shares -/

/-- The links of the XY path from a router to a router: (router, output port). -/
def xyPath (q : Nat) : Nat → Nat → List (Nat × Nat)
  | 0, _ => []
  | n + 1, p =>
    if p = q then []
    else
      let o := outPort p q 0 true
      match neighbour p o with
      | some x => (p, o) :: xyPath q n x.1
      | none => []

/-- Where an endpoint hangs: its router and the port to it. -/
def endAt (e : Nat) : Nat × Nat := if isCab e then (e, 0) else (evAttach e).getD (0, 4)

/-- R146: the ports of a tree with XY paths from a root router to leaf endpoints: (router, port), each link at both its ends. -/
def treePorts (root : Nat) (leaves : List Nat) : List (Nat × Nat) :=
  (leaves.flatMap fun e =>
    let a := endAt e
    a :: (xyPath a.1 34 root).flatMap fun l => match neighbour l.1 l.2 with | some x => [l, x] | none => [l]).eraseDups

/-- R144 to R148: the ports on which the routers of a tree send a reduction upward: (router, port towards the root). -/
def treeUps (root : Nat) (leaves : List Nat) : List (Nat × Nat) :=
  (root, 0) :: (leaves.flatMap fun e => (xyPath (endAt e).1 34 root).filterMap fun l => neighbour l.1 l.2).eraseDups

/-- TREE_k of every router: the broadcast tree and the reduction tree of a partition. The Bureau, which sends on it, stands on the tree also where it is
no leaf. -/
def State.setTree (s : State) (k root : Nat) (leaves : List Nat) : State :=
  let o := 0x200 + 4 * k
  let ports := (treePorts root (0x161 :: leaves)).filter fun x => x ≠ endAt 0x161 || leaves.contains 0x161
  let s := (List.range 288).foldl (fun s p => s.wr (rtr p) o 0x700) s
  let s := ports.foldl (fun s x => s.setFlag (rtr x.1) o x.2 true) s
  let s := (treeUps root (0x161 :: leaves)).foldl (fun s x => s.setFld (rtr x.1) o 10 8 x.2) s
  { s with leaves := SMap.set (fun _ => 0) s.leaves (4096 + k) leaves.length }

/-- A multicast tree: its port sets hold every Cabinet of the partition, which may inject on it, and its local ports the leaves. -/
def State.setMcast (s : State) (k t root : Nat) (cabs leaves : List Nat) : State :=
  let o := 0x300 + 4 * t
  let ports := (treePorts root cabs).filter fun x => x.2 ≠ 0 || leaves.contains x.1
  let routers := (treePorts root cabs).map (·.1)
  let s := routers.foldl (fun s p => s.wr (rtr p) o (BitVec.ofNat 32 (k % 64 * 2 ^ 16 + 2 ^ 31))) s
  let s := ports.foldl (fun s x => s.setFlag (rtr x.1) o x.2 true) s
  { s with leaves := SMap.set (fun _ => 0) s.leaves (64 * k + t) leaves.length }

/-- The smallest rectangle of routers that holds some routers. -/
def rectangle (l : List Nat) : List Nat :=
  match l with
  | [] => []
  | a :: _ =>
    let r0 := l.foldl (fun m p => min m (p / 18)) (a / 18)
    let r1 := l.foldl (fun m p => max m (p / 18)) (a / 18)
    let c0 := l.foldl (fun m p => min m (p % 18)) (a % 18)
    let c1 := l.foldl (fun m p => max m (p % 18)) (a % 18)
    (List.range 288).filter fun p => decide (r0 ≤ p / 18) && decide (p / 18 ≤ r1) && decide (c0 ≤ p % 18) && decide (p % 18 ≤ c1)

/-- R140: a partition's bit in the key masks of some ports. -/
def State.setMask (s : State) (base k : Nat) (ports : List (Nat × Nat)) (b : Bool) : State :=
  ports.foldl (fun s x => s.setFlag (rtr x.1) (base + 8 * x.2 + 4 * (k / 32)) (k % 32) b) s

/-- Every port of every router. -/
def allPorts : List (Nat × Nat) := (List.range 288).flatMap fun p => (List.range 5).map fun i => (p, i)

/-- The ports of the links between the routers of a list: every minimal path between routers lies in the rectangle they span. -/
def linkPorts (routers : List Nat) : List (Nat × Nat) :=
  routers.flatMap fun p => (List.range' 1 4).filterMap fun i =>
    match neighbour p i with
    | some x => if routers.contains x.1 then some (p, i) else none
    | none => none

/-- The endpoints of a partition on its broadcast tree: its Cabinets, its channels, the Timekeeper while it is a source, and the Bureau in legacy mode
or while a Cabinet is parked. -/
def State.members (s : State) (k : Nat) : List Nat :=
  ((List.range 256).filterMap fun c => let m := s.mapEntry k c; if m.valid && !m.parked then some m.phys else none) ++
  (((List.range 16).filter fun n => s.owner (chin n) = k && s.chanOn n).map (0x120 + ·)) ++
  (if s.trigSource k then [0x160] else []) ++ (if s.legacy || s.parkedCount k ≠ 0 then [0x161] else [])

/-- The stacks that hold areas of a partition. -/
def State.partStacks (s : State) (k : Nat) : List Nat := ((s.cfg k).areas.map fun a => stackOf a.2.2.1).eraseDups

/-- The position of the lowest logical Cabinet that has one: the root of the partition's trees (DESIGN CHOICE, log entry 46). -/
def State.rootOf (s : State) (k : Nat) : Nat :=
  ((List.range 256).findSome? fun c => let m := s.mapEntry k c; if m.valid && !m.parked then some m.phys else none).getD 0

/-- The key masks and trees of a partition follow its map. R140: its key passes the ports of its endpoints, of the Hutch ports whose answers it takes and
of the Bureau, which acts for it, and every link between them; `extra` are positions to include beside (Table 13.9, step 1). -/
def State.connect (s : State) (k : Nat) (extra : List Nat) : State :=
  let m : Img := ⟨(s.cfg k).image, (s.cfg k).size⟩
  let ends := s.members k ++ extra
  let routers := (0x161 :: ends).map fun e => (endAt e).1
  let root := s.rootOf k
  let memEnds := (((0x161 :: ends).filter memDestValid).map (homeOf true)) ++ (s.partStacks k).flatMap fun h => (List.range 8).map fun i => homeOf true (0x140 + 8 * h + i)
  let s := (s.setMask 0x080 k allPorts false).setMask 0x0C0 k allPorts false
  let s := (s.setMask 0x080 k (linkPorts (rectangle routers) ++ (0x161 :: ends).map endAt) true).setMask 0x0C0 k
    (linkPorts (rectangle (memEnds.map (·.1))) ++ memEnds) true
  let s := s.setTree k root ends
  let phys (c : Nat) : List Nat := let e := s.mapEntry k c; if e.valid && !e.parked then [e.phys] else []
  (List.range 64).foldl (fun s t => match m.leaves t with
    | some l => s.setMcast k t root (ends.filter isCab) (l.eraseDups.flatMap phys)
    | none => s) s

/-- R354, R141: SHARE_k in every router. Assured partitions are SCHEDULED on the event mesh. -/
def State.setShares (s : State) (k : Nat) : State :=
  let c := s.cfg k
  let w := BitVec.ofNat 32 (c.ew % 256 + c.mw * c.short / 256 % 256 * 2 ^ 8 + (if c.cls = 0 then 1 else c.emode % 4) * 2 ^ 16 + c.mmode % 4 * 2 ^ 18 +
    c.burst % 32 * 2 ^ 20)
  (List.range 288).foldl (fun s p => s.shareWrite p (0x100 + 4 * k) w) s

/-- A partition leaves the routers: its trees, masks and shares. -/
def State.disconnect (s : State) (k : Nat) : State :=
  let s := (s.setMask 0x080 k allPorts false).setMask 0x0C0 k allPorts false
  (List.range 288).foldl (fun s p =>
    let s := ((s.settleShare p k).wr (rtr p) (0x200 + 4 * k) 0x700).wr (rtr p) (0x100 + 4 * k) 0x400000
    (List.range 64).foldl (fun s t => if s.fld (rtr p) (0x300 + 4 * t) 21 16 = k then s.wr (rtr p) (0x300 + 4 * t) 0 else s) s) s

/-! ### Admission -/

/-- R355: G_k,s in bytes per second. -/
def State.guaranteeOf (s : State) (k : Nat) (m : Img) (h : Nat) : Nat :=
  let f := s.cfg k
  let at' (c use : Nat) : Bool := match s.areaOf k c use with | some a => stackOf a = h | none => false
  m.cabs.foldl (fun g c =>
    g + (if at' c 0 then 1000000 * (m.hint c 4 + m.hint c 12 + m.hint c 8 * (if f.prot then 2 else 1)) else 0) +
      (if f.prot && at' c 2 then 16 * 1000 * m.cabs.foldl (fun r a => r + m.rate a c) 0 else 0) +
      (if f.prot && at' c 3 then (4299162 * 32000000000 + f.period - 1) / f.period else 0)) 0

/-- R355: what a stack lacks, in bytes per second, when partition `k` is admitted beside the running ones with these guarantees. -/
def State.stackExcess (s : State) (k : Nat) (g : List Nat) (h : Nat) : Nat :=
  let sum := ((s.runningParts.filter (· ≠ k)).map fun j => s.guarantee j h).foldl (· + ·) 0 + g.getD h 0
  (sum * 256 - s.stackBw h * 1000000000 * 248 + 255) / 256

/-- R355: MW_k. -/
def State.mwOf (s : State) (g : List Nat) : Nat :=
  (List.range 4).foldl (fun a h =>
    let b := s.stackBw h * 1000000000
    max a (if g.getD h 0 = 0 || b = 0 then 0 else (256 * g.getD h 0 + b - 1) / b)) 1

/-- The flows of a partition on the event mesh: source router, destination router and flits per second. -/
def Img.flows (m : Img) (rate : Nat → Nat → Nat) (pos : Nat → Option Nat) (root : Nat) : List (Nat × Nat × Nat) :=
  (m.cabs.flatMap fun a => m.cabs.filterMap fun b => match pos a, pos b with
    | some p, some q => if rate a b = 0 || p = q then none else some (p, q, 1000 * rate a b)
    | _, _ => none) ++
  m.cabs.filterMap fun c => (pos c).map fun p => (p, root, 1000000 * m.hint c 16)

/-- The load of some flows on a link. -/
def linkLoad (flows : List (Nat × Nat × Nat)) (l : Nat × Nat) : Nat :=
  flows.foldl (fun a f => if f.2.2 ≠ 0 && (xyPath f.2.1 34 f.1).contains l then a + f.2.2 else a) 0

/-- The links of some flows. -/
def flowLinks (flows : List (Nat × Nat × Nat)) : List (Nat × Nat) := ((flows.filter (·.2.2 ≠ 0)).flatMap fun f => xyPath f.2.1 34 f.1).eraseDups

/-- R356: may the partition migrate: is it protected, or is a Cabinet of it PARKABLE (DESIGN CHOICE, log entry 46)? -/
def State.mayMigrate (s : State) (k : Nat) (m : Img) : Bool := (s.cfg k).prot || m.cabs.any m.parkable

/-- R356: EW_k. -/
def State.ewOf (s : State) (k : Nat) (m : Img) (flows : List (Nat × Nat × Nat)) : Nat :=
  let peak := (flowLinks flows).foldl (fun a l => max a (linkLoad flows l)) 0
  max (max 4 (if s.mayMigrate k m then 72 else 0)) ((256 * peak + 999999999) / 1000000000)

/-- R356: the links of the tree of a partition, upwards and downwards. -/
def treeLinks (root : Nat) (ends : List Nat) : List (Nat × Nat) :=
  (ends.flatMap fun e => xyPath (endAt e).1 34 root).flatMap fun x => x :: (neighbour x.1 x.2).toList

/-- R143, R356: the VC2 flits of a partition: the links of a route with its flits per second. They are one horizon flit per source and round on each link
of its tree, its reductions, and the pair-status flits of its paired channels. -/
def State.vc2Routes (s : State) (k : Nat) (m : Img) (pos : Nat → Option Nat) (root : Nat) (ends : List Nat) : List (List (Nat × Nat) × Nat) :=
  (treeLinks root ends, ends.length * (32000000000 / max 1 m.round)) ::
  (m.cabs.filterMap fun c => (pos c).map fun p => (xyPath root 34 p, 1000000 * m.hint c 16)) ++
  ((List.range 16).filter fun n => s.owner (chin n) = k && s.flag (chin n) 0x1A0 0).map fun n =>
    (xyPath (endAt (0x120 + s.partner n)).1 34 (endAt (0x120 + n)).1, 7812500)

/-- The flits per second of some routes on a link. -/
def routeLoad (routes : List (List (Nat × Nat) × Nat)) (l : Nat × Nat) : Nat := routes.foldl (fun a r => if r.1.contains l then a + r.2 else a) 0

/-- The position of a logical Cabinet on the active map. -/
def State.posOf (s : State) (k c : Nat) : Option Nat := let m := s.mapEntry k c; if m.valid && !m.parked then some m.phys else none

/-- The outcome of admission: the guarantees and shares, or MB_DETAIL0 of the refusal. -/
inductive Admit where
  | ok (g : List Nat) (mw ew : Nat)
  | refused (d0 : Nat)
  deriving DecidableEq, Repr

/-- R356: the load of key 0 on a link: VC4 at its limit of 3 flits per 100 cycles while the trace is on (Table 5.7; DESIGN CHOICE, log entry 46). Escapes
(R143) are counted as none: only a partition that breaks its share, or a fault, makes one. -/
def State.keyZeroLoad (s : State) : Nat := if s.flag pObs 0x070 0 then 30000000 else 0

/-- R355, R356: admission of partition `k`, whose image stands at these positions with these tree endpoints and sends events at these rates. -/
def State.admission (s : State) (k : Nat) (m : Img) (rate : Nat → Nat → Nat) (pos : Nat → Option Nat) (root : Nat) (ends : List Nat) : Admit :=
  let g := (List.range 4).map (s.guaranteeOf k m)
  let mw := s.mwOf g
  let others := s.runningParts.filter (· ≠ k)
  let sharers := (List.range 64).filter fun j => j ≠ 0 && j ≠ k && s.part j ≠ .free
  let flows := m.flows rate pos root
  let ew := s.ewOf k m flows
  match (List.range 4).find? (fun h => s.stackExcess k g h ≠ 0) with
  | some h => .refused (h + (s.stackExcess k g h + 999999999) / 1000000000 % 65536 * 2 ^ 16)
  | none =>
    if 248 < (sharers.map fun j => (s.cfg j).mw).foldl (· + ·) mw then
      .refused (((List.range 4).find? fun h => s.mwOf ((List.range 4).map fun i => if i = h then g.getD h 0 else 0) = mw).getD 0)
    else if 232 < (sharers.map fun j => (s.cfg j).ew).foldl (· + ·) ew then
      .refused (0x100 + ((flowLinks flows).foldl (fun (b : Nat × Nat) l => if b.1 < linkLoad flows l then (linkLoad flows l, l.1) else b) (0, root)).2)
    else
      let routes := s.vc2Routes k m pos root ends ++ others.flatMap fun j =>
        s.vc2Routes j ⟨(s.cfg j).image, (s.cfg j).size⟩ (s.posOf j) (s.rootOf j) (s.members j)
      match ((List.range 288).flatMap fun p => (List.range' 1 4).map fun o => (p, o)).find? fun l =>
        24000000000 < 256 * (s.keyZeroLoad + routeLoad routes l) with
      | some l => .refused (0x100 + l.1)
      | none => .ok g mw ew

end Sys2Proof.Machine
end

