-- ==== Sys2Proof/Machine/Partition.lean ====
section
/-!
DEFINITION. Partition.lean: the loading, start, stop and release of a partition (R346 to R353).
-/

namespace Sys2Proof.Machine

/-- The image of a partition. -/
def State.img (s : State) (k : Nat) : Img := ⟨(s.cfg k).image, (s.cfg k).size⟩

/-- What the Bureau answers a command with: its status, the two detail words, and the state. -/
structure MbOut where
  st : MbSt
  d0 : Nat
  d1 : Nat
  s  : State

/-- A refusal for capacity or bandwidth is counted and raised (Tables 13.10, 13.12). -/
def State.refused (s : State) : State := (s.incCtr pPlc 0x084).raise pPlc 4

/-- R402: a page goes to a partition; its route entry loses EN when its owner changes. -/
def State.assign (s : State) (k : Nat) (p : Page) : State :=
  if s.owner p = k then s else (s.setRoute p ((s.route p).setBits 15 15 0)).setFld p 0x028 5 0 k

/-! ### IMAGE_LOAD -/

/-- An area and its mirror are cleared. -/
def State.clearArea (s : State) (a n : Nat) : State :=
  let s := s.clearBytes a (a + n)
  match s.mirrorAt a with | some b => s.clearBytes b (b + n) | none => s

/-- The directory, the learning block and the rows of a logical Cabinet, written into its area; LINE counts from the area's place for rows. -/
def State.putRows (s : State) (m : Img) (c a : Nat) : State :=
  let con := m.get 0x05 c 0
  let s := s.stackPut a 524288 (con % 256 ^ 524288)
  let s := (m.axons c).foldl (fun s x => s.stackPut (a + 8 * x) 8 (imgDir con x + a / 64 + 113)) s
  let s := s.stackPut (a + 524288) 7232 (m.get 0x06 c 0)
  s.stackPut (a + 64 * 8305) (m.lenOf 0x05 c 0 - 524288) (con / 256 ^ 524288)

/-- What IMAGE_LOAD writes into one area. -/
def State.putArea (s : State) (m : Img) (x : Nat × Nat × Nat × Nat) : State :=
  let s := s.clearArea x.2.2.1 x.2.2.2
  if x.2.1 = 0 then s.putRows m x.1 x.2.2.1
  else if x.2.1 = 1 then s.stackPut x.2.2.1 (m.lenOf 0x04 x.1 0) (m.get 0x04 x.1 0)
  else if 9 ≤ x.2.1 then
    s.wr64 (chdec (s.physChan (x.1 - 256))) (if x.2.1 = 9 then 0x060 else if x.2.1 = 10 then 0x06C else 0x078) x.2.2.1
  else s

/-- The channel pages of the image: they become the partition's, take the values of their sections and P, and are enabled where the section says so. -/
def State.putChans (s : State) (k : Nat) (m : Img) : State :=
  m.chans.foldl (fun s l =>
    let n := s.physChan l
    let s := [chin n, chenc n, chdec n, chtmr n].foldl (State.assign · k) s
    let s := (((((s.resetPage (chin n)).resetPage (chenc n)).resetPage (chdec n)).setChan n Chan.reset).setDec n Dec.reset).putChan m l n
    s.wrN (chdec n) 0x040 (s.cfg k).pres) s

/-- The channels whose section sets ENABLE are enabled (R105, R340). -/
def State.enableChans (s : State) (m : Img) : State :=
  (m.chans.filter m.enables).foldl (fun s l => chanCtrlWrite (s.physChan l) 1 s) s

/-- The channels of the image that are fused off or another partition's: the partition cannot have them (DESIGN CHOICE, log entry 46). -/
def State.chansTaken (s : State) (k : Nat) (m : Img) : Nat :=
  (m.chans.filter fun l => let n := s.physChan l; decide (16 ≤ n) || (s.owner (chin n) ≠ k && s.owner (chin n) ≠ 0)).length

/-- R348, R357: the image has been pulled: it is checked in full, its capacity is reserved, and its sections are written. -/
def State.imageLoad (s : State) (k : Nat) (m : Img) : MbOut :=
  if m.at 0 4 = 0x4E525456 && m.at 4 2 ≠ 3 then ⟨.unsupported, 0, 0, s⟩
  else match s.imageFail k m with
    | some e => ⟨.badImage, e.detail, e.item % 2 ^ 32, s⟩
    | none =>
      let pos := (s.placeFor m m.rate).getD []
      let r := s.allotAll (s.cfg k).prot (fun c => if c < 256 then pos.getD c 0 else (endAt (0x120 + s.physChan (c - 256))).1) (m.areas (s.cfg k).prot) []
      let lack := r.2.2 + m.spillOver
      if lack ≠ 0 then ⟨.refusedCapacity, 0, (lack + 2 ^ 20 - 1) / 2 ^ 20, s.refused⟩
      else if s.chansTaken k m ≠ 0 then ⟨.refusedCapacity, 1, s.chansTaken k m, s.refused⟩
      else
        let s := s.takeRegions k r.2.1
        let regions := r.2.1.map fun a => (a.st, a.r, a.cab, a.kind)
        let s := s.setCfg k { s.cfg k with image := m.bytes, size := m.size, nlog := m.nlog, look := m.look, round := m.round, areas := r.1, regions := regions }
        let s := s.putChans k m
        let s := (r.1.foldl (fun s x => s.putArea m x) s).enableChans m
        ⟨.ok, 0, 0, { s with partState := SMap.set (fun _ => PartState.free) s.partState k .loaded }⟩

/-! ### PART_START: the checks made again -/

/-- The positions that a partition's map places. -/
def State.placed (s : State) (k : Nat) : List (Nat × Nat) :=
  (List.range 256).filterMap fun c => (s.posOf k c).map fun p => (c, p)

/-- The channels a partition owns. -/
def State.ownChans (s : State) (k : Nat) : List Nat := (List.range 16).filter fun n => s.owner (chin n) = k

/-- R198: NSRC of a partition. -/
def State.nsrcNow (s : State) (k : Nat) : Nat :=
  (s.cfg k).nlog + 1 + ((s.ownChans k).filter s.chanOn).length + b2n (s.trigSource k) + b2n s.legacy

/-- R198: STEP, DMIN and NSRC of a logical Cabinet: as its page stands where it has a position, and as the image has them otherwise. -/
def State.hznNow (s : State) (k : Nat) (m : Img) (c : Nat) : Nat × Nat × Nat :=
  match s.posOf k c with
  | some p => (s.fld (hzn p) 0x04C 4 0, s.rdN (hzn p) 0x050, s.fld (hzn p) 0x054 9 0)
  | none => let v := m.get 0x0D c 0; (hznVal v 0, hznVal v 1, hznVal v 2)

/-- Failures attributed to a section of the image. -/
def Img.failsAt (m : Img) (ty lcab sub : Nat) (l : List (Nat × Nat)) : List ImgFail :=
  let pos := match m.find ty lcab sub with | some x => x.idx + 1 | none => m.nsec + 1
  l.map fun e => ⟨pos, e.1, e.2, ty, lcab⟩

/-- R45: the checks on the enabled TRIGIN_EVT registers of a partition. -/
def State.trigFails (s : State) (k : Nat) (m : Img) : List ImgFail :=
  ((List.range 4).filter fun n => s.flag pTime (0x080 + 0x20 * n) 3 && s.fld pTime (0x090 + 0x20 * n) 5 0 = k).flatMap fun n =>
    let c := s.fld pTime (0x090 + 0x20 * n) 13 6
    let a := s.fld pTime (0x090 + 0x20 * n) 31 16
    if m.nlog < c then [⟨0, c, 0x09, 0, 0⟩]
    else
      let con := m.get 0x05 c 0
      if dirValid (imgDir con a) && decide (m.rowMin (imgRow con (imgDir con a)) < m.look) then m.failsAt 0x05 c 0 [(a, 0x09)] else []

/-- R198: is L within its limits for a partition of `nlog` + 1 logical Cabinets? -/
def lookLegal (l nlog : Nat) : Bool := decide (8192 ≤ l) && decide (l < 2 ^ 24) && (decide (nlog < 16) || decide (32768 ≤ l))

/-- R348: the checks that depend on registers outside the image. -/
def State.startFail (s : State) (k : Nat) (m : Img) : Option ImgFail :=
  let chans := s.ownChans k
  let p0 := (chans.map s.presLat).headD 0
  firstFail (
    (chans.flatMap fun n => m.failsAt 0x0C 0xFF (s.logChan n)
      (s.chanFails n m.nlog (m.namesChan (s.logChan n)) ++ (if s.presLat n = p0 then [] else [(0xFF, 0x10)]))) ++
    (m.cabs.flatMap fun c =>
      let v := s.hznNow k m c
      m.failsAt 0x0D c 0 (
        (if v.1 = 4 || (5 ≤ v.1 && v.1 ≤ 20 && 2 ^ v.1 ≤ m.dmin c && !m.plasticCab c) then [] else [(0x04C, 0x0A)]) ++
        (if v.2.1 = m.dmin c then [] else [(0x050, 0x0A)]) ++
        (if v.2.2 = s.nsrcNow k then [] else [(0x054, 0x0A)]) ++
        (if (s.posOf k c).all (fun p => s.part k ≠ .stopped || lookLegal (s.look p) m.nlog) then [] else [(0x048, 0x0A)]))) ++
    s.trigFails k m)

/-- R429: may a protected partition start? -/
def State.protOk (s : State) (k : Nat) (m : Img) : Bool :=
  let f := s.cfg k
  decide (32000000 ≤ f.period) && decide (f.period ≤ 2048000000) &&
    m.cabs.all fun c =>
      ([0, 2, 3, 4].all fun u => match s.areaOf k c u with | some a => (s.mirrorAt a).isSome | none => false) && (s.areaOf k c 6).isSome

/-! ### PART_START: the effect -/

/-- A neuron record as PART_START writes it (R352). -/
def startRec (r t : Nat) : Nat := recWith r (ofBits (nb r 191 160) 32) (nb r 159 144) (t % 2 ^ 48) ((t + 2 ^ 48 - 2 ^ 46) % 2 ^ 48) (recRested r)

/-- A record of a Drawer the image does not load (R520). -/
def defaultRec : Nat := 0xFFFF * 2 ^ 32 + 2 ^ 27

/-- R8, R10: a register that an image sets holds what its fields can hold. -/
def State.putReg (s : State) (p : Page) (off : Nat) (w : Word) : State :=
  match findRow p.blk off with
  | some r => s.wr p off (writeFields (resetWord p.blk off) w r.fields)
  | none => s

/-- The Drawers of a Cabinet. -/
def State.putDrawer (s : State) (m : Img) (c p t d : Nat) : State :=
  let s := (List.range 16).foldl (fun s j => (List.range 6).foldl (fun s o =>
    if (m.find 0x01 c d).isSome then s.putReg (drw p d) (0x100 + 0x20 * j + 4 * o) (BitVec.ofNat 32 (profAt (m.get 0x01 c d) j (4 * o))) else s) s) s
  let s := s.store (drwAt p d 0x72000) 6144 (m.get 0x02 c d)
  (List.range 8192).foldl (fun s i =>
    s.setNrec p d i (match m.neuron c (8192 * d + i) with | some r => startRec r t | none => defaultRec)) s

/-- The general shared area: the content with its relocations made, and the projection and pin tables in both copies. -/
def State.putShared (s : State) (m : Img) (k c p : Nat) : State :=
  let con := m.get 0x09 c 0
  let a := spadAt p 0x370000
  let s := s.store a (m.lenOf 0x09 c 0 - sharedAt con) (con / 256 ^ sharedAt con)
  let s := (List.range (sharedRelocs con)).foldl (fun s i =>
    let e := sharedReloc con i
    let at' := a + nb e 31 0
    s.store at' 8 (s.load at' 8 + (((s.cfg k).areas.map (·.2.2.1)).getD (nb e 39 32) 0))) s
  let s := if (m.find 0x09 c 0).isSome then s.wrN (cctl p) 0x044 (bytesAt con 0 4) else s
  let v := m.get 0x07 c 0
  let s := (s.putReg (xpnd p) 0x05C (BitVec.ofNat 32 (m.pgtBase c))).putReg (xpnd p) 0x060 (BitVec.ofNat 32 (m.pinBase c))
  if (m.find 0x07 c 0).isNone then s
  else (List.range 2).foldl (fun s i =>
    (s.store (spadAt p (m.pgtBase c + i * 0x10000)) 0x10000 (v % 256 ^ 0x10000)).store (spadAt p (m.pinBase c + i * 0x1000)) 0x1000
      (bytesAt v 0x10000 0x1000)) s

/-- The queues and multicast groups; a stack-resident queue's BASE counts from the Cabinet's queue area. -/
def State.putQueues (s : State) (m : Img) (k c p : Nat) : State :=
  let con := m.get 0x0B c 0
  let base := (s.areaOf k c 7).getD 0
  let s := (queueRecs con).foldl (fun s e => s.setQctx p e.1 (if e.2.loc = 0 then { e.2.fresh with base := e.2.base + base / 32 } else e.2.fresh)) s
  s.setQm p { s.qm p with mc := (memberRecs con).foldl (fun l e => SMap.set (fun _ => (0 : Word)) l (e.1 % 16384) (BitVec.ofNat 32 e.2 &&& 0x800FFFFF)) (s.qm p).mc }

/-- The XPND and HZN pages. -/
def State.putPages (s : State) (m : Img) (k c p t : Nat) : State :=
  let s := (List.range 63).foldl (fun s i => s.wrN (xpnd p) (0x100 + 4 * i) (m.delay i)) s
  let s := ((s.wrN (xpnd p) 0x050 ((s.areaOf k c 0).getD 0 / 64)).wrN (xpnd p) 0x054 ((s.areaOf k c 1).getD 0 / 64)).wrN (xpnd p) 0x058 (m.lenOf 0x04 c 0 / 32)
  let v := m.get 0x0D c 0
  let h := hzn p
  let s := (((s.wrN h 0x044 m.round).wrN h 0x048 m.look).wrN h 0x04C (hznVal v 0)).wrN h 0x050 (hznVal v 1)
  let s := (((s.wrN h 0x054 (hznVal v 2)).wrN h 0x070 (hznVal v 3 % 2)).wrN h 0x0A4 (hznVal v 4)).putReg h 0x0A0 (BitVec.ofNat 32 (hznVal v 5))
  let s := (s.wr64 h 0x0A8 ((s.areaOf k c 5).getD 0)).wrN h 0x0B0 (m.spillLog c)
  ((s.wr64 h 0x058 t).wr64 h 0x068 (t / 2 ^ hznVal v 0 * 2 ^ hznVal v 0)).setFlag h 0x040 0 true

/-- A position comes up empty for a partition: its pages reset and owned, its memories zero. -/
def State.openPos (s : State) (k p : Nat) : State := (cabPages p).foldl (State.assign · k) ((s.loseState (4 + p)).loseMemory (4 + p))

/-- R475, R35: is a domain in RUN on the divided root clocks, with its local copy synchronised? -/
def State.domReady (s : State) (d : Nat) : Bool :=
  let x := s.dom d
  s.tb.state = .running && x.cur = .run && !x.busy && !x.fio && SMap.get (fun _ => false) s.synced d

/-- R475: RUN is requested for every domain of a list that is not in RUN or on its way there. -/
def State.wake (s : State) (ds : List Nat) : State := ds.foldl (fun s d => if (s.dom d).latest = .run then s else s.powerRequest true d .run) s

/-- R475: the domains of a partition's positions, channels and stacks. -/
def State.partDoms (s : State) (k : Nat) (pos : List Nat) : List Nat :=
  pos.map (4 + ·) ++ (s.ownChans k).map (292 + ·) ++
    ((List.range 4).filter fun h => s.regions.any fun r => let w := s.regCfg h r; w.bit 31 && w.bits 5 0 = k).map (308 + ·)

/-- The Trestles' content of the image. -/
def State.putTrestles (s : State) (m : Img) (c p : Nat) : State :=
  (List.range 2).foldl (fun s t =>
    (List.range (m.lenOf 0x0A c t)).foldl (fun s i => s.setByte (trsAt p t i) (BitVec.ofNat 8 (bytesAt (m.get 0x0A c t) i 1))) s) s

/-- R352: a logical Cabinet is placed at a position with start time `t`. -/
def State.putCabinet (s : State) (k : Nat) (m : Img) (c p t : Nat) : State :=
  let s := s.openPos k p
  let s := (List.range 4).foldl (fun s d => s.putDrawer m c p t d) s
  (((s.putShared m k c p).putTrestles m c p).putQueues m k c p).putPages m k c p t

/-- The first round sampled at or after a time. -/
def roundFrom (t round : Nat) : Nat := (t + max 1 round - 1) / max 1 round

/-- The sources of a partition: its members' endpoints, and in the Bureau's place the HQ source and the parked Cabinets. -/
def State.sourceIds (s : State) (k : Nat) : List Nat :=
  (s.members k).filter (· ≠ 0x161) ++ (if s.legacy then [srcHq] else []) ++ (if s.parkedCount k ≠ 0 then [srcParked] else [])

/-- R352, R206: every source contributes from the first round sampled at or after `t`. -/
def State.startSources (s : State) (k t : Nat) : State :=
  let f := s.cfg k
  (s.sourceIds k).foldl (fun s e => s.setSource k e
    { Source.reset with active := true, s := t, m := t - f.look, round := f.round, look := f.look, nsrc := s.nsrcNow k, next := roundFrom t f.round }) s

/-- R353: the sources of a stopped partition go on from the first round sampled at or after `t`, with the state they kept. -/
def State.resumeSources (s : State) (k t : Nat) : State :=
  let f := s.cfg k
  (s.sourceIds k).foldl (fun s e => s.setSource k e
    { s.source k e with active := true, round := f.round, look := f.look, nsrc := s.nsrcNow k, next := roundFrom t f.round, waiting := [], flying := [], miss := 0 }) s

/-- A new map, the same in both copies of every holder. -/
def State.newMap (s : State) (k : Nat) (pos : List Nat) : State :=
  let put (m : SMap MapEntry) : SMap MapEntry := pos.zipIdx.foldl (fun m e => SMap.set (fun _ => ⟨0, false, false⟩) m (256 * k + e.2) ⟨e.1, false, true⟩)
    (m.filter fun e => e.1 / 256 ≠ k)
  { s with maps := put s.maps, maps2 := put s.maps2, mapCur := s.mapCur.filter (fun e => e.1 / 512 ≠ k), mapRe := s.mapRe.filter (fun e => e.1 / 512 ≠ k) }

/-- The key of a pair's or a tree's index. -/
def keyOfPair (x : Nat) : Nat := x / 8 % 64

/-- R131: a partition start clears the sequence state of every pair of the partition. -/
def State.forgetSeqs (s : State) (k : Nat) : State :=
  { s with seqs := s.seqs.filter (fun e => keyOfPair e.1 ≠ k), expect := s.expect.filter (fun e => keyOfPair e.1 ≠ k) }

/-- The flits, sequence numbers, journals and sources of a partition are gone. -/
def State.forgetKey (s : State) (k : Nat) : State :=
  { (s.keepRobs fun r => r.flit.key ≠ k).forgetSeqs k with
           arrivals := s.arrivals.filter (·.flit.key ≠ k), inbox := s.inbox.filter (·.flit.key ≠ k), notices := s.notices.filter (·.key ≠ k)
           net := s.net.filter (fun h => match h.flit with | .ev f => f.key ≠ k | .mem f => f.key ≠ k)
           sources := s.sources.filter (fun e => e.1 / 512 ≠ k), journals := s.journals.filter (fun e => e.1 / 256 ≠ k)
           ckpts := s.ckpts.filter (fun e => e.1 / 256 ≠ k), parkAreas := s.parkAreas.filter (fun e => e.1 / 256 ≠ k)
           leaves := s.leaves.filter (fun e => e.1 ≠ 4096 + k && (decide (4096 ≤ e.1) || e.1 / 64 ≠ k)) }

/-- R437: the first checkpoint of every Cabinet of a protected partition that has none, whole at the start. -/
def State.firstCkpts (s : State) (k t : Nat) : State :=
  if !(s.cfg k).prot then s
  else (s.placed k).foldl (fun s e =>
    if (s.ckptsOf k e.1).any (·.valid) then s
    else
      let s := s.ckptTake e.2 0 t
      s.setCkpts k e.1 ((s.ckptsOf k e.1).map fun c => { c with valid := true })) s

/-- EP counts a change of a partition (R351). -/
def State.bumpEp (s : State) (k : Nat) : State := s.setCfg k { s.cfg k with ep := ((s.cfg k).ep + 1) % 2 ^ 32 }

/-- SPARE_LOW: the healthy unassigned spares have fallen to 8. -/
def State.spareLow (s : State) (before : Nat) : State := if s.spares.length ≤ 8 && decide (8 < before) then s.raise pPlc 2 else s

/-- R352: what a start writes once admission has passed: shares, trees and masks, sources, and the state RUNNING. -/
def State.startRun (s : State) (k t : Nat) (g : List Nat) (mw ew : Nat) (fresh : Bool) : State :=
  let s := s.setCfg k { s.cfg k with g := g, mw := mw, ew := ew, short := 256, start := if fresh then t else (s.cfg k).start, stopAt := none }
  let s := s.wrN (bur k) 0x080 256
  let s := { s with partState := SMap.set (fun _ => PartState.free) s.partState k .running }
  let s := (s.connect k []).setShares k
  let s := (if fresh then s.startSources k t else s.resumeSources k t).firstCkpts k t
  (s.shortfall).bumpEp k

/-- The mapping a start works on: a fresh start enters its new placement, a resumption keeps the mapping it has. -/
def State.mapped (s : State) (k : Nat) (fresh : Bool) (pos : List Nat) : State := if fresh then s.newMap k pos else s

/-- R206, R256, R231: what every start writes at a partition's Cabinets: ROUND, LOOKAHEAD and NSRC, the learning counters from their line, and the pins. -/
def State.startCabs (s : State) (k : Nat) : State :=
  (s.placed k).foldl (fun s e =>
    ((((s.wrN (hzn e.2) 0x044 (s.cfg k).round).wrN (hzn e.2) 0x048 (s.cfg k).look).setFld (hzn e.2) 0x054 9 0 (s.nsrcNow k)).statsLoad e.2).applyPins e.2) s

/-- A fresh start forgets what an earlier run of the key left and loads every Cabinet of the image at its position (R352); a resumption clears the sequence
state alone (R131). -/
def State.fitted (s : State) (k : Nat) (m : Img) (t : Nat) (fresh : Bool) (pos : List Nat) : State :=
  (if fresh then pos.zipIdx.foldl (fun u e => u.putCabinet k m e.2 e.1 t) (s.forgetKey k) else s.forgetSeqs k).startCabs k

/-! ### PART_START: the areas -/

/-- Where the owner of an area stands: the position of a logical Cabinet, the router of a channel. -/
def State.areaPlace (s : State) (pos : Nat → Nat) (c : Nat) : Nat := if c < 256 then pos c else (endAt (0x120 + s.physChan (c - 256))).1

/-- The partition's primary regions of the kinds that PROTECTED mirrors and that have no mirror: stack and region. -/
def State.bareRegions (s : State) (k : Nat) : List (Nat × Nat) :=
  (List.range 4).flatMap fun h => (s.regions.filter fun r =>
    let w := s.regCfg h r
    w.bit 31 && w.bits 5 0 = k && (w.bits 9 6 = 1 || w.bits 9 6 = 3 || w.bits 9 6 = 4) && !w.bit 24).map fun r => (h, r)

/-- R344, R357: mirrors for regions that have none, beside the regions set aside; and the bytes that found no room. -/
def State.mirrorAll (s : State) : List (Nat × Nat) → List Allot → List ((Nat × Nat) × (Nat × Nat)) × Nat
  | [], _ => ([], 0)
  | x :: l, acc =>
    match s.mirrorRun acc (List.range 4) x.1 1 with
    | some y => let t := State.mirrorAll s l (acc ++ [⟨y.1, y.2, 2, 2 ^ 30, 256, none⟩]); ((x, y) :: t.1, t.2)
    | none => let t := State.mirrorAll s l acc; (t.1, t.2 + 2 ^ 30)

/-- R357: what PART_START sets aside, checked against the free regions: the areas, the regions for them, the mirrors, and the bytes lacking. A partition
that has its areas where its placement wants them needs none; one that starts anew is allotted for its positions (R344, rule 4); a STOPPED one keeps
its areas and gets those and the mirrors that PROTECTED has come to ask for. -/
structure AreaPlan where
  areas   : List (Nat × Nat × Nat × Nat)
  regions : List Allot
  mirrors : List ((Nat × Nat) × (Nat × Nat))
  lack    : Nat
  deriving DecidableEq, Repr

/-- The areas of a start at these positions. -/
def State.areaPlan (s : State) (k : Nat) (m : Img) (fresh : Bool) (pos : Nat → Nat) : AreaPlan :=
  let f := s.cfg k
  if fresh then
    let r := (s.freePartRegions k).allotAll f.prot (s.areaPlace pos) (m.areas f.prot) []
    ⟨r.1, r.2.1, [], r.2.2⟩
  else
    let want := (m.areas f.prot).filter fun x => (s.areaOf k x.1 x.2.1).isNone
    let r := s.allotAll f.prot (s.areaPlace pos) want []
    let b := if f.prot then s.mirrorAll (s.bareRegions k) r.2.1 else ([], 0)
    ⟨f.areas ++ r.1, r.2.1, b.1, r.2.2 + b.2⟩

/-- A region gets a mirror with its content (R377). -/
def State.addMirror (s : State) (k : Nat) (x : (Nat × Nat) × (Nat × Nat)) : State :=
  let p := x.1
  let q := x.2
  let w := regWord (s.regCfg p.1 p.2) k ((s.regCfg p.1 p.2).bits 9 6) (some q) true
  let s := s.wr (hut1 p.1) (0x100 + 8 * p.2) (w.setBits 25 25 (b2n (s.healthyPcs p.1 ≠ 32)))
  let s := s.putRegion q.1 q.2 (regWord (s.regCfg q.1 q.2) k 2 (some p) false)
  let a := p.1 * 2 ^ 35 + p.2 * 2 ^ 30
  let b := q.1 * 2 ^ 35 + q.2 * 2 ^ 30
  ((s.bytesIn a (a + 2 ^ 30)).foldl (fun s e => s.setByte (b + (e.1 - a)) e.2) (s.clearBytes b (b + 2 ^ 30)))

/-- The plan's areas become the partition's. A fresh start whose areas move is written anew from its image; the others keep what they hold. -/
def State.takeAreas (s : State) (k : Nat) (m : Img) (fresh : Bool) (a : AreaPlan) : State :=
  let f := s.cfg k
  let regions := a.regions.map fun x => (x.st, x.r, x.cab, x.kind)
  if a.areas = f.areas && a.mirrors.isEmpty then s
  else if fresh then
    let s := ((s.freePartRegions k).takeRegions k a.regions).setCfg k { f with areas := a.areas, regions := regions }
    a.areas.foldl (fun s x => s.putArea m x) s
  else
    let s := (s.takeRegions k a.regions).setCfg k { f with areas := a.areas, regions := f.regions ++ regions }
    let s := (a.areas.drop f.areas.length).foldl (fun s x => s.clearArea x.2.2.1 x.2.2.2) s
    a.mirrors.foldl (fun s x => s.addMirror k x) s

/-- What PART_START has decided, once nothing refuses it: the positions, the areas, the guarantees and the shares. -/
structure PartPlan where
  pos  : List Nat
  area : AreaPlan
  g    : List Nat
  mw   : Nat
  ew   : Nat
  deriving DecidableEq, Repr

/-- R348, R352, R355 to R357: the checks of PART_START for a start time `t`: the answer of a refusal, or the plan of the start. -/
def State.startPlan (s : State) (k t : Nat) : Except MbOut PartPlan :=
  let m := s.img k
  let f := s.cfg k
  let fresh := decide (s.part k = .loaded)
  if t < s.now + 4 * f.round then .error ⟨.staleEpoch, 0, 0, s⟩
  else match s.startFail k m with
    | some e => .error ⟨.badImage, e.detail, e.item % 2 ^ 32, s⟩
    | none =>
      match (if fresh then s.placeFor m m.rate else some []) with
      | none => .error ⟨.refusedCapacity, 1, s.lacking m, s.refused⟩
      | some pos =>
        let a := s.areaPlan k m fresh (fun c => if fresh then pos.getD c 0 else (s.posOf k c).getD 0)
        if a.lack ≠ 0 then .error ⟨.refusedCapacity, 0, (a.lack + 2 ^ 20 - 1) / 2 ^ 20, s.refused⟩
        else
          let u := (s.takeAreas k m fresh a).mapped k fresh pos
          if f.prot && !u.protOk k m then .error ⟨.badImage, 0, 0, s⟩
          else match u.admission k m m.rate (u.posOf k) (u.rootOf k) (u.members k) with
          | .refused d => .error ⟨.refusedBandwidth, d, 0, s.refused⟩
          | .ok g mw ew => .ok ⟨pos, a, g, mw, ew⟩

/-- R352: a planned start is carried out. -/
def State.startDo (s : State) (k t : Nat) (x : PartPlan) : State :=
  let m := s.img k
  let fresh := decide (s.part k = .loaded)
  let u := (s.takeAreas k m fresh x.area).mapped k fresh x.pos
  ((u.fitted k m t fresh x.pos).startRun k t x.g x.mw x.ew fresh).spareLow s.spares.length

/-- R475: the domains that a planned start needs. -/
def State.startDoms (s : State) (k : Nat) (x : PartPlan) : List Nat :=
  s.partDoms k ((if s.part k = .loaded then x.pos else (s.placed k).map (·.2))) ++ (x.area.areas.map fun a => 308 + stackOf a.2.2.1).eraseDups

/-- PART_START with a start time of zero: the first round sample at least 1 ms ahead of the time `at'` at which the command started. -/
def State.startTime (s : State) (k arg at' : Nat) : Nat :=
  if arg = 0 then roundFrom (at' + 32000000) (s.cfg k).round * (s.cfg k).round else arg

/-! ### PART_STOP -/

/-- The partition's S: that of its lowest placed logical Cabinet. -/
def State.partS (s : State) (k : Nat) : Nat := match s.placed k with | e :: _ => s.safe e.2 | [] => 0

/-- R353: has every source contributed to its last round? `applied`: and has it applied the results of all its rounds? -/
def State.sourcesDone (s : State) (k : Nat) (applied : Bool) : Bool :=
  (s.sourceIds k).all fun e => s.silent k e && (s.source k e).waiting.isEmpty && (!applied || (s.source k e).flying.isEmpty)

/-- R353: is a result with evidence time below T_p still to be released? -/
def State.resultsLeft (s : State) (k t : Nat) : Bool :=
  (s.ownChans k).any fun n => (s.dec n).pq.any fun x => decide (x.te < t) && (x.conf.isSome || decide ((x.w + 1) * s.dwin n x.unit ≤ s.chanM n))

/-- R353, R256: the partition is STOPPED, with its learning statistics written; where DISCARD was set its unreleased results are gone, those that form later with evidence before T_p among them, and their SEQ values are not
consumed; a record that waits under HOLD is a released one and stays (R333). -/
def State.stopped (s : State) (k : Nat) (discard : Bool) : State :=
  let s := if discard then (s.ownChans k).foldl (fun s n =>
      s.putRf n { s.dec n with pq := (s.dec n).pq.filter (·.fate = 4), cut := max (s.dec n).cut ((s.cfg k).stopAt.getD 0) }) s else s
  let s := (s.placed k).foldl (fun s e => s.statsWrite e.2) s
  { s with partState := SMap.set (fun _ => PartState.free) s.partState k .stopped }

/-- R353: may PART_STOP complete? -/
def State.stopReady (s : State) (k : Nat) (discard : Bool) : Bool :=
  match (s.cfg k).stopAt with
  | some t => s.sourcesDone k (!discard) && (discard || !s.resultsLeft k t)
  | none => false

/-! ### PART_RELEASE -/

/-- A position of a partition becomes a spare in SLEEP. -/
def State.closePos (s : State) (p : Nat) : State :=
  let s := (((cabPages p).foldl (State.assign · 0) s).loseState (4 + p)).loseMemory (4 + p)
  s.setDom (4 + p) { Dom.reset with cur := .sleep, target := .sleep, latest := .sleep }

/-- A partition becomes FREE: its positions, channels and regions are released, its map and trees are gone. -/
def State.partRelease (s : State) (k : Nat) : State :=
  let f := s.cfg k
  let pos := (List.range 288).filter fun p => s.owner (cctl p) = k
  let s := { s with partState := SMap.set (fun _ => PartState.free) s.partState k .free }
  let s := pos.foldl State.closePos s
  let s := (s.ownChans k).foldl (fun s n => [chin n, chenc n, chdec n, chtmr n].foldl (State.assign · 0) ((linkCtrlWrite n 0 (chanCtrlWrite n 0 s)))) s
  let s := ((s.disconnect k).freePartRegions k).newMap k []
  let s := s.forgetKey k
  let s := s.setCfg k { PartCfg.reset with cls := f.cls, prot := f.prot, pres := f.pres, period := f.period, emode := f.emode, mmode := f.mmode, burst := f.burst, ep := f.ep }
  (s.wrN (bur k) 0x080 256).shortfall

end Sys2Proof.Machine
end

