-- ==== Sys2Proof/Machine/Migrate.lean ====
section
/-!
DEFINITION. Migrate.lean: the migration, parking and return of a logical Cabinet (R360 to R365, Table 13.9), as the steps of the mailbox command that
asks for it.
-/

namespace Sys2Proof.Machine

/-- The partition that a mailbox command names. -/
def MbCmd.key (m : MbCmd) : Nat := m.w.bits 13 8
/-- Its opcode. -/
def MbCmd.op (m : MbCmd) : Nat := m.w.bits 7 0
/-- Its TAG. -/
def MbCmd.tag (m : MbCmd) : Nat := m.w.bits 31 16
/-- Does it move a logical Cabinet at present? -/
def MbCmd.moves (m : MbCmd) : Bool := decide (1 ≤ m.phase) && decide (m.phase ≤ 4) && m.src ≠ m.dst
/-- The command ends with a status. -/
def MbCmd.ends (m : MbCmd) (st : MbSt) (d0 d1 : Nat) : MbCmd := { m with phase := 5, status := st, d0 := d0, d1 := d1 }

/-- The state with one mailbox command replaced. -/
def State.putMb (s : State) (m n : MbCmd) : State := { s with mbox := s.mbox.replace m n }

/-- Every stored register of a page but PG_OWNER is copied to another page of the same block. -/
def State.copyPage (s : State) (a b : Page) : State :=
  (s.pageRegs a).foldl (fun s e => if e.1 = 0x028 then s else s.wr b e.1 e.2) s

/-- The registers of a position are copied to another. -/
def State.copyPages (s : State) (p q : Nat) : State := ((cabPages p).zip (cabPages q)).foldl (fun s e => s.copyPage e.1 e.2) s

/-- The registers of a position's pages, by 4,096 · page + offset. -/
def State.savePages (s : State) (p : Nat) : List (Nat × Word) :=
  (cabPages p).zipIdx.flatMap fun x => (s.pageRegs x.1).map fun e => (4096 * x.2 + e.1, e.2)

/-- Such registers are written to another position, but for PG_OWNER. -/
def State.loadPages (s : State) (q : Nat) (l : List (Nat × Word)) : State :=
  l.foldl (fun s e => match (cabPages q)[e.1 / 4096]? with
    | some pg => if e.1 % 4096 = 0x028 then s else s.wr pg (e.1 % 4096) e.2
    | none => s) s

/-- The bytes of the stores and RAMs of a position (by the offsets of R436) are written to another. -/
def State.putCabBytes (s : State) (q : Nat) (l : List (Nat × Byte)) : State := l.foldl (fun s e => s.setByte (cabByteAt q e.1) e.2) s

/-- R363: is the Cabinet at a position quiescent? -/
def State.quiescent (s : State) (p : Nat) : Bool :=
  let c := s.cab p
  (List.range 4).all (fun d => (s.occupied p d).isEmpty) && c.x.ldq.isEmpty && c.x.spill.isEmpty && c.x.hold.isEmpty &&
    c.q.ctx.all (fun e => !e.2.v || e.2.occ = 0) && c.trs0.isEmpty && c.trs1.isEmpty && c.trsIn.isEmpty &&
    (match c.core.wait with | some (.qrecv _ _ _) => true | some (.hzwait _) => true | _ => false)

/-- Table 13.9, step 2: the Drawers and Trestles of a position are paused or go on, and its core is halted or resumes. -/
def State.pauseAll (s : State) (p : Nat) (b : Bool) : State :=
  let s := (List.range 4).foldl (fun s d => (s.setFlag (drw p d) 0x040 0 b).drwShow p d) s
  let s := (List.range 2).foldl (fun s t => (s.setFlag (trs p t) 0x040 0 b).trsShow p t) s
  if b && s.coreState p = 1 then s.setFld (cctl p) 0x00C 1 0 2
  else if !b && s.coreState p = 2 && !s.isHalted p then s.setFld (cctl p) 0x00C 1 0 1 else s

/-- Table 13.9, step 2, R361: a position is frozen. -/
def State.freezeCab (s : State) (p : Nat) : State := (s.pauseAll p true).setCab p { s.cab p with frozen := true, ingress := [] }

/-- R363, R362: a frozen position goes on, with the events it logged. -/
def State.unfreezeCab (s : State) (p : Nat) : State :=
  let l := (s.cab p).ingress
  let s := (s.pauseAll p false).setCab p { s.cab p with frozen := false, ingress := [] }
  l.foldl (fun s f => s.toInbox p false f) s

/-- R344, rule 2: do some positions of a partition of 16 logical Cabinets or fewer lie in one block of the grid? -/
def State.sameBlock (s : State) (k : Nat) (pos : List Nat) : Bool :=
  decide (15 < (s.cfg k).nlog) || (List.range 13).any fun r => (List.range 13).any fun c =>
    pos.all fun p => ((List.range 4).flatMap fun i => ((s.rowColumns (r + i)).drop c).take 4).contains p

/-- R344: the spare that a logical Cabinet of a partition goes to: one that keeps its partition in a block (rule 2) before others, then one that is
preferred, then the cheapest by expected rate and hops beside the other Cabinets (rule 3), then the lowest number. Where no spare keeps the block, rule
2 yields (DESIGN CHOICE, log entry 46). -/
def State.bestSpare (s : State) (k c : Nat) (pref : Nat → Bool) : Option Nat :=
  let others := (s.placed k).filter (·.1 ≠ c)
  let rank (p : Nat) : Nat × Nat := (2 * b2n (!s.sameBlock k (p :: others.map (·.2))) + b2n (!pref p), placeCost (s.img k).rate c p others)
  s.spares.foldl (fun b p => match b with
    | none => some p
    | some q => let x := rank p; let y := rank q; if x.1 < y.1 || (x.1 = y.1 && decide (x.2 < y.2)) then some p else some q) none

/-- The position a migration ends at (R344): the named one if it is a spare, or the engine's choice, which prefers a spare in the source's row. -/
def State.targetFor (s : State) (k c src named : Nat) : Option Nat :=
  if named ≠ 0x1FF then (if s.spare named then some named else none) else s.bestSpare k c fun p => p / 18 = src / 18

/-- R345: a position that becomes a holder of a partition's map reads the copy that is active. -/
def State.newHolder (s : State) (k p : Nat) : State :=
  { s with mapCur := SMap.set (fun _ => false) s.mapCur (512 * k + p) (s.mapSecond 0x161 k)
           mapRe := SMap.set (fun _ => none) s.mapRe (512 * k + p) none }

/-- Table 13.9, step 1: a move begins: the target's domain is to run, and the partition's masks and trees come to include it. -/
def State.moveStart (s : State) (m : MbCmd) (c src dst : Nat) : State :=
  let n := s.spares.length
  let s := if dst < 512 then ((((s.openPos m.key dst).wake [4 + dst]).newHolder m.key dst).connect m.key [dst]).spareLow n else s
  s.putMb m { m with phase := 1, cab := c, src := src, dst := dst, since := s.now }

/-- Table 13.9, step 2: the freeze, at the first round sample after step 1, which ends when the target runs on the divided root clocks with its local
copy synchronised. A Cabinet to be parked must be quiescent. -/
def execMigrationFreeze (f : Nat) (s : State) : Result :=
  match s.mbox.find? (fun m => m.fn = f && m.phase = 1 && m.src ≠ m.dst) with
  | none => done s
  | some m =>
    let r := (s.cfg m.key).round
    if s.now < roundFrom m.since r * r || (decide (m.dst < 512) && !s.domReady (4 + m.dst)) then done s
    else if 512 ≤ m.src then done (s.putMb m { m with phase := 2 })
    else if m.dst = 512 && !s.quiescent m.src then done (s.putMb m (m.ends .busy 0 0))
    else done ((s.freezeCab m.src).putMb m { m with phase := 2 })

/-- R345: the inactive copy of a partition's map becomes the active one with one entry changed. -/
def State.writeInactive (s : State) (k c : Nat) (e : MapEntry) : State :=
  let sec := s.mapSecond 0x161 k
  let act := (if sec then s.maps2 else s.maps).filter fun x => x.1 / 256 = k
  let base := (if sec then s.maps else s.maps2).filter fun x => x.1 / 256 ≠ k
  let new := SMap.set (fun _ => ⟨0, false, false⟩) (act.foldl (fun m x => SMap.set (fun _ => ⟨0, false, false⟩) m x.1 x.2) base) (256 * k + c) e
  if sec then { s with maps := new } else { s with maps2 := new }

/-- R345: MAP_SWITCH with round `re` is sent on the partition's broadcast tree, and the Bureau notes it too. -/
def State.mapSwitch (s : State) (k re : Nat) : State :=
  let s := s.injectTree 0x161 (0x1C0 + k) 3 k 5 0 (0x40 * 2 ^ 120 + re % 65536 * 2 ^ 104 + k % 64 * 2 ^ 98)
  { s with mapRe := SMap.set (fun _ => none) s.mapRe (512 * k + 0x161) (some (re % 65536)) }

/-- R345: a round whose sample time lies at least two rounds ahead. -/
def State.switchRound (s : State) (k : Nat) : Nat := roundFrom s.now (s.cfg k).round + 2

/-- The registers and memories of a target position before its state comes: as reset, and zero. -/
def State.blankPos (s : State) (q : Nat) : State := ((cabPages q).foldl State.resetPage s).loseMemory (4 + q)

/-- Table 13.9, step 3: the state of a position is copied to another. Its row cache is not. -/
def State.copyCab (s : State) (p q : Nat) : State :=
  let s := ((s.blankPos q).copyPages p q).putCabBytes q (s.cabBytes p)
  s.setCab q { s.cab p with x := { (s.cab p).x with cache := [], pinned := [] } }

/-- R363: the state of a position in its park area. -/
def State.parkCab (s : State) (k c p : Nat) : State :=
  { s with parkAreas := SMap.set (fun _ => none) s.parkAreas (256 * k + c) (some ⟨s.now, 0, s.savePages p, s.cabBytes p, s.cab p, 0, s.now, true, 0, []⟩) }

/-- R365: a parked Cabinet's state at its new position: OUT_TIME is the park time, and its Drawers have their catch-up pass before them. S is the
partition's, and G the grid point at or below it. -/
def State.returnCab (s : State) (k c q : Nat) : State :=
  match SMap.get (fun _ => (none : Option Ckpt)) s.parkAreas (256 * k + c) with
  | none => s
  | some x =>
    let sf := s.partS k
    let s := (s.blankPos q).loadPages q x.regs
    let s := (s.putCabBytes q x.bytes).setCab q { x.cab with x := { x.cab.x with cache := [], pinned := [] } }
    let s := (List.range 4).foldl (fun s d => (s.wr64 (drw q d) 0x070 x.t).setFlag (drw q d) 0x00C 2 true) s
    (s.wr64 (hzn q) 0x058 sf).wr64 (hzn q) 0x068 (sf / s.stepQ q * s.stepQ q)

/-- Table 13.9, step 4: the state copy has ended: the new map entry stands in every inactive copy, and MAP_SWITCH is sent. The target contributes from
round r_e on. -/
def execMigrationCopyDone (f : Nat) (s : State) : Result :=
  match s.mbox.find? (fun m => m.fn = f && m.phase = 2) with
  | none => done s
  | some m =>
    let k := m.key
    let re := s.switchRound k
    let s := s.putMb m { m with phase := 3, re := re }
    let s := if m.dst = 512 then s.parkCab k m.cab m.src else if m.src = 512 then s.returnCab k m.cab m.dst else s.copyCab m.src m.dst
    let s := if m.dst < 512 then
        (s.setCab m.dst { s.cab m.dst with frozen := true, ingress := [] }).setSource k m.dst
          (if m.src = 512 then { Source.reset with active := true, s := s.partS k, round := (s.cfg k).round, look := (s.cfg k).look, nsrc := s.nsrcNow k, next := re }
           else { s.source k m.src with next := re, waiting := [], flying := [], sent := [] })
      else if s.parkedCount k = 0 then
        (s.connect k [m.src, 0x161]).setSource k srcParked { Source.reset with active := true, round := (s.cfg k).round, look := (s.cfg k).look, nsrc := s.nsrcNow k, next := re }
      else s
    done ((s.writeInactive k m.cab (if m.dst = 512 then ⟨m.src, true, true⟩ else ⟨m.dst, false, true⟩)).mapSwitch k re)

/-- Table 13.9, step 5: the source's router forwards to the target, or to the Bureau when the Cabinet is parked (R150, R364). -/
def State.forward (s : State) (m : MbCmd) : State :=
  let life := ((s.cfg m.key).round + 9600 + 511) / 512
  s.setFwd m.src (BitVec.ofNat 32 ((if m.dst = 512 then 0x161 else m.dst) + life % 4096 * 2 ^ 16 + 2 ^ 31))

/-- Table 13.9, step 6: the target takes over: the events its source accepted and did not walk come first, in the order it accepted them, then those of
its own port; it goes on, and its pinned rows refill. Flits that stand at the source's ejection port come in at the target. -/
def State.targetRuns (s : State) (m : MbCmd) : State :=
  let mine (a : Arrival) : Bool := a.dest = m.src && !(a.flit.kind = 4 && a.flit.tag = 63) && a.flit.kind ≠ 5
  let moved := if m.src = 512 then [] else s.inbox.filter mine
  let logs := (if m.src = 512 then [] else (s.cab m.src).ingress) ++ (s.cab m.dst).ingress
  let s := if m.src = 512 then { s with parkAreas := SMap.set (fun _ => none) s.parkAreas (256 * m.key + m.cab) none }
    else { s with inbox := s.inbox.filter (fun a => !mine a), arrivals := s.arrivals.map fun a => if mine a then { a with dest := m.dst } else a }
  let s := { s with inbox := s.inbox ++ moved.map fun (a : Arrival) => { a with dest := m.dst } }
  let s := logs.foldl (fun s f => s.toInbox m.dst false f) s
  let s := if m.src = 512 then s else (s.setRob m.dst (s.rob m.dst ++ s.rob m.src)).setRob m.src []
  (((s.setCab m.dst { s.cab m.dst with frozen := false, ingress := [] }).pauseAll m.dst false).setFlag (hzn m.dst) 0x040 0 true).applyPins m.dst

/-- R364: what stands at a position whose Cabinet is parked: its events are discarded and counted, its queue messages fail with NOQUEUE. -/
def State.parkLeft (s : State) (m : MbCmd) : State :=
  let mine (a : Arrival) : Bool := a.dest = m.src && decide (a.flit.kind ≤ 2)
  let late := s.arrivals.filter mine
  let here := s.inbox.filter mine
  let s := { s with inbox := s.inbox.filter (fun a => !mine a), arrivals := s.arrivals.filter fun a => !mine a }
  let s := (late.filter (·.flit.kind = 0)).foldl (fun s a => s.notice m.src a.flit) s
  let s := ((s.cab m.src).ingress ++ ((here ++ late).map (·.flit)).filter (·.kind = 0)).foldl (fun s _ => s.parkedDrop m.key m.cab) s
  ((here ++ late).filter (·.flit.kind = 1)).foldl (fun s a => s.noQueue m.cab a.flit) s

/-- Table 13.9, steps 5 and 6: a source of a migration, or the Bureau for a Cabinet that returns from its park area, applies a complete round at or
after r_e. -/
def State.takeOver (s : State) (e inst : Nat) : State :=
  match s.mbox.find? (fun m => m.phase = 3 && (m.src = e || (m.src = 512 && e = 0x161)) && serialGe inst (m.re % 65536) 16) with
  | none => s
  | some m =>
    let s := if m.src = 512 then s else ((s.forward m).setFlag (hzn m.src) 0x040 0 false).setSource m.key m.src Source.reset
    let s := if m.dst = 512 then s.parkLeft m else s.targetRuns m
    s.putMb m { m with phase := 4 }

/-! ### The hand-over of a recovery -/

/-- The state with one recovery replaced. -/
def State.putRec (s : State) (r x : Recov) : State := { s with recov := s.recov.replace r x }

/-- A Cabinet's replay ends: what its router kept back comes to it. -/
def State.replayEnds (s : State) (p : Nat) (logs : List Flit) : State :=
  logs.foldl (fun s f => s.toInbox p false f) (s.setCab p { s.cab p with replay := false, ingress := [] })

/-- Table 16.5, step 5: at round r_e the Cabinet's old position hands over to the spare, which contributes from then on. -/
def State.recTakeOver (s : State) (e inst : Nat) : State :=
  match s.recov.find? (fun r => r.step = 5 && r.src = e && serialGe inst (r.re % 65536) 16) with
  | none => s
  | some r =>
    let k := r.key
    let life := ((s.cfg k).round + 9600 + 511) / 512
    let s := s.setFwd r.src (BitVec.ofNat 32 (r.dst + life % 4096 * 2 ^ 16 + 2 ^ 31))
    let s := (s.setFlag (hzn r.src) 0x040 0 false).setSource k r.src Source.reset
    let reds := s.inbox.filter fun a => a.dest = r.src && a.flit.kind = 4 && a.flit.tag ≠ 63
    let s := { s with inbox := (s.inbox.filter fun a => !reds.contains a) ++ reds.map fun (a : Arrival) => { a with dest := r.dst } }
    let s := (s.setRob r.dst (s.rob r.dst ++ s.rob r.src)).setRob r.src []
    let s := s.replayEnds r.dst ((s.cab r.src).ingress ++ (s.cab r.dst).ingress)
    (s.setFlag (hzn r.dst) 0x040 0 true).putRec r { r with step := 6 }

/-- The spare columns follow a position that has become a spare and one that has ceased to be. -/
def State.swapSpare (s : State) (src dst : Nat) : State :=
  if s.boot.spareSet.testBit dst then { s with boot := { s.boot with spareSet := setBitTo (setBitTo s.boot.spareSet dst false) src true } } else s

/-- Table 13.9, step 7: FWD has run out: the source is a spare again, EP counts, and MIGRATE_DONE is raised. -/
def State.moveEnd (s : State) (m : MbCmd) : State :=
  let k := m.key
  let n := s.spares.length
  let s := if m.src < 512 then s.closePos m.src else s
  let s := if m.src < 512 && m.dst < 512 then s.swapSpare m.src m.dst else s
  ((((s.connect k []).bumpEp k).incCtr pPlc 0x07C).raise pPlc 0).spareLow n

/-- R362: the target of a migration has faulted before it took over: it is abandoned, the source goes on, and the old map entry is restored at a new round. -/
def State.moveAbandon (s : State) (m : MbCmd) : State :=
  let k := m.key
  let s := s.err pPlc 4 0x0E0 (m.cab % 256 + k % 64 * 256)
  let s := if m.src < 512 && m.phase ≠ 1 then s.unfreezeCab m.src else s
  let s := if m.dst < 512 then (s.setSource k m.dst Source.reset).closePos m.dst else s
  let s := if m.phase = 3 then (s.writeInactive k m.cab ⟨m.src % 512, decide (m.src = 512), true⟩).mapSwitch k (s.switchRound k) else s
  (s.connect k []).putMb m (m.ends .faulted 0 0)

end Sys2Proof.Machine
end

