-- ==== Sys2Proof/Machine/Mailbox.lean ====
section
/-!
DEFINITION. Mailbox.lean: the mailbox and its commands (R346 to R351, Table 13.7), and the completions of its reads of host memory (R410).
-/

namespace Sys2Proof.Machine

/-- An argument register of a command that has started. -/
def MbCmd.arg (m : MbCmd) (i : Nat) : Nat := m.args.getD i 0
/-- A pair of argument registers. -/
def MbCmd.arg64 (m : MbCmd) (i : Nat) : Nat := m.arg i + m.arg (i + 1) * 2 ^ 32

/-- The place of a status in the order of Table 13.7's names. -/
def MbSt.idx : MbSt → Nat
  | .ok => 0 | .busy => 1 | .notOwner => 2 | .unsupported => 3 | .badImage => 4 | .refusedCapacity => 5 | .refusedBandwidth => 6
  | .timeout => 7 | .staleEpoch => 8 | .faulted => 9

/-- The code of a partition state (Table 13.2). -/
def PartState.code : PartState → Nat
  | .free => 0 | .loaded => 1 | .running => 2 | .stopped => 3 | .faulted => 4

/-- Table 13.7: the states in which a command acts. -/
def mbStates (op : Nat) (st : PartState) : Bool :=
  if op = 1 then st = .free || st = .stopped
  else if op = 2 then st = .free
  else if op = 3 then st = .loaded || st = .stopped
  else if op = 5 then st = .loaded || st = .stopped || st = .faulted
  else st = .running

/-- R350, R351: the statuses that a command may end with before it does anything, in the order in which the model checks them. -/
def State.mbCheck (s : State) (m : MbCmd) : Option MbSt :=
  if m.fn ≠ 0 && m.key ≠ m.fn then some .notOwner
  else if m.op = 0 || decide (0x0B < m.op) then some .unsupported
  else if s.recov.any (·.key = m.key) then some .busy
  else if m.op = 0x0B then none
  else if m.key = 0 || !mbStates m.op (s.part m.key) then some .busy
  else if (m.op = 4 || decide (6 ≤ m.op)) && m.arg 7 ≠ 0xFFFFFFFF && m.arg 7 ≠ (s.cfg m.key).ep then some .staleEpoch
  else none

/-- A command that ends at once, with what the engine answers. -/
def State.mbOut (m : MbCmd) (o : MbOut) : State := o.s.putMb m (m.ends o.st o.d0 o.d1)

/-- A command that ends at once with a status. -/
def State.mbEnd (s : State) (m : MbCmd) (st : MbSt) : State := s.putMb m (m.ends st 0 0)

/-- PART_CONFIG (R354): reserved encodings, and an Assured partition that asks for another mode than SCHEDULED, complete with UNSUPPORTED. -/
def State.mbConfig (s : State) (m : MbCmd) : State :=
  let k := m.key
  let cls := m.arg 0 % 4
  let em := m.arg 3 % 4
  let mm := m.arg 3 / 4 % 4
  let b := m.arg 3 / 16 % 32
  if cls = 3 || em = 3 || mm = 3 || b = 0 || decide (16 < b) || (cls = 0 && em ≠ 1) then s.mbEnd m .unsupported
  else
    let s := s.setCfg k { s.cfg k with cls := cls, prot := (m.arg 0).testBit 2, pres := m.arg 1, period := if m.arg 2 = 0 then 256000000 else m.arg 2,
                                       emode := em, mmode := mm, burst := b }
    ((s.ownChans k).foldl (fun s n => s.wrN (chdec n) 0x040 (m.arg 1)) s).mbEnd m .ok

/-- R352, R475: PART_START acts on the plan of the start at `t`: it is refused, or it starts the partition once its domains are ready; until then it
asks for RUN and waits. -/
def State.mbStartWith (s : State) (m : MbCmd) (t : Nat) (plan : Except MbOut PartPlan) : State :=
  match plan with
  | .error o => State.mbOut m o
  | .ok x =>
    let ds := s.startDoms m.key x
    if ds.all s.domReady then State.mbOut m ⟨.ok, 0, 0, s.startDo m.key t x⟩ else (s.wake ds).putMb m { m with phase := 1 }

/-- R352: PART_START goes on. -/
def State.mbStartGo (s : State) (m : MbCmd) : State :=
  let t := s.startTime m.key (m.arg64 0) m.since
  s.mbStartWith m t (s.startPlan m.key t)

/-- PART_START: BUSY while device time does not run (R31). -/
def State.mbPartStart (s : State) (m : MbCmd) : State :=
  if s.tb.state ≠ .running then s.mbEnd m .busy
  else if m.arg64 0 ≠ 0 && decide (m.arg64 0 ≤ s.partS m.key) then s.mbEnd m .staleEpoch
  else s.mbStartGo m

/-- PART_STOP: the sources stop after T_p (R353); the command ends when MAILBOX_COMMAND_DONE finds them done. -/
def State.mbStop (s : State) (m : MbCmd) : State :=
  if m.arg64 0 ≤ s.partS m.key then s.mbEnd m .staleEpoch
  else (s.setCfg m.key { s.cfg m.key with stopAt := some (m.arg64 0) }).putMb m { m with phase := 1 }

/-- PART_RELEASE: EP counts it where the partition had a placement (R351). -/
def State.mbRelease (s : State) (m : MbCmd) : State :=
  let k := m.key
  (if s.part k = .loaded then s.partRelease k else (s.partRelease k).bumpEp k).mbEnd m .ok

/-- A refusal for want of a position. -/
def State.mbNoPos (s : State) (m : MbCmd) : State := s.refused.putMb m (m.ends .refusedCapacity 1 1)

/-- MIGRATE. -/
def State.mbMigrate (s : State) (m : MbCmd) : State :=
  let c := m.arg 0 % 256
  match s.posOf m.key c with
  | some p =>
    match s.targetFor m.key c p (m.arg 0 / 2 ^ 16 % 512) with
    | some q => s.moveStart m c p q
    | none => s.mbNoPos m
  | none => if (s.mapEntry m.key c).valid then s.mbEnd m .busy else s.mbNoPos m

/-- PARK: only a PARKABLE Cabinet may be parked. -/
def State.mbPark (s : State) (m : MbCmd) : State :=
  let c := m.arg 0 % 256
  match s.posOf m.key c with
  | some p => if (s.img m.key).parkable c then s.moveStart m c p 512 else s.mbEnd m .busy
  | none => s.mbEnd m .busy

/-- R344: the spare that a returning Cabinet takes. -/
def State.returnPos (s : State) (k c : Nat) : Option Nat := s.bestSpare k c fun _ => true

/-- UNPARK: admission for the added position, then the migration from the park area (R365). -/
def State.mbUnpark (s : State) (m : MbCmd) : State :=
  let k := m.key
  let c := m.arg 0 % 256
  let e := s.mapEntry k c
  if !e.valid || !e.parked then s.mbEnd m .busy
  else match (if s.spares.length < 9 then none else s.returnPos k c) with
    | none => s.mbNoPos m
    | some q =>
      match s.admission k (s.img k) (s.img k).rate (fun a => if a = c then some q else s.posOf k a) (s.rootOf k) (s.members k ++ [q]) with
      | .refused d => s.refused.putMb m (m.ends .refusedBandwidth d 0)
      | .ok g mw ew => ((s.setCfg k { s.cfg k with g := g, mw := mw, ew := ew }).setShares k).moveStart m c 512 q

/-- The inactive copies of a Cabinet's tables are rebuilt: the projection table stays, and the pins are the engine's (R228, R366). -/
def State.writePins (s : State) (p : Nat) (axons : List Nat) : State :=
  let cur := s.fld (xpnd p) 0x044 0 0
  let pgt (c : Nat) : Nat := spadAt p (s.rdN (xpnd p) 0x05C + c * 0x10000)
  let s := s.store (pgt (1 - cur)) 0x10000 (s.load (pgt cur) 0x10000)
  let s := s.clearBytes (s.pinAt p (1 - cur) 0) (s.pinAt p (1 - cur) 1024)
  (axons.take 1024).zipIdx.foldl (fun s x => s.store (s.pinAt p (1 - cur) x.2) 4 (x.1 % 65536 + 2 ^ 31)) s

/-- R366: the pins are rebuilt and every Cabinet concerned is armed with one EPOCH_AT. -/
def State.rePin (s : State) (k : Nat) (pins : List (Nat × List Nat)) : State :=
  let at' := pins.filterMap fun x => (s.posOf k x.1).map fun p => (p, x.2)
  let sm := at'.foldl (fun a x => max a (s.safe x.1)) 0
  let t := sm + 2 * (s.cfg k).round + (s.cfg k).look
  at'.foldl (fun s x =>
    let s := (s.writePins x.1 x.2).wr64 (xpnd x.1) 0x048 t
    (s.setXp x.1 { s.xp x.1 with epochAt := t }).setFlag (xpnd x.1) 0x044 1 true) s

/-- The rates that a REBALANCE places by: the observed ones or those of the hints. -/
def MbCmd.rates (m : MbCmd) (i : Img) (a b : Nat) : Nat :=
  if (m.arg 0).testBit 0 then ((m.obs.find? fun x => x.1 = a && x.2.1 = b).map (·.2.2)).getD 0 else i.rate a b

/-- R344: the placement the engine would choose afresh, with the partition's own positions free. -/
def State.replace (s : State) (k : Nat) (m : MbCmd) : List (Nat × Nat) :=
  let u := (s.placed k).foldl (fun s e => (cabPages e.2).foldl (State.assign · 0) s) s
  let pos := (u.placeFor (s.img k) (m.rates (s.img k))).getD []
  (s.placed k).filterMap fun e => match pos[e.1]? with
    | some q => if q ≠ e.2 && s.spare q then some (e.1, q) else none
    | none => none

/-- The next move of a REBALANCE, or its end. -/
def State.mbMoves (s : State) (m n : MbCmd) : State :=
  match n.todo with
  | [] => s.putMb m (n.ends .ok 0 0)
  | (c, q) :: rest =>
    match s.posOf n.key c with
    | some p => (s.putMb m { n with todo := rest }).moveStart { n with todo := rest } c p q
    | none => s.putMb m (n.ends .ok 0 0)

/-- REBALANCE (R366): with AUTO_PIN set it re-pins from the misses observed (Table 13.12); the re-pin alone is what ARG0[1] asks for. -/
def State.mbRebalance (s : State) (m : MbCmd) : State :=
  let k := m.key
  if (s.placed k).any fun e => s.flag (xpnd e.2) 0x044 1 then s.mbEnd m .busy
  else if (m.arg 0).testBit 1 then ((s.rePin k m.pins).bumpEp k).mbEnd m .ok
  else
    match s.admission k (s.img k) (m.rates (s.img k)) (s.posOf k) (s.rootOf k) (s.members k) with
    | .refused d => s.refused.putMb m (m.ends .refusedBandwidth d 0)
    | .ok g mw ew =>
      let moves := s.replace k m
      let s := (s.setCfg k { s.cfg k with g := g, mw := mw, ew := ew }).setShares k
      let pin := s.flag pPlc 0x040 1
      let s := if pin then s.rePin k m.pins else s
      let s := if pin && moves.isEmpty then s.bumpEp k else s
      s.mbMoves m { m with todo := moves }

/-- CONSOLIDATE: the marker goes to every Cabinet of the partition (R254). -/
def State.mbConsolidate (s : State) (m : MbCmd) : State :=
  let k := m.key
  let t := m.arg64 0
  if t ≤ s.partS k then s.mbEnd m .staleEpoch
  else
    let ps := (s.placed k).map (·.2)
    if ps.isEmpty then s.mbEnd m .ok
    else
      let s := s.putMb m { m with phase := 1, todo := ps.map fun p => (p, 0) }
      ps.foldl (fun s p => s.inject 0x161 p 3 k 5 (0x20 * 2 ^ 120 + t % 2 ^ 48 * 2 ^ 72)) s

/-- QUERY; a ratio of 256 shows as 255 in the eight bits of RESULT0 (DESIGN CHOICE, log entry 48). -/
def State.mbQuery (s : State) (m : MbCmd) : State :=
  let k := m.key
  let c := s.cfg k
  let r0 := (s.part k).code + c.cls * 2 ^ 3 + b2n c.prot * 2 ^ 5 + min c.short 255 * 2 ^ 8 + (s.placed k).length % 256 * 2 ^ 16
  s.putMb m { m.ends .ok 0 0 with res := [r0, c.ep, s.partS k % 2 ^ 32, s.partS k / 2 ^ 32] }

/-- A command starts: its argument registers are read, and it acts (R349). -/
def State.mbStart (s : State) (m0 : MbCmd) : State :=
  let m := { m0 with args := (List.range 8).map fun i => s.rdN (bur m0.fn) (0x044 + 4 * i), since := s.now }
  let s := s.putMb m0 m
  match s.mbCheck m with
  | some st => s.mbEnd m st
  | none =>
    if m.op = 1 then s.mbConfig m
    else if m.op = 2 then s.putMb m { m with phase := 1 }
    else if m.op = 3 then s.mbPartStart m
    else if m.op = 4 then s.mbStop m
    else if m.op = 5 then s.mbRelease m
    else if m.op = 6 then s.mbMigrate m
    else if m.op = 7 then s.mbPark m
    else if m.op = 8 then s.mbUnpark m
    else if m.op = 9 then s.mbRebalance m
    else if m.op = 10 then s.mbConsolidate m
    else s.mbQuery m

/-- R349: commands start one at a time, in the order of their arrival, once the Bureau accepts them. -/
def State.mbNext (s : State) : State :=
  if s.mbox.any (fun m => decide (1 ≤ m.phase)) || s.isHalted 288 || s.devState ≠ 2 then s
  else match s.mbox.find? (·.phase = 0) with
    | some m => s.mbStart m
    | none => s

/-- R349, R350: a write of MB_CMD in a function's mailbox. -/
def mbWrite (f : Nat) (w : Word) (obs : List (Nat × Nat × Nat)) (pins : List (Nat × List Nat)) (s : State) : State :=
  if s.mbox.any (·.fn = f) then s.setFlag (bur f) 0x064 10 true
  else
    let s := (s.wr (bur f) 0x040 (w &&& 0xFFFF3FFF)).setFld (bur f) 0x064 10 8 2
    let running := s.devState ≠ 2 || s.mbox.any fun m => decide (1 ≤ m.phase) && m.key = w.bits 13 8
    let m : MbCmd := ⟨f, w, [], if running then 5 else 0, if running then .busy else .ok, 0, 0, [], s.now, 0, 0, 0, 0, obs, pins, []⟩
    ({ s with mbox := s.mbox ++ [m] }).mbNext

/-- A write of MB_CMD with an opcode of Table 13.7. -/
def mbCommand (op : Nat) (r : Req) (w : Word) (obs : List (Nat × Nat × Nat)) (pins : List (Nat × List Nat)) (s : State) : Result :=
  gated r (bur r.view) 0x040 s (mbWrite r.view (w.setBits 7 0 op) obs pins)

/-- R354: the mailbox command PART_CONFIG. -/
def execPartConfig (r : Req) (w : Word) (s : State) : Result := mbCommand 0x01 r w [] [] s
/-- R348: IMAGE_LOAD. -/
def execImageLoad (r : Req) (w : Word) (s : State) : Result := mbCommand 0x02 r w [] [] s
/-- R352: PART_START. -/
def execPartStart (r : Req) (w : Word) (s : State) : Result := mbCommand 0x03 r w [] [] s
/-- R353: PART_STOP. -/
def execPartStop (r : Req) (w : Word) (s : State) : Result := mbCommand 0x04 r w [] [] s
/-- R346: PART_RELEASE. -/
def execPartRelease (r : Req) (w : Word) (s : State) : Result := mbCommand 0x05 r w [] [] s
/-- R360: MIGRATE. -/
def execMigrate (r : Req) (w : Word) (s : State) : Result := mbCommand 0x06 r w [] [] s
/-- R363: PARK. -/
def execPark (r : Req) (w : Word) (s : State) : Result := mbCommand 0x07 r w [] [] s
/-- R365: UNPARK. -/
def execUnpark (r : Req) (w : Word) (s : State) : Result := mbCommand 0x08 r w [] [] s
/-- R366: REBALANCE, with what the engine has observed and the pins it chooses. -/
def execRebalance (r : Req) (w : Word) (obs : List (Nat × Nat × Nat)) (pins : List (Nat × List Nat)) (s : State) : Result := mbCommand 0x09 r w obs pins s
/-- R254: CONSOLIDATE. -/
def execConsolidate (r : Req) (w : Word) (s : State) : Result := mbCommand 0x0A r w [] [] s
/-- Table 13.7: QUERY. -/
def execQuery (r : Req) (w : Word) (s : State) : Result := mbCommand 0x0B r w [] [] s

/-! ### Completion -/

/-- R349: a command ends: MB_STATUS with DONE, the status and the tag, the detail and result words, and MB_DONE. -/
def State.mbFinish (s : State) (m : MbCmd) : State :=
  let p := bur m.fn
  let ov := s.fld p 0x064 10 10
  let s := s.wr p 0x064 (BitVec.ofNat 32 ((Config.mbCode m.status.idx).toNat + 2 ^ 8 + ov * 2 ^ 10 + m.tag * 2 ^ 16))
  let s := (s.wrN p 0x068 m.d0).wrN p 0x06C m.d1
  let s := m.res.zipIdx.foldl (fun s x => s.wrN p (0x070 + 4 * x.2) x.1) s
  ({ s with mbox := s.mbox.filter (· ≠ m) }.raise p 0).mbNext

/-- Has the move of a command run to the end of FWD (Table 13.9, step 7)? -/
def State.moveOver (s : State) (m : MbCmd) : Bool := m.phase = 4 && m.moves && (m.src = 512 || !s.flag (rtr m.src) 0x058 31)

/-- R349: a mailbox command of a function completes where what it waits for has happened. -/
def execMailboxCommandDone (f : Nat) (s : State) : Result :=
  let s := s.mbNext
  match s.mbox.find? (·.fn = f) with
  | none => done s
  | some m =>
    if m.phase = 5 then done (s.mbFinish m)
    else if m.op = 4 && m.phase = 1 then
      let d := (m.arg 2).testBit 0
      if s.stopReady m.key d then done ((s.stopped m.key d).mbFinish m) else done s
    else if m.op = 3 && m.phase = 1 then
      let s := s.mbStartGo m
      match s.mbox.find? (fun n => n.fn = f && n.phase = 5) with
      | some n => done (s.mbFinish n)
      | none => done s
    else if s.moveOver m then
      let s := (s.moveEnd m).mbMoves m { m with phase := 1, src := 0, dst := 0 }
      match s.mbox.find? (fun n => n.fn = f && n.phase = 5) with
      | some n => done (s.mbFinish n)
      | none => done s
    else done s

/-- An image load in progress of a function. -/
def State.imagePull (s : State) (f : Nat) : Option MbCmd := s.mbox.find? fun m => m.fn = f && m.op = 2 && m.phase = 1

/-- Table 13.7: an image load not finished within 60 s completes with TIMEOUT. -/
def execImageLoadTimeout (f : Nat) (s : State) : Result :=
  match s.imagePull f with
  | some m => if s.now < m.since + 60 * 32000000000 then done s else done (s.mbEnd m .timeout)
  | none => done s

/-- R410: a read of the image that fails completes the command with TIMEOUT and MB_DETAIL0 = 0x8000_0001. -/
def State.imageLost (s : State) (f : Nat) : State :=
  match s.imagePull f with
  | some m => s.putMb m (m.ends .timeout 0x80000001 0)
  | none => s

/-- R348, R410: the image has arrived, or its read has failed. -/
def State.imageRead (s : State) (f : Nat) (d : DmaRead) : State :=
  match s.imagePull f, d with
  | some m, .data v => State.mbOut m (s.imageLoad m.key ⟨v, m.arg64 2⟩)
  | _, _ => s.imageLost f

/-- Table 15.9: AER reports a poisoned completion of a device read; PCI Express gives none for a completion with UR. -/
def State.readReport (s : State) (f : Nat) : DmaRead → State
  | .poisoned => s.aer f .poisoned
  | _ => s

/-- R410: a read of host memory by the device completes. -/
def execDmaReadCompletion (w : DmaFor) (d : DmaRead) (s : State) : Result :=
  match w with
  | .ring f i => done ((s.readReport f d).ringRead f i d)
  | .image f => done ((s.readReport f d).imageRead f d)

/-- R410: a read of host memory by the device is not completed in time. -/
def execCompletionTimeout (w : DmaFor) (s : State) : Result :=
  match w with
  | .ring f i => done ((s.aer f .completionTimeout).ringRead f i .ur)
  | .image f => done ((s.aer f .completionTimeout).imageLost f)

/-! ### Function level reset -/

/-- R389: a partition stops at once without records, and is released. A command that acts on it ends with FAULTED (DESIGN CHOICE, log entry 48). -/
def State.freePart (s : State) (k : Nat) : State :=
  let s := { s with mbox := s.mbox.map fun m => if m.key = k && decide (1 ≤ m.phase) && decide (m.phase ≤ 4) then m.ends .faulted 0 0 else m }
  if s.part k = .free then s else ((s.stopped k true).partRelease k)

/-- R389: a function's rings, MSI-X state and mailbox are cleared. -/
def State.clearFn (s : State) (f : Nat) : State :=
  let s := { s with rings := s.rings.filter (fun e => e.1 / 1024 ≠ f), mbox := s.mbox.filter (·.fn ≠ f), d3hot := SMap.set (fun _ => false) s.d3hot f false }
  (s.setMsix f Msix.reset).resetPage (bur f)

/-- R389: a function level reset: of a VF, or of the PF, which frees every partition and clears the stack window too. -/
def execFlr (f : Nat) (s : State) : Result :=
  if 64 ≤ f || !s.powered then done s
  else if f = 0 then
    let s := (List.range 63).foldl (fun s k => s.freePart (k + 1)) { s with recov := [] }
    let s := (List.range 64).foldl (fun s i => s.wr (hq 0) (0x100 + 4 * i) 0) s
    done ((List.range 64).foldl (fun s k => s.clearFn k) s).mbNext
  else done (({ s with recov := s.recov.filter (·.key ≠ f) }.freePart f).clearFn f).mbNext

end Sys2Proof.Machine
end

