-- ==== Sys2Proof/Machine/Register.lean ====
section
/-!
DEFINITION. Register.lean: register accesses as they arrive: BAR0 (R390, R391), the parity of the register bus (R424), the common page header (R394 to
R401), and the write of any register (R8, R10), with the rule of its block where the chapters give one.
-/

namespace Sys2Proof.Machine

/-! ### Soft reset -/

/-- The memory of a sparse table without the keys in [lo, hi). -/
def SMap.cut {α : Type} (m : SMap α) (lo hi : Nat) : SMap α := m.filter fun e => !(decide (lo ≤ e.1) && decide (e.1 < hi))

/-- R401: what a block holds beside its registers returns to its reset state (log entry 50): memories keep their contents, and what other blocks show
on the page stays. -/
def State.resetBlock (s : State) (p : Page) : State :=
  let i := p.inst
  let c := s.cab i
  match p.blk with
  | .chtmr => { s with timers := SMap.cut s.timers p.key (p.key + 4096) }
  | .chin => s.setChan i Chan.reset
  | .chenc => s.setChan i { s.chan i with units := [], bands := [], secs := [], projs := [], mark := 0, formed := [] }
  | .chdec => s.setDec i Dec.reset
  | .rtr => { s.setRob i [] with partials := SMap.cut s.partials i (i + 1), net := s.net.filter (·.pos ≠ i), redIn := s.redIn.filter (·.pos ≠ i),
                                 links := SMap.cut s.links (40 * i) (40 * (i + 1)) }
  | .d2d => { s with d2dReplays := SMap.cut s.d2dReplays (2 * i) (2 * i + 2), d2dRetried := SMap.cut s.d2dRetried i (i + 1) }
  | .hut0 | .hut1 => s.setHutch i Hutch.reset
  | .cctl => s.coreReset i
  | .qmgr => s.setQm i Cab.reset.q
  | .drw => s.setCab (i / 4) { s.cab (i / 4) with drwIn := (s.cab (i / 4)).drwIn.filter (·.1 ≠ i % 4) }
  | .trs => (s.setCab (i / 2) { s.cab (i / 2) with trsIn := (s.cab (i / 2)).trsIn.filter (·.1 ≠ i % 2) }).setWin (i / 2) (i % 2) []
  | .xpnd => s.setCab i { c with xIn := none, x := { Xp.reset with step := c.x.step, dlv := c.x.dlv, held := c.x.held, ldq := c.x.ldq, spill := c.x.spill } }
  | .hzn => { s.setCab i { c with floorHeld := [], x := { c.x with step := none, held := false, ldq := [], spill := [] } } with
              sources := SMap.cut s.sources (512 * s.cabKey i + i) (512 * s.cabKey i + i + 1) }
  | .obs => { s with freeze := ⟨false, false, false, none, 0, 0⟩, traces := [] }
  | .hq => { s with rings := SMap.cut s.rings (1024 * i) (1024 * (i + 1)), routes := s.routes.filter fun e => decide (s.pageFn (pageOfKey e.1) ≠ i) }
  | .intg => { s with logs := SMap.cut s.logs i (i + 1) }
  | .bur =>
    let t := (s.mbox.filter fun m => m.fn = i && m.moves && decide (1 ≤ m.phase) && decide (m.phase ≤ 4)).foldl State.moveAbandon s
    { t with mbox := t.mbox.filter (·.fn ≠ i) }
  | _ => s

/-- The registers of a page that show the state of the device and outlast a soft reset of the page (log entry 50). -/
def State.resetRegs (s : State) (p : Page) : State :=
  if p.blk = .dev then [0x04C, 0x050, 0x054].foldl (fun t o => t.wr p o (s.rd p o)) (s.resetPage p)
  else if p.blk = .drw then
    [0x054, 0x058, 0x05C, 0x060, 0x070, 0x074].foldl (fun t o => t.wr p o (s.rd p o)) (((s.resetPage p).setFlag p 0x00C 2 (s.flag p 0x00C 2)).setFlag p 0x00C 3 (s.flag p 0x00C 3))
  else if p.blk = .chtmr && s.flag (chin p.inst) 0x088 0 then (s.resetPage p).setFld p 0x100 9 4 (1 + 4 * 2)
  else if p.blk = .hut0 || p.blk = .hut1 then
    ((((s.resetPage (hut0 p.inst)).resetPage (hut1 p.inst)).wr (hut0 p.inst) 0x048 (s.rd (hut0 p.inst) 0x048)).setFlag (hut0 p.inst) 0x00C 2
      (s.flag (hut0 p.inst) 0x00C 2))
  else s.resetPage p

/-- R401, R40: a write of PG_CTRL.SOFT_RESET: refused while the owning partition runs; TIME has a rule of its own. -/
def State.softReset (s : State) (p : Page) : State :=
  if p.blk = .time0 || p.blk = .time1 then
    if s.anyPlaced || s.anyChannel then s.err pTime 5 0x011 0x008 else timeSoftReset s
  else if !s.partStopped (s.owner p) then s.refuse p 0x008
  else ((s.resetBlock p).resetRegs p).setFlag p 0x008 1 true

/-- A write of PG_CTRL (Table 15.5). -/
def ctrlWrite (p : Page) (w : Word) (s : State) : State :=
  if w.bit 1 then s.softReset p
  else if p.blk = .chin then chanCtrlWrite p.inst w s
  else plainWrite p 0x008 w s

/-- R401: a write of PG_CTRL with SOFT_RESET set. -/
def execSoftReset (r : Req) (p : Page) (w : Word) (s : State) : Result := gated r p 0x008 s (ctrlWrite p (w.setBits 1 1 1))

/-- R401: the soft reset of a page's block completes. -/
def execSoftResetDone (p : Page) (s : State) : Result :=
  if p.blk = .time0 || p.blk = .time1 then done ((s.setFlag pTime 0x008 1 false).setFlag pTimers 0x008 1 false)
  else done (s.setFlag p 0x008 1 false)

/-! ### The common page header -/

/-- The causes of a word that the block defines. -/
def causesOf (p : Page) (w : Word) : Word := w &&& BitVec.ofNat 32 p.blk.causes

/-- R396: a write of PG_IRQ_SET sets causes, for test. -/
def irqSet (p : Page) (w : Word) (s : State) : State := s.wr p 0x010 (s.rd p 0x010 ||| causesOf p w)

/-- R396: a write of ones to PG_IRQ_RAW clears causes; a timer's tick of the same edge comes first (R48). Clearing LEVEL of a QMGR page clears the crossings it stood for (R301). -/
def irqClear (p : Page) (w : Word) (s : State) : State :=
  let s := s.settlePage p
  let s := s.wr p 0x010 (s.rd p 0x010 &&& ~~~w)
  if p.blk = .qmgr && w.bit 0 then
    s.setQm p.inst { s.qm p.inst with ctx := (s.qm p.inst).ctx.foldl (fun (m : SMap QCtx) e => SMap.set (fun _ => QCtx.reset) m e.1 { e.2 with crossed := false }) [] }
  else s

/-- The pages that change owner together: the four pages of a channel (R58), or the page alone. -/
def ownerPages (p : Page) : List Page :=
  match p.blk with
  | .chin | .chenc | .chdec | .chtmr => [⟨.chin, p.inst⟩, ⟨.chenc, p.inst⟩, ⟨.chdec, p.inst⟩, ⟨.chtmr, p.inst⟩]
  | _ => [p]

/-- R398: a write of PG_OWNER: by the PF only between partition 0 and FREE partitions; a VF's is an error (R392), and so is a core's (R289). -/
def ownerWrite (r : Req) (p : Page) (w : Word) (s : State) : State :=
  let k := w.bits 5 0
  let free (j : Nat) : Bool := j = 0 || s.part j = .free
  match r with
  | .bureau => (ownerPages p).foldl (fun s q => s.assign k q) s
  | .core c => s.errIntg (s.cabKey c) 6 0x102 (s.viewSlot (s.cabKey c) p)
  | .fn f =>
    if f ≠ 0 then s.errIntg f 6 0x102 (s.viewSlot f p)
    else if free (s.owner p) && free k then (ownerPages p).foldl (fun s q => s.assign k q) s
    else s.refuse p 0x028

/-- R399: a write of PG_LOCK: the key is replaced where the compare value matches; a core's write is dropped (R289). -/
def lockWrite (r : Req) (p : Page) (w : Word) (s : State) : State :=
  match r with
  | .core c => s.errIntg (s.cabKey c) 6 0x102 (s.viewSlot (s.cabKey c) p)
  | _ =>
    if w.bits 15 0 = s.lockKey p then { s with locks := SMap.set (fun _ => 0) s.locks p.key (w.bits 31 16) }
    else s.err p 5 0x002 0

/-- A write of a register of the common header. -/
def headerWrite (r : Req) (p : Page) (off : Nat) (w : Word) (s : State) : State :=
  if off = 0x008 then ctrlWrite p w s
  else if off = 0x010 then irqClear p w s
  else if off = 0x014 then s.wr p 0x014 (causesOf p w)
  else if off = 0x01C then irqSet p w s
  else if off = 0x028 then ownerWrite r p w s
  else if off = 0x02C then lockWrite r p w s
  else if off = 0x030 then pgPwrWrite r p w s
  else plainWrite p off w s

/-- R398: a write of PG_OWNER. -/
def execPgOwnerWrite (r : Req) (p : Page) (w : Word) (s : State) : Result := gated r p 0x028 s (ownerWrite r p w)
/-- R399: a write of PG_LOCK. -/
def execPgLockWrite (r : Req) (p : Page) (w : Word) (s : State) : Result := gated r p 0x02C s (lockWrite r p w)
/-- R396: a write of PG_IRQ_SET. -/
def execPgIrqSet (r : Req) (p : Page) (w : Word) (s : State) : Result := gated r p 0x01C s (irqSet p w)
/-- R396: a write of PG_IRQ_RAW. -/
def execPgIrqRawClear (r : Req) (p : Page) (w : Word) (s : State) : Result := gated r p 0x010 s (irqClear p w)
/-- R397: a write of PG_ERR_INFO: a one in bit 31 clears VALID. -/
def execPgErrInfoClear (r : Req) (p : Page) (w : Word) (s : State) : Result := gated r p 0x020 s (plainWrite p 0x020 w)

/-! ### Registers of the blocks with a rule of their own -/

/-- A plain write, refused with code 0x013 unless the owning partition is stopped. -/
def stoppedWrite (p : Page) (off : Nat) (w : Word) (s : State) : State :=
  if s.partStopped (s.owner p) then plainWrite p off w s else s.refuse p off

/-- The TIME pages (R56). -/
def timeWrite (p : Page) (off : Nat) (w : Word) (s : State) : State :=
  if p.blk = .time0 then
    if off = 0x050 then timeCtrlWrite w s
    else if 0x090 ≤ off && off < 0x100 && (off - 0x090) % 0x20 = 0 then trigEvtWrite ((off - 0x090) / 0x20) w s
    else plainWrite p off w s
  else if 0x100 ≤ off && isTimer p ((off - 0x100) / 0x40) then
    let i := (off - 0x100) / 0x40
    let s := s.settleTick p i
    if (off - 0x100) % 0x40 = 0 then tmrCtrlWrite p i w s
    else if (off - 0x100) % 0x40 = 4 then tmrPeriodWrite p i w s
    else if (off - 0x100) % 0x40 = 0x10 then
      irqClear p (BitVec.ofNat 32 (b2n (w.bit 0) * 2 ^ i + b2n (w.bit 1) * 2 ^ (16 + i))) (plainWrite p off (w &&& 4) s)
    else plainWrite p off w s
  else plainWrite p off w s

/-- The RTR page (R151, R141, R150). -/
def rtrWrite (i off : Nat) (w : Word) (s : State) : State :=
  if 0x100 ≤ off && off < 0x200 then s.shareWrite i off w
  else if off = 0x058 then let t := plainWrite (rtr i) off w s; t.setFwd i (t.rd (rtr i) off)
  else plainWrite (rtr i) off w s

/-- The HUT pages (R385): PC_RETIRE, RELAYOUT, IMB_ALARM, and the region table, which the Bureau writes (R369) and which has no entry beyond the grade's
regions (R1, R3). -/
def hutWrite (r : Req) (p : Page) (off : Nat) (w : Word) (s : State) : State :=
  if p.blk = .hut0 then
    if off = 0x04C then pcRetireWrite p.inst w s
    else if off = 0x080 then relayoutWrite p.inst w s
    else if off = 0x07C then (if w.bit 31 then s else (s.setFlag p 0x07C 31 false).setFlag p 0x00C 1 false)
    else plainWrite p off w s
  else if 0x100 ≤ off && off < 0x1C0 && !r.isBureau then s.refuse p off
  else if 0x100 ≤ off && off < 0x1C0 && decide (s.regionCount ≤ (off - 0x100) / 8) then s
  else plainWrite p off w s

/-- The INTG page of a view (R447): the counters of the selected checkpoint clear in their journal. -/
def intgWrite (f off : Nat) (w : Word) (s : State) : State :=
  match s.ckptSel f with
  | some (k, c) =>
    let j := s.journal k c
    if off = 0x09C then s.setJournal k c { j with late := 0 }
    else if off = 0x0A4 then s.setJournal k c { j with hwm := 0 }
    else if off = 0x0A8 then s.setJournal k c { j with full := 0 }
    else if off = 0x0AC then s.setCfg k { s.cfg k with left := 0 }
    else plainWrite (intg f) off w s
  | none => plainWrite (intg f) off w s

/-- The OBS page (R499): the trace registers take writes while the trace is disabled (log entry 28). -/
def obsWrite (off : Nat) (w : Word) (s : State) : State :=
  if off = 0x044 then freezeCtrlWrite w s
  else if off = 0x064 then cntClearWrite pObs w s
  else if off = 0x090 then snapCmdWrite w s
  else if 0x100 ≤ off && off < 0x500 then engineClear pObs off s
  else if 0x070 ≤ off && off < 0x088 && s.flag pObs 0x070 0 then
    (if off = 0x070 && !w.bit 0 then s.setFlag pObs 0x070 0 false else s.refuse pObs off)
  else plainWrite pObs off w s

/-- R402: a write of IRQ_ROUTE for the selected page. TO_PF is the PF's to write, and a vector at or above the count is reserved. -/
def routeWrite (f : Nat) (w : Word) (s : State) : State :=
  match s.routePage f with
  | none => s.errIntg f 6 0x102 (s.fld (hq f) 0x074 13 0)
  | some p =>
    let old := s.route p
    let toPf := if f = 0 then w.bit 14 else old.bit 14
    let count := if toPf then 2048 else vectorCount (s.pageFn p)
    let bad := decide (count ≤ w.bits 10 0)
    let new := ((if bad then old else old.setBits 10 0 (w.bits 10 0)).setBits 14 14 (b2n toPf)).setBits 15 15 (w.bits 15 15)
    let s := s.setRoute p new
    let s := if bad then s.badEnc (hq f) 0x078 else s
    if f ≠ 0 && w.bit 14 ≠ old.bit 14 then s.errIntg f 6 0x102 9 else s

/-- The HQ page of a view (R422). -/
def hqWrite (f off : Nat) (w : Word) (s : State) : State :=
  if off = 0x044 then ringCfgWrite f w s
  else if 0x048 ≤ off && off ≤ 0x058 then ringRegWrite f off w s
  else if off = 0x068 then ringCmdWrite f w s
  else if off = 0x078 then routeWrite f w s
  else if off = 0x07C then vecEoiWrite f w s
  else if f ≠ 0 && (off = 0x080 || 0x100 ≤ off) then s
  else plainWrite (hq f) off w s

/-- R312: a write of CORE_CTRL: RUN is taken from partition 0 at any time and from the owner while the partition is stopped; HANG_SNAP always. RUN from 0
to 1 starts the core at RESET_PC with mstatus.MIE = 0 (R292), and RUN = 0 resets it. -/
def coreCtrlWrite (r : Req) (p : Nat) (w : Word) (s : State) : State :=
  let was := s.flag (cctl p) 0x040 0
  let s := s.setFlag (cctl p) 0x040 1 (w.bit 1)
  if !r.isPf && !s.partStopped (s.owner (cctl p)) then (if w.bit 0 = was then s else s.refuse (cctl p) 0x040)
  else if !w.bit 0 then s.coreReset p
  else if was && s.coreState p ≠ 3 then s
  else
    let pc : Word := BitVec.ofNat 32 (s.fld (cctl p) 0x044 21 1 * 2)
    (((s.coreReset p).setFlag (cctl p) 0x040 0 true).setFld (cctl p) 0x00C 1 0 1).setCore p { Core.reset with pc := pc }

/-- R312: a write of CORE_CTRL. -/
def execCoreRunWrite (r : Req) (p : Nat) (w : Word) (s : State) : Result := gated r (cctl p) 0x040 s (coreCtrlWrite r p w)

/-- The CCTL page (R311, R312). -/
def cctlWrite (r : Req) (p off : Nat) (w : Word) (s : State) : State :=
  if off = 0x040 then coreCtrlWrite r p w s
  else if off = 0x044 || off = 0x054 then
    if r.isPf || s.partStopped (s.owner (cctl p)) then plainWrite (cctl p) off w s else s.refuse (cctl p) off
  else if off = 0x068 then hostSignalWrite p w s
  else if off = 0x06C then stoppedWrite (cctl p) off w s
  else plainWrite (cctl p) off w s

/-- The QMGR page (R311). -/
def qmgrWrite (r : Req) (p off : Nat) (w : Word) (s : State) : State :=
  if off = 0x054 then ctxCmdWrite r p w .clean s
  else if off = 0x084 then
    let i := 64 * s.fld (qmgr p) 0x080 7 0 + s.fld (qmgr p) 0x080 13 8
    s.setQm p { s.qm p with mc := SMap.set (fun _ => (0 : Word)) (s.qm p).mc i (w &&& 0x800FFFFF) }
  else plainWrite (qmgr p) off w s

/-- The registers of the HZN page that take writes only while the partition is stopped (R193, R206). -/
def hznStopped (off : Nat) : Bool := (0x044 ≤ off && off ≤ 0x054) || off = 0x070 || (0x0A0 ≤ off && off ≤ 0x0B0)

/-- The HZN page (R205, R206). ROUND is a multiple of 256, 1,024 or more (R194). -/
def hznWrite (p off : Nat) (w : Word) (s : State) : State :=
  if hznStopped off then
    if !s.partStopped (s.owner (hzn p)) then s.refuse (hzn p) off
    else if off = 0x044 && (w.bits 19 0 % 256 ≠ 0 || w.bits 19 0 < 1024) then s.badEnc (hzn p) off
    else plainWrite (hzn p) off w s
  else plainWrite (hzn p) off w s

/-- The registers of the XPND page that take writes only while the partition is stopped (R238). -/
def xpndStopped (off : Nat) : Bool := off = 0x040 || (0x050 ≤ off && off ≤ 0x064) || off = 0x06C || (0x100 ≤ off && off < 0x1FC)

/-- The XPND page (R237, R238). -/
def xpndWrite (p off : Nat) (w : Word) (s : State) : State :=
  if off = 0x044 then epochWrite p w s
  else if xpndStopped off then
    let t := stoppedWrite (xpnd p) off w s
    if (off = 0x060 || off = 0x064) && s.partStopped (s.owner (xpnd p)) then t.applyPins p else t
  else plainWrite (xpnd p) off w s

/-- The DRW page (R181, R163). -/
def drwWrite (r : Req) (p d off : Nat) (w : Word) (s : State) : State :=
  if off = 0x040 then drwCtrlWrite r p d w s
  else if off = 0x06C then drwWinWrite p d .clean w s
  else if 0x100 ≤ off && off < 0x300 && off % 0x20 < 0x18 && !s.drwWritable p d then s.refuse (drw p d) off
  else plainWrite (drw p d) off w s

/-- The TRS page (R280). -/
def trsWrite (r : Req) (p t off : Nat) (w : Word) (s : State) : State :=
  if off = 0x040 then trsCtrlWrite r p t w s
  else if off = 0x07C then trsWinWrite p t w s
  else plainWrite (trs p t) off w s

/-- The PWR page (R483). -/
def pwrWrite (r : Req) (off : Nat) (w : Word) (s : State) : State :=
  if off = 0x044 then devReqWrite w s
  else if off = 0x050 then domReqWrite r w s
  else if off = 0x058 then domClkswWrite w s
  else plainWrite pPwr off w s

/-- A write of a register above the common header, by the rule of its block. -/
def blockWrite (r : Req) (p : Page) (off : Nat) (w : Word) (s : State) : State :=
  let i := p.inst
  match p.blk with
  | .dev => if off = 0x048 then devCtrlWrite r w s.cleanStart s else plainWrite p off w s
  | .bur => if off = 0x040 then mbWrite i w [] [] s else plainWrite p off w s
  | .pwr => pwrWrite r off w s
  | .time0 | .time1 | .chtmr => timeWrite p off w s
  | .intg => intgWrite i off w s
  | .obs => obsWrite off w s
  | .bist => if off = 0x040 then bistCtrlWrite w s else plainWrite p off w s
  | .hq => hqWrite i off w s
  | .chin => chinWrite i off w s
  | .chenc => chencWrite i off w s
  | .chdec => chdecWrite i off w s
  | .hut0 | .hut1 => hutWrite r p off w s
  | .cctl => cctlWrite r i off w s
  | .qmgr => qmgrWrite r i off w s
  | .spad => if off = 0x040 || off = 0x044 then bankPwrWrite r i off w s else plainWrite p off w s
  | .drw => drwWrite r (i / 4) (i % 4) off w s
  | .trs => trsWrite r (i / 2) (i % 2) off w s
  | .xpnd => xpndWrite i off w s
  | .hzn => hznWrite i off w s
  | .rtr => rtrWrite i off w s
  | .cobs => if off = 0x044 then cntClearWrite p w s else if 0x100 ≤ off && off < 0x460 then engineClear p off s else plainWrite p off w s
  | .plc => plainWrite p off w s
  | .d2d => if off = 0x040 then d2dCtrlWrite i w (s.lanesFailed i) (s.fld p 0x048 23 0) s else plainWrite p off w s

/-- A register write that has passed the gate: the header, the halves of a writable wide register (R55), an offset that a legacy page does not hold
(R418), or the rule of the block. -/
def regWrite (r : Req) (p : Page) (off : Nat) (w : Word) (s : State) : State :=
  if off < 0x040 then headerWrite r p off w s
  else if s.legacyHides p off then s.badEnc p off
  else if isWideWritable p off then stageLow p off w s
  else if 4 ≤ off && isWideWritable p (off - 4) then
    (if p.blk = .hzn then floorCommit p.inst w s else commitWide p (off - 4) w s)
  else blockWrite r p off w s

/-! ### Reads -/

/-- R448: a read of LOG_TIME_LO takes the oldest entry of the view's log, and latches the rest of it. -/
def logPop (f : Nat) (s : State) : Nat × State :=
  match s.log f with
  | [] => (0, s.setFlag (intg f) 0x050 31 false)
  | e :: l =>
    let s := { s with logs := SMap.set (fun _ => []) s.logs f l }
    (e.time % 2 ^ 32, (((s.wrN (intg f) 0x048 (e.time / 2 ^ 32)).wr (intg f) 0x04C e.info).wr (intg f) 0x050 e.src))

/-- R448: a read of INTG.LOG_TIME_LO in a function's view. -/
def execErrorLogPop (r : Req) (s : State) : Result := gatedRead r (intg r.view) s (logPop r.view)

/-- The registers whose read takes something away or snapshots it, and what it does where no memory check finds an error. -/
def popRead (r : Req) (p : Page) (off : Nat) : Option (State → Nat × State) :=
  match p.blk with
  | .time1 | .chtmr => if 0x100 ≤ off && (off - 0x100) % 0x40 = 0x18 && isTimer p ((off - 0x100) / 0x40) then some (capturePop r p ((off - 0x100) / 0x40)) else none
  | .chin => if off = 0x0A8 then some (sfifoPop p.inst .clean) else none
  | .chdec => if off = 0x0D4 then some (rfPop p.inst .clean) else none
  | .qmgr => if off = 0x044 then some (ctxRead p.inst .clean) else if off = 0x060 then some (headRead p.inst .clean .clean) else none
  | .drw => if off = 0x06C then some (drwWinRead (p.inst / 4) (p.inst % 4) .clean) else none
  | .trs => if off = 0x07C then some (trsWinRead (p.inst / 2) (p.inst % 2) .clean) else none
  | .intg => if off = 0x044 then some (logPop p.inst) else none
  | _ => none

/-- A read of a register that reaches its page. -/
def readAny (r : Req) (p : Page) (off : Nat) (s : State) : Nat × State :=
  if !s.present p || (match r with | .fn f => !s.reaches f p | _ => false) then (0, s)
  else match popRead r p off with
    | some g => if s.awake p && !s.flag p 0x008 1 && !s.legacyHides p off then g s else (0, s)
    | none => readRegister r p off s

/-- R294: what the error check of the queue manager's private RAM finds in a read of OCC or MC_ENTRY. -/
def State.readCheck (s : State) (r : Req) (p : Page) (off : Nat) : Bus → State
  | .word ecc =>
    if p.blk ≠ .qmgr || s.readUr r p || !s.readable r p || s.flag p 0x008 1 then s
    else if off = 0x058 then s.ctxCheck p.inst (s.fld p 0x040 11 0) ecc
    else if off = 0x084 then s.mcCheck p.inst (s.fld p 0x080 7 0) ecc
    else s
  | _ => s

/-! ### Accesses as they arrive -/

/-- R424: a parity error on the register bus at a page slot: recorded and raised on the INTG page. At a page of a paired channel it is a detected fault
of the channel (R87). -/
def State.busParity (s : State) (f slot : Nat) : State :=
  let t := s.errIntg f 2 0x100 slot
  let t := match s.slotPage f slot with
    | some p => if p.dom < 292 || 308 ≤ p.dom then t else t.pairFault p.inst s.now s.now
    | none => t
  if f = 0 then t.raise (intg 0) 8 else (t.raise (intg 0) 8).raise (intg f) 8

/-- R391: the page slots of Table 15.4 that a VF's view lists and the function does not own. -/
def vfForeign (slot : Nat) : Bool :=
  (2 ≤ slot && slot ≤ 5) || slot = 7 || slot = 8 || (0x80 ≤ slot && slot < 0x88) || (0x90 ≤ slot && slot < 0x96) ||
  (0x1000 ≤ slot && slot < 0x2000 && slot % 16 < 13)

/-- R388, R389, R412, R413: does a BAR0 access of a function at a page slot get an answer? -/
def State.barOpen (s : State) (f slot : Nat) : Bool :=
  s.powered && !s.inD3 f && (s.devState = 2 || (s.devState = 1 && slot ≤ 1) || (s.devState = 0 && s.holdCause = 0 && slot = 0))

/-- R390: is the access 4 or 8 bytes, aligned to its size? -/
def barLegal (off size : Nat) : Bool := (size = 4 || size = 8) && off % size = 0

/-- One 4-byte write at a BAR0 offset. -/
def barWord (f off : Nat) (w : Word) (bus : Bus) (s : State) : State :=
  let slot := off / 4096
  if bus = .parity then s.busParity f slot
  else if 0x60 ≤ slot && slot < 0x68 then
    (if (off - 0x60000) / 16 < vectorCount f then s.msixTableWrite f ((off - 0x60000) / 16) (off / 4 % 4) w else s)
  else match s.slotPage f slot with
    | some p => match s.gate (.fn f) p (off % 4096) with
      | .pass => regWrite (.fn f) p (off % 4096) w s
      | .drop t => t
      | .ur => s
    | none => if f ≠ 0 && vfForeign slot then s.errIntg f 6 0x102 slot else s

/-- R390, R410, R424: a write through BAR0. -/
def barWrite (f off size v : Nat) (bus : Bus) (s : State) : Result :=
  let s := s.received f bus
  if s.discards bus then done s
  else if !s.barOpen f (off / 4096) then unsupported f s
  else busChecked f bus s <|
    if !barLegal off size then done (s.errIntg f 5 0x101 (off / 4096))
    else if size = 4 then done (barWord f off (BitVec.ofNat 32 v) bus s)
    else done (barWord f (off + 4) (BitVec.ofNat 32 (v / 2 ^ 32)) bus (barWord f off (BitVec.ofNat 32 v) bus s))

/-- One 4-byte read at a BAR0 offset. -/
def barRead1 (f off : Nat) (s : State) : Nat × State :=
  let slot := off / 4096
  if 0x60 ≤ slot && slot < 0x68 then
    (if (off - 0x60000) / 16 < vectorCount f then (((s.msixOf f).word ((off - 0x60000) / 16) (off / 4 % 4)).toNat, s) else (0, s))
  else if slot = 0x68 then
    ((List.range 32).foldl (fun a i => a + b2n ((s.msixOf f).pend.contains (32 * ((off - 0x68000) / 4) + i)) * 2 ^ i) 0, s)
  else match s.slotPage f slot with
    | some p => readAny (.fn f) p (off % 4096) s
    | none => (0, s)

/-- R424: a read whose data has a parity error completes to a function poisoned, with data the spec does not fix, and to the Bureau, or a control core,
as a bus error. -/
def State.readParity (s : State) (r : Req) (slot : Nat) : Result :=
  let t := s.busParity r.view slot
  match r with
  | .fn _ => answer t.draw.2 (.poisoned (t.draw.1.toNat % 2 ^ 32))
  | _ => answer t .busError

/-- R294: that check for a read through BAR0. -/
def State.barCheck (s : State) (f off : Nat) (bus : Bus) : State :=
  match s.slotPage f (off / 4096) with
  | some p => s.readCheck (.fn f) p (off % 4096) bus
  | none => s

/-- R390, R410, R424: a read through BAR0. -/
def barRead (f off size : Nat) (bus : Bus) (s : State) : Result :=
  let s := s.received f bus
  if s.discards bus then done s
  else if !s.barOpen f (off / 4096) || !barLegal off size then unsupported f s
  else if bus = .parity then s.readParity (.fn f) (off / 4096)
  else
    let s := s.barCheck f off bus
    if size = 4 then answer (barRead1 f off s).2 (.data (barRead1 f off s).1)
    else
    let a := barRead1 f off s
    let b := barRead1 f (off + 4) a.2
    answer b.2 (.data (a.1 + b.1 * 2 ^ 32))

/-- R8, R10, R390: a register write: through BAR0, or at a page and an offset. -/
def execRegisterWrite (r : Req) (t : Target) (v : Nat) (bus : Bus) (s : State) : Result :=
  match t with
  | .bar off size => match r with
    | .fn f => barWrite f off size v bus s
    | _ => done s
  | .bar2 off size => match r with
    | .fn f => bar2Write f off size (BitVec.ofNat 32 v) bus s
    | _ => done s
  | .reg p off =>
    let s := s.received r.view bus
    if off % 4 ≠ 0 || 4096 ≤ off || s.discards bus then done s
    else match s.gate r p off with
      | .ur => unsupported r.view s
      | .drop t => busChecked r.view bus s (done t)
      | .pass => busChecked r.view bus s (if bus = .parity then done (s.busParity r.view (s.viewSlot r.view p)) else done (regWrite r p off (BitVec.ofNat 32 v) s))

/-- R29, R53, R390: a read of a register, wide ones among them: through BAR0, or at a page and an offset. -/
def execWideLowRead (r : Req) (t : Target) (bus : Bus) (s : State) : Result :=
  match t with
  | .bar off size => match r with
    | .fn f => barRead f off size bus s
    | _ => done s
  | .bar2 _ _ => match r with
    | .fn f => bar2Read f bus s
    | _ => done s
  | .reg p off =>
    let s := s.received r.view bus
    if off % 4 ≠ 0 || 4096 ≤ off || s.discards bus then done s
    else if s.readUr r p then unsupported r.view s
    else if bus = .parity then s.readParity r (s.viewSlot r.view p)
    else
      let s := s.readCheck r p off bus
      answer (readAny r p off s).2 (.data (readAny r p off s).1)

end Sys2Proof.Machine
end

