-- ==== Sys2Proof/Machine/Riscv.lean ====
section
/-!
DEFINITION. Riscv.lean: the instructions of the control core: RV32I with M, C and Zicsr as the RISC-V specifications define them (R288; the encodings
are PRESUMED from there, log entry 51), and the queue instructions of Table 11.7. A compressed instruction decodes to the instruction it stands for.
-/

namespace Sys2Proof

/-- An instruction of the control core, with its register numbers and its sign-extended immediate. The numbers `f` are the funct3 codes. -/
inductive CoreOp where
  | lui (rd : Nat) (imm : Word)
  | auipc (rd : Nat) (imm : Word)
  | jal (rd : Nat) (off : Word)
  | jalr (rd rs1 : Nat) (off : Word)
  | branch (f rs1 rs2 : Nat) (off : Word)
  | load (f rd rs1 : Nat) (off : Word)
  | store (f rs1 rs2 : Nat) (off : Word)
  | alui (f : Nat) (alt : Bool) (rd rs1 : Nat) (imm : Word)
  | alu (f : Nat) (alt : Bool) (rd rs1 rs2 : Nat)
  | mul (f rd rs1 rs2 : Nat)
  | fence
  | csr (f rd src n : Nat)
  | mret
  | ebreak
  /-- Table 11.7: 0 QSEND, 1 QSEND.T, 2 QRECV, 3 QPEEK, 4 QMCAST, 5 HZWAIT, 6 EVINJ. -/
  | queue (kind rd rs1 rs2 rs3 : Nat)
  | illegal
  deriving DecidableEq, Repr

namespace Machine

/-- An `n`-bit code, sign-extended to a word. -/
def sext (n v : Nat) : Word := (BitVec.ofNat n v).signExtend 32

/-! ### 32-bit instructions -/

/-- Table 11.7: custom-0. -/
def decodeCustom0 (w : Word) : CoreOp :=
  let f := w.bits 14 12
  let rd := w.bits 11 7
  if f = 1 then (if w.bits 26 25 = 0 then .queue 1 rd (w.bits 19 15) (w.bits 24 20) (w.bits 31 27) else .illegal)
  else if 5 ≤ f || w.bits 31 25 ≠ 0 then .illegal
  else if f = 2 && (rd % 2 ≠ 0 || rd = 0) then .illegal
  else .queue f rd (w.bits 19 15) (w.bits 24 20) 0

/-- Table 11.7: custom-1. -/
def decodeCustom1 (w : Word) : CoreOp :=
  if w.bits 31 25 ≠ 0 then .illegal
  else if w.bits 14 12 = 0 && w.bits 11 7 = 0 then .queue 5 0 (w.bits 19 15) (w.bits 24 20) 0
  else if w.bits 14 12 = 1 && w.bits 24 20 = 0 then .queue 6 (w.bits 11 7) (w.bits 19 15) 0 0
  else .illegal

/-- OP-IMM. -/
def decodeOpImm (w : Word) : CoreOp :=
  let f := w.bits 14 12
  let rd := w.bits 11 7
  let rs1 := w.bits 19 15
  let f7 := w.bits 31 25
  if f = 1 then (if f7 = 0 then .alui 1 false rd rs1 (BitVec.ofNat 32 (w.bits 24 20)) else .illegal)
  else if f = 5 then (if f7 = 0 || f7 = 0x20 then .alui 5 (f7 = 0x20) rd rs1 (BitVec.ofNat 32 (w.bits 24 20)) else .illegal)
  else .alui f false rd rs1 (sext 12 (w.bits 31 20))

/-- OP. -/
def decodeOp (w : Word) : CoreOp :=
  let f := w.bits 14 12
  let f7 := w.bits 31 25
  if f7 = 0 then .alu f false (w.bits 11 7) (w.bits 19 15) (w.bits 24 20)
  else if f7 = 0x20 && (f = 0 || f = 5) then .alu f true (w.bits 11 7) (w.bits 19 15) (w.bits 24 20)
  else if f7 = 1 then .mul f (w.bits 11 7) (w.bits 19 15) (w.bits 24 20)
  else .illegal

/-- SYSTEM: the CSR instructions, MRET and EBREAK. ECALL and WFI are illegal (R288). -/
def decodeSystem (w : Word) : CoreOp :=
  let f := w.bits 14 12
  if w = 0x30200073 then .mret
  else if w = 0x00100073 then .ebreak
  else if f = 0 || f = 4 then .illegal
  else .csr f (w.bits 11 7) (w.bits 19 15) (w.bits 31 20)

/-- R288: a 32-bit instruction. -/
def decode32 (w : Word) : CoreOp :=
  let f := w.bits 14 12
  let rd := w.bits 11 7
  let rs1 := w.bits 19 15
  let rs2 := w.bits 24 20
  match w.bits 6 0 with
  | 0x37 => .lui rd (w &&& 0xFFFFF000)
  | 0x17 => .auipc rd (w &&& 0xFFFFF000)
  | 0x6F => .jal rd (sext 21 (w.bits 31 31 * 2 ^ 20 + w.bits 19 12 * 2 ^ 12 + w.bits 20 20 * 2 ^ 11 + w.bits 30 21 * 2))
  | 0x67 => if f = 0 then .jalr rd rs1 (sext 12 (w.bits 31 20)) else .illegal
  | 0x63 => if f = 2 || f = 3 then .illegal
      else .branch f rs1 rs2 (sext 13 (w.bits 31 31 * 2 ^ 12 + w.bits 7 7 * 2 ^ 11 + w.bits 30 25 * 2 ^ 5 + w.bits 11 8 * 2))
  | 0x03 => if f = 3 || 6 ≤ f then .illegal else .load f rd rs1 (sext 12 (w.bits 31 20))
  | 0x23 => if 3 ≤ f then .illegal else .store f rs1 rs2 (sext 12 (w.bits 31 25 * 2 ^ 5 + w.bits 11 7))
  | 0x13 => decodeOpImm w
  | 0x33 => decodeOp w
  | 0x0F => if f = 0 then .fence else .illegal
  | 0x73 => decodeSystem w
  | 0x0B => decodeCustom0 w
  | 0x2B => decodeCustom1 w
  | _ => .illegal

/-! ### 16-bit instructions -/

/-- The register x8 + n of a compressed field of three bits. -/
def creg (w : Word) (hi lo : Nat) : Nat := 8 + w.bits hi lo

/-- Quadrant 0. -/
def decodeC0 (w : Word) : CoreOp :=
  match w.bits 15 13 with
  | 0 =>
    let imm := w.bits 10 7 * 2 ^ 6 + w.bits 12 11 * 2 ^ 4 + w.bits 5 5 * 2 ^ 3 + w.bits 6 6 * 2 ^ 2
    if imm = 0 then .illegal else .alui 0 false (creg w 4 2) 2 (BitVec.ofNat 32 imm)
  | 2 => .load 2 (creg w 4 2) (creg w 9 7) (BitVec.ofNat 32 (w.bits 5 5 * 2 ^ 6 + w.bits 12 10 * 2 ^ 3 + w.bits 6 6 * 2 ^ 2))
  | 6 => .store 2 (creg w 9 7) (creg w 4 2) (BitVec.ofNat 32 (w.bits 5 5 * 2 ^ 6 + w.bits 12 10 * 2 ^ 3 + w.bits 6 6 * 2 ^ 2))
  | _ => .illegal

/-- The offset of C.J and C.JAL. -/
def cjOff (w : Word) : Word :=
  sext 12 (w.bits 12 12 * 2 ^ 11 + w.bits 8 8 * 2 ^ 10 + w.bits 10 9 * 2 ^ 8 + w.bits 6 6 * 2 ^ 7 + w.bits 7 7 * 2 ^ 6 + w.bits 2 2 * 2 ^ 5 +
    w.bits 11 11 * 2 ^ 4 + w.bits 5 3 * 2)

/-- The offset of C.BEQZ and C.BNEZ. -/
def cbOff (w : Word) : Word :=
  sext 9 (w.bits 12 12 * 2 ^ 8 + w.bits 6 5 * 2 ^ 6 + w.bits 2 2 * 2 ^ 5 + w.bits 11 10 * 2 ^ 3 + w.bits 4 3 * 2)

/-- Quadrant 1. -/
def decodeC1 (w : Word) : CoreOp :=
  let imm := sext 6 (w.bits 12 12 * 2 ^ 5 + w.bits 6 2)
  let rd := w.bits 11 7
  let r := creg w 9 7
  match w.bits 15 13 with
  | 0 => .alui 0 false rd rd imm
  | 1 => .jal 1 (cjOff w)
  | 2 => .alui 0 false rd 0 imm
  | 3 =>
    if imm = 0 then .illegal
    else if rd = 2 then
      .alui 0 false 2 2 (sext 10 (w.bits 12 12 * 2 ^ 9 + w.bits 4 3 * 2 ^ 7 + w.bits 5 5 * 2 ^ 6 + w.bits 2 2 * 2 ^ 5 + w.bits 6 6 * 2 ^ 4))
    else .lui rd (imm <<< 12)
  | 4 =>
    match w.bits 11 10 with
    | 0 => if w.bit 12 then .illegal else .alui 5 false r r (BitVec.ofNat 32 (w.bits 6 2))
    | 1 => if w.bit 12 then .illegal else .alui 5 true r r (BitVec.ofNat 32 (w.bits 6 2))
    | 2 => .alui 7 false r r imm
    | _ =>
      if w.bit 12 then .illegal
      else match w.bits 6 5 with
        | 0 => .alu 0 true r r (creg w 4 2)
        | 1 => .alu 4 false r r (creg w 4 2)
        | 2 => .alu 6 false r r (creg w 4 2)
        | _ => .alu 7 false r r (creg w 4 2)
  | 5 => .jal 0 (cjOff w)
  | 6 => .branch 0 r 0 (cbOff w)
  | _ => .branch 1 r 0 (cbOff w)

/-- Quadrant 2. -/
def decodeC2 (w : Word) : CoreOp :=
  let rd := w.bits 11 7
  let rs2 := w.bits 6 2
  match w.bits 15 13 with
  | 0 => if w.bit 12 then .illegal else .alui 1 false rd rd (BitVec.ofNat 32 rs2)
  | 2 => if rd = 0 then .illegal else .load 2 rd 2 (BitVec.ofNat 32 (w.bits 3 2 * 2 ^ 6 + w.bits 12 12 * 2 ^ 5 + w.bits 6 4 * 2 ^ 2))
  | 4 =>
    if !w.bit 12 then
      (if rs2 = 0 then (if rd = 0 then .illegal else .jalr 0 rd 0) else .alu 0 false rd 0 rs2)
    else if rs2 = 0 then (if rd = 0 then .ebreak else .jalr 1 rd 0)
    else .alu 0 false rd rd rs2
  | 6 => .store 2 2 rs2 (BitVec.ofNat 32 (w.bits 8 7 * 2 ^ 6 + w.bits 12 9 * 2 ^ 2))
  | _ => .illegal

/-- R288: an instruction and its length in bytes: 4 where the two low bits are ones. -/
def decodeCore (w : Word) : CoreOp × Nat :=
  match w.bits 1 0 with
  | 0 => (decodeC0 w, 2)
  | 1 => (decodeC1 w, 2)
  | 2 => (decodeC2 w, 2)
  | _ => (decode32 w, 4)

/-! ### Arithmetic -/

/-- RV32I: the operation of a funct3 code on two operands; `alt` selects SUB and SRA. -/
def aluOp (f : Nat) (alt : Bool) (a b : Word) : Word :=
  let sh := b.toNat % 32
  match f with
  | 0 => if alt then a - b else a + b
  | 1 => a <<< sh
  | 2 => if a.slt b then 1 else 0
  | 3 => if a.ult b then 1 else 0
  | 4 => a ^^^ b
  | 5 => if alt then a.sshiftRight sh else a >>> sh
  | 6 => a ||| b
  | _ => a &&& b

/-- RV32M. -/
def mulOp (f : Nat) (a b : Word) : Word :=
  match f with
  | 0 => a * b
  | 1 => BitVec.ofInt 32 ((a.toInt * b.toInt) / 2 ^ 32)
  | 2 => BitVec.ofInt 32 ((a.toInt * b.toNat) / 2 ^ 32)
  | 3 => BitVec.ofNat 32 (a.toNat * b.toNat / 2 ^ 32)
  | 4 => if b = 0 then BitVec.allOnes 32 else BitVec.ofInt 32 (a.toInt.tdiv b.toInt)
  | 5 => if b = 0 then BitVec.allOnes 32 else BitVec.ofNat 32 (a.toNat / b.toNat)
  | 6 => if b = 0 then a else BitVec.ofInt 32 (a.toInt.tmod b.toInt)
  | _ => if b = 0 then a else BitVec.ofNat 32 (a.toNat % b.toNat)

/-- Is a branch of this funct3 code taken? -/
def branchTaken (f : Nat) (a b : Word) : Bool :=
  match f with
  | 0 => a = b
  | 1 => a ≠ b
  | 4 => a.slt b
  | 5 => !a.slt b
  | 6 => a.ult b
  | _ => !a.ult b

/-- The bytes of a load or store (its funct3 code). -/
def accessBytes (f : Nat) : Nat := if f % 4 = 0 then 1 else if f % 4 = 1 then 2 else 4

/-- The value that a load of this funct3 code writes. -/
def loadValue (f v : Nat) : Word :=
  if f = 0 then sext 8 v else if f = 1 then sext 16 v else BitVec.ofNat 32 v

end Machine

end Sys2Proof
end

