-- ==== Sys2Proof/Machine/CoreCpu.lean ====
section
/-!
DEFINITION. CoreCpu.lean: the control core (R288 to R292): its address space, its CSRs, traps and lockup, the ordinary instructions, and the queue
instructions (R305 to R309). One command executes one instruction.
-/

namespace Sys2Proof.Machine

/-- Does the core execute: it runs (R292), it waits for nothing, its domain is in RUN, and neither a debugger nor a fence holds it? -/
def State.coreRuns (s : State) (p : Nat) : Bool :=
  s.coreState p = 1 && (s.core p).wait.isNone && !s.isHalted p && (s.dom (4 + p)).cur = .run && !(s.cab p).frozen && !(s.cab p).fenced

/-! ### Traps and lockup -/

/-- R292: the core enters LOCKUP. -/
def State.coreLockup (s : State) (p cls code loc : Nat) : State :=
  (((s.err (cctl p) cls code loc).raise (cctl p) 1).setFld (cctl p) 0x00C 1 0 3).cabFault p code

/-- R291: a trap is entered, mtvec being in direct mode. -/
def State.coreTrapEnter (s : State) (p : Nat) (cause tval : Word) : State :=
  let c := s.core p
  let st := c.getCsr 0x300
  let c := (((c.setCsr 0x341 c.pc).setCsr 0x342 cause).setCsr 0x343 tval).setCsr 0x300 (if st.bit 3 then 0x80 else 0)
  (s.wr (cctl p) 0x064 cause).setCore p { c with pc := c.getCsr 0x305 &&& 0xFFFFFFFC, inTrap := true }

/-- R291, R292: an exception: a trap, or LOCKUP inside a trap. What mtval holds is the implementation's choice in RISC-V: a free value. -/
def State.coreException (s : State) (p cause : Nat) : State :=
  if (s.core p).inTrap then s.coreLockup p 4 0x0A1 (cause % 65536)
  else s.draw.2.coreTrapEnter p (BitVec.ofNat 32 cause) (s.draw.1.setWidth 32)

/-- The page of a unit that CCTL.IRQ_SRC selects by bit (Table 11.12). -/
def irqSrcPage (p i : Nat) : Page :=
  match i with
  | 0 => cctl p | 1 => qmgr p | 2 => spad p | 3 => drw p 0 | 4 => drw p 1 | 5 => drw p 2 | 6 => drw p 3 | 7 => trs p 0 | 8 => trs p 1
  | 9 => xpnd p | 10 => hzn p | _ => ⟨.cobs, p⟩

/-- R291: mip.MEIP. -/
def State.meip (s : State) (p : Nat) : Bool :=
  (List.range 12).any fun i => s.flag (cctl p) 0x050 i && decide (s.irqPend (irqSrcPage p i) ≠ 0)

/-- R306: may the core take an interrupt now: executing, or waiting in QRECV, HZWAIT, or a QSEND that was refused? -/
def State.interruptible (s : State) (p : Nat) : Bool :=
  match (s.core p).wait with
  | none => true
  | some (.qrecv ..) => true
  | some (.hzwait _) => true
  | some (.evinj ..) => false
  | some (.send _ kind) => kind = 1 && (match (s.qm p).first 0 with | some x => x.state = 2 | none => false)

/-- R306: a wait ends with its instruction not done: an interrupted QSEND leaves no message behind, and a QRECV blocks its queue no longer. -/
def State.waitAbandon (s : State) (p : Nat) : State :=
  match (s.core p).wait with
  | some (.qrecv q _ _) => (s.setQctx p q { s.qctx p q with blkR := false }).endWait p
  | some (.send ..) => (match (s.qm p).first 0 with | some x => s.setQm p ((s.qm p).drop x) | none => s).endWait p
  | some (.hzwait _) | some (.evinj ..) => s.endWait p
  | none => s

/-- R291, R306: the machine external interrupt is taken where it is pending and enabled (mstatus.MIE, mie.MEIE). -/
def execCoreInterrupt (p : Nat) (s : State) : Result :=
  let c := s.core p
  if s.coreState p = 1 && !s.isHalted p && (s.dom (4 + p)).cur = .run && !(s.cab p).frozen && !(s.cab p).fenced &&
      (c.getCsr 0x300).bit 3 && (c.getCsr 0x304).bit 11 && s.meip p && s.interruptible p then
    done ((s.waitAbandon p).coreTrapEnter p 0x8000000B 0)
  else done s

/-! ### The address space (Table 11.2) -/

/-- R284: an access within one aligned 8-byte word, or two, lower word first: address and length of each part. -/
def spanParts (a n : Nat) : List (Nat × Nat) := if a % 8 + n ≤ 8 then [(a, n)] else [(a, 8 - a % 8), (a + (8 - a % 8), n - (8 - a % 8))]

/-- R286: the first part of an access whose bank is not ON. -/
def State.spanBad (s : State) (p a n : Nat) : Option Nat := ((spanParts a n).find? fun x => !s.bankOn p (bankOf x.1)).map fun x => bankOf x.1

/-- R286, R287: a core read of the general shared area: its value, or none where it raises an access fault. -/
def State.coreSpadRead (s : State) (p a n : Nat) (ecc : EccRead) : Option Nat × State :=
  match s.spanBad p a n with
  | some b => (none, s.bankErr p b)
  | none =>
    let r := s.spadCheck p a (s.load (spadAt p a) n) ecc
    (if r.2.1 then none else some (r.1 % 256 ^ n), r.2.2)

/-- R231: does an offset lie in the active copy of the pin table? -/
def State.inPins (s : State) (p a : Nat) : Bool :=
  let z := s.pinOff p (s.fld (xpnd p) 0x044 0 0)
  decide (z ≤ a) && decide (a < z + 0x1000)

/-- R229: does a store reach the active copy of the projection tables or of the pin table (Table 8.8)? -/
def State.inActiveCopy (s : State) (p a : Nat) : Bool :=
  let c := s.fld (xpnd p) 0x044 0 0
  let g := s.fld (xpnd p) 0x05C 21 4 * 16 + c * 0x10000
  (decide (g ≤ a) && decide (a < g + 0x10000)) || s.inPins p a

/-- R229, R286: the parts of a core store to the general shared area, lower part first; false where a bank is not ON. -/
def State.coreSpadParts (s : State) (p : Nat) : List (Nat × Nat) → Nat → Bool × State
  | [], _ => (true, s)
  | (a, n) :: l, v =>
    if !s.bankOn p (bankOf a) then (false, s.bankErr p (bankOf a))
    else if !s.partStopped (s.cabKey p) && ((List.range n).any fun i => s.inActiveCopy p (a + i)) then
      State.coreSpadParts (s.err (xpnd p) 5 0x013 (0x8000 + a / 128 % 0x8000)) p l (v / 256 ^ n)
    else
      let t := s.store (spadAt p a) n v
      State.coreSpadParts (if s.inPins p a then t.applyPins p else t) p l (v / 256 ^ n)

/-- The Cabinet's own page at an offset of the core's page window. -/
def corePage (p i : Nat) : Page :=
  match i with
  | 0 => cctl p | 1 => qmgr p | 2 => spad p | 3 => drw p 0 | 4 => drw p 1 | 5 => drw p 2 | 6 => drw p 3 | 7 => trs p 0 | 8 => trs p 1
  | 9 => xpnd p | 10 => hzn p | 11 => ⟨.rtr, p⟩ | _ => ⟨.cobs, p⟩

/-- R289: a core read of a page register: RTR reads zero. -/
def State.corePageRead (s : State) (p o : Nat) : Nat × State :=
  if o / 4096 = 11 || 13 ≤ o / 4096 then (0, s) else readAny (.core p) (corePage p (o / 4096)) (o % 4096) s

/-- R289: a core write of a page register: RTR's are dropped. -/
def State.corePageWrite (s : State) (p o : Nat) (w : Word) : State :=
  if o / 4096 = 11 then s
  else match s.gate (.core p) (corePage p (o / 4096)) (o % 4096) with
    | .pass => regWrite (.core p) (corePage p (o / 4096)) (o % 4096) w s
    | .drop t => t
    | .ur => s

/-- The stack byte address of a core address in the stack window. -/
def State.coreStackAt (s : State) (p a : Nat) : Nat := s.fld (cctl p) 0x054 6 0 * 2 ^ 30 + (a - 0x40000000)

/-- R289: a stack-window access answered ISOLATION. -/
def State.coreIsolated (s : State) (p : Nat) : State := s.err (qmgr p) 6 0x0C3 0xFFFF

/-- How a stack line reads for the core. -/
def stackEcc : EccRead → LineEcc
  | .clean => .clean
  | .corrected _ => .corrected
  | .uncorrectable .. => .uncorrectable false

/-- R289, R376: a core read through the stack window: none where it is answered ISOLATION. Of an UNCORRECTED line the spec gives no value: a free one. -/
def State.coreStackRead (s : State) (p b n : Nat) (ecc : EccRead) : Option Nat × State :=
  let r := s.stackRead (s.cabKey p) b n
  match r.1 with
  | none => (none, r.2.coreIsolated p)
  | some v =>
    let x := r.2.readLine (b / 64 * 64) (stackEcc ecc)
    match x.1 with
    | some _ => (some v, x.2)
    | none => (some (x.2.draw.1.toNat % 256 ^ n), x.2.draw.2)

/-- A load of `n` bytes from offset `o` of the core's page window (Table 11.2): the register, or the two registers, that hold the bytes are read. -/
def State.corePageLoad (s : State) (p o n : Nat) : Option Nat × State :=
  let r := s.corePageRead p (o / 4 * 4)
  let q := if o % 4 + n ≤ 4 then (0, r.2) else r.2.corePageRead p (o / 4 * 4 + 4)
  (some ((r.1 + q.1 * 2 ^ 32) / 256 ^ (o % 4) % 256 ^ n), q.2)

/-- R284, R289: a core load of `n` bytes: its value, or none where it raises an access fault. A page register is read by the word, and the load takes
its bytes. -/
def State.coreLoad (s : State) (p a n : Nat) (ecc : EccRead) : Option Nat × State :=
  if inShared a n then s.coreSpadRead p a n ecc
  else if a < 0x370000 then (none, s.areaErr p 4)
  else if 0x10000000 ≤ a && a + n ≤ 0x1000D000 then
    s.corePageLoad p (a - 0x10000000) n
  else if 0x40000000 ≤ a && a + n ≤ 0x80000000 then s.coreStackRead p (s.coreStackAt p a) n ecc
  else (none, s)

/-- A store of `n` bytes at offset `o` of the core's page window: a whole aligned word is written, any other access is dropped. -/
def State.corePageStore (s : State) (p o n v : Nat) : State :=
  if n = 4 && o % 4 = 0 then s.corePageWrite p o (BitVec.ofNat 32 v) else s

/-- R284, R289: a core store of `n` bytes: false where it raises an access fault. Only a whole aligned word reaches a page register. -/
def State.coreStore (s : State) (p a n v : Nat) : Bool × State :=
  if inShared a n then s.coreSpadParts p (spanParts a n) v
  else if a < 0x370000 then (false, s.areaErr p 4)
  else if 0x10000000 ≤ a && a + n ≤ 0x1000D000 then
    (true, s.corePageStore p (a - 0x10000000) n v)
  else if 0x40000000 ≤ a && a + n ≤ 0x80000000 then
    let r := s.stackWrite p (s.cabKey p) (s.coreStackAt p a) n v
    (r.1, if r.1 then r.2 else r.2.coreIsolated p)
  else (false, s)

/-- R282, R289: the instruction at an address, which lies in the general shared area and in banks that are ON: none where the fetch faults. -/
def State.coreFetch (s : State) (p a : Nat) (ecc : EccRead) : Option Word × State :=
  if a < 0x370000 then (none, s.areaErr p 4)
  else if !inShared a 2 then (none, s)
  else match s.spanBad p a 2 with
    | some b => (none, s.bankErr p b)
    | none =>
      let n := if s.load (spadAt p a) 2 % 4 = 3 then 4 else 2
      if !inShared a n then (none, s)
      else
        let r := s.coreSpadRead p a n ecc
        (r.1.map (BitVec.ofNat 32), r.2)

/-- The queue instruction at the core's pc, as its row finds it: kind, rd, rs1, rs2, rs3. -/
def State.queueOp (s : State) (p : Nat) : Option (Nat × Nat × Nat × Nat × Nat) :=
  let a := (s.core p).pc.toNat
  if !s.coreRuns p || !inShared a 4 || (s.spanBad p a 4).isSome then none
  else match (decodeCore (BitVec.ofNat 32 (s.load (spadAt p a) 4))).1 with
    | .queue k rd rs1 rs2 rs3 => some (k, rd, rs1, rs2, rs3)
    | _ => none

/-! ### CSRs -/

/-- The CSRs of the core: the standard machine CSRs of RISC-V (log entry 51) and those of Table 11.3. -/
def csrKnown (n : Nat) : Bool :=
  [0x300, 0x301, 0x304, 0x305, 0x310, 0x320, 0x340, 0x341, 0x342, 0x343, 0x344, 0xB00, 0xB02, 0xB80, 0xB82, 0xF11, 0xF12, 0xF13, 0xF14, 0xF15,
    0xFC0, 0xFC1, 0xFC2, 0xFC3, 0xFC4, 0xFC5].contains n ||
  (0xB03 ≤ n && n ≤ 0xB1F) || (0xB83 ≤ n && n ≤ 0xB9F) || (0x323 ≤ n && n ≤ 0x33F)

/-- R290: CABID. -/
def State.cabId (s : State) (p : Nat) : Nat := s.cabLog p % 256 + p % 512 * 2 ^ 8 + s.cabKey p % 64 * 2 ^ 24

/-- R288, R290: a read of a CSR. mcycle counts clock cycles, which the model does not keep: a free value. -/
def State.csrRead (s : State) (p n : Nat) : Word × State :=
  let c := s.core p
  if n = 0x300 then (c.getCsr 0x300 ||| 0x1800, s)
  else if n = 0x301 then (0x40801104, s)
  else if n = 0x344 then (BitVec.ofNat 32 (b2n (s.meip p) * 2 ^ 11), s)
  else if n = 0xB00 || n = 0xB80 then (s.draw.1.setWidth 32, s.draw.2)
  else if n = 0xFC0 then (BitVec.ofNat 32 s.now, s.setCore p { c with dtimeh := BitVec.ofNat 32 (s.now / 2 ^ 32) })
  else if n = 0xFC1 then (c.dtimeh, s)
  else if n = 0xFC2 then (BitVec.ofNat 32 (s.safe p), s.setCore p { c with safeh := BitVec.ofNat 32 (s.safe p / 2 ^ 32) })
  else if n = 0xFC3 then (c.safeh, s)
  else if n = 0xFC4 then (BitVec.ofNat 32 (s.cabId p), s)
  else if n = 0xFC5 then (BitVec.ofNat 32 (s.fld (cctl p) 0x06C 15 0), s)
  else (c.getCsr n, s)

/-- The bits of a CSR that a write reaches; misa, mip and the event counters take none. -/
def csrMask (n : Nat) : Word :=
  if n = 0x300 then 0x88 else if n = 0x304 then 0x800 else if n = 0x305 then 0xFFFFFFFC else if n = 0x341 then 0xFFFFFFFE
  else if n = 0x340 || n = 0x342 || n = 0x343 || n = 0xB02 || n = 0xB82 then 0xFFFFFFFF else 0

/-! ### Ordinary instructions -/

/-- An instruction retires, and the next one is at `next`. A store that has stopped its own core retires nothing. -/
def State.coreRetire (s : State) (p : Nat) (next : Word) : State :=
  let c := s.core p
  if s.coreState p ≠ 1 then s else (s.wr (cctl p) 0x060 c.pc).setCore p { c with pc := next }.countInstret

/-- An instruction writes a register and retires. -/
def State.coreWrite (s : State) (p rd : Nat) (v next : Word) : State := (s.setCore p ((s.core p).put rd v)).coreRetire p next

/-- Zicsr: funct3 1 and 5 write, 2 and 6 set, 3 and 7 clear; 5 to 7 take an immediate. A write of a read-only CSR is illegal (R290). -/
def State.coreCsr (s : State) (p f rd src n : Nat) (next : Word) : State :=
  let x : Word := if 4 ≤ f then BitVec.ofNat 32 src else (s.core p).reg src
  let writes := f % 4 = 1 || src ≠ 0
  if !csrKnown n || (writes && n / 1024 % 4 = 3) then s.coreException p 2
  else
    let r := if f % 4 = 1 && rd = 0 then ((0 : Word), s) else s.csrRead p n
    let old := (r.2.core p).getCsr n
    let new := if f % 4 = 1 then x else if f % 4 = 2 then r.1 ||| x else r.1 &&& ~~~x
    let t := r.2.coreWrite p rd r.1 next
    if writes then t.setCore p ((t.core p).setCsr n ((old &&& ~~~csrMask n) ||| (new &&& csrMask n))) else t

/-- R288: the effect of an ordinary instruction at the core's pc, `len` bytes long. -/
def State.coreStep (s : State) (p : Nat) (op : CoreOp) (len : Nat) (data : EccRead) : State :=
  let c := s.core p
  let next := c.pc + BitVec.ofNat 32 len
  match op with
  | .lui rd imm => s.coreWrite p rd imm next
  | .auipc rd imm => s.coreWrite p rd (c.pc + imm) next
  | .jal rd off => s.coreWrite p rd next (c.pc + off)
  | .jalr rd rs1 off => s.coreWrite p rd next ((c.reg rs1 + off) &&& 0xFFFFFFFE)
  | .branch f rs1 rs2 off => s.coreRetire p (if branchTaken f (c.reg rs1) (c.reg rs2) then c.pc + off else next)
  | .load f rd rs1 off =>
    match s.coreLoad p (c.reg rs1 + off).toNat (accessBytes f) data with
    | (some v, t) => t.coreWrite p rd (loadValue f v) next
    | (none, t) => t.coreException p 5
  | .store f rs1 rs2 off =>
    match s.coreStore p (c.reg rs1 + off).toNat (accessBytes f) ((c.reg rs2).toNat % 256 ^ accessBytes f) with
    | (true, t) => t.coreRetire p next
    | (false, t) => t.coreException p 7
  | .alui f alt rd rs1 imm => s.coreWrite p rd (aluOp f alt (c.reg rs1) imm) next
  | .alu f alt rd rs1 rs2 => s.coreWrite p rd (aluOp f alt (c.reg rs1) (c.reg rs2)) next
  | .mul f rd rs1 rs2 => s.coreWrite p rd (mulOp f (c.reg rs1) (c.reg rs2)) next
  | .fence => s.coreRetire p next
  | .csr f rd src n => s.coreCsr p f rd src n next
  | .mret =>
    let st := c.getCsr 0x300
    let t := s.coreRetire p (c.getCsr 0x341)
    t.setCore p { (t.core p).setCsr 0x300 (if st.bit 7 then 0x88 else 0x80) with inTrap := false }
  | .ebreak => s.coreException p 3
  | .illegal => s.coreException p 2
  | .queue .. => s

/-- R288, R292: the core executes the ordinary instruction at its pc; a parity error of the register file, by the register's number, locks it up. A
queue instruction is fetched here, with the fetch's check (R287), and carried out by a row of its own. -/
def execCoreInstruction (p : Nat) (fetch data : EccRead) (parity : Option Nat) (s : State) : Result :=
  if !s.coreRuns p then done s
  else match parity with
    | some r => done (s.coreLockup p 2 0x0A2 r)
    | none =>
      match s.coreFetch p (s.core p).pc.toNat fetch with
      | (none, t) => done (t.coreException p 1)
      | (some w, t) =>
        match decodeCore w with
        | (.queue .., _) => done t
        | (op, len) => done (t.coreStep p op len data)

/-! ### Queue instructions -/

/-- R305: is a message, buffer or block address legal: aligned to 32 bytes in the general shared area? -/
def queueAddr (a : Nat) : Bool := a % 32 = 0 && inShared a 32

/-- R287: the 32 bytes at an address of the general shared area, as the queue manager reads them. -/
def State.queueBuf (s : State) (p a : Nat) (ecc : EccRead) : Nat × State :=
  let g := s.areaGet p 3 a 32
  let r := g.2.spadCheck p a g.1 ecc
  (r.1 % 2 ^ 256, r.2.2)

/-- R229, R286: the 32 bytes of a message go into a buffer; the units that lie in the active copy of a running partition's tables are dropped. -/
def State.queuePut (s : State) (p a m : Nat) : State :=
  (spadParts a 32).foldl (fun u x =>
    if !s.partStopped (s.cabKey p) && ((List.range x.2).any fun i => s.inActiveCopy p (x.1 + i)) then u.err (xpnd p) 5 0x013 (0x8000 + x.1 / 128 % 0x8000)
    else
      let t := u.areaSet p 3 x.1 x.2 (m / 256 ^ (x.1 - a))
      if u.inPins p x.1 then t.applyPins p else t) s

/-- A send instruction that fails at the sender: code 0x0C2 for NOQUEUE and BADADDR (Table 11.14), and the status in rd. -/
def State.queueFail (s : State) (p rd st : Nat) : State :=
  (if st = 2 || st = 4 then s.err (qmgr p) 5 0x0C2 st else s).retire p rd (BitVec.ofNat 32 st)

/-- R296, R298: the core's message at `a` is sent to `qid`: the core waits until the send ends, which may be at once. `members` are the other members
of a multicast group. -/
def State.coreSend (s : State) (p rd kind qid a : Nat) (limit : Option Nat) (mc : Option (Nat × List Nat)) (ecc : EccRead) : State :=
  let r := s.queueBuf p a ecc
  let m := message (s.cabLog p) 0 (s.cabKey p) mc.isSome (msgUser r.1) (nb r.1 255 64)
  let t := r.2.startWait p (.send rd kind)
  let x := newSend t 0 qid m limit
  let x := match mc with | some g => { x with mcast := true, members := g.2, worst := 256 * g.1 } | none => x
  (t.setQm p { t.qm p with sends := (t.qm p).sends ++ [x] }).relaunch p 0

/-- R298, R305: QSEND. A bad address comes before a bad queue ID (log entry 52). -/
def execQsend (p : Nat) (ecc : EccRead) (s : State) : Result :=
  match s.queueOp p with
  | some (0, rd, rs1, rs2, _) =>
    let q := ((s.core p).reg rs1).toNat
    let a := ((s.core p).reg rs2).toNat
    if !queueAddr a then done (s.queueFail p rd 4)
    else if 2 ^ 20 ≤ q then done (s.queueFail p rd 2)
    else done (s.coreSend p rd 1 q a none none ecc)
  | _ => done s

/-- R307: QSEND.T, its limit in ns. -/
def execQsendT (p : Nat) (ecc : EccRead) (s : State) : Result :=
  match s.queueOp p with
  | some (1, rd, rs1, rs2, rs3) =>
    let q := ((s.core p).reg rs1).toNat
    let a := ((s.core p).reg rs2).toNat
    if !queueAddr a then done (s.queueFail p rd 4)
    else if 2 ^ 20 ≤ q then done (s.queueFail p rd 2)
    else done (s.coreSend p rd 2 q a (some (32 * ((s.core p).reg rs3).toNat)) none ecc)
  | _ => done s

/-- R303: the valid members of a multicast group, in ascending entry order. -/
def State.groupMembers (s : State) (p g : Nat) : List Nat :=
  (List.range 64).filterMap fun i =>
    let w := SMap.get (fun _ => (0 : Word)) (s.qm p).mc (64 * g + i)
    if w.bit 31 then some (w.bits 19 0) else none

/-- R294, R303: QMCAST. -/
def execQmcast (p : Nat) (ecc : QmReads) (s : State) : Result :=
  match s.queueOp p with
  | some (4, rd, rs1, rs2, _) =>
    let g := ((s.core p).reg rs1).toNat
    let a := ((s.core p).reg rs2).toNat
    if !queueAddr a then done (s.queueFail p rd 4)
    else if 256 ≤ g then done (s.queueFail p rd 2)
    else
      let s := s.mcCheck p g ecc.ctx
      match s.groupMembers p g with
      | [] => done (s.queueFail p rd 5)
      | q :: l => done (s.coreSend p rd 3 q a none (some (g, l)) ecc.msg)
  | _ => done s

/-- R302, R305: why a QRECV or QPEEK of a local queue fails: its status. -/
def State.localFail (s : State) (p q : Nat) (addrOk : Bool) : Option Nat :=
  if !addrOk then some 4
  else if 4096 ≤ q || !(s.qctx p q).v then some 2
  else if (s.qctx p q).bind ≠ 0 then some 6
  else none

/-- R305: a QRECV completes: the head message goes to the buffer and leaves the queue, and its first two words go to rd and rd + 1. -/
def State.receive (s : State) (p q rd a : Nat) (ecc : EccRead) : State :=
  let r := s.qRead p q ecc
  let t := (r.2.dequeue p q).queuePut p a r.1
  let t := t.setQctx p q { t.qctx p q with blkR := false }
  let t := t.setCore p ((t.core p).put (rd + 1) (BitVec.ofNat 32 (r.1 / 2 ^ 32)))
  t.retire p rd (BitVec.ofNat 32 r.1)

/-- R294, R305: QRECV: it fails, receives, or blocks with BLK_R. -/
def execQrecv (p : Nat) (ecc : QmReads) (s : State) : Result :=
  match s.queueOp p with
  | some (2, rd, rs1, rs2, _) =>
    let q := ((s.core p).reg rs1).toNat
    let a := ((s.core p).reg rs2).toNat
    let s := if queueAddr a && decide (q < 4096) then s.ctxCheck p q ecc.ctx else s
    match s.localFail p q (queueAddr a) with
    | some st => done ((s.setCore p ((s.core p).put (rd + 1) (BitVec.ofNat 32 st))).retire p rd 0xFFFFFFFF)
    | none =>
      if (s.qctx p q).occ = 0 then done ((s.setQctx p q { s.qctx p q with blkR := true }).startWait p (.qrecv q rd a))
      else done (s.receive p q rd a ecc.msg)
  | _ => done s

/-- R305: a blocked QRECV completes once its queue is not empty. -/
def execQrecvReceive (p : Nat) (ecc : QmReads) (s : State) : Result :=
  match (s.core p).wait with
  | some (.qrecv q rd a) =>
    if s.coreState p = 1 && !s.isHalted p && s.live p && (s.qctx p q).occ ≠ 0 then done ((s.ctxCheck p q ecc.ctx).receive p q rd a ecc.msg) else done s
  | _ => done s

/-- R294, R305: QPEEK. -/
def execQpeek (p : Nat) (ecc : QmReads) (s : State) : Result :=
  match s.queueOp p with
  | some (3, rd, rs1, rs2, _) =>
    let q := ((s.core p).reg rs1).toNat
    let a := ((s.core p).reg rs2).toNat
    let s := if (rs2 = 0 || queueAddr a) && decide (q < 4096) then s.ctxCheck p q ecc.ctx else s
    match s.localFail p q (rs2 = 0 || queueAddr a) with
    | some _ => done (s.retire p rd 0x80000000)
    | none =>
      let n := (s.qctx p q).occ
      if rs2 = 0 || n = 0 then done (s.retire p rd (BitVec.ofNat 32 n))
      else
        let r := s.qRead p q ecc.msg
        done ((r.2.queuePut p a r.1).retire p rd (BitVec.ofNat 32 n))
  | _ => done s

/-- R308: HZWAIT retires at once where S has reached its time, and otherwise waits. -/
def execHzwait (p : Nat) (s : State) : Result :=
  match s.queueOp p with
  | some (5, _, rs1, rs2, _) =>
    let t := ((s.core p).reg rs2).toNat * 2 ^ 32 + ((s.core p).reg rs1).toNat
    if t ≤ s.safe p then done (s.retire p 0 0) else done (s.startWait p (.hzwait t))
  | _ => done s

/-- R308: a waiting HZWAIT retires once S reaches its time. -/
def execHzwaitRetire (p : Nat) (s : State) : Result :=
  match (s.core p).wait with
  | some (.hzwait t) => if s.coreState p = 1 && !s.isHalted p && s.live p && decide (t ≤ s.safe p) then done (s.retire p 0 0) else done s
  | _ => done s

/-- R309: is an injection block legal: no reserved encoding or bit, a type EVINJ takes, and no tree of another key? -/
def State.blockOk (s : State) (p b : Nat) : Bool :=
  let kind := nb b 129 128
  let dest := nb b 137 130
  let tree := s.rd (rtr p) (0x300 + 4 * dest)
  decide (b < 2 ^ 138) && kind ≠ 3 && nb b 12 0 = 0 && (evType b = 0 || evType b = 2 || evType b = 5) && (kind ≠ 2 || dest = 0) &&
    (kind ≠ 1 || (decide (dest < 64) && !(tree.bit 31 && decide (tree.bits 21 16 ≠ s.cabKey p))))

/-- R309: the event of an injection block for the Cabinet's own expander. -/
def ownEvt (pl now : Nat) : Evt := { meshEvt pl now with remote := false }

/-- R222: does an injected event, the last in the Cabinet's queue, wait outside the plastic hold? -/
def State.evinjWaits (s : State) (p kind dest pl : Nat) : Bool :=
  kind = 0 && dest = s.cabLog p && (evType pl = 2 || s.evPlastic p (ownEvt pl s.now)) && (s.outside p).getLast? = some (ownEvt pl s.now)

/-- R309: the event of an injection block goes out: into the Cabinet's own expander, or onto VC0. -/
def State.evSend (s : State) (p kind dest pl : Nat) : State :=
  let k := s.cabKey p
  if kind = 0 then
    if dest = s.cabLog p then
      s.setXp p { s.xp p with inq := (s.xp p).inq ++ [ownEvt pl s.now] }
    else s.sendEvent p k dest pl
  else s.injectTree p (if kind = 1 then 0x180 + dest else 0x1C0 + k) 0 k 0 0 pl

/-- R193, R222, R309: EVINJ. An event that must wait outside the full plastic hold keeps it from retiring until the expander takes it. -/
def execEvinj (p : Nat) (ecc : EccRead) (s : State) : Result :=
  match s.queueOp p with
  | some (6, rd, rs1, _, _) =>
    let a := ((s.core p).reg rs1).toNat
    if !queueAddr a then done (s.retire p rd 4)
    else
      let r := s.queueBuf p a ecc
      let b := r.1
      let s := r.2
      let ev := b % 2 ^ 128
      if !s.blockOk p b then done ((s.err (cctl p) 5 0x0A3 0).retire p rd 7)
      else if !s.floorAllows p (rebuild (evTime ev) s.now) then done ((s.floorRefuse p 0).retire p rd 1)
      else
        let seq := s.fld (cctl p) 0x06C 15 0
        let src := s.cabLog p % 256 * 2 ^ 15 + (if evType ev = 2 then 0x7FFF else evSource ev % 2 ^ 15)
        let pl := eventPayload (evTime ev) (evAxon ev) src (evPay ev) (if evType ev = 2 then seq else evInterval ev) (evType ev)
        let t := if evType ev = 2 then s.setFld (cctl p) 0x06C 15 0 ((seq + 1) % 65536) else s
        let u := t.evSend p (nb b 129 128) (nb b 137 130) pl
        if u.evinjWaits p (nb b 129 128) (nb b 137 130) pl then done (u.startWait p (.evinj rd (ownEvt pl t.now))) else done (u.retire p rd 0)
  | _ => done s

end Sys2Proof.Machine
end

