-- ==== Sys2Proof/Machine/Rounds.lean ====
section
/-!
DEFINITION. Rounds.lean: what a source does with the result of a horizon round (R194, R316, R345, R490).
-/

namespace Sys2Proof.Machine

/-- R345: a holder applies a complete round: it makes its inactive map active when the instance is r_e or later. -/
def State.mapApply (s : State) (e k inst : Nat) : State :=
  match SMap.get (fun _ => none) s.mapRe (512 * k + e) with
  | some re =>
    if serialGe inst re 16 then
      { s with mapCur := SMap.set (fun _ => false) s.mapCur (512 * k + e) (!s.mapSecond e k)
               mapRe := SMap.set (fun _ => none) s.mapRe (512 * k + e) none }
    else s
  | none => s

/-- The contribution that a source has in flight for a round instance. -/
def Source.contrib (v : Source) (inst : Nat) : Option Contrib := v.flying.find? fun c => c.round % 65536 = inst

/-- The source without its contribution for a round instance. -/
def Source.popRound (v : Source) (inst : Nat) : Source := { v with flying := v.flying.filter fun c => c.round % 65536 ≠ inst }

/-- Table 19.4: a ROUND_MIN record. -/
def State.roundMin (s : State) (e k inst v : Nat) : State :=
  if s.tracing k 3 v then s.traceForm (if 0x162 ≤ e then 0x161 else e) k (traceRecord v 0 k (if 0x162 ≤ e then 0x161 else e) (inst % 65536 * 2 ^ 45)) else s

/-- R194, Table 7.7: a Cabinet applies a complete round with minimum `v`. -/
def State.cabRound (s : State) (p inst v : Nat) (own : Option Contrib) : State :=
  let h := hzn p
  let s := ((s.wr64 h 0x058 (max (s.safe p) (v + s.look p))).wrN h 0x07C inst)
  let s := match own with
    | some c =>
      let lat := s.now - c.time
      let s := (s.wrN h 0x080 lat).wrN h 0x084 (max (s.rdN h 0x084) lat)
      if c.h = v then s.incCtr h 0x08C else s
    | none => s
  let s := if s.rdN h 0x090 ≠ 0 && decide (s.rdN h 0x090 < s.now - s.safe p) then s.raise h 5 else s
  s.postFree p

/-- R194: one source of an endpoint applies the result of a round. -/
def State.sourceRound (s : State) (e src k inst v : Nat) (incomplete : Bool) : State :=
  let x := s.source k src
  let own := x.contrib inst
  let y := x.popRound inst
  if incomplete then
    let s := s.setSource k src { y with miss := y.miss + 1 }
    if isCab e && !(s.cab e).fenced then (((s.incCtr (hzn e) 0x088).err (hzn e) 4 0x060 inst).raise (hzn e) 0) else s
  else
    let s := if own.any (fun c => c.h = v) then s.roundMin src k inst v else s
    if isCab e then
      if (s.cab e).fenced || (s.cab e).replay then s.setSource k src { y with miss := 0 }
      else (s.setSource k src { y with miss := 0, m := v, s := (own.map (·.h)).getD y.s }).cabRound e inst v own
    else s.setSource k src { y with miss := 0, m := max y.m v, s := max y.s (v + y.look) }

/-- R194: the horizon RED_DOWN that has reached a source's endpoint is applied; the Bureau's own map
follows the first holder that switches. A migration's source, or the old position of a recovered
Cabinet, hands over at round r_e (Tables 13.9, 16.5, step 5). At the Bureau's endpoint the HQ source and the parked Cabinets apply
it; at a channel the decoders act on the new S and M (R316). -/
def execRedDownReceive (e : Nat) (s : State) : Result :=
  match s.inbox.find? (fun a => a.dest = e && a.flit.kind = 4 && a.flit.tag = 63) with
  | none => done s
  | some a =>
    let s := { s with inbox := s.inbox.erase a }
    let k := a.flit.key
    let inst := nb a.flit.payload 31 16
    let v := nb a.flit.payload 127 64
    let incomplete := nb a.flit.payload 15 15 = 1
    let s := if e = 0x161 then (s.sourceRound e srcHq k inst v incomplete).sourceRound e srcParked k inst v incomplete
      else s.sourceRound e e k inst v incomplete
    let s := if incomplete then s else (((s.mapApply e k inst).mapApply 0x161 k inst).takeOver e inst).recTakeOver e inst
    done (if isChan e && !incomplete then s.decAdvance (e - 0x120) else s)

end Sys2Proof.Machine
end

