-- ==== Sys2Proof/Machine/Integrity.lean ====
section
/-!
DEFINITION. Integrity.lean: what the Bureau does with a fault report (R426 to R428), the validity of checkpoints (R437), and the recovery of a Cabinet of
a protected partition (R438 to R444, Table 16.5). Log entry 49 holds the model's choices.
-/

namespace Sys2Proof.Machine

/-! ### Faulted partitions -/

/-- R428: a partition goes to FAULTED, with the PART_FAULT cause; what acts on it ends. -/
def State.faultPart (s : State) (k : Nat) : State :=
  if s.part k = .running || s.part k = .stopped then
    { s with partState := SMap.set (fun _ => PartState.free) s.partState k .faulted
             recov := s.recov.filter (·.key ≠ k)
             mbox := s.mbox.map fun (m : MbCmd) => if m.key = k && decide (1 ≤ m.phase) && decide (m.phase ≤ 4) then m.ends .faulted 0 0 else m }.raise (bur k) 2
  else s

/-- An interrupt cause of the INTG pages of the PF and of a partition's function. -/
def State.raiseIntg (s : State) (k i : Nat) : State := (s.raise (intg 0) i).raise (intg k) i

/-- Table 16.9: REC_STATE in both views. -/
def State.recReg (s : State) (r : Recov) (step : Nat) : State :=
  [0, r.key].foldl (fun s f => s.wrN (intg f) 0x070 (step + r.cab % 256 * 2 ^ 8 + r.key % 64 * 2 ^ 16)) s

/-- R444: a recovery fails, and the partition goes to FAULTED. -/
def State.recFail (s : State) (r : Recov) : State :=
  let s := (s.errIntg r.key 4 0x113 (r.cab % 256 + r.key % 64 * 256)).raiseIntg r.key 4
  ((s.incCtr (intg 0) 0x088).incCtr (intg r.key) 0x088).faultPart r.key

/-! ### Table 16.5, steps 1 and 2 -/

/-- A MGMT flit from the Bureau to an endpoint of a partition: opcode, a time in [119:72] and a Cabinet in [71:64]. -/
def State.mgmt (s : State) (k e op t c : Nat) : State := s.inject 0x161 e 3 k 5 (op * 2 ^ 120 + t % 2 ^ 48 * 2 ^ 72 + c % 256 * 2 ^ 64)

/-- A Cabinet's latest valid checkpoint. -/
def State.latestCkpt (s : State) (k c : Nat) : Option Ckpt := ((s.ckptsOf k c).filter (·.valid)).getLast?

/-- A Cabinet is fenced, and its recovery waits. `inPlace`: it is for its own position (R428). What it has accepted until now stands in its journal; what its
router keeps back is accepted from now on (R440). -/
def State.fence (s : State) (k c p td : Nat) (inPlace : Bool) : State :=
  let v := s.source k p
  let j := s.journal k c
  let r : Recov := ⟨k, c, p, if inPlace then p else 512, td, 1, v.m, s.safe p, 0, [], j.base + j.entries.length⟩
  { s.setCab p { s.cab p with fenced := true, ingress := [] } with recov := s.recov ++ [r] }

/-- R438: the spare of a recovery: a healthy one in the Cabinet's row, or the nearest that leaves eight (R344, R444). -/
def State.recSpare (s : State) (r : Recov) : Option Nat :=
  if r.dst < 512 then some r.dst
  else match s.spares.find? fun q => q / 18 = r.src / 18 with
    | some q => some q
    | none => if s.spares.length < 9 then none else s.targetFor r.key r.cab r.src 0x1FF

/-- Table 16.5, step 2: the entries of pairs whose source is the Cabinet leave every reorder buffer. -/
def State.dropRobs (s : State) (k c : Nat) : State :=
  s.keepRobs fun r => !(r.flit.key = k && s.seqIndex k r.flit.src = 1024 + c)

/-- Table 16.5, steps 2 and 3: the Cabinet's sequence counters follow what its destinations expect. -/
def State.followExpect (s : State) (k c : Nat) : State :=
  s.seqs.foldl (fun s e =>
    if e.1 / 8 % 64 = k && e.1 / 512 % 2048 = 1024 + c && (decide (1024 ≤ e.1 / 512 / 2048) || decide (e.1 / 512 / 2048 < 0x180)) then
      { s with seqs := SMap.set (fun _ => 0) s.seqs e.1 (s.expected e.1) }
    else s) s

/-- R442: the accept counts of the Cabinet's sends at their destinations. -/
def State.acceptCounts (s : State) (k c : Nat) : SMap Nat :=
  (s.placed k).foldl (fun l e => (s.qm e.2).taken.foldl (fun l x =>
    if x.1 % 256 = c then SMap.set (fun _ => 0) l (x.1 / 256 * 256 + e.1) x.2 else l) l) []

/-- Table 16.5, step 2: a recovery starts: REWIND, FILTER, the reorder buffers and counts. False: it has failed. -/
def State.recStart (s : State) (r : Recov) : Bool × State :=
  match s.latestCkpt r.key r.cab, s.recSpare r with
  | some ck, some q =>
    let k := r.key
    let x := { r with step := 2, dst := q }
    let s := s.putRec r x
    let s := [0, k].foldl (fun s f => s.wr64 (intg f) 0x074 r.td) (s.recReg x 2)
    let s := s.raiseIntg k 2
    let s := (s.ownChans k).foldl (fun s n => s.mgmt k (0x120 + n) 0x30 ck.t r.cab) s
    let s := ((s.placed k).filter (·.2 ≠ r.src)).foldl (fun s e => s.mgmt k e.2 0x51 r.mf r.cab) s
    let s := ((s.dropRobs k r.cab).followExpect k r.cab).wake [4 + q]
    (true, s.setQm r.src { s.qm r.src with limits := s.acceptCounts k r.cab })
  | _, _ => (false, s.recFail r)

/-- The order of R444 and of the priority classes: does a recovery come before another? -/
def State.recBefore (s : State) (a b : Recov) : Bool :=
  decide ((s.cfg a.key).cls < (s.cfg b.key).cls) || ((s.cfg a.key).cls = (s.cfg b.key).cls && decide (a.td < b.td))

/-- R444: recoveries run one at a time. -/
def State.recNext : Nat → State → State
  | 0, s => s
  | n + 1, s =>
    if s.recov.any fun r => decide (2 ≤ r.step) then s
    else match s.recov.foldl (fun b r => match b with | none => some r | some x => if s.recBefore r x then some r else b) none with
      | none => s
      | some r => let x := s.recStart r; if x.1 then x.2 else State.recNext n x.2

/-- The next recovery starts where none runs. -/
def State.recGo (s : State) : State := s.recNext (s.recov.length + 1)

/-! ### Faults of Cabinets -/

/-- The migration in progress that has a position as its source or target and has not handed over. -/
def State.movingAt (s : State) (f : MbCmd → Nat) (p : Nat) : Option MbCmd :=
  s.mbox.find? fun m => m.moves && decide (m.phase ≤ 3) && f m = p

/-- R362: the source of a migration has faulted: the command ends, and the old map entry stands. -/
def State.moveLost (s : State) (m : MbCmd) : State :=
  let k := m.key
  let s := if m.phase = 3 then (s.writeInactive k m.cab ⟨m.src % 512, decide (m.src = 512), true⟩).mapSwitch k (s.switchRound k) else s
  s.putMb m (m.ends .faulted 0 0)

/-- R463: a position is fenced at run time. -/
def State.fencePos (s : State) (p : Nat) : State :=
  ({ s with boot := { s.boot with posFence := setBitTo s.boot.posFence p true } }.recChange).spareLow s.spares.length

/-- R428, R362, R444: a Cabinet at a position has faulted, detected at `td`. `inPlace`: it has lost a flit as its source. -/
def State.cabFaulted (s : State) (p td : Nat) (inPlace : Bool) : State :=
  let k := s.cabKey p
  match s.movingAt (·.dst) p with
  | some m => (s.moveAbandon m).fencePos p
  | none =>
    match s.recov.find? (fun r => r.dst = p && decide (4 ≤ r.step) && r.step < 6) with
    | some r => (s.recFail r).recGo
    | none =>
      if k = 0 || (s.part k ≠ .running && s.part k ≠ .stopped) then s
      else if !(s.cfg k).prot then (s.faultPart k).recGo
      else match s.logicalOf k p with
        | none => s.fencePos p
        | some c =>
          if s.recov.any fun r => r.key = k && r.cab = c then s
          else
            let tgt := match s.movingAt (·.src) p with | some m => m.dst | none => 512
            let s := match s.movingAt (·.src) p with | some m => s.moveLost m | none => s
            let s := s.fence k c p td inPlace
            let s := if tgt < 512 && !inPlace then
                { s with recov := s.recov.map fun r => if r.key = k && r.cab = c then { r with dst := tgt } else r } else s
            s.recGo

/-- R428: every partition that a condition holds of goes to FAULTED. -/
def State.faultParts (s : State) (dep : Nat → Bool) : State :=
  ((List.range 63).foldl (fun s i => if dep (i + 1) then s.faultPart (i + 1) else s) s).recGo

/-- R428: a partition depends on a mesh link when its key passes at one of the link's two ends. -/
def State.usesLink (s : State) (p port base k : Nat) : Bool :=
  let bit (q o : Nat) : Bool := s.flag (rtr q) (base + 8 * o + 4 * (k / 32)) (k % 32)
  match neighbour p port with
  | some x => bit p port && bit x.1 x.2
  | none => bit p port

/-- 05_fabric.md, Die-to-die links: does an edge endpoint lie behind a group? -/
def behindGroup (g e : Nat) : Bool :=
  match evAttach e with
  | some x => decide (1 ≤ x.1 / 18) && (x.1 / 18 - 1) / 5 = g % 3 && (if g < 3 then x.2 = 4 else x.2 = 2)
  | none => false

/-- R428: a lost flit: its source starts over in its own position where it is a Cabinet of a protected partition; otherwise the loss is a fault of the
destination, where that is a Cabinet (R134). -/
def State.flitLost (s : State) (arg td : Nat) : State :=
  let e := arg / 32768
  let k := arg / 512 % 64
  let src := arg % 512
  if isCab src && (s.cfg k).prot && (s.logicalOf k src).isSome then s.cabFaulted src td true
  else if isCab e then s.cabFaulted e td false else s

/-- R428: one fault report. -/
def State.handleFault (s : State) (f : FaultReport) : State :=
  match f.page.blk with
  | .cctl | .qmgr | .spad | .drw | .trs | .xpnd | .hzn | .cobs => s.cabFaulted f.page.pos f.time false
  | .rtr =>
    if f.code = 0x032 then s.flitLost f.arg f.time
    else if f.code = 0x022 && f.arg % 8 ≠ 0 then s.faultParts (s.usesLink f.page.inst (f.arg % 8) (if f.arg < 8 then 0x080 else 0x0C0))
    else s.cabFaulted f.page.inst f.time false
  | .d2d => if f.code = 0x022 then s.faultParts fun k => (s.members k).any (behindGroup f.page.inst) else s
  | .hut0 | .hut1 =>
    if f.code = 0x031 && ((s.cfg (f.arg / 512)).prot || f.arg % 2 = 1) then (s.faultPart (f.arg / 512)).recGo else s
  | .time0 | .time1 => s.resetHold 2 f.page.blk.code 0 f.code
  | .dev | .hq => s.resetHold 4 f.page.blk.code 0 f.code
  | .bur | .pwr | .plc | .intg | .obs | .bist => (s.aer 0 .internal).resetHold 3 f.page.blk.code 0 f.code
  | .chin | .chenc | .chdec | .chtmr => if f.code = 0x032 then s.flitLost f.arg f.time else s

/-- R428: the Bureau handles the oldest report of the fault sideband. -/
def execFaultReport (s : State) : Result :=
  match s.faultReports with
  | [] => done s
  | f :: rest => done (({ s with faultReports := rest }).handleFault f)

/-- R427: sixteen consecutive rounds of a partition have been INCOMPLETE: its Cabinets with the lowest ROUND_LAST have faulted. -/
def execSilentCabinet (k : Nat) (s : State) : Result :=
  let ps := (s.placed k).map (·.2)
  if !(s.sourceIds k).any (fun e => decide (16 ≤ (s.source k e).miss)) then done s
  else
    let low := ps.foldl (fun a p => min a (s.rdN (hzn p) 0x07C)) (2 ^ 32)
    let l := ps.filter fun p => s.rdN (hzn p) 0x07C = low
    let s := (s.sourceIds k).foldl (fun s e => s.setSource k e { s.source k e with miss := 0 }) s
    done (l.foldl (fun s p => s.cabFaulted p s.now false) s)

/-! ### Checkpoints -/

/-- R437: the last block of a Cabinet's checkpoint is written: it is valid, and the journal before its mark is free. -/
def execCheckpointValid (p : Nat) (s : State) : Result :=
  let k := s.cabKey p
  let c := s.cabLog p
  match (s.ckptsOf k c).find? (!·.valid) with
  | none => done s
  | some ck =>
    let j := s.journal k c
    let s := s.setCkpts k c [{ ck with valid := true, dur := (s.now - ck.since) / 32000 }]
    let s := s.setJournal k c { j with base := ck.mark - 1, entries := j.entries.drop (ck.mark - 1 - j.base), blocks := false }
    done (s.robResume p)

/-! ### Table 16.5, steps 3 and 4 -/

/-- Table 16.4: the entries of a journal, each KIND 2 entry with its message. -/
def journalParse : List Nat → List (Nat × Nat)
  | e :: a :: b :: l => if e % 8 = 2 then (e, a + b * 2 ^ 128) :: journalParse l else (e, 0) :: journalParse (a :: b :: l)
  | e :: l => (e, 0) :: journalParse l
  | [] => []

/-- R438: the undo entries, latest first. -/
def State.undoAll (s : State) (l : List (Nat × Nat)) : State :=
  (l.reverse.filter fun e => e.1 % 8 = 6).foldl (fun s e => s.stackPut (e.1 / 2 ^ 27 % 2 ^ 37) 8 (e.1 / 2 ^ 64)) s

/-- R440: a message of the journal is offered to the spare's queue manager, outside the journal. -/
def State.replayOffer (s : State) (p : Nat) (e : Nat × Nat) : Bool × State :=
  let r := (s.setCab p { s.cab p with replay := false }).offerWith p (e.1 / 2 ^ 108) e.2 false
  (r.1 ≠ qFull, r.2.setCab p { r.2.cab p with replay := true })

/-- R440: the messages are offered in journal order, until one finds its queue full. -/
def State.replayQueues (p : Nat) : List (Nat × Nat) → State → List (Nat × Nat) × State
  | [], s => ([], s)
  | e :: l, s =>
    if e.1 % 8 = 2 then
      let x := s.replayOffer p e
      if x.1 then State.replayQueues p l x.2 else (e :: l, s)
    else
      let x := State.replayQueues p l s
      (e :: x.1, x.2)

/-- The descriptor that has registered an instance, with any tag: the journal does not hold the tag. -/
def State.redAny (s : State) (p t inst : Nat) : Option TDesc := (s.win p t).find? fun x => dOp x.raw = 6 && x.state = 1 && x.left.contains inst

/-- R440: the journalled RED_DOWN entries whose instances are registered are delivered. -/
def State.replayReds (p : Nat) : List (Nat × Nat) → State → List (Nat × Nat) × State
  | [], s => ([], s)
  | e :: l, s =>
    let inst := nb e.1 31 16
    if e.1 % 8 ≠ 3 then let x := State.replayReds p l s; (e :: x.1, x.2)
    else match s.redAny p 0 inst, s.redAny p 1 inst with
      | some d, none => State.replayReds p l (s.redTake p 0 inst e.1 d)
      | some d, some f => State.replayReds p l ((s.redTake p 0 inst e.1 d).redTake p 1 inst e.1 f)
      | none, some d => State.replayReds p l (s.redTake p 1 inst e.1 d)
      | none, none => let x := State.replayReds p l s; (e :: x.1, x.2)

/-- R440: the replay takes what it can of the journal. -/
def State.replayTake (s : State) (r : Recov) : State :=
  let a := State.replayReds r.dst r.left s
  let b := State.replayQueues r.dst a.1 a.2
  b.2.putRec r { r with left := b.1 }

/-- R440: the events that the journal took before the fence stand before the spare's expander, in journal order. -/
def State.replayEvents (s : State) (k p : Nat) (l : List (Nat × Nat)) : State :=
  (l.filter fun e => e.1 % 8 = 1).foldl (fun s e => s.toInbox p false ⟨p, 0, 0, k, 0, 0, 0, e.1 - 1⟩) s

/-- R436, R438: the checkpoint stands at the spare. The registers a checkpoint does not hold come from the Cabinet's old position, with its units idle. -/
def State.restore (s : State) (r : Recov) (ck : Ckpt) : State :=
  let regs := (s.savePages r.src).filter fun e => decide (0x040 ≤ e.1 % 4096)
  let q := r.dst
  let limits := (s.qm r.src).limits
  let kept := if r.src = q then (s.cab q).ingress else []
  let s := (s.openPos r.key q).loadPages q regs
  let s := (List.range 4).foldl (fun s d => ((s.setFld (drw q d) 0x044 1 0 0).setFlag (drw q d) 0x00C 0 false).drwShow q d) s
  let s := (List.range 2).foldl (fun s t => ((s.setFld (trs q t) 0x044 1 0 0).setFlag (trs q t) 0x00C 0 false).trsShow q t) s
  let s := ck.regs.foldl (fun s e => if e.1 < 4096 then (if e.1 < 0x040 then s else s.wr (hzn q) e.1 e.2)
    else if e.1 < 4096 + 0x040 then s else s.wr (xpnd q) (e.1 - 4096) e.2) s
  let c := ck.cab
  let sends := c.q.sends.map fun x => { x with state := 0, refusedAt := 0, hung := false }
  let s := (List.range 4).foldl (fun s d => s.countRested q d) (s.putCabBytes q ck.bytes)
  let s := s.setCab q
    { c with x := { c.x with cache := [], pinned := [] }, q := { c.q with sends := sends, limits := limits }
             fenced := false, frozen := false, ingress := kept, filters := [], replay := true }
  let s := s.setFld (cctl q) 0x00C 1 0 (s.fld (cctl q) 0x040 0 0)
  let s := { s with inbox := s.inbox.filter fun a => !((a.dest = r.src || a.dest = q) && a.flit.kind = 0) }
  let s := ck.inbox.foldl (fun s f => s.toInbox q false f) s
  (s.wr64 (hzn q) 0x058 r.sf).applyPins q

/-- Table 16.5, step 3: the spare holds the checkpoint with the undo made, and replay starts; or nothing readable is left (R444). -/
def execRecoveryRestoreDone (k : Nat) (ok : Bool) (s : State) : Result :=
  match s.recov.find? fun r => r.key = k && r.step = 2 with
  | none => done s
  | some r =>
    match s.latestCkpt k r.cab with
    | none => done (s.recFail r).recGo
    | some ck =>
      if !ok then done (s.recFail r).recGo
      else if !s.domReady (4 + r.dst) then done s
      else
        let j := s.journal k r.cab
        let l := journalParse ((j.entries.drop (ck.mark - j.base)).take (r.mark - ck.mark))
        let x := { r with step := 4, left := l.filter fun e => e.1 % 8 = 2 || e.1 % 8 = 3 }
        let s := ((s.restore r ck).undoAll l).putRec r x
        let s := ((if r.src = r.dst then s else s.newHolder k x.dst).connect k [x.dst]).replayEvents k x.dst l
        let s := (List.range 11).foldl (fun s u => s.relaunch x.dst u) s
        done ((s.replayTake x).recReg x 4)

/-- Table 16.5, step 4: FRONT with the spare's G goes to the partition's channels. -/
def execFrontSend (k : Nat) (s : State) : Result :=
  match s.recov.find? fun r => r.key = k && r.step = 4 with
  | none => done s
  | some r => done ((s.ownChans k).foldl (fun s n => s.mgmt k (0x120 + n) 0x31 (s.gEnd r.dst) r.cab) (s.replayTake r))

/-! ### Table 16.5, steps 5 and 6 -/

/-- R440: has the replay reached its end? A RED_DOWN that nothing has registered holds nothing up. -/
def State.replayOver (s : State) (r : Recov) : Bool :=
  r.left.all (fun e => e.1 % 8 ≠ 2) && s.gEnd r.dst = r.sf / s.stepQ r.dst * s.stepQ r.dst

/-- R441: the filters on a Cabinet end; what is left in a multiset tells that the replay has diverged. -/
def State.filtersEnd (s : State) (k c : Nat) : State :=
  (s.placed k).foldl (fun s e =>
    let v := s.cab e.2
    let n := ((v.filters.filter (·.1 = c)).map (·.2.2.length)).foldl (· + ·) 0
    let s := s.setCab e.2 { v with filters := v.filters.filter (·.1 ≠ c) }
    if n = 0 then s
    else ((s.errIntg k 4 0x112 (c % 256 + k % 64 * 256)).setCfg k { s.cfg k with left := min ((s.cfg k).left + n) 4294967295 }).raiseIntg k 7) s

/-- Table 16.9: a recovery has taken so many µs. -/
def State.recDone (s : State) (r : Recov) : State :=
  let us := (s.now - r.td) / 32000
  [0, r.key].eraseDups.foldl (fun s f =>
    ((s.wrN (intg f) 0x07C us).wrN (intg f) 0x080 (max (s.rdN (intg f) 0x080) us)).incCtr (intg f) 0x084) s

/-- Table 16.5, step 6. -/
def State.recFinish (s : State) (r : Recov) : State :=
  let k := r.key
  let n := s.spares.length
  let s := (s.ownChans k).foldl (fun s n => s.mgmt k (0x120 + n) 0x32 0 r.cab) s
  let s := s.filtersEnd k r.cab
  let s := if r.src ≠ r.dst then ((s.closePos r.src).fencePos r.src).swapSpare r.src r.dst else s
  let s := { s with recov := s.recov.filter (· ≠ r) }
  let s := (((s.connect k []).recDone r).recReg r 6).raiseIntg k 3
  ((s.bumpEp k).spareLow n).recGo

/-- R440, Table 16.5, steps 5 and 6: the replay has ended, and the map switches to the spare; once the spare has taken over, or at once where the
Cabinet recovers in its own position, the recovery finishes. -/
def execReplayComplete (k : Nat) (s : State) : Result :=
  match s.recov.find? fun r => r.key = k && (r.step = 4 || r.step = 6) with
  | none => done s
  | some r =>
    if r.step = 6 then done (s.recFinish r)
    else
      let s := s.replayTake r
      match s.recov.find? fun r => r.key = k && r.step = 4 with
      | none => done s
      | some r =>
        if !s.replayOver r then done s
        else if r.src = r.dst then
          let s := s.replayEnds r.dst (s.cab r.dst).ingress
          done (s.recFinish r)
        else
          let re := s.switchRound k
          let s := (s.setSource k r.dst { s.source k r.src with next := re, waiting := [], flying := [], sent := [] }).putRec r { r with step := 5, re := re }
          done (((s.writeInactive k r.cab ⟨r.dst, false, true⟩).mapSwitch k re).recReg r 5)

/-- R441: a Cabinet takes the FILTER flit that has reached it: the payloads of its journal from Cabinet `c` at or after M_f. -/
def execFilter (p : Nat) (s : State) : Result :=
  match s.mgmtAt p 0x51 with
  | none => done s
  | some a =>
    let s := { s with inbox := s.inbox.erase a }
    let c := nb a.flit.payload 71 64
    let mf := rebuild (nb a.flit.payload 119 72) s.now
    let l := (journalParse (s.journal (s.cabKey p) (s.cabLog p)).entries).filterMap fun e =>
      if e.1 % 8 = 1 && evSource (e.1 - 1) / 2 ^ 15 = c && decide (mf ≤ rebuild (evTime (e.1 - 1)) s.now) then some (e.1 - 1) else none
    done (s.setCab p { s.cab p with filters := (c, mf, l) :: (s.cab p).filters.filter (·.1 ≠ c) })

end Sys2Proof.Machine
end

