-- ==== Sys2Proof/Machine/Dispatch.lean ====
section
/-!
DEFINITION. Dispatch.lean: one arm per command, each a direct call of the meaning of that command.
-/

namespace Sys2Proof.Machine

/-- The effect of a command on everything but the queue of waiting commands. -/
def exec (i : Instr) (s : State) : Host.Outcome State Fault Refusal :=
  match i with
  | .holdoverEntry => Sys2Proof.Machine.execHoldoverEntry s
  | .pllRelock => Sys2Proof.Machine.execPllRelock s
  | .start r w => Sys2Proof.Machine.execStart r w s
  | .armSysref r w => Sys2Proof.Machine.execArmSysref r w s
  | .disarm r w => Sys2Proof.Machine.execDisarm r w s
  | .sysrefEdge phi => Sys2Proof.Machine.execSysrefEdge phi s
  | .deviceTimeLoad => Sys2Proof.Machine.execDeviceTimeLoad s
  | .copySync p => Sys2Proof.Machine.execCopySync p s
  | .copyCheck bad => Sys2Proof.Machine.execCopyCheck bad s
  | .timeSoftReset r w => Sys2Proof.Machine.execTimeSoftReset r w s
  | .wideLowRead r t bus => Sys2Proof.Machine.execWideLowRead r t bus s
  | .wideLowWrite r p off w => Sys2Proof.Machine.execWideLowWrite r p off w s
  | .wideHighWrite r p off w => Sys2Proof.Machine.execWideHighWrite r p off w s
  | .triginEdge pin fall phi => Sys2Proof.Machine.execTriginEdge pin fall phi s
  | .triginQualify pin held => Sys2Proof.Machine.execTriginQualify pin held s
  | .externalTriggerEvent pin => Sys2Proof.Machine.execExternalTriggerEvent pin s
  | .triginEvtWrite r pin w => Sys2Proof.Machine.execTriginEvtWrite r pin w s
  | .timerTick p j => Sys2Proof.Machine.execTimerTick p j s
  | .timerEnable r p j w => Sys2Proof.Machine.execTimerEnable r p j w s
  | .timerRestart r p j w => Sys2Proof.Machine.execTimerRestart r p j w s
  | .capturePop r p j => Sys2Proof.Machine.execCapturePop r p j s
  | .channelEnable r n w => Sys2Proof.Machine.execChannelEnable r n w s
  | .channelDisable r n w => Sys2Proof.Machine.execChannelDisable r n w s
  | .linkEnable r n w => Sys2Proof.Machine.execLinkEnable r n w s
  | .linkReinit r n w => Sys2Proof.Machine.execLinkReinit r n w s
  | .linkDisable r n w => Sys2Proof.Machine.execLinkDisable r n w s
  | .laneLock n => Sys2Proof.Machine.execLaneLock n s
  | .lmfcAlign n phi => Sys2Proof.Machine.execLmfcAlign n phi s
  | .ilasCheck n got => Sys2Proof.Machine.execIlasCheck n got s
  | .ilasRetry n => Sys2Proof.Machine.execIlasRetry n s
  | .linkUp n k => Sys2Proof.Machine.execLinkUp n k s
  | .laneErr n lane code => Sys2Proof.Machine.execLaneErr n lane code s
  | .lossOfCodeGroupSync n lane => Sys2Proof.Machine.execLossOfCodeGroupSync n lane s
  | .multiblockCrcCheck n lane ok a b => Sys2Proof.Machine.execMultiblockCrcCheck n lane ok a b s
  | .lossOfSyncHeaderLock n lane => Sys2Proof.Machine.execLossOfSyncHeaderLock n lane s
  | .serdesPllLoss n => Sys2Proof.Machine.execSerdesPllLoss n s
  | .wordStamp n samples err => Sys2Proof.Machine.execWordStamp n samples err s
  | .channelSysrefCheck n phi => Sys2Proof.Machine.execChannelSysrefCheck n phi s
  | .dlOffsetWrite r n w => Sys2Proof.Machine.execDlOffsetWrite r n w s
  | .sfifoPop r n ecc => Sys2Proof.Machine.execSfifoPop r n ecc s
  | .sfifoDropRest r n => Sys2Proof.Machine.execSfifoDropRest r n s
  | .sfifoArm r n => Sys2Proof.Machine.execSfifoArm r n s
  | .sfifoFlush r n => Sys2Proof.Machine.execSfifoFlush r n s
  | .sfifoThrWrite r n w => Sys2Proof.Machine.execSfifoThrWrite r n w s
  | .sdmaRecordCopy n => Sys2Proof.Machine.execSdmaRecordCopy n s
  | .gapStart n => Sys2Proof.Machine.execGapStart n s
  | .pairStatusSend n w => Sys2Proof.Machine.execPairStatusSend n w s
  | .pairStatusReceive n f => Sys2Proof.Machine.execPairStatusReceive n f s
  | .pairDeliveryDecision n w => Sys2Proof.Machine.execPairDeliveryDecision n w s
  | .txEnable r n w => Sys2Proof.Machine.execTxEnable r n w s
  | .txAlign n phi => Sys2Proof.Machine.execTxAlign n phi s
  | .txSample n => Sys2Proof.Machine.execTxSample n s
  | .linkConfigWrite r n off w => Sys2Proof.Machine.execLinkConfigWrite r n off w s
  | .encoderEventRelease n => Sys2Proof.Machine.execEncoderEventRelease n s
  | .flitReceive p port crc parity f => Sys2Proof.Machine.execFlitReceive p port crc parity f s
  | .linkRetrain p port plane memMesh o => Sys2Proof.Machine.execLinkRetrain p port plane memMesh o s
  | .flitEject e esc f => Sys2Proof.Machine.execFlitEject e esc f s
  | .robTimeout e => Sys2Proof.Machine.execRobTimeout e s
  | .escape p port f => Sys2Proof.Machine.execEscape p port f s
  | .d2dReplay g frame lanes => Sys2Proof.Machine.execD2dReplay g frame lanes s
  | .d2dGroupDown g failing us => Sys2Proof.Machine.execD2dGroupDown g failing us s
  | .d2dRetrain r g w failing us => Sys2Proof.Machine.execD2dRetrain r g w failing us s
  | .redUp p f => Sys2Proof.Machine.execRedUp p f s
  | .redWindowExpiry p key tag inst => Sys2Proof.Machine.execRedWindowExpiry p key tag inst s
  | .redTmo p key tag inst => Sys2Proof.Machine.execRedTmo p key tag inst s
  | .redDownReceive e => Sys2Proof.Machine.execRedDownReceive e s
  | .acceptanceNotice j => Sys2Proof.Machine.execAcceptanceNotice j s
  | .fwdExpiry p => Sys2Proof.Machine.execFwdExpiry p s
  | .delivery p ecc => Sys2Proof.Machine.execDelivery p ecc s
  | .evaluate p d j ecc => Sys2Proof.Machine.execEvaluate p d j ecc s
  | .sweepVisit p d ecc => Sys2Proof.Machine.execSweepVisit p d ecc s
  | .catchupPass p d => Sys2Proof.Machine.execCatchupPass p d s
  | .handshakeTimeout p d j => Sys2Proof.Machine.execHandshakeTimeout p d j s
  | .readNeuron p d ecc => Sys2Proof.Machine.execReadNeuron p d ecc s
  | .writeNeuron p d ecc => Sys2Proof.Machine.execWriteNeuron p d ecc s
  | .charge p d => Sys2Proof.Machine.execCharge p d s
  | .drwWinData r p d w ecc => Sys2Proof.Machine.execDrwWinData r p d w ecc s
  | .drawerPause r p d w => Sys2Proof.Machine.execDrawerPause r p d w s
  | .stepStart p => Sys2Proof.Machine.execStepStart p s
  | .stepComplete p => Sys2Proof.Machine.execStepComplete p s
  | .ldqReturn p => Sys2Proof.Machine.execLdqReturn p s
  | .spillResume p => Sys2Proof.Machine.execSpillResume p s
  | .horizonRoundSample k e => Sys2Proof.Machine.execHorizonRoundSample k e s
  | .horizonContributionSend k e => Sys2Proof.Machine.execHorizonContributionSend k e s
  | .coreFloorWrite r p w => Sys2Proof.Machine.execCoreFloorWrite r p w s
  | .plasticEventWalk p ecc => Sys2Proof.Machine.execPlasticEventWalk p ecc s
  | .expanderEvent p mesh ecc => Sys2Proof.Machine.execExpanderEvent p mesh ecc s
  | .rowLineFill p bad => Sys2Proof.Machine.execRowLineFill p bad s
  | .epochRequest r p w => Sys2Proof.Machine.execEpochRequest r p w s
  | .epochSwitch p => Sys2Proof.Machine.execEpochSwitch p s
  | .relocationCopy p axon bad => Sys2Proof.Machine.execRelocationCopy p axon bad s
  | .relocDone p axon => Sys2Proof.Machine.execRelocDone p axon s
  | .relocationInstall p axon => Sys2Proof.Machine.execRelocationInstall p axon s
  | .rewardProcess p => Sys2Proof.Machine.execRewardProcess p s
  | .consolidationMarker p => Sys2Proof.Machine.execConsolidationMarker p s
  | .markerProcess p => Sys2Proof.Machine.execMarkerProcess p s
  | .descriptorEntry p t => Sys2Proof.Machine.execDescriptorEntry p t s
  | .loadW p t ecc => Sys2Proof.Machine.execLoadW p t ecc s
  | .loadCb p t ecc => Sys2Proof.Machine.execLoadCb p t ecc s
  | .loadRescale p t ecc => Sys2Proof.Machine.execLoadRescale p t ecc s
  | .loadAct p t ecc => Sys2Proof.Machine.execLoadAct p t ecc s
  | .run p t ecc chk => Sys2Proof.Machine.execRun p t ecc chk s
  | .reduceOutCopy p t ecc => Sys2Proof.Machine.execReduceOutCopy p t ecc s
  | .reduceOutReduce p t ecc => Sys2Proof.Machine.execReduceOutReduce p t ecc s
  | .emitEvents p t ecc => Sys2Proof.Machine.execEmitEvents p t ecc s
  | .fence p t => Sys2Proof.Machine.execFence p t s
  | .descriptorComplete p t => Sys2Proof.Machine.execDescriptorComplete p t s
  | .redDownProgramResult p => Sys2Proof.Machine.execRedDownProgramResult p s
  | .trestlePause r p t w => Sys2Proof.Machine.execTrestlePause r p t w s
  | .trsWinData r p t w ecc => Sys2Proof.Machine.execTrsWinData r p t w ecc s
  | .bankPowerWrite r p hi w => Sys2Proof.Machine.execBankPowerWrite r p hi w s
  | .bankTransitionDone p b => Sys2Proof.Machine.execBankTransitionDone p b s
  | .coreInstruction p fetch data parity => Sys2Proof.Machine.execCoreInstruction p fetch data parity s
  | .coreInterrupt p => Sys2Proof.Machine.execCoreInterrupt p s
  | .qsend p ecc => Sys2Proof.Machine.execQsend p ecc s
  | .qsendT p ecc => Sys2Proof.Machine.execQsendT p ecc s
  | .qrecv p ecc => Sys2Proof.Machine.execQrecv p ecc s
  | .qrecvReceive p ecc => Sys2Proof.Machine.execQrecvReceive p ecc s
  | .qpeek p ecc => Sys2Proof.Machine.execQpeek p ecc s
  | .qmcast p ecc => Sys2Proof.Machine.execQmcast p ecc s
  | .hzwait p => Sys2Proof.Machine.execHzwait p s
  | .hzwaitRetire p => Sys2Proof.Machine.execHzwaitRetire p s
  | .evinj p ecc => Sys2Proof.Machine.execEvinj p ecc s
  | .offer p unit ecc => Sys2Proof.Machine.execOffer p unit ecc s
  | .sendAnswer j => Sys2Proof.Machine.execSendAnswer j s
  | .sendRetry e unit => Sys2Proof.Machine.execSendRetry e unit s
  | .ctxCreate r p => Sys2Proof.Machine.execCtxCreate r p s
  | .ctxDestroy r p => Sys2Proof.Machine.execCtxDestroy r p s
  | .ctxSetThr r p => Sys2Proof.Machine.execCtxSetThr r p s
  | .ctxFlush r p => Sys2Proof.Machine.execCtxFlush r p s
  | .portDrain p q ecc => Sys2Proof.Machine.execPortDrain p q ecc s
  | .prefetch p => Sys2Proof.Machine.execPrefetch p s
  | .hang p unit => Sys2Proof.Machine.execHang p unit s
  | .coreRunWrite r p w => Sys2Proof.Machine.execCoreRunWrite r p w s
  | .hostSignal r p w => Sys2Proof.Machine.execHostSignal r p w s
  | .qmgrCtxRead r p => Sys2Proof.Machine.execQmgrCtxRead r p s
  | .qmgrHeadRead r p ecc => Sys2Proof.Machine.execQmgrHeadRead r p ecc s
  | .decoderInput n room => Sys2Proof.Machine.execDecoderInput n room s
  | .recordWrite n bad => Sys2Proof.Machine.execRecordWrite n bad s
  | .resultRelease a => Sys2Proof.Machine.execResultRelease a s
  | .trigOutEnd n => Sys2Proof.Machine.execTrigOutEnd n s
  | .recordHeldCommit a => Sys2Proof.Machine.execRecordHeldCommit a s
  | .rfPop r n ecc => Sys2Proof.Machine.execRfPop r n ecc s
  | .rfDropRest r n => Sys2Proof.Machine.execRfDropRest r n s
  | .rfFlush r n => Sys2Proof.Machine.execRfFlush r n s
  | .rfThrWrite r n w => Sys2Proof.Machine.execRfThrWrite r n w s
  | .rdmaRecordCopy n => Sys2Proof.Machine.execRdmaRecordCopy n s
  | .rewind n => Sys2Proof.Machine.execRewind n s
  | .front n => Sys2Proof.Machine.execFront n s
  | .replayEnd n => Sys2Proof.Machine.execReplayEnd n s
  | .partConfig r w => Sys2Proof.Machine.execPartConfig r w s
  | .imageLoad r w => Sys2Proof.Machine.execImageLoad r w s
  | .imageLoadTimeout f => Sys2Proof.Machine.execImageLoadTimeout f s
  | .partStart r w => Sys2Proof.Machine.execPartStart r w s
  | .partStop r w => Sys2Proof.Machine.execPartStop r w s
  | .partRelease r w => Sys2Proof.Machine.execPartRelease r w s
  | .migrate r w => Sys2Proof.Machine.execMigrate r w s
  | .park r w => Sys2Proof.Machine.execPark r w s
  | .unpark r w => Sys2Proof.Machine.execUnpark r w s
  | .rebalance r w obs pins => Sys2Proof.Machine.execRebalance r w obs pins s
  | .consolidate r w => Sys2Proof.Machine.execConsolidate r w s
  | .query r w => Sys2Proof.Machine.execQuery r w s
  | .mailboxCommandDone f => Sys2Proof.Machine.execMailboxCommandDone f s
  | .migrationFreeze f => Sys2Proof.Machine.execMigrationFreeze f s
  | .migrationCopyDone f => Sys2Proof.Machine.execMigrationCopyDone f s
  | .pgOwnerWrite r p w => Sys2Proof.Machine.execPgOwnerWrite r p w s
  | .pgLockWrite r p w => Sys2Proof.Machine.execPgLockWrite r p w s
  | .memoryRequest f ecc => Sys2Proof.Machine.execMemoryRequest f ecc s
  | .scrubRead h ecc => Sys2Proof.Machine.execScrubRead h ecc s
  | .pcRetire r h w => Sys2Proof.Machine.execPcRetire r h w s
  | .imbalanceWindow h => Sys2Proof.Machine.execImbalanceWindow h s
  | .relayout r h w => Sys2Proof.Machine.execRelayout r h w s
  | .relayoutLineCopy h => Sys2Proof.Machine.execRelayoutLineCopy h s
  | .perstNRise => Sys2Proof.Machine.execPerstNRise s
  | .configRequest f op ready => Sys2Proof.Machine.execConfigRequest f op ready s
  | .doorbell f off w bus => Sys2Proof.Machine.execDoorbell f off w bus s
  | .stackWindowAccess f o acc bus => Sys2Proof.Machine.execStackWindowAccess f o acc bus s
  | .flr f => Sys2Proof.Machine.execFlr f s
  | .hotReset => Sys2Proof.Machine.execHotReset s
  | .pgIrqSet r p w => Sys2Proof.Machine.execPgIrqSet r p w s
  | .pgIrqRawClear r p w => Sys2Proof.Machine.execPgIrqRawClear r p w s
  | .pgErrInfoClear r p w => Sys2Proof.Machine.execPgErrInfoClear r p w s
  | .softReset r p w => Sys2Proof.Machine.execSoftReset r p w s
  | .softResetDone p => Sys2Proof.Machine.execSoftResetDone p s
  | .vecEoi r w => Sys2Proof.Machine.execVecEoi r w s
  | .msixMessage f v => Sys2Proof.Machine.execMsixMessage f v s
  | .ringFetch f j => Sys2Proof.Machine.execRingFetch f j s
  | .ringStall f j => Sys2Proof.Machine.execRingStall f j s
  | .ringWrite f j ecc => Sys2Proof.Machine.execRingWrite f j ecc s
  | .ringReset r => Sys2Proof.Machine.execRingReset r s
  | .ringRetry r => Sys2Proof.Machine.execRingRetry r s
  | .ringSkip r => Sys2Proof.Machine.execRingSkip r s
  | .ringCfgWrite r w => Sys2Proof.Machine.execRingCfgWrite r w s
  | .hold r w => Sys2Proof.Machine.execHold r w s
  | .release r w x => Sys2Proof.Machine.execRelease r w x s
  | .legacyWrite r w => Sys2Proof.Machine.execLegacyWrite r w s
  | .faultReport => Sys2Proof.Machine.execFaultReport s
  | .silentCabinet k => Sys2Proof.Machine.execSilentCabinet k s
  | .checkpointValid p => Sys2Proof.Machine.execCheckpointValid p s
  | .recoveryRestoreDone k ok => Sys2Proof.Machine.execRecoveryRestoreDone k ok s
  | .frontSend k => Sys2Proof.Machine.execFrontSend k s
  | .replayComplete k => Sys2Proof.Machine.execReplayComplete k s
  | .filter p => Sys2Proof.Machine.execFilter p s
  | .resetNRise x => Sys2Proof.Machine.execResetNRise x s
  | .resetNFall => Sys2Proof.Machine.execResetNFall s
  | .firmwareBlock p index count dest data crc => Sys2Proof.Machine.execFirmwareBlock p index count dest data crc s
  | .shutdown r w => Sys2Proof.Machine.execShutdown r w s
  | .bistDone l ms ok => Sys2Proof.Machine.execBistDone l ms ok s
  | .clearFaults r w => Sys2Proof.Machine.execClearFaults r w s
  | .runFull r w => Sys2Proof.Machine.execRunFull r w s
  | .healthRecordUpdate ok => Sys2Proof.Machine.execHealthRecordUpdate ok s
  | .trainingRecordWrite ok => Sys2Proof.Machine.execTrainingRecordWrite ok s
  | .powerRequest r p w => Sys2Proof.Machine.execPowerRequest r p w s
  | .transitionDone d bad => Sys2Proof.Machine.execTransitionDone d bad s
  | .clockSwitch r w => Sys2Proof.Machine.execClockSwitch r w s
  | .devicePowerRequest r w => Sys2Proof.Machine.execDevicePowerRequest r w s
  | .devDone => Sys2Proof.Machine.execDevDone s
  | .wakeN x => Sys2Proof.Machine.execWakeN x s
  | .freezeArm r w => Sys2Proof.Machine.execFreezeArm r w s
  | .snapTake r w => Sys2Proof.Machine.execSnapTake r w s
  | .freeze => Sys2Proof.Machine.execFreeze s
  | .thaw r w => Sys2Proof.Machine.execThaw r w s
  | .counterResume => Sys2Proof.Machine.execCounterResume s
  | .snapDone fail => Sys2Proof.Machine.execSnapDone fail s
  | .traceRecordWrite e => Sys2Proof.Machine.execTraceRecordWrite e s
  | .cntClear r p w => Sys2Proof.Machine.execCntClear r p w s
  | .tapInstruction code => Sys2Proof.Machine.execTapInstruction code s
  | .unlockChal => Sys2Proof.Machine.execUnlockChal s
  | .unlockResp x => Sys2Proof.Machine.execUnlockResp x s
  | .debugHalt h => Sys2Proof.Machine.execDebugHalt h s
  | .monitorReading temps => Sys2Proof.Machine.execMonitorReading temps s
  | .smbusBlockRead => Sys2Proof.Machine.execSmbusBlockRead s
  | .smbusMonitorRead j => Sys2Proof.Machine.execSmbusMonitorRead j s
  | .smbusHighestRead => Sys2Proof.Machine.execSmbusHighestRead s
  | .smbusAlarmRead => Sys2Proof.Machine.execSmbusAlarmRead s
  | .smbusAlarmClear v pec => Sys2Proof.Machine.execSmbusAlarmClear v pec s
  | .registerWrite r t v bus => Sys2Proof.Machine.execRegisterWrite r t v bus s
  | .debugResume h => Sys2Proof.Machine.execDebugResume h s
  | .errorLogPop r => Sys2Proof.Machine.execErrorLogPop r s
  | .mapSwitchFlit e => Sys2Proof.Machine.execMapSwitchFlit e s
  | .waitStartRecord p => Sys2Proof.Machine.execWaitStartRecord p s
  | .vddAonRise => Sys2Proof.Machine.execVddAonRise s
  | .vddAonLoss => Sys2Proof.Machine.execVddAonLoss s
  | .completionTimeout src => Sys2Proof.Machine.execCompletionTimeout src s
  | .dmaReadCompletion src d => Sys2Proof.Machine.execDmaReadCompletion src d s

end Sys2Proof.Machine
end

