-- ==== Sys2Proof/Machine/Step.lean ====
section
/-!
DEFINITION. Step.lean: one step of the block: the command at the front of the queue, or one CLK_TB edge when none waits.
-/

namespace Sys2Proof.Machine

/-- One step: the front command acts on the state with the rest of the queue; an empty queue lets one CLK_TB edge pass
(DESIGN CHOICE, log entry 1). -/
def step (s : State) : Host.Outcome State Fault Refusal :=
  match s.pending with
  | [] => .next (clockEdge s)
  | c :: rest => exec c { s with pending := rest }

/-- The state with the command a word spells at the front of its queue (the table gives no row bits, so no word spells one). -/
def State.withFetchWord (s : State) (nbits w : Nat) : State :=
  match Sys2Proof.decodeTableWord nbits w with
  | some c => { s with pending := c :: s.pending }
  | none => s

end Sys2Proof.Machine
end

