-- ==== Sys2Proof/WellFormed.lean ====
section
/-!
DEFINITION. WellFormed.lean: which commands are well formed: every operand lies in the range that the spec gives it (function, partition
key, channel, position, Drawer, Trestle, Hutch, group, pin, lane, page instance, flit field). The sender forms only such commands;
the meanings are total and need no such premise.
-/

namespace Sys2Proof

/-- How many instances a block has (00_scope.md, Table 0.3; 15_host.md, Table 15.4): functions, channels, Hutches, groups, positions. -/
def Block.instances : Block → Nat
  | .dev | .bur | .intg | .hq => 64
  | .pwr | .time0 | .time1 | .plc | .obs | .bist => 1
  | .chin | .chenc | .chdec | .chtmr => 16
  | .hut0 | .hut1 => 4
  | .d2d => 6
  | .cctl | .qmgr | .spad | .xpnd | .hzn | .rtr | .cobs => 288
  | .drw => 1152
  | .trs => 576

/-- A page that exists on a device with every resource enabled. -/
def Page.wf (p : Page) : Bool := decide (p.inst < p.blk.instances)

/-- A requester: one of 64 functions, the Bureau, or the control core of one of 288 positions. -/
def Req.wf : Req → Bool
  | .fn n => decide (n < 64)
  | .bureau => true
  | .core p => decide (p < 288)

/-- A flit whose fields fit Table 5.3. -/
def Flit.wf (f : Flit) : Bool :=
  decide (f.dest < 512) && decide (f.src < 512) && decide (f.vc < 8) && decide (f.key < 64) && decide (f.seq < 4096) &&
  decide (f.kind < 8) && decide (f.tag < 64) && decide (f.payload < 2 ^ 128)

/-- A memory flit whose fields fit Table 5.6. -/
def MFlit.wf (f : MFlit) : Bool :=
  decide (f.dest < 512) && decide (f.src < 512) && decide (f.key < 64) && decide (f.op < 8) && decide (f.len < 4) &&
  decide (f.tag < 2048) && decide (f.line < 2 ^ 31) && decide (f.qmask < 256) && decide (f.hops < 64) && decide (f.plane < 3) &&
  decide (f.data < 2 ^ 512)

/-- A flit of either mesh whose fields fit. -/
def AnyFlit.wf : AnyFlit → Bool
  | .ev f => f.wf
  | .mem f => f.wf

/-- A read of host memory by one of the 64 functions, for one of its rings or its mailbox. -/
def DmaFor.wf : DmaFor → Bool
  | .ring f i => decide (f < 64) && decide (i < 1024)
  | .image f => decide (f < 64)

/-- A register of a page, word aligned (R11), or a BAR0 or BAR2 access of 1 to 8 bytes. -/
def Target.wf : Target → Bool
  | .reg p off => p.wf && decide (off < 4096) && decide (off % 4 = 0)
  | .bar off size => decide (off < 2 ^ 25) && (size = 1 || size = 2 || size = 4 || size = 8)
  | .bar2 off size => decide (off < 2 ^ 20) && (size = 1 || size = 2 || size = 4 || size = 8)

/-- What a start meets: a boot source of two bits, and at most as many failing channels and stacks as there are. -/
def StartPlan.wf (x : StartPlan) : Bool :=
  decide (x.bootSrc < 4) && decide (x.stackBad < 16) && decide (x.chanBad < 65536) && decide (x.lanes.length ≤ 6)

/-- A well-formed command. -/
def Instr.wf : Instr → Bool
  | .holdoverEntry => true
  | .pllRelock => true
  | .start r _ => r.wf
  | .armSysref r _ => r.wf
  | .disarm r _ => r.wf
  | .sysrefEdge phi => decide (phi < 16)
  | .deviceTimeLoad => true
  | .copySync p => p.wf
  | .copyCheck bad => bad.all Page.wf
  | .timeSoftReset r _ => r.wf
  | .wideLowRead r t _ => r.wf && t.wf
  | .wideLowWrite r p off _ => r.wf && p.wf && decide (off < 4096)
  | .wideHighWrite r p off _ => r.wf && p.wf && decide (off < 4096)
  | .triginEdge pin _ phi => decide (pin < 4) && decide (phi < 16)
  | .triginQualify pin _ => decide (pin < 4)
  | .externalTriggerEvent pin => decide (pin < 4)
  | .triginEvtWrite r pin _ => r.wf && decide (pin < 4)
  | .timerTick p i => p.wf && decide (i < 8)
  | .timerEnable r p i _ => r.wf && p.wf && decide (i < 8)
  | .timerRestart r p i _ => r.wf && p.wf && decide (i < 8)
  | .capturePop r p i => r.wf && p.wf && decide (i < 8)
  | .channelEnable r n _ => r.wf && decide (n < 16)
  | .channelDisable r n _ => r.wf && decide (n < 16)
  | .linkEnable r n _ => r.wf && decide (n < 16)
  | .linkReinit r n _ => r.wf && decide (n < 16)
  | .linkDisable r n _ => r.wf && decide (n < 16)
  | .laneLock n => decide (n < 16)
  | .lmfcAlign n phi => decide (n < 16) && decide (phi < 16)
  | .ilasCheck n _ => decide (n < 16)
  | .ilasRetry n => decide (n < 16)
  | .linkUp n k => decide (n < 16) && k.elastic.all (· < 4)
  | .laneErr n lane _ => decide (n < 16) && decide (lane < 8)
  | .lossOfCodeGroupSync n lane => decide (n < 16) && decide (lane < 8)
  | .multiblockCrcCheck n lane _ _ _ => decide (n < 16) && decide (lane < 8)
  | .lossOfSyncHeaderLock n lane => decide (n < 16) && decide (lane < 8)
  | .serdesPllLoss n => decide (n < 16)
  | .wordStamp n _ _ => decide (n < 16)
  | .channelSysrefCheck n phi => decide (n < 16) && decide (phi < 16)
  | .dlOffsetWrite r n _ => r.wf && decide (n < 16)
  | .sfifoPop r n _ => r.wf && decide (n < 16)
  | .sfifoDropRest r n => r.wf && decide (n < 16)
  | .sfifoArm r n => r.wf && decide (n < 16)
  | .sfifoFlush r n => r.wf && decide (n < 16)
  | .sfifoThrWrite r n _ => r.wf && decide (n < 16)
  | .sdmaRecordCopy n => decide (n < 16)
  | .gapStart n => decide (n < 16)
  | .pairStatusSend n _ => decide (n < 16)
  | .pairStatusReceive n f => decide (n < 16) && f.wf
  | .pairDeliveryDecision n _ => decide (n < 16)
  | .txEnable r n _ => r.wf && decide (n < 16)
  | .txAlign n phi => decide (n < 16) && decide (phi < 16)
  | .txSample n => decide (n < 16)
  | .linkConfigWrite r n off _ => r.wf && decide (n < 16) && decide (off < 4096)
  | .encoderEventRelease n => decide (n < 16)
  | .flitReceive p port crc _ f => decide (p < 288) && decide (port < 5) && decide (crc < 65536) && f.wf
  | .linkRetrain p port plane _ _ => decide (p < 288) && decide (port < 5) && decide (plane < 4)
  | .flitEject e _ f => decide (e < 512) && f.wf
  | .robTimeout e => decide (e < 512)
  | .escape p port f => decide (p < 288) && decide (port < 5) && f.wf
  | .d2dReplay g frame _ => decide (g < 6) && decide (frame.seq < 64)
  | .d2dGroupDown g failing _ => decide (g < 6) && failing.all (fun x => decide (x < 320))
  | .d2dRetrain r g _ failing _ => r.wf && decide (g < 6) && failing.all (fun x => decide (x < 320))
  | .redUp p f => decide (p < 288) && f.wf
  | .redWindowExpiry p key tag _ => decide (p < 288) && decide (key < 64) && decide (tag < 64)
  | .redTmo p key tag _ => decide (p < 288) && decide (key < 64) && decide (tag < 64)
  | .redDownReceive e => decide (e < 512)
  | .acceptanceNotice _ => true
  | .fwdExpiry p => decide (p < 288)
  | .delivery p _ => decide (p < 288)
  | .evaluate p d i _ => decide (p < 288) && decide (d < 4) && decide (i < 8192)
  | .sweepVisit p d _ => decide (p < 288) && decide (d < 4)
  | .catchupPass p d => decide (p < 288) && decide (d.i < 4)
  | .handshakeTimeout p d i => decide (p < 288) && decide (d < 4) && decide (i < 8192)
  | .readNeuron p d _ => decide (p < 288) && decide (d < 4)
  | .writeNeuron p d _ => decide (p < 288) && decide (d < 4)
  | .charge p d => decide (p < 288) && decide (d.i < 4)
  | .drwWinData r p d _ _ => r.wf && decide (p < 288) && decide (d < 4)
  | .drawerPause r p d _ => r.wf && decide (p < 288) && decide (d < 4)
  | .stepStart p => decide (p.i < 288) && decide (p.ecc.d < 4)
  | .stepComplete p => decide (p.i < 288) && decide (p.ecc.d < 4)
  | .ldqReturn p => decide (p < 288)
  | .spillResume p => decide (p.i < 288)
  | .horizonRoundSample k e => decide (k < 64) && decide (e < 512)
  | .horizonContributionSend k e => decide (k < 64) && decide (e < 512)
  | .coreFloorWrite r p _ => r.wf && decide (p < 288)
  | .plasticEventWalk p e => decide (p < 288) && decide (e.post.d < 4)
  | .expanderEvent p _ _ => decide (p < 288)
  | .rowLineFill p l => decide (p < 288) && decide (l.post.d < 4)
  | .epochRequest r p _ => r.wf && decide (p < 288)
  | .epochSwitch p => decide (p < 288)
  | .relocationCopy p axon _ => decide (p < 288) && decide (axon < 65536)
  | .relocDone p axon => decide (p < 288) && decide (axon < 65536)
  | .relocationInstall p axon => decide (p < 288) && decide (axon < 65536)
  | .rewardProcess p => decide (p < 288)
  | .consolidationMarker p => decide (p < 288)
  | .markerProcess p => decide (p.i < 288) && decide (p.ecc.d < 4)
  | .descriptorEntry p t => decide (p < 288) && decide (t < 2)
  | .loadW p t _ => decide (p < 288) && decide (t < 2)
  | .loadCb p t _ => decide (p < 288) && decide (t < 2)
  | .loadRescale p t _ => decide (p < 288) && decide (t < 2)
  | .loadAct p t _ => decide (p < 288) && decide (t < 2)
  | .run p t _ _ => decide (p < 288) && decide (t < 2)
  | .reduceOutCopy p t _ => decide (p < 288) && decide (t < 2)
  | .reduceOutReduce p t _ => decide (p < 288) && decide (t < 2)
  | .emitEvents p t _ => decide (p < 288) && decide (t < 2)
  | .fence p t => decide (p < 288) && decide (t < 2)
  | .descriptorComplete p t => decide (p < 288) && decide (t < 2)
  | .redDownProgramResult p => decide (p < 288)
  | .trestlePause r p t _ => r.wf && decide (p < 288) && decide (t < 2)
  | .trsWinData r p t _ _ => r.wf && decide (p < 288) && decide (t < 2)
  | .bankPowerWrite r p _ _ => r.wf && decide (p < 288)
  | .bankTransitionDone p b => decide (p < 288) && decide (b < 32)
  | .coreInstruction p _ _ _ => decide (p < 288)
  | .coreInterrupt p => decide (p < 288)
  | .qsend p _ => decide (p < 288)
  | .qsendT p _ => decide (p < 288)
  | .qrecv p _ => decide (p < 288)
  | .qrecvReceive p _ => decide (p < 288)
  | .qpeek p _ => decide (p < 288)
  | .qmcast p _ => decide (p < 288)
  | .hzwait p => decide (p < 288)
  | .hzwaitRetire p => decide (p < 288)
  | .evinj p _ => decide (p < 288)
  | .offer p _ _ => decide (p < 288)
  | .sendAnswer _ => true
  | .sendRetry e _ => decide (e < 512)
  | .ctxCreate r p => r.wf && decide (p.i < 288)
  | .ctxDestroy r p => r.wf && decide (p.i < 288)
  | .ctxSetThr r p => r.wf && decide (p.i < 288)
  | .ctxFlush r p => r.wf && decide (p.i < 288)
  | .portDrain p q _ => decide (p < 288) && decide (q < 512)
  | .prefetch p => decide (p < 288)
  | .hang p _ => decide (p < 288)
  | .coreRunWrite r p _ => r.wf && decide (p < 288)
  | .hostSignal r p _ => r.wf && decide (p < 288)
  | .qmgrCtxRead r p => r.wf && decide (p.i < 288)
  | .qmgrHeadRead r p _ => r.wf && decide (p < 288)
  | .decoderInput n _ => decide (n < 16)
  | .recordWrite n _ => decide (n < 16)
  | .resultRelease a => decide (a.n < 16)
  | .trigOutEnd n => decide (n < 16)
  | .recordHeldCommit a => decide (a.n < 16)
  | .rfPop r n _ => r.wf && decide (n < 16)
  | .rfDropRest r n => r.wf && decide (n < 16)
  | .rfFlush r n => r.wf && decide (n < 16)
  | .rfThrWrite r n _ => r.wf && decide (n < 16)
  | .rdmaRecordCopy n => decide (n < 16)
  | .rewind n => decide (n < 16)
  | .front n => decide (n < 16)
  | .replayEnd n => decide (n < 16)
  | .partConfig r _ => r.wf
  | .imageLoad r _ => r.wf
  | .imageLoadTimeout f => decide (f < 64)
  | .partStart r _ => r.wf
  | .partStop r _ => r.wf
  | .partRelease r _ => r.wf
  | .migrate r _ => r.wf
  | .park r _ => r.wf
  | .unpark r _ => r.wf
  | .rebalance r _ _ _ => r.wf
  | .consolidate r _ => r.wf
  | .query r _ => r.wf
  | .mailboxCommandDone f => decide (f < 64)
  | .migrationFreeze f => decide (f < 64)
  | .migrationCopyDone f => decide (f < 64)
  | .pgOwnerWrite r p _ => r.wf && p.wf
  | .pgLockWrite r p _ => r.wf && p.wf
  | .memoryRequest f _ => f.wf
  | .scrubRead h _ => decide (h < 4)
  | .pcRetire r h _ => r.wf && decide (h < 4)
  | .imbalanceWindow h => decide (h < 4)
  | .relayout r h _ => r.wf && decide (h < 4)
  | .relayoutLineCopy h => decide (h < 4)
  | .perstNRise => true
  | .configRequest f _ _ => decide (f < 64)
  | .doorbell f _ _ _ => decide (f < 64)
  | .stackWindowAccess f _ _ _ => decide (f < 64)
  | .flr f => decide (f < 64)
  | .hotReset => true
  | .pgIrqSet r p _ => r.wf && p.wf
  | .pgIrqRawClear r p _ => r.wf && p.wf
  | .pgErrInfoClear r p _ => r.wf && p.wf
  | .softReset r p _ => r.wf && p.wf
  | .softResetDone p => p.wf
  | .vecEoi r _ => r.wf
  | .msixMessage f v => decide (f < 64) && decide (v < 2048)
  | .ringFetch f i => decide (f < 64) && decide (i < 1024)
  | .ringStall f i => decide (f < 64) && decide (i < 1024)
  | .ringWrite f i _ => decide (f < 64) && decide (i < 1024)
  | .ringReset r => r.wf
  | .ringRetry r => r.wf
  | .ringSkip r => r.wf
  | .ringCfgWrite r _ => r.wf
  | .hold r _ => r.wf
  | .release r _ x => r.wf && x.wf
  | .legacyWrite r _ => r.wf
  | .faultReport => true
  | .silentCabinet k => decide (k < 64)
  | .checkpointValid p => decide (p < 288)
  | .recoveryRestoreDone k _ => decide (k < 64)
  | .frontSend k => decide (k < 64)
  | .replayComplete k => decide (k < 64)
  | .filter p => decide (p < 288)
  | .resetNRise x => x.wf
  | .resetNFall => true
  | .firmwareBlock p _ _ _ _ _ => decide (p < 288)
  | .shutdown r _ => r.wf
  | .bistDone _ _ _ => true
  | .clearFaults r _ => r.wf
  | .runFull r _ => r.wf
  | .healthRecordUpdate _ => true
  | .trainingRecordWrite _ => true
  | .powerRequest r p _ => r.wf && p.all Page.wf
  | .transitionDone d _ => decide (d < 312)
  | .clockSwitch r _ => r.wf
  | .devicePowerRequest r _ => r.wf
  | .devDone => true
  | .wakeN x => x.wf
  | .freezeArm r _ => r.wf
  | .snapTake r _ => r.wf
  | .freeze => true
  | .thaw r _ => r.wf
  | .counterResume => true
  | .snapDone _ => true
  | .traceRecordWrite e => decide (e < 512)
  | .cntClear r p _ => r.wf && p.wf
  | .tapInstruction code => decide (code < 256)
  | .unlockChal => true
  | .unlockResp _ => true
  | .debugHalt h => decide (h < 289)
  | .monitorReading _ => true
  | .smbusBlockRead => true
  | .smbusMonitorRead i => decide (i < 16)
  | .smbusHighestRead => true
  | .smbusAlarmRead => true
  | .smbusAlarmClear v _ => decide (v < 256)
  | .registerWrite r t _ _ => r.wf && t.wf
  | .debugResume h => decide (h < 289)
  | .errorLogPop r => r.wf
  | .mapSwitchFlit e => decide (e < 512)
  | .waitStartRecord p => decide (p < 288)
  | .vddAonRise => true
  | .vddAonLoss => true
  | .completionTimeout src => src.wf
  | .dmaReadCompletion src _ => src.wf

end Sys2Proof
end

