-- ==== Sys2Proof/Safety.lean ====
section
/-!
DEFINITION. Safety.lean: the terms that statements use: what a register access meets at the gate, the canonical form of the byte
memories, and the parts of the state that a command may change (its frame).
-/

namespace Sys2Proof.Machine

/-! ### Register accesses -/

/-- Does a write by this requester pass the gate (R388, R391, R392, R399 to R401, R412), at an offset that legacy mode does not hide (R418), and so
reach the register's own rule? -/
def State.passes (s : State) (r : Req) (p : Page) (off : Nat) : Bool :=
  match s.gate r p off with
  | .pass => !s.legacyHides p off
  | _ => false

/-- Does a read by this requester reach the register (R388, R389, R391, R392, R400, R401)? -/
def State.reads (s : State) (r : Req) (p : Page) : Bool := !s.readUr r p && s.readable r p && !s.flag p 0x008 1

/-! ### What statements say of a command -/

/-- The command completes on the state: exec answers a next state, and `P` holds of it. -/
def Completes (c : Instr) (s : State) (P : State → Prop) : Prop := ∃ t, exec c s = .next t ∧ P t

/-- R397: the page has recorded the error: its PG_ERR_INFO names it, unless an earlier error stood there, which then stays. -/
def Recorded (s t : State) (p : Page) (cls code loc : Nat) : Prop :=
  t.rd p 0x020 = if s.flag p 0x020 31 then s.rd p 0x020 else errInfo cls code loc

/-- R410: an error of a function holds in its AER status, and its report is the last one sent. -/
def AerNoted (s t : State) (f : Nat) (e : AerErr) : Prop :=
  (f, e) ∈ t.pci.status ∧ t.pci.reports = s.pci.reports ++ [⟨f, e, s.pci.sev e⟩]

/-- Do the link parameters in channel n's registers satisfy Table 3.1, so that the link may start with them (R62)? -/
def State.linkFit (s : State) (n : Nat) : Bool := (linkParamFail (s.rd (chin n) 0x044) (s.rd (chin n) 0x048) (s.fld (chin n) 0x04C 12 0)).isNone

/-- The control core is about to execute this instruction of `len` bytes (R288, R289): it runs, and its fetch meets no fault. -/
def State.coreAt (s : State) (p : Nat) (op : CoreOp) (len : Nat) : Prop :=
  s.coreRuns p = true ∧ inShared (s.core p).pc.toNat len = true ∧ s.spanBad p (s.core p).pc.toNat 2 = none ∧
    s.spanBad p (s.core p).pc.toNat len = none ∧ len = (if s.load (spadAt p (s.core p).pc.toNat) 2 % 4 = 3 then 4 else 2) ∧
    decodeCore (BitVec.ofNat 32 (s.load (spadAt p (s.core p).pc.toNat) len)) = (op, len)

/-- Of a core, one register has a new value, and every other register its old one; x0 reads zero. -/
def RegSet (c c' : Core) (rd : Nat) (v : Word) : Prop := ∀ r, c'.reg r = if r = rd ∧ r ≠ 0 then v else c.reg r

/-- The register and the value that an instruction of the core which only computes leaves there (R288): LUI, AUIPC and the operations of RV32I and M. -/
def coreResult (c : Core) : CoreOp → Option (Nat × Word)
  | .lui rd imm => some (rd, imm)
  | .auipc rd imm => some (rd, c.pc + imm)
  | .alui f alt rd r1 imm => some (rd, aluOp f alt (c.reg r1) imm)
  | .alu f alt rd r1 r2 => some (rd, aluOp f alt (c.reg r1) (c.reg r2))
  | .mul f rd r1 r2 => some (rd, mulOp f (c.reg r1) (c.reg r2))
  | _ => none

/-- The deliveries that the walk of an event makes (R218): one for each entry of its axon's row that is not vacant, in the order of synapse index. -/
def State.rowDlv (s : State) (p : Nat) (ev : Evt) : List Dlv :=
  let h := s.rowHdr (dirRow (s.dirEntry p ev.axon))
  ((s.rowEnts (dirRow (s.dirEntry p ev.axon))).filter fun e => decide (e.dcode ≠ 63)).map fun e =>
    ⟨e.tgt, ev.time + s.dtab p e.dcode, charge (s.codebook p (h.cbbase + rowGroup h e.j)) (if ev.type = 0xF then 1 else ev.pay) e.code, ev.time,
      ev.remote, ev.g, ev.pass⟩

/-- The axon of an event has a sound row, with zeros where its layout has none of its parts, whose entries name neurons of the Cabinet (R208, R218, R220). -/
def State.rowSound (s : State) (p : Nat) (ev : Evt) : Prop :=
  let d := s.dirEntry p ev.axon
  dirValid d = true ∧ (s.rowHdr (dirRow d)).plastic = dirPlastic d ∧ rowFits (s.rowHdr (dirRow d)) (s.rowEnts (dirRow d)) d ev.axon = true ∧
    s.rowPad (dirRow d) = true ∧ ∀ e ∈ s.rowEnts (dirRow d), e.tgt < 32768

/-- Every line that the walk of an event needs stands in the row cache, no set of which holds more than its sixteen lines (R230). -/
def State.rowCached (s : State) (p : Nat) (ev : Evt) : Prop :=
  (∀ stage, stage < 5 → ∀ l ∈ s.stageLines p ev stage, l ∈ (s.xp p).cache) ∧
    ∀ l, ((s.xp p).cache.filter fun x => decide (Config.rowSet x = Config.rowSet l)).length ≤ 16

/-- The expander may take an event: the Cabinet works, no delivery is held, and fewer walks wait than INFLIGHT allows (R217, R221, R187). -/
def State.takesEvents (s : State) (p : Nat) : Prop :=
  s.live p = true ∧ (s.xp p).held = false ∧ s.unitStalled p 7 = false ∧ (s.xp p).waits.length < s.fld (xpnd p) 0x040 4 0

/-- A Trestle may start descriptors: the Cabinet works, the Trestle is not paused, no send of its own waits, and its banks are ON (R271, R278, R286, R300). -/
def State.trsRuns (s : State) (p tr : Nat) : Prop :=
  s.live p = true ∧ s.trsPaused p tr = false ∧ s.unitStalled p (1 + tr) = false ∧ s.trsBanks p tr = none

/-- A load or copy of a Trestle: `n` bytes come from one address to another, no other byte changes, and the descriptor has done its work. -/
def State.trsCopied (s t : State) (p tr : Nat) (x : TDesc) (src dst n : Nat) : Prop :=
  t.load dst n = s.load src n ∧ (∀ a, (a < dst ∨ dst + n ≤ a) → t.byte a = s.byte a) ∧ t.win p tr = (s.win p tr).replace x { x with state := 2 }

/-- A queue instruction of a control core has retired: the core waits for nothing, the pc is past its four bytes, and `v` stands in `rd`. -/
def State.retired (s t : State) (p rd : Nat) (v : Word) : Prop :=
  (t.core p).wait = none ∧ (t.core p).pc = (s.core p).pc + 4 ∧ RegSet (s.core p) (t.core p) rd v

/-- R431, R432: the state with the next entries of a logical Cabinet's journal written into its ring, where its partition is protected. -/
def State.journalled (s : State) (k c : Nat) (es : List Nat) : State :=
  if (s.cfg k).prot then s.journalWrite k c ((s.journal k c).base + (s.journal k c).entries.length) es else s

/-- The address of the slot that the `i`-th next journal entry takes in a ring at `b`. -/
def State.journalSlot (s : State) (k c b i : Nat) : Nat := b + 16 * (((s.journal k c).base + (s.journal k c).entries.length + i) % journalMax)

/-- `m` bytes at an address lie off the slots that the next `n` journal entries of a logical Cabinet take, and off their mirrors. -/
def State.offJournal (s : State) (k c n lo m : Nat) : Bool :=
  let off (a : Nat) : Bool := decide (a + 16 ≤ lo) || decide (lo + m ≤ a)
  !(s.cfg k).prot || (s.areaOf k c 2).all fun b => (List.range n).all fun i =>
    off (s.journalSlot k c b i) && (s.mirrorAt (s.journalSlot k c b i)).all off

/-- The memory of one state differs from the other's only in `n` bytes from an address. -/
def State.sameBut (s t : State) (lo n : Nat) : Prop := ∀ a, (a < lo ∨ lo + n ≤ a) → t.byte a = s.byte a

/-- A command that a write of MB_CMD gives an idle Bureau, as it starts: its argument registers have been read (R349). -/
def mbTaken (f : Nat) (w : Word) (obs : List (Nat × Nat × Nat)) (pins : List (Nat × List Nat)) (s : State) : MbCmd :=
  ⟨f, w, (List.range 8).map fun i => s.rdN (bur f) (0x044 + 4 * i), 0, .ok, 0, 0, [], s.now, 0, 0, 0, 0, obs, pins, []⟩

/-- The state in which that command acts. -/
def State.mbEntered (s : State) (m : MbCmd) : State :=
  { ((s.wr (bur m.fn) 0x040 (m.w &&& 0xFFFF3FFF)).setFld (bur m.fn) 0x064 10 8 2) with mbox := [m] }

/-- The Bureau accepts commands and has none, and the function's write of MB_CMD reaches its mailbox. -/
def State.mbIdle (s : State) (r : Req) : Prop :=
  s.mbox = [] ∧ s.isHalted 288 = false ∧ s.devState = 2 ∧ s.recov = [] ∧ s.passes r (bur r.view) 0x040 = true

/-- The command may act: the function may address its partition, which is in a state that Table 13.7 names, and ARG7 names its epoch or any. -/
def State.mbAllowed (s : State) (r : Req) (k op : Nat) : Prop :=
  (r.view = 0 ∨ k = r.view) ∧ 0 < k ∧ mbStates op (s.part k) = true ∧
    (op ≤ 3 ∨ op = 5 ∨ s.rdN (bur r.view) 0x060 = 0xFFFFFFFF ∨ s.rdN (bur r.view) 0x060 = (s.cfg k).ep)

/-! ### Canonical memories -/

/-- The canonical form of the byte memories: addresses strictly rising, no byte listed that equals what an unlisted address reads as. -/
def Memory.wf (m : SMap Byte) : Bool := SMap.wf (fun _ => 0) m

/-- Both byte memories, the device's and the host's as the device has written it, are in canonical form. -/
def State.memWf (s : State) : Bool := Memory.wf s.mem && Memory.wf s.hostMem

/-! ### Frames -/

/-- The parts of the state that a command may change: every field but the queue and the fuse words (which no command changes) and the
answer (which every command sets), and the registers of each block. -/
inductive Part where
  | draws | mem | logs | faultReports | locks | latches | staging | tb | timers | trigQual | trigEvents | synced
  | freeze | traces | debugger | doms | devPwr | d3hot | partState | maps | maps2 | mapCur | mapRe | net | arrivals
  | inbox | redIn | robs | expect | seqs | pressure | partials | links | d2dReplays | d2dRetried | leaves | notices
  | sources | chans | decs | hostMem | rings | cabs | hutches | parts | journals | ckpts | parkAreas | boot | msix
  | sentMsi | routes | pci | mbox | recov
  | regs (b : Block)
  deriving DecidableEq, Repr

/-- The state with the parts of `W` and the answer blanked out: two states that agree here differ at most in `W` and the answer. -/
def State.except (s : State) (W : List Part) : State where
  pending := s.pending
  resp := .none
  fuses := s.fuses
  regs := s.regs.filter fun e => decide (Part.regs (blockOf (e.1 / 16777216)) ∉ W)
  draws := if Part.draws ∈ W then State.reset.draws else s.draws
  mem := if Part.mem ∈ W then State.reset.mem else s.mem
  logs := if Part.logs ∈ W then State.reset.logs else s.logs
  faultReports := if Part.faultReports ∈ W then State.reset.faultReports else s.faultReports
  locks := if Part.locks ∈ W then State.reset.locks else s.locks
  latches := if Part.latches ∈ W then State.reset.latches else s.latches
  staging := if Part.staging ∈ W then State.reset.staging else s.staging
  tb := if Part.tb ∈ W then State.reset.tb else s.tb
  timers := if Part.timers ∈ W then State.reset.timers else s.timers
  trigQual := if Part.trigQual ∈ W then State.reset.trigQual else s.trigQual
  trigEvents := if Part.trigEvents ∈ W then State.reset.trigEvents else s.trigEvents
  synced := if Part.synced ∈ W then State.reset.synced else s.synced
  freeze := if Part.freeze ∈ W then State.reset.freeze else s.freeze
  traces := if Part.traces ∈ W then State.reset.traces else s.traces
  debugger := if Part.debugger ∈ W then State.reset.debugger else s.debugger
  doms := if Part.doms ∈ W then State.reset.doms else s.doms
  devPwr := if Part.devPwr ∈ W then State.reset.devPwr else s.devPwr
  d3hot := if Part.d3hot ∈ W then State.reset.d3hot else s.d3hot
  partState := if Part.partState ∈ W then State.reset.partState else s.partState
  maps := if Part.maps ∈ W then State.reset.maps else s.maps
  maps2 := if Part.maps2 ∈ W then State.reset.maps2 else s.maps2
  mapCur := if Part.mapCur ∈ W then State.reset.mapCur else s.mapCur
  mapRe := if Part.mapRe ∈ W then State.reset.mapRe else s.mapRe
  net := if Part.net ∈ W then State.reset.net else s.net
  arrivals := if Part.arrivals ∈ W then State.reset.arrivals else s.arrivals
  inbox := if Part.inbox ∈ W then State.reset.inbox else s.inbox
  redIn := if Part.redIn ∈ W then State.reset.redIn else s.redIn
  robs := if Part.robs ∈ W then State.reset.robs else s.robs
  expect := if Part.expect ∈ W then State.reset.expect else s.expect
  seqs := if Part.seqs ∈ W then State.reset.seqs else s.seqs
  pressure := if Part.pressure ∈ W then State.reset.pressure else s.pressure
  partials := if Part.partials ∈ W then State.reset.partials else s.partials
  links := if Part.links ∈ W then State.reset.links else s.links
  d2dReplays := if Part.d2dReplays ∈ W then State.reset.d2dReplays else s.d2dReplays
  d2dRetried := if Part.d2dRetried ∈ W then State.reset.d2dRetried else s.d2dRetried
  leaves := if Part.leaves ∈ W then State.reset.leaves else s.leaves
  notices := if Part.notices ∈ W then State.reset.notices else s.notices
  sources := if Part.sources ∈ W then State.reset.sources else s.sources
  chans := if Part.chans ∈ W then State.reset.chans else s.chans
  decs := if Part.decs ∈ W then State.reset.decs else s.decs
  hostMem := if Part.hostMem ∈ W then State.reset.hostMem else s.hostMem
  rings := if Part.rings ∈ W then State.reset.rings else s.rings
  cabs := if Part.cabs ∈ W then State.reset.cabs else s.cabs
  hutches := if Part.hutches ∈ W then State.reset.hutches else s.hutches
  parts := if Part.parts ∈ W then State.reset.parts else s.parts
  journals := if Part.journals ∈ W then State.reset.journals else s.journals
  ckpts := if Part.ckpts ∈ W then State.reset.ckpts else s.ckpts
  parkAreas := if Part.parkAreas ∈ W then State.reset.parkAreas else s.parkAreas
  boot := if Part.boot ∈ W then State.reset.boot else s.boot
  msix := if Part.msix ∈ W then State.reset.msix else s.msix
  sentMsi := if Part.sentMsi ∈ W then State.reset.sentMsi else s.sentMsi
  routes := if Part.routes ∈ W then State.reset.routes else s.routes
  pci := if Part.pci ∈ W then State.reset.pci else s.pci
  mbox := if Part.mbox ∈ W then State.reset.mbox else s.mbox
  recov := if Part.recov ∈ W then State.reset.recov else s.recov

/-- Every block of the register space. -/
def Block.all : List Block :=
  [.dev, .bur, .pwr, .time0, .time1, .plc, .intg, .obs, .bist, .hq, .chin, .chenc, .chdec, .chtmr, .hut0, .hut1, .d2d, .cctl, .qmgr, .spad, .drw, .trs, .xpnd, .hzn, .rtr, .cobs]

/-- Every part of the state. -/
def Part.all : List Part :=
  [.draws, .mem, .logs, .faultReports, .locks, .latches, .staging, .tb, .timers, .trigQual, .trigEvents, .synced, .freeze, .traces, .debugger, .doms,
   .devPwr, .d3hot, .partState, .maps, .maps2, .mapCur, .mapRe, .net, .arrivals, .inbox, .redIn, .robs, .expect, .seqs, .pressure, .partials, .links,
   .d2dReplays, .d2dRetried, .leaves, .notices, .sources, .chans, .decs, .hostMem, .rings, .cabs, .hutches, .parts, .journals, .ckpts, .parkAreas,
   .boot, .msix, .sentMsi, .routes, .pci, .mbox, .recov] ++
  Block.all.map Part.regs

/-- The parts of the state that a command may change: nothing outside them changes. A block's registers stand here where some path of the command
writes one of them (an error record writes the error registers of its page, a refusal the INTG page, and so on). -/
def touches : Instr → List Part
  | .holdoverEntry =>
    [.regs .time0]
  | .pllRelock =>
    [.regs .time0]
  | .start _ _ =>
    [.logs, .tb, .pci, .regs .pwr, .regs .time0, .regs .intg]
  | .armSysref _ _ =>
    [.logs, .tb, .pci, .regs .pwr, .regs .time0, .regs .intg]
  | .disarm _ _ =>
    [.logs, .tb, .pci, .regs .pwr, .regs .time0, .regs .intg]
  | .sysrefEdge _ =>
    [.tb, .timers, .regs .time0, .regs .time1, .regs .chtmr]
  | .deviceTimeLoad =>
    [.tb, .regs .time0]
  | .copySync _ =>
    [.synced]
  | .copyCheck bad =>
    [.logs, .faultReports, .chans, .regs .time0, .regs .intg] ++ bad.map fun p => .regs p.blk
  | .timeSoftReset _ _ =>
    [.logs, .tb, .timers, .trigQual, .trigEvents, .synced, .pci, .regs .pwr, .regs .time0, .regs .time1, .regs .intg]
  | .wideLowRead _ _ _ =>
    [.draws, .logs, .faultReports, .latches, .timers, .chans, .decs, .cabs, .hutches, .pci] ++ Block.all.map Part.regs
  | .wideLowWrite _ p _ _ =>
    [.logs, .staging, .pci, .regs .pwr, .regs .intg, .regs p.blk]
  | .wideHighWrite _ p _ _ =>
    [.logs, .staging, .pci, .regs .pwr, .regs .intg, .regs p.blk]
  | .triginEdge _ _ _ =>
    [.timers, .trigQual, .trigEvents, .freeze, .regs .time0, .regs .time1, .regs .obs, .regs .chtmr]
  | .triginQualify _ _ =>
    [.timers, .trigQual, .trigEvents, .freeze, .regs .time0, .regs .time1, .regs .obs, .regs .chtmr]
  | .externalTriggerEvent _ =>
    [.logs, .trigEvents, .net, .seqs, .sources, .regs .plc, .regs .intg]
  | .triginEvtWrite _ _ _ =>
    [.logs, .pci, .regs .pwr, .regs .time0, .regs .intg]
  | .timerTick p _ =>
    [.timers, .regs p.blk]
  | .timerEnable _ p _ _ =>
    [.logs, .timers, .pci, .regs .pwr, .regs .intg, .regs .chin, .regs p.blk]
  | .timerRestart _ p _ _ =>
    [.logs, .timers, .pci, .regs .pwr, .regs .intg, .regs .chin, .regs p.blk]
  | .capturePop _ p _ =>
    [.latches, .timers, .pci, .regs p.blk]
  | .channelEnable _ _ _ =>
    [.logs, .chans, .decs, .pci, .regs .pwr, .regs .intg, .regs .chin, .regs .chenc, .regs .chdec]
  | .channelDisable _ _ _ =>
    [.logs, .chans, .decs, .pci, .regs .pwr, .regs .intg, .regs .chin, .regs .chenc, .regs .chdec]
  | .linkEnable _ _ _ =>
    [.logs, .chans, .pci, .regs .pwr, .regs .intg, .regs .chin]
  | .linkReinit _ _ _ =>
    [.logs, .chans, .pci, .regs .pwr, .regs .intg, .regs .chin]
  | .linkDisable _ _ _ =>
    [.logs, .chans, .pci, .regs .pwr, .regs .intg, .regs .chin]
  | .laneLock _ =>
    [.logs, .chans, .regs .intg, .regs .chin]
  | .lmfcAlign _ _ =>
    [.chans, .regs .chin]
  | .ilasCheck _ _ =>
    [.logs, .chans, .regs .intg, .regs .chin]
  | .ilasRetry _ =>
    [.logs, .chans, .regs .intg, .regs .chin]
  | .linkUp _ _ =>
    [.logs, .chans, .regs .intg, .regs .chin]
  | .laneErr _ _ _ =>
    [.chans, .regs .chin]
  | .lossOfCodeGroupSync _ _ =>
    [.logs, .chans, .regs .intg, .regs .chin]
  | .multiblockCrcCheck _ _ _ _ _ =>
    [.chans, .regs .chin]
  | .lossOfSyncHeaderLock _ _ =>
    [.logs, .chans, .regs .intg, .regs .chin]
  | .serdesPllLoss _ =>
    [.chans, .regs .chin]
  | .wordStamp _ _ _ =>
    [.mem, .logs, .timers, .chans, .decs, .regs .time0, .regs .time1, .regs .intg, .regs .chin, .regs .chenc, .regs .chtmr, .regs .hut0]
  | .channelSysrefCheck _ _ =>
    [.logs, .chans, .regs .intg, .regs .chin]
  | .dlOffsetWrite _ _ _ =>
    [.logs, .pci, .regs .pwr, .regs .intg, .regs .chin]
  | .sfifoPop _ _ _ =>
    [.logs, .chans, .pci, .regs .intg, .regs .chin]
  | .sfifoDropRest _ _ =>
    [.logs, .chans, .pci, .regs .pwr, .regs .intg, .regs .chin]
  | .sfifoArm _ _ =>
    [.logs, .chans, .pci, .regs .pwr, .regs .intg, .regs .chin]
  | .sfifoFlush _ _ =>
    [.logs, .chans, .pci, .regs .pwr, .regs .intg, .regs .chin]
  | .sfifoThrWrite _ _ _ =>
    [.logs, .chans, .pci, .regs .pwr, .regs .intg, .regs .chin]
  | .sdmaRecordCopy _ =>
    [.chans, .hostMem, .regs .chin]
  | .gapStart _ =>
    [.timers, .chans, .regs .time0, .regs .time1, .regs .chin, .regs .chtmr]
  | .pairStatusSend _ _ =>
    [.net, .chans]
  | .pairStatusReceive _ _ =>
    [.inbox, .notices, .chans]
  | .pairDeliveryDecision _ _ =>
    [.chans, .regs .chin]
  | .txEnable _ _ _ =>
    [.logs, .chans, .pci, .regs .pwr, .regs .intg, .regs .chin]
  | .txAlign _ _ =>
    [.chans, .regs .chin]
  | .txSample _ =>
    [.chans, .decs, .regs .chdec]
  | .linkConfigWrite _ _ _ _ =>
    [.logs, .pci, .regs .pwr, .regs .intg, .regs .chin]
  | .encoderEventRelease _ =>
    [.logs, .net, .seqs, .sources, .chans, .regs .plc, .regs .intg, .regs .chin, .regs .chenc]
  | .flitReceive _ _ _ _ _ =>
    [.logs, .faultReports, .net, .arrivals, .redIn, .links, .d2dReplays, .regs .intg, .regs .rtr]
  | .linkRetrain _ _ _ _ _ =>
    [.logs, .faultReports, .links, .regs .intg, .regs .rtr]
  | .flitEject _ _ _ =>
    [.mem, .logs, .arrivals, .inbox, .robs, .expect, .pressure, .notices, .cabs, .journals, .regs .plc, .regs .intg, .regs .rtr]
  | .robTimeout _ =>
    [.mem, .logs, .faultReports, .arrivals, .inbox, .robs, .expect, .pressure, .notices, .cabs, .journals, .regs .plc, .regs .intg, .regs .rtr]
  | .escape _ _ _ =>
    [.net, .regs .rtr]
  | .d2dReplay _ _ _ =>
    [.logs, .d2dReplays, .regs .intg, .regs .d2d]
  | .d2dGroupDown _ _ _ =>
    [.logs, .faultReports, .d2dReplays, .d2dRetried, .boot, .regs .intg, .regs .d2d]
  | .d2dRetrain _ _ _ _ _ =>
    [.logs, .faultReports, .d2dReplays, .d2dRetried, .boot, .pci, .regs .pwr, .regs .intg, .regs .d2d]
  | .redUp _ _ =>
    [.logs, .net, .redIn, .seqs, .partials, .sources, .regs .intg, .regs .rtr]
  | .redWindowExpiry _ _ _ _ =>
    [.net, .partials]
  | .redTmo _ _ _ _ =>
    [.logs, .net, .redIn, .seqs, .partials, .sources, .regs .intg, .regs .rtr]
  | .redDownReceive _ =>
    [.mem, .logs, .traces, .mapCur, .mapRe, .arrivals, .inbox, .robs, .pressure, .links, .notices, .sources, .decs, .cabs, .parkAreas, .mbox, .recov,
    .regs .plc, .regs .intg, .regs .obs, .regs .chdec, .regs .hut0, .regs .cctl, .regs .spad, .regs .drw, .regs .trs, .regs .xpnd, .regs .hzn,
    .regs .rtr]
  | .acceptanceNotice _ =>
    [.notices, .sources, .chans]
  | .fwdExpiry _ =>
    [.regs .rtr]
  | .delivery _ _ =>
    [.mem, .logs, .faultReports, .cabs, .regs .intg, .regs .hut0, .regs .spad, .regs .drw, .regs .hzn]
  | .evaluate _ _ _ _ =>
    [.mem, .logs, .faultReports, .traces, .net, .seqs, .sources, .cabs, .regs .plc, .regs .intg, .regs .obs, .regs .hut0, .regs .cctl, .regs .qmgr,
    .regs .spad, .regs .drw, .regs .xpnd, .regs .hzn]
  | .sweepVisit _ _ _ =>
    [.mem, .logs, .faultReports, .cabs, .regs .intg, .regs .spad, .regs .drw]
  | .catchupPass _ _ =>
    [.mem, .logs, .faultReports, .regs .intg, .regs .spad, .regs .drw]
  | .handshakeTimeout _ _ _ =>
    [.logs, .faultReports, .regs .intg, .regs .drw]
  | .readNeuron _ _ _ =>
    [.mem, .logs, .faultReports, .traces, .net, .seqs, .sources, .cabs, .hutches, .journals, .regs .intg, .regs .obs, .regs .hut0, .regs .cctl,
    .regs .qmgr, .regs .spad, .regs .drw]
  | .writeNeuron _ _ _ =>
    [.draws, .mem, .logs, .faultReports, .traces, .net, .seqs, .sources, .cabs, .hutches, .regs .intg, .regs .obs, .regs .hut0, .regs .cctl,
    .regs .qmgr, .regs .spad, .regs .drw]
  | .charge _ _ =>
    [.mem, .logs, .faultReports, .traces, .net, .seqs, .sources, .cabs, .regs .intg, .regs .obs, .regs .hut0, .regs .cctl, .regs .qmgr, .regs .spad,
    .regs .drw, .regs .hzn]
  | .drwWinData _ _ _ _ _ =>
    [.draws, .mem, .logs, .faultReports, .pci, .regs .pwr, .regs .intg, .regs .spad, .regs .drw]
  | .drawerPause _ _ _ _ =>
    [.logs, .pci, .regs .pwr, .regs .intg, .regs .drw]
  | .stepStart _ =>
    [.mem, .logs, .faultReports, .cabs, .journals, .ckpts, .regs .intg, .regs .hut0, .regs .spad, .regs .drw, .regs .hzn]
  | .stepComplete _ =>
    [.mem, .logs, .faultReports, .cabs, .journals, .ckpts, .regs .intg, .regs .hut0, .regs .spad, .regs .drw, .regs .hzn]
  | .ldqReturn _ =>
    [.mem, .logs, .cabs, .regs .intg, .regs .hut0, .regs .spad, .regs .hzn]
  | .spillResume _ =>
    [.mem, .logs, .faultReports, .cabs, .regs .intg, .regs .hut0, .regs .spad, .regs .drw, .regs .hzn]
  | .horizonRoundSample _ _ =>
    [.sources]
  | .horizonContributionSend _ _ =>
    [.net, .sources, .regs .hzn]
  | .coreFloorWrite _ _ _ =>
    [.logs, .staging, .cabs, .pci, .regs .pwr, .regs .intg, .regs .hzn]
  | .plasticEventWalk _ _ =>
    [.mem, .logs, .faultReports, .cabs, .hutches, .journals, .regs .intg, .regs .hut0, .regs .spad, .regs .drw, .regs .xpnd]
  | .expanderEvent _ _ _ =>
    [.mem, .logs, .faultReports, .traces, .inbox, .cabs, .hutches, .journals, .regs .intg, .regs .obs, .regs .hut0, .regs .cctl, .regs .spad,
    .regs .drw, .regs .xpnd]
  | .rowLineFill _ _ =>
    [.mem, .logs, .faultReports, .links, .cabs, .hutches, .parts, .journals, .boot, .regs .bur, .regs .plc, .regs .intg, .regs .hut0, .regs .hut1,
    .regs .spad, .regs .drw, .regs .xpnd, .regs .rtr]
  | .epochRequest _ _ _ =>
    [.logs, .cabs, .pci, .regs .pwr, .regs .intg, .regs .xpnd]
  | .epochSwitch _ =>
    [.logs, .cabs, .regs .intg, .regs .spad, .regs .xpnd]
  | .relocationCopy _ _ _ =>
    [.mem, .cabs]
  | .relocDone _ _ =>
    [.cabs, .regs .xpnd]
  | .relocationInstall _ _ =>
    [.mem, .logs, .cabs, .hutches, .journals, .regs .intg, .regs .hut0, .regs .spad, .regs .xpnd]
  | .rewardProcess _ =>
    [.mem, .cabs, .regs .drw]
  | .consolidationMarker _ =>
    [.inbox, .cabs, .mbox]
  | .markerProcess _ =>
    [.mem, .logs, .faultReports, .cabs, .hutches, .journals, .regs .intg, .regs .hut0, .regs .spad, .regs .drw]
  | .descriptorEntry _ _ =>
    [.logs, .traces, .net, .seqs, .sources, .cabs, .regs .intg, .regs .obs, .regs .cctl, .regs .qmgr, .regs .trs, .regs .hzn]
  | .loadW _ _ _ =>
    [.draws, .mem, .logs, .faultReports, .cabs, .hutches, .regs .intg, .regs .hut0, .regs .spad, .regs .trs]
  | .loadCb _ _ _ =>
    [.draws, .mem, .logs, .faultReports, .cabs, .hutches, .regs .intg, .regs .hut0, .regs .spad, .regs .trs]
  | .loadRescale _ _ _ =>
    [.draws, .mem, .logs, .faultReports, .cabs, .hutches, .regs .intg, .regs .hut0, .regs .spad, .regs .trs]
  | .loadAct _ _ _ =>
    [.draws, .mem, .logs, .faultReports, .cabs, .hutches, .regs .intg, .regs .hut0, .regs .spad, .regs .trs]
  | .run _ _ _ _ =>
    [.mem, .logs, .faultReports, .cabs, .regs .intg, .regs .spad, .regs .trs]
  | .reduceOutCopy _ _ _ =>
    [.mem, .logs, .faultReports, .cabs, .hutches, .journals, .regs .intg, .regs .hut0, .regs .spad, .regs .trs]
  | .reduceOutReduce _ _ _ =>
    [.mem, .logs, .faultReports, .net, .cabs, .journals, .regs .intg, .regs .spad, .regs .trs]
  | .emitEvents _ _ _ =>
    [.logs, .faultReports, .traces, .net, .seqs, .sources, .cabs, .regs .plc, .regs .intg, .regs .obs, .regs .cctl, .regs .qmgr, .regs .spad,
    .regs .trs, .regs .xpnd]
  | .fence _ _ =>
    [.logs, .traces, .net, .seqs, .sources, .cabs, .regs .intg, .regs .obs, .regs .cctl, .regs .qmgr, .regs .trs]
  | .descriptorComplete _ _ =>
    [.logs, .traces, .net, .seqs, .sources, .cabs, .regs .intg, .regs .obs, .regs .cctl, .regs .qmgr, .regs .trs, .regs .hzn]
  | .redDownProgramResult _ =>
    [.mem, .logs, .faultReports, .traces, .net, .inbox, .seqs, .sources, .cabs, .journals, .regs .intg, .regs .obs, .regs .cctl, .regs .qmgr,
    .regs .spad, .regs .trs]
  | .trestlePause _ _ _ _ =>
    [.logs, .pci, .regs .pwr, .regs .intg, .regs .trs]
  | .trsWinData _ _ _ _ _ =>
    [.draws, .mem, .logs, .faultReports, .cabs, .pci, .regs .pwr, .regs .intg, .regs .spad, .regs .trs]
  | .bankPowerWrite _ _ _ _ =>
    [.logs, .pci, .regs .pwr, .regs .intg, .regs .spad]
  | .bankTransitionDone _ _ =>
    [.mem, .cabs, .regs .spad, .regs .drw, .regs .hzn]
  | .coreInstruction _ _ _ _ =>
    [.draws, .mem, .logs, .faultReports, .locks, .latches, .staging, .tb, .timers, .trigQual, .trigEvents, .synced, .freeze, .traces, .doms, .devPwr,
    .partState, .maps, .maps2, .mapCur, .mapRe, .net, .arrivals, .inbox, .redIn, .robs, .expect, .seqs, .pressure, .partials, .links, .d2dReplays,
    .d2dRetried, .leaves, .notices, .sources, .chans, .decs, .hostMem, .rings, .cabs, .hutches, .parts, .journals, .ckpts, .parkAreas, .boot, .msix,
    .sentMsi, .routes, .mbox] ++ Block.all.map Part.regs
  | .coreInterrupt _ =>
    [.traces, .cabs, .regs .obs, .regs .cctl]
  | .qsend _ _ =>
    [.logs, .faultReports, .traces, .net, .seqs, .sources, .hostMem, .rings, .cabs, .regs .intg, .regs .obs, .regs .hq, .regs .cctl, .regs .qmgr,
    .regs .spad]
  | .qsendT _ _ =>
    [.logs, .faultReports, .traces, .net, .seqs, .sources, .hostMem, .rings, .cabs, .regs .intg, .regs .obs, .regs .hq, .regs .cctl, .regs .qmgr,
    .regs .spad]
  | .qrecv _ _ =>
    [.draws, .mem, .logs, .faultReports, .traces, .cabs, .hutches, .regs .intg, .regs .obs, .regs .hut0, .regs .cctl, .regs .qmgr, .regs .spad,
    .regs .xpnd]
  | .qrecvReceive _ _ =>
    [.draws, .mem, .logs, .faultReports, .traces, .cabs, .hutches, .regs .intg, .regs .obs, .regs .hut0, .regs .cctl, .regs .qmgr, .regs .spad,
    .regs .xpnd]
  | .qpeek _ _ =>
    [.draws, .mem, .logs, .faultReports, .traces, .cabs, .hutches, .regs .intg, .regs .obs, .regs .hut0, .regs .cctl, .regs .qmgr, .regs .spad,
    .regs .xpnd]
  | .qmcast _ _ =>
    [.logs, .faultReports, .traces, .net, .seqs, .sources, .hostMem, .rings, .cabs, .regs .intg, .regs .obs, .regs .hq, .regs .cctl, .regs .qmgr,
    .regs .spad]
  | .hzwait _ =>
    [.traces, .cabs, .regs .obs, .regs .cctl]
  | .hzwaitRetire _ =>
    [.traces, .cabs, .regs .obs, .regs .cctl]
  | .evinj _ _ =>
    [.logs, .faultReports, .traces, .net, .seqs, .sources, .cabs, .regs .plc, .regs .intg, .regs .obs, .regs .cctl, .regs .spad, .regs .hzn]
  | .offer _ _ _ =>
    [.mem, .logs, .faultReports, .inbox, .notices, .cabs, .journals, .regs .intg, .regs .hut0, .regs .qmgr, .regs .spad]
  | .sendAnswer _ =>
    [.logs, .traces, .net, .seqs, .notices, .sources, .hostMem, .rings, .cabs, .regs .intg, .regs .obs, .regs .hq, .regs .cctl, .regs .qmgr]
  | .sendRetry _ _ =>
    [.logs, .traces, .net, .seqs, .sources, .hostMem, .rings, .cabs, .regs .intg, .regs .obs, .regs .hq, .regs .cctl, .regs .qmgr]
  | .ctxCreate _ _ =>
    [.logs, .faultReports, .cabs, .pci, .regs .pwr, .regs .intg, .regs .qmgr]
  | .ctxDestroy _ _ =>
    [.logs, .faultReports, .cabs, .pci, .regs .pwr, .regs .intg, .regs .qmgr]
  | .ctxSetThr _ _ =>
    [.logs, .faultReports, .cabs, .pci, .regs .pwr, .regs .intg, .regs .qmgr]
  | .ctxFlush _ _ =>
    [.logs, .faultReports, .cabs, .pci, .regs .pwr, .regs .intg, .regs .qmgr]
  | .portDrain _ _ _ =>
    [.draws, .logs, .faultReports, .cabs, .hutches, .regs .intg, .regs .hut0, .regs .qmgr, .regs .spad]
  | .prefetch _ =>
    [.logs, .traces, .net, .seqs, .sources, .cabs, .regs .intg, .regs .obs, .regs .cctl, .regs .qmgr, .regs .spad]
  | .hang _ _ =>
    [.logs, .freeze, .cabs, .regs .intg, .regs .obs, .regs .cctl]
  | .coreRunWrite _ _ _ =>
    [.logs, .notices, .cabs, .pci, .regs .pwr, .regs .intg, .regs .cctl]
  | .hostSignal _ _ _ =>
    [.logs, .pci, .regs .pwr, .regs .intg, .regs .cctl]
  | .qmgrCtxRead _ _ =>
    [.logs, .faultReports, .cabs, .pci, .regs .intg, .regs .qmgr]
  | .qmgrHeadRead _ _ _ =>
    [.draws, .logs, .faultReports, .cabs, .hutches, .pci, .regs .intg, .regs .hut0, .regs .qmgr, .regs .spad]
  | .decoderInput _ _ =>
    [.mem, .logs, .inbox, .notices, .decs, .regs .intg, .regs .chdec, .regs .hut0]
  | .recordWrite _ _ =>
    [.logs, .faultReports, .chans, .decs, .regs .intg, .regs .chdec]
  | .resultRelease _ =>
    [.logs, .faultReports, .chans, .decs, .regs .intg, .regs .chdec]
  | .trigOutEnd _ =>
    [.decs]
  | .recordHeldCommit _ =>
    [.logs, .faultReports, .chans, .decs, .regs .intg, .regs .chdec]
  | .rfPop _ _ _ =>
    [.logs, .chans, .decs, .pci, .regs .intg, .regs .chdec]
  | .rfDropRest _ _ =>
    [.logs, .decs, .pci, .regs .pwr, .regs .intg, .regs .chdec]
  | .rfFlush _ _ =>
    [.logs, .decs, .pci, .regs .pwr, .regs .intg, .regs .chdec]
  | .rfThrWrite _ _ _ =>
    [.logs, .decs, .pci, .regs .pwr, .regs .intg, .regs .chdec]
  | .rdmaRecordCopy _ =>
    [.decs, .hostMem, .regs .chdec]
  | .rewind _ =>
    [.mem, .logs, .inbox, .decs, .regs .intg, .regs .chdec, .regs .hut0]
  | .front _ =>
    [.mem, .logs, .inbox, .decs, .regs .intg, .regs .chdec, .regs .hut0]
  | .replayEnd _ =>
    [.mem, .logs, .inbox, .decs, .regs .intg, .regs .chdec, .regs .hut0]
  | .partConfig _ _ =>
    [.mem, .logs, .locks, .timers, .doms, .partState, .maps, .maps2, .mapCur, .mapRe, .net, .arrivals, .inbox, .robs, .expect, .seqs, .pressure,
    .links, .leaves, .notices, .sources, .chans, .decs, .cabs, .hutches, .parts, .journals, .ckpts, .parkAreas, .routes, .pci, .mbox, .regs .bur,
    .regs .pwr, .regs .plc, .regs .intg, .regs .chin, .regs .chenc, .regs .chdec, .regs .chtmr, .regs .hut0, .regs .hut1, .regs .cctl, .regs .qmgr,
    .regs .spad, .regs .drw, .regs .trs, .regs .xpnd, .regs .hzn, .regs .rtr, .regs .cobs]
  | .imageLoad _ _ =>
    [.mem, .logs, .locks, .timers, .doms, .partState, .maps, .maps2, .mapCur, .mapRe, .net, .arrivals, .inbox, .robs, .expect, .seqs, .pressure,
    .links, .leaves, .notices, .sources, .chans, .decs, .cabs, .hutches, .parts, .journals, .ckpts, .parkAreas, .routes, .pci, .mbox, .regs .bur,
    .regs .pwr, .regs .plc, .regs .intg, .regs .chin, .regs .chenc, .regs .chdec, .regs .chtmr, .regs .hut0, .regs .hut1, .regs .cctl, .regs .qmgr,
    .regs .spad, .regs .drw, .regs .trs, .regs .xpnd, .regs .hzn, .regs .rtr, .regs .cobs]
  | .imageLoadTimeout _ =>
    [.mbox]
  | .partStart _ _ =>
    [.mem, .logs, .locks, .timers, .doms, .partState, .maps, .maps2, .mapCur, .mapRe, .net, .arrivals, .inbox, .robs, .expect, .seqs, .pressure,
    .links, .leaves, .notices, .sources, .chans, .decs, .cabs, .hutches, .parts, .journals, .ckpts, .parkAreas, .routes, .pci, .mbox, .regs .bur,
    .regs .pwr, .regs .plc, .regs .intg, .regs .chin, .regs .chenc, .regs .chdec, .regs .chtmr, .regs .hut0, .regs .hut1, .regs .cctl, .regs .qmgr,
    .regs .spad, .regs .drw, .regs .trs, .regs .xpnd, .regs .hzn, .regs .rtr, .regs .cobs]
  | .partStop _ _ =>
    [.mem, .logs, .locks, .timers, .doms, .partState, .maps, .maps2, .mapCur, .mapRe, .net, .arrivals, .inbox, .robs, .expect, .seqs, .pressure,
    .links, .leaves, .notices, .sources, .chans, .decs, .cabs, .hutches, .parts, .journals, .ckpts, .parkAreas, .routes, .pci, .mbox, .regs .bur,
    .regs .pwr, .regs .plc, .regs .intg, .regs .chin, .regs .chenc, .regs .chdec, .regs .chtmr, .regs .hut0, .regs .hut1, .regs .cctl, .regs .qmgr,
    .regs .spad, .regs .drw, .regs .trs, .regs .xpnd, .regs .hzn, .regs .rtr, .regs .cobs]
  | .partRelease _ _ =>
    [.mem, .logs, .locks, .timers, .doms, .partState, .maps, .maps2, .mapCur, .mapRe, .net, .arrivals, .inbox, .robs, .expect, .seqs, .pressure,
    .links, .leaves, .notices, .sources, .chans, .decs, .cabs, .hutches, .parts, .journals, .ckpts, .parkAreas, .routes, .pci, .mbox, .regs .bur,
    .regs .pwr, .regs .plc, .regs .intg, .regs .chin, .regs .chenc, .regs .chdec, .regs .chtmr, .regs .hut0, .regs .hut1, .regs .cctl, .regs .qmgr,
    .regs .spad, .regs .drw, .regs .trs, .regs .xpnd, .regs .hzn, .regs .rtr, .regs .cobs]
  | .migrate _ _ =>
    [.mem, .logs, .locks, .timers, .doms, .partState, .maps, .maps2, .mapCur, .mapRe, .net, .arrivals, .inbox, .robs, .expect, .seqs, .pressure,
    .links, .leaves, .notices, .sources, .chans, .decs, .cabs, .hutches, .parts, .journals, .ckpts, .parkAreas, .routes, .pci, .mbox, .regs .bur,
    .regs .pwr, .regs .plc, .regs .intg, .regs .chin, .regs .chenc, .regs .chdec, .regs .chtmr, .regs .hut0, .regs .hut1, .regs .cctl, .regs .qmgr,
    .regs .spad, .regs .drw, .regs .trs, .regs .xpnd, .regs .hzn, .regs .rtr, .regs .cobs]
  | .park _ _ =>
    [.mem, .logs, .locks, .timers, .doms, .partState, .maps, .maps2, .mapCur, .mapRe, .net, .arrivals, .inbox, .robs, .expect, .seqs, .pressure,
    .links, .leaves, .notices, .sources, .chans, .decs, .cabs, .hutches, .parts, .journals, .ckpts, .parkAreas, .routes, .pci, .mbox, .regs .bur,
    .regs .pwr, .regs .plc, .regs .intg, .regs .chin, .regs .chenc, .regs .chdec, .regs .chtmr, .regs .hut0, .regs .hut1, .regs .cctl, .regs .qmgr,
    .regs .spad, .regs .drw, .regs .trs, .regs .xpnd, .regs .hzn, .regs .rtr, .regs .cobs]
  | .unpark _ _ =>
    [.mem, .logs, .locks, .timers, .doms, .partState, .maps, .maps2, .mapCur, .mapRe, .net, .arrivals, .inbox, .robs, .expect, .seqs, .pressure,
    .links, .leaves, .notices, .sources, .chans, .decs, .cabs, .hutches, .parts, .journals, .ckpts, .parkAreas, .routes, .pci, .mbox, .regs .bur,
    .regs .pwr, .regs .plc, .regs .intg, .regs .chin, .regs .chenc, .regs .chdec, .regs .chtmr, .regs .hut0, .regs .hut1, .regs .cctl, .regs .qmgr,
    .regs .spad, .regs .drw, .regs .trs, .regs .xpnd, .regs .hzn, .regs .rtr, .regs .cobs]
  | .rebalance _ _ _ _ =>
    [.mem, .logs, .locks, .timers, .doms, .partState, .maps, .maps2, .mapCur, .mapRe, .net, .arrivals, .inbox, .robs, .expect, .seqs, .pressure,
    .links, .leaves, .notices, .sources, .chans, .decs, .cabs, .hutches, .parts, .journals, .ckpts, .parkAreas, .routes, .pci, .mbox, .regs .bur,
    .regs .pwr, .regs .plc, .regs .intg, .regs .chin, .regs .chenc, .regs .chdec, .regs .chtmr, .regs .hut0, .regs .hut1, .regs .cctl, .regs .qmgr,
    .regs .spad, .regs .drw, .regs .trs, .regs .xpnd, .regs .hzn, .regs .rtr, .regs .cobs]
  | .consolidate _ _ =>
    [.mem, .logs, .locks, .timers, .doms, .partState, .maps, .maps2, .mapCur, .mapRe, .net, .arrivals, .inbox, .robs, .expect, .seqs, .pressure,
    .links, .leaves, .notices, .sources, .chans, .decs, .cabs, .hutches, .parts, .journals, .ckpts, .parkAreas, .routes, .pci, .mbox, .regs .bur,
    .regs .pwr, .regs .plc, .regs .intg, .regs .chin, .regs .chenc, .regs .chdec, .regs .chtmr, .regs .hut0, .regs .hut1, .regs .cctl, .regs .qmgr,
    .regs .spad, .regs .drw, .regs .trs, .regs .xpnd, .regs .hzn, .regs .rtr, .regs .cobs]
  | .query _ _ =>
    [.mem, .logs, .locks, .timers, .doms, .partState, .maps, .maps2, .mapCur, .mapRe, .net, .arrivals, .inbox, .robs, .expect, .seqs, .pressure,
    .links, .leaves, .notices, .sources, .chans, .decs, .cabs, .hutches, .parts, .journals, .ckpts, .parkAreas, .routes, .pci, .mbox, .regs .bur,
    .regs .pwr, .regs .plc, .regs .intg, .regs .chin, .regs .chenc, .regs .chdec, .regs .chtmr, .regs .hut0, .regs .hut1, .regs .cctl, .regs .qmgr,
    .regs .spad, .regs .drw, .regs .trs, .regs .xpnd, .regs .hzn, .regs .rtr, .regs .cobs]
  | .mailboxCommandDone _ =>
    [.mem, .logs, .locks, .timers, .doms, .partState, .maps, .maps2, .mapCur, .mapRe, .net, .arrivals, .inbox, .robs, .expect, .seqs, .pressure,
    .links, .leaves, .notices, .sources, .chans, .decs, .cabs, .hutches, .parts, .journals, .ckpts, .parkAreas, .boot, .routes, .mbox, .regs .bur,
    .regs .pwr, .regs .plc, .regs .intg, .regs .chin, .regs .chenc, .regs .chdec, .regs .chtmr, .regs .hut0, .regs .hut1, .regs .cctl, .regs .qmgr,
    .regs .spad, .regs .drw, .regs .trs, .regs .xpnd, .regs .hzn, .regs .rtr, .regs .cobs]
  | .migrationFreeze _ =>
    [.cabs, .mbox, .regs .cctl, .regs .drw, .regs .trs]
  | .migrationCopyDone _ =>
    [.mem, .maps, .maps2, .mapRe, .net, .seqs, .leaves, .sources, .cabs, .parkAreas, .mbox, .regs .cctl, .regs .qmgr, .regs .spad, .regs .drw,
    .regs .trs, .regs .xpnd, .regs .hzn, .regs .rtr, .regs .cobs]
  | .pgOwnerWrite _ p _ =>
    [.logs, .routes, .pci, .regs .pwr, .regs .intg, .regs .chin, .regs .chenc, .regs .chdec, .regs .chtmr, .regs p.blk]
  | .pgLockWrite _ p _ =>
    [.logs, .locks, .pci, .regs .pwr, .regs .intg, .regs p.blk]
  | .memoryRequest _ _ =>
    [.mem, .logs, .faultReports, .net, .links, .hutches, .parts, .boot, .regs .bur, .regs .plc, .regs .intg, .regs .hut0, .regs .hut1, .regs .rtr]
  | .scrubRead _ _ =>
    [.mem, .logs, .faultReports, .links, .hutches, .parts, .boot, .regs .bur, .regs .plc, .regs .intg, .regs .hut0, .regs .hut1, .regs .rtr]
  | .pcRetire _ _ _ =>
    [.mem, .logs, .links, .hutches, .parts, .boot, .pci, .regs .bur, .regs .pwr, .regs .plc, .regs .intg, .regs .hut0, .regs .hut1, .regs .rtr]
  | .imbalanceWindow _ =>
    [.draws, .hutches, .regs .hut0, .regs .hut1]
  | .relayout _ _ _ =>
    [.logs, .hutches, .pci, .regs .pwr, .regs .intg, .regs .hut0]
  | .relayoutLineCopy _ =>
    [.draws, .hutches, .regs .hut0, .regs .hut1]
  | .perstNRise =>
    [.d3hot, .rings, .boot, .msix, .pci]
  | .configRequest _ _ _ =>
    [.draws, .d3hot, .boot, .msix, .sentMsi, .pci]
  | .doorbell _ _ _ _ =>
    [.logs, .rings, .pci, .regs .intg, .regs .hq]
  | .stackWindowAccess _ _ _ _ =>
    [.draws, .mem, .logs, .faultReports, .links, .hutches, .parts, .boot, .pci, .regs .bur, .regs .plc, .regs .intg, .regs .hut0, .regs .hut1,
    .regs .rtr]
  | .flr _ =>
    [.mem, .logs, .locks, .timers, .doms, .d3hot, .partState, .maps, .maps2, .mapCur, .mapRe, .net, .arrivals, .inbox, .robs, .expect, .seqs,
    .pressure, .links, .leaves, .notices, .sources, .chans, .decs, .rings, .cabs, .hutches, .parts, .journals, .ckpts, .parkAreas, .msix, .routes,
    .mbox, .recov, .regs .bur, .regs .pwr, .regs .plc, .regs .intg, .regs .hq, .regs .chin, .regs .chenc, .regs .chdec, .regs .chtmr, .regs .hut0,
    .regs .hut1, .regs .cctl, .regs .qmgr, .regs .spad, .regs .drw, .regs .trs, .regs .xpnd, .regs .hzn, .regs .rtr, .regs .cobs]
  | .hotReset =>
    [.d3hot, .rings, .msix, .pci]
  | .pgIrqSet _ p _ =>
    [.logs, .pci, .regs .pwr, .regs .intg, .regs p.blk]
  | .pgIrqRawClear _ p _ =>
    [.logs, .timers, .cabs, .pci, .regs .pwr, .regs .intg, .regs p.blk]
  | .pgErrInfoClear _ p _ =>
    [.logs, .pci, .regs .pwr, .regs .intg, .regs p.blk]
  | .softReset _ p _ =>
    [.mem, .logs, .locks, .tb, .timers, .trigQual, .trigEvents, .synced, .freeze, .traces, .doms, .maps, .maps2, .mapRe, .net, .inbox, .redIn, .robs,
    .seqs, .pressure, .partials, .links, .d2dReplays, .d2dRetried, .leaves, .notices, .sources, .chans, .decs, .rings, .cabs, .hutches, .routes,
    .pci, .mbox, .regs .pwr, .regs .time0, .regs .time1, .regs .plc, .regs .intg, .regs .chin, .regs .chenc, .regs .chdec, .regs .chtmr, .regs .hut0,
    .regs .hut1, .regs .cctl, .regs .qmgr, .regs .spad, .regs .drw, .regs .trs, .regs .xpnd, .regs .hzn, .regs .rtr, .regs .cobs, .regs p.blk]
  | .softResetDone p =>
    [.regs .time0, .regs .time1, .regs p.blk]
  | .vecEoi _ _ =>
    [.logs, .msix, .sentMsi, .pci, .regs .pwr, .regs .intg, .regs .hq]
  | .msixMessage _ _ =>
    [.msix, .sentMsi]
  | .ringFetch _ _ =>
    [.rings]
  | .ringStall _ _ =>
    [.rings, .regs .hq]
  | .ringWrite _ _ _ =>
    [.draws, .logs, .faultReports, .hostMem, .rings, .cabs, .hutches, .regs .intg, .regs .hq, .regs .hut0, .regs .qmgr, .regs .spad]
  | .ringReset _ =>
    [.logs, .hostMem, .rings, .pci, .regs .pwr, .regs .intg, .regs .hq]
  | .ringRetry _ =>
    [.logs, .hostMem, .rings, .pci, .regs .pwr, .regs .intg, .regs .hq]
  | .ringSkip _ =>
    [.logs, .hostMem, .rings, .pci, .regs .pwr, .regs .intg, .regs .hq]
  | .ringCfgWrite _ _ =>
    [.logs, .rings, .pci, .regs .pwr, .regs .intg, .regs .hq]
  | .hold _ _ =>
    [.mem, .logs, .doms, .notices, .chans, .decs, .cabs, .boot, .pci, .regs .dev, .regs .pwr, .regs .intg, .regs .bist, .regs .chin, .regs .chenc,
    .regs .chdec, .regs .cctl, .regs .hzn]
  | .release _ _ _ =>
    [.mem, .logs, .doms, .notices, .chans, .decs, .cabs, .boot, .pci, .regs .dev, .regs .pwr, .regs .intg, .regs .bist, .regs .chin, .regs .chenc,
    .regs .chdec, .regs .cctl, .regs .hzn]
  | .legacyWrite _ _ =>
    [.mem, .logs, .doms, .notices, .chans, .decs, .cabs, .boot, .pci, .regs .dev, .regs .pwr, .regs .intg, .regs .bist, .regs .chin, .regs .chenc,
    .regs .chdec, .regs .cctl, .regs .hzn]
  | .faultReport =>
    [.mem, .logs, .faultReports, .locks, .timers, .doms, .partState, .maps, .maps2, .mapRe, .net, .inbox, .robs, .seqs, .pressure, .leaves, .sources,
    .chans, .decs, .cabs, .hutches, .boot, .routes, .pci, .mbox, .recov, .regs .dev, .regs .bur, .regs .pwr, .regs .plc, .regs .intg, .regs .chin,
    .regs .chenc, .regs .chdec, .regs .chtmr, .regs .hut0, .regs .hut1, .regs .cctl, .regs .qmgr, .regs .spad, .regs .drw, .regs .trs, .regs .xpnd,
    .regs .hzn, .regs .rtr, .regs .cobs]
  | .silentCabinet _ =>
    [.mem, .logs, .locks, .timers, .doms, .partState, .maps, .maps2, .mapRe, .net, .inbox, .robs, .seqs, .pressure, .leaves, .sources, .chans, .decs,
    .cabs, .hutches, .boot, .routes, .mbox, .recov, .regs .bur, .regs .pwr, .regs .plc, .regs .intg, .regs .chin, .regs .chenc, .regs .chdec,
    .regs .chtmr, .regs .hut0, .regs .hut1, .regs .cctl, .regs .qmgr, .regs .spad, .regs .drw, .regs .trs, .regs .xpnd, .regs .hzn, .regs .rtr,
    .regs .cobs]
  | .checkpointValid _ =>
    [.mem, .logs, .inbox, .robs, .expect, .pressure, .notices, .cabs, .journals, .ckpts, .regs .plc, .regs .intg, .regs .rtr]
  | .recoveryRestoreDone _ _ =>
    [.mem, .logs, .faultReports, .locks, .timers, .traces, .doms, .partState, .mapCur, .mapRe, .net, .inbox, .robs, .seqs, .pressure, .leaves,
    .sources, .chans, .decs, .hostMem, .rings, .cabs, .hutches, .journals, .routes, .mbox, .recov, .regs .bur, .regs .pwr, .regs .intg, .regs .obs,
    .regs .hq, .regs .chin, .regs .chenc, .regs .chdec, .regs .chtmr, .regs .hut0, .regs .hut1, .regs .cctl, .regs .qmgr, .regs .spad, .regs .drw,
    .regs .trs, .regs .xpnd, .regs .hzn, .regs .rtr, .regs .cobs]
  | .frontSend _ =>
    [.mem, .logs, .faultReports, .net, .seqs, .sources, .cabs, .journals, .recov, .regs .intg, .regs .hut0, .regs .qmgr, .regs .spad, .regs .trs]
  | .replayComplete _ =>
    [.mem, .logs, .faultReports, .locks, .timers, .doms, .partState, .maps, .maps2, .mapRe, .net, .inbox, .robs, .seqs, .pressure, .leaves, .sources,
    .chans, .decs, .cabs, .hutches, .parts, .journals, .boot, .routes, .mbox, .recov, .regs .bur, .regs .pwr, .regs .plc, .regs .intg, .regs .chin,
    .regs .chenc, .regs .chdec, .regs .chtmr, .regs .hut0, .regs .hut1, .regs .cctl, .regs .qmgr, .regs .spad, .regs .drw, .regs .trs, .regs .xpnd,
    .regs .hzn, .regs .rtr, .regs .cobs]
  | .filter _ =>
    [.inbox, .cabs]
  | .resetNRise _ =>
    []
  | .resetNFall =>
    []
  | .firmwareBlock _ _ _ _ _ _ =>
    [.mem, .logs, .boot, .regs .intg, .regs .bist]
  | .shutdown _ _ =>
    [.logs, .boot, .pci, .regs .pwr, .regs .intg, .regs .bist]
  | .bistDone _ _ _ =>
    [.logs, .boot, .regs .dev, .regs .intg, .regs .bist, .regs .hut0]
  | .clearFaults _ _ =>
    [.logs, .boot, .pci, .regs .pwr, .regs .intg, .regs .bist]
  | .runFull _ _ =>
    [.logs, .boot, .pci, .regs .pwr, .regs .intg, .regs .bist]
  | .healthRecordUpdate _ =>
    [.logs, .boot, .regs .intg, .regs .bist]
  | .trainingRecordWrite _ =>
    [.logs, .boot, .regs .intg, .regs .bist]
  | .powerRequest _ _ _ =>
    [.logs, .doms, .chans, .decs, .pci] ++ Block.all.map Part.regs
  | .transitionDone _ _ =>
    [.draws, .mem, .logs, .faultReports, .locks, .timers, .synced, .doms, .chans, .decs, .cabs, .hutches, .routes, .regs .pwr, .regs .intg,
    .regs .chin, .regs .chenc, .regs .chdec, .regs .chtmr, .regs .hut0, .regs .hut1, .regs .cctl, .regs .qmgr, .regs .spad, .regs .drw, .regs .trs,
    .regs .xpnd, .regs .hzn, .regs .rtr, .regs .cobs]
  | .clockSwitch _ _ =>
    [.logs, .synced, .doms, .pci, .regs .pwr, .regs .intg]
  | .devicePowerRequest _ _ =>
    [.logs, .doms, .devPwr, .chans, .decs, .pci, .regs .pwr, .regs .intg, .regs .chin, .regs .drw]
  | .devDone =>
    []
  | .wakeN _ =>
    []
  | .freezeArm _ _ =>
    [.logs, .freeze, .pci, .regs .pwr, .regs .intg, .regs .obs]
  | .snapTake _ _ =>
    [.logs, .freeze, .pci, .regs .pwr, .regs .intg, .regs .obs]
  | .freeze =>
    [.mem, .logs, .freeze, .regs .intg, .regs .obs, .regs .cobs]
  | .thaw _ _ =>
    [.logs, .freeze, .pci, .regs .pwr, .regs .intg, .regs .obs]
  | .counterResume =>
    [.freeze, .regs .obs]
  | .snapDone _ =>
    [.mem, .logs, .freeze, .regs .intg, .regs .obs, .regs .cobs]
  | .traceRecordWrite _ =>
    [.mem, .traces, .regs .obs]
  | .cntClear _ p _ =>
    [.logs, .pci, .regs .pwr, .regs .intg, .regs p.blk]
  | .tapInstruction _ =>
    [.draws, .debugger]
  | .unlockChal =>
    [.draws, .debugger]
  | .unlockResp _ =>
    [.logs, .debugger, .regs .intg, .regs .obs]
  | .debugHalt _ =>
    [.debugger, .regs .cctl]
  | .monitorReading _ =>
    []
  | .smbusBlockRead =>
    []
  | .smbusMonitorRead _ =>
    []
  | .smbusHighestRead =>
    []
  | .smbusAlarmRead =>
    []
  | .smbusAlarmClear _ _ =>
    [.boot]
  | .registerWrite _ _ _ _ =>
    [.mem, .logs, .faultReports, .locks, .staging, .tb, .timers, .trigQual, .trigEvents, .synced, .freeze, .traces, .doms, .devPwr, .partState,
    .maps, .maps2, .mapCur, .mapRe, .net, .arrivals, .inbox, .redIn, .robs, .expect, .seqs, .pressure, .partials, .links, .d2dReplays, .d2dRetried,
    .leaves, .notices, .sources, .chans, .decs, .hostMem, .rings, .cabs, .hutches, .parts, .journals, .ckpts, .parkAreas, .boot, .msix, .sentMsi,
    .routes, .pci, .mbox] ++ Block.all.map Part.regs
  | .debugResume _ =>
    [.debugger, .cabs, .regs .cctl]
  | .errorLogPop _ =>
    [.logs, .pci, .regs .intg]
  | .mapSwitchFlit _ =>
    [.mapRe, .inbox]
  | .waitStartRecord _ =>
    [.traces, .cabs, .regs .obs]
  | .vddAonRise =>
    [.draws, .boot]
  | .vddAonLoss =>
    []
  | .completionTimeout _ =>
    [.logs, .traces, .net, .seqs, .sources, .hostMem, .rings, .cabs, .pci, .mbox, .regs .plc, .regs .intg, .regs .obs, .regs .hq, .regs .cctl,
    .regs .qmgr]
  | .dmaReadCompletion _ _ =>
    [.mem, .logs, .timers, .traces, .partState, .net, .seqs, .sources, .chans, .decs, .hostMem, .rings, .cabs, .parts, .routes, .pci, .mbox,
    .regs .plc, .regs .intg, .regs .obs, .regs .hq, .regs .chin, .regs .chenc, .regs .chdec, .regs .chtmr, .regs .hut1, .regs .cctl, .regs .qmgr]

end Sys2Proof.Machine
end

