-- ==== Sys2Proof/Certificates/Slice0/Obligations.lean ====
section
/-!
DEFINITION. Obligations.lean: the statements for the provers, chapter by chapter of the spec. `Completes c s P` says that the command c answers a
next state on s, and that P holds of it.
-/

open Sys2Proof Sys2Proof.Machine

/-! ### Device time, clocks and timers (02_time.md) -/

/-- R36 to R38, R40, Table 2.2: START, ARM_SYSREF, DISARM, and the load that ends an armed start. A START or ARM_SYSREF that R38 or R40 turns away changes
no device time and records code 0x013, and a DISARM without effect leaves TIME.CTRL as it was. -/
def Obligations.DeviceTimeStarts : Prop :=
  (∀ (r : Req) (w : Word) (s : State), s.passes r pTime 0x050 = true → w.bit 1 = false → w.bit 2 = false →
    (s.startAllowed = true → Completes (.start r w) s fun t => t.tb = { s.tb with startAt := some s.timeSet, t0 := s.timeSet }) ∧
    (s.startAllowed = false → Completes (.start r w) s fun t => t.tb = s.tb ∧ Recorded s t pTime 5 0x013 0x050)) ∧
  (∀ (r : Req) (w : Word) (s : State), s.passes r pTime 0x050 = true → w.bit 0 = false → w.bit 2 = false →
    (s.startAllowed = true → Completes (.armSysref r w) s fun t =>
      t.tb = { s.tb with state := .armed, skipLeft := w.bits 15 8, loadAt := none, t0 := t.tb.t0 } ∧ t.rdN pTime 0x06C = 0) ∧
    (s.startAllowed = false → Completes (.armSysref r w) s fun t => t.tb = s.tb ∧ Recorded s t pTime 5 0x013 0x050)) ∧
  (∀ (r : Req) (w : Word) (s : State), s.passes r pTime 0x050 = true → w.bit 0 = false → w.bit 1 = false →
    Completes (.disarm r w) s fun t =>
      (t.tb = if s.tb.state = .armed ∧ s.tb.loadAt = none then { s.tb with state := .held } else s.tb) ∧
      (¬(s.tb.state = .armed ∧ s.tb.loadAt = none) → t.rd pTime 0x050 = s.rd pTime 0x050)) ∧
  (∀ (r : Req) (w : Word) (s : State), s.passes r pTime 0x050 = true → (w.bit 1 = true ∨ w.bit 2 = true) →
    Completes (.start r w) s fun t => t.tb = s.tb ∧ Recorded s t pTime 5 0x013 0x050) ∧
  (∀ (s : State) (v : Nat), s.tb.state = .armed → s.tb.loadAt = some v →
    Completes .deviceTimeLoad s fun t => t.tb.state = .running ∧ t.tb.count = v ∧ t.fld pTime 0x054 3 0 = v % 16 ∧ t.flag pTime 0x010 0 = true) ∧
  (∀ (s : State) (v : Nat), s.tb.state = .held → s.tb.startAt = some v →
    (clockEdge s).tb.state = .running ∧ (clockEdge s).tb.count = v ∧ (clockEdge s).fld pTime 0x054 3 0 = v % 16) ∧
  (∀ s : State, s.tb.state = .running → (clockEdge s).tb = { s.tb with count := s.tb.count + 16, phase := (s.tb.phase + 1) % 8 })

/-- R26, R27, R37, R39, Table 2.2: loss of REFCLK_DEV puts the root PLL into holdover, and its return relocks it; both raise their cause, the entry is
counted, and device time is not touched. What a rising SYSREF edge does in each state of device time: nothing while HELD; while ARMED the first SKIP
edges pass and the next is the start edge, which loads the TIME.SET that ARM_SYSREF took (that the arm takes it is the model's choice, log entry 18);
while RUNNING it is captured and compared with the expected time of R39. -/
def Obligations.RootPllAndSysref : Prop :=
  ((∀ s : State, s.flag pTime 0x070 1 = false →
     Completes .holdoverEntry s fun t => t.flag pTime 0x070 1 = true ∧ t.flag pTime 0x070 0 = false ∧ t.flag pTime 0x010 2 = true ∧
       t.fld pTime 0x070 31 16 = min (s.fld pTime 0x070 31 16 + 1) 65535 ∧ t.tb = s.tb) ∧
   (∀ s : State, s.flag pTime 0x070 1 = true →
     Completes .pllRelock s fun t => t.flag pTime 0x070 1 = false ∧ t.flag pTime 0x070 0 = true ∧ t.flag pTime 0x010 3 = true ∧
       t.fld pTime 0x070 31 16 = s.fld pTime 0x070 31 16 ∧ t.tb = s.tb) ∧
   (∀ (r : Req) (w : Word) (s : State), s.passes r pTime 0x050 = true → w.bit 0 = false → w.bit 2 = false → s.startAllowed = true →
     Completes (.armSysref r w) s fun t => t.tb = { s.tb with state := .armed, skipLeft := w.bits 15 8, loadAt := none, t0 := s.timeSet })) ∧
  ((∀ (phi : Nat) (s : State), s.tb.state = .held → Completes (.sysrefEdge phi) s fun t => t.tb = s.tb ∧ t.regs = s.regs ∧ t.timers = s.timers) ∧
   (∀ (phi : Nat) (s : State), s.tb.state = .armed → s.tb.loadAt = none →
     Completes (.sysrefEdge phi) s fun t => t.rdN pTime 0x06C = (s.rdN pTime 0x06C + 1) % 2 ^ 32 ∧
       (0 < s.tb.skipLeft → t.tb = { s.tb with skipLeft := s.tb.skipLeft - 1 } ∧ t.rd64 pTime 0x060 = 0) ∧
       (s.tb.skipLeft = 0 →
         t.tb = { s.tb with loadAt := some ((s.tb.t0 + s.fuses.sysrefDly + 128 + 2 ^ 64 - phi % 16) % 2 ^ 64) } ∧
         t.fld pTime 0x054 11 8 = phi % 16)) ∧
   (∀ (phi : Nat) (s : State), s.tb.state = .running → s.rdN pTime 0x058 ≠ 0 →
     Completes (.sysrefEdge phi) s fun t => t.tb = s.tb ∧
       (let e : Int := ((s.tb.count + phi % 16 - s.fuses.sysrefDly : Nat) : Int) - s.tb.t0
        let drift : Int := e - divr e (s.rdN pTime 0x058) * (s.rdN pTime 0x058)
        t.rdN pTime 0x068 = toBits drift 32 ∧ (s.fld pTime 0x05C 7 0 < drift.natAbs → t.flag pTime 0x010 1 = true))))

/-- R34, R35, R40: a TIME soft reset stops device time and keeps the count in TIME.STOP, or is refused with code 0x011 while a partition or a channel
holds it (partition 0 does not count, log entry 16); and the local copies: their synchronisation and what a mismatch leads to. -/
def Obligations.DeviceTimeStopsAndCopies : Prop :=
  (∀ (r : Req) (w : Word) (s : State), s.passes r pTime 0x008 = true → s.anyPlaced = false → s.anyChannel = false →
    Completes (.timeSoftReset r w) s fun t => t.tb.state = .held ∧ t.tb.count = 0 ∧ t.tb.startAt = none ∧ t.synced = [] ∧
      (s.tb.state = .running → t.timeStop = s.tb.count % 2 ^ 64 ∧ t.tb.stopped = true) ∧
      (s.tb.state ≠ .running → t.timeStop = s.timeStop ∧ t.tb.stopped = s.tb.stopped)) ∧
  (∀ (r : Req) (w : Word) (s : State), s.passes r pTime 0x008 = true → (s.anyPlaced = true ∨ s.anyChannel = true) →
    Completes (.timeSoftReset r w) s fun t => t.tb = s.tb ∧ t.synced = s.synced ∧ Recorded s t pTime 5 0x011 0x008) ∧
  (∀ (p : Page) (s : State), s.tb.state = .running → (s.dom p.dom).cur = .run → (s.dom p.dom).fio = false → (s.dom p.dom).busy = false →
    Completes (.copySync p) s fun t => t.ready p = true ∧ ∀ d, d ≠ p.dom →
      SMap.get (fun _ => false) t.synced d = SMap.get (fun _ => false) s.synced d) ∧
  (∀ (bad : List Page) (s : State), s.tb.state = .running →
    Completes (.copyCheck bad) s fun t => (bad ≠ [] → t.flag pTime 0x010 14 = true) ∧
      ∀ q ∈ bad, Recorded s t q 2 0x001 0 ∧ ∃ f ∈ t.faultReports, f.page = q ∧ f.code = 0x001)

/-- R42 to R45, R516: a TRIG_IN edge while device time runs is captured with the package delay and TRIGIN_SKEW taken off (not below zero, which is the
model's choice, log entry 18), unless it comes less than 64 fu after the last (missed); with MINW it waits and counts with its own time once
qualified; before device time runs it is ignored. TRIGIN_EVT takes a write only while the partition is stopped. The zeros that a read of an empty
capture queue latches beside VALID 0 are the model's choice (log entry 18). -/
def Obligations.TriggerInputs : Prop :=
  (∀ (pin : Nat) (fall : Bool) (phi : Nat) (s : State), s.tb.state ≠ .running →
    Completes (.triginEdge pin fall phi) s fun t => t = s.ans .none) ∧
  (∀ (pin : Nat) (fall : Bool) (phi : Nat) (s : State), s.tb.state = .running → pin < 4 → s.flag pTime (0x080 + 0x20 * pin) 0 = true →
    edgeSelected (s.fld pTime (0x080 + 0x20 * pin) 2 1) fall = true →
    let when_ : Int := ((s.tb.count + phi % 16 : Nat) : Int) - s.fuses.trigInDly pin - ofBits (s.fld pTime (0x084 + 0x20 * pin) 15 0) 16
    (s.fld pTime (0x080 + 0x20 * pin) 7 4 = 0 → s.flag pTime (0x098 + 0x20 * pin) 0 = false →
      Completes (.triginEdge pin fall phi) s fun t => t.rd64 pTime (0x088 + 0x20 * pin) = when_.toNat % 2 ^ 64 ∧
        t.flag pTime (0x098 + 0x20 * pin) 0 = true ∧ t.flag pTime (0x098 + 0x20 * pin) 1 = fall) ∧
    (s.fld pTime (0x080 + 0x20 * pin) 7 4 = 0 → s.flag pTime (0x098 + 0x20 * pin) 0 = true →
      when_.toNat < s.rd64 pTime (0x088 + 0x20 * pin) + 64 → s.ctrFrozen pTime = false →
      Completes (.triginEdge pin fall phi) s fun t => t.rd64 pTime (0x088 + 0x20 * pin) = s.rd64 pTime (0x088 + 0x20 * pin) ∧
        t.rdN pTime (0x094 + 0x20 * pin) = min (s.rdN pTime (0x094 + 0x20 * pin) + 1) 4294967295 ∧ t.flag pTime 0x010 (8 + pin) = true ∧
        t.timers = s.timers) ∧
    (s.fld pTime (0x080 + 0x20 * pin) 7 4 ≠ 0 →
      Completes (.triginEdge pin fall phi) s fun t => t.regs = s.regs ∧ t.trigQual = s.trigQual ++ [⟨pin, when_.toNat, fall, 0xFFFF⟩])) ∧
  (∀ (e : TrigEdge) (s : State), e.pin < 4 → s.trigQual.find? (fun x => x.pin = e.pin) = some e →
    (s.flag pTime (0x098 + 0x20 * e.pin) 0 = false → Completes (.triginQualify e.pin true) s fun t => t.trigQual = s.trigQual.erase e ∧
      t.rd64 pTime (0x088 + 0x20 * e.pin) = e.time % 2 ^ 64) ∧
    (s.ctrFrozen pTime = false → Completes (.triginQualify e.pin false) s fun t => t.trigQual = s.trigQual.erase e ∧
      t.rdN pTime (0x094 + 0x20 * e.pin) = min (s.rdN pTime (0x094 + 0x20 * e.pin) + 1) 4294967295 ∧ t.flag pTime 0x010 (8 + e.pin) = true)) ∧
  (∀ (e : TrigEdge) (s : State), s.trigEvents.find? (fun x => x.pin = e.pin) = some e →
    s.silent (s.fld pTime (0x090 + 0x20 * e.pin) 5 0) 0x160 = false →
    Completes (.externalTriggerEvent e.pin) s fun t => t =
      (({ s with trigEvents := s.trigEvents.erase e }).sendEvent 0x160 (s.fld pTime (0x090 + 0x20 * e.pin) 5 0)
        (s.fld pTime (0x090 + 0x20 * e.pin) 13 6) (trigPayload { s with trigEvents := s.trigEvents.erase e } e)).ans .none) ∧
  (∀ (r : Req) (pin : Nat) (w : Word) (s : State), pin < 4 → s.passes r pTime (0x090 + 0x20 * pin) = true →
    (s.partStopped (s.fld pTime (0x090 + 0x20 * pin) 5 0) = true → s.partStopped (w.bits 5 0) = true →
      Completes (.triginEvtWrite r pin w) s fun t => t.fld pTime (0x090 + 0x20 * pin) 5 0 = w.bits 5 0 ∧
        t.fld pTime (0x090 + 0x20 * pin) 13 6 = w.bits 13 6 ∧ t.fld pTime (0x090 + 0x20 * pin) 31 16 = w.bits 31 16) ∧
    (s.partStopped (s.fld pTime (0x090 + 0x20 * pin) 5 0) = false →
      Completes (.triginEvtWrite r pin w) s fun t => t.rd pTime (0x090 + 0x20 * pin) = s.rd pTime (0x090 + 0x20 * pin) ∧
        Recorded s t pTime 5 0x013 (0x090 + 0x20 * pin))) ∧
  (∀ (r : Req) (p : Page) (i : Nat) (s : State), isTimer p i = true → s.reads r p = true → s.captureQ p i = [] →
    Completes (.capturePop r p i) s fun t => t.rdN p (0x120 + 0x40 * i) = 0 ∧ t.latched r p (0x118 + 0x40 * i) = 0)

/-- R46 to R49: one tick of a timer, by the pseudocode of R46; a tick that does not reach the timer is lost; enabling and RESTART reload the count and
never set the zero flag, and a tick that falls on the edge of the write is processed before it. In device-time mode a tick falls where bits [63:DIV]
of device time change. -/
def Obligations.TimersTickAndReload : Prop :=
  (∀ (p : Page) (i : Nat) (s : State), s.ticks p i = true →
    Completes (.timerTick p i) s fun t =>
      (let period := s.rdN p (0x104 + 0x40 * i)
       let next := if s.rdN p (0x108 + 0x40 * i) = 0 then period else s.rdN p (0x108 + 0x40 * i) - 1
       t.rdN p (0x108 + 0x40 * i) = next ∧
       t.flag p 0x010 i = (s.flag p 0x010 i || decide (next = 0)) ∧
       t.flag p 0x010 (16 + i) = (s.flag p 0x010 (16 + i) || decide (next = s.rdN p (0x10C + 0x40 * i))) ∧
       t.flag p (0x100 + 0x40 * i) 0 = !(decide (s.rdN p (0x108 + 0x40 * i) = 1) && s.flag p (0x100 + 0x40 * i) 2))) ∧
  (∀ (p : Page) (i : Nat) (s : State), s.ticks p i = false → Completes (.timerTick p i) s fun t => t = s.ans .none) ∧
  (∀ (r : Req) (p : Page) (i : Nat) (w : Word) (s : State), isTimer p i = true → s.passes r p (0x100 + 0x40 * i) = true →
    (p.blk = .chtmr → i = 0 → s.flag ⟨.chin, p.inst⟩ 0x088 0 = false) → divLegal (w.bit 4) (w.bits 9 5) = true →
    ((s.timer p i).due = true → Completes (.timerRestart r p i w) s fun t =>
      t.rd p (0x108 + 0x40 * i) = s.rd p (0x104 + 0x40 * i) ∧ t.flag p 0x010 i = (s.takeTick p i).flag p 0x010 i) ∧
    ((s.timer p i).due = false → s.flag p (0x100 + 0x40 * i) 0 = false → Completes (.timerEnable r p i w) s fun t =>
      t.flag p (0x100 + 0x40 * i) 0 = true ∧ t.rd p (0x108 + 0x40 * i) = s.rd p (0x104 + 0x40 * i) ∧ t.flag p 0x010 i = s.flag p 0x010 i ∧
      t.flag p 0x010 (16 + i) = (s.flag p 0x010 (16 + i) || decide (s.rd p (0x104 + 0x40 * i) = s.rd p (0x10C + 0x40 * i)))) ∧
    ((s.timer p i).due = false → Completes (.timerRestart r p i w) s fun t =>
      t.rd p (0x108 + 0x40 * i) = s.rd p (0x104 + 0x40 * i) ∧ t.flag p 0x010 i = s.flag p 0x010 i ∧
      t.flag p 0x010 (16 + i) = (s.flag p 0x010 (16 + i) || decide (s.rd p (0x104 + 0x40 * i) = s.rd p (0x10C + 0x40 * i))))) ∧
  (∀ (p : Page) (i : Nat) (s : State), s.tb.state = .running → s.ticking p i = true → s.flag p (0x100 + 0x40 * i) 4 = true → (s.timer p i).due = false →
    (s.timerEdge p i (s.tb.count - 16)).ticks p i =
      decide (s.tb.count / 2 ^ s.fld p (0x100 + 0x40 * i) 9 5 ≠ (s.tb.count - 16) / 2 ^ s.fld p (0x100 + 0x40 * i) 9 5))

/-- R50 to R53: captures stand in the order of the edges, and those of one edge by captured time and then by source code; a capture queue holds four
entries, what would be the fifth is discarded with CAP_OVF, and a read of TMR_CAP_TLO takes the oldest, latches its high half for the requester alone,
or reads zero with VALID 0 when there is none. -/
def Obligations.CaptureQueuesHoldFour : Prop :=
  (∀ (p : Page) (i time code : Nat) (s : State), isTimer p i = true → (s.captureQ p i).length < 4 →
    (s.capture p i time code).captureQ p i = placeCapture ⟨time, code, s.tb.count⟩ (s.captureQ p i)) ∧
  (∀ (p : Page) (i time code : Nat) (s : State), isTimer p i = true → 4 ≤ (s.captureQ p i).length →
    (s.capture p i time code).captureQ p i = (placeCapture ⟨time, code, s.tb.count⟩ (s.captureQ p i)).take 4 ∧
      (s.capture p i time code).flag p (0x110 + 0x40 * i) 2 = true ∧
      (s.capture p i time code).flag (capCauses p).1 0x010 (capCauses p).2.2 = true) ∧
  (∀ (c : Capture) (q : List Capture), (∀ d ∈ q, d.edge = c.edge → d.time < c.time ∨ (d.time = c.time ∧ d.code ≤ c.code)) →
    placeCapture c q = q ++ [c] ∧ ∀ (d : Capture) (l : List Capture), d.edge = c.edge → (c.time < d.time ∨ (c.time = d.time ∧ c.code < d.code)) →
      placeCapture c (q ++ d :: l) = q ++ c :: d :: l) ∧
  (∀ (r : Req) (p : Page) (i : Nat) (c : Capture) (q : List Capture) (s : State), isTimer p i = true → s.reads r p = true →
    s.captureQ p i = c :: q →
    Completes (.capturePop r p i) s fun t => t.resp = .data (c.time % 2 ^ 32) ∧ t.captureQ p i = q ∧
      t.latched r p (0x118 + 0x40 * i) = c.time / 2 ^ 32 ∧ t.rdN p (0x120 + 0x40 * i) = 2 ^ 31 + c.code % 256 ∧
      ∀ k, k ≠ latchKey r p (0x118 + 0x40 * i) → SMap.get (fun _ => 0) t.latches k = SMap.get (fun _ => 0) s.latches k) ∧
  (∀ (r : Req) (p : Page) (i : Nat) (s : State), isTimer p i = true → s.reads r p = true → s.captureQ p i = [] →
    Completes (.capturePop r p i) s fun t => t.resp = .data 0 ∧ t.captureQ p i = [] ∧ t.flag p (0x120 + 0x40 * i) 31 = false)

/-- R55: the low half of a writable wide register is only staged; the high half commits all bits at once, with the present low half when none is staged. -/
def Obligations.WideRegisterWrites : Prop :=
  (∀ (r : Req) (p : Page) (off : Nat) (w : Word) (s : State), isWideWritable p off = true → s.passes r p off = true →
    Completes (.wideLowWrite r p off w) s fun t => t.stagedLow p off = w ∧ t.regs = s.regs) ∧
  (∀ (r : Req) (p : Page) (off : Nat) (w : Word) (s : State), isWideWritable p off = true → p.blk ≠ .hzn → s.passes r p (off + 4) = true →
    Completes (.wideHighWrite r p off w) s fun t =>
      t.rd64 p off = (s.stagedLow p off).toNat + w.toNat * 2 ^ 32 ∧ t.stagedLow p off = t.rd p off ∧
      ∀ o, o % 4096 ≠ off → o % 4096 ≠ off + 4 → t.rd p o = s.rd p o)

/-! ### Intake channels (03_intake.md, 04_encoders.md) -/

/-- R31, R63, R84, R95: LINK_CTRL. Enabling the receive link needs device time to run (code 0x012), checks the parameters as a set (code 0x011 with the
failing parameter, the link stays DOWN) and otherwise brings the held registers into force and trains; REINIT does the same for an enabled link, and
is refused likewise while device time does not run; EN cleared takes the link DOWN and, for an enabled channel in DATA, begins a gap of cause 2. -/
def Obligations.ReceiveLinkControl : Prop :=
  (∀ (r : Req) (n : Nat) (w : Word) (s : State), s.passes r (chin n) 0x040 = true → s.linkEn n = false →
    (s.tb.state = .running → linkParamFail (s.rd (chin n) 0x044) (s.rd (chin n) 0x048) (s.fld (chin n) 0x04C 12 0) = none →
      Completes (.linkEnable r n w) s fun t => t.linkEn n = true ∧ (t.chan n).link = s.linkRegs n ∧
        t.linkSt n = if cfgMode (s.rd (chin n) 0x044) = 0 then 0 else 1) ∧
    (∀ loc, s.tb.state = .running → linkParamFail (s.rd (chin n) 0x044) (s.rd (chin n) 0x048) (s.fld (chin n) 0x04C 12 0) = some loc →
      Completes (.linkEnable r n w) s fun t => t.linkEn n = true ∧ t.linkSt n = 0 ∧ (t.chan n).bad = true ∧ Recorded s t (chin n) 5 0x011 loc) ∧
    (s.tb.state ≠ .running → Completes (.linkEnable r n w) s fun t => t.linkEn n = false ∧ Recorded s t (chin n) 5 0x012 0)) ∧
  (∀ (r : Req) (n : Nat) (w : Word) (s : State), s.passes r (chin n) 0x040 = true → s.linkEn n = true → w.bit 0 = true →
    (s.tb.state = .running → linkParamFail (s.rd (chin n) 0x044) (s.rd (chin n) 0x048) (s.fld (chin n) 0x04C 12 0) = none →
      Completes (.linkReinit r n w) s fun t => t.linkEn n = true ∧ (t.chan n).link = s.linkRegs n ∧
        (t.linkSt n = if cfgMode (s.rd (chin n) 0x044) = 0 then 0 else 1) ∧ (s.linkSt n = 3 → t.flag (chin n) 0x010 1 = true)) ∧
    (s.tb.state ≠ .running → Completes (.linkReinit r n w) s fun t => t.linkEn n = true ∧ t.linkSt n = s.linkSt n ∧ t.chans = s.chans ∧
      Recorded s t (chin n) 5 0x012 0)) ∧
  (∀ (r : Req) (n : Nat) (w : Word) (s : State), s.passes r (chin n) 0x040 = true → s.linkEn n = true →
    Completes (.linkDisable r n w) s fun t => t.linkEn n = false ∧ t.linkSt n = 0 ∧ (t.chan n).link = (s.chan n).link ∧
      (s.linkSt n = 3 → t.flag (chin n) 0x010 1 = true) ∧
      (s.linkSt n = 3 → s.chanOn n = true → (s.chan n).gap = none → (t.chan n).gap = some ⟨2, none⟩))

/-- Table 3.2, R64, R72: the receive link comes up: the lanes lock, the first admitted SYSREF edge after lock fixes the anchor, the ILAS is checked (code
0x020 with lane and octet when it differs, and a retry, which checks the held parameters as a set again, code 0x011), and the release of the elastic
buffers enters DATA. The layout of the ILAS octets is the model's choice (log entry 20). An elastic buffer that overflows keeps the link out of DATA
(code 0x022). What a bad elastic buffer does is the model's choice (log entry 19). -/
def Obligations.ReceiveLinkComesUp : Prop :=
  (∀ (n : Nat) (s : State), s.linkEn n = true → s.linkSt n = 1 →
    Completes (.laneLock n) s fun t => t.linkSt n = 2 ∧ (t.chan n).pllLost = false ∧
      ∀ i, i < cfgL (s.chan n).link.cfg0 → t.rdN (chin n) (0x108 + 0x10 * i) = 3) ∧
  (∀ (n phi : Nat) (s : State), s.tb.state = .running → s.linkSt n = 2 → cfgSub (s.chan n).link.cfg0 = 1 → s.flag (chin n) 0x058 8 = false →
    s.flag (chin n) 0x074 0 = true →
    Completes (.lmfcAlign n phi) s fun t => t.flag (chin n) 0x058 8 = true ∧ t.flag (chin n) 0x00C 2 = true ∧
      (t.chan n).base = s.tb.count + phi % 16 - s.fuses.chSysrefDly n ∧
      t.rd64 (chin n) 0x078 = toBits (((s.tb.count + phi % 16 - s.fuses.chSysrefDly n : Nat) : Int) + ofBits (s.rdN (chin n) 0x068) 32) 64) ∧
  (∀ (n : Nat) (got : List (List Nat)) (s : State), s.linkSt n = 2 → cfgMode (s.chan n).link.cfg0 = 1 →
    (cfgSub (s.chan n).link.cfg0 = 0 ∨ s.flag (chin n) 0x058 8 = true) →
    (ilasFail (s.chan n).link got = none → Completes (.ilasCheck n got) s fun t => (t.chan n).ilasOk = true ∧ t.regs = s.regs) ∧
    (∀ lane o, ilasFail (s.chan n).link got = some (lane, o) → Completes (.ilasCheck n got) s fun t =>
      t.linkSt n = 4 ∧ Recorded s t (chin n) 3 0x020 (lane * 256 + o) ∧ t.flag (chin n) 0x010 4 = true)) ∧
  (∀ (n : Nat) (s : State), s.linkEn n = true → s.linkSt n = 4 →
    (linkParamFail (s.rd (chin n) 0x044) (s.rd (chin n) 0x048) (s.fld (chin n) 0x04C 12 0) = none →
      Completes (.ilasRetry n) s fun t => (t.linkSt n = if cfgMode (s.rd (chin n) 0x044) = 0 then 0 else 1) ∧ (t.chan n).link = s.linkRegs n ∧
        (t.chan n).ilasOk = false) ∧
    (∀ loc, linkParamFail (s.rd (chin n) 0x044) (s.rd (chin n) 0x048) (s.fld (chin n) 0x04C 12 0) = some loc →
      Completes (.ilasRetry n) s fun t => t.linkSt n = 0 ∧ (t.chan n).bad = true ∧ Recorded s t (chin n) 5 0x011 loc)) ∧
  (∀ (n k : Nat) (s : State), s.tb.state = .running → s.linkSt n = 2 → (cfgMode (s.chan n).link.cfg0 = 1 → (s.chan n).ilasOk = true) →
    (cfgSub (s.chan n).link.cfg0 = 1 → s.flag (chin n) 0x058 8 = true) →
    (∀ lane, Completes (.linkUp n ⟨k, some lane⟩) s fun t => t.linkSt n = 2 ∧ t.chans = s.chans ∧ Recorded s t (chin n) 3 0x022 lane) ∧
    Completes (.linkUp n ⟨k, none⟩) s fun t => t.linkSt n = 3 ∧ t.flag (chin n) 0x00C 0 = true ∧ t.flag (chin n) 0x010 0 = true ∧
      (cfgSub (s.chan n).link.cfg0 = 1 → (t.chan n).base = (s.chan n).base ∧ (t.chan n).k = k) ∧
      (cfgSub (s.chan n).link.cfg0 ≠ 1 → (t.chan n).base = s.tb.count ∧ (t.chan n).k = 0))

/-- R66 to R69, R84: errors of a running link: lane errors and failed multiblock CRCs are counted per lane and raise their cause, a failed CRC marks the
records its samples stand in; loss of code group or sync header lock takes the link down and trains again with code 0x021, unless the held parameters
fail as a set; loss of the SerDes PLL takes both links of the channel down. -/
def Obligations.ReceiveLinkErrors : Prop :=
  (∀ (n lane : Nat) (code : Bool) (s : State), s.linkEn n = true → lane < cfgL (s.chan n).link.cfg0 → cfgMode (s.chan n).link.cfg0 = 1 →
    s.ctrFrozen (chin n) = false →
    Completes (.laneErr n lane code) s fun t => t.flag (chin n) 0x010 5 = true ∧
      t.rdN (chin n) ((if code then 0x104 else 0x100) + 0x10 * lane) =
        min (s.rdN (chin n) ((if code then 0x104 else 0x100) + 0x10 * lane) + 1) 4294967295 ∧
      (t.chan n).pulses = (s.chan n).pulses + b2n (s.flag (chin n) 0x040 2)) ∧
  (∀ (n lane a b : Nat) (s : State), s.linkEn n = true → lane < cfgL (s.chan n).link.cfg0 → cfgMode (s.chan n).link.cfg0 = 2 →
    s.ctrFrozen (chin n) = false →
    Completes (.multiblockCrcCheck n lane false a b) s fun t => t.flag (chin n) 0x010 5 = true ∧
      t.rdN (chin n) (0x100 + 0x10 * lane) = min (s.rdN (chin n) (0x100 + 0x10 * lane) + 1) 4294967295 ∧
      (t.chan n).fifo = (s.chan n).fifo.linkErr a b) ∧
  (∀ (n lane a b : Nat) (s : State), Completes (.multiblockCrcCheck n lane true a b) s fun t => t = s.ans .none) ∧
  (∀ (n lane : Nat) (s : State), s.linkEn n = true → 2 ≤ s.linkSt n →
    (cfgMode (s.chan n).link.cfg0 = 1 → Completes (.lossOfCodeGroupSync n lane) s fun t =>
      (t.linkSt n = if s.linkFit n = false ∨ cfgMode (s.rd (chin n) 0x044) = 0 then 0 else 1) ∧ Recorded s t (chin n) 3 0x021 lane ∧
      (s.linkSt n = 3 → t.flag (chin n) 0x010 1 = true)) ∧
    (cfgMode (s.chan n).link.cfg0 = 2 → Completes (.lossOfSyncHeaderLock n lane) s fun t =>
      (t.linkSt n = if s.linkFit n = false ∨ cfgMode (s.rd (chin n) 0x044) = 0 then 0 else 1) ∧ Recorded s t (chin n) 3 0x021 lane ∧
      (s.linkSt n = 3 → t.flag (chin n) 0x010 1 = true))) ∧
  (∀ (n : Nat) (s : State), Completes (.serdesPllLoss n) s fun t => t.linkSt n = 0 ∧ t.fld (chin n) 0x198 1 0 = 0 ∧ (t.chan n).pllLost = true ∧
    (s.linkSt n = 3 → s.chanOn n = true → (s.chan n).gap = none → (t.chan n).gap = some ⟨4, none⟩))

/-- R71 to R74, R84, R95: stamping: every sample of a word takes the next index, with the time stamp(k) of R71 from the anchor, and a link whose channel
cannot stamp counts its samples on; a later SYSREF edge is measured against the anchor; DL_OFFSET moves the anchor unless the channel's partition
runs; a configuration register takes the legal fields of a write and records code 0x010 for a reserved one; and the gap timer's expiry declares a gap
at t_last + T_gap. Which frame start a later SYSREF edge falls on is the model's reading (log entry 21). -/
def Obligations.StampingAndGaps : Prop :=
  (∀ (n : Nat) (samples : List (List Nat)) (err : Bool) (s : State), s.ready (chin n) = true → s.linkSt n = 3 →
    Completes (.wordStamp n samples err) s fun t => (t.chan n).k = (s.chan n).k + samples.length ∧ (t.chan n).base = (s.chan n).base ∧
      (samples ≠ [] → (t.chan n).tLast =
        some (stamp (s.anchor n) (s.chan n).link.num (s.chan n).link.den ((s.chan n).k + samples.length - 1)).toNat)) ∧
  (∀ (n : Nat) (samples : List (List Nat)) (err : Bool) (s : State), s.awake (chin n) = true → s.ready (chin n) = false → s.linkSt n = 3 →
    Completes (.wordStamp n samples err) s fun t => (t.chan n).k = (s.chan n).k + samples.length ∧ (t.chan n).fifo = (s.chan n).fifo ∧ t.regs = s.regs) ∧
  (∀ (n phi : Nat) (s : State), s.tb.state = .running → (s.linkSt n = 3 ∨ s.linkSt n = 2) → s.flag (chin n) 0x058 8 = true →
    cfgSub (s.chan n).link.cfg0 = 1 → s.flag (chin n) 0x074 1 = true →
    let d : Int := (s.chanSysref n phi : Int) - (s.chan n).base
    let k := (divr (d * (s.chan n).link.den) ((s.chan n).link.num * cfgS (s.chan n).link.cfg0)).toNat * cfgS (s.chan n).link.cfg0
    (k % lmfcSamples (s.chan n).link = 0 → Completes (.channelSysrefCheck n phi) s fun t =>
      t.rdN (chin n) 0x084 = word32 (d - divr (k * (s.chan n).link.num) (s.chan n).link.den) ∧
      (s.fld (chin n) 0x080 7 0 < (d - divr (k * (s.chan n).link.num) (s.chan n).link.den).natAbs → t.flag (chin n) 0x010 6 = true) ∧ t.chans = s.chans) ∧
    (k % lmfcSamples (s.chan n).link ≠ 0 → Completes (.channelSysrefCheck n phi) s fun t => t.flag (chin n) 0x010 7 = true ∧
      (s.flag (chin n) 0x074 2 = false → t.linkSt n = s.linkSt n ∧ t.chans = s.chans) ∧
      (s.flag (chin n) 0x074 2 = true → (t.linkSt n = if s.linkFit n = false ∨ cfgMode (s.rd (chin n) 0x044) = 0 then 0 else 1)))) ∧
  (∀ (r : Req) (n : Nat) (w : Word) (s : State), s.passes r (chin n) 0x068 = true →
    (s.chanOn n = true → s.partStopped (s.owner (chin n)) = false → Completes (.dlOffsetWrite r n w) s fun t =>
      t.rd (chin n) 0x068 = s.rd (chin n) 0x068 ∧ t.rd64 (chin n) 0x078 = s.rd64 (chin n) 0x078 ∧ Recorded s t (chin n) 5 0x013 0x068) ∧
    ((s.chanOn n = false ∨ s.partStopped (s.owner (chin n)) = true) → Completes (.dlOffsetWrite r n w) s fun t =>
      t.rd (chin n) 0x068 = w ∧ ((s.flag (chin n) 0x00C 2 = true ∨ s.linkSt n = 3) → t.rd64 (chin n) 0x078 = toBits (((s.chan n).base : Int) + ofBits w.toNat 32) 64))) ∧
  (∀ (r : Req) (n off : Nat) (w : Word) (row : RegRow) (s : State), isLinkReg off = true → s.passes r (chin n) off = true → s.legacy = false →
    findRow .chin off = some row →
    Completes (.linkConfigWrite r n off w) s fun t =>
      t.rd (chin n) off = writeFields (s.rd (chin n) off) w row.fields ∧ t.chans = s.chans ∧
      (hasReserved w row.fields = true → Recorded s t (chin n) 5 0x010 off)) ∧
  (∀ (n cause tl : Nat) (s : State), (s.chan n).gap = some ⟨cause, none⟩ → (s.chan n).tLast = some tl → s.chanOn n = true →
    s.flag (chin n) 0x088 0 = true → tl + (s.chan n).tGap + s.fld (chin n) 0x070 15 0 ≤ s.now → s.ctrFrozen (chin n) = false →
    Completes (.gapStart n) s fun t => (t.chan n).gap = some ⟨cause, some (tl + (s.chan n).tGap)⟩ ∧ (t.chan n).fifo.cur = none ∧
      t.flag (chin n) 0x00C 1 = true ∧ t.flag (chin n) 0x010 2 = true ∧ t.rdN (chin n) 0x08C = min (s.rdN (chin n) 0x08C + 1) 4294967295)

/-- R75, R78 to R80: the reader of the sample FIFO: a pop takes the next word and latches its high half and its end mark, or reads zero with UNDERFLOW
when there is no whole record and with BUSY under DMA; a word with an uncorrectable error is told apart; DROP_REST, FLUSH, ARM and the threshold. -/
def Obligations.SampleFifoReader : Prop :=
  (∀ (r : Req) (n : Nat) (x : FifoRec) (rest : List FifoRec) (w : Nat) (ws : List Nat) (s : State), s.reads r (chin n) = true →
    s.flag (chin n) 0x090 2 = false → (s.chan n).fifo.recs = x :: rest → x.words = w :: ws →
    (Completes (.sfifoPop r n .clean) s fun t => t.resp = .data (w % 2 ^ 32) ∧ t.rdN (chin n) 0x0AC = w / 2 ^ 32 % 2 ^ 32 ∧
      (t.rdN (chin n) 0x0B0 = if ws = [] then x.mark % 2 ^ 32 else 0) ∧
      ((t.chan n).fifo.recs = if ws = [] then rest else { x with words := ws } :: rest)) ∧
    (∀ flips mark, Completes (.sfifoPop r n (.uncorrectable flips mark)) s fun t => t.resp = .data ((w ^^^ (flips % 2 ^ 64)) % 2 ^ 32) ∧
      Recorded s t (chin n) 2 0x031 (s.chan n).fifo.addr ∧ (x.mark < 4 → t.rdN (chin n) 0x0B0 = (if mark = true then 2 else if ws = [] then x.mark else 0) + 16))) ∧
  (∀ (r : Req) (n : Nat) (ecc : EccRead) (s : State), s.reads r (chin n) = true →
    (s.flag (chin n) 0x090 2 = false → (s.chan n).fifo.recs = [] → Completes (.sfifoPop r n ecc) s fun t => t.resp = .data 0 ∧
      t.rdN (chin n) 0x0B0 = 4 ∧ t.chans = s.chans) ∧
    (s.flag (chin n) 0x090 2 = true → Completes (.sfifoPop r n ecc) s fun t => t.resp = .data 0 ∧ t.rdN (chin n) 0x0B0 = 8 ∧
      t.chans = s.chans ∧ Recorded s t (chin n) 5 0x014 0)) ∧
  (∀ (r : Req) (n : Nat) (s : State), s.passes r (chin n) 0x0A4 = true →
    (∀ x rest, (s.chan n).fifo.recs = x :: rest → Completes (.sfifoDropRest r n) s fun t => (t.chan n).fifo.recs = rest ∧
      (t.chan n).fifo.cur = (s.chan n).fifo.cur ∧ (t.chan n).fifo.mid = false) ∧
    (Completes (.sfifoFlush r n) s fun t => (t.chan n).fifo.recs = [] ∧ (t.chan n).fifo.cur = (s.chan n).fifo.cur ∧
      t.rdN (chin n) 0x0A0 = 0) ∧
    (s.fld (chin n) 0x090 1 0 = 2 → Completes (.sfifoArm r n) s fun t => (t.chan n).fifo.armed = true ∧ (t.chan n).fifo.recs = (s.chan n).fifo.recs)) ∧
  (∀ (r : Req) (n : Nat) (w : Word) (s : State), s.passes r (chin n) 0x098 = true →
    Completes (.sfifoThrWrite r n w) s fun t => t.fld (chin n) 0x098 16 0 = w.bits 16 0 ∧
      (t.chan n).fifo.lvlArmed = decide ((s.chan n).fifo.level < w.bits 16 0) ∧ t.flag (chin n) 0x010 8 = s.flag (chin n) 0x010 8)

/-- R59, R105, R518: a channel is enabled only while its partition is stopped; an enable whose checks pass fixes E and takes the settings; one that fails
a check of the encoders stays disabled with the lowest failure; a disable discards every unreleased event. The stamping latency that E_MIN counts is a
free value (log entry 5). What a refused enable leaves is in part the model's choice (log entry 38). -/
def Obligations.ChannelEnableAndDisable : Prop :=
  (∀ (r : Req) (n : Nat) (w : Word) (s : State), s.passes r (chin n) 0x008 = true → s.chanOn n = false → s.partStopped (s.owner (chin n)) = true →
    (s.encFailures n = [] → s.decFailures n = [] → Completes (.channelEnable r n w) s fun t => t.chanOn n = true ∧
      t.flag (chenc n) 0x00C 0 = true ∧ (t.chan n).formed = [] ∧ (t.chan n).seed = true ∧
      (t.rdN (chenc n) 0x048 = (if s.fld (chenc n) 0x040 23 0 = 0 then s.encMin n % 2 ^ 32 else s.fld (chenc n) 0x040 23 0))) ∧
    (∀ e, lowestFailure (s.encFailures n) = some e → Completes (.channelEnable r n w) s fun t => t.chanOn n = false ∧
      t.flag (chenc n) 0x00C 0 = false ∧ t.chans = s.chans ∧ Recorded s t (chenc n) 5 e.1 e.2)) ∧
  (∀ (r : Req) (n : Nat) (w : Word) (s : State), s.passes r (chin n) 0x008 = true → s.partStopped (s.owner (chin n)) = false →
    (s.chanOn n = false → Completes (.channelEnable r n w) s fun t => t.chanOn n = false ∧ t.chans = s.chans ∧ Recorded s t (chin n) 5 0x013 0x008) ∧
    (s.chanOn n = true → Completes (.channelDisable r n w) s fun t => t.chanOn n = true ∧ t.chans = s.chans ∧ Recorded s t (chin n) 5 0x013 0x008)) ∧
  (∀ (r : Req) (n : Nat) (w : Word) (s : State), s.passes r (chin n) 0x008 = true → s.partStopped (s.owner (chin n)) = true → s.chanOn n = true →
    Completes (.channelDisable r n w) s fun t => t.chanOn n = false ∧ (t.chan n).formed = [] ∧ (t.dec n).pin = false ∧
      (t.chan n).fifo = (s.chan n).fifo)

/-- R102, R103, R106, R116: the first formed event that is due leaves its channel: with one valid projection entry one event flit enters the mesh for the
Cabinet the logical map names and U_EVENTS counts it; an event beyond its unit's budget is only counted in U_SUPPRESSED. -/
def Obligations.EncoderEventsAreReleased : Prop :=
  ∀ (n : Nat) (f : Formed) (l : List Formed) (s : State), releaseOrder (s.chan n).formed = f :: l → s.ready (chin n) = true →
    f.time + s.encLat n + s.pairHold n ≤ s.now → f.unit < 8 → s.ctrFrozen (chenc n) = false →
    (∀ e : Word, (s.chan n).budgetOk f = true → s.flag (chin n) 0x1A0 0 = false → s.silent (s.owner (chin n)) (0x120 + n) = false →
      (s.chan n).entries f = [e] → e.bit 31 = true → (s.mapEntryAt (0x120 + n) (s.owner (chin n)) (e.bits 7 0)).valid = true →
      (s.mapEntryAt (0x120 + n) (s.owner (chin n)) (e.bits 7 0)).parked = false →
      Completes (.encoderEventRelease n) s fun t => (t.chan n).formed = (s.chan n).formed.erase f ∧ (t.chan n).lastOf f.src = some f.time ∧
        t.rdN (chenc n) (0x094 + 0x40 * f.unit) = min (s.rdN (chenc n) (0x094 + 0x40 * f.unit) + 1) 4294967295 ∧
        t.net = s.net ++ [s.newHop (entryPort (0x120 + n)).1 (entryPort (0x120 + n)).2 false false
          (.ev ⟨(s.mapEntryAt (0x120 + n) (s.owner (chin n)) (e.bits 7 0)).phys, 0x120 + n, 0, s.owner (chin n),
            SMap.get (fun _ => 0) s.seqs (s.pairKey (s.owner (chin n)) (0x120 + n) (s.mapEntryAt (0x120 + n) (s.owner (chin n)) (e.bits 7 0)).phys 0), 0, 0,
            formedPayload s.legacy (s.chan n) f e⟩)]) ∧
    ((s.chan n).budgetOk f = false → Completes (.encoderEventRelease n) s fun t => (t.chan n).formed = (s.chan n).formed.erase f ∧
      (t.chan n).lastOf f.src = (s.chan n).lastOf f.src ∧ t.net = s.net ∧ t.flag (chenc n) 0x010 f.unit = true ∧
      t.rdN (chenc n) (0x098 + 0x40 * f.unit) = min (s.rdN (chenc n) (0x098 + 0x40 * f.unit) + 1) 4294967295)

/-- R82, R87 to R89, R92, R329: what a channel sends: a whole record to its host ring, its window status to its partner, the partner's status and the
decision of a window, and the transmit link's start, alignment and samples. The room in a host ring and the span of a delayed sample are the model's
readings (log entries 22, 31). -/
def Obligations.ChannelDmaPairsAndTransmit : Prop :=
  (∀ (n : Nat) (x : FifoRec) (rest : List FifoRec) (s : State), (s.chan n).fifo.recs = x :: rest → s.flag (chin n) 0x090 2 = true →
    (s.chan n).fifo.atBoundary = true → (s.chan n).fifo.afterFalse = false →
    ringUsed (2 ^ s.fld (chin n) 0x0C8 4 0) (s.rdN (chin n) 0x0CC) (s.rdN (chin n) 0x0D0) + 8 * (x.words.length + 1) < 2 ^ s.fld (chin n) 0x0C8 4 0 →
    Completes (.sdmaRecordCopy n) s fun t => (t.chan n).fifo.recs = rest ∧ t.flag (chin n) 0x010 11 = true ∧
      t.rdN (chin n) 0x0CC = (s.rdN (chin n) 0x0CC + 8 * (x.words.length + 1)) % 2 ^ s.fld (chin n) 0x0C8 4 0 ∧
      t.hostMem = (s.hostRingWords (s.rd64 (chin n) 0x0C0) (2 ^ s.fld (chin n) 0x0C8 4 0) (s.rdN (chin n) 0x0CC)
        ((x.words.length + x.mark * 2 ^ 32) :: x.words)).hostMem) ∧
  (∀ (n w : Nat) (s : State), s.chanOn n = true → s.flag (chin n) 0x1A0 0 = true → 4096 * (w + 1) ≤ s.now → ((s.chan n).win w).sent = false →
    Completes (.pairStatusSend n w) s fun t => ((t.chan n).win w).sent = true ∧
      ((t.chan n).win w).fault = s.winFault n w ∧ (((s.chan n).win w).fault = true → s.winFault n w = true) ∧
      (s.linkSt n ≠ 3 → (s.chan n).downAt.getD 0 < 4096 * (w + 1) → s.winFault n w = true) ∧
      ((s.chan n).gap.isSome = true → (s.chan n).tLast.getD 0 < 4096 * (w + 1) → s.winFault n w = true) ∧
      ((t.chan n).win w).crc = crc32 ((windowPayloads s.legacy (s.chan n) w).flatMap payloadBytes) ∧ t.net.length = s.net.length + 1) ∧
  (∀ (n : Nat) (f : Flit) (a : Arrival) (s : State), s.inbox.find? (fun a => a.dest = 0x120 + n && a.flit = f) = some a → f.kind = 5 →
    nb f.payload 127 120 = 0x10 →
    Completes (.pairStatusReceive n f) s fun t => t.inbox = s.inbox.erase a ∧
      ((t.chan n).win (nb f.payload 119 72)).partner = some (decide (nb f.payload 71 71 = 1), nb f.payload 63 32) ∧
      t.notices = s.notices ++ [⟨f.src, f.dest, f.key, 2, nb f.payload 119 72⟩]) ∧
  (∀ (n w : Nat) (s : State), s.chanOn n = true → s.flag (chin n) 0x1A0 0 = true →
    ((s.chan n).formed.any (fun f => f.time / 4096 = w && decide (f.time + s.encLat n + s.pairHold n ≤ s.now))) = true →
    ((s.chan n).win w).deliver = none → ((s.chan n).win w).sent = true →
    Completes (.pairDeliveryDecision n w) s fun t =>
      (let x := (s.chan n).win w
       let d := if s.flag (chin n) 0x1A0 1 then !x.fault && x.noticed && x.partner.all (fun p => p.1)
         else !(x.partner.any (fun p => !p.1) && (x.fault || !x.noticed))
       ((t.chan n).win w).deliver = some d ∧ t.flag (chin n) 0x00C 3 = d ∧ (t.chan n).bySec = decide (d = s.flag (chin n) 0x1A0 1))) ∧
  (∀ (r : Req) (n : Nat) (w : Word) (s : State), s.passes r (chin n) 0x180 = true → s.flag (chin n) 0x180 0 = false →
    (s.tb.state = .running → Completes (.txEnable r n w) s fun t => t.flag (chin n) 0x180 0 = true ∧ (t.chan n).tx.cfg0 = s.rd (chin n) 0x184 ∧
      (txParamFail (s.rd (chin n) 0x184) (s.rd (chin n) 0x188) (s.inForce n).rate = none → cfgMode (s.rd (chin n) 0x184) ≠ 0 → t.rdN (chin n) 0x198 = 1) ∧
      (∀ loc, txParamFail (s.rd (chin n) 0x184) (s.rd (chin n) 0x188) (s.inForce n).rate = some loc →
        t.rd (chin n) 0x198 = s.rd (chin n) 0x198 ∧ Recorded s t (chin n) 5 0x011 loc)) ∧
    (s.tb.state ≠ .running → Completes (.txEnable r n w) s fun t => t.flag (chin n) 0x180 0 = false ∧ Recorded s t (chin n) 5 0x012 0)) ∧
  (∀ (n phi : Nat) (s : State), s.tb.state = .running → (s.dom (292 + n)).cur = .run → s.flag (chin n) 0x180 0 = true →
    cfgMode (s.chan n).tx.cfg0 = 2 → s.fld (chin n) 0x198 1 0 = 1 → (cfgSub (s.chan n).tx.cfg0 = 1 → s.flag (chin n) 0x074 0 = true) →
    Completes (.txAlign n phi) s fun t => t.rdN (chin n) 0x198 = 2 ∧ t.flag (chin n) 0x010 13 = true ∧ (t.chan n).tx.j = 0 ∧
      ((t.chan n).tx.base = if cfgSub (s.chan n).tx.cfg0 = 1 then s.chanSysref n phi else s.tb.count)) ∧
  (∀ (n : Nat) (s : State), s.fld (chin n) 0x198 1 0 = 2 →
    stamp (((s.chan n).tx.base : Int) + ofBits (s.rdN (chin n) 0x18C) 32) (s.chan n).tx.num (s.chan n).tx.den (s.chan n).tx.j ≤ (s.now : Int) + 4096 →
    Completes (.txSample n) s fun t => (t.chan n).tx.j = (s.chan n).tx.j + 1 ∧ ∃ x ∈ (t.dec n).fixed, x.j = (s.chan n).tx.j ∧
      t.resp = .words (x.vals.flatMap fun v => [v.1, v.2]))

/-! ### Event mesh and memory mesh (05_fabric.md) -/

/-- R122, R125, R128, R138, R140: what a router input does with an event flit: a transfer whose CRC-16 is not that of its header and payload is not taken
and its retries are counted, anew for another flit (code 0x020); a flit whose key the port does not allow is discarded (code 0x030); one at its hop
limit too (code 0x033); any other takes its buffer, its hop count one higher, and, when its output sends it in this cycle, a unicast flit for this
position is ejected and one for another position goes on to a neighbour that is one hop nearer; otherwise it waits. Of R142: an output sends a ready
flit of VC2 before any other, serves a key out of turn only in a lent slot, and lends none to a key in SCHEDULED mode. When arbitration runs, and what
counts as a cycle while device time stands, are the model's choice (log entry 11). -/
def Obligations.RouterTakesEventFlits : Prop :=
  (∀ (p port crc : Nat) (par : Bool) (f : Flit) (s : State), (s.dom 3).cur = .run → s.boot.off = false → crc ≠ (AnyFlit.ev f).crc →
    (∀ h, s.hopAt p port (.ev f) = some h → h.taken = false) →
    Completes (.flitReceive p port crc par (.ev f)) s fun t => t.net = s.net ∧ t.arrivals = s.arrivals ∧
      ((t.link (linkKey p port 0 false)).retries =
        if (s.link (linkKey p port 0 false)).failing = some (.ev f) then (s.link (linkKey p port 0 false)).retries + 1 else 1) ∧
      Recorded s t (rtr p) 1 0x020 (linkLoc port 0 false) ∧ t.flag (rtr p) 0x010 5 = true) ∧
  (∀ (p port : Nat) (par : Bool) (f : Flit) (h : Hop) (s : State), (s.dom 3).cur = .run → s.boot.off = false →
    s.hopAt p port (.ev f) = some h → h.taken = false → s.mayTake h = true →
    (s.keyAllowed p port f.key false = false → Completes (.flitReceive p port (AnyFlit.ev f).crc par (.ev f)) s fun t => t.net = s.unbuffer h ∧
      t.arrivals = s.arrivals ∧ Recorded s t (rtr p) 6 0x030 (port * 2 ^ 12 + f.key % 64) ∧ t.flag (rtr p) 0x010 0 = true) ∧
    (s.keyAllowed p port f.key false = true → f.kind ≠ 3 → f.kind ≠ 4 → 63 ≤ f.tag →
      Completes (.flitReceive p port (AnyFlit.ev f).crc par (.ev f)) s fun t => t.net = s.unbuffer h ∧ t.arrivals = s.arrivals ∧
        Recorded s t (rtr p) 3 0x033 (f.dest % 512) ∧ t.flag (rtr p) 0x010 10 = true) ∧
    (s.keyAllowed p port f.key false = true → f.kind ≠ 3 → f.kind ≠ 4 → f.tag < 63 → h.out = none → p < 288 → f.dest < 288 →
      (f.dest = p → s.fuses.posEn.testBit p = true ∧ s.fwdOn p = false) →
      let xy := if entryAt p port then s.injectXy p (.ev f) else h.xy
      let since (c : Nat) := if entryAt p port then s.now else c
      let g : Hop := { h with taken := true, xy := xy, flit := .ev { f with tag := f.tag + 1 }, came := since h.came, head := since h.head }
      let u := { (s.came h).d2dCross p port true with net := splice h [g] s.net }
      let sends : Prop := u.outputOpen p (u.wants g) 0 false = true ∧ ∃ how, u.arbitrate p (u.wants g) 0 false = some (g, how)
      Completes (.flitReceive p port (AnyFlit.ev f).crc par (.ev f)) s fun t =>
        (¬ sends → t.net = u.net ∧ t.arrivals = s.arrivals) ∧
        (sends → f.dest = p → t.net = u.unbuffer g ∧ t.arrivals = s.arrivals ++ [⟨p, h.esc, { f with tag := f.tag + 1 }⟩]) ∧
        (sends → f.dest ≠ p → t.arrivals = s.arrivals ∧ ∃ q i, t.net = u.unbuffer g ++ [s.newHop q i h.esc xy g.flit] ∧
          ((q % 18 : Int) - f.dest % 18).natAbs + ((q / 18 : Int) - f.dest / 18).natAbs + 1 =
            ((p % 18 : Int) - f.dest % 18).natAbs + ((p / 18 : Int) - f.dest / 18).natAbs))) ∧
  (∀ (p out plane : Nat) (memMesh : Bool) (s : State),
    ((∃ h ∈ s.readyAt p out plane memMesh, memMesh = false ∧ h.vc = 2) → ∃ h, s.arbitrate p out plane memMesh = some (h, none) ∧ h.vc = 2) ∧
    (∀ h, s.arbitrate p out plane memMesh = some (h, some false) → 256 ≤ s.tokens p out plane h.share memMesh) ∧
    (∀ h, s.arbitrate p out plane memMesh = some (h, some true) → s.shareMode p h.share memMesh ≠ 1 ∧
      ∀ g ∈ s.readyAt p out plane memMesh, s.tokens p out plane g.share memMesh < 256))

/-- R135, R136, R139, R150: the links of a router and its forwarding: after eight retries a link retrains and runs in full, at half width (code 0x021) or
goes DOWN with a report (code 0x022); a flit that has stood 256 cycles at the head of its VC, and a response likewise, moves to its escape buffer once
a credit is there; FWD ends when its life has run down, and not before. -/
def Obligations.LinksEscapeAndForwarding : Prop :=
  (∀ (p port plane : Nat) (memMesh : Bool) (s : State), port < 5 → 8 ≤ (s.link (linkKey p port plane memMesh)).retries →
    (Completes (.linkRetrain p port plane memMesh .full) s fun t => (t.link (linkKey p port plane memMesh)).retries = 0 ∧
      t.ownLink p port memMesh = 2) ∧
    (Completes (.linkRetrain p port plane memMesh .half) s fun t => t.ownLink p port memMesh = 1 ∧
      (t.linkWidth p port memMesh = 1 → t.flag (rtr p) 0x00C 1 = true) ∧ t.flag (rtr p) 0x010 6 = true ∧
      Recorded s t (rtr p) 3 0x021 (linkLoc port plane memMesh)) ∧
    (Completes (.linkRetrain p port plane memMesh .down) s fun t => t.ownLink p port memMesh = 0 ∧
      t.flag (rtr p) 0x00C 2 = true ∧ t.flag (rtr p) 0x010 7 = true ∧ Recorded s t (rtr p) 3 0x022 (linkLoc port plane memMesh) ∧
      t.faultReports = s.faultReports ++ [⟨rtr p, 0x022, s.now, port + 8 * b2n memMesh⟩])) ∧
  (∀ (p out plane : Nat) (memMesh : Bool) (s : State), s.ownLink p out memMesh = 0 → s.outputOpen p out plane memMesh = false) ∧
  (∀ (p port : Nat) (f : AnyFlit) (h : Hop) (s : State),
    s.net.find? (fun h => h.pos = p && h.port = port && h.flit = f && h.mayEscape) = some h → s.atHead h = true → h.head + 8192 ≤ s.now →
    s.credit p (s.wants { h with esc := true, head := s.now }) { h with esc := true, head := s.now } = true → s.ctrFrozen (rtr p) = false →
    Completes (.escape p port f) s fun t => t.net = promote h s.now (splice h [{ h with esc := true, head := s.now }] s.net) ∧
      t.flag (rtr p) 0x010 1 = true ∧ t.rdN (rtr p) 0x060 = min (s.rdN (rtr p) 0x060 + 1) 4294967295) ∧
  (∀ (p : Nat) (s : State), s.flag (rtr p) 0x058 31 = true →
    (s.fwdLeft p = 0 → Completes (.fwdExpiry p) s fun t => t.flag (rtr p) 0x058 31 = false ∧ t.fld (rtr p) 0x058 27 16 = 0 ∧
      t.fld (rtr p) 0x058 8 0 = s.fld (rtr p) 0x058 8 0) ∧
    (0 < s.fwdLeft p → Completes (.fwdExpiry p) s fun t => t = s.ans .none))

/-- R130 to R134: an endpoint delivers the ordered flits of a pair in sequence: the expected one is delivered and the expected number moves; a later one
waits in the reorder buffer; an earlier one is discarded (code 0x031); an entry that has waited for ROB_TMO is delivered past the lost ones, which are
recorded (code 0x032) and reported; but where the missing flit stands at the ejection port at that moment it is taken in place of the loss. The page
of an edge endpoint is the model's reading (log entry 32). -/
def Obligations.OrderedDelivery : Prop :=
  (∀ (e : Nat) (esc : Bool) (f : Flit) (s : State), s.arrivals.contains ⟨e, esc, f⟩ = true → s.ordered e f = true →
    (f.seq = s.expected (s.flitPair e f) → f.seq < 4096 → s.jrnBlocked e = false → s.rob e = [] →
      (f.kind ≠ 0 ∧ f.kind ≠ 4 ∧ e ≠ 0x161 ∨ f.kind = 0 ∧ goodEvent f.payload = true ∧ isChan e = true) →
      Completes (.flitEject e esc f) s fun t => t.arrivals = s.arrivals.erase ⟨e, esc, f⟩ ∧ t.inbox = s.inbox ++ [⟨e, esc, f⟩] ∧
        t.expected (s.flitPair e f) = (f.seq + 1) % 4096) ∧
    (0 < (f.seq + 4096 - s.expected (s.flitPair e f)) % 4096 → (f.seq + 4096 - s.expected (s.flitPair e f)) % 4096 < 2048 → esc = false →
      robGeneral (s.rob e) < 448 →
      Completes (.flitEject e esc f) s fun t => t.arrivals = s.arrivals.erase ⟨e, esc, f⟩ ∧ t.inbox = s.inbox ∧
        t.rob e = s.rob e ++ [⟨f, false, s.now⟩] ∧ t.expected (s.flitPair e f) = s.expected (s.flitPair e f)) ∧
    (2048 ≤ (f.seq + 4096 - s.expected (s.flitPair e f)) % 4096 →
      Completes (.flitEject e esc f) s fun t => t.arrivals = s.arrivals.erase ⟨e, esc, f⟩ ∧ t.inbox = s.inbox ∧ t.rob e = s.rob e ∧
        Recorded s t (endPage e) 3 0x031 f.src ∧ t.flag (endPage e) 0x010 4 = true)) ∧
  (∀ (e : Nat) (r : RobEntry) (s : State), s.rob e = [r] → r.stored + s.fld (endPage e) 0x04C 15 0 * 2048 ≤ s.now →
    s.expected (s.flitPair e r.flit) ≠ r.flit.seq →
    let here (a : Arrival) : Bool := a.dest = e && s.ordered e a.flit && s.flitPair e a.flit = s.flitPair e r.flit &&
      a.flit.seq = s.expected (s.flitPair e r.flit)
    (∀ a, s.arrivals.find? here = some a → Machine.exec (.robTimeout e) s = Machine.exec (.flitEject e a.esc a.flit) s) ∧
    (s.arrivals.find? here = none → r.flit.seq < 4096 → s.jrnBlocked e = false → r.flit.kind ≠ 0 → r.flit.kind ≠ 4 → r.flit.vc ≠ 7 → e ≠ 0x161 →
    Completes (.robTimeout e) s fun t => t.rob e = [] ∧ t.inbox = s.inbox ++ [⟨e, r.esc, r.flit⟩] ∧
      t.expected (s.flitPair e r.flit) = (r.flit.seq + 1) % 4096 ∧ Recorded s t (endPage e) 4 0x032 r.flit.src ∧
      t.faultReports = s.faultReports ++ [⟨endPage e, 0x032, s.now, 32768 * e + 512 * r.flit.key + r.flit.src⟩]))

/-- R123, R124, Table 5.17: a die-to-die frame that fails is replayed and counted, each direction for itself, and the first failure since PG_ERR_INFO was
cleared gives ERR_SYND; after sixteen replays of one frame the group goes DOWN and trains once, and when that fails it stays DOWN and is reported;
training replaces up to 32 failing lanes by spares, and a write of RETRAIN trains too; a group that is DOWN carries nothing. -/
def Obligations.DieToDieGroups : Prop :=
  (∀ (g frame syndrome lanes : Nat) (inward : Bool) (s : State), s.ctrFrozen (d2dPage g) = false →
    Completes (.d2dReplay g ⟨frame, inward, syndrome⟩ lanes) s fun t =>
      t.replaysOf g inward = (frame, if (s.replaysOf g inward).1 = frame then (s.replaysOf g inward).2 + 1 else 1) ∧
      t.replaysOf g (!inward) = s.replaysOf g (!inward) ∧
      t.rdN (d2dPage g) 0x04C = min (s.rdN (d2dPage g) 0x04C + 1) 4294967295 ∧
      t.rdN (d2dPage g) 0x050 = min (s.rdN (d2dPage g) 0x050 + 1) 4294967295 ∧ t.flag (d2dPage g) 0x010 3 = true ∧
      Recorded s t (d2dPage g) 1 0x020 lanes ∧
      t.rdN (d2dPage g) 0x054 = if s.rdN (d2dPage g) errCaptured = 0 then syndrome % 2 ^ 24 + lanes % 256 * 2 ^ 24 else s.rdN (d2dPage g) 0x054) ∧
  (∀ (g us : Nat) (failing : List Nat) (s : State), (16 ≤ (s.replaysOf g false).2 ∨ 16 ≤ (s.replaysOf g true).2) →
    (SMap.get (fun _ => false) s.d2dRetried g = true → Completes (.d2dGroupDown g failing us) s fun t => t.rdN (d2dPage g) 0x044 = 0 ∧
      t.flag (d2dPage g) 0x010 1 = true ∧ Recorded s t (d2dPage g) 3 0x022 0 ∧
      t.faultReports = s.faultReports ++ [⟨d2dPage g, 0x022, s.now, 0⟩]) ∧
    (SMap.get (fun _ => false) s.d2dRetried g = false → failing.eraseDups.length ≤ 32 → Completes (.d2dGroupDown g failing us) s fun t =>
      t.rdN (d2dPage g) 0x044 = (if failing = [] then 2 else 3 + failing.eraseDups.length * 256) ∧
      SMap.get (fun _ => false) t.d2dRetried g = false ∧ t.flag (d2dPage g) 0x010 1 = true ∧ Recorded s t (d2dPage g) 3 0x022 0) ∧
    (SMap.get (fun _ => false) s.d2dRetried g = false → 32 < failing.eraseDups.length → Completes (.d2dGroupDown g failing us) s fun t =>
      t.rdN (d2dPage g) 0x044 = 0 ∧ SMap.get (fun _ => false) t.d2dRetried g = true ∧ Recorded s t (d2dPage g) 3 0x022 0 ∧
      t.faultReports = s.faultReports ++ [⟨d2dPage g, 0x022, s.now, 0⟩])) ∧
  (∀ (r : Req) (g us : Nat) (w : Word) (failing : List Nat) (s : State), s.passes r (d2dPage g) 0x040 = true →
    (failing.eraseDups.length ≤ 32 → Completes (.d2dRetrain r g w failing us) s fun t =>
      t.rdN (d2dPage g) 0x044 = (if failing = [] then 2 else 3 + failing.eraseDups.length * 256) ∧ t.flag (d2dPage g) 0x010 0 = true ∧
      t.replaysOf g false = (0, 0) ∧ t.replaysOf g true = (0, 0) ∧ SMap.get (fun _ => false) t.d2dRetried g = false) ∧
    (32 < failing.eraseDups.length → Completes (.d2dRetrain r g w failing us) s fun t => t.rdN (d2dPage g) 0x044 = 0 ∧
      t.flag (d2dPage g) 0x010 1 = true ∧ Recorded s t (d2dPage g) 3 0x022 0)) ∧
  (∀ (g p port plane : Nat) (memMesh : Bool) (s : State), d2dGroup p port = some g → s.fld (d2dPage g) 0x044 2 0 = 0 →
    s.outputOpen p port plane memMesh = false)

/-- R148: reductions: a contribution that stands in its VC2 buffer leaves it when it is combined: a router other than the root opens a partial and
combines later contributions into it, and sends it upward once its window has passed; the root of a partition broadcasts the result when the last
contribution is in, or what it has with the contributions that stand at its inputs, marked INCOMPLETE with code 0x040, once it has been open for
RED_TMO. -/
def Obligations.ReductionsCombineAndComplete : Prop :=
  (∀ (p : Nat) (f : Flit) (s : State), s.redIn.find? (fun h => h.pos = p && h.flit = .ev f) = none →
    Completes (.redUp p f) s fun t => t = s.ans .none) ∧
  (∀ (p : Nat) (f : Flit) (h : Hop) (s : State), s.redIn.find? (fun h => h.pos = p && h.flit = .ev f) = some h → s.redUpPort p f.key ≠ 0 →
   s.findPartial p f.key f.tag (nb f.payload 31 16) = none →
    (s.redPartials p).length < 16 → s.fld (rtr p) 0x044 7 0 ≠ 0 →
    Completes (.redUp p f) s fun t => t.redPartials p = s.redPartials p ++
      [⟨f.key, f.tag, nb f.payload 31 16, nb f.payload 53 52, redValue f.payload, nb f.payload 51 42, nb f.payload 41 32, false, s.now⟩] ∧
      t.net = promote h s.now s.net ∧ t.redIn = s.redIn.erase h) ∧
  (∀ (p : Nat) (f : Flit) (h : Hop) (r : RedPartial) (s : State), s.redIn.find? (fun h => h.pos = p && h.flit = .ev f) = some h →
    s.findPartial p f.key f.tag (nb f.payload 31 16) = some r → r.err = false →
    nb f.payload 41 32 = r.exp → nb f.payload 53 52 = r.op →
    let v := redValue f.payload
    let sum : RedPartial := { r with
      v := if r.op = 0 ∨ r.op = 1 then (r.v + v) % 2 ^ 74 else if r.op = 2 then min r.v v else max r.v v
      count := r.count + nb f.payload 51 42 }
    (s.redUpPort p f.key ≠ 0 → s.now < r.since + s.fld (rtr p) 0x044 7 0 * 32 →
      Completes (.redUp p f) s fun t => t.redPartials p = (s.redPartials p).erase r ++ [sum] ∧ t.net = promote h s.now s.net ∧
        t.redIn = s.redIn.erase h) ∧
    (s.redUpPort p f.key = 0 → s.redPartials p = [r] → r.count + nb f.payload 51 42 = r.exp →
      Completes (.redUp p f) s fun t => t.redPartials p = [] ∧ ∃ x : Hop, t.net = promote h s.now s.net ++ [x] ∧
        x.flit = .ev ⟨0x1C0 + r.key, p, 2, r.key, 0, 4, r.tag,
          redPayload ((redResult sum).1 % 2 ^ 64) r.op sum.count r.exp r.inst false (redResult sum).2⟩)) ∧
  (∀ (p key tag inst q port : Nat) (r : RedPartial) (s : State), s.findPartial p key tag inst = some r → s.redUpPort p key ≠ 0 →
    neighbour p (s.redUpPort p key) = some (q, port) → r.since + s.fld (rtr p) 0x044 7 0 * 32 ≤ s.now →
    Completes (.redWindowExpiry p key tag inst) s fun t => t.redPartials p = (s.redPartials p).erase r ∧
      t.net = s.net ++ [{ s.newHop p 5 false true (.ev (partialFlit p r)) with taken := true, out := some (s.redUpPort p key) }]) ∧
  (∀ (p key tag inst : Nat) (r : RedPartial) (s : State), s.findPartial p key tag inst = some r → s.redUpPort p key = 0 →
    let x := (s.redAt p key tag inst).foldl redJoin r
    x.count < x.exp → x.err = false → r.since + s.fld (rtr p) 0x048 15 0 * 32 ≤ s.now →
    Completes (.redTmo p key tag inst) s fun t => t.redPartials p = ((s.redPartials p).erase r ++ [x]).erase x ∧ Recorded s t (rtr p) 4 0x040 r.tag ∧
      t.flag (rtr p) 0x010 8 = true ∧ ∃ h : Hop, t.net = ((s.redAt p key tag inst).foldl State.redTaken s).net ++ [h] ∧
        h.flit = .ev ⟨0x1C0 + r.key, p, 2, r.key, 0, 4, r.tag, redPayload (x.v % 2 ^ 64) r.op x.count r.exp r.inst true false⟩)

/-! ### Delay rings, ordering and the safe horizon (07_causality.md) -/

/-- R194, R195: the horizon rounds at a source: it samples its horizon at its next round, sends the sample once every flit released before it is accepted,
and a complete result raises its safe time (by the lookahead above the minimum) while an INCOMPLETE one leaves it and is recorded; an acceptance
notice takes its flit from those not yet accepted. -/
def Obligations.HorizonRounds : Prop :=
  (∀ (k e h : Nat) (s : State), s.silent k e = false → s.handed e (s.source k e).next = false → k ≠ 0 → s.tb.state = .running →
    (s.source k e).next * s.roundOf k e ≤ s.now → (s.source k e).waiting = [] → (s.source k e).flying.length < 4 → s.horizonOf k e = some h →
    Completes (.horizonRoundSample k e) s fun t => (t.source k e).next = (s.source k e).next + 1 ∧
      (t.source k e).waiting = [⟨(s.source k e).next, h, s.now, (s.source k e).released⟩] ∧ (t.source k e).s = (s.source k e).s) ∧
  (∀ (k e : Nat) (c : Contrib) (s : State), (s.source k e).waiting = [c] → (∀ x ∈ (s.source k e).sent, c.ord ≤ x.ord) →
    e < 0x162 → (s.cab e).fenced = false → (s.cab e).replay = false →
    Completes (.horizonContributionSend k e) s fun t => (t.source k e).waiting = [] ∧
      (t.source k e).flying = (s.source k e).flying ++ [c] ∧ (e < 288 → t.rd64 (hzn e) 0x060 = c.h % 2 ^ 64) ∧
      t.net = s.net ++ [s.newHop (entryPort e).1 (entryPort e).2 false false
        (.ev ⟨0, e, 2, k, 0, 3, 63, redPayload c.h 2 1 (s.nsrcOf k e) c.round false false⟩)]) ∧
  (∀ (e : Nat) (a : Arrival) (s : State), s.inbox.find? (fun a => a.dest = e && a.flit.kind = 4 && a.flit.tag = 63) = some a → s.mbox = [] →
    s.recov = [] → e < 0x130 → (s.cab e).fenced = false → (s.cab e).replay = false →
    let v := nb a.flit.payload 127 64
    (nb a.flit.payload 15 15 = 0 → e < 288 → v + s.look e < 2 ^ 64 →
      Completes (.redDownReceive e) s fun t => t.inbox = s.inbox.erase a ∧ t.safe e = max (s.safe e) (v + s.look e) ∧
        (t.source a.flit.key e).m = v) ∧
    (nb a.flit.payload 15 15 = 0 → 288 ≤ e → Completes (.redDownReceive e) s fun t => t.inbox = s.inbox.erase a ∧
      (t.source a.flit.key e).s = max (s.source a.flit.key e).s (v + (s.source a.flit.key e).look) ∧
      (t.source a.flit.key e).m = max (s.source a.flit.key e).m v) ∧
    (nb a.flit.payload 15 15 = 1 → e < 288 → Completes (.redDownReceive e) s fun t => t.inbox = s.inbox.erase a ∧ t.safe e = s.safe e ∧
      t.flag (hzn e) 0x010 0 = true ∧ Recorded s t (hzn e) 4 0x060 (nb a.flit.payload 31 16) ∧
      (t.source a.flit.key e).miss = (s.source a.flit.key e).miss + 1)) ∧
  (∀ (i : Nat) (n : Notice) (x : Sent) (s : State), s.notices[i]? = some n → n.cls < 16 → n.cls ≠ 2 →
    (s.source n.key (eventSource n.src)).sent.find? (fun x => x.dest = n.dest && x.cls = n.cls && x.seq = n.seq) = some x →
    Completes (.acceptanceNotice i) s fun t => t.notices = s.notices.eraseIdx i ∧
      (x.left ≤ 1 → (t.source n.key (eventSource n.src)).sent = (s.source n.key (eventSource n.src)).sent.erase x) ∧
      (1 < x.left → (t.source n.key (eventSource n.src)).sent =
        (s.source n.key (eventSource n.src)).sent.map fun y => if y = x then { x with left := x.left - 1 } else y))

/-- R188, R189, R193, R196: the steps of a Cabinet: once freed entries have left the post log, the next one starts when its end is at or below the grant
limit and work stands before it, or is skipped and moves G at once; a step in progress begins its barrier when its slots are evaluated, another pass
when the barrier sent it back, and otherwise completes and moves G; CORE_FLOOR is raised or, where a write would lower it, refused with code 0x062,
and a write that waits does so behind those that wait already. -/
def Obligations.StepsAndCoreFloor : Prop :=
  (∀ (p : Nat) (ecc : StoreEcc) (s : State), let v := s.postFree p
    let g := (v.gEnd p / v.stepQ p + 1) * v.stepQ p
    let u := v.ldqSettle p ecc
    v.live p = true → (v.xp p).step = none → (∀ d, d < 4 → v.postFull p d = false ∧ v.catchup p d = false) → g ≤ v.grantLimit p →
    (u.evaluable p g = true ∨ u.barrierWork p = true →
      Completes (.stepStart ⟨p, ecc⟩) s fun t => (t.xp p).step = some ⟨g, 1, false, false⟩ ∧ t.flag (hzn p) 0x00C 0 = true ∧ t.gEnd p = u.gEnd p) ∧
    (u.evaluable p g = false → u.barrierWork p = false → g < 2 ^ 64 →
      Completes (.stepStart ⟨p, ecc⟩) s fun t => (t.xp p).step = none ∧ t.gEnd p = g ∧ t.flag (hzn p) 0x00C 0 = false)) ∧
  (∀ (p : Nat) (ecc : StoreEcc) (st : StepSt) (s : State), (s.xp p).step = some st → s.live p = true →
    (st.barrier = false → s.evaluable p st.g = false →
      Completes (.stepComplete ⟨p, ecc⟩) s fun t => (t.xp p).step = some { st with barrier := true } ∧ t.gEnd p = s.gEnd p) ∧
    (st.barrier = true → s.barrierWork p = false → st.again = true →
      Completes (.stepComplete ⟨p, ecc⟩) s fun t => (t.xp p).step = some ⟨st.g, st.pass + 1, false, false⟩ ∧ t.gEnd p = s.gEnd p) ∧
    (st.barrier = true → s.barrierWork p = false → st.again = false → st.g < 2 ^ 64 →
      Completes (.stepComplete ⟨p, ecc⟩) s fun t => (t.xp p).step = none ∧ t.gEnd p = st.g ∧ t.flag (hzn p) 0x00C 0 = false)) ∧
  (∀ (r : Req) (p : Nat) (w : Word) (s : State), s.passes r (hzn p) 0x078 = true →
    ((s.stagedLow (hzn p) 0x074).toNat + w.toNat * 2 ^ 32 < s.floor p →
      Completes (.coreFloorWrite r p w) s fun t => t.floor p = s.floor p ∧ Recorded s t (hzn p) 5 0x062 0) ∧
    (s.floor p ≤ (s.stagedLow (hzn p) 0x074).toNat + w.toNat * 2 ^ 32 →
      s.floorPending p ((s.stagedLow (hzn p) 0x074).toNat + w.toNat * 2 ^ 32) = false →
      Completes (.coreFloorWrite r p w) s fun t => t.floor p = (s.stagedLow (hzn p) 0x074).toNat + w.toNat * 2 ^ 32) ∧
    (s.floor p ≤ (s.stagedLow (hzn p) 0x074).toNat + w.toNat * 2 ^ 32 →
      s.floorPending p ((s.stagedLow (hzn p) 0x074).toNat + w.toNat * 2 ^ 32) = true →
      Completes (.coreFloorWrite r p w) s fun t => t.floor p = s.floor p ∧
        (t.cab p).floorHeld = (s.cab p).floorHeld ++ [(s.stagedLow (hzn p) 0x074).toNat + w.toNat * 2 ^ 32]))

/-! ### Drawers (06_neurons.md, and R183 to R187 of 07_causality.md) -/

/-- R165, R183 to R187: a delivery that lands in the ring window adds its contribution, saturated to 32 bits, to its slot, marks it occupied, and touches
no other byte unless it saturates; one beyond the window goes to the long-delay queue and its memory, where that is full the entry with the latest
slot end is spilled, and where the spill area is full too the delivery is held with code 0x061. A landing in a pass at or before the step's end asks
for another pass. Spilled entries return when room frees and the region check allows the read, and the held delivery is placed. The order of the
long-delay queue in its memory is the model's choice (log entry 54). -/
def Obligations.DeliveriesLand : Prop :=
  (∀ (p : Nat) (e : Dlv) (es : List Dlv) (s : State), (s.xp p).dlv = e :: es → s.live p = true → (s.xp p).held = false →
    s.catchup p (e.neuron / 8192) = false → s.unitStalled p (3 + e.neuron / 8192) = false → s.drwBanks p (e.neuron / 8192) = true →
    let d := e.neuron / 8192
    let i := e.neuron % 8192
    let te := (s.landing p d i e.time e.g e.pass).1
    let k := s.profK p d (s.shadow p d i)
    let q := s.contribution p d i e.time te e.c0
    let j := (te / 2 ^ k + 7) % 8
    (te / 2 ^ k ≤ s.ringBase p k + 8 → Completes (.delivery p .clean) s fun t =>
      (t.xp p).dlv = es ∧ t.occ p d i j = true ∧ t.ring p d i j = sat (s.ring p d i j + q) 32 ∧
        (t.xp p).ldq = (s.xp p).ldq ∧
        (∀ st, (s.xp p).step = some st → (t.xp p).step = some { st with again := st.again || (e.pass ≠ 0 && decide (te ≤ st.g)) }) ∧
        (sat (s.ring p d i j + q) 32 = s.ring p d i j + q → ∀ a, (a < drwAt p d (0x30000 + 32 * i + 4 * j) ∨ drwAt p d (0x30004 + 32 * i + 4 * j) ≤ a) →
          a ≠ drwAt p d (0x70000 + 1024 * j + i / 8) → t.byte a = s.byte a) ∧
        (sat (s.ring p d i j + q) 32 ≠ s.ring p d i j + q → (t.nrec p d i).testBit 26 = true ∧ t.flag (drw p d) 0x010 0 = true)) ∧
    (s.ringBase p k + 8 < te / 2 ^ k →
      let all := (s.xp p).ldq ++ [⟨te, q, e.neuron, (s.landing p d i e.time e.g e.pass).2.1⟩]
      ((s.xp p).ldq.length < (s.ldqCap p).1 → Completes (.delivery p .clean) s fun t => (t.xp p).dlv = es ∧ (t.xp p).ldq = all ∧
        (t.xp p).spill = (s.xp p).spill ∧ t.mem = ((s.setXp p { s.xp p with ldq := all }).ldqStore p).mem) ∧
      ((s.ldqCap p).1 ≤ (s.xp p).ldq.length → (s.xp p).spill.length < (s.ldqCap p).2 → Completes (.delivery p .clean) s fun t =>
        (t.xp p).dlv = es ∧ t.flag (hzn p) 0x010 1 = true ∧
          ∃ f ∈ all, (∀ g ∈ all, g.te ≤ f.te) ∧ (t.xp p).ldq = all.erase f ∧ (t.xp p).spill = (s.xp p).spill ++ [f] ∧
            t.mem = ((s.setXp p { s.xp p with ldq := all.erase f, spill := (s.xp p).spill ++ [f] }).ldqStore p).mem) ∧
      ((s.ldqCap p).1 ≤ (s.xp p).ldq.length → (s.ldqCap p).2 ≤ (s.xp p).spill.length → Completes (.delivery p .clean) s fun t =>
        t.mem = s.mem ∧ (t.xp p).dlv = e :: es ∧ (t.xp p).held = true ∧ Recorded s t (hzn p) 5 0x061 0 ∧ t.flag (hzn p) 0x010 2 = true))) ∧
  (∀ (p : Nat) (s : State), (s.xp p).spill ≠ [] → s.live p = true → (s.xp p).ldq.length < (s.ldqCap p).1 →
    Completes (.ldqReturn p) s fun t => ∃ e ∈ (s.xp p).spill, (∀ f ∈ (s.xp p).spill, e.te ≤ f.te) ∧
      (t.xp p).spill = (s.xp p).spill.erase e ∧
      let denied := s.spanDenied (s.cabKey p) (s.rd64 (hzn p) 0x0A8 + 16 * (s.xp p).spill.idxOf e) 16
      (denied ≠ none → (t.xp p).ldq = (s.xp p).ldq) ∧
      (denied = none → (t.xp p).ldq = (s.xp p).ldq ++ [e] ∧
        t.mem = ((s.setXp p { s.xp p with ldq := (s.xp p).ldq ++ [e], spill := (s.xp p).spill.erase e }).ldqStore p).mem)) ∧
  (∀ (p : Nat) (e : Dlv) (es : List Dlv) (s : State), (s.xp p).dlv = e :: es → s.live p = true → (s.xp p).held = true →
    s.catchup p (e.neuron / 8192) = false → s.unitStalled p (3 + e.neuron / 8192) = false → s.drwBanks p (e.neuron / 8192) = true →
    (s.xp p).ldq.length < (s.ldqCap p).1 →
    Completes (.spillResume ⟨p, .clean⟩) s fun t => (t.xp p).held = false ∧ (t.xp p).dlv = es) ∧
  (∀ (p off : Nat) (e : Dlv) (es : List Dlv) (s : State), (s.xp p).dlv = e :: es → s.live p = true → (s.xp p).held = false →
    s.catchup p (e.neuron / 8192) = false → s.unitStalled p (3 + e.neuron / 8192) = false → s.drwBanks p (e.neuron / 8192) = true →
    Completes (.delivery p (.uncorrectable off)) s fun t => (t.xp p).dlv = es ∧ t.mem = s.mem ∧ t.fld (drw p (e.neuron / 8192)) 0x044 1 0 = 3 ∧
      Recorded s t (drw p (e.neuron / 8192)) 2 0x031 (off / 8))

/-- R167 to R171, R226: the evaluation of the earliest occupied slot of a neuron that is neither rested nor refractory: its charge is added to the decayed
potential; below the threshold the potential is kept; at it the neuron spikes, its potential is reset, its adaptation rises and the spike time is
kept; the slot is emptied; and a spike of a group with one local destination reaches the expander. What the long-delay queue holds for the slot enters
the ring first (R186). A slot that a full post log holds up waits, which is the model's reading (log entry 25). -/
def Obligations.NeuronsEvaluate : Prop :=
  (∀ (p d i te : Nat) (st : StepSt) (s : State), (s.xp p).step = some st → s.live p = true → st.barrier = false → s.paused p d = false →
    s.catchup p d = false → s.unitStalled p (3 + d) = false → s.unitStalled p 7 = false → d < 4 → i < 8192 → s.earliest p d i = some te → te ≤ st.g →
    s.drwBanks p d = true → (recPlastic (s.nrec p d i) = true → s.postFull p d = false) →
    let u := s.ldqDue p d i te
    let r := u.nrec p d i
    let j := recProfile r
    let pos := (te / 2 ^ s.profK p d j + 7) % 8
    let tu := rebuildI (nb r 143 96) te
    let ts := rebuildI (nb r 95 48) tu
    let a : Int := mul24 (nb r 159 144) (decay ((te : Int) - tu).toNat (u.dtable p d (s.prof p d j 0 20 16)))
    let v := sat (mul24 (ofBits (nb r 191 160) 32) (decay ((te : Int) - tu).toNat (u.dtable p d (s.prof p d j 0 12 8))) + u.ring p d i pos) 32
    let theta : Int := ofBits (s.prof p d j 0x08 31 0) 32 + a * 256
    recRested r = false → te < ts + 2 ^ 46 → ts + s.prof p d j 0x14 31 0 < te →
    (v < theta → Completes (.evaluate p d i .clean) s fun t => t.ring p d i pos = 0 ∧ t.occ p d i pos = false ∧
      nb (t.nrec p d i) 191 160 = toBits v 32 ∧ nb (t.nrec p d i) 159 144 = a.toNat % 65536 ∧ nb (t.nrec p d i) 143 96 = te % 2 ^ 48 ∧
      nb (t.nrec p d i) 95 48 = (ts % 2 ^ 48).toNat ∧ recRested (t.nrec p d i) = false ∧ (t.xp p).inq = (u.xp p).inq ∧ t.net = u.net) ∧
    (theta ≤ v → Completes (.evaluate p d i .clean) s fun t => t.ring p d i pos = 0 ∧ t.occ p d i pos = false ∧
      nb (t.nrec p d i) 191 160 = toBits (if s.prof p d j 0x04 1 1 = 1 then v - theta else ofBits (s.prof p d j 0x0C 31 0) 32) 32 ∧
      nb (t.nrec p d i) 159 144 = (satu (a + s.prof p d j 0x10 15 0) 16).toNat ∧ nb (t.nrec p d i) 143 96 = te % 2 ^ 48 ∧
      nb (t.nrec p d i) 95 48 = te % 2 ^ 48 ∧ recRested (t.nrec p d i) = false ∧
      (recGroup r = 0xFFFF → (t.xp p).inq = (u.xp p).inq ∧ t.net = u.net) ∧
      (let g := (u.pgroup p (u.pgtCopy p te) (recGroup r)).1
       let w := (u.pdest p (u.pgtCopy p te) (nb g 46 35)).1
       0x300000 ≤ s.fld (xpnd p) 0x05C 21 4 * 16 → s.fld (xpnd p) 0x05C 21 4 * 16 + 0x20000 ≤ 0x400000 →
       recPlastic r = false → recGroup r ≠ 0xFFFF → nb g 14 0 ≤ 8192 * d + i → 8192 * d + i ≤ nb g 29 15 → nb g 34 30 = 1 → nb w 63 62 = 0 →
         nb w 61 42 % 256 = s.cabLog p → (t.xp p).inq = (u.xp p).inq ++
           [⟨te, (nb w 41 26 + (8192 * d + i - nb g 14 0)) % 65536, s.cabLog p * 2 ^ 15 + (8192 * d + i),
             if s.prof p d j 0x04 3 3 = 1 then (min 255 ((v - theta) / 2 ^ s.prof p d j 0x04 8 4)).toNat else s.prof p d j 0x04 23 16,
             lg16 (some ((te : Int) - ts).toNat), 0, false, st.g, st.pass⟩]))) ∧
  (∀ (p d i te : Nat) (s : State), (∀ e ∈ s.ldqAll p, e.neuron = 8192 * d + i → te < e.te) → s.ldqDue p d i te = s)

/-- R173, R175, R178: the rest sweep visits the record at SWEEP_POS, once for each multiple of 2^31 fu, and rests it when it has been quiet for 2^46 fu
and holds no charge; the catch-up pass does so for every record since OUT_TIME whose words can be read, clearing the rings of those it rests; and a
handshake that stays open makes the Drawer FAULTED. -/
def Obligations.RecordsRestAndDrawersFault : Prop :=
  (∀ (p d : Nat) (s : State), s.ready (drw p d) = true → d < 4 → s.now % 2 ^ 31 < 16 → s.drwBanks p d = true →
    ((d, s.now / 2 ^ 31) ∈ (s.cab p).swept → Completes (.sweepVisit p d .clean) s fun t => t = s.ans .none) ∧
    ((d, s.now / 2 ^ 31) ∉ (s.cab p).swept →
    let pos := s.fld (drw p d) 0x054 12 0
    let r := s.nrec p d pos
    Completes (.sweepVisit p d .clean) s fun t => t.rdN (drw p d) 0x054 = (pos + 1) % 8192 ∧ (pos = 8191 → t.flag (drw p d) 0x010 6 = true) ∧
      (recRested r = false → s.ringEarliest p d pos = none → rebuildI (nb r 143 96) s.now + 2 ^ 46 < (s.now : Int) →
        recRested (t.nrec p d pos) = true ∧ nb (t.nrec p d pos) 191 144 = 0) ∧
      ((recRested r = true ∨ s.ringEarliest p d pos ≠ none ∨ (s.now : Int) ≤ rebuildI (nb r 143 96) s.now + 2 ^ 46) → t.mem = s.mem))) ∧
  (∀ (p d : Nat) (ecc : WordEcc) (s : State), s.ready (drw p d) = true → s.catchup p d = true → s.drwBanks p d = true →
    Completes (.catchupPass p ⟨d, ecc⟩) s fun t => t.catchup p d = false ∧ t.flag (drw p d) 0x010 7 = true ∧ ∀ i, i < 8192 →
      let r := s.nrec p d i
      ((∀ off, ecc = .uncorrectable off → eccHits off i = false) → recRested r = false →
        rebuildI (nb r 143 96) (s.rd64 (drw p d) 0x070) + 2 ^ 46 < (s.now : Int) →
        recRested (t.nrec p d i) = true ∧ nb (t.nrec p d i) 191 144 = 0 ∧ t.ringEarliest p d i = none) ∧
      ((recRested r = true ∨ (s.now : Int) ≤ rebuildI (nb r 143 96) (s.rd64 (drw p d) 0x070) + 2 ^ 46 ∨ ∃ off, ecc = .uncorrectable off ∧ eccHits off i = true) →
        t.nrec p d i = r)) ∧
  (∀ (p d i : Nat) (s : State), Completes (.handshakeTimeout p d i) s fun t =>
    t.fld (drw p d) 0x044 1 0 = 3 ∧ t.flag (drw p d) 0x00C 0 = true ∧ t.flag (drw p d) 0x010 5 = true ∧
      Recorded s t (drw p d) 4 0x050 (if i < 8192 then i else 0x1FFF) ∧ t.faultReports = s.faultReports ++ [⟨cctl p, 0x050, s.now, 0⟩])

/-- R180, R193, Table 6.9: a command at the head of a Drawer's port: READ_NEURON copies record, ring and occupancy bits to the general shared area,
WRITE_NEURON replaces them from there, CHARGE lands a delivery, each with its completion; a command with a reserved opcode or field, or below the core
floor, completes with status 1 and its error, and changes no memory; one that meets an uncorrectable word stops with no completion. The layout of a
Drawer's completion is the model's reading (log entry 24). -/
def Obligations.DrawerCommands : Prop :=
  (∀ (p d m off : Nat) (s : State), s.drwHead p d = some m → s.live p = true → s.catchup p d = false → s.unitStalled p (3 + d) = false →
    drwCmdOp m = 1 → drwCmdClean m = true → s.drwBanks p d = true → bytesOf m 23 16 % 8 = 0 → sharedAddr (bytesOf m 23 16) = .spad off → off + 64 ≤ 2 ^ 22 → s.spanOff p off 64 = none →
    Completes (.readNeuron p d .clean) s fun t => ∃ u : State,
      t = (u.complete p (3 + d) (bytesOf m 15 12) (msgUser m) 1 0 0).ans .none ∧ (u.cab p).drwIn = (s.cab p).drwIn.erase (d, m) ∧
      u.load (spadAt p off) 24 = s.nrec p d (drwCmdNeuron m) ∧
      u.load (spadAt p (off + 24)) 32 = s.load (drwAt p d (0x30000 + 32 * drwCmdNeuron m)) 32 ∧
      (∀ j, j < 8 → (u.load (spadAt p (off + 56)) 8).testBit j = s.occ p d (drwCmdNeuron m) j) ∧
      ∀ a, (a < spadAt p off ∨ spadAt p off + 64 ≤ a) → u.byte a = s.byte a) ∧
  (∀ (p d m off : Nat) (s : State), s.drwHead p d = some m → s.live p = true → s.catchup p d = false → s.unitStalled p (3 + d) = false →
    drwCmdOp m = 2 → drwCmdClean m = true → s.drwBanks p d = true → bytesOf m 23 16 % 8 = 0 → sharedAddr (bytesOf m 23 16) = .spad off → off + 64 ≤ 2 ^ 22 → s.spanOff p off 64 = none →
    s.drwWritable p d = true → d < 4 →
    (s.recLegal p d (s.load (spadAt p off) 24) = true → Completes (.writeNeuron p d .clean) s fun t => ∃ u : State,
      t = (u.complete p (3 + d) (bytesOf m 15 12) (msgUser m) 2 0 0).ans .none ∧ (u.cab p).drwIn = (s.cab p).drwIn.erase (d, m) ∧
      u.nrec p d (drwCmdNeuron m) = s.load (spadAt p off) 24 ∧
      u.load (drwAt p d (0x30000 + 32 * drwCmdNeuron m)) 32 = s.load (spadAt p (off + 24)) 32 ∧
      ∀ j, j < 8 → u.occ p d (drwCmdNeuron m) j = (s.load (spadAt p (off + 56)) 8).testBit j) ∧
    (s.recLegal p d (s.load (spadAt p off) 24) = false → Completes (.writeNeuron p d .clean) s fun t => ∃ u : State,
      t = (u.complete p (3 + d) (bytesOf m 15 12) (msgUser m) 2 1 0).ans .none ∧ u.mem = s.mem ∧
      Recorded s u (drw p d) 5 0x014 (drwCmdNeuron m))) ∧
  (∀ (p d m : Nat) (s : State), s.drwHead p d = some m → s.live p = true → s.catchup p d = false → s.unitStalled p (3 + d) = false →
    drwCmdOp m = 3 → drwCmdClean m = true → (s.xp p).held = false →
    let at_ := rebuild (bytesOf m 21 16) s.now
    (s.floorAllows p at_ = true → s.drwBanks p d = true → ∀ off, Completes (.charge p ⟨d, .uncorrectable off⟩) s fun t =>
      (t.cab p).drwIn = (s.cab p).drwIn.erase (d, m) ∧ (t.xp p).dlv = (s.xp p).dlv ∧ t.mem = s.mem ∧ t.net = s.net ∧
      t.fld (drw p d) 0x044 1 0 = 3 ∧ Recorded s t (drw p d) 2 0x031 (off / 8)) ∧
    (s.floorAllows p at_ = false → Completes (.charge p ⟨d, .clean⟩) s fun t => ∃ u : State,
      t = (u.complete p (3 + d) (bytesOf m 15 12) (msgUser m) 3 1 0).ans .none ∧ u.mem = s.mem ∧ Recorded s u (hzn p) 5 0x063 1 ∧
      u.flag (hzn p) 0x010 3 = true) ∧
    (s.floorAllows p at_ = true → s.drwBanks p d = true → Completes (.charge p ⟨d, .clean⟩) s fun t => ∃ u : State,
      t = (u.complete p (3 + d) (bytesOf m 15 12) (msgUser m) 3 0 0).ans .none ∧
      let v := s.drwTake p d m
      let e : Dlv := ⟨8192 * d + drwCmdNeuron m, at_, ofBits (bytesOf m 27 24) 32, at_ - s.rdN (hzn p) 0x050, false, 0, 0⟩
      (∀ x, v.land p e = some x → u = x) ∧ (v.land p e = none → (u.xp p).dlv = e :: (s.xp p).dlv ∧ (u.xp p).held = true ∧ u.mem = s.mem))) ∧
  (∀ (p d m : Nat) (s : State), s.drwHead p d = some m → s.live p = true → s.catchup p d = false → s.unitStalled p (3 + d) = false →
    (s.xp p).held = false → (drwCmdOp m = 0 ∨ 3 < drwCmdOp m) →
    ∀ c ∈ [Instr.readNeuron p d .clean, .writeNeuron p d .clean, .charge p ⟨d, .clean⟩], Completes c s fun t => ∃ u : State,
      t = (u.complete p (3 + d) (bytesOf m 15 12) (msgUser m) (drwCmdOp m) 1 0).ans .none ∧ u.mem = s.mem ∧
      Recorded s u (drw p d) 5 0x014 (drwCmdNeuron m))

/-- R163, R181, R182, Tables 6.12 and 6.14: the Drawer's window and its PAUSE: WIN_DATA reads and writes the store word at WIN_ADDR and AUTOINC advances
it; a write takes effect while the partition is stopped or the Drawer is paused (code 0x013 otherwise), and none reaches the shadow, the counters'
area and the post log (code 0x010); what an uncorrectable word reads as is a free value (log entry 4); PAUSE of a running partition's Drawer is
partition 0's to set. -/
def Obligations.DrawerWindowAndPause : Prop :=
  (∀ (r : Req) (p d : Nat) (w : Word) (ecc : WordEcc) (s : State), s.passes r (drw p d) 0x06C = true → d < 4 →
    let off := s.fld (drw p d) 0x068 18 2 * 4
    (off < 0x73800 → s.drwWritable p d = true → s.bankOn p (bankOf (d * 2 ^ 19 + off)) = true →
      ((∀ o, ecc ≠ .uncorrectable o) → Completes (.drwWinData r p d (some w) ecc) s fun t => t.load (drwAt p d off) 4 = w.toNat ∧
        (s.flag (drw p d) 0x068 31 = true → t.fld (drw p d) 0x068 18 2 = (off / 4 + 1) % 2 ^ 17) ∧
        (s.flag (drw p d) 0x068 31 = false → t.fld (drw p d) 0x068 18 2 = off / 4) ∧
        ∀ a, (a < drwAt p d off ∨ drwAt p d off + 4 ≤ a) → (0x30000 ≤ off ∨ a ≠ drwAt p d (0x73800 + off / 24 / 2)) → t.byte a = s.byte a) ∧
      ∀ o, ecc = .uncorrectable o → Completes (.drwWinData r p d (some w) ecc) s fun t => t.mem = s.mem ∧ t.fld (drw p d) 0x044 1 0 = 3 ∧
        Recorded s t (drw p d) 2 0x031 (o / 8)) ∧
    (off < 0x73800 → s.drwWritable p d = false → Completes (.drwWinData r p d (some w) ecc) s fun t => t.mem = s.mem ∧
      Recorded s t (drw p d) 5 0x013 (0x8000 + off / 128)) ∧
    (0x73800 ≤ off → Completes (.drwWinData r p d (some w) ecc) s fun t => t.mem = s.mem ∧
      Recorded s t (drw p d) 5 0x010 (0x8000 + off / 128))) ∧
  (∀ (r : Req) (p d : Nat) (s : State), s.reads r (drw p d) = true →
    let off := s.fld (drw p d) 0x068 18 2 * 4
    s.bankOn p (bankOf (d * 2 ^ 19 + off)) = true →
    (Completes (.drwWinData r p d none .clean) s fun t => t.resp = .data (s.load (drwAt p d off) 4) ∧ t.mem = s.mem) ∧
    (∀ o, Completes (.drwWinData r p d none (.uncorrectable o)) s fun t => t.resp = .data ((Config.free s.draws).toNat % 2 ^ 32) ∧ t.mem = s.mem ∧
      t.flag (spad p) 0x010 1 = true ∧ Recorded s t (spad p) 2 0x031 (bankOf (d * 2 ^ 19 + off)) ∧
      t.faultReports = s.faultReports ++ [⟨cctl p, 0x031, s.now, 0⟩])) ∧
  (∀ (r : Req) (p d : Nat) (w : Word) (s : State), s.passes r (drw p d) 0x040 = true →
    ((w.bit 0 = false ∨ s.partStopped (s.cabKey p) = true ∨ r.isPf = true) → Completes (.drawerPause r p d w) s fun t =>
      t.paused p d = w.bit 0 ∧ (s.fld (drw p d) 0x044 1 0 ≠ 3 → t.flag (drw p d) 0x00C 1 = w.bit 0 ∧
        t.fld (drw p d) 0x044 1 0 = if w.bit 0 then 2 else 0) ∧
      (s.fld (drw p d) 0x044 1 0 = 3 → t.fld (drw p d) 0x044 1 0 = 3)) ∧
    (w.bit 0 = true → s.partStopped (s.cabKey p) = false → r.isPf = false →
      Completes (.drawerPause r p d w) s fun t => t.paused p d = s.paused p d ∧ Recorded s t (drw p d) 5 0x013 0x040))

/-! ### The synapse expander and learning (08_synapses.md, 09_learning.md) -/

/-- R200, R217 to R222, R230, R233, R246, R250: what the expander does with an event. A reward or an event of a plastic row enters the plastic hold, a
reserved type is discarded with code 0x071, an axon without a row is counted, lines that the row cache lacks make the walk wait, and otherwise the
walk makes one delivery per entry, in synapse order. A line that comes back uncorrected is recorded and reported. A plastic event is walked, with
learning, and a reward processed, once safe time allows and no earlier event stands unheld; a bank of the projection tables that is off is recorded,
and no row is found; an event that pairs with a spike writes the pairing into an idle entry's tag. That a bank which is off gives an axon no row is
the model's choice (log entry 53). -/
def Obligations.ExpanderTakesAndWalksEvents : Prop :=
  (∀ (p : Nat) (mesh : Bool) (a : Arrival) (ev : Evt) (rest : List Evt) (s u : State), s.takesEvents p → (s.xp p).holdFull = false →
    (if mesh then s.inbox.find? (fun a => a.dest = p && a.flit.kind = 0) = some a ∧ ev = meshEvt a.flit.payload s.now ∧
        u = { s with inbox := s.inbox.erase a }
      else (s.xp p).inq = ev :: rest ∧ (∀ st, (s.xp p).step = some st → ev.pass = 0 ∨ st.barrier = true) ∧ u = s.setXp p { s.xp p with inq := rest }) →
    (ev.type = 2 → Completes (.expanderEvent p mesh .clean) s fun t => t.inbox = u.inbox ∧ (t.xp p).inq = (u.xp p).inq ∧
      (t.xp p).hold = (s.xp p).hold ++ [ev] ∧ (t.xp p).dlv = (s.xp p).dlv ∧ t.mem = s.mem) ∧
    (5 < ev.type → ev.type < 15 → Completes (.expanderEvent p mesh .clean) s fun t => t.inbox = u.inbox ∧ (t.xp p).inq = (u.xp p).inq ∧
      (t.xp p).hold = (s.xp p).hold ∧ (t.xp p).dlv = (s.xp p).dlv ∧ t.mem = s.mem ∧ Recorded s t (xpnd p) 3 0x071 ev.type ∧
      t.flag (xpnd p) 0x010 8 = true) ∧
    (ev.type < 6 → ev.type ≠ 2 → ∀ b, s.sharedBankOff p = some b → s.ctrFrozen (xpnd p) = false → Completes (.expanderEvent p mesh .clean) s fun t =>
      t.inbox = u.inbox ∧ (t.xp p).inq = (u.xp p).inq ∧ (t.xp p).dlv = (s.xp p).dlv ∧ Recorded s t (spad p) 5 0x0B0 b ∧
        t.rdN (xpnd p) 0x084 = min (s.rdN (xpnd p) 0x084 + 1) 4294967295 ∧ t.mem = s.mem) ∧
    (ev.type < 6 → ev.type ≠ 2 → s.sharedBankOff p = none →
      (s.dirLineOf p ev.axon ∉ (s.xp p).cache → Completes (.expanderEvent p mesh .clean) s fun t => t.inbox = u.inbox ∧
        (t.xp p).inq = (u.xp p).inq ∧ (t.xp p).waits = askMore ((s.xp p).waits ++ [⟨ev, false, 0, [], [], [s.dirLineOf p ev.axon]⟩]) (256 - (s.xp p).asked) ∧
        (t.xp p).dlv = (s.xp p).dlv ∧ t.mem = s.mem) ∧
      (s.dirLineOf p ev.axon ∈ (s.xp p).cache → dirValid (s.dirEntry p ev.axon) = false → s.ctrFrozen (xpnd p) = false →
        Completes (.expanderEvent p mesh .clean) s fun t => t.inbox = u.inbox ∧ (t.xp p).inq = (u.xp p).inq ∧ (t.xp p).dlv = (s.xp p).dlv ∧
          t.rdN (xpnd p) 0x084 = min (s.rdN (xpnd p) 0x084 + 1) 4294967295 ∧ t.flag (xpnd p) 0x010 0 = true ∧ t.mem = s.mem) ∧
      (s.dirLineOf p ev.axon ∈ (s.xp p).cache → s.evPlastic p ev = true → Completes (.expanderEvent p mesh .clean) s fun t =>
        t.inbox = u.inbox ∧ (t.xp p).inq = (u.xp p).inq ∧ (t.xp p).hold = (s.xp p).hold ++ [{ ev with g := 0, pass := 0 }] ∧
          (t.xp p).dlv = (s.xp p).dlv ∧ t.mem = s.mem) ∧
      (s.rowSound p ev → s.rowCached p ev → s.evPlastic p ev = false → Completes (.expanderEvent p mesh .clean) s fun t =>
        t.inbox = u.inbox ∧ (t.xp p).inq = (u.xp p).inq ∧ (t.xp p).hold = (s.xp p).hold ∧ (t.xp p).dlv = (s.xp p).dlv ++ s.rowDlv p ev ∧
          t.mem = s.mem))) ∧
  (∀ (p : Nat) (w : Wait) (ws : List Wait) (bad : List Nat) (post : StoreEcc) (s : State), (s.xp p).waits = w :: ws → s.live p = true → w.lines ≠ [] → w.more = [] →
    (∀ l ∈ w.lines, s.stackDenied (s.cabKey p) (l * 64) false = none) →
    (w.stage = 0 → w.plastic = true ∨ s.evPlastic p w.ev = false ∨ (s.xp p).holdFull = false) → s.unitStalled p 7 = false →
    s.sharedBankOff p = none →
    (w.stage = 0 → w.lines = [s.dirLineOf p w.ev.axon] → s.dirLineOf p w.ev.axon ∈ bad → Completes (.rowLineFill p ⟨bad, post⟩) s fun t =>
      (t.xp p).waits = askMore ws (256 - { s.xp p with waits := ws }.asked) ∧ (t.xp p).dlv = (s.xp p).dlv ∧ t.mem = s.mem ∧ Recorded s t (xpnd p) 2 0x032 w.ev.axon ∧
        t.faultReports = (s.fillLines p bad w.lines).2.2.faultReports ++ [⟨xpnd p, 0x032, s.now, 0⟩]) ∧
    (w.stage = 2 → w.plastic = false → w.bad = [] → bad = [] → (∀ l ∈ w.lines, s.lineLost (l * 64) = false) → s.rowSound p w.ev →
      dirPlastic (s.dirEntry p w.ev.axon) = false → Completes (.rowLineFill p ⟨bad, post⟩) s fun t => (t.xp p).waits = askMore ws (256 - { s.xp p with waits := ws }.asked) ∧
        (t.xp p).dlv = (s.xp p).dlv ++ s.rowDlv p w.ev ∧ t.mem = s.mem)) ∧
  (∀ (p d : Nat) (ev : Evt) (s : State), firstOf (s.xp p).hold = some ev → s.takesEvents p → ev.type ≠ 2 → s.r200 p ev.time = true →
    s.overtakes p ev = false → s.sharedBankOff p = none →
    ev.time / 16 * 16 ≤ s.gEnd p → (s.xp p).afterMarker ev.time = false → (s.xp p).waits.any (·.plastic) = false →
    (s.xp p).relocFor ev = none → s.rowSound p ev → s.rowCached p ev →
    Completes (.plasticEventWalk p ⟨.clean, ⟨d, .clean⟩⟩) s fun t => (t.xp p).hold = (s.xp p).hold.erase ev ∧ (t.xp p).dlv = (s.xp p).dlv ++ s.rowDlv p ev ∧
      (let line := dirRow (s.dirEntry p ev.axon)
       let h := s.rowHdr line
       ∀ e, s.rowEnts line = [e] → dirPlastic (s.dirEntry p ev.axon) = true → e.dcode ≠ 63 → s.drwBanks p (e.tgt / 8192 % 4) = true → h.cwlog = 0 → s.relocLine p ev.axon = none →
         (s.postRead p e.tgt ev.time).2.1 = true → ruleValid (s.rule p (s.postRead p e.tgt ev.time).1) = true →
         s.load (tagAt line h.nwords e.j) 2 < 2 ^ 15 → s.spanDenied (s.cabKey p) (tagAt line h.nwords e.j) 2 = none →
         s.mirrorAt (tagAt line h.nwords e.j) = none → s.offJournal (s.cabKey p) (s.cabLog p) 1 (line * 64) 16 = true → tagAt line h.nwords e.j + 2 ≤ 2 ^ 37 →
         let rl := s.rule p (s.postRead p e.tgt ev.time).1
         let x := s.pairing p rl ev.time (if ev.itv = 0xFFFF then none else some ((ev.time : Int) - lg16Value ev.itv)) (s.postRead p e.tgt ev.time).2.2
         x ≠ 0 → t.load (tagAt line h.nwords e.j) 2 =
           (2 ^ 15 + b2n (decide (x < 0)) * 2 ^ 14 + lg6 x.natAbs * 2 ^ 8 + ev.time / 2 ^ nb rl 84 80 % 256) % 2 ^ 16)) ∧
  (∀ (p : Nat) (ev : Evt) (s : State), firstOf (s.xp p).hold = some ev → s.live p = true → s.unitStalled p 7 = false → ev.type = 2 → s.r200 p ev.time = true →
    s.overtakes p ev = false → (s.xp p).afterMarker ev.time = false → (s.xp p).waits.any (·.plastic) = false →
    Completes (.rewardProcess p) s fun t => (t.xp p).hold = (s.xp p).hold.erase ev ∧ (t.xp p).dlv = (s.xp p).dlv ∧
      let h := (s.xp p).history ++ [⟨ev.time, ofBits ev.pay 8⟩]
      (t.xp p).history = h.drop (h.length - 16))

/-- R228, R231, R234, R235, R253 to R255, R302: the expander's tables change: an epoch switch is armed for a time above the safe time (code 0x075
otherwise) and takes place when safe time has passed it; a relocation copies a row's words and tags to the new place, is reported done, and is
installed in the directory at its time; a consolidation marker is taken or answered with STALE_EPOCH, and processed once its time has passed, the
earliest first, leaving each valid tag idle; and PREFETCH fetches an axon's lines, unless a bank of the projection tables is not ON (code 0x0B0).
Which lines a partition uses, and so the place of a grown row, and the layout of PREFETCH's completion are the model's readings (log entries 24, 27).
A row that cannot be read is not copied, which is the model's choice (log entry 27). -/
def Obligations.ExpanderTablesChange : Prop :=
  (∀ (r : Req) (p : Nat) (w : Word) (s : State), s.passes r (xpnd p) 0x044 = true →
    (w.bit 1 = false → Completes (.epochRequest r p w) s fun t => t.regs = s.regs ∧ t.cabs = s.cabs) ∧
    (w.bit 1 = true → s.safe p < s.rd64 (xpnd p) 0x048 → Completes (.epochRequest r p w) s fun t =>
      t.flag (xpnd p) 0x044 1 = true ∧ (t.xp p).epochAt = s.rd64 (xpnd p) 0x048 ∧ t.fld (xpnd p) 0x044 0 0 = s.fld (xpnd p) 0x044 0 0) ∧
    (w.bit 1 = true → s.rd64 (xpnd p) 0x048 ≤ s.safe p → Completes (.epochRequest r p w) s fun t =>
      t.rd (xpnd p) 0x044 = s.rd (xpnd p) 0x044 ∧ Recorded s t (xpnd p) 5 0x075 0)) ∧
  (∀ (p : Nat) (s : State), s.live p = true → s.flag (xpnd p) 0x044 1 = true → (s.xp p).epochAt < s.safe p →
    Completes (.epochSwitch p) s fun t => t.flag (xpnd p) 0x044 1 = false ∧ t.fld (xpnd p) 0x044 0 0 = 1 - s.fld (xpnd p) 0x044 0 0 ∧
      t.flag (xpnd p) 0x010 5 = true ∧ t.rdN (xpnd p) 0x068 = (t.xp p).pinned.length % 2 ^ 32 ∧ t.mem = s.mem) ∧
  (∀ (p axon l : Nat) (r : Reloc) (s : State), (s.xp p).relocs = [r] → r.axon = axon → r.copy = none →
    (∀ bad, (∃ i ∈ dirRowLines (s.dirEntry p axon), i ∈ bad) → Completes (.relocationCopy p axon bad) s fun t => t.mem = s.mem ∧ (t.xp p).relocs = [r]) ∧
    ((∀ i ∈ dirRowLines (s.dirEntry p axon), s.lineLost (i * 64) = false) →
    let old := dirRow (s.dirEntry p axon)
    let h := s.rowHdr old
    let n := grownEnts h
    let nw := h.nwords + (n - h.nent)
    (n ≠ h.nent → s.rowPlace p old (rowLines nw n true) = some l → Completes (.relocationCopy p axon []) s fun t =>
      (t.xp p).relocs = [{ r with copy := some (l, rowLines nw n true), grown := true }] ∧
      ((∀ i, s.mirrorAt (l * 64 + i) = none) → (old * 64 + 64 * rowLines h.nwords h.nent true ≤ l * 64 ∨ l * 64 + 64 * rowLines nw n true ≤ old * 64) →
        (∀ w, w < h.nwords → t.load (wordAt l w) 2 = s.load (wordAt old w) 2) ∧ (∀ w, h.nwords ≤ w → w < nw → t.load (wordAt l w) 2 = 63 * 64) ∧
        (∀ j, j < h.nent → t.load (tagAt l nw j) 2 = s.load (tagAt old h.nwords j) 2) ∧ ∀ a, a < l * 64 → t.byte a = s.byte a)) ∧
    ((n = h.nent ∨ s.rowPlace p old (rowLines nw n true) = none) → Completes (.relocationCopy p axon []) s fun t => t.mem = s.mem ∧
      (t.xp p).relocs = [{ r with copy := some (old, dirLen (s.dirEntry p axon)) }]))) ∧
  (∀ (p axon : Nat) (r : Reloc) (s : State), (s.xp p).relocs = [r] → r.axon = axon → r.copy ≠ none → r.done = false →
    Completes (.relocDone p axon) s fun t => (t.xp p).relocs = [{ r with done := true }] ∧ t.flag (xpnd p) 0x00C 4 = false ∧
      t.flag (xpnd p) 0x010 6 = true ∧ t.mem = s.mem) ∧
  (∀ (p axon : Nat) (r q : Reloc) (ev : Evt) (s : State), (s.xp p).relocs.find? (fun r => r.axon = axon && r.copy.isSome && !r.done) = some r →
    let y : Xp := { s.xp p with relocs := (s.xp p).relocs.map fun q => if q = r then { q with done := true } else q }
    firstOf (s.xp p).hold = some ev → y.relocFor ev = some q → q.done = false → s.flag (xpnd p) 0x00C 4 = true →
    Completes (.relocDone p axon) s fun t => (t.xp p).relocs = y.relocs ∧ t.flag (xpnd p) 0x00C 4 = true ∧ t.flag (xpnd p) 0x010 6 = true) ∧
  (∀ (p axon l n : Nat) (r : Reloc) (s : State), (s.xp p).relocs = [r] → r.axon = axon → r.done = true → r.copy = some (l, n) → r.grown = true →
    s.live p = true → s.r200 p r.ti = true → (∀ e ∈ (s.xp p).hold ++ s.unheld p, e.axon = axon → e.type = 2 ∨ r.ti ≤ e.time) →
    (∀ w ∈ (s.xp p).waits, w.ev.axon ≠ axon) →
    Completes (.relocationInstall p axon) s fun t => (t.xp p).relocs = [] ∧
      ((dirRowLines (s.dirEntry p axon)).any (s.xp p).pinned.contains = false → ∀ c ∈ (t.xp p).cache, c ∉ dirRowLines (s.dirEntry p axon)) ∧
      ((dirRowLines (s.dirEntry p axon)).any (s.xp p).pinned.contains = true → t.rdN (xpnd p) 0x068 = (t.xp p).pinned.length % 2 ^ 32) ∧
      (s.spanDenied (s.cabKey p) (s.dirLineOf p axon * 64 + 8 * (axon % 8)) 8 = none →
        s.mirrorAt (s.dirLineOf p axon * 64 + 8 * (axon % 8)) = none → 8 ≤ 2 ^ 30 - (s.dirLineOf p axon * 64 + 8 * (axon % 8)) % 2 ^ 30 →
        t.load (s.dirLineOf p axon * 64 + 8 * (axon % 8)) 8 =
          s.dirEntry p axon - s.dirEntry p axon % 2 ^ 43 + l % 2 ^ 31 + n % 4096 * 2 ^ 31)) ∧
  (∀ (p : Nat) (a : Arrival) (s : State),
    s.inbox.find? (fun a => a.dest = p && a.flit.kind = 5 && nb a.flit.payload 127 120 = 0x20) = some a →
    let tc := rebuild (nb a.flit.payload 119 72) s.now
    (tc ≤ s.safe p → Completes (.consolidationMarker p) s fun t => t.inbox = s.inbox.erase a ∧ (t.xp p).marker = (s.xp p).marker ∧
      ∀ m ∈ t.mbox, m.phase = 5 → m.w.bits 7 0 = 0x0A → m ∈ s.mbox ∨ m.status = .staleEpoch) ∧
    (s.safe p < tc → Completes (.consolidationMarker p) s fun t => t.inbox = s.inbox.erase a ∧ (t.xp p).marker = (s.xp p).marker ++ [tc])) ∧
  (∀ (p tc d : Nat) (s : State), (s.xp p).marker.min? = some tc → s.live p = true → s.unitStalled p 7 = false → s.r200 p tc = true → (∀ e ∈ (s.xp p).hold ++ s.unheld p, tc < e.time) →
    (s.xp p).waits = [] →
    Completes (.markerProcess ⟨p, ⟨d, .clean⟩⟩) s fun t => (t.xp p).marker = (s.xp p).marker.erase tc ∧ (t.xp p).stats[10]?.getD 0 = min ((s.xp p).stats[10]?.getD 0 + 1) (2 ^ 32 - 1) ∧
      (∀ a e, s.plasticAxons p = [a] → s.rowEnts (dirRow (s.dirEntry p a)) = [e] → e.dcode ≠ 63 → e.tgt < 32768 → s.drwBanks p (e.tgt / 8192 % 4) = true →
        (s.xp p).history = [] →
        s.relocLine p a = none → (s.postRead p e.tgt tc).2.1 = true → ruleValid (s.rule p (s.postRead p e.tgt tc).1) = true →
        let h := s.rowHdr (dirRow (s.dirEntry p a))
        let at' := tagAt (dirRow (s.dirEntry p a)) h.nwords e.j
        2 ^ 15 ≤ s.load at' 2 → s.spanDenied (s.cabKey p) at' 2 = none → (∀ i, s.mirrorAt i = none) →
        (at' + 2 ≤ s.learnAt p + 1024 ∨ s.learnAt p + 1068 ≤ at') →
        t.load at' 2 = if e.code = cbZero (s.codebook p (h.cbbase + rowGroup h e.j)) then
          2 ^ 14 + tc / 2 ^ nb (s.rule p (s.postRead p e.tgt tc).1) 92 88 % 2 ^ 14 else 0)) ∧
  (∀ (p m : Nat) (s : State), (s.cab p).xIn = some m → s.live p = true → s.unitStalled p 7 = false → byteOf m 8 = 1 → byteOf m 9 = 0 → nb (bytesOf m 15 12) 30 20 = 0 →
    bytesOf m 31 16 = 0 →
    Completes (.prefetch p) s fun t => ∃ u : State, t = (u.complete p 7 (bytesOf m 15 12) (msgUser m) 1 0 0).ans .none ∧ (u.cab p).xIn = none ∧
      (s.sharedBankOff p = none → (u.xp p).cache = (s.pinLines p (bytesOf m 11 10)).foldl (cacheTouch (s.xp p).pinned) (s.xp p).cache) ∧
      (∀ b, s.sharedBankOff p = some b → (u.xp p).cache = (s.xp p).cache ∧ Recorded s u (spad p) 5 0x0B0 b) ∧ u.mem = s.mem)

/-! ### Trestles (10_trestles.md) -/

/-- R260, R261, R268, R271: the loads of a Trestle, and REDUCE_OUT in COPY mode: the first descriptor of the kind that may start moves its bytes between
the general shared area and the Trestle's memories, changing no other byte; LOAD_ACT of BF16 or FP32 rows stores the quantised rows and their scales. -/
def Obligations.TrestleLoadsAndCopies : Prop :=
  (∀ (p tr off : Nat) (x : TDesc) (s : State), s.trsRuns p tr → sharedAddr (bytesOf x.raw 23 16) = .spad off →
    let w := s.win p tr
    let d := x.raw
    (dPick w (fun d => dOp d = 1) [] w = some x → s.spanOff p off (64 * dF d 24 13 0) = none → Completes (.loadW p tr .clean) s fun t =>
      s.trsCopied t p tr x (spadAt p off) (trsAt p tr (64 * dF d 10 12 0)) (64 * dF d 24 13 0)) ∧
    (dPick w (fun d => dOp d = 2) [] w = some x → s.spanOff p off (16 * dF d 24 8 0) = none → Completes (.loadCb p tr .clean) s fun t =>
      s.trsCopied t p tr x (spadAt p off) (trsAt p tr (0x80000 + 16 * dF d 10 7 0)) (16 * dF d 24 8 0)) ∧
    (dPick w (fun d => dOp d = 3) [] w = some x → dF d 9 2 0 = 0 → s.spanOff p off (8 * dF d 24 12 0) = none →
      Completes (.loadRescale p tr .clean) s fun t =>
        s.trsCopied t p tr x (spadAt p off) (trsAt p tr (0x81000 + 8 * dF d 10 11 0)) (8 * dF d 24 12 0)) ∧
    (dPick w (fun d => dOp d = 3) [] w = some x → dF d 9 2 0 ≠ 0 → s.spanOff p off 256 = none → Completes (.loadRescale p tr .clean) s fun t =>
      s.trsCopied t p tr x (spadAt p off) (trsAt p tr (0x89000 + 256 * (dF d 9 2 0 - 1))) 256) ∧
    (dPick w (fun d => dOp d = 4) [] w = some x →
      (∀ n, (dF d 9 2 0 = 0 ∧ n = 64 * blocks (actK d * actM d) + 4 * actM d ∨ dF d 9 2 0 = 3 ∧ n = actK d * actM d ∨
          dF d 9 2 0 = 4 ∧ n = 2 * actK d * actM d) → s.spanOff p off n = none →
        Completes (.loadAct p tr .clean) s fun t => s.trsCopied t p tr x (spadAt p off) (trsAt p tr (64 * dF d 10 12 0)) n) ∧
      (∀ size f, (dF d 9 2 0 = 1 ∧ size = 2 ∧ f = bf16 ∨ dF d 9 2 0 = 2 ∧ size = 4 ∧ f = fp32) → s.spanOff p off (size * actK d * actM d) = none →
        64 * dF d 10 12 0 + 64 * blocks (actK d * actM d) + 4 * actM d ≤ 2 ^ 19 →
        Completes (.loadAct p tr .clean) s fun t => t.win p tr = w.replace x { x with state := 2 } ∧ ∀ i, i < actM d →
          let row := splitRow (s.load (spadAt p off) (size * actK d * actM d) / 256 ^ (size * actK d * i)) size (actK d)
          let q := rowQuant (row.map fun b => (in149 f b).getD 0)
          t.load (trsAt p tr (64 * dF d 10 12 0 + 64 * blocks (actK d * actM d) + 4 * i)) 4 = q.2.1 % 256 + toBits q.2.2 9 * 256 ∧
            ∀ j, j < actK d → t.load (trsAt p tr (64 * dF d 10 12 0 + i * actK d + j)) 1 = toBits (q.1.getD j 0) 8)) ∧
    (dPick w (fun d => dOp d = 6 && dF d 9 2 0 = 0) [] w = some x → s.spanOff p off (64 * dF d 24 13 0) = none →
      Completes (.reduceOutCopy p tr .clean) s fun t =>
        s.trsCopied t p tr x (trsAt p tr (64 * dF d 10 12 0)) (spadAt p off) (64 * dF d 24 13 0)))

/-- R262 to R267, R273 to R275: what a Trestle computes: RUN stores each output of its block (for one tile of INT8 operands and RAW output the sum of
their products), or stops the Trestle with code 0x090 when the checksum differs; REDUCE_OUT in a reduce mode registers its instances and sends one
RED_UP per value; a result of a registered instance is written, zero with code 0x092 if INCOMPLETE, and stops the Trestle with code 0x0B0 where a bank
of its store is not ON; an orphan is counted; each RED_DOWN is journalled first for a protected partition (R431; the ring's slots are the model's
choice, log entry 49); EMIT_EVENTS forms an event for each value at or above THR. -/
def Obligations.TrestleComputesAndReduces : Prop :=
  (∀ (p tr : Nat) (x : TDesc) (s : State), s.trsRuns p tr → dPick (s.win p tr) (fun d => dOp d = 5) [] (s.win p tr) = some x →
    let d := x.raw
    let out (i n : Nat) : Nat := trsAt p tr (64 * dF d 10 12 0 + i * runStride d (runSize d) + n * runSize d)
    (16 * runSize d ≤ runStride d (runSize d) → 64 * dF d 10 12 0 + (dM d - 1) * runStride d (runSize d) + 16 * runSize d ≤ 2 ^ 19 →
      Completes (.run p tr .clean none) s fun t => t.win p tr = (s.win p tr).replace x { x with state := 2 } ∧
        ∀ i n, i < dM d → n < 16 → t.load (out i n) (runSize d) = (s.runOne p tr d i n).1 % 256 ^ runSize d ∧
          (runMode d = 0 → runFmt d = 0 → dF d 9 4 4 = 0 → dF d 9 3 3 = 0 → runK d = 16 → t.load (out i n) 4 =
            toBits ((List.range 16).foldl (fun (a : Int) j => a + ofBits (s.tld p tr (64 * dF d 16 12 0 + i * 16 + j) 1) 8 *
              ofBits (s.tld p tr (64 * dF d 18 12 0 + 16 * j + n) 1) 8) 0) 32)) ∧
    (∀ row, dF d 9 3 3 = 1 → Completes (.run p tr .clean (some row)) s fun t => t.mem = s.mem ∧ Recorded s t (trs p tr) 2 0x090 row ∧
      t.win p tr = (s.win p tr).replace x { x with state := 3 } ∧ t.fld (trs p tr) 0x044 1 0 = 3 ∧
      t.faultReports = s.faultReports ++ [⟨cctl p, 0x090, s.now, 0⟩])) ∧
  (∀ (p tr : Nat) (x : TDesc) (s : State), s.trsRuns p tr →
    dPick (s.win p tr) (fun d => dOp d = 6 && dF d 9 2 0 ≠ 0) [] (s.win p tr) = some x →
    let d := x.raw
    let n := 16 * (dF d 18 9 0 + 1)
    let val (e : Nat) : Int := (redOperand d (s.tld p tr (64 * dF d 10 12 0 + 4 * e) 4)).1
    Completes (.reduceOutReduce p tr .clean) s fun t =>
      (dF d 9 5 5 = 1 → t.win p tr = (s.win p tr).replace x { x with state := 1, left := (List.range n).map fun e => (dF d 22 15 0 + e) % 65536 }) ∧
      (dF d 9 5 5 = 0 → t.win p tr = (s.win p tr).replace x { x with state := 2, left := [] }) ∧ (dF d 9 4 4 = 0 → t.net = s.net) ∧
      (dF d 9 4 4 = 1 → (s.cab p).replay = false →
        (∀ e, e < n → s.offJournal (s.cabKey p) (s.cabLog p) n (trsAt p tr (64 * dF d 10 12 0 + 4 * e)) 4 = true) → ∃ hs : List Hop, t.net = s.net ++ hs ∧ hs.length = n ∧
        hs.map (·.flit) = (List.range n).map fun e => .ev ⟨0, p, 2, s.cabKey p, 0, 3, dF d 20 5 0,
          redPayload (if 3 ≤ dF d 9 2 0 then (val e).toNat else toBits (val e) 74) (dF d 9 2 0 - 1) 1 (dF d 24 9 0)
            ((dF d 22 15 0 + e) % 65536) false false⟩)) ∧
  (∀ (p : Nat) (a : Arrival) (s : State), s.inbox.find? (fun a => a.dest = p && a.flit.kind = 4 && a.flit.tag ≠ 63) = some a → s.live p = true →
    s.journalFull (s.cabKey p) (s.cabLog p) = false →
    let pl := a.flit.payload
    let inst := nb pl 31 16
    let k := s.cabKey p
    let lc := s.cabLog p
    let es := [pl / 2 ^ 14 * 2 ^ 14 + 3]
    (∀ x y, s.redOwner p 0 a.flit.tag inst = some x → s.redOwner p 1 a.flit.tag inst = some y → s.trsBanks p 0 = none → s.trsBanks p 1 = none →
      Completes (.redDownProgramResult p) s fun t => t.inbox = s.inbox.erase a ∧
        t.win p 0 = (s.win p 0).replace x { x with left := x.left.erase inst, status := if pl.testBit 15 then 2 else x.status,
                                                   state := if (x.left.erase inst).isEmpty then 2 else 1 } ∧
        t.win p 1 = (s.win p 1).replace y { y with left := y.left.erase inst, status := if pl.testBit 15 then 2 else y.status,
                                                   state := if (y.left.erase inst).isEmpty then 2 else 1 }) ∧
    (∀ tr x b, tr < 2 → s.redOwner p tr a.flit.tag inst = some x → s.redOwner p (1 - tr) a.flit.tag inst = none → s.trsBanks p tr = some b →
      Completes (.redDownProgramResult p) s fun t => t.inbox = s.inbox.erase a ∧ t.mem = (s.journalled k lc es).mem ∧ t.fld (trs p tr) 0x044 1 0 = 3 ∧
        Recorded s t (spad p) 5 0x0B0 b) ∧
    (∀ tr x, tr < 2 → s.redOwner p tr a.flit.tag inst = some x → s.redOwner p (1 - tr) a.flit.tag inst = none → s.trsBanks p tr = none →
      Completes (.redDownProgramResult p) s fun t => t.inbox = s.inbox.erase a ∧
        t.load (trsAt p tr (64 * dF x.raw 16 12 0 + 4 * ((inst + 65536 - dF x.raw 22 15 0) % 65536))) 4 =
          (redResultBits x.raw (nb pl 127 64) (pl.testBit 15) (pl.testBit 14)).1 % 2 ^ 32 ∧
        t.win p tr = (s.win p tr).replace x { x with left := x.left.erase inst, status := if pl.testBit 15 then 2 else x.status,
                                                     state := if (x.left.erase inst).isEmpty then 2 else 1 } ∧
        (pl.testBit 15 = true → Recorded s t (trs p tr) 4 0x092 (dF x.raw 20 5 0) ∧ t.flag (trs p tr) 0x010 6 = true)) ∧
    (s.redOwner p 0 a.flit.tag inst = none → s.redOwner p 1 a.flit.tag inst = none → s.flag (qmgr p) 0x088 31 = false →
      s.ctrFrozen (qmgr p) = false →
      Completes (.redDownProgramResult p) s fun t => t.inbox = s.inbox.erase a ∧ t.flag (qmgr p) 0x010 5 = true ∧ t.mem = (s.journalled k lc es).mem ∧
        ((s.cfg k).prot = true → (t.journal k lc).entries = (s.journal k lc).entries ++ es) ∧
        t.rdN (qmgr p) 0x0A0 = min (s.rdN (qmgr p) 0x0A0 + 1) 4294967295)) ∧
  (∀ (p tr : Nat) (x : TDesc) (s : State), s.trsRuns p tr → dPick (s.win p tr) (fun d => dOp d = 7) [] (s.win p tr) = some x →
    s.unitStalled p 7 = false → s.flag (xpnd p) 0x044 1 = false →
    let d := x.raw
    let g := (s.pgroup p (s.fld (xpnd p) 0x044 0 0) (dF d 22 11 0)).1
    let w := (s.pdest p (s.fld (xpnd p) 0x044 0 0) (nb g 46 35)).1
    let evs := (List.range (dM d)).flatMap fun i => (List.range (dF d 26 12 0)).filterMap fun c =>
      let v := s.tld p tr (64 * dF d 10 12 0 + i * dF d 26 12 0 + c) 1
      if dF d 9 7 0 ≤ v then some (rebuild (bytesOf d 21 16) s.now + i * dF d 30 15 0, dF d 28 14 0 + c, v) else none
    (∀ e ∈ evs, (s.xp p).epochPast ≤ e.1) → Completes (.emitEvents p tr .clean) s fun t => t.win p tr = (s.win p tr).replace x { x with state := 2 } ∧
      (nb g 14 0 ≤ dF d 28 14 0 → dF d 28 14 0 + dF d 26 12 0 ≤ nb g 29 15 + 1 → nb g 34 30 = 1 → nb w 63 62 = 0 →
        nb w 61 42 % 256 = s.cabLog p → (t.xp p).inq = (s.xp p).inq ++ evs.map fun e =>
          ⟨e.1, (nb w 41 26 + (e.2.1 - nb g 14 0)) % 65536, s.cabLog p * 2 ^ 15 + e.2.1, e.2.2, 0xFFFF, 5, false, 0, 0⟩))

/-- R163, R193, R269 to R272, R278, R280: the descriptor window of a Trestle: a descriptor enters a window that has room, or is refused with its code
(0x014 encoding, 0x015 range, 0x016 group, 0x063 below the core floor); a FENCE at the head and a descriptor that has done its work complete and leave
it; PAUSE of a running partition's Trestle is partition 0's to set; and WIN_DATA reads and writes the word at WIN_ADDR. -/
def Obligations.TrestleWindow : Prop :=
  (∀ (p tr : Nat) (e : Nat × Nat) (s : State), (s.cab p).trsIn.find? (fun e => e.1 = tr) = some e → s.live p = true → s.unitStalled p (1 + tr) = false →
    (s.win p tr).length < 16 → s.ctrFrozen (trs p tr) = false →
    let d := e.2
    (dBadEnc d = true → Completes (.descriptorEntry p tr) s fun t => t.win p tr = s.win p tr ∧ (t.cab p).trsIn = (s.cab p).trsIn.erase e ∧
      Recorded s t (trs p tr) 5 0x014 (s.rdN (trs p tr) 0x048 % 65536) ∧ t.flag (trs p tr) 0x010 0 = true ∧ t.mem = s.mem) ∧
    (dBadEnc d = false → dBadRange d = true → Completes (.descriptorEntry p tr) s fun t => t.win p tr = s.win p tr ∧
      (t.cab p).trsIn = (s.cab p).trsIn.erase e ∧ Recorded s t (trs p tr) 5 0x015 (s.rdN (trs p tr) 0x048 % 65536) ∧
      t.flag (trs p tr) 0x010 0 = true ∧ t.mem = s.mem) ∧
    (dBadEnc d = false → dBadRange d = false → s.dBadGroup p d = true → Completes (.descriptorEntry p tr) s fun t => t.win p tr = s.win p tr ∧
      (t.cab p).trsIn = (s.cab p).trsIn.erase e ∧ Recorded s t (trs p tr) 5 0x016 (dF d 22 11 0) ∧ t.mem = s.mem) ∧
    (dBadEnc d = false → dBadRange d = false → s.dBadGroup p d = false → dOp d = 7 →
      s.floorAllows p (rebuild (bytesOf d 21 16) s.now) = false → Completes (.descriptorEntry p tr) s fun t => t.win p tr = s.win p tr ∧
      (t.cab p).trsIn = (s.cab p).trsIn.erase e ∧ Recorded s t (hzn p) 5 0x063 2 ∧ t.flag (hzn p) 0x010 3 = true ∧ t.mem = s.mem) ∧
    (dBadEnc d = false → dBadRange d = false → s.dBadGroup p d = false → (dOp d = 7 → s.floorAllows p (rebuild (bytesOf d 21 16) s.now) = true) →
      Completes (.descriptorEntry p tr) s fun t => t.win p tr = s.win p tr ++ [⟨d, 0, 0, []⟩] ∧ (t.cab p).trsIn = (s.cab p).trsIn.erase e ∧
        t.rdN (trs p tr) 0x048 = min (s.rdN (trs p tr) 0x048 + 1) 4294967295 ∧ t.mem = s.mem)) ∧
  (∀ (p tr : Nat) (x : TDesc) (xs : List TDesc) (s : State), s.win p tr = x :: xs → s.live p = true → s.trsPaused p tr = false → s.unitStalled p (1 + tr) = false →
    dOp x.raw = 8 → s.ctrFrozen (trs p tr) = false →
    Completes (.fence p tr) s fun t => t.win p tr = xs ∧ t.rdN (trs p tr) 0x04C = min (s.rdN (trs p tr) 0x04C + 1) 4294967295 ∧
      (xs = [] → t.flag (trs p tr) 0x010 9 = true) ∧ t.mem = s.mem) ∧
  (∀ (p tr : Nat) (x : TDesc) (s : State), (s.win p tr).find? (fun x => x.state = 2) = some x → s.live p = true → s.unitStalled p (1 + tr) = false →
    (dOp x.raw = 7 → ∀ e ∈ s.outside p, e.type ≠ 5) → s.ctrFrozen (trs p tr) = false → (s.cab p).floorHeld = [] →
    Completes (.descriptorComplete p tr) s fun t => t.win p tr = (s.win p tr).erase x ∧
      t.rdN (trs p tr) 0x04C = min (s.rdN (trs p tr) 0x04C + 1) 4294967295 ∧
      ((s.win p tr).erase x = [] → t.flag (trs p tr) 0x010 9 = true) ∧ t.mem = s.mem ∧
      ((s.win p tr).erase x ≠ [] → ∃ u : State, t = (u.complete p (1 + tr) (bytesOf x.raw 15 12) (msgUser x.raw) (dOp x.raw) x.status
        (u.rdN (trs p tr) 0x04C)).ans .none ∧ u.win p tr = (s.win p tr).erase x)) ∧
  (∀ (r : Req) (p tr : Nat) (w : Word) (s : State), s.passes r (trs p tr) 0x040 = true →
    ((w.bit 0 = false ∨ s.partStopped (s.cabKey p) = true ∨ r.isPf = true) → Completes (.trestlePause r p tr w) s fun t =>
      t.trsPaused p tr = w.bit 0 ∧ (s.fld (trs p tr) 0x044 1 0 ≠ 3 → t.flag (trs p tr) 0x00C 1 = w.bit 0 ∧
        t.fld (trs p tr) 0x044 1 0 = if w.bit 0 then 2 else 0)) ∧
    (w.bit 0 = true → s.partStopped (s.cabKey p) = false → r.isPf = false →
      Completes (.trestlePause r p tr w) s fun t => t.trsPaused p tr = s.trsPaused p tr ∧ Recorded s t (trs p tr) 5 0x013 0x040)) ∧
  (∀ (r : Req) (p tr : Nat) (w : Word) (ecc : WordEcc) (s : State), s.passes r (trs p tr) 0x07C = true →
    let off := 4 * s.fld (trs p tr) 0x078 19 2
    let free := s.partStopped (s.cabKey p) = true ∨ s.trsPaused p tr = true ∧ s.win p tr = []
    (off < 0x89400 → free → (off < 0x80000 → s.bankOn p (bankOf (2 ^ 21 + tr * 2 ^ 19 + off)) = true) →
      Completes (.trsWinData r p tr (some w) ecc) s fun t => t.load (trsAt p tr off) 4 = w.toNat ∧
        (∀ a, (a < trsAt p tr off ∨ trsAt p tr off + 4 ≤ a) → t.byte a = s.byte a) ∧
        t.fld (trs p tr) 0x078 19 2 = (s.fld (trs p tr) 0x078 19 2 + (if s.flag (trs p tr) 0x078 31 then 1 else 0)) % 2 ^ 18) ∧
    (0x89400 ≤ off → Completes (.trsWinData r p tr (some w) ecc) s fun t => t.mem = s.mem ∧ Recorded s t (trs p tr) 5 0x010 0x07C) ∧
    (off < 0x89400 → ¬free → Completes (.trsWinData r p tr (some w) ecc) s fun t => t.mem = s.mem ∧
      Recorded s t (trs p tr) 5 0x013 (0x8000 + off / 128))) ∧
  (∀ (r : Req) (p tr : Nat) (s : State), s.reads r (trs p tr) = true →
    let off := 4 * s.fld (trs p tr) 0x078 19 2
    off < 0x89400 → (off < 0x80000 → s.bankOn p (bankOf (2 ^ 21 + tr * 2 ^ 19 + off)) = true) →
    Completes (.trsWinData r p tr none .clean) s fun t => t.resp = .data (s.load (trsAt p tr off) 4) ∧ t.mem = s.mem)

/-! ### Control cores, queues and scratchpad (11_cabinet_control.md) -/

/-- R288 to R292: one instruction of a control core: an instruction that computes writes its result, jumps and branches go where RISC-V says, a load and a
store of the general shared area move their bytes, a CSR instruction reads and writes its CSR, MRET returns, an illegal instruction or EBREAK traps
(and locks the core up inside a trap, code 0x0A1), a parity error locks it up with code 0x0A2, and the machine external interrupt is taken when
enabled. Encodings, standard CSRs and trap causes are those of RISC-V (log entry 51). -/
def Obligations.ControlCoreExecutes : Prop :=
  (∀ (p len : Nat) (op : CoreOp) (s : State), s.coreAt p op len →
    let c := s.core p
    let next := c.pc + BitVec.ofNat 32 len
    let runs := Instr.coreInstruction p .clean .clean none
    (∀ rd v, coreResult c op = some (rd, v) → Completes runs s fun t =>
      RegSet c (t.core p) rd v ∧ (t.core p).pc = next ∧ t.mem = s.mem ∧ t.net = s.net) ∧
    (∀ rd off, op = .jal rd off → Completes runs s fun t => RegSet c (t.core p) rd next ∧ (t.core p).pc = c.pc + off ∧ t.mem = s.mem) ∧
    (∀ rd r1 off, op = .jalr rd r1 off → Completes runs s fun t =>
      RegSet c (t.core p) rd next ∧ (t.core p).pc = (c.reg r1 + off) &&& 0xFFFFFFFE ∧ t.mem = s.mem) ∧
    (∀ f r1 r2 off, op = .branch f r1 r2 off → Completes runs s fun t => RegSet c (t.core p) 0 0 ∧ t.mem = s.mem ∧
      (t.core p).pc = if branchTaken f (c.reg r1) (c.reg r2) then c.pc + off else next) ∧
    (∀ f rd r1 off, op = .load f rd r1 off → inShared (c.reg r1 + off).toNat (accessBytes f) = true →
      s.spanBad p (c.reg r1 + off).toNat (accessBytes f) = none → Completes runs s fun t =>
        RegSet c (t.core p) rd (loadValue f (s.load (spadAt p (c.reg r1 + off).toNat) (accessBytes f))) ∧ (t.core p).pc = next ∧ t.mem = s.mem) ∧
    (∀ f r1 r2 off, op = .store f r1 r2 off → inShared (c.reg r1 + off).toNat (accessBytes f) = true →
      s.spanBad p (c.reg r1 + off).toNat (accessBytes f) = none →
      (s.partStopped (s.cabKey p) = true ∨ ∀ i, i < accessBytes f → s.inActiveCopy p ((c.reg r1 + off).toNat + i) = false) →
      Completes runs s fun t => RegSet c (t.core p) 0 0 ∧ (t.core p).pc = next ∧
        t.load (spadAt p (c.reg r1 + off).toNat) (accessBytes f) = (c.reg r2).toNat % 256 ^ accessBytes f ∧
        s.sameBut t (spadAt p (c.reg r1 + off).toNat) (accessBytes f)) ∧
    (op = .fence → Completes runs s fun t => RegSet c (t.core p) 0 0 ∧ (t.core p).pc = next ∧ t.mem = s.mem) ∧
    (∀ f rd src n, op = .csr f rd src n → csrKnown n = true → (n / 1024 % 4 ≠ 3 ∨ f % 4 ≠ 1 ∧ src = 0) →
      let x : Word := if 4 ≤ f then BitVec.ofNat 32 src else c.reg src
      Completes runs s fun t => (t.core p).pc = next ∧ t.mem = s.mem ∧ (f % 4 ≠ 1 ∨ rd ≠ 0 → RegSet c (t.core p) rd (s.csrRead p n).1) ∧
        (f % 4 = 1 → (t.core p).getCsr n = (c.getCsr n &&& ~~~csrMask n) ||| (x &&& csrMask n)) ∧
        (f % 4 = 2 → src ≠ 0 → (t.core p).getCsr n = (c.getCsr n &&& ~~~csrMask n) ||| (((s.csrRead p n).1 ||| x) &&& csrMask n)) ∧
        (f % 4 = 3 → src ≠ 0 → (t.core p).getCsr n = (c.getCsr n &&& ~~~csrMask n) ||| (((s.csrRead p n).1 &&& ~~~x) &&& csrMask n))) ∧
    (op = .mret → Completes runs s fun t => RegSet c (t.core p) 0 0 ∧ (t.core p).pc = c.getCsr 0x341 ∧ (t.core p).inTrap = false ∧
      (t.core p).getCsr 0x300 = (if (c.getCsr 0x300).bit 7 then 0x88 else 0x80)) ∧
    (∀ cause : Nat, (op = .illegal ∧ cause = 2 ∨ op = .ebreak ∧ cause = 3 ∨
        cause = 2 ∧ ∃ f rd src n, op = .csr f rd src n ∧ (csrKnown n = false ∨ n / 1024 % 4 = 3 ∧ (f % 4 = 1 ∨ src ≠ 0))) →
      (c.inTrap = false → Completes runs s fun t => RegSet c (t.core p) 0 0 ∧ (t.core p).pc = c.getCsr 0x305 &&& 0xFFFFFFFC ∧
        (t.core p).inTrap = true ∧ (t.core p).getCsr 0x341 = c.pc ∧ (t.core p).getCsr 0x342 = BitVec.ofNat 32 cause ∧
        (t.core p).getCsr 0x300 = (if (c.getCsr 0x300).bit 3 then 0x80 else 0) ∧ t.rd (cctl p) 0x064 = BitVec.ofNat 32 cause ∧ t.mem = s.mem) ∧
      (c.inTrap = true → Completes runs s fun t => t.coreState p = 3 ∧ t.core p = c ∧ Recorded s t (cctl p) 4 0x0A1 cause ∧
        t.flag (cctl p) 0x010 1 = true ∧ t.faultReports = s.faultReports ++ [⟨cctl p, 0x0A1, s.now, 0⟩]))) ∧
  (∀ (p r : Nat) (fetch data : EccRead) (s : State), s.coreRuns p = true → Completes (.coreInstruction p fetch data (some r)) s fun t =>
    t.coreState p = 3 ∧ t.core p = s.core p ∧ Recorded s t (cctl p) 2 0x0A2 r ∧ t.faultReports = s.faultReports ++ [⟨cctl p, 0x0A2, s.now, 0⟩]) ∧
  (∀ (p : Nat) (s : State), s.coreRuns p = true → s.meip p = true → ((s.core p).getCsr 0x300).bit 3 = true →
    ((s.core p).getCsr 0x304).bit 11 = true →
    Completes (.coreInterrupt p) s fun t => RegSet (s.core p) (t.core p) 0 0 ∧ (t.core p).pc = (s.core p).getCsr 0x305 &&& 0xFFFFFFFC ∧
      (t.core p).inTrap = true ∧ (t.core p).getCsr 0x341 = (s.core p).pc ∧ (t.core p).getCsr 0x342 = 0x8000000B ∧
      (t.core p).getCsr 0x300 = 0x80 ∧ t.rd (cctl p) 0x064 = 0x8000000B ∧ t.mem = s.mem)

/-- R285, R292, R311, R312: CORE_CTRL.RUN from 0 to 1 starts a core at RESET_PC and RUN = 0 resets it, by partition 0 at any time and by the owner while
the partition is stopped (code 0x013 otherwise); HOST_SIGNAL raises CORE_SIGNAL; BANK_PWR requests bank modes under the same rule, but never for the
core itself, and a bank that has gone OFF reads as zero, rests no record and keeps no long-delay entry. -/
def Obligations.CoreAndBanksAreControlled : Prop :=
  (∀ (r : Req) (p : Nat) (w : Word) (s : State), s.passes r (cctl p) 0x040 = true →
    ((r.isPf = true ∨ s.partStopped (s.owner (cctl p)) = true) →
      (w.bit 0 = false → Completes (.coreRunWrite r p w) s fun t => t.coreState p = 0 ∧ t.flag (cctl p) 0x040 0 = false ∧ t.core p = Core.reset ∧
        t.flag (cctl p) 0x040 1 = w.bit 1) ∧
      (w.bit 0 = true → s.flag (cctl p) 0x040 0 = false → Completes (.coreRunWrite r p w) s fun t => t.coreState p = 1 ∧
        t.flag (cctl p) 0x040 0 = true ∧ t.core p = { Core.reset with pc := BitVec.ofNat 32 (s.fld (cctl p) 0x044 21 1 * 2) }) ∧
      (w.bit 0 = true → s.flag (cctl p) 0x040 0 = true → s.coreState p ≠ 3 → Completes (.coreRunWrite r p w) s fun t =>
        t.coreState p = s.coreState p ∧ t.flag (cctl p) 0x040 0 = true ∧ t.core p = s.core p)) ∧
    (r.isPf = false → s.partStopped (s.owner (cctl p)) = false → w.bit 0 ≠ s.flag (cctl p) 0x040 0 → Completes (.coreRunWrite r p w) s fun t =>
      t.core p = s.core p ∧ t.flag (cctl p) 0x040 0 = s.flag (cctl p) 0x040 0 ∧ Recorded s t (cctl p) 5 0x013 0x040)) ∧
  (∀ (r : Req) (p : Nat) (w : Word) (s : State), s.passes r (cctl p) 0x068 = true → Completes (.hostSignal r p w) s fun t =>
    t.flag (cctl p) 0x010 2 = (w.bit 0 || s.flag (cctl p) 0x010 2) ∧ t.cabs = s.cabs) ∧
  (∀ (r : Req) (p : Nat) (hi : Bool) (w : Word) (s : State), s.passes r (spad p) (if hi then 0x044 else 0x040) = true →
    ((r.isPf = true ∨ s.partStopped (s.owner (spad p)) = true ∧ r.isCore = false) → Completes (.bankPowerWrite r p hi w) s fun t => t.mem = s.mem ∧
      t.flag (spad p) 0x00C 0 = (List.range 32).any (fun b => t.bankMode p b ≠ t.bankReq p b) ∧
      (∀ b, b < 32 → t.bankMode p b = s.bankMode p b) ∧
      ∀ i, i < 16 → w.bits (2 * i + 1) (2 * i) ≠ 3 → t.bankReq p (i + if hi then 16 else 0) = w.bits (2 * i + 1) (2 * i)) ∧
    (r.isPf = false → (s.partStopped (s.owner (spad p)) = false ∨ r.isCore = true) → Completes (.bankPowerWrite r p hi w) s fun t => t.mem = s.mem ∧
      Recorded s t (spad p) 5 0x013 (if hi then 0x044 else 0x040) ∧ ∀ b, b < 32 → t.bankReq p b = s.bankReq p b)) ∧
  (∀ (p b : Nat) (s : State), b < 32 → s.bankMode p b ≠ s.bankReq p b → Completes (.bankTransitionDone p b) s fun t =>
    t.bankMode p b = s.bankReq p b ∧
      (∀ off, off < 2 ^ 22 → t.byte (spadAt p off) = if bankOf off = b ∧ s.bankReq p b = 2 then 0 else s.byte (spadAt p off)) ∧
      (s.bankReq p b = 2 → b < 16 →
        t.rdN (drw p (b / 4)) 0x060 = ((List.range 8192).filter fun i => recRested (t.nrec p (b / 4) i)).length) ∧
      (s.bankReq p b = 2 → 24 ≤ b → ∀ e ∈ (t.xp p).ldq, ∃ i, (s.xp p).ldq[i]? = some e ∧ bankOf (s.fld (hzn p) 0x0A0 21 4 * 16 + 16 * i) ≠ b))

/-- R193, R298, R303, R305 to R309: the queue instructions: a bad address or queue ID fails with its status and code 0x0C2; a send to a queue of the
Cabinet is offered and the core waits; QRECV takes the head message of a local queue into the buffer and the two registers, or blocks; QPEEK copies it
and answers the occupancy; HZWAIT retires once S has reached its time; and EVINJ injects the event of its block, waiting while an accepted event
stands outside the full plastic hold (R222), or answers why not. That a bad address comes before a bad queue ID is the model's reading (log entry 52). -/
def Obligations.QueueInstructions : Prop :=
  (∀ (p kind rd r1 r2 r3 : Nat) (c : Instr) (s : State), s.queueOp p = some (kind, rd, r1, r2, r3) →
    (kind = 0 ∧ c = .qsend p .clean ∨ kind = 1 ∧ c = .qsendT p .clean ∨ kind = 4 ∧ c = .qmcast p ⟨.clean, .clean⟩) →
    let q := ((s.core p).reg r1).toNat
    let a := ((s.core p).reg r2).toNat
    (queueAddr a = false → Completes c s fun t => s.retired t p rd 4 ∧ Recorded s t (qmgr p) 5 0x0C2 4 ∧ (t.qm p).sends = (s.qm p).sends) ∧
    (queueAddr a = true → (if kind = 4 then 256 else 2 ^ 20) ≤ q → Completes c s fun t => s.retired t p rd 2 ∧ Recorded s t (qmgr p) 5 0x0C2 2 ∧
      (t.qm p).sends = (s.qm p).sends) ∧
    (kind = 4 → queueAddr a = true → q < 256 → s.groupMembers p q = [] → Completes c s fun t => s.retired t p rd 5) ∧
    (∀ qid ms, queueAddr a = true → s.spanOff p a 32 = none →
      (if kind = 4 then q < 256 ∧ s.groupMembers p q = qid :: ms else qid = q ∧ ms = [] ∧ q < 2 ^ 20) →
      isCab p = true → qid / 4096 % 256 = s.cabLog p → (s.cab p).replay = false → (s.qm p).first 0 = none →
      Completes c s fun t => (t.core p).pc = (s.core p).pc ∧ (t.core p).wait = some (.send rd (if kind = 4 then 3 else kind + 1)) ∧ t.mem = s.mem ∧
        ∃ x : Send, (t.qm p).sends = (s.qm p).sends ++ [x] ∧ x.unit = 0 ∧ x.qid = qid ∧ x.state = 1 ∧ x.members = ms ∧
          x.limit = (if kind = 1 then some (32 * ((s.core p).reg r3).toNat) else none) ∧
          x.msg = message (s.cabLog p) 0 (s.cabKey p) (decide (kind = 4)) (msgUser (s.load (spadAt p a) 32)) (nb (s.load (spadAt p a) 32) 255 64))) ∧
  (∀ (p rd q a : Nat) (c : Instr) (s : State), 0 < rd → rd < 31 →
    (c = .qrecv p ⟨.clean, .clean⟩ ∧ (∃ r1 r2 r3, s.queueOp p = some (2, rd, r1, r2, r3) ∧ q = ((s.core p).reg r1).toNat ∧ a = ((s.core p).reg r2).toNat) ∨
      c = .qrecvReceive p ⟨.clean, .clean⟩ ∧ (s.core p).wait = some (.qrecv q rd a) ∧ s.coreState p = 1 ∧ s.isHalted p = false ∧ s.live p = true) →
    (∀ st, c = .qrecv p ⟨.clean, .clean⟩ → s.localFail p q (queueAddr a) = some st → Completes c s fun t => t.mem = s.mem ∧ (t.core p).wait = none ∧
      (t.core p).pc = (s.core p).pc + 4 ∧ (t.core p).reg rd = 0xFFFFFFFF ∧ (t.core p).reg (rd + 1) = BitVec.ofNat 32 st ∧
      ∀ r, r ≠ rd → r ≠ rd + 1 → (t.core p).reg r = (s.core p).reg r) ∧
    (c = .qrecv p ⟨.clean, .clean⟩ → s.localFail p q (queueAddr a) = none → (s.qctx p q).occ = 0 → Completes c s fun t => t.mem = s.mem ∧
      (t.core p).wait = some (.qrecv q rd a) ∧ (t.core p).pc = (s.core p).pc ∧ (t.core p).x = (s.core p).x ∧ (t.qctx p q).blkR = true) ∧
    (s.localFail p q (queueAddr a) = none → (s.qctx p q).occ ≠ 0 → (s.qctx p q).loc = 1 → inShared ((s.qctx p q).entryAt (s.qctx p q).head) 32 = true →
      (s.partStopped (s.cabKey p) = true ∨ ∀ i, i < 32 → s.inActiveCopy p (a + i) = false) →
      s.spanOff p ((s.qctx p q).entryAt (s.qctx p q).head) 32 = none → s.spanOff p a 32 = none →
      let m := s.load (spadAt p ((s.qctx p q).entryAt (s.qctx p q).head)) 32
      Completes c s fun t => t.load (spadAt p a) 32 = m ∧ s.sameBut t (spadAt p a) 32 ∧ (t.core p).wait = none ∧
        (t.core p).pc = (s.core p).pc + 4 ∧ (t.core p).reg rd = BitVec.ofNat 32 m ∧ (t.core p).reg (rd + 1) = BitVec.ofNat 32 (m / 2 ^ 32) ∧
        (∀ r, r ≠ rd → r ≠ rd + 1 → (t.core p).reg r = (s.core p).reg r) ∧ (t.qctx p q).blkR = false ∧
        (t.qctx p q).head = ((s.qctx p q).head + 1) % (2 * (s.qctx p q).size) ∧ (t.qctx p q).tail = (s.qctx p q).tail)) ∧
  (∀ (p rd r1 r2 r3 : Nat) (s : State), s.queueOp p = some (3, rd, r1, r2, r3) →
    let q := ((s.core p).reg r1).toNat
    let a := ((s.core p).reg r2).toNat
    (s.localFail p q (r2 = 0 || queueAddr a) ≠ none → Completes (.qpeek p ⟨.clean, .clean⟩) s fun t => s.retired t p rd 0x80000000 ∧ t.mem = s.mem) ∧
    (s.localFail p q (r2 = 0 || queueAddr a) = none → (r2 = 0 ∨ (s.qctx p q).occ = 0) → Completes (.qpeek p ⟨.clean, .clean⟩) s fun t =>
      s.retired t p rd (BitVec.ofNat 32 (s.qctx p q).occ) ∧ t.mem = s.mem ∧ t.qctx p q = s.qctx p q) ∧
    (s.localFail p q (r2 = 0 || queueAddr a) = none → r2 ≠ 0 → (s.qctx p q).occ ≠ 0 → (s.qctx p q).loc = 1 →
      inShared ((s.qctx p q).entryAt (s.qctx p q).head) 32 = true →
      (s.partStopped (s.cabKey p) = true ∨ ∀ i, i < 32 → s.inActiveCopy p (a + i) = false) →
      s.spanOff p ((s.qctx p q).entryAt (s.qctx p q).head) 32 = none → s.spanOff p a 32 = none →
      Completes (.qpeek p ⟨.clean, .clean⟩) s fun t => s.retired t p rd (BitVec.ofNat 32 (s.qctx p q).occ) ∧ t.qctx p q = s.qctx p q ∧
        t.load (spadAt p a) 32 = s.load (spadAt p ((s.qctx p q).entryAt (s.qctx p q).head)) 32 ∧ s.sameBut t (spadAt p a) 32)) ∧
  (∀ (p rd r1 r2 r3 : Nat) (s : State), s.queueOp p = some (5, rd, r1, r2, r3) →
    let at' := ((s.core p).reg r2).toNat * 2 ^ 32 + ((s.core p).reg r1).toNat
    (at' ≤ s.safe p → Completes (.hzwait p) s fun t => s.retired t p 0 0) ∧
    (s.safe p < at' → Completes (.hzwait p) s fun t => (t.core p).wait = some (.hzwait at') ∧ (t.core p).pc = (s.core p).pc ∧
      (t.core p).x = (s.core p).x)) ∧
  (∀ (p at' : Nat) (s : State), (s.core p).wait = some (.hzwait at') → s.coreState p = 1 → s.isHalted p = false → s.live p = true →
    at' ≤ s.safe p → Completes (.hzwaitRetire p) s fun t => s.retired t p 0 0) ∧
  (∀ (p rd r1 r2 r3 : Nat) (s : State), s.queueOp p = some (6, rd, r1, r2, r3) →
    let a := ((s.core p).reg r1).toNat
    let b := s.load (spadAt p a) 32
    let ev := b % 2 ^ 128
    (queueAddr a = false → Completes (.evinj p .clean) s fun t => s.retired t p rd 4 ∧ (t.xp p).inq = (s.xp p).inq ∧ t.net = s.net) ∧
    (queueAddr a = true → s.spanOff p a 32 = none →
      (s.blockOk p b = false → Completes (.evinj p .clean) s fun t => s.retired t p rd 7 ∧ Recorded s t (cctl p) 5 0x0A3 0 ∧
        (t.xp p).inq = (s.xp p).inq ∧ t.net = s.net) ∧
      (s.blockOk p b = true → s.floorAllows p (rebuild (evTime ev) s.now) = false → Completes (.evinj p .clean) s fun t => s.retired t p rd 1 ∧
        Recorded s t (hzn p) 5 0x063 0 ∧ (t.xp p).inq = (s.xp p).inq ∧ t.net = s.net) ∧
      (s.blockOk p b = true → s.floorAllows p (rebuild (evTime ev) s.now) = true → nb b 129 128 = 0 → nb b 137 130 = s.cabLog p →
        Completes (.evinj p .clean) s fun t => t.net = s.net ∧ (t.outside p = [] → s.retired t p rd 0) ∧
          (t.outside p ≠ [] → evType ev = 2 → (t.core p).pc = (s.core p).pc ∧ (t.core p).x = (s.core p).x ∧
            ∃ e ∈ (t.xp p).inq, (t.core p).wait = some (.evinj rd e)) ∧
          t.fld (cctl p) 0x06C 15 0 = (s.fld (cctl p) 0x06C 15 0 + (if evType ev = 2 then 1 else 0)) % 65536 ∧
          (t.xp p).inq = (s.xp p).inq ++ [⟨rebuild (evTime ev) s.now, evAxon ev,
            s.cabLog p % 256 * 2 ^ 15 + (if evType ev = 2 then 0x7FFF else evSource ev % 2 ^ 15), evPay ev,
            if evType ev = 2 then s.fld (cctl p) 0x06C 15 0 else evInterval ev, evType ev, false, 0, 0⟩])))

/-- R294, R295, R298 to R302, R307, R310, R311, R431, R432: the queue manager: an offer is accepted into the queue's next entry and, for a protected
partition, into the journal and its ring (its slots are the model's choice, log entry 49), or answered FULL, invalid or not the owner (code 0x0C1); an
answer ends the sender's send and retires the core, FULL makes it wait, and after QRETRY it is offered again; the context commands load, invalidate,
arm and empty a context or are refused with code 0x0C0; a bound queue's head message enters its port; the hang timer records code 0x0A0; and CTX0 and
HEAD_0 read a snapshot. -/
def Obligations.QueueManager : Prop :=
  (∀ (p u : Nat) (x : Send) (s : State), s.ready (cctl p) = true →
    (s.qm p).sends.find? (fun x => x.unit = u && x.state = 1 && x.seq = 4096 + u) = some x →
    (s.cab p).frozen = false → (s.cab p).fenced = false → (s.cab p).replay = false →
    let q := x.qid % 4096
    let c := s.qctx p q
    let note (st : Nat) : List Notice := s.notices ++ [⟨p, x.dest, msgKey x.msg, 16 + st, x.seq⟩]
    (c.v = true → (msgKey x.msg = c.owner ∨ msgKey x.msg = 0) → (x.msg.testBit 24 = true → c.mcast = true) → c.occ < c.size →
      s.journalNoRoom (s.cabKey p) (s.cabLog p) 3 = false → c.loc = 1 → inShared (c.entryAt c.tail) 32 = true → s.spanOff p (c.entryAt c.tail) 32 = none →
      let k := s.cabKey p
      let lc := s.cabLog p
      let es := msgEntries x.qid x.msg
      Completes (.offer p (some u) .clean) s fun t => t.notices = note 0 ∧
        (s.offJournal k lc 3 (spadAt p (c.entryAt c.tail)) 32 = true → t.load (spadAt p (c.entryAt c.tail)) 32 = x.msg % 2 ^ 256) ∧
        (s.journalled k lc es).sameBut t (spadAt p (c.entryAt c.tail)) 32 ∧
        ((s.cfg k).prot = true → (t.journal k lc).entries = (s.journal k lc).entries ++ es ∧ ∀ b, s.areaOf k lc 2 = some b →
          (∀ i, i < 3 → s.mirrorAt (s.journalSlot k lc b i) = none) → ∀ i, i < 3 → t.load (s.journalSlot k lc b i) 16 = es.getD i 0) ∧
        (t.qctx p q).tail = (c.tail + 1) % (2 * c.size) ∧ (t.qctx p q).head = c.head ∧
        (c.ie = true → c.thr ≠ 0 → c.armed = true → c.thr = c.occ + 1 → t.flag (qmgr p) 0x010 0 = true)) ∧
    (c.v = true → (msgKey x.msg = c.owner ∨ msgKey x.msg = 0) → (x.msg.testBit 24 = true → c.mcast = true) → c.occ = c.size →
      Completes (.offer p (some u) .clean) s fun t => t.notices = note qFull ∧ t.mem = s.mem ∧ t.qctx p q = { c with blkS := true } ∧
        t.flag (qmgr p) 0x010 1 = true) ∧
    (c.v = false → Completes (.offer p (some u) .clean) s fun t => t.notices = note 2 ∧ t.mem = s.mem) ∧
    (c.v = true → msgKey x.msg ≠ c.owner → msgKey x.msg ≠ 0 → Completes (.offer p (some u) .clean) s fun t => t.notices = note 3 ∧ t.mem = s.mem ∧
      Recorded s t (qmgr p) 6 0x0C1 q ∧ t.flag (qmgr p) 0x010 2 = true)) ∧
  (∀ (i st rd kind : Nat) (n : Notice) (x : Send) (s : State), s.notices[i]? = some n → n.cls = 16 + st →
    (s.qm n.src).sends.find? (fun x => x.state = 1 && x.dest = n.dest && x.seq = n.seq && msgKey x.msg = n.key) = some x → x.unit = 0 →
    rd < 32 → x.mcast = false → (s.core n.src).wait = some (.send rd kind) →
    (st ≠ qFull → (∀ y ∈ (s.qm n.src).sends.erase x, y.unit ≠ 0) → Completes (.sendAnswer i) s fun t => t.notices = s.notices.eraseIdx i ∧
      s.retired t n.src rd (BitVec.ofNat 32 st) ∧ (t.qm n.src).sends = (s.qm n.src).sends.erase x) ∧
    (st = qFull → (∀ l, x.limit = some l → s.now < x.since + l) → Completes (.sendAnswer i) s fun t => t.notices = s.notices.eraseIdx i ∧
      (t.core n.src).wait = some (.send rd kind) ∧ (t.core n.src).pc = (s.core n.src).pc ∧
      ∃ y ∈ (t.qm n.src).sends, y = { x with state := 2, refusedAt := s.now, blocked := some (x.blocked.getD s.now) })) ∧
  (∀ (p unit : Nat) (x : Send) (s : State), (s.qm p).first unit = some x → x.state = 2 → isCab p = true → s.live p = true →
    x.refusedAt + 32 * s.fld (cctl p) 0x04C 11 0 ≤ s.now → x.qid < 2 ^ 20 → x.qid / 4096 % 256 = s.cabLog p → (s.cab p).replay = false →
    Completes (.sendRetry p unit) s fun t => ∃ y ∈ (t.qm p).sends, y = { x with state := 1, dest := 1024 + s.cabLog p, seq := 4096 + unit }) ∧
  (∀ (r : Req) (p : Nat) (s : State), s.passes r (qmgr p) 0x054 = true →
    let q := s.fld (qmgr p) 0x040 11 0
    let c := s.qctx p q
    ((s.ctxStaged p).createOk (s.reqKey r) ((s.qm p).ctx.map (·.2)) = true → nb (s.rdN (qmgr p) 0x050) 31 8 = 0 → c.v = false → Completes (.ctxCreate r ⟨p, .clean⟩) s fun t =>
      t.qctx p q = { s.ctxStaged p with head := 0, tail := 0, v := true, blkS := false, blkR := false, armed := decide (0 < (s.ctxStaged p).thr),
                                        crossed := false }) ∧
    (((s.ctxStaged p).createOk (s.reqKey r) ((s.qm p).ctx.map (·.2)) = false ∨ nb (s.rdN (qmgr p) 0x050) 31 8 ≠ 0 ∨ c.v = true) → Completes (.ctxCreate r ⟨p, .clean⟩) s fun t =>
      t.qctx p q = c ∧ Recorded s t (qmgr p) 5 0x0C0 q) ∧
    (c.occ = 0 → c.blkR = false → Completes (.ctxDestroy r ⟨p, .clean⟩) s fun t => t.qctx p q = { c with v := false }) ∧
    ((c.occ ≠ 0 ∨ c.blkR = true) → Completes (.ctxDestroy r ⟨p, .clean⟩) s fun t => t.qctx p q = c ∧ Recorded s t (qmgr p) 5 0x0C0 q) ∧
    (c.v = true → Completes (.ctxSetThr r ⟨p, .clean⟩) s fun t => t.qctx p q =
      { c with thr := (s.ctxStaged p).thr, ie := (s.ctxStaged p).ie, armed := decide (c.occ < (s.ctxStaged p).thr) }) ∧
    (c.v = true → Completes (.ctxFlush r ⟨p, .clean⟩) s fun t => (t.qctx p q).head = c.tail ∧ (t.qctx p q).tail = c.tail ∧ (t.qctx p q).blkS = false ∧
      (t.qctx p q).v = true ∧ t.mem = s.mem) ∧
    (c.v = false → ∀ k ∈ [Instr.ctxSetThr r ⟨p, .clean⟩, .ctxFlush r ⟨p, .clean⟩], Completes k s fun t => t.qctx p q = c ∧ Recorded s t (qmgr p) 5 0x0C0 q)) ∧
  (∀ (p q : Nat) (s : State), s.live p = true → (s.qctx p q).v = true → (s.qctx p q).occ ≠ 0 → s.portFree p (s.qctx p q).bind = true →
    s.unitStalled p (s.qctx p q).bind = false → (s.qctx p q).loc = 1 → inShared ((s.qctx p q).entryAt (s.qctx p q).head) 32 = true →
    s.spanOff p ((s.qctx p q).entryAt (s.qctx p q).head) 32 = none →
    let b := (s.qctx p q).bind
    let m := s.load (spadAt p ((s.qctx p q).entryAt (s.qctx p q).head)) 32
    Completes (.portDrain p q ⟨.clean, .clean⟩) s fun t => (t.qctx p q).head = ((s.qctx p q).head + 1) % (2 * (s.qctx p q).size) ∧ t.mem = s.mem ∧
      (b = 1 ∨ b = 2 → (t.cab p).trsIn = (s.cab p).trsIn ++ [(b - 1, m)]) ∧
      (3 ≤ b → b ≤ 6 → (t.cab p).drwIn = (s.cab p).drwIn ++ [(b - 3, m)]) ∧ (b = 7 → (t.cab p).xIn = some m)) ∧
  (∀ (p unit at' : Nat) (x : Send) (s : State), (s.qm p).first unit = some x → x.blocked = some at' → x.hung = false →
    s.fld (cctl p) 0x048 23 0 ≠ 0 → at' + s.fld (cctl p) 0x048 23 0 * 32000 ≤ s.now → (unit = 0 → s.isHalted p = false) →
    s.ctrFrozen (cctl p) = false →
    Completes (.hang p unit) s fun t => Recorded s t (cctl p) 4 0x0A0 (unit % 16) ∧ t.flag (cctl p) 0x010 0 = true ∧
      t.rdN (cctl p) 0x070 = min (s.rdN (cctl p) 0x070 + 1) 4294967295 ∧ { x with hung := true } ∈ (t.qm p).sends) ∧
  (∀ (r : Req) (p : Nat) (s : State), s.reads r (qmgr p) = true →
    let c := s.qctx p (s.fld (qmgr p) 0x040 11 0)
    (Completes (.qmgrCtxRead r ⟨p, .clean⟩) s fun t => t.resp = .data (c.pack % 2 ^ 32) ∧
      (t.qm p).ctxSnap = [nb c.pack 63 32, nb c.pack 95 64, nb c.pack 127 96].map (BitVec.ofNat 32)) ∧
    (c.v = true → c.occ ≠ 0 → c.loc = 1 → inShared (c.entryAt c.head) 32 = true → s.spanOff p (c.entryAt c.head) 32 = none → Completes (.qmgrHeadRead r p ⟨.clean, .clean⟩) s fun t =>
      let m := s.load (spadAt p (c.entryAt c.head)) 32
      t.resp = .data (m % 2 ^ 32) ∧ (t.qm p).headSnap = (List.range 8).map (fun i => BitVec.ofNat 32 (m / 2 ^ (32 * i))) ∧ t.mem = s.mem))

/-! ### Decoders (12_decoders.md) -/

/-- R313 to R318, R337: an event flit at a channel's endpoint is an input of the unit that owns its input number: it is acknowledged and logged, or
refused with code 0x0D0 where the channel is disabled, the type is not an input's or no unit owns the number; without room it waits; an input to a
window that has been confirmed or released is late (code 0x0D1) and enters nothing; one to a window already formed forms it anew; a window that ends
at or before the T_p of a stop with DISCARD gives no result; and a window is formed once S has reached its end, and confirmed, with its release
instant, once M and every replay front have. How many bytes the areas of the log and the queue give an entry is the model's choice (log entry 30).
Whether the path to the log can take an entry comes with the command (log entry 30). -/
def Obligations.DecoderInputsAndWindows : Prop :=
  (∀ (n : Nat) (a : Arrival) (s : State), s.inbox.find? (fun a => a.dest = 0x120 + n && a.flit.kind = 0) = some a →
    let pl := a.flit.payload
    let e (u : Nat) : DIn := ⟨rebuild (evTime pl) s.now, evSource pl, evAxon pl, evPay pl, evType pl, s.reconInc n u (evAxon pl) (evPay pl)⟩
    let d := s.dec n
    let refused (t : State) : Prop := t.inbox = s.inbox.erase a ∧ t.notices = (s.notice (0x120 + n) a.flit).notices ∧ t.decs = s.decs ∧
      t.mem = s.mem ∧ t.flag (chdec n) 0x010 10 = true ∧ Recorded s t (chdec n) 3 0x0D0 (evAxon pl % 256 + evType pl % 16 * 256)
    (∀ room, s.chanOn n = false → Completes (.decoderInput n room) s refused) ∧
    (s.inputRoom n = true → ((evType pl ≠ 0 ∧ evType pl ≠ 5) ∨ s.inputUnit n (evAxon pl) = none) → Completes (.decoderInput n true) s refused) ∧
    (∀ room, s.chanOn n = true → room = false ∨ s.inputRoom n = false → Completes (.decoderInput n room) s fun t => t.inbox = s.inbox ∧ t.decs = s.decs ∧ t.mem = s.mem ∧
      t.flag (chdec n) 0x00C 1 = true) ∧
    (∀ u, s.chanOn n = true → (evType pl = 0 ∨ evType pl = 5) → s.inputUnit n (evAxon pl) = some u → s.inputRoom n = true →
      let e := e u
      let late (t : State) : Prop := t.inbox = s.inbox.erase a ∧ t.dec n = { d with logN := d.logN + 1 } ∧ Recorded s t (chdec n) 3 0x0D1 e.inp ∧
        t.flag (chdec n) 0x010 4 = true ∧ t.rdN (chdec n) 0x094 = min (s.rdN (chdec n) 0x094 + 1) 4294967295
      (s.dkind n u = 3 → Completes (.decoderInput n true) s fun t => t.inbox = s.inbox.erase a ∧
        t.notices = (s.notice (0x120 + n) a.flit).notices ∧ t.dec n = { d with log := d.log ++ [e], logN := d.logN + 1 } ∧
        t.flag (chdec n) 0x00C 1 = false ∧
        (s.stackDenied (s.owner (chin n)) (s.rd64 (chdec n) 0x060 + 32 * (d.logN % s.areaEntries n 0x068 32)) false = none →
          t.mem = (s.stackPut (s.rd64 (chdec n) 0x060 + 32 * (d.logN % s.areaEntries n 0x068 32)) 32
            (logEntry e (d.log.filter fun x => inBefore x e).length)).mem)) ∧
      (s.dkind n u ≠ 3 →
        let w := e.time / s.dwin n u
        let wEnd := (w + 1) * s.dwin n u
        let exempt := d.replay.any fun r => r.1 = e.src / 2 ^ 15 && decide (r.2.1 ≤ e.time)
        (wEnd ≤ d.cut → Completes (.decoderInput n true) s fun t => t.inbox = s.inbox.erase a ∧
          t.dec n = { d with log := d.log ++ [e], logN := d.logN + 1 }) ∧
        (d.cut < wEnd →
        ((u, w) ∈ d.conf → (u, w) ∉ d.rel → s.ctrFrozen (chdec n) = false → Completes (.decoderInput n true) s late) ∧
        ((u, w) ∈ d.rel → exempt = false → s.ctrFrozen (chdec n) = false → Completes (.decoderInput n true) s late) ∧
        ((u, w) ∈ d.rel → exempt = true → Completes (.decoderInput n true) s fun t => t.inbox = s.inbox.erase a ∧
          t.dec n = { d with logN := d.logN + 1 } ∧
          (s.stackDenied (s.owner (chin n)) (s.rd64 (chdec n) 0x060 + 32 * (d.logN % s.areaEntries n 0x068 32)) false = none →
            t.regs = (s.setFlag (chdec n) 0x00C 1 false).regs)) ∧
        ((u, w) ∉ d.conf → (u, w) ∉ d.rel → s.confirmable n wEnd = true → exempt = false → s.ctrFrozen (chdec n) = false →
          Completes (.decoderInput n true) s late) ∧
        ((u, w) ∉ d.conf → (u, w) ∉ d.rel → s.confirmable n wEnd = false →
          (s.chanS n < wEnd → Completes (.decoderInput n true) s fun t => t.inbox = s.inbox.erase a ∧
            t.dec n = { d with log := d.log ++ [e], logN := d.logN + 1 }) ∧
          (wEnd ≤ s.chanS n → s.ctrFrozen (chdec n) = false → Completes (.decoderInput n true) s fun t => (t.dec n).log = d.log ++ [e] ∧
            (t.dec n).pq = d.pq.filter (fun x => !(x.unit = u && x.w = w)) ++
              ((s.setDec n { d with log := d.log ++ [e] }).decision n u w).toList ∧
            (s.windowInputs n u w ≠ [] → (u, w) ∈ (t.dec n).reform ∧ t.flag (chdec n) 0x010 3 = true ∧
              t.rdN (chdec n) 0x090 = min (s.rdN (chdec n) 0x090 + 1) 4294967295))))))) ∧
  (∀ (n u w : Nat) (s : State), (w + 1) * s.dwin n u ≤ (s.dec n).cut → s.stepWindow n u w = s) ∧
  (∀ (n u w : Nat) (s : State), (u, w) ∉ (s.dec n).conf → (s.dec n).cut < (w + 1) * s.dwin n u →
    let d := s.dec n
    let wEnd := (w + 1) * s.dwin n u
    (s.confirmable n wEnd = false → s.chanS n < wEnd → s.stepWindow n u w = s) ∧
    (s.confirmable n wEnd = false → wEnd ≤ s.chanS n → (∀ x ∈ d.pq, x.unit = u → x.w ≠ w) →
      ((s.stepWindow n u w).dec n).pq = d.pq ++ (s.decision n u w).toList ∧ ((s.stepWindow n u w).dec n).conf = d.conf) ∧
    (∀ x, s.confirmable n wEnd = true → d.pq = [x] → x.unit = u → x.w = w → u < 4 →
      ((s.stepWindow n u w).dec n).conf = d.conf ++ [(u, w)] ∧ (s.stepWindow n u w).rdN (chdec n) (0x214 + 0x20 * u) = w % 2 ^ 32 ∧
      ((s.stepWindow n u w).dec n).pq = 
        [{ x with conf := some (if s.now + 1024 ≤ x.te + s.presLat n then (x.te + s.presLat n, false) else (s.now + 1024, true)) }]))

/-- R324 to R328, R333, R335: the next confirmed result: its record is written in the 1,024 fu before its release, or marked bad and reported (code
0x032), as it also is when the error shows at its release or at its late commit; at its release it takes the next SEQ, is counted, its trigger pulse
starts, and its record commits, is dropped or waits for room as the policy says; a record that waits commits once there is room; and the pin, with the
polarity of TRIG_CFG.POL, returns at the pulse's end unless another edge extends the pulse within 64 fu. -/
def Obligations.ResultsAreReleased : Prop :=
  (∀ (n r : Nat) (x : PRes) (late : Bool) (s : State), firstPres ((s.dec n).toRelease.filter fun x => x.fate = 0) = some x → x.conf = some (r, late) →
    s.chanOn n = true → r ≤ s.now + 1024 →
    ((s.dec n).room = true → (∀ y ∈ (s.dec n).pq, y.fate ≠ 4) → Completes (.recordWrite n none) s fun t =>
      (t.dec n).pq = (s.dec n).pq.replace x { x with fate := 1 } ∧ (t.dec n).fifo.recs = (s.dec n).fifo.recs ∧
      t.rdN (chdec n) 0x0C8 = (s.dec n).level + 3) ∧
    (∀ e, s.ctrFrozen (chdec n) = false → Completes (.recordWrite n (some e)) s fun t =>
      (t.dec n).pq = (s.dec n).pq.replace x { x with fate := if e then 3 else 2 } ∧ t.flag (chdec n) 0x010 8 = true ∧
      Recorded s t (chdec n) 2 0x032 ((s.dec n).seqOf x) ∧ t.faultReports = s.faultReports ++ [⟨chdec n, 0x032, s.now, 0⟩] ∧
      t.rdN (chdec n) 0x0E8 = min (s.rdN (chdec n) 0x0E8 + 1) 4294967295)) ∧
  (∀ (n r : Nat) (x : PRes) (late : Bool) (s : State), firstPres (s.dec n).toRelease = some x → x.conf = some (r, late) → x.unit < 4 →
    s.chanOn n = true → s.ready (chin n) = true → r ≤ s.now → s.ctrFrozen (chdec n) = false →
    Completes (.resultRelease ⟨n, none⟩) s fun t =>
      (t.dec n).seq = ((s.dec n).seq + 1) % 65536 ∧ (t.dec n).rel = (s.dec n).rel ++ [(x.unit, x.w)] ∧
      t.rdN (chdec n) (0x210 + 0x20 * x.unit) = min (s.rdN (chdec n) (0x210 + 0x20 * x.unit) + 1) 4294967295 ∧
      (late = true → t.flag (chdec n) 0x010 2 = true ∧ t.rdN (chdec n) 0x08C = min (s.rdN (chdec n) 0x08C + 1) 4294967295) ∧
      (x.fate = 1 → (t.dec n).pq = (s.dec n).pq.erase x ∧ t.rdN (chdec n) 0x088 = min (s.rdN (chdec n) 0x088 + 1) 4294967295 ∧
        (t.dec n).fifo.recs = (s.dec n).fifo.recs ++
          [⟨resultWords x (s.dkind n x.unit) r (s.dec n).seq late false ((s.dec n).reform.contains (x.unit, x.w)), 1, x.te, r⟩]) ∧
      (x.fate = 2 ∨ x.fate = 3 → (t.dec n).pq = (s.dec n).pq.erase x ∧ (t.dec n).fifo.recs = (s.dec n).fifo.recs) ∧
      (x.fate = 0 → (s.dec n).room = false → (t.dec n).fifo.recs = (s.dec n).fifo.recs ∧
        (s.flag (chdec n) 0x0C0 1 = true → (t.dec n).pq = (s.dec n).pq.erase x ∧ t.flag (chdec n) 0x010 7 = true ∧
          t.rdN (chdec n) 0x0E0 = min (s.rdN (chdec n) 0x0E0 + 1) 4294967295) ∧
        (s.flag (chdec n) 0x0C0 1 = false → (t.dec n).pq = (s.dec n).pq.replace x { x with fate := 4, seq := (s.dec n).seq } ∧
          t.rdN (chdec n) 0x0E4 = min (s.rdN (chdec n) 0x0E4 + 1) 4294967295)) ∧
      (x.fate ≠ 3 → s.flag (chdec n) 0x04C 5 = true → (s.fld (chdec n) 0x04C 3 0).testBit x.unit = true → (t.dec n).pin = true ∧
        let edge : Int := (r : Int) - ofBits (s.fld (chdec n) 0x050 15 0) 16
        let stop := edge + s.fld (chdec n) 0x04C 31 16
        ((s.dec n).pulse = none → (t.dec n).pulse = some (edge, stop) ∧ t.rdN (chdec n) 0x0A4 = min (s.rdN (chdec n) 0x0A4 + 1) 4294967295) ∧
        ∀ a e, (s.dec n).pulse = some (a, e) → (t.dec n).pulse = some (if edge < e + 64 then a else edge, stop) ∧
          (edge < e + 64 → t.flag (chdec n) 0x010 9 = true))) ∧
  (∀ (n r : Nat) (x : PRes) (late e : Bool) (s : State), firstPres (s.dec n).toRelease = some x → x.conf = some (r, late) → x.fate = 1 →
    s.chanOn n = true → s.ready (chin n) = true → r ≤ s.now →
    Completes (.resultRelease ⟨n, some e⟩) s fun t => (t.dec n).pq = (s.dec n).pq.erase x ∧ (t.dec n).fifo.recs = (s.dec n).fifo.recs ∧
      t.flag (chdec n) 0x010 8 = true ∧ Recorded s t (chdec n) 2 0x032 (s.dec n).seq) ∧
  (∀ (n r : Nat) (x : PRes) (late : Bool) (s : State), firstPres ((s.dec n).pq.filter fun x => x.fate = 4) = some x → x.conf = some (r, late) →
    (s.dec n).room = true →
    (∀ e, Completes (.recordHeldCommit ⟨n, some e⟩) s fun t => (t.dec n).pq = (s.dec n).pq.erase x ∧ (t.dec n).fifo.recs = (s.dec n).fifo.recs ∧
      t.flag (chdec n) 0x010 8 = true ∧ Recorded s t (chdec n) 2 0x032 x.seq) ∧
    Completes (.recordHeldCommit ⟨n, none⟩) s fun t => (t.dec n).pq = (s.dec n).pq.erase x ∧
      (t.dec n).fifo.recs = (s.dec n).fifo.recs ++
        [⟨resultWords x (s.dkind n x.unit) r x.seq late true ((s.dec n).reform.contains (x.unit, x.w)), 1, x.te, r⟩]) ∧
  (∀ (n : Nat) (a e : Int) (s : State), (s.dec n).pulse = some (a, e) → (s.dec n).pin = true → e ≤ (s.now : Int) →
    ((∀ x ∈ s.edgesAhead n, e + 64 ≤ x) → Completes (.trigOutEnd n) s fun t => t.dec n = { s.dec n with pin := false } ∧ t.regs = s.regs) ∧
    ((∃ x ∈ s.edgesAhead n, x < e + 64) → Completes (.trigOutEnd n) s fun t => t.decs = s.decs ∧ t.regs = s.regs)) ∧
  (∀ (n : Nat) (s : State), ((s.dom (chin n).dom).cur = .off → s.trigOut n = none) ∧
    ((s.dom (chin n).dom).cur ≠ .off → s.trigOut n = some (s.trigActive n != s.flag (chdec n) 0x04C 4)))

/-- R334, R82: the reader of the result FIFO pops words and their marks, reads zero with UNDERFLOW or BUSY, drops, flushes and sets the threshold; DMA
writes whole records to the host ring. R336, R338: REWIND drops the inputs of a Cabinet from t_ck on, withdraws what the replay will form anew,
reports results already released (code 0x0D2), and marks the Cabinet as replaying; FRONT raises its front, and REPLAY_END ends the mark. The room in a
host ring is the model's reading (log entry 22). -/
def Obligations.ResultFifoReaderAndReplay : Prop :=
  (∀ (r : Req) (n : Nat) (x : FifoRec) (rest : List FifoRec) (w : Nat) (ws : List Nat) (s : State), s.reads r (chdec n) = true →
    s.flag (chdec n) 0x0C0 0 = false → (s.dec n).fifo.recs = x :: rest → x.words = w :: ws →
    (Completes (.rfPop r n .clean) s fun t => t.resp = .data (w % 2 ^ 32) ∧ t.rdN (chdec n) 0x0D8 = w / 2 ^ 32 % 2 ^ 32 ∧
      (t.rdN (chdec n) 0x0DC = if ws = [] then x.mark % 2 ^ 32 else 0) ∧
      ((t.dec n).fifo.recs = if ws = [] then rest else { x with words := ws } :: rest)) ∧
    (∀ flips mark, Completes (.rfPop r n (.uncorrectable flips mark)) s fun t => t.resp = .data ((w ^^^ (flips % 2 ^ 64)) % 2 ^ 32) ∧
      Recorded s t (chdec n) 2 0x031 (s.dec n).fifo.addr ∧
      (x.mark < 4 → t.rdN (chdec n) 0x0DC = (if mark = true then 2 else if ws = [] then x.mark else 0) + 16))) ∧
  (∀ (r : Req) (n : Nat) (ecc : EccRead) (s : State), s.reads r (chdec n) = true →
    (s.flag (chdec n) 0x0C0 0 = false → (s.dec n).fifo.recs = [] → Completes (.rfPop r n ecc) s fun t => t.resp = .data 0 ∧
      t.rdN (chdec n) 0x0DC = 4 ∧ t.decs = s.decs) ∧
    (s.flag (chdec n) 0x0C0 0 = true → Completes (.rfPop r n ecc) s fun t => t.resp = .data 0 ∧ t.rdN (chdec n) 0x0DC = 8 ∧
      t.decs = s.decs ∧ Recorded s t (chdec n) 5 0x014 0)) ∧
  (∀ (r : Req) (n : Nat) (s : State), s.passes r (chdec n) 0x0D0 = true →
    (∀ x rest, (s.dec n).fifo.recs = x :: rest → Completes (.rfDropRest r n) s fun t => (t.dec n).fifo.recs = rest ∧ (t.dec n).fifo.mid = false ∧
      (t.dec n).pq = (s.dec n).pq) ∧
    (Completes (.rfFlush r n) s fun t => (t.dec n).fifo.recs = [] ∧ (t.dec n).pq = (s.dec n).pq ∧ t.rdN (chdec n) 0x0CC = 0)) ∧
  (∀ (r : Req) (n : Nat) (w : Word) (s : State), s.passes r (chdec n) 0x0C4 = true →
    Completes (.rfThrWrite r n w) s fun t => t.fld (chdec n) 0x0C4 15 0 = w.bits 15 0 ∧
      (t.dec n).fifo.lvlArmed = decide ((s.dec n).level < w.bits 15 0) ∧ t.flag (chdec n) 0x010 0 = s.flag (chdec n) 0x010 0) ∧
  (∀ (n : Nat) (x : FifoRec) (rest : List FifoRec) (s : State), (s.dec n).fifo.recs = x :: rest → s.flag (chdec n) 0x0C0 0 = true →
    (s.dec n).fifo.atBoundary = true → (s.dec n).fifo.afterFalse = false →
    ringUsed (2 ^ s.fld (chdec n) 0x0F8 4 0) (s.rdN (chdec n) 0x0FC) (s.rdN (chdec n) 0x100) + 8 * x.words.length < 2 ^ s.fld (chdec n) 0x0F8 4 0 →
    Completes (.rdmaRecordCopy n) s fun t => (t.dec n).fifo.recs = rest ∧ t.flag (chdec n) 0x010 1 = true ∧
      t.rdN (chdec n) 0x0FC = (s.rdN (chdec n) 0x0FC + 8 * x.words.length) % 2 ^ s.fld (chdec n) 0x0F8 4 0 ∧
      t.hostMem = (s.hostRingWords (s.rd64 (chdec n) 0x0F0) (2 ^ s.fld (chdec n) 0x0F8 4 0) (s.rdN (chdec n) 0x0FC) x.words).hostMem) ∧
  (∀ (n : Nat) (a : Arrival) (s : State), s.mgmtAt (0x120 + n) 0x30 = some a →
    let c := nb a.flit.payload 71 64
    let tck := rebuild (nb a.flit.payload 119 72) s.now
    Completes (.rewind n) s fun t => t.inbox = s.inbox.erase a ∧ t.flag (chdec n) 0x00C 0 = true ∧
      (t.dec n).log = (s.dec n).log.filter (fun e => !(e.src / 2 ^ 15 = c && decide (tck ≤ e.time))) ∧
      (t.dec n).replay = (c, tck, tck) :: (s.dec n).replay.filter (fun r => r.1 ≠ c) ∧ (t.dec n).rel = (s.dec n).rel ∧
      (∀ u w, (s.dec n).rel = [(u, w)] → tck < (w + 1) * s.dwin n u → Recorded s t (chdec n) 4 0x0D2 u ∧ t.flag (chdec n) 0x010 5 = true)) ∧
  (∀ (n : Nat) (a : Arrival) (s : State), s.mgmtAt (0x120 + n) 0x31 = some a →
    Completes (.front n) s fun t => t.inbox = s.inbox.erase a ∧ (t.dec n).log = (s.dec n).log ∧
      (t.dec n).replay = (s.dec n).replay.map fun r =>
        if r.1 = nb a.flit.payload 71 64 then (r.1, r.2.1, max r.2.2 (rebuild (nb a.flit.payload 119 72) s.now)) else r) ∧
  (∀ (n : Nat) (a : Arrival) (s : State), s.mgmtAt (0x120 + n) 0x32 = some a →
    Completes (.replayEnd n) s fun t => t.inbox = s.inbox.erase a ∧ (t.dec n).log = (s.dec n).log ∧
      (t.dec n).replay = (s.dec n).replay.filter (fun r => r.1 ≠ nb a.flit.payload 71 64) ∧
      t.flag (chdec n) 0x00C 0 = !(t.dec n).replay.isEmpty)

/-! ### Placement (13_placement.md) -/

/-- R349 to R351, Table 13.7: a write of MB_CMD with any command while the function has one waiting only sets OVERRUN. In an idle Bureau a command that
names another function's partition ends with NOT_OWNER, one whose partition is not in a state that Table 13.7 names with BUSY, and one with another
epoch with STALE_EPOCH; nothing of the partition changes. -/
def Obligations.MailboxTurnsCommandsAway : Prop :=
  ∀ (r : Req) (w : Word) (obs : List (Nat × Nat × Nat)) (pins : List (Nat × List Nat)) (s : State),
    let k := w.bits 13 8
    ∀ x ∈ [(1, Instr.partConfig r w), (2, .imageLoad r w), (3, .partStart r w), (4, .partStop r w), (5, .partRelease r w), (6, .migrate r w),
      (7, .park r w), (8, .unpark r w), (9, .rebalance r w obs pins), (10, .consolidate r w), (11, .query r w)],
    let ends (st : MbSt) (t : State) : Prop := t.mbox.map (fun m => (m.fn, m.phase, m.status)) = [(r.view, 5, st)] ∧ t.partState = s.partState ∧
      t.parts = s.parts ∧ t.maps = s.maps ∧ t.maps2 = s.maps2 ∧ t.mem = s.mem
    (s.passes r (bur r.view) 0x040 = true → (∃ m ∈ s.mbox, m.fn = r.view) → Completes x.2 s fun t => t.mbox = s.mbox ∧
      t.flag (bur r.view) 0x064 10 = true ∧ t.parts = s.parts ∧ t.partState = s.partState) ∧
    (s.mbIdle r → r.view ≠ 0 → k ≠ r.view → Completes x.2 s (ends .notOwner)) ∧
    (s.mbIdle r → (r.view = 0 ∨ k = r.view) → x.1 ≠ 11 → (k = 0 ∨ mbStates x.1 (s.part k) = false) → Completes x.2 s (ends .busy)) ∧
    (s.mbIdle r → (r.view = 0 ∨ k = r.view) → 0 < k → mbStates x.1 (s.part k) = true → x.1 ∈ [4, 6, 7, 8, 9, 10] →
      s.rdN (bur r.view) 0x060 ≠ 0xFFFFFFFF → s.rdN (bur r.view) 0x060 ≠ (s.cfg k).ep → Completes x.2 s (ends .staleEpoch))

/-- R346, R348, R352 to R354, Table 13.7: what an idle Bureau does with the commands of a partition's life. PART_CONFIG takes the configuration, or ends
with UNSUPPORTED; IMAGE_LOAD begins the pull; PART_START ends as its checks, placement, memory and admission say, and the partition is RUNNING with a
new epoch exactly when it ends with OK; a start that nothing refuses asks for RUN of every domain it needs and waits for them (R475); PART_STOP sets
T_p, which must lie after safe time; PART_RELEASE frees the partition, with a new epoch where it was placed; QUERY answers. What QUERY shows for a
ratio of 256 and what placement chooses are the model's (log entries 46, 48). -/
def Obligations.PartitionsConfigureStartAndStop : Prop :=
  ∀ (r : Req) (w : Word) (s : State), s.mbIdle r →
    let k := w.bits 13 8
    let f := r.view
    let m (op : Nat) : MbCmd := mbTaken f (w.setBits 7 0 op) [] [] s
    let a (i : Nat) : Nat := s.rdN (bur f) (0x044 + 4 * i)
    (s.mbAllowed r k 1 →
      let bad := a 0 % 4 = 3 ∨ a 3 % 4 = 3 ∨ a 3 / 4 % 4 = 3 ∨ a 3 / 16 % 32 = 0 ∨ 16 < a 3 / 16 % 32 ∨ (a 0 % 4 = 0 ∧ a 3 % 4 ≠ 1)
      (bad → Completes (.partConfig r w) s fun t => t.mbox = [(m 1).ends .unsupported 0 0] ∧ t.parts = s.parts) ∧
      (¬ bad → Completes (.partConfig r w) s fun t => t.mbox = [(m 1).ends .ok 0 0] ∧
        t.cfg k = { s.cfg k with cls := a 0 % 4, prot := (a 0).testBit 2, pres := a 1, period := if a 2 = 0 then 256000000 else a 2, emode := a 3 % 4,
                                 mmode := a 3 / 4 % 4, burst := a 3 / 16 % 32 } ∧
        (∀ n, n < 16 → s.owner (chin n) = k → t.rdN (chdec n) 0x040 = a 1) ∧ ∀ j, j ≠ k → t.cfg j = s.cfg j)) ∧
    (s.mbAllowed r k 2 → Completes (.imageLoad r w) s fun t => t.mbox = [{ m 2 with phase := 1 }] ∧ t.parts = s.parts) ∧
    (s.mbAllowed r k 3 →
      let T := a 0 + a 1 * 2 ^ 32
      let u := s.mbEntered (m 3)
      let τ := u.startTime k T s.now
      let fresh := decide (s.part k = .loaded)
      let area (pos : List Nat) : AreaPlan := u.areaPlan k (u.img k) fresh fun c => if fresh then pos.getD c 0 else (u.posOf k c).getD 0
      let placed := if fresh then u.placeFor (u.img k) (u.img k).rate else some []
      (s.tb.state ≠ .running → Completes (.partStart r w) s fun t => t.mbox = [(m 3).ends .busy 0 0] ∧ t.partState = s.partState) ∧
      (s.tb.state = .running → T ≠ 0 → T ≤ s.partS k → Completes (.partStart r w) s fun t => t.mbox = [(m 3).ends .staleEpoch 0 0] ∧
        t.partState = s.partState) ∧
      (s.tb.state = .running → T ≠ 0 → s.partS k < T → T < s.now + 4 * (s.cfg k).round → Completes (.partStart r w) s fun t =>
        t.mbox = [(m 3).ends .staleEpoch 0 0] ∧ t.partState = s.partState) ∧
      (∀ e, s.tb.state = .running → (T = 0 ∨ s.partS k < T) → u.now + 4 * (s.cfg k).round ≤ τ → u.startFail k (u.img k) = some e →
        Completes (.partStart r w) s fun t => t.mbox = [(m 3).ends .badImage e.detail (e.item % 2 ^ 32)] ∧ t.partState = s.partState) ∧
      (s.tb.state = .running → (T = 0 ∨ s.partS k < T) → u.now + 4 * (s.cfg k).round ≤ τ → u.startFail k (u.img k) = none → placed = none →
        Completes (.partStart r w) s fun t => t.mbox = [(m 3).ends .refusedCapacity 1 (u.lacking (u.img k))] ∧ t.partState = s.partState) ∧
      (∀ pos, s.tb.state = .running → (T = 0 ∨ s.partS k < T) → u.now + 4 * (s.cfg k).round ≤ τ → u.startFail k (u.img k) = none →
        placed = some pos → (area pos).lack ≠ 0 → Completes (.partStart r w) s fun t =>
          t.mbox = [(m 3).ends .refusedCapacity 0 (((area pos).lack + 2 ^ 20 - 1) / 2 ^ 20)] ∧ t.partState = s.partState) ∧
      (∀ pos g mw ew, s.tb.state = .running → (T = 0 ∨ s.partS k < T) → u.now + 4 * (s.cfg k).round ≤ τ →
        u.startFail k (u.img k) = none → placed = some pos → (area pos).lack = 0 →
        let v := (u.takeAreas k (u.img k) fresh (area pos)).mapped k fresh pos
        ((s.cfg k).prot = true → v.protOk k (u.img k) = true) →
        v.admission k (u.img k) (u.img k).rate (v.posOf k) (v.rootOf k) (v.members k) = .ok g mw ew →
        let doms := u.startDoms k ⟨pos, area pos, g, mw, ew⟩
        (doms.all u.domReady = true → Completes (.partStart r w) s fun t =>
          t.mbox = [(m 3).ends .ok 0 0] ∧ t.part k = .running ∧ (t.cfg k).g = g ∧ (t.cfg k).ew = ew ∧
          (s.part k = .loaded → (t.cfg k).start = τ) ∧ ∀ e ∈ t.sourceIds k, (t.source k e).active = true) ∧
        (doms.all u.domReady = false → Completes (.partStart r w) s fun t =>
          t.mbox = [{ m 3 with phase := 1 }] ∧ t.partState = s.partState ∧ t.parts = s.parts ∧ t.mem = s.mem ∧
          ∀ d ∈ doms, (t.dom d).latest = .run)) ∧
      (s.tb.state = .running → (T = 0 ∨ s.partS k < T) → Completes (.partStart r w) s fun t =>
        (t.mbox = [{ m 3 with phase := 1 }] ∧ t.partState = s.partState) ∨ ∃ st d0 d1, t.mbox = [(m 3).ends st d0 d1] ∧
          (st = .ok → t.part k = .running ∧ (t.cfg k).stopAt = none ∧ ((t.cfg k).ep = ((s.cfg k).ep + 1) % 2 ^ 32 ∨
            ((t.cfg k).short ≠ 256 ∧ (t.cfg k).ep = ((s.cfg k).ep + 2) % 2 ^ 32))) ∧
          (st ≠ .ok → t.partState = s.partState ∧ t.parts = s.parts ∧ t.mem = s.mem))) ∧
    (s.mbAllowed r k 4 →
      let T := a 0 + a 1 * 2 ^ 32
      (T ≤ s.partS k → Completes (.partStop r w) s fun t => t.mbox = [(m 4).ends .staleEpoch 0 0] ∧ t.parts = s.parts) ∧
      (s.partS k < T → Completes (.partStop r w) s fun t => t.mbox = [{ m 4 with phase := 1 }] ∧ (t.cfg k).stopAt = some T ∧
        t.partState = s.partState)) ∧
    (s.mbAllowed r k 5 → Completes (.partRelease r w) s fun t => t.mbox = [(m 5).ends .ok 0 0] ∧ t.part k = .free ∧
      (∀ c, c < 256 → t.mapEntry k c = ⟨0, false, false⟩) ∧ (∀ n, n < 16 → t.owner (chin n) ≠ k) ∧
      (t.cfg k).ep = (if s.part k = .loaded then (s.cfg k).ep else ((s.cfg k).ep + 1) % 2 ^ 32) ∧
      (t.cfg k).size = 0 ∧ ∀ j, j ≠ k → t.part j = s.part j) ∧
    (s.mbAllowed r k 11 → Completes (.query r w) s fun t => t.parts = s.parts ∧ t.mbox = [{ (m 11).ends .ok 0 0 with res :=
      [(s.part k).code + (s.cfg k).cls * 2 ^ 3 + b2n (s.cfg k).prot * 2 ^ 5 + min (s.cfg k).short 255 * 2 ^ 8 + (s.placed k).length % 256 * 2 ^ 16,
        (s.cfg k).ep, s.partS k % 2 ^ 32, s.partS k / 2 ^ 32] }])

/-- R344, R360, R362 to R366, R254: what an idle Bureau does with the commands that change a running partition's placement: MIGRATE and PARK start a move
of a placed logical Cabinet, UNPARK one from its park area once admission allows it, each with its refusals and, towards a position, with RUN asked of
its domain and the active copy of the map noted there (R345); REBALANCE writes new shares, starts its moves and pins anew where AUTO_PIN allows, or
only pins anew; CONSOLIDATE sends its markers for a time after safe time. What placement chooses is the model's (log entry 46). -/
def Obligations.PlacementChangesStart : Prop :=
  ∀ (r : Req) (w : Word) (s : State), s.mbIdle r →
    let k := w.bits 13 8
    let f := r.view
    let m (op : Nat) : MbCmd := mbTaken f (w.setBits 7 0 op) [] [] s
    let c := s.rdN (bur f) 0x044 % 256
    let moving (op src dst : Nat) (t : State) : Prop :=
      t.mbox = [{ m op with phase := 1, cab := c, src := src, dst := dst }] ∧ (dst < 288 → t.owner (cctl dst) = k ∧ (s.fusedOff (4 + dst) = false → (t.dom (4 + dst)).latest = .run) ∧
        SMap.get (fun _ => false) t.mapCur (512 * k + dst) = s.mapSecond 0x161 k) ∧ t.maps = s.maps ∧ t.maps2 = s.maps2
    (s.mbAllowed r k 6 →
      let named := s.rdN (bur f) 0x044 / 2 ^ 16 % 512
      (∀ p q, s.posOf k c = some p → s.targetFor k c p named = some q → q < 288 → Completes (.migrate r w) s (moving 6 p q)) ∧
      (∀ p, s.posOf k c = some p → s.targetFor k c p named = none → s.ctrFrozen pPlc = false → Completes (.migrate r w) s fun t =>
        t.mbox = [(m 6).ends .refusedCapacity 1 1] ∧ t.rdN pPlc 0x084 = min (s.rdN pPlc 0x084 + 1) 4294967295 ∧ t.flag pPlc 0x010 4 = true) ∧
      (s.posOf k c = none → (s.mapEntry k c).valid = true → Completes (.migrate r w) s fun t => t.mbox = [(m 6).ends .busy 0 0] ∧ t.maps = s.maps)) ∧
    (s.mbAllowed r k 7 →
      (∀ p, s.posOf k c = some p → (s.img k).parkable c = true → Completes (.park r w) s (moving 7 p 512)) ∧
      (∀ p, s.posOf k c = some p → (s.img k).parkable c = false → Completes (.park r w) s fun t => t.mbox = [(m 7).ends .busy 0 0]) ∧
      (s.posOf k c = none → Completes (.park r w) s fun t => t.mbox = [(m 7).ends .busy 0 0])) ∧
    (s.mbAllowed r k 8 →
      ((s.mapEntry k c).valid = false ∨ (s.mapEntry k c).parked = false → Completes (.unpark r w) s fun t => t.mbox = [(m 8).ends .busy 0 0]) ∧
      ((s.mapEntry k c).valid = true → (s.mapEntry k c).parked = true → s.spares.length < 9 → Completes (.unpark r w) s fun t =>
        t.mbox = [(m 8).ends .refusedCapacity 1 1] ∧ t.flag pPlc 0x010 4 = true) ∧
      (∀ q d, (s.mapEntry k c).valid = true → (s.mapEntry k c).parked = true → 9 ≤ s.spares.length → s.returnPos k c = some q →
        (s.mbEntered (m 8)).admission k (s.img k) (s.img k).rate (fun a => if a = c then some q else s.posOf k a) (s.rootOf k) (s.members k ++ [q]) =
          .refused d →
        Completes (.unpark r w) s fun t => t.mbox = [(m 8).ends .refusedBandwidth d 0] ∧ t.flag pPlc 0x010 4 = true ∧ t.parts = s.parts) ∧
      (∀ q g mw ew, (s.mapEntry k c).valid = true → (s.mapEntry k c).parked = true → 9 ≤ s.spares.length → s.returnPos k c = some q → q < 288 →
        (s.mbEntered (m 8)).admission k (s.img k) (s.img k).rate (fun a => if a = c then some q else s.posOf k a) (s.rootOf k) (s.members k ++ [q]) =
          .ok g mw ew →
        Completes (.unpark r w) s fun t => moving 8 512 q t ∧ (t.cfg k).g = g ∧ (t.cfg k).mw = mw ∧ (t.cfg k).ew = ew)) ∧
    (s.mbAllowed r k 9 → ∀ (obs : List (Nat × Nat × Nat)) (pins : List (Nat × List Nat)),
      let n := mbTaken f (w.setBits 7 0 9) obs pins s
      ((s.placed k).any (fun e => s.flag (xpnd e.2) 0x044 1) = true → Completes (.rebalance r w obs pins) s fun t =>
        t.mbox = [n.ends .busy 0 0] ∧ t.parts = s.parts) ∧
      ((s.placed k).any (fun e => s.flag (xpnd e.2) 0x044 1) = false → (s.rdN (bur f) 0x044).testBit 1 = true →
        Completes (.rebalance r w obs pins) s fun t => t.mbox = [n.ends .ok 0 0] ∧ (t.cfg k).ep = ((s.cfg k).ep + 1) % 2 ^ 32 ∧
          t.maps = s.maps ∧ t.maps2 = s.maps2 ∧ ∀ c' p l, pins = [(c', l)] → s.posOf k c' = some p → p < 288 → t.flag (xpnd p) 0x044 1 = true) ∧
      (∀ d, (s.placed k).any (fun e => s.flag (xpnd e.2) 0x044 1) = false → (s.rdN (bur f) 0x044).testBit 1 = false →
        (s.mbEntered n).admission k (s.img k) (n.rates (s.img k)) (s.posOf k) (s.rootOf k) (s.members k) = .refused d →
        Completes (.rebalance r w obs pins) s fun t => t.mbox = [n.ends .refusedBandwidth d 0] ∧ t.parts = s.parts ∧ t.flag pPlc 0x010 4 = true) ∧
      (∀ g mw ew, (s.placed k).any (fun e => s.flag (xpnd e.2) 0x044 1) = false → (s.rdN (bur f) 0x044).testBit 1 = false →
        (s.mbEntered n).admission k (s.img k) (n.rates (s.img k)) (s.posOf k) (s.rootOf k) (s.members k) = .ok g mw ew →
        (s.mbEntered n).replace k n = [] → Completes (.rebalance r w obs pins) s fun t => t.mbox = [n.ends .ok 0 0] ∧
          (t.cfg k).g = g ∧ (t.cfg k).mw = mw ∧ (t.cfg k).ew = ew ∧
          (t.cfg k).ep = (if s.flag pPlc 0x040 1 then ((s.cfg k).ep + 1) % 2 ^ 32 else (s.cfg k).ep)) ∧
      (∀ g mw ew c' p q rest, (s.placed k).any (fun e => s.flag (xpnd e.2) 0x044 1) = false → (s.rdN (bur f) 0x044).testBit 1 = false →
        (s.mbEntered n).admission k (s.img k) (n.rates (s.img k)) (s.posOf k) (s.rootOf k) (s.members k) = .ok g mw ew →
        (s.mbEntered n).replace k n = (c', q) :: rest → s.posOf k c' = some p → q < 288 → Completes (.rebalance r w obs pins) s fun t =>
          t.mbox = [{ n with phase := 1, cab := c', src := p, dst := q, todo := rest }] ∧ t.owner (cctl q) = k ∧ (t.cfg k).ew = ew)) ∧
    (s.mbAllowed r k 10 →
      let T := s.rdN (bur f) 0x044 + s.rdN (bur f) 0x048 * 2 ^ 32
      (T ≤ s.partS k → Completes (.consolidate r w) s fun t => t.mbox = [(m 10).ends .staleEpoch 0 0] ∧ t.net = s.net) ∧
      (s.partS k < T → s.placed k ≠ [] → Completes (.consolidate r w) s fun t =>
        t.mbox = [{ m 10 with phase := 1, todo := (s.placed k).map fun e => (e.2, 0) }] ∧ t.net.length = s.net.length + (s.placed k).length))

/-- Table 13.9, R345, R349, R353, R361: a move runs: it waits until the domain of its target runs (R475); its source freezes at the first round sample (a
Cabinet to be parked must be quiescent), its state is copied and the new map entry stands in the inactive copies under MAP_SWITCH, every holder notes
r_e, and when FWD has run out the source is a spare again. A command that ends writes its status, tag, details and results, and raises MB_DONE;
PART_STOP ends once every source is done, with DISCARD dropping the results not yet released; a PART_START that waits ends once its domains run. -/
def Obligations.MovesAndCommandsComplete : Prop :=
  (∀ (f : Nat) (m : MbCmd) (s : State), s.mbox.find? (fun m => m.fn = f && m.phase = 1 && m.src ≠ m.dst) = some m →
    roundFrom m.since (s.cfg m.key).round * (s.cfg m.key).round ≤ s.now →
    (m.dst < 512 → s.domReady (4 + m.dst) = false → Completes (.migrationFreeze f) s fun t => t = s) ∧
    (512 ≤ m.src → (m.dst < 512 → s.domReady (4 + m.dst) = true) → Completes (.migrationFreeze f) s fun t => t.mbox = s.mbox.replace m { m with phase := 2 } ∧ t.cabs = s.cabs) ∧
    (m.src < 512 → m.dst = 512 → s.quiescent m.src = false → Completes (.migrationFreeze f) s fun t =>
      t.mbox = s.mbox.replace m { m with phase := 5, status := .busy, d0 := 0, d1 := 0 } ∧ t.cabs = s.cabs) ∧
    (m.src < 512 → (m.dst < 512 → s.domReady (4 + m.dst) = true) → (m.dst = 512 → s.quiescent m.src = true) → Completes (.migrationFreeze f) s fun t =>
      t.mbox = s.mbox.replace m { m with phase := 2 } ∧ (t.cab m.src).frozen = true ∧ t.live m.src = false ∧
        t.flag (drw m.src 0) 0x040 0 = true ∧ t.flag (trs m.src 1) 0x040 0 = true)) ∧
  (∀ (f : Nat) (m : MbCmd) (s : State), s.mbox.find? (fun m => m.fn = f && m.phase = 2) = some m → m.cab < 256 →
    Completes (.migrationCopyDone f) s fun t => t.mbox = s.mbox.replace m { m with phase := 3, re := s.switchRound m.key } ∧
      t.mapEntry m.key m.cab = s.mapEntry m.key m.cab ∧
      t.mapCopy (!s.mapSecond 0x161 m.key) m.key m.cab = (if m.dst = 512 then ⟨m.src, true, true⟩ else ⟨m.dst, false, true⟩) ∧
      (SMap.wf (fun _ => ⟨0, false, false⟩) s.maps = true → SMap.wf (fun _ => ⟨0, false, false⟩) s.maps2 = true → ∀ c, c < 256 → c ≠ m.cab →
        t.mapCopy (!s.mapSecond 0x161 m.key) m.key c = s.mapEntry m.key c) ∧
      SMap.get (fun _ => (none : Option Nat)) t.mapRe (512 * m.key + 0x161) = some (s.switchRound m.key % 65536) ∧
      (m.dst = 512 → (SMap.get (fun _ => (none : Option Ckpt)) t.parkAreas (256 * m.key + m.cab)).isSome = true) ∧
      (m.src = 512 → m.dst < 512 → t.parkAreas = s.parkAreas) ∧
      (m.src < 288 → m.dst < 288 → m.src ≠ m.dst → (t.cab m.dst).frozen = true ∧ (t.cab m.dst).core = (s.cab m.src).core ∧
        (t.cab m.dst).x.dlv = (s.cab m.src).x.dlv)) ∧
  (∀ (e : Nat) (a : Arrival) (s : State), s.mgmtAt e 0x40 = some a →
    Completes (.mapSwitchFlit e) s fun t => t.inbox = s.inbox.erase a ∧ t.maps = s.maps ∧ t.maps2 = s.maps2 ∧ t.mapCur = s.mapCur ∧
      SMap.get (fun _ => (none : Option Nat)) t.mapRe (512 * nb a.flit.payload 103 98 + e) = some (nb a.flit.payload 119 104)) ∧
  (∀ (m : MbCmd) (s : State), s.mbox = [m] →
    (m.phase = 5 → m.res.length ≤ 4 → Completes (.mailboxCommandDone m.fn) s fun t => t.mbox = [] ∧ t.flag (bur m.fn) 0x010 0 = true ∧
      t.rd (bur m.fn) 0x064 = BitVec.ofNat 32 ((Config.mbCode m.status.idx).toNat + 2 ^ 8 + s.fld (bur m.fn) 0x064 10 10 * 2 ^ 10 + m.tag * 2 ^ 16) ∧
      t.rdN (bur m.fn) 0x068 = m.d0 % 2 ^ 32 ∧ t.rdN (bur m.fn) 0x06C = m.d1 % 2 ^ 32 ∧ t.partState = s.partState ∧
      ∀ v0 v1 v2 v3, m.res = [v0, v1, v2, v3] → t.rdN (bur m.fn) 0x070 = v0 % 2 ^ 32 ∧ t.rdN (bur m.fn) 0x07C = v3 % 2 ^ 32) ∧
    (m.op = 4 → m.phase = 1 → s.stopReady m.key ((m.arg 2).testBit 0) = true → Completes (.mailboxCommandDone m.fn) s fun t =>
      t.mbox = [] ∧ (0 < m.key → t.part m.key = .stopped) ∧ t.flag (bur m.fn) 0x010 0 = true ∧
      ((m.arg 2).testBit 0 = true → ∀ n, n < 16 → s.owner (chin n) = m.key →
        (t.dec n).pq = (s.dec n).pq.filter (·.fate = 4) ∧ (t.dec n).cut = max (s.dec n).cut ((s.cfg m.key).stopAt.getD 0) ∧ (t.dec n).seq = (s.dec n).seq)) ∧
    (m.op = 3 → m.phase = 1 →
      let τ := s.startTime m.key (m.arg64 0) m.since
      ((s.startPlan m.key τ).toOption = none → Completes (.mailboxCommandDone m.fn) s fun t =>
        t.mbox = [] ∧ t.flag (bur m.fn) 0x010 0 = true ∧ t.partState = s.partState) ∧
      ∀ x, (s.startPlan m.key τ).toOption = some x →
        ((s.startDoms m.key x).all s.domReady = true → Completes (.mailboxCommandDone m.fn) s fun t =>
          t.mbox = [] ∧ t.flag (bur m.fn) 0x010 0 = true ∧ (0 < m.key → t.part m.key = .running)) ∧
        ((s.startDoms m.key x).all s.domReady = false → Completes (.mailboxCommandDone m.fn) s fun t => t.mbox = [m] ∧ t.partState = s.partState)) ∧
    (m.op ≠ 4 → m.phase = 4 → m.src < 288 → m.dst < 288 → m.src ≠ m.dst → s.flag (rtr m.src) 0x058 31 = false → m.todo = [] → s.ctrFrozen pPlc = false →
      Completes (.mailboxCommandDone m.fn) s fun t => t.mbox = [] ∧ t.owner (cctl m.src) = 0 ∧ (t.dom (4 + m.src)).cur = .sleep ∧
        (t.cfg m.key).ep = ((s.cfg m.key).ep + 1) % 2 ^ 32 ∧ t.flag pPlc 0x010 0 = true ∧
        t.rdN pPlc 0x07C = min (s.rdN pPlc 0x07C + 1) 4294967295))

/-- R348, R357, R410, Table 13.7: an image that has been pulled is checked in full: one that fails ends the command with BAD_IMAGE and its detail, one
without room with REFUSED_CAPACITY, and one that is loaded makes the partition LOADED with the image as its own; a failed or late read ends the
command with TIMEOUT. R398, R399: who may write PG_OWNER, the pages that move together, and the lock. The layouts of some sections and the order of
two failures of one item are the model's choice (log entry 45). -/
def Obligations.ImagesOwnersAndLocks : Prop :=
  (∀ (f v : Nat) (m : MbCmd) (s : State), s.imagePull f = some m → 0 < m.key →
    let i : Img := ⟨v, m.arg64 2⟩
    (i.at 0 4 = 0x4E525456 → i.at 4 2 ≠ 3 → Completes (.dmaReadCompletion (.image f) (.data v)) s fun t =>
      t.mbox = s.mbox.replace m (m.ends .unsupported 0 0) ∧ t.parts = s.parts ∧ t.partState = s.partState ∧ t.mem = s.mem) ∧
    (∀ e, ¬(i.at 0 4 = 0x4E525456 ∧ i.at 4 2 ≠ 3) → s.imageFail m.key i = some e → Completes (.dmaReadCompletion (.image f) (.data v)) s fun t =>
      t.mbox = s.mbox.replace m (m.ends .badImage e.detail (e.item % 2 ^ 32)) ∧ t.parts = s.parts ∧ t.partState = s.partState ∧ t.mem = s.mem) ∧
    (¬(i.at 0 4 = 0x4E525456 ∧ i.at 4 2 ≠ 3) → s.imageFail m.key i = none →
      let pos := (s.placeFor i i.rate).getD []
      let a := s.allotAll (s.cfg m.key).prot (fun c => if c < 256 then pos.getD c 0 else (endAt (0x120 + s.physChan (c - 256))).1)
        (i.areas (s.cfg m.key).prot) []
      let lack := a.2.2 + i.spillOver
      (lack ≠ 0 → Completes (.dmaReadCompletion (.image f) (.data v)) s fun t =>
        t.mbox = s.mbox.replace m (m.ends .refusedCapacity 0 ((lack + 2 ^ 20 - 1) / 2 ^ 20)) ∧ t.parts = s.parts ∧ t.flag pPlc 0x010 4 = true) ∧
      (lack = 0 → s.chansTaken m.key i = 0 → Completes (.dmaReadCompletion (.image f) (.data v)) s fun t =>
        t.mbox = s.mbox.replace m (m.ends .ok 0 0) ∧ t.part m.key = .loaded ∧ (t.cfg m.key).image = v ∧ (t.cfg m.key).size = m.arg64 2 ∧
        (t.cfg m.key).look = i.look ∧ (t.cfg m.key).round = i.round ∧ (t.cfg m.key).areas = a.1)) ∧
    (Completes (.dmaReadCompletion (.image f) (.data v)) s fun t => ∃ st d0 d1, t.mbox = s.mbox.replace m (m.ends st d0 d1) ∧
      (st = .ok → t.part m.key = .loaded ∧ (t.cfg m.key).image = v ∧ (t.cfg m.key).size = m.arg64 2 ∧ (t.cfg m.key).look = i.look ∧
        (t.cfg m.key).round = i.round ∧ (t.cfg m.key).nlog = i.nlog) ∧
      (st ≠ .ok → t.parts = s.parts ∧ t.partState = s.partState ∧ t.mem = s.mem)) ∧
    (∀ d, (∀ x, d ≠ .data x) → Completes (.dmaReadCompletion (.image f) d) s fun t => t.mbox = s.mbox.replace m (m.ends .timeout 0x80000001 0) ∧
      t.parts = s.parts) ∧
    (Completes (.completionTimeout (.image f)) s fun t => t.mbox = s.mbox.replace m (m.ends .timeout 0x80000001 0) ∧ t.parts = s.parts ∧
      AerNoted s t f .completionTimeout) ∧
    (m.since + 60 * 32000000000 ≤ s.now → Completes (.imageLoadTimeout f) s fun t => t.mbox = s.mbox.replace m (m.ends .timeout 0 0) ∧
      t.parts = s.parts)) ∧
  (∀ (r : Req) (p : Page) (w : Word) (s : State), s.passes r p 0x028 = true →
    (r = .fn 0 ∨ r = .bureau → (r = .bureau ∨ ((s.owner p = 0 ∨ s.part (s.owner p) = .free) ∧ (w.bits 5 0 = 0 ∨ s.part (w.bits 5 0) = .free))) →
      Completes (.pgOwnerWrite r p w) s fun t => t.owner p = w.bits 5 0 ∧
        (p.blk = .chin → t.owner (chenc p.inst) = w.bits 5 0 ∧ t.owner (chdec p.inst) = w.bits 5 0 ∧ t.owner (chtmr p.inst) = w.bits 5 0) ∧
        (s.owner p ≠ w.bits 5 0 → (t.route p).bit 15 = false)) ∧
    (r = .fn 0 → s.owner p ≠ 0 → s.part (s.owner p) ≠ .free → Completes (.pgOwnerWrite r p w) s fun t =>
      t.owner p = s.owner p ∧ Recorded s t p 5 0x013 0x028) ∧
    (∀ f, r = .fn f → 0 < f → f < 64 → Completes (.pgOwnerWrite r p w) s fun t => t.owner p = s.owner p ∧
      Recorded s t (intg f) 6 0x102 (s.viewSlot f p))) ∧
  (∀ (r : Req) (p : Page) (w : Word) (s : State), s.passes r p 0x02C = true → (∀ c, r ≠ .core c) →
    (w.bits 15 0 = s.lockKey p → Completes (.pgLockWrite r p w) s fun t => t.lockKey p = w.bits 31 16 ∧ t.regs = s.regs) ∧
    (w.bits 15 0 ≠ s.lockKey p → Completes (.pgLockWrite r p w) s fun t => t.locks = s.locks ∧ Recorded s t p 5 0x002 0))

/-! ### Memory stacks (14_memory_stacks.md) -/

/-- R371, R374 to R377, R379, R380: a memory request. One that the region check refuses is answered with ISOLATION (code 0x0F0 or 0x0F1), recorded and
counted, and changes no memory. A read is answered with its lines, one response each; an uncorrectable line comes from its mirror, where that is good
and its pseudo-channel not retired, which repairs it, or is answered with status 2, recorded (code 0x031) and reported. A write stores the words that
QMASK selects, at every copy, and nothing else. -/
def Obligations.MemoryRequestsAreServed : Prop :=
  ∀ (f : MFlit) (s : State),
    let a := f.line * 64
    let h := stackOf a
    let p := hut0 h
    let sys := decide (2 ≤ f.op) && ((decide (0x140 ≤ f.src) && decide (f.src < 0x160)) || f.src = 0x161)
    let denied := (List.range (if f.op % 2 = 0 then 2 ^ f.len else 1)).findSome? fun i => s.stackDenied f.key (a + 64 * i) sys
    let answers (st beat data : Nat) : Hop := s.newHop ((memAttach f.dest).getD (0, 0)).1 ((memAttach f.dest).getD (0, 0)).2 false false
      (.mem ⟨f.src, f.dest, f.key, st, beat, f.tag, f.line, 0, 0, 1 + beat % 2, true, data⟩)
    let quiet := f.resp = false ∧ f.op < 4 ∧ f.len < 3
    let retired := (s.rdN p 0x048).testBit (s.pcOf a)
    (∀ ecc, (f.resp = true ∨ 4 ≤ f.op ∨ 3 ≤ f.len) → Completes (.memoryRequest f ecc) s fun t => t = s.ans .none) ∧
    (∀ ecc code, quiet → denied = some code → s.ctrFrozen p = false → Completes (.memoryRequest f ecc) s fun t => t.mem = s.mem ∧
      t.net = s.net ++ [answers 3 0 0] ∧ Recorded s t p 6 code (regionOf a + f.key % 64 * 32) ∧ t.flag p 0x010 6 = true ∧
      t.rdN p 0x068 = min (s.rdN p 0x068 + 1) 4294967295) ∧
    (quiet → denied = none → f.op % 2 = 0 → f.len = 0 → retired = false → Completes (.memoryRequest f []) s fun t => t.mem = s.mem ∧
      t.net = s.net ++ [answers 0 0 (s.load a 64)] ∧ t.regs = s.regs) ∧
    (∀ ecc, quiet → denied = none → f.op % 2 = 0 → Completes (.memoryRequest f ecc) s fun t => t.net.length = s.net.length + 2 ^ f.len) ∧
    (∀ b, quiet → denied = none → f.op % 2 = 0 → f.len = 0 → retired = false → s.mirrorAt a = none → s.flag p 0x040 1 = false →
      s.ctrFrozen p = false → Completes (.memoryRequest f [.uncorrectable b]) s fun t => t.mem = s.mem ∧ t.net = s.net ++ [answers 2 0 0] ∧
        Recorded s t p 2 0x031 (s.pcOf a) ∧ t.flag p 0x010 1 = true ∧ t.rdN p 0x060 = min (s.rdN p 0x060 + 1) 4294967295 ∧
        t.faultReports = s.faultReports ++ [⟨p, 0x031, s.now, 512 * (s.regCfg h (regionOf a)).bits 5 0⟩]) ∧
    (∀ b m, quiet → denied = none → f.op % 2 = 0 → f.len = 0 → retired = false → s.mirrorAt a = some m → (b = true ∨ s.onRetired m = true) →
      s.flag p 0x040 1 = false → Completes (.memoryRequest f [.uncorrectable b]) s fun t => t.mem = s.mem ∧ t.net = s.net ++ [answers 2 0 0] ∧
        Recorded s t p 2 0x031 (s.pcOf a)) ∧
    (∀ m, quiet → denied = none → f.op % 2 = 0 → f.len = 0 → retired = false → s.mirrorAt a = some m → s.onRetired m = false → s.flag p 0x040 1 = false →
      s.ctrFrozen p = false → Completes (.memoryRequest f [.uncorrectable false]) s fun t => t.net = s.net ++ [answers 0 0 (s.load m 64)] ∧
        t.load a 64 = s.load m 64 ∧ (∀ b, (b < a ∨ a + 64 ≤ b) → t.byte b = s.byte b) ∧ Recorded s t p 1 0x0F2 (s.pcOf a) ∧
        t.rdN p 0x064 = min (s.rdN p 0x064 + 1) 4294967295) ∧
    (∀ b, quiet → denied = none → f.op % 2 = 0 → f.len = 0 → retired = false → s.flag p 0x040 1 = true → s.fld p 0x06C 7 0 ≤ 1 →
      s.pcOf a < 32 → Completes (.memoryRequest f [.uncorrectable b]) s fun t => (t.rdN p 0x048).testBit (s.pcOf a) = true) ∧
    (∀ ecc, quiet → denied = none → f.op % 2 = 1 → Completes (.memoryRequest f ecc) s fun t =>
      (∀ i, i < 8 → t.load (a + 8 * i) 8 = if f.qmask.testBit i then f.data / 2 ^ (64 * i) % 2 ^ 64 else s.load (a + 8 * i) 8) ∧
      (∀ m, s.mirrorAt a = some m → ∀ i, i < 8 → f.qmask.testBit i = true → t.load (m + 8 * i) 8 = f.data / 2 ^ (64 * i) % 2 ^ 64) ∧
      (s.mirrorAt a = none → ∀ b, (b < a ∨ a + 64 ≤ b) → t.byte b = s.byte b) ∧ t.regs = s.regs ∧
      ((f.line + 1) % 2 ^ f.len = 0 → s.fuses.stkEn.testBit h = true → t.net = s.net ++ [answers 1 0 0]))

/-- R378 to R384: the scrubber moves on line by line through the allotted regions and repairs what it reads; a retired pseudo-channel is recorded (code
0x0F3), lowers the stack's bandwidth and degrades its mirrored regions; an imbalance window shows its counts and alarms for a region that stayed hot;
a re-layout starts if it may (code 0x0F4 otherwise, and while one runs), and its last line swaps the slots and the function, at the mirror too, and
raises the alarm that fell due meanwhile. The numbering of imbalance windows is the model's choice (log entry 56). -/
def Obligations.HutchesScrubRetireAndRelayout : Prop :=
  (∀ (h : Nat) (s : State), s.flag (hut0 h) 0x040 0 = true → ∀ sl r, s.nextSlot h (s.fld (hut0 h) 0x058 4 0) = some (sl, r) →
    let line := if sl = s.fld (hut0 h) 0x058 4 0 then s.fld (hut0 h) 0x058 28 5 else 0
    let a := h * 2 ^ 35 + r * 2 ^ 30 + line * 64
    (h < 4 → (s.rdN (hut0 h) 0x048).testBit (s.pcOf a) = false → Completes (.scrubRead h .clean) s fun t => t.mem = s.mem ∧ t.net = s.net ∧
      t.rdN (hut0 h) 0x058 = (if line + 1 = 2 ^ 24 then ((s.nextSlot h ((sl + 1) % 24)).map (·.1)).getD sl else sl + (line + 1) * 32) % 2 ^ 32) ∧
    (∀ m, h < 4 → (s.rdN (hut0 h) 0x048).testBit (s.pcOf a) = false → s.mirrorAt a = some m → s.onRetired m = false → s.flag (hut0 h) 0x040 1 = false →
      Completes (.scrubRead h (.uncorrectable false)) s fun t => t.load a 64 = s.load m 64 ∧ (∀ b, (b < a ∨ a + 64 ≤ b) → t.byte b = s.byte b) ∧
        Recorded s t (hut0 h) 1 0x0F2 (s.pcOf a))) ∧
  (∀ (r : Req) (h : Nat) (w : Word) (s : State), s.passes r (hut0 h) 0x04C = true →
    (w.bit 31 = false → Completes (.pcRetire r h w) s fun t => t.regs = s.regs ∧ t.hutches = s.hutches) ∧
    (w.bit 31 = true → (s.rdN (hut0 h) 0x048).testBit (w.bits 4 0) = false → Completes (.pcRetire r h w) s fun t =>
      (t.rdN (hut0 h) 0x048).testBit (w.bits 4 0) = true ∧ t.healthyPcs h + 1 = s.healthyPcs h ∧ t.rdN (hut0 h) 0x050 = 31 * t.healthyPcs h ∧
      t.rdN (hut0 h) 0x044 = 3 + t.healthyPcs h * 256 ∧ Recorded s t (hut0 h) 3 0x0F3 (w.bits 4 0) ∧ t.flag (hut0 h) 0x010 3 = true ∧
      (∀ x, x < s.regionCount → (s.regCfg h x).bit 31 = true → (s.regCfg h x).bit 24 = true → (s.regCfg h x).bits 9 6 ≠ 2 → (t.regCfg h x).bit 25 = true) ∧
      (∀ x f fn, (s.hutch h).relayout = some (x, f, fn) → x < s.regionCount → (s.regCfg h x).bit 24 = false → (t.hutch h).relayout = none) ∧
      (h < 4 → s.fuses.stkEn.testBit h = true → t.fld pPlc (0x050 + 8 * h) 15 0 = 31 * t.healthyPcs h))) ∧
  (∀ (h : Nat) (s : State),
    (s.imbWindow h = (s.hutch h).window → (s.hutch h).past = [] → Completes (.imbalanceWindow h) s fun t => t.hutches = s.hutches ∧ t.regs = s.regs) ∧
    (s.imbWindow h ≠ (s.hutch h).window → Completes (.imbalanceWindow h) s fun t => (t.hutch h).counts = [] ∧ (t.hutch h).past = [] ∧ (t.hutch h).window = s.imbWindow h ∧
      ((s.hutch h).past = [] → ∀ p, p < 32 → t.rdN (hut1 h) (0x300 + 4 * p) = if (s.hutch h).window + 1 = s.imbWindow h then
        (((s.hutch h).counts.filter fun e => e.1 % 32 = p).foldl (fun a e => a + e.2) 0) % 2 ^ 32 else 0) ∧
      (∀ r p n, (s.hutch h).past = [] → (s.hutch h).window ≤ (s.hutch h).judged + 1 → (s.hutch h).counts = [(32 * r + p, n)] → r < s.regionCount → p < 32 → s.rdN (hut0 h) 0x078 ≤ n → 0 < n → 4 < s.healthyPcs h →
        s.fld (hut0 h) 0x074 15 0 ≤ SMap.get (fun _ => 0) (s.hutch h).hot (32 * r + p) + 1 → (s.hutch h).relayout = none →
        s.flag pPlc 0x040 0 = false → t.rdN (hut0 h) 0x07C = r + p * 32 + 2 ^ 31 ∧ t.flag (hut0 h) 0x00C 1 = true ∧ t.flag (hut0 h) 0x010 4 = true))) ∧
  (∀ (r : Req) (h : Nat) (w : Word) (s : State), s.passes r (hut0 h) 0x080 = true →
    ((s.hutch h).relayout.isSome = true → Completes (.relayout r h w) s fun t => t.hutches = s.hutches ∧ t.rd (hut0 h) 0x080 = s.rd (hut0 h) 0x080 ∧
      Recorded s t (hut0 h) 5 0x0F4 (w.bits 4 0)) ∧
    ((s.hutch h).relayout = none → w.bit 30 = false → Completes (.relayout r h w) s fun t => t.hutches = s.hutches ∧ t.fld (hut0 h) 0x080 11 0 = w.bits 11 0) ∧
    (w.bit 30 = true → s.relayoutOk h (w.bits 4 0) (w.bits 9 5) = true → Completes (.relayout r h w) s fun t =>
      (t.hutch h).relayout = some (w.bits 4 0, w.bits 9 5, w.bits 11 10) ∧ t.rdN (hut0 h) 0x084 = 0 ∧ t.flag (hut0 h) 0x080 31 = true ∧
      t.mem = s.mem) ∧
    (w.bit 30 = true → s.relayoutOk h (w.bits 4 0) (w.bits 9 5) = false → Completes (.relayout r h w) s fun t => t.hutches = s.hutches ∧
      t.rd (hut0 h) 0x080 = s.rd (hut0 h) 0x080 ∧ Recorded s t (hut0 h) 5 0x0F4 (w.bits 4 0))) ∧
  (∀ (h r f fn : Nat) (s : State), (s.hutch h).relayout = some (r, f, fn) → r < s.regionCount → f < 32 → fn < 4 →
    (s.fld (hut0 h) 0x084 24 0 + 1 < 2 ^ 24 → Completes (.relayoutLineCopy h) s fun t => t.mem = s.mem ∧
      t.rdN (hut0 h) 0x084 = s.fld (hut0 h) 0x084 24 0 + 1 ∧ (t.hutch h).relayout = some (r, f, fn)) ∧
    (s.fld (hut0 h) 0x084 24 0 + 1 = 2 ^ 24 → ((s.regCfg h r).bit 24 = true → (s.regCfg h r).bits 18 17 ≠ h) →
      ((s.hutch h).alarm.isSome = true → s.flag pPlc 0x040 0 = false) → Completes (.relayoutLineCopy h) s fun t => t.mem = s.mem ∧ (t.hutch h).relayout = none ∧
      (t.regCfg h r).bits 16 12 = f ∧ (t.regCfg h r).bits 11 10 = fn ∧ t.rd (hut1 h) (0x104 + 8 * r) = (s.hutch h).newKey ∧
      t.flag (hut0 h) 0x010 5 = true ∧ t.flag (hut0 h) 0x080 31 = false ∧ (t.hutch h).alarm = none ∧
      (∀ r' p', (s.hutch h).alarm = some (r', p') → r' < 32 → p' < 32 → t.rdN (hut0 h) 0x07C = r' + p' * 32 + 2 ^ 31 ∧ t.flag (hut0 h) 0x010 4 = true) ∧
      ((s.regCfg h r).bit 24 = true → let g := (s.regCfg h r).bits 18 17; let m := (s.regCfg h r).bits 23 19
        (t.regCfg g m).bits 11 10 = fn ∧ t.rd (hut1 g) (0x104 + 8 * m) = (s.hutch h).newKey) ∧
      ∀ x, s.regions.find? (fun x => (s.regCfg h x).bits 16 12 = f) = some x → x ≠ r → (t.regCfg h x).bits 16 12 = (s.regCfg h r).bits 16 12))

/-! ### Host interface (15_host.md) -/

/-- R386 to R389, R411, R403: the port's resets and configuration requests. A hot reset or PERST_N resets every ring and MSI-X state and changes no
partition; a request before the Bureau is ready is answered Retry; identifiers read as Table 15.2 says, MSI-X and the power state are set, and the
fields that R386 and R410 name are read and written; a function level reset frees the function's partition (all of them, for the PF) and clears what
the function holds. The offsets of the configuration space and the mask bits after reset are those of PCI Express (log entry 43); so are the widths
and defaults of the fields and who shares them (log entry 58). -/
def Obligations.PortResetsAndConfiguration : Prop :=
  (∀ (s : State), s.powered = true → Completes .hotReset s fun t => t.msix = [] ∧ t.d3hot = [] ∧ t.pci = Pci.reset ∧ t.partState = s.partState ∧ t.regs = s.regs ∧
    t.mem = s.mem ∧ ∀ f i, (t.hring f i).en = false ∧ (t.hring f i).st = 0 ∧ (t.hring f i).reading = false) ∧
  (∀ (s : State), Completes .perstNRise s fun t => t.boot.perstN = true ∧ t.boot.crs = true ∧ t.msix = [] ∧ t.d3hot = [] ∧ t.pci = Pci.reset ∧
    t.partState = s.partState ∧ t.regs = s.regs ∧ ∀ f i, (t.hring f i).en = false) ∧
  (∀ (f : Nat) (op : CfgOp) (ready : Bool) (s : State), s.powered = true → s.boot.perstN = true → f < 64 →
    (s.boot.crs = true → ready = false → Completes (.configRequest f op ready) s fun t => t = s.ans .retry) ∧
    (s.boot.crs = false ∨ ready = true →
      (op = .read 0 → Completes (.configRequest f op ready) s fun t => t.boot.crs = false ∧
        t.resp = .data (0x1D7A + (if f = 0 then s.fuses.part else 0x40F1) * 2 ^ 16)) ∧
      (∀ off, op = .read off → Completes (.configRequest f op ready) s fun t => t.boot.crs = false ∧ (∃ v, t.resp = .data v) ∧ t.regs = s.regs ∧
        t.rings = s.rings ∧ t.msix = s.msix) ∧
      (∀ en mask, op = .msix en mask → Completes (.configRequest f op ready) s fun t => (t.msixOf f).enabled = en ∧ (t.msixOf f).masked = mask ∧
        (t.msixOf f).table = (s.msixOf f).table ∧ t.regs = s.regs) ∧
      (∀ d, op = .power d → Completes (.configRequest f op ready) s fun t => t.inD3 f = d ∧ t.regs = s.regs ∧ t.rings = s.rings) ∧
      (∀ off w, op = .write off w → Completes (.configRequest f op ready) s fun t => t.boot.crs = false ∧ t.regs = s.regs ∧ t.msix = s.msix) ∧
      (∀ x, op = .field x → Completes (.configRequest f op ready) s fun t => t.resp = .data (s.pciRead f x) ∧ t.pci = s.pci ∧ t.regs = s.regs) ∧
      (∀ x v, op = .setField x v → Completes (.configRequest f op ready) s fun t => t.regs = s.regs ∧ t.rings = s.rings ∧ t.msix = s.msix ∧
        (x = .maxPayload → f = 0 → v ≤ 2 → t.pciRead 0 x = v) ∧ (x = .maxReadRequest → f = 0 → v ≤ 5 → t.pciRead 0 x = v) ∧
        (x = .ecrcGenerate ∨ x = .ecrcCheck ∨ x = .vfEnable ∨ x = .ariForwarding → f = 0 → t.pciRead 0 x = v % 2) ∧
        (∀ e, x = .fatal e → f = 0 → t.pciRead 0 x = v % 2) ∧
        (∀ e, x = .status e → t.pciRead f x = (if v % 2 = 1 then 0 else s.pciRead f x) ∧ t.pci.reports = s.pci.reports) ∧
        ((∀ e, x ≠ .status e) → f ≠ 0 → t.pci = s.pci)))) ∧
  (∀ (f : Nat) (s : State), 0 < f → f < 64 → s.powered = true → s.mbox = [] → Completes (.flr f) s fun t => t.part f = .free ∧
    (∀ j, j ≠ f → t.part j = s.part j) ∧ (∀ i, i < 1024 → t.hring f i = Ring.reset) ∧ t.msixOf f = Msix.reset ∧ t.inD3 f = false ∧
    (∀ g i, g ≠ f → i < 1024 → t.hring g i = s.hring g i)) ∧
  (∀ (s : State), s.powered = true → s.mbox = [] → Completes (.flr 0) s fun t => (∀ k, 0 < k → k < 64 → t.part k = .free) ∧
    (∀ i, i < 64 → t.rd (hq 0) (0x100 + 4 * i) = 0) ∧ t.recov = [] ∧
    ∀ f, f < 64 → t.msixOf f = Msix.reset ∧ t.inD3 f = false ∧ ∀ i, i < 1024 → t.hring f i = Ring.reset) ∧
  (∀ (f v : Nat) (s : State), s.powered = true → (s.msixOf f).enabled = true → v < vectorCount f → v ∉ (s.msixOf f).fired →
    (s.condition f v = true → (s.msixOf f).isMasked v = false → Completes (.msixMessage f v) s fun t => v ∈ (t.msixOf f).fired ∧ t.regs = s.regs ∧
      t.sentMsi = s.sentMsi ++ [⟨f, v, ((s.msixOf f).word v 0).toNat + ((s.msixOf f).word v 1).toNat * 2 ^ 32, (s.msixOf f).word v 2⟩]) ∧
    (s.condition f v = true → (s.msixOf f).isMasked v = true → Completes (.msixMessage f v) s fun t => v ∈ (t.msixOf f).pend ∧ t.sentMsi = s.sentMsi) ∧
    (s.condition f v = false → Completes (.msixMessage f v) s fun t => t.msix = s.msix ∧ t.sentMsi = s.sentMsi)) ∧
  (∀ (r : Req) (w : Word) (s : State), s.passes r (hq r.view) 0x07C = true →
    (vectorCount r.view ≤ w.bits 10 0 → Completes (.vecEoi r w) s fun t => t.msix = s.msix ∧ Recorded s t (hq r.view) 5 0x010 0x07C) ∧
    (w.bits 10 0 < vectorCount r.view → s.condition r.view (w.bits 10 0) = false → Completes (.vecEoi r w) s fun t =>
      w.bits 10 0 ∉ (t.msixOf r.view).fired ∧ t.sentMsi = s.sentMsi ∧ t.regs = s.regs) ∧
    (w.bits 10 0 < vectorCount r.view → s.condition r.view (w.bits 10 0) = true → s.powered = true → (s.msixOf r.view).enabled = true →
      (s.msixOf r.view).isMasked (w.bits 10 0) = false → Completes (.vecEoi r w) s fun t => t.sentMsi.length = s.sentMsi.length + 1 ∧
        w.bits 10 0 ∈ (t.msixOf r.view).fired))

/-- R388 to R401, R410, R424: what every register access meets: UR where the device does not answer, code 0x102 outside the function's view, code 0x003 at
a locked page, the bus errors and what the advanced error reporting notes of them, a parity error, the offsets that legacy mode hides, the plain rule
of a writable register, cleared counters, the two halves of a wide register, causes set and cleared, VALID cleared, and the soft reset of a page. What
a soft reset keeps beside R401's list is the model's reading (log entry 50); which errors the advanced error reporting notes is that of PCI Express
(log entry 58). -/
def Obligations.RegisterAccesses : Prop :=
  (∀ (r : Req) (p : Page) (off v : Nat) (s : State), off % 4 = 0 → off < 4096 →
    (∀ f, r = .fn f → (s.answers p = false ∨ s.inD3 f = true) → Completes (.registerWrite r (.reg p off) v .ok) s fun t =>
      t = (s.aer f .unsupported).ans .ur) ∧
    (∀ f, r = .fn f → f < 64 → s.answers p = true → s.inD3 f = false → s.reaches f p = false → p.blk ≠ .intg →
      Completes (.registerWrite r (.reg p off) v .ok) s fun t => t.rd p off = s.rd p off ∧ Recorded s t (intg f) 6 0x102 (s.viewSlot f p)) ∧
    (∀ f, r = .fn f → s.answers p = true → s.inD3 f = false → s.reaches f p = true → s.present p = true → s.awake p = true →
      s.flag p 0x008 1 = false → s.locked p = true → lockExempt p off = false →
      Completes (.registerWrite r (.reg p off) v .ok) s fun t => Recorded s t p 5 0x003 off ∧ t.locks = s.locks) ∧
    (s.passes r p off = true → r.view < 64 →
      (Completes (.registerWrite r (.reg p off) v .parity) s fun t => Recorded s t (intg r.view) 2 0x100 (s.viewSlot r.view p) ∧ t.flag (intg 0) 0x010 8 = true) ∧
      (Completes (.registerWrite r (.reg p off) v .poisoned) s fun t => Recorded s t (intg r.view) 3 0x103 r.view ∧ AerNoted s t r.view .poisoned) ∧
      (s.pci.ecrcCheck = true → Completes (.registerWrite r (.reg p off) v .ecrc) s fun t => t = (s.aer r.view .ecrc).ans .none) ∧
      (s.pci.ecrcCheck = false → exec (.registerWrite r (.reg p off) v .ecrc) s = exec (.registerWrite r (.reg p off) v .ok) s) ∧
      (Completes (.registerWrite r (.reg p off) v .malformed) s fun t => t = (s.aer r.view .malformed).ans .none) ∧
      exec (.registerWrite r (.reg p off) v .replayed) s = exec (.registerWrite r (.reg p off) v .ok) (s.aer r.view .badTlp)) ∧
    (s.gate r p off = .pass → s.legacyHides p off = true → Completes (.registerWrite r (.reg p off) v .ok) s fun t => t = (s.badEnc p off).ans .none) ∧
    (∀ row, s.passes r p off = true → 0x040 ≤ off → (p.blk = .plc ∨ (p.blk = .d2d ∧ off ≠ 0x040)) → findRow p.blk off = some row →
      (row.clears = true → Completes (.registerWrite r (.reg p off) v .ok) s fun t => t = (s.wr p off 0).ans .none) ∧
      (row.clears = false → hasReserved (BitVec.ofNat 32 v) row.fields = false → Completes (.registerWrite r (.reg p off) v .ok) s fun t =>
        t = (s.wr p off (writeFields (s.rd p off) (BitVec.ofNat 32 v) row.fields)).ans .none))) ∧
  (∀ (f off v : Nat) (p : Page) (s : State), s.barOpen f (off / 4096) = true → f < 64 →
    (∀ size, barLegal off size = false → Completes (.registerWrite (.fn f) (.bar off size) v .ok) s fun t => Recorded s t (intg f) 5 0x101 (off / 4096)) ∧
    (s.slotPage f (off / 4096) = some p → (off / 4096 < 0x60 ∨ 0x68 ≤ off / 4096) → off % 4 = 0 → s.passes (.fn f) p (off % 4096) = true →
      Completes (.registerWrite (.fn f) (.bar off 4) v .ok) s fun t => exec (.registerWrite (.fn f) (.reg p (off % 4096)) v .ok) s = .next t)) ∧
  (∀ (r : Req) (p : Page) (s : State), s.reads r p = true →
    (∀ off, off % 4 = 0 → off < 4092 → isWide p off = true → (p.blk ≠ .time1 ∧ p.blk ≠ .chtmr) → (∀ q, r ≠ .core q) → Completes (.wideLowRead r (.reg p off) .ok) s fun t =>
      t.resp = .data (s.peek r p off) ∧ t.regs = s.regs ∧
      Completes (.wideLowRead r (.reg p (off + 4)) .ok) t fun u => u.resp = .data (s.peek r p (off + 4)) ∧ u.regs = s.regs) ∧
    (∀ i c q, isTimer p i = true → s.captureQ p i = c :: q → (∀ n, r ≠ .core n) → Completes (.wideLowRead r (.reg p (0x118 + 0x40 * i)) .ok) s fun t =>
      t.resp = .data (c.time % 2 ^ 32) ∧ t.captureQ p i = q ∧
      Completes (.wideLowRead r (.reg p (0x11C + 0x40 * i)) .ok) t fun u => u.resp = .data (c.time / 2 ^ 32) ∧ u.timers = t.timers) ∧
    (∀ f, r = .fn f → f < 64 → Completes (.wideLowRead r (.reg p 0x018) .parity) s fun t => (∃ v, t.resp = .poisoned v) ∧ t.flag (intg 0) 0x010 8 = true ∧
      Recorded s t (intg f) 2 0x100 (s.viewSlot f p)) ∧
    (r = .bureau → Completes (.wideLowRead r (.reg p 0x018) .parity) s fun t => t.resp = .busError ∧ t.flag (intg 0) 0x010 8 = true) ∧
    (Completes (.wideLowRead r (.reg p 0x018) .ok) s fun t => t.resp = .data (s.rd p 0x010 &&& s.rd p 0x014).toNat ∧ t.regs = s.regs)) ∧
  (∀ (r : Req) (p : Page) (w : Word) (s : State),
    (s.passes r p 0x01C = true → Completes (.pgIrqSet r p w) s fun t => t.rd p 0x010 = s.rd p 0x010 ||| (w &&& BitVec.ofNat 32 p.blk.causes) ∧
      t.rd p 0x014 = s.rd p 0x014) ∧
    (s.passes r p 0x010 = true → Completes (.pgIrqRawClear r p w) s fun t => t.rd p 0x010 = (s.settlePage p).rd p 0x010 &&& ~~~w ∧
      t.rd p 0x014 = s.rd p 0x014 ∧ ((p.blk ≠ .time1 ∧ p.blk ≠ .chtmr) → t.rd p 0x010 = s.rd p 0x010 &&& ~~~w)) ∧
    (s.passes r p 0x020 = true → Completes (.pgErrInfoClear r p w) s fun t => t.flag p 0x020 31 = (s.flag p 0x020 31 && !w.bit 31) ∧
      t.rd p 0x024 = s.rd p 0x024)) ∧
  (∀ (r : Req) (p : Page) (w : Word) (s : State), s.passes r p 0x008 = true → p.blk ∉ [.time0, .time1, .dev, .hut0, .hut1] →
    (s.partStopped (s.owner p) = false → Completes (.softReset r p w) s fun t => t.flag p 0x008 1 = s.flag p 0x008 1 ∧ Recorded s t p 5 0x013 0x008) ∧
    (s.partStopped (s.owner p) = true → Completes (.softReset r p w) s fun t => t.flag p 0x008 1 = true ∧ t.owner p = s.owner p ∧ (p.blk ≠ .bur ∨ s.mbox = [] → t.mem = s.mem) ∧
      (∀ off, off < 4096 → off ≠ 0x008 → off ≠ 0x028 → p.blk.retained.contains off = false →
        (p.blk = .drw → off ∉ [0x00C, 0x054, 0x058, 0x05C, 0x060, 0x070, 0x074]) →
        (p.blk = .chtmr → off = 0x100 → s.flag (chin p.inst) 0x088 0 = false) → t.rd p off = resetWord p.blk off) ∧
      (p.blk = .drw → ∀ off ∈ [0x054, 0x058, 0x05C, 0x060, 0x070, 0x074], t.rd p off = s.rd p off) ∧
      ∀ off ∈ p.blk.retained, t.rd p off = s.rd p off)) ∧
  (∀ (r : Req) (w : Word) (s : State), s.passes r pTime 0x008 = true → (s.anyPlaced = true ∨ s.anyChannel = true) →
    Completes (.softReset r pTime w) s fun t => t.tb = s.tb ∧ Recorded s t pTime 5 0x011 0x008) ∧
  (∀ (p : Page) (s : State), (p.blk = .time0 ∨ p.blk = .time1 → p.inst = 0) → Completes (.softResetDone p) s fun t => t.flag p 0x008 1 = false ∧ t.rd p 0x028 = s.rd p 0x028 ∧ t.mem = s.mem)

/-- R404 to R408, R410, R420: host rings: configuration, doorbells and their errors (codes 0x0E8, 0x0E9), BAR2 reads (zero) and writes of another size
(code 0x101), the fetch and its failure (code 0x0EA), the stall, late legacy words, entries written to the host, and the commands RESET, RETRY and
SKIP. That EN alone changes while a ring is enabled is the model's reading (log entry 28); what BAR2 notes is settled in log entry 58. -/
def Obligations.HostRingsWork : Prop :=
  (∀ (r : Req) (w : Word) (i : Nat) (s : State), s.passes r (hq r.view) 0x044 = true → s.ringSel r.view = some i →
    let f := r.view
    let x := s.hring f i
    let okay := (w.bits 2 1 < 2 ∨ s.legacy = true) ∧ 2 ≤ w.bits 7 3 ∧ w.bits 7 3 ≤ 16
    let c := { x with cfg := ((x.cfg.setBits 2 1 (w.bits 2 1)).setBits 8 8 (w.bits 8 8)).setBits 7 3 (w.bits 7 3) }
    (x.en = true → w.bit 0 = true → Completes (.ringCfgWrite r w) s fun t => t.rings = s.rings ∧ Recorded s t (hq f) 5 0x013 0x044) ∧
    (x.en = true → w.bit 0 = false → Completes (.ringCfgWrite r w) s fun t => (t.hring f i).en = false ∧ (t.hring f i).head = x.head ∧
      (t.hring f i).tail = x.tail ∧ (x.st = 1 → (t.hring f i).st = 0)) ∧
    (x.en = false → okay → w.bit 0 = false → Completes (.ringCfgWrite r w) s fun t => t.hring f i = c ∧ t.regs = s.regs) ∧
    (x.en = false → okay → w.bit 0 = true → (c.toDevice = true ∨ s.ringTaken f i c = false) → Completes (.ringCfgWrite r w) s fun t =>
      (t.hring f i).en = true ∧ (t.hring f i).kind = w.bits 2 1 ∧ (t.hring f i).size = 2 ^ w.bits 7 3 ∧ (x.st = 0 → (t.hring f i).st = 1)) ∧
    (x.en = false → okay → w.bit 0 = true → c.toDevice = false → s.ringTaken f i c = true → Completes (.ringCfgWrite r w) s fun t =>
      (t.hring f i).en = false ∧ Recorded s t (hq f) 5 0x0E8 i) ∧
    (x.en = false → ¬ okay → w.bit 0 = false → Completes (.ringCfgWrite r w) s fun t => (t.hring f i).en = false ∧ Recorded s t (hq f) 5 0x010 0x044)) ∧
  (∀ (f i : Nat) (w : Word) (s : State), s.boot.resetN = true → s.boot.off = false → s.devState = 2 → s.inD3 f = false → i < ringCount f →
    let x := s.hring f i
    let idx := w.bits 16 0 % (2 * x.size)
    let ahead := (idx + 2 * x.size - x.head % (2 * x.size)) % (2 * x.size)
    (x.en = false → s.ctrFrozen (hq f) = false → Completes (.doorbell f (0x400 * i) w .ok) s fun t => t.rings = s.rings ∧
      t.rdN (hq f) 0x08C = min (s.rdN (hq f) 0x08C + 1) 4294967295) ∧
    (x.en = true → x.toDevice = true → ahead ≤ x.size → Completes (.doorbell f (0x400 * i) w .ok) s fun t => t.hring f i = { x with tail := idx } ∧
      t.regs = s.regs) ∧
    (x.en = true → x.toDevice = false → ahead ≤ x.occ → Completes (.doorbell f (0x400 * i) w .ok) s fun t => t.hring f i = { x with head := idx }) ∧
    (x.en = true → (if x.toDevice then x.size else x.occ) < ahead → Completes (.doorbell f (0x400 * i) w .ok) s fun t => (t.hring f i).st = 2 ∧
      (t.hring f i).head = x.head ∧ (t.hring f i).tail = x.tail ∧ Recorded s t (hq f) 5 0x0E9 i ∧ t.flag (hq f) 0x010 3 = true ∧
      t.flag (hq f) 0x010 0 = true) ∧
    (f < 64 → Completes (.doorbell f (0x400 * i) w .poisoned) s fun t => t.rings = s.rings ∧ Recorded s t (intg f) 3 0x103 f ∧ AerNoted s t f .poisoned) ∧
    exec (.registerWrite (.fn f) (.bar2 (0x400 * i) 4) w.toNat .ok) s = exec (.doorbell f (0x400 * i) w .ok) s ∧
    (∀ size, size ≠ 4 → f < 64 → Completes (.registerWrite (.fn f) (.bar2 (0x400 * i) size) w.toNat .ok) s fun t => t.rings = s.rings ∧
      Recorded s t (intg f) 5 0x101 9) ∧
    (∀ off size, Completes (.wideLowRead (.fn f) (.bar2 off size) .ok) s fun t => t = s.ans (.data 0))) ∧
  (∀ (f i : Nat) (s : State), s.ringFetchable f i = true → Completes (.ringFetch f i) s fun t => t.hring f i = { s.hring f i with reading := true } ∧
    t.regs = s.regs) ∧
  (∀ (f i : Nat) (s : State), (s.hring f i).reading = true → (s.hring f i).active = true →
    (∀ d, (d = .ur ∨ d = .poisoned) → Completes (.dmaReadCompletion (.ring f i) d) s fun t => (t.hring f i).st = 2 ∧ (t.hring f i).reading = false ∧
      (t.hring f i).head = (s.hring f i).head ∧ Recorded s t (hq f) 4 0x0EA i ∧ t.flag (hq f) 0x010 0 = true ∧
      (d = .poisoned → AerNoted s t f .poisoned)) ∧
    (Completes (.completionTimeout (.ring f i)) s fun t => (t.hring f i).st = 2 ∧ (t.hring f i).reading = false ∧ Recorded s t (hq f) 4 0x0EA i ∧
      AerNoted s t f .completionTimeout) ∧
    (∀ v, (s.hring f i).kind = 2 → let at' := rebuildStep (nb (v % 2 ^ 64) 63 44) s.now * 2 ^ 15
      s.ctrFrozen (hq f) = false → at' + s.fld (hq 0) 0x080 23 0 < s.now → Completes (.dmaReadCompletion (.ring f i) (.data v)) s fun t =>
        (t.hring f i).head = ((s.hring f i).head + 1) % (2 * (s.hring f i).size) ∧ t.net = s.net ∧ t.flag (hq f) 0x010 2 = true ∧
          t.rdN (hq f) 0x084 = min (s.rdN (hq f) 0x084 + 1) 4294967295) ∧
    (∀ v, (s.hring f i).kind = 2 → let at' := rebuildStep (nb (v % 2 ^ 64) 63 44) s.now * 2 ^ 15
      let m := s.mapEntryAt 0x161 ((s.hring f i).key f) ((s.hring f i).target.bits 7 0)
      s.now ≤ at' + s.fld (hq 0) 0x080 23 0 → m.valid = true → m.parked = false → Completes (.dmaReadCompletion (.ring f i) (.data v)) s fun t =>
        (t.hring f i).head = ((s.hring f i).head + 1) % (2 * (s.hring f i).size) ∧ t.net.length = s.net.length + 1)) ∧
  (∀ (f i t0 : Nat) (s : State), (s.hring f i).since = some t0 → s.fld (hq f) 0x070 23 0 ≠ 0 → (s.hring f i).stalled = false →
    t0 + s.fld (hq f) 0x070 23 0 * 32000 ≤ s.now → Completes (.ringStall f i) s fun t => (t.hring f i).stalled = true ∧ t.flag (hq f) 0x010 1 = true ∧
      (t.hring f i).head = (s.hring f i).head) ∧
  (∀ (f i q : Nat) (s : State), s.devState = 2 → (s.hring f i).active = true → (s.hring f i).toDevice = false → (s.hring f i).occ < (s.hring f i).size →
    let x := s.hring f i
    let m := s.mapEntry (x.key f) (x.target.bits 7 0)
    let c := s.qctx m.phys q
    m.valid = true → m.parked = false → s.live m.phys = true → s.hostQueue m.phys = some q → c.v = true → c.occ ≠ 0 → c.loc = 1 →
    inShared (c.entryAt c.head) 32 = true → s.spanOff m.phys (c.entryAt c.head) 32 = none →
    let v := s.load (spadAt m.phys (c.entryAt c.head)) 32
    (x.kind = 1 → Completes (.ringWrite f i ⟨.clean, .clean⟩) s fun t => t.hring f i = { x with tail := (x.tail + 1) % (2 * x.size) } ∧
      (t.qctx m.phys q).head = (c.head + 1) % (2 * c.size) ∧ t.mem = s.mem ∧
      t.hostMem = ((s.hostRing x.base (x.entry * x.size) (x.entry * (x.tail % x.size)) x.entry v).ringShadow
        { x with tail := (x.tail + 1) % (2 * x.size) }).hostMem) ∧
    (x.kind = 3 → legacyWord v = none → s.ctrFrozen (hq f) = false → Completes (.ringWrite f i ⟨.clean, .clean⟩) s fun t => t.hring f i = x ∧
      (t.qctx m.phys q).head = (c.head + 1) % (2 * c.size) ∧ t.hostMem = s.hostMem ∧
      t.rdN (hq f) 0x088 = min (s.rdN (hq f) 0x088 + 1) 4294967295)) ∧
  (∀ (r : Req) (i : Nat) (s : State), s.passes r (hq r.view) 0x068 = true → s.ringSel r.view = some i →
    let f := r.view
    let x := s.hring f i
    (x.en = false → Completes (.ringReset r) s fun t =>
      let y := { x with head := 0, tail := 0, st := 0, since := none, stalled := false }
      t.hring f i = y ∧ t.hostMem = (if (if x.toDevice then x.head else x.tail) = 0 then s.hostMem else (s.ringShadow y).hostMem)) ∧
    (x.en = true → Completes (.ringReset r) s fun t => t.rings = s.rings ∧ Recorded s t (hq f) 5 0x013 0x068) ∧
    (x.st = 2 → Completes (.ringRetry r) s fun t => t.hring f i = { x with st := 1 } ∧ t.hostMem = s.hostMem) ∧
    (x.st = 2 → Completes (.ringSkip r) s fun t => (t.hring f i).st = 1 ∧ (t.hring f i).head = (x.head + 1) % (2 * x.size) ∧
      (t.hring f i).tail = x.tail) ∧
    (x.st ≠ 2 → (Completes (.ringRetry r) s fun t => t.rings = s.rings ∧ Recorded s t (hq f) 5 0x013 0x068) ∧
      (Completes (.ringSkip r) s fun t => t.rings = s.rings ∧ Recorded s t (hq f) 5 0x013 0x068)))

/-- R409, R413, R414: an access through BAR4 reads and writes the stack bytes its window entry names, is refused where no entry is valid or the region
check refuses it, and answers poisoned data for an uncorrectable line, with the egress advisory; DEV_CTRL.HOLD stops every channel and Cabinet with
device time running, only while no partition exists; LEGACY changes only in the hold; and RELEASE restarts the device with the mode latched and the
stacks empty, by whichever write of DEV_CTRL sets it. The advisory, and that one write may do all of these, are settled in log entry 58. -/
def Obligations.WindowHoldAndRelease : Prop :=
  (∀ (o : Nat) (s : State), s.powered = true →
    (∀ f acc bus, s.discards bus = false → (f ≠ 0 ∨ s.devState ≠ 2) → Completes (.stackWindowAccess f o acc bus) s fun t =>
      t = ((s.received f bus).aer f .unsupported).ans .ur) ∧
    (∀ f acc bus, s.discards bus = true → Completes (.stackWindowAccess f o acc bus) s fun t => t = (s.received f bus).ans .none) ∧
    (s.devState = 2 → s.inD3 0 = false →
      (∀ n ecc, s.windowAt o = none → Completes (.stackWindowAccess 0 o (.read n ecc) .ok) s fun t => t = (s.aer 0 .unsupported).ans .ur) ∧
      (∀ bytes, s.windowAt o = none → Completes (.stackWindowAccess 0 o (.write bytes) .ok) s fun t => t.mem = s.mem ∧
        Recorded s t (intg 0) 6 0x104 (o / 2 ^ 30 % 64)) ∧
      (∀ a n ecc x, s.windowAt o = some a → s.windowDenied a n = some x → Completes (.stackWindowAccess 0 o (.read n ecc) .ok) s fun t =>
        t.resp = .ur ∧ t.mem = s.mem ∧ Recorded s t (hut0 (stackOf x.1)) 6 x.2 (regionOf x.1) ∧ AerNoted s t 0 .unsupported) ∧
      (∀ a n, s.windowAt o = some a → s.windowDenied a n = none → a % 64 + n ≤ 64 →
        (s.rdN (hut0 (stackOf a)) 0x048).testBit (s.pcOf (a / 64 * 64)) = false →
        Completes (.stackWindowAccess 0 o (.read n []) .ok) s fun t => t.resp = .data (s.load a n) ∧ t.mem = s.mem ∧ t.regs = s.regs) ∧
      (∀ a n b, s.windowAt o = some a → s.windowDenied a n = none → a % 64 + n ≤ 64 → s.mirrorAt (a / 64 * 64) = none →
        (s.rdN (hut0 (stackOf (a / 64 * 64))) 0x048).testBit (s.pcOf (a / 64 * 64)) = false → s.flag (hut0 (stackOf (a / 64 * 64))) 0x040 1 = false →
        0 < n → Completes (.stackWindowAccess 0 o (.read n [.uncorrectable b]) .ok) s fun t => (∃ v, t.resp = .poisoned v) ∧ t.mem = s.mem ∧
          AerNoted s t 0 .egressPoisoned ∧ Recorded s t (hut0 (stackOf (a / 64 * 64))) 2 0x031 (s.pcOf (a / 64 * 64))) ∧
      (∀ a bytes, s.windowAt o = some a → s.windowDenied a bytes.length = none → (∀ b, s.mirrorAt b = none) →
        Completes (.stackWindowAccess 0 o (.write bytes) .ok) s fun t => t.regs = s.regs ∧
          (∀ i, i < bytes.length → t.byte (a + i) = bytes.getD i 0) ∧ ∀ b, (b < a ∨ a + bytes.length ≤ b) → t.byte b = s.byte b))) ∧
  (∀ (r : Req) (w : Word) (s : State), s.passes r pDev 0x048 = true → r.isPf = true →
    (w.bit 2 = true → exec (.hold r w) s = exec (.release r (w.setBits 1 1 1) s.cleanStart) s) ∧
    (s.allFree = true → w.bit 2 = false → w.bit 0 = s.boot.legacyReq → Completes (.hold r w) s fun t => t.devState = 0 ∧ t.holdCause = 0 ∧ t.tb = s.tb ∧
      (∀ n, n < 16 → s.fuses.chEn.testBit n = true → t.chanOn n = false ∧ t.linkEn n = false) ∧
      (∀ p, p < 288 → s.fuses.posEn.testBit p = true → t.flag (cctl p) 0x040 0 = false ∧ t.flag (hzn p) 0x040 0 = false)) ∧
    (s.allFree = false → w.bit 2 = false → w.bit 0 = s.boot.legacyReq → Completes (.hold r w) s fun t => t.devState = s.devState ∧ t.chans = s.chans ∧
      Recorded s t pDev 5 0x013 0x048) ∧
    (w.bit 2 = true → exec (.legacyWrite r w) s = exec (.release r w s.cleanStart) s) ∧
    (s.inHostHold = true → w.bit 1 = false → w.bit 2 = false → Completes (.legacyWrite r w) s fun t => t.boot = { s.boot with legacyReq := w.bit 0 } ∧ t.regs = s.regs) ∧
    (s.inHostHold = false → w.bit 1 = false → w.bit 2 = false → w.bit 0 ≠ s.boot.legacyReq → Completes (.legacyWrite r w) s fun t => t.boot = s.boot ∧
      Recorded s t pDev 5 0x013 0x048) ∧
    (∀ x : StartPlan, s.inHostHold = true → w.bit 1 = false → x.slices = [] → x.chanBad &&& s.fuses.chEn = 0 → s.fuses.cabinets ≤ s.healthyCount →
      Completes (.release r w x) s fun t => t.devState = 2 ∧ t.legacy = (s.boot.strapLegacy || w.bit 0) ∧ t.tb = s.tb ∧
        ∀ a, a < 2 ^ 37 → t.byte a = 0) ∧
    (∀ x : StartPlan, s.inHostHold = false → w.bit 1 = false → w.bit 0 = s.boot.legacyReq → Completes (.release r w x) s fun t => t = s.ans .none))

/-! ### Integrity (16_integrity.md) -/

/-- R426 to R428, R362, R444, R448: a fault report: reset-hold for the blocks the whole device rests on, shown in every function's DEV view and, for some,
noted as an internal error of PCI Express (log entry 58); FAULTED for an unprotected partition, for those whose key passes at a mesh link that is
DOWN, and for a silent Cabinet's; the fence and the recovery of a Cabinet of a protected partition, or its failure with code 0x113; a migration
abandoned for its target; and the error log. The order of waiting recoveries and where a lost flit starts one are the model's choice (log entry 49). -/
def Obligations.FaultReportsAreHandled : Prop :=
  (∀ (f : FaultReport) (rest : List FaultReport) (s : State), s.faultReports = f :: rest →
    (∀ cause, (f.page.blk ∈ [.time0, .time1] ∧ cause = 2 ∨ f.page.blk ∈ [.dev, .hq] ∧ cause = 4 ∨
        f.page.blk ∈ [.bur, .pwr, .plc, .intg, .obs, .bist] ∧ cause = 3) →
      Completes .faultReport s fun t => t.faultReports = rest ∧ t.devState = 0 ∧ t.holdCause = cause ∧ t.boot.alert = true ∧ t.flag pDev 0x010 1 = true ∧
        t.boot.failInfo = f.page.blk.code % 256 + f.code % 4096 * 2 ^ 20 ∧ t.mem = s.mem ∧ t.partState = s.partState ∧
        (∀ g, g < 64 → t.flag ⟨.dev, g⟩ 0x010 1 = true) ∧ (cause = 3 → AerNoted s t 0 .internal)) ∧
    (∀ k, f.page.blk ∈ [.cctl, .qmgr, .spad, .drw, .trs, .xpnd, .hzn, .cobs] → s.mbox = [] → s.recov = [] → s.cabKey f.page.pos = k → k ≠ 0 →
      (s.part k = .running ∨ s.part k = .stopped) →
      ((s.cfg k).prot = false → Completes .faultReport s fun t => t.faultReports = rest ∧ t.part k = .faulted ∧ (∀ j, j ≠ k → t.part j = s.part j) ∧
        t.flag (bur k) 0x010 2 = true ∧ t.mem = s.mem) ∧
      (∀ c, (s.cfg k).prot = true → s.logicalOf k f.page.pos = some c → s.latestCkpt k c = none → Completes .faultReport s fun t =>
        t.part k = .faulted ∧ t.recov = [] ∧ Recorded s t (intg k) 4 0x113 (c % 256 + k % 64 * 256) ∧ t.flag (intg k) 0x010 4 = true ∧
          t.flag (bur k) 0x010 2 = true) ∧
      (∀ c ck q, (s.cfg k).prot = true → s.logicalOf k f.page.pos = some c → s.latestCkpt k c = some ck →
        (s.spares.find? fun q => q / 18 = f.page.pos / 18) = some q → Completes .faultReport s fun t => t.part k = s.part k ∧
          t.recov = [⟨k, c, f.page.pos, q, f.time, 2, (s.source k f.page.pos).m, s.safe f.page.pos, 0, [],
            (s.journal k c).base + (s.journal k c).entries.length⟩] ∧ (t.cab f.page.pos).fenced = true ∧
          t.flag (intg k) 0x010 2 = true ∧ t.rdN (intg k) 0x070 = 2 + c % 256 * 2 ^ 8 + k % 64 * 2 ^ 16)) ∧
    (∀ m, f.page.blk ∈ [.cctl, .qmgr, .spad, .drw, .trs, .xpnd, .hzn, .cobs] → s.movingAt (·.dst) f.page.pos = some m →
      Completes .faultReport s fun t => t.partState = s.partState ∧ t.recov = s.recov ∧
        t.boot.posFence.testBit f.page.pos = true ∧ Recorded s t pPlc 4 0x0E0 (m.cab % 256 + m.key % 64 * 256)) ∧
    (f.page.blk = .rtr → f.code = 0x032 → isCab (f.arg / 32768) = false → isCab (f.arg % 512) = false → s.mbox = [] → s.recov = [] →
      Completes .faultReport s fun t => t.faultReports = rest ∧ t.partState = s.partState ∧ t.recov = s.recov) ∧
    (f.page.blk = .rtr → f.code = 0x022 → f.arg % 8 ≠ 0 → s.mbox = [] → s.recov = [] → Completes .faultReport s fun t => ∀ k, 0 < k → k < 64 →
      t.part k = if s.usesLink f.page.inst (f.arg % 8) (if f.arg < 8 then 0x080 else 0x0C0) k = true ∧ (s.part k = .running ∨ s.part k = .stopped)
        then .faulted else s.part k)) ∧
  (∀ (k : Nat) (s : State), s.mbox = [] → s.recov = [] → k ≠ 0 → (s.cfg k).prot = false → s.part k = .running → s.placed k ≠ [] →
    (∀ e ∈ s.placed k, s.cabKey e.2 = k) →
    ((∃ e ∈ s.sourceIds k, 16 ≤ (s.source k e).miss) → Completes (.silentCabinet k) s fun t => t.part k = .faulted ∧
      (∀ e ∈ s.sourceIds k, (t.source k e).miss = 0) ∧ t.flag (bur k) 0x010 2 = true) ∧
    ((∀ e ∈ s.sourceIds k, (s.source k e).miss < 16) → Completes (.silentCabinet k) s fun t => t = s.ans .none)) ∧
  (∀ (r : Req) (s : State), s.reads r (intg r.view) = true →
    (∀ e l, s.log r.view = e :: l → Completes (.errorLogPop r) s fun t => t.resp = .data (e.time % 2 ^ 32) ∧ t.log r.view = l ∧
      t.rd (intg r.view) 0x04C = e.info ∧ t.rd (intg r.view) 0x050 = e.src ∧ t.rdN (intg r.view) 0x048 = e.time / 2 ^ 32 % 2 ^ 32 ∧
      ∀ g, g ≠ r.view → t.log g = s.log g) ∧
    (s.log r.view = [] → Completes (.errorLogPop r) s fun t => t.resp = .data 0 ∧ t.logs = s.logs ∧ t.flag (intg r.view) 0x050 31 = false))

/-- R437, R438, R440, R441, R444: a checkpoint is valid once written and frees the journal before its mark; the steps of a recovery, which waits until the
spare's domain runs: the restored spare, FRONT, the end of the replay, the switch of the map and the finish; its failure; and the FILTER of the other
Cabinets. What a checkpoint leaves out and where a recovery goes are the model's choice (log entry 49). -/
def Obligations.CheckpointsAndRecoveries : Prop :=
  (∀ (p : Nat) (ck : Ckpt) (s : State), (s.ckptsOf (s.cabKey p) (s.cabLog p)).find? (!·.valid) = some ck →
    let k := s.cabKey p
    let c := s.cabLog p
    Completes (.checkpointValid p) s fun t => t.ckptsOf k c = [{ ck with valid := true, dur := (s.now - ck.since) / 32000 }] ∧
      (s.rob p = [] → t.mem = s.mem ∧ t.journal k c = { s.journal k c with
        base := ck.mark - 1, entries := (s.journal k c).entries.drop (ck.mark - 1 - (s.journal k c).base), blocks := false })) ∧
  (∀ (r : Recov) (ok : Bool) (s : State), s.recov = [r] → r.step = 2 → r.key ≠ 0 → (s.part r.key = .running ∨ s.part r.key = .stopped) →
    (ok = false ∨ s.latestCkpt r.key r.cab = none → Completes (.recoveryRestoreDone r.key ok) s fun t => t.recov = [] ∧ t.part r.key = .faulted ∧
      Recorded s t (intg r.key) 4 0x113 (r.cab % 256 + r.key % 64 * 256) ∧ t.mem = s.mem) ∧
    (∀ ck, ok = true → s.latestCkpt r.key r.cab = some ck → s.domReady (4 + r.dst) = false → Completes (.recoveryRestoreDone r.key ok) s fun t =>
      t = s.ans .none) ∧
    (∀ ck, ok = true → s.latestCkpt r.key r.cab = some ck → s.domReady (4 + r.dst) = true → (s.journal r.key r.cab).entries.drop (ck.mark - (s.journal r.key r.cab).base) = [] →
      Completes (.recoveryRestoreDone r.key ok) s fun t => t.recov = [{ r with step := 4, left := [] }] ∧ t.partState = s.partState ∧
        t.rdN (intg r.key) 0x070 = 4 + r.cab % 256 * 2 ^ 8 + r.key % 64 * 2 ^ 16)) ∧
  (∀ (r : Recov) (s : State), s.recov = [r] → r.step = 4 → r.left = [] → r.key ≠ 0 →
    (Completes (.frontSend r.key) s fun t => t.recov = s.recov ∧ t.net.length = s.net.length + (s.ownChans r.key).length ∧ t.regs = s.regs) ∧
    (s.replayOver r = false → Completes (.replayComplete r.key) s fun t => t.recov = s.recov ∧ t.maps = s.maps ∧ t.maps2 = s.maps2 ∧ t.regs = s.regs) ∧
    (s.replayOver r = true → r.src ≠ r.dst → Completes (.replayComplete r.key) s fun t => t.recov = [{ r with step := 5, re := s.switchRound r.key }] ∧
      t.rdN (intg r.key) 0x070 = 5 + r.cab % 256 * 2 ^ 8 + r.key % 64 * 2 ^ 16 ∧ t.net.length = s.net.length + 1) ∧
    (s.replayOver r = true → r.src = r.dst → Completes (.replayComplete r.key) s fun t => t.recov = [] ∧ t.flag (intg r.key) 0x010 3 = true ∧
      (t.cfg r.key).ep = ((s.cfg r.key).ep + 1) % 2 ^ 32 ∧ t.partState = s.partState)) ∧
  (∀ (r : Recov) (s : State), s.recov = [r] → r.step = 6 → r.key ≠ 0 → Completes (.replayComplete r.key) s fun t => t.recov = [] ∧
    t.flag (intg r.key) 0x010 3 = true ∧ (t.cfg r.key).ep = ((s.cfg r.key).ep + 1) % 2 ^ 32 ∧
    t.rdN (intg r.key) 0x070 = 6 + r.cab % 256 * 2 ^ 8 + r.key % 64 * 2 ^ 16) ∧
  (∀ (p : Nat) (a : Arrival) (s : State), s.mgmtAt p 0x51 = some a →
    let c := nb a.flit.payload 71 64
    let mf := rebuild (nb a.flit.payload 119 72) s.now
    Completes (.filter p) s fun t => t.inbox = s.inbox.erase a ∧ ∃ l, (t.cab p).filters = (c, mf, l) :: (s.cab p).filters.filter (·.1 ≠ c) ∧
      ∀ x ∈ l, evSource x / 2 ^ 15 = c ∧ mf ≤ rebuild (evTime x) s.now)

/-! ### Bring-up (17_bringup.md) -/

/-- R449, R450, R455, R466, R480, Tables 17.3, 17.8: RESET_N high, and WAKE_N in OFF, run the start sequence: a start that meets no failure ends READY,
with the firmware version and the mode, no time base and no partition; one that fails ends in reset-hold under the cause of what failed. RESET_N low
leaves every domain but D_AON at its reset values; so does the loss of VDD_AON, which forgets D_AON too; its rise starts a new epoch. The spares of a
row and what a loss of VDD_AON takes with it are the model's choice (log entries 39, 42). -/
def Obligations.DeviceStartsAndResets : Prop :=
  (∀ (x : StartPlan) (v : Nat) (s : State), s.boot.resetN = false → s.boot.vddAon = true →
    (x.lockstep = true → x.bootSrc % 4 ≠ 3 → x.fwVer = some v → x.coreOk = true → x.pllOk = true → x.hostOk = true → x.lanes = [] → x.stackBad = 0 →
      x.pcBad = [] → x.slices = [] → x.chanBad &&& s.fuses.chEn = 0 → (x.shadowOk = false ∨ s.boot.rec0 = none ∧ s.boot.rec1 = none) →
      s.fuses.cabinets ≤ ((List.range 288).filter s.fuses.posEn.testBit).length → Completes (.resetNRise x) s fun t => t.devState = 2 ∧
        t.rdN pDev 0x050 = v % 2 ^ 32 ∧ t.legacy = (x.legacy || s.boot.legacyReq) ∧ t.tb = State.reset.tb ∧ t.partState = [] ∧ t.boot.resetN = true) ∧
    (x.lockstep = false → Completes (.resetNRise x) s fun t => t.devState = 0 ∧ t.holdCause = 3 ∧ t.boot.alert = true ∧
      t.boot.failInfo = 2 + 0x121 * 2 ^ 20) ∧
    (x.lockstep = true → (x.bootSrc % 4 = 3 ∨ x.fwVer = none ∨ x.coreOk = false) → Completes (.resetNRise x) s fun t => t.devState = 0 ∧
      t.holdCause = 5 ∧ t.boot.alert = true) ∧
    (x.lockstep = true → x.bootSrc % 4 ≠ 3 → x.fwVer = some v → x.coreOk = true →
      (x.pllOk = false → Completes (.resetNRise x) s fun t => t.devState = 0 ∧ t.holdCause = 2 ∧ t.boot.failInfo = 4 + 0x121 * 2 ^ 20) ∧
      (x.pllOk = true → x.hostOk = false → Completes (.resetNRise x) s fun t => t.devState = 0 ∧ t.holdCause = 4 ∧
        t.boot.failInfo = 9 + 0x121 * 2 ^ 20 ∧ t.flag pTime 0x070 0 = true))) ∧
  (∀ (x : StartPlan) (v : Nat) (s : State), s.boot.off = true → s.boot.vddAon = true → x.lockstep = true → s.boot.strapSrc ≠ 3 → x.fwVer = some v →
    x.coreOk = true → x.pllOk = true → x.hostOk = true → x.lanes = [] → x.stackBad = 0 → x.pcBad = [] → x.slices = [] → x.chanBad &&& s.fuses.chEn = 0 →
    (x.shadowOk = false ∨ s.boot.rec0 = none ∧ s.boot.rec1 = none) →
    s.fuses.cabinets ≤ ((List.range 288).filter s.fuses.posEn.testBit).length → Completes (.wakeN x) s fun t => t.devState = 2 ∧ t.boot.off = false ∧
      t.legacy = (s.boot.strapLegacy || s.boot.legacyReq) ∧ t.devPwr = State.reset.devPwr ∧ t.tb = State.reset.tb) ∧
  (∀ (s : State), s.boot.resetN = true → Completes .resetNFall s fun t => t.boot.resetN = false ∧ t.regs = State.reset.regs ∧ t.mem = [] ∧ t.cabs = [] ∧
    t.partState = [] ∧ t.tb = State.reset.tb ∧ t.boot.rec0 = s.boot.rec0 ∧ t.boot.rec1 = s.boot.rec1 ∧ t.boot.aonCount = s.boot.aonCount ∧
    t.boot.legacyReq = s.boot.legacyReq) ∧
  (∀ (s : State), s.boot.vddAon = true → Completes .vddAonLoss s fun t => t.boot.vddAon = false ∧ t.boot.legacyReq = false ∧ t.boot.trip = false ∧
    t.regs = State.reset.regs ∧ t.mem = [] ∧ t.cabs = [] ∧ t.boot.rec0 = s.boot.rec0 ∧ t.boot.rec1 = s.boot.rec1) ∧
  (∀ (s : State), s.boot.vddAon = false → Completes .vddAonRise s fun t => t.boot.vddAon = true ∧ t.boot.aonCount = 0 ∧ t.boot.aonLost = true ∧
    t.boot.aonEpoch = (Config.free s.draws).toNat % 2 ^ 32 ∧ t.regs = s.regs ∧ t.mem = s.mem)

/-- R454, R456, R457, R461, R463 to R466: a block of firmware is written at its place and counted when its CRC matches, and a position that fails four
times has failed its slice; SHUTDOWN, RUN_FULL and CLEAR_FAULTS are taken or refused; what the end of the self-test and of the record write leaves;
and the records written at run time. That a failed record write leaves FAILED is the model's reading (log entry 41). -/
def Obligations.FirmwareSelfTestAndRecords : Prop :=
  (∀ (p index count dest crc : Nat) (data : List Byte) (s : State), p < 288 → s.present (cctl p) = true → s.awake (spad p) = true →
    data.length ≤ 4096 →
    let ok := decide (crc32 (data.map (·.toNat)) = crc)
    (s.owner (cctl p) = 0 ∨ s.part (s.owner (cctl p)) ≠ .running →
      (Completes (.firmwareBlock p index count dest data crc) s fun t =>
        (∀ i, i < data.length → t.byte (spadAt p ((dest + i) % 2 ^ 22)) = data.getD i 0) ∧
        (dest + data.length ≤ 2 ^ 22 → s.sameBut t (spadAt p dest) data.length)) ∧
      (ok = true → Completes (.firmwareBlock p index count dest data crc) s fun t => (SMap.get (fun _ => 0) t.boot.fwGot p).testBit index = true ∧
        t.regs = s.regs) ∧
      (ok = false → SMap.get (fun _ => 0) s.boot.fwTries (p * 65536 + index) < 3 → Completes (.firmwareBlock p index count dest data crc) s fun t =>
        t.boot.fwGot = s.boot.fwGot ∧ t.boot.posFail = s.boot.posFail ∧ t.regs = s.regs ∧
          SMap.get (fun _ => 0) t.boot.fwTries (p * 65536 + index) = SMap.get (fun _ => 0) s.boot.fwTries (p * 65536 + index) + 1) ∧
      (ok = false → 3 ≤ SMap.get (fun _ => 0) s.boot.fwTries (p * 65536 + index) → Completes (.firmwareBlock p index count dest data crc) s fun t =>
        t.boot.posFail.testBit p = true ∧ t.flag pBist 0x010 1 = true ∧ (s.boot.spareSet.testBit p = true → Recorded s t pBist 3 0x124 p))) ∧
    (s.owner (cctl p) ≠ 0 → s.part (s.owner (cctl p)) = .running → Completes (.firmwareBlock p index count dest data crc) s fun t => t = s.ans .none)) ∧
  (∀ (r : Req) (w : Word) (s : State), s.passes r pBist 0x040 = true →
    let busy := s.flag pBist 0x06C 0 || decide (s.fld pBist 0x044 2 0 = 3)
    (w.bits 2 1 = 0 → s.allFree = true → busy = false → Completes (.shutdown r w) s fun t => t.boot = s.boot ∧
      (s.boot.strapSvc = true → t.fld pBist 0x044 2 0 = 3) ∧ (s.boot.strapSvc = false → t.flag pBist 0x06C 0 = true)) ∧
    (w.bits 2 1 = 0 → (s.allFree = false ∨ busy = true) → Completes (.shutdown r w) s fun t => Recorded s t pBist 5 0x013 0x040 ∧ t.boot = s.boot ∧
      t.rd pBist 0x044 = s.rd pBist 0x044) ∧
    (w.bit 0 = false → w.bit 2 = false → s.allFree = true → s.boot.strapSvc = true → Completes (.clearFaults r w) s fun t =>
      t.boot = { s.boot with clearMark := true } ∧ t.regs = s.regs) ∧
    (w.bit 0 = false → w.bit 2 = false → (s.allFree = false ∨ s.boot.strapSvc = false) → Completes (.clearFaults r w) s fun t => t.boot = s.boot ∧
      Recorded s t pBist 5 0x013 0x040) ∧
    (w.bits 1 0 = 0 → s.allFree = true → s.boot.strapSvc = true → busy = false → Completes (.runFull r w) s fun t => t.fld pBist 0x044 2 0 = 3 ∧
      t.boot = s.boot) ∧
    (w.bits 1 0 = 0 → (s.allFree = false ∨ s.boot.strapSvc = false ∨ busy = true) → Completes (.runFull r w) s fun t =>
      Recorded s t pBist 5 0x013 0x040 ∧ t.rd pBist 0x044 = s.rd pBist 0x044)) ∧
  (∀ (ms : Nat) (ok : Bool) (s : State), (s.fld pBist 0x044 2 0 = 3 ∨ s.flag pBist 0x06C 0 = true) → s.devState ≠ 0 →
    (s.fld pBist 0x044 2 0 = 3 → s.fuses.cabinets ≤ s.healthyCount ∧ s.boot.clearMark = false) →
    (ok = true → Completes (.bistDone [] ms ok) s fun t => t.fld pBist 0x044 2 0 = 4 ∧ t.flag pBist 0x010 0 = true ∧ t.boot.recDirty = false ∧
      ∃ h, (if s.boot.writesFirst then t.boot.rec0 = some h ∧ t.boot.rec1 = s.boot.rec1 else t.boot.rec1 = some h ∧ t.boot.rec0 = s.boot.rec0) ∧
        h.seq = (s.boot.record.map (·.seq + 1)).getD 1 ∧ h.good = true ∧ h.epoch = s.boot.aonEpoch ∧
        (s.fld pBist 0x044 2 0 = 3 → h.full = true ∧ h.stamp = s.boot.aonCount ∧ h.runtime = 0) ∧
        (s.fld pBist 0x044 2 0 ≠ 3 → h.full = (s.boot.record.map (·.full)).getD false ∧ h.stamp = (s.boot.record.map (·.stamp)).getD 0)) ∧
    (ok = false → Completes (.bistDone [] ms ok) s fun t => t.boot.rec0 = s.boot.rec0 ∧ t.boot.rec1 = s.boot.rec1 ∧
      ∃ i, Recorded s t pBist 4 0x123 i)) ∧
  (∀ (x : Slice) (ms : Nat) (ok : Bool) (s : State), s.fld pBist 0x044 2 0 = 3 → s.boot.clearMark = false → x.fail ≠ 0 →
    (x.code = 2 ∨ x.code = 3 ∨ x.code = 4) → Completes (.bistDone [x] ms ok) s fun t => t.devState = 0 ∧ t.holdCause = 1 ∧ t.fld pBist 0x044 2 0 = 5 ∧
      Recorded s t pBist 3 0x121 (x.code % 16 + x.inst % 4096 * 16) ∧ t.boot.alert = true ∧ t.flag pBist 0x010 1 = true) ∧
  (∀ (p ms : Nat) (ok : Bool) (s : State), s.fld pBist 0x044 2 0 = 3 → s.boot.clearMark = true → p < 288 →
    Completes (.bistDone [⟨0, p, 0, 0⟩, ⟨1, p, 0, 0⟩] ms ok) s fun t => t.boot.posFail.testBit p = false ∧ t.boot.posFence.testBit p = false ∧
      t.boot.clearMark = false) ∧
  (∀ (s : State), s.devState = 2 →
    (s.boot.recDirty = true → Completes (.healthRecordUpdate true) s fun t => t.boot.recDirty = false ∧ t.flag pBist 0x010 3 = true ∧
      ∃ h, (if s.boot.writesFirst then t.boot.rec0 = some h else t.boot.rec1 = some h) ∧ h.seq = (s.boot.record.map (·.seq + 1)).getD 1 ∧
        h.stamp = (s.boot.record.map (·.stamp)).getD 0 ∧ h.posFault = s.boot.posFail ||| s.boot.posFence) ∧
    (s.boot.recDirty = true → Completes (.healthRecordUpdate false) s fun t => t.boot = s.boot ∧ t.flag pBist 0x010 4 = true) ∧
    (s.boot.trainDirty = true → Completes (.trainingRecordWrite true) s fun t => t.boot = { s.boot with trainDirty := false } ∧
      t.flag pBist 0x010 3 = true) ∧
    (s.boot.trainDirty = true → Completes (.trainingRecordWrite false) s fun t => t.boot.trainDirty = true ∧ t.flag pBist 0x010 4 = true))

/-! ### Power (18_power.md) -/

/-- R471, R474 to R481, Tables 18.2 to 18.4: a request for a domain starts a transition, is recorded during one, or is refused with code 0x013 and the
domain number; what the end of a transition leaves, at the target, of registers, memory and a recorded request; the clock switch; and the device-level
states, whose requests are refused, recorded or started, and whose end is DEV_DONE or OFF. What the end of a transition leaves between its states is
in part the model's choice (log entry 56). -/
def Obligations.DomainsAndDeviceChangeState : Prop :=
  (∀ (r : Req) (pg : Option Page) (w : Word) (s : State), s.passes r (pg.getD pPwr) (if pg.isSome then 0x030 else 0x050) = true →
    let d := match pg with | some p => p.dom | none => s.fld pPwr 0x04C 8 0
    (pwrOf (w.bits 2 0) = none → Completes (.powerRequest r pg w) s fun t => t.doms = s.doms ∧
      Recorded s t (pg.getD pPwr) 5 0x010 (if pg.isSome then 0x030 else 0x050)) ∧
    (∀ x, pwrOf (w.bits 2 0) = some x →
      (s.fusedOff d = true ∨ x ≠ .run ∧ s.powerRefused r.isBureau false d x = true → Completes (.powerRequest r pg w) s fun t => t.doms = s.doms ∧
        Recorded s t pPwr 5 0x013 d ∧ t.flag pPwr 0x010 1 = true) ∧
      (s.fusedOff d = false → (x = .run ∨ s.powerRefused r.isBureau false d x = false) →
        ((s.dom d).busy = false → x ≠ (s.dom d).cur → Completes (.powerRequest r pg w) s fun t =>
          t.dom d = { s.dom d with target := x, latest := x, recorded := none, busy := true, since := s.now } ∧
          (x ≠ .run → 4 ≤ d → d < 292 → ∀ i, i < 4 → t.rd64 (drw (d - 4) i) 0x070 = s.now % 2 ^ 64)) ∧
        ((s.dom d).busy = false → x = (s.dom d).cur → Completes (.powerRequest r pg w) s fun t => t.dom d = { s.dom d with latest := x } ∧
          t.regs = s.regs) ∧
        ((s.dom d).busy = true → Completes (.powerRequest r pg w) s fun t => t.regs = s.regs ∧
          t.dom d = { s.dom d with latest := x, recorded := if x = (s.dom d).target then none else some x, byBureau := r.isBureau })))) ∧
  (∀ (d : Nat) (bad : Bool) (s : State), (s.dom d).busy = true →
    ((s.dom d).recorded = none → Completes (.transitionDone d bad) s fun t => (t.dom d).cur = (s.dom d).target ∧ (t.dom d).busy = false ∧
      t.flag pPwr 0x010 0 = true ∧
      ((s.dom d).target = .off → ∀ p ∈ domPages d, ∀ off, off < 4096 → (p.blk = .hut0 → off ∉ [0x00C, 0x048]) → t.rd p off = resetWord p.blk off) ∧
      ((s.dom d).target = .off → ∀ h, h < 4 → d = 308 + h → t.rd (hut0 h) 0x048 = s.rd (hut0 h) 0x048) ∧
      ((s.dom d).target = .off → 308 ≤ d → ∀ i, i < 2 ^ 35 → t.byte ((d - 308) * 2 ^ 35 + i) = 0) ∧
      ((s.dom d).target = .off → 4 ≤ d → d < 292 → ∀ i, i < 2 ^ 22 → t.byte (spadAt (d - 4) i) = 0) ∧
      ((s.dom d).cur = .deep → bad = true → Recorded s t pPwr 2 0x005 d ∧ t.flag pPwr 0x010 2 = true ∧
        t.faultReports = s.faultReports ++ [⟨domPage d, 0x005, s.now, 0⟩]) ∧
      ((s.dom d).cur = .off → (s.dom d).target = .run → bad = true → t.faultReports = s.faultReports ++ [⟨domPage d, 0x120, s.now, 0⟩]) ∧
      ((s.dom d).cur ≠ .deep → (s.dom d).cur ≠ .off → t.faultReports = s.faultReports)) ∧
    ((s.dom d).recorded = some .run → (s.dom d).target ≠ .run → Completes (.transitionDone d bad) s fun t => (t.dom d).cur = (s.dom d).target ∧
      (t.dom d).target = .run ∧ (t.dom d).busy = true ∧ (t.dom d).recorded = none) ∧
    ((s.dom d).recorded = some .sleep → (s.dom d).target = .run → (s.dom d).cur = .idle → 292 ≤ d → d < 308 → s.flag (chin (d - 292)) 0x008 0 = true →
      Completes (.transitionDone d bad) s fun t => (t.dom d).cur = .run ∧ (t.dom d).busy = false ∧ Recorded s t pPwr 5 0x013 d)) ∧
  (∀ (r : Req) (w : Word) (s : State), s.passes r pPwr 0x058 = true → w.bit 0 = true →
    let d := s.fld pPwr 0x04C 8 0
    (s.fusedOff d = false → (s.dom d).cur = .run → (s.dom d).fio = true → (s.dom d).busy = false → Completes (.clockSwitch r w) s fun t =>
      t.dom d = { s.dom d with fio := false } ∧ t.regs = s.regs ∧ SMap.get (fun _ => false) t.synced d = false) ∧
    (s.fusedOff d = true ∨ (s.dom d).cur ≠ .run ∨ (s.dom d).fio = false ∨ (s.dom d).busy = true → Completes (.clockSwitch r w) s fun t =>
      t.doms = s.doms ∧ Recorded s t pPwr 5 0x013 d ∧ t.flag pPwr 0x010 1 = true)) ∧
  (∀ (r : Req) (w : Word) (s : State), s.passes r pPwr 0x044 = true →
    (w.bits 2 0 ≠ 0 → w.bits 2 0 ≠ 3 → w.bits 2 0 ≠ 4 → Completes (.devicePowerRequest r w) s fun t => t.devPwr = s.devPwr ∧
      Recorded s t pPwr 5 0x010 0x044) ∧
    (∀ x, pwrOf (w.bits 2 0) = some x → x ≠ .idle → x ≠ .sleep →
      (s.deviceAllowed x = false → Completes (.devicePowerRequest r w) s fun t => t.devPwr = s.devPwr ∧ t.doms = s.doms ∧
        Recorded s t pPwr 5 0x013 0x1FF ∧ t.flag pPwr 0x010 1 = true) ∧
      (s.deviceAllowed x = true → s.devPwr.busy = true → Completes (.devicePowerRequest r w) s fun t => t.doms = s.doms ∧
        t.devPwr = { s.devPwr with recorded := if x = s.devPwr.target then none else some x }) ∧
      (s.deviceAllowed x = true → s.devPwr.busy = false → x = s.devPwr.cur → Completes (.devicePowerRequest r w) s fun t => t.devPwr = s.devPwr ∧
        t.doms = s.doms) ∧
      (s.deviceAllowed x = true → s.devPwr.busy = false → x ≠ s.devPwr.cur → Completes (.devicePowerRequest r w) s fun t => t.devPwr.target = x ∧
        t.devPwr.busy = true ∧ t.devPwr.cur = s.devPwr.cur))) ∧
  (∀ (s : State), s.devPwr.busy = true → (∀ d ∈ s.leafDomains, (s.dom d).busy = false) →
    (s.devPwr.target ≠ .off → s.devPwr.recorded = none → Completes .devDone s fun t => t.devPwr = { s.devPwr with cur := s.devPwr.target, busy := false } ∧
      t.flag pPwr 0x010 3 = true ∧ t.doms = s.doms) ∧
    (s.devPwr.target = .off → Completes .devDone s fun t => t.boot.off = true ∧ t.devPwr.cur = .off ∧ t.devPwr.busy = false ∧ t.regs = State.reset.regs ∧
      t.mem = [] ∧ t.partState = [] ∧ t.boot.aonCount = s.boot.aonCount ∧ t.hostMem = s.hostMem))

/-! ### Observation, debug and package (19_observation.md, 20_package.md) -/

/-- R486 to R490, R493 to R498, R512 to R514, Tables 19.7, 20.9: the freeze, its snapshot and the thaw; trace records and counter clears; the TAP, the
debug unlock and the halts; the junction monitors with the alarm and the trip, and what SMBus reads of them. The header of a snapshot that failed and
the captures of the TAP are the model's choice (log entries 35, 37). -/
def Obligations.ObservationDebugAndPackage : Prop :=
  (∀ (r : Req) (w : Word) (s : State), s.passes r pObs 0x044 = true →
    (w.bit 1 = false → s.rd64 pObs 0x048 < s.now + s.freezeLead → Completes (.freezeArm r w) s fun t => t.freeze = s.freeze ∧
      Recorded s t pObs 5 0x140 0) ∧
    (w.bit 1 = false → s.now + s.freezeLead ≤ s.rd64 pObs 0x048 → s.freeze.inForce = false → s.freeze.armed = false →
      Completes (.freezeArm r w) s fun t => t.freeze = { s.freeze with armed := true, snapCause := 0, snapUnit := 0 } ∧
        t.rd64 pObs 0x054 = s.rd64 pObs 0x048) ∧
    (w.bit 1 = false → s.now + s.freezeLead ≤ s.rd64 pObs 0x048 → s.freeze.inForce = true → Completes (.freezeArm r w) s fun t =>
      t.freeze = s.freeze ∧ t.flag pObs 0x010 4 = true ∧ t.rd64 pObs 0x054 = s.rd64 pObs 0x054) ∧
    (w.bit 0 = false → s.freeze.snapping = true → Completes (.thaw r w) s fun t => t.freeze = s.freeze ∧ Recorded s t pObs 5 0x013 0x044) ∧
    (w.bit 0 = false → s.freeze.snapping = false → s.freeze.armed = true → Completes (.thaw r w) s fun t => t.freeze = { s.freeze with armed := false }) ∧
    (w.bit 0 = false → s.freeze.snapping = false → s.freeze.armed = false → s.freeze.inForce = true → Completes (.thaw r w) s fun t =>
      t.freeze = { s.freeze with thawAt := some (s.now + s.freezeLead) })) ∧
  (∀ (r : Req) (w : Word) (s : State), s.passes r pObs 0x090 = true → w.bit 0 = true → s.freeze.snapping = false →
    (s.freeze.inForce = false → s.freeze.armed = false → Completes (.snapTake r w) s fun t =>
      t.freeze = { s.freeze with armed := true, snapCause := 1, snapUnit := 0 } ∧ t.rd64 pObs 0x054 = (s.now + s.freezeLead) % 2 ^ 64) ∧
    (s.freeze.inForce = true → Completes (.snapTake r w) s fun t => t.freeze = s.freeze ∧ t.flag pObs 0x010 4 = true)) ∧
  (∀ (s : State), s.freeze.armed = true → s.rd64 pObs 0x054 ≤ s.now →
    let w := s.regCfg (stackOf s.snapBase) (regionOf s.snapBase)
    let good := s.snapBase % 2 ^ 30 = 0 ∧ w.bit 31 = true ∧ w.bits 9 6 = 9 ∧ s.fuses.stkEn.testBit (stackOf s.snapBase) = true
    (s.freeze.snapCause = 0 → Completes .freeze s fun t => t.freeze.inForce = true ∧ t.freeze.armed = false ∧ t.freeze.snapping = s.freeze.snapping ∧
      t.flag pObs 0x010 0 = true ∧ t.mem = s.mem) ∧
    (s.freeze.snapCause ≠ 0 → good → Completes .freeze s fun t => t.freeze.inForce = true ∧ t.freeze.snapping = true ∧
      t.rdN pObs 0x09C = (s.rdN pObs 0x09C + 1) % 2 ^ 32 ∧ t.flag pObs 0x010 0 = true) ∧
    (s.freeze.snapCause ≠ 0 → ¬ good → Completes .freeze s fun t => t.freeze.inForce = true ∧ t.freeze.snapping = s.freeze.snapping ∧ t.mem = s.mem ∧
      Recorded s t pObs 5 0x141 0)) ∧
  (∀ (x : Nat) (s : State), s.freeze.thawAt = some x → x ≤ s.now → Completes .counterResume s fun t => t.freeze.inForce = false ∧
    t.freeze.thawAt = none ∧ t.flag pObs 0x010 1 = true) ∧
  (∀ (s : State), s.freeze.snapping = true →
    ((∀ b, s.mirrorAt b = none) → Completes (.snapDone none) s fun t => t.freeze.snapping = false ∧ t.flag pObs 0x010 2 = true ∧
      t.load s.snapBase 4 = 0x504E5348 ∧ t.load (s.snapBase + 60) 4 = 0x444F4E45) ∧
    (∀ i, Completes (.snapDone (some i)) s fun t => t.freeze.snapping = false ∧ t.mem = s.mem ∧ Recorded s t pObs 4 0x142 i)) ∧
  (∀ (e x : Nat) (rest : List Nat) (s : State), (s.traceBuf e).records = x :: rest → s.ctrFrozen pObs = false →
    let base := s.rd64 pObs 0x07C % 2 ^ 37
    let w := s.regCfg (stackOf base) (regionOf base)
    let n := 2 ^ (s.fld pObs 0x084 4 0 - 4)
    let i := s.rdN pObs 0x088
    (w.bit 31 = false ∨ w.bits 9 6 ≠ 8 ∨ s.flag pObs 0x070 1 = true ∧ n ≤ i → Completes (.traceRecordWrite e) s fun t => t.mem = s.mem ∧
      (t.traceBuf e).records = rest ∧ t.rdN pObs 0x08C = min (s.rdN pObs 0x08C + 1) 4294967295) ∧
    (w.bit 31 = true → w.bits 9 6 = 8 → (s.flag pObs 0x070 1 = false ∨ i < n) → (∀ b, s.mirrorAt b = none) → Completes (.traceRecordWrite e) s fun t =>
      t.load (base + 16 * (i % n)) 16 = x % 2 ^ 128 ∧ s.sameBut t (base + 16 * (i % n)) 16 ∧ t.rdN pObs 0x088 = (i + 1) % 2 ^ 32 ∧
      (t.traceBuf e).records = rest)) ∧
  (∀ (p q rd buf : Nat) (s : State), (s.core p).wait = some (.qrecv q rd buf) → (s.core p).traced = false →
    (s.core p).waitSince + 64 * 2 ^ s.fld pObs 0x070 9 5 ≤ s.now → s.tracing (s.cabKey p) 4 (s.core p).waitSince = true → (s.traceBuf p).lost = 0 →
    (s.traceBuf p).records.length < 16 → Completes (.waitStartRecord p) s fun t => (t.core p).traced = true ∧
      (t.traceBuf p).records = (s.traceBuf p).records ++ [s.waitRecord p 1 0]) ∧
  (∀ (r : Req) (p : Page) (w : Word) (s : State), (p.blk = .obs ∨ p.blk = .cobs) → s.passes r p (if p.blk = .obs then 0x064 else 0x044) = true →
    w.bit 0 = true → Completes (.cntClear r p w) s fun t => ∀ off, off < 4096 →
      t.rd p off = if 0x100 ≤ off then resetWord p.blk off else s.rd p off) ∧
  (∀ (code : Nat) (s : State),
    (code = 0x01 → Completes (.tapInstruction code) s fun t => t.resp = .words [s.idcode] ∧ t.debugger = { s.debugger with tapInstr := 0x01 }) ∧
    (code = 0x22 → Completes (.tapInstruction code) s fun t => t.resp = .words s.vsec ∧ t.debugger = { s.debugger with tapInstr := 0x22 }) ∧
    (s.tapAllowed code = false → Completes (.tapInstruction code) s fun t => t.resp = .words [0] ∧ t.debugger = { s.debugger with tapInstr := 0xFF }) ∧
    (code = 0x11 → s.debugger.unlocked = false → Completes (.tapInstruction code) s fun t => t.resp = .words [0])) ∧
  (∀ (s : State),
    (s.debugger.invalid < 3 → Completes .unlockChal s fun t => ∃ n, t.debugger = { s.debugger with nonce := some n } ∧
      t.resp = .words [n.toNat, s.fuses.uid, s.rdN pDev 0x050, 0]) ∧
    (3 ≤ s.debugger.invalid → Completes .unlockChal s fun t => t.resp = .words [] ∧ t.debugger = s.debugger) ∧
    (Completes (.unlockResp .zero) s fun t => t.debugger = { s.debugger with unlocked := false }) ∧
    (s.debugger.nonce ≠ none → s.debugger.invalid < 3 → Completes (.unlockResp .valid) s fun t =>
      t.debugger = { s.debugger with unlocked := true, nonce := none }) ∧
    (s.debugger.nonce = none ∨ 3 ≤ s.debugger.invalid → Completes (.unlockResp .valid) s fun t => t.debugger = s.debugger) ∧
    (s.debugger.invalid < 2 → Completes (.unlockResp .invalid) s fun t => t.debugger = { s.debugger with invalid := s.debugger.invalid + 1 }) ∧
    (s.debugger.invalid = 2 → Completes (.unlockResp .invalid) s fun t => t.debugger = { s.debugger with invalid := 3, nonce := none } ∧
      Recorded s t pObs 6 0x143 0)) ∧
  (∀ (h : Nat) (s : State),
    (s.debugger.unlocked = true → s.isHalted h = false → (h = 288 ∨ h < 288 ∧ s.coreState h = 1) → Completes (.debugHalt h) s fun t =>
      t.isHalted h = true ∧ (h < 288 → t.coreState h = 2) ∧ t.mem = s.mem) ∧
    (s.debugger.unlocked = false → Completes (.debugHalt h) s fun t => t = s.ans .none) ∧
    (∀ x, s.debugger.halted.find? (·.1 = h) = some x → Completes (.debugResume h) s fun t => t.debugger.halted = s.debugger.halted.erase x ∧
      (h < 288 → s.coreState h = 2 → t.coreState h = 1))) ∧
  (∀ (temps : List Int) (s : State), s.powered = true → temps.length = 16 →
    ((∃ x ∈ temps, 115 ≤ x) → Completes (.monitorReading temps) s fun t => t.boot.trip = true ∧ t.boot.off = true ∧ t.boot.alert = true ∧
      t.boot.temps = temps ∧ t.regs = State.reset.regs ∧ t.mem = [] ∧ t.partState = []) ∧
    ((∀ x ∈ temps, x < 115) → (∃ x ∈ temps, 105 ≤ x) → Completes (.monitorReading temps) s fun t => t.boot.alarm = true ∧ t.boot.alarmed = true ∧
      t.boot.alert = true ∧ t.flag pDev 0x010 1 = true ∧ t.mem = s.mem) ∧
    ((∀ x ∈ temps, x ≤ 100) → Completes (.monitorReading temps) s fun t => t.boot.alarm = false ∧ t.boot.alarmed = s.boot.alarmed ∧ t.regs = s.regs) ∧
    ((∀ x ∈ temps, x < 105) → (∃ x ∈ temps, 100 < x) → Completes (.monitorReading temps) s fun t => t.boot = { s.boot with temps := temps } ∧
      t.regs = s.regs)) ∧
  (∀ (s : State), s.powered = true →
    (Completes .smbusBlockRead s fun t => t.resp = .words s.vsec) ∧
    (∀ i, i < 16 → Completes (.smbusMonitorRead i) s fun t => t.resp = .data (BitVec.ofInt 8 (s.boot.temps.getD i 0)).toNat) ∧
    (∀ x, (∀ y ∈ s.boot.temps, y ≤ x) → x ∈ s.boot.temps → Completes .smbusHighestRead s fun t => t.resp = .data (BitVec.ofInt 8 x).toNat) ∧
    (Completes .smbusAlarmRead s fun t => t.resp = .data (b2n s.boot.alarm + 2 * b2n s.boot.alarmed + 4 * b2n s.boot.trip)) ∧
    (∀ pec, pec ≠ some false → Completes (.smbusAlarmClear 1 pec) s fun t => t.boot = { s.boot with alarmed := false, trip := false }) ∧
    (∀ v pec, v ≠ 1 ∨ pec = some false → Completes (.smbusAlarmClear v pec) s fun t => t = s.ans .none))

/-! ### The whole block -/

/-- A step runs the command at the front of the queue on the state with the queue's rest; on an empty queue one CLK_TB edge passes, which is the model's
choice (log entry 1). -/
def Obligations.StepRunsTheFrontCommand : Prop :=
  (∀ (c : Instr) (rest : List Instr) (s : State), step { s with pending := c :: rest } = exec c { s with pending := rest }) ∧
  (∀ s : State, s.pending = [] → step s = .next (clockEdge s))

/-- Every command completes from every state, and changes nothing but the parts of the state that `touches` lists for it, and the answer. The queue and
the fuse words are never changed. -/
def Obligations.CommandsChangeOnlyWhatTheyTouch : Prop :=
  ∀ (c : Instr) (s : State), Completes c s fun t => t.except (touches c) = s.except (touches c)

/-- Every step keeps the canonical form of the byte memories. The form is the model's (log entry 15). -/
def Obligations.StepsKeepTheMemoryForm : Prop :=
  ∀ s t : State, s.memWf = true → step s = .next t → t.memWf = true

/-- What reset leaves: both memories in canonical form with nothing listed, an empty queue, every register at the value its row of the register tables
gives, device time HELD at zero, no partition, no open channel, no error, nothing in the meshes, and every ring, timer and source at rest. The zeros
of unwritten memory and of what the spec gives no reset value, and the pins, are the model's choice (log entries 3, 6, 7, 13); the defaults of
configuration space are those of PCI Express (log entry 58). -/
def Obligations.ResetState : Prop :=
  State.reset.memWf = true ∧ (∀ a, State.reset.byte a = 0) ∧ State.reset.pending = [] ∧
  (∀ (p : Page) (off : Nat), off < 4096 → State.reset.rd p off = resetWord p.blk off) ∧
  State.reset.tb.state = .held ∧ State.reset.now = 0 ∧ (∀ k, State.reset.part k = .free) ∧ (∀ n, n < 16 → State.reset.chanOn n = false) ∧
  (∀ f, State.reset.log f = []) ∧ State.reset.net = [] ∧ State.reset.faultReports = [] ∧ State.reset.mbox = [] ∧ State.reset.recov = [] ∧
  (∀ f i, (State.reset.hring f i).en = false) ∧ (∀ k e, State.reset.source k e = Source.reset) ∧ State.reset.freeze.armed = false ∧
  State.reset.freeze.inForce = false ∧ State.reset.debugger.unlocked = false ∧ (∀ d, (State.reset.dom d).cur = .run) ∧
  State.reset.pci.status = [] ∧ State.reset.pci.reports = [] ∧ State.reset.pci.ecrcCheck = false ∧ State.reset.pci.vfEnable = false
end

