-- ==== Sys2Proof/Laws/SMap.lean ====
section
/-!
SUPPORT. SMap.lean: the laws of the sparse canonical map: a read after a write, the canonical form, and what a filter sees of a write.
-/

namespace Sys2Proof.Machine

variable {α : Type}

@[simp] theorem SMap.get_nil (d : Nat → α) (k : Nat) : SMap.get d [] k = d k := rfl

theorem SMap.get_erase_same (d : Nat → α) (m : SMap α) (k : Nat) : SMap.get d (SMap.erase m k) k = d k := by
  induction m with
  | nil => rfl
  | cons e m ih =>
    obtain ⟨k', v⟩ := e
    by_cases h : k = k'
    · simpa [SMap.erase, h] using h ▸ ih
    · simpa [SMap.erase, SMap.get, h] using ih

theorem SMap.get_erase_other (d : Nat → α) (m : SMap α) {k j : Nat} (h : j ≠ k) :
    SMap.get d (SMap.erase m k) j = SMap.get d m j := by
  induction m with
  | nil => rfl
  | cons e m ih =>
    obtain ⟨k', v⟩ := e
    by_cases hk : k = k'
    · subst hk; simpa [SMap.erase, SMap.get, h] using ih
    · by_cases hj : j = k'
      · simp [SMap.erase, SMap.get, hk, hj]
      · simpa [SMap.erase, SMap.get, hk, hj] using ih

theorem SMap.get_insert_same (d : Nat → α) (m : SMap α) (k : Nat) (v : α) : SMap.get d (SMap.insert m k v) k = v := by
  induction m with
  | nil => simp [SMap.insert, SMap.get]
  | cons e m ih =>
    obtain ⟨k', v'⟩ := e
    by_cases h : k < k'
    · simp [SMap.insert, SMap.get, h]
    · by_cases hk : k = k'
      · simp [SMap.insert, SMap.get, hk]
      · simpa [SMap.insert, SMap.get, h, hk] using ih

theorem SMap.get_insert_other (d : Nat → α) (m : SMap α) {k j : Nat} (v : α) (h : j ≠ k) :
    SMap.get d (SMap.insert m k v) j = SMap.get d m j := by
  induction m with
  | nil => simp [SMap.insert, SMap.get, h]
  | cons e m ih =>
    obtain ⟨k', v'⟩ := e
    by_cases h1 : k < k'
    · simp [SMap.insert, SMap.get, h1, h]
    · by_cases hk : k = k'
      · subst hk; simp [SMap.insert, SMap.get, h]
      · by_cases hj : j = k'
        · simp [SMap.insert, SMap.get, h1, hk, hj]
        · simpa [SMap.insert, SMap.get, h1, hk, hj] using ih

/-- A read of the key just written gives the value written. -/
@[simp] theorem SMap.get_set_same [DecidableEq α] (d : Nat → α) (m : SMap α) (k : Nat) (v : α) :
    SMap.get d (SMap.set d m k v) k = v := by
  unfold SMap.set
  split
  · next h => rw [SMap.get_erase_same, h]
  · exact SMap.get_insert_same d m k v

/-- A write leaves every other key as it was. -/
theorem SMap.get_set_other [DecidableEq α] (d : Nat → α) (m : SMap α) {k j : Nat} (v : α) (h : j ≠ k) :
    SMap.get d (SMap.set d m k v) j = SMap.get d m j := by
  unfold SMap.set
  split
  · exact SMap.get_erase_other d m h
  · exact SMap.get_insert_other d m v h

/-! ### Filters -/

theorem SMap.filter_erase (m : SMap α) (k : Nat) (p : Nat × α → Bool) (h : ∀ v, p (k, v) = false) :
    (SMap.erase m k).filter p = List.filter p m := by
  induction m with
  | nil => rfl
  | cons e m ih =>
    obtain ⟨k', v⟩ := e
    by_cases hk : k = k'
    · subst hk; simpa [SMap.erase, h v] using ih
    · cases hp : p (k', v) <;> simp [SMap.erase, hk, hp, ih]

theorem SMap.filter_insert (m : SMap α) (k : Nat) (v : α) (p : Nat × α → Bool) (h : ∀ v, p (k, v) = false) :
    (SMap.insert m k v).filter p = List.filter p m := by
  induction m with
  | nil => simp [SMap.insert, h]
  | cons e m ih =>
    obtain ⟨k', v'⟩ := e
    by_cases h1 : k < k'
    · simp [SMap.insert, h1, h]
    · by_cases hk : k = k'
      · subst hk; simp [SMap.insert, h]
      · cases hp : p (k', v') <;> simp [SMap.insert, h1, hk, hp, ih]

/-- A filter that discards the written key sees nothing of the write. -/
theorem SMap.filter_set [DecidableEq α] (d : Nat → α) (m : SMap α) (k : Nat) (v : α) (p : Nat × α → Bool)
    (h : ∀ v, p (k, v) = false) : (SMap.set d m k v).filter p = List.filter p m := by
  unfold SMap.set
  split
  · exact SMap.filter_erase m k p h
  · exact SMap.filter_insert m k v p h

/-! ### The canonical form -/

section
variable [DecidableEq α] {d : Nat → α}

theorem SMap.wfFrom_mono {m : SMap α} {a b : Nat} (hb : b ≤ a) (h : SMap.wfFrom d a m = true) : SMap.wfFrom d b m = true := by
  cases m with
  | nil => rfl
  | cons e m =>
    obtain ⟨k, v⟩ := e
    simp only [SMap.wfFrom, Bool.and_eq_true, decide_eq_true_eq] at h ⊢
    exact ⟨⟨by omega, h.1.2⟩, h.2⟩

theorem SMap.wfFrom_filter {m : SMap α} {a : Nat} (p : Nat × α → Bool) (h : SMap.wfFrom d a m = true) :
    SMap.wfFrom d a (List.filter p m) = true := by
  induction m generalizing a with
  | nil => rfl
  | cons e m ih =>
    obtain ⟨k, v⟩ := e
    simp only [SMap.wfFrom, Bool.and_eq_true, decide_eq_true_eq] at h
    have ih := ih h.2
    cases hp : p (k, v)
    · simpa [List.filter_cons, hp] using SMap.wfFrom_mono (by omega) ih
    · simp [hp, SMap.wfFrom, h.1.1, h.1.2, ih]

theorem SMap.wfFrom_erase {m : SMap α} {a k : Nat} (h : SMap.wfFrom d a m = true) : SMap.wfFrom d a (SMap.erase m k) = true := by
  induction m generalizing a with
  | nil => rfl
  | cons e m ih =>
    obtain ⟨k', v⟩ := e
    simp only [SMap.wfFrom, Bool.and_eq_true, decide_eq_true_eq] at h
    have ih := ih h.2
    by_cases hk : k = k'
    · simpa [SMap.erase, hk] using SMap.wfFrom_mono (by omega) (hk ▸ ih)
    · simp [SMap.erase, hk, SMap.wfFrom, h.1.1, h.1.2, ih]

theorem SMap.wfFrom_insert {m : SMap α} {a k : Nat} {v : α} (hk : a ≤ k) (hv : v ≠ d k) (h : SMap.wfFrom d a m = true) :
    SMap.wfFrom d a (SMap.insert m k v) = true := by
  induction m generalizing a with
  | nil => simp [SMap.insert, SMap.wfFrom, hk, hv]
  | cons e m ih =>
    obtain ⟨k', v'⟩ := e
    simp only [SMap.wfFrom, Bool.and_eq_true, decide_eq_true_eq] at h
    by_cases h1 : k < k'
    · simp only [SMap.insert, h1, if_true, SMap.wfFrom, Bool.and_eq_true, decide_eq_true_eq]
      exact ⟨⟨hk, hv⟩, ⟨⟨by omega, h.1.2⟩, h.2⟩⟩
    · by_cases h2 : k = k'
      · subst h2
        simp only [SMap.insert, Nat.lt_irrefl, if_false, if_true, SMap.wfFrom, Bool.and_eq_true, decide_eq_true_eq]
        exact ⟨⟨hk, hv⟩, h.2⟩
      · simp only [SMap.insert, h1, if_false, h2, SMap.wfFrom, Bool.and_eq_true, decide_eq_true_eq]
        exact ⟨h.1, ih (by omega) h.2⟩

/-- A write keeps the canonical form. -/
theorem SMap.wf_set {m : SMap α} (k : Nat) (v : α) (h : SMap.wf d m = true) : SMap.wf d (SMap.set d m k v) = true := by
  unfold SMap.set SMap.wf at *
  split
  · exact SMap.wfFrom_erase h
  · next hv => exact SMap.wfFrom_insert (Nat.zero_le k) hv h

/-- Discarding entries keeps the canonical form. -/
theorem SMap.wf_filter {m : SMap α} (p : Nat × α → Bool) (h : SMap.wf d m = true) : SMap.wf d (List.filter p m) = true :=
  SMap.wfFrom_filter p h

end

end Sys2Proof.Machine
end

