-- ==== Sys2Proof/Laws/FrameBase.lean ====
section
/-!
SUPPORT. FrameBase.lean: what State.except sees of the primitive updates: an update of a field of W changes nothing outside W. Each later
Frame file gives every operation its one frame lemma, which callers cite in place of unfolding the operation.
-/

namespace Sys2Proof.Machine

variable {W : List Part}

@[simp] theorem except_inbox (s : State) {x1} (h1 : Part.inbox ∈ W) :
    State.except { s with inbox := x1 } W = s.except W := by simp [State.except, h1]

@[simp] theorem except_decs (s : State) {x1} (h1 : Part.decs ∈ W) :
    State.except { s with decs := x1 } W = s.except W := by simp [State.except, h1]

@[simp] theorem except_rings (s : State) {x1} (h1 : Part.rings ∈ W) :
    State.except { s with rings := x1 } W = s.except W := by simp [State.except, h1]

@[simp] theorem except_partState (s : State) {x1} (h1 : Part.partState ∈ W) :
    State.except { s with partState := x1 } W = s.except W := by simp [State.except, h1]

@[simp] theorem except_routes (s : State) {x1} (h1 : Part.routes ∈ W) :
    State.except { s with routes := x1 } W = s.except W := by simp [State.except, h1]

@[simp] theorem except_cabs (s : State) {x1} (h1 : Part.cabs ∈ W) :
    State.except { s with cabs := x1 } W = s.except W := by simp [State.except, h1]

@[simp] theorem except_chans (s : State) {x1} (h1 : Part.chans ∈ W) :
    State.except { s with chans := x1 } W = s.except W := by simp [State.except, h1]

@[simp] theorem except_hutches (s : State) {x1} (h1 : Part.hutches ∈ W) :
    State.except { s with hutches := x1 } W = s.except W := by simp [State.except, h1]

@[simp] theorem except_mem (s : State) {x1} (h1 : Part.mem ∈ W) :
    State.except { s with mem := x1 } W = s.except W := by simp [State.except, h1]

@[simp] theorem except_doms (s : State) {x1} (h1 : Part.doms ∈ W) :
    State.except { s with doms := x1 } W = s.except W := by simp [State.except, h1]

@[simp] theorem except_logs (s : State) {x1} (h1 : Part.logs ∈ W) :
    State.except { s with logs := x1 } W = s.except W := by simp [State.except, h1]

@[simp] theorem except_maps_maps2_mapCur_mapRe (s : State) {x1 x2 x3 x4} (h1 : Part.maps ∈ W) (h2 : Part.maps2 ∈ W) (h3 : Part.mapCur ∈ W) (h4 : Part.mapRe ∈ W) :
    State.except { s with maps := x1, maps2 := x2, mapCur := x3, mapRe := x4 } W = s.except W := by simp [State.except, h1, h2, h3, h4]

@[simp] theorem except_net_arrivals_inbox_leaves_notices_sources_journals_ckpts_parkAreas (s : State) {x1 x2 x3 x4 x5 x6 x7 x8 x9} (h1 : Part.net ∈ W) (h2 : Part.arrivals ∈ W) (h3 : Part.inbox ∈ W) (h4 : Part.leaves ∈ W) (h5 : Part.notices ∈ W) (h6 : Part.sources ∈ W) (h7 : Part.journals ∈ W) (h8 : Part.ckpts ∈ W) (h9 : Part.parkAreas ∈ W) :
    State.except { s with net := x1, arrivals := x2, inbox := x3, leaves := x4, notices := x5, sources := x6, journals := x7, ckpts := x8, parkAreas := x9 } W = s.except W := by simp [State.except, h1, h2, h3, h4, h5, h6, h7, h8, h9]

@[simp] theorem except_expect_seqs (s : State) {x1 x2} (h1 : Part.expect ∈ W) (h2 : Part.seqs ∈ W) :
    State.except { s with expect := x1, seqs := x2 } W = s.except W := by simp [State.except, h1, h2]

@[simp] theorem except_parts (s : State) {x1} (h1 : Part.parts ∈ W) :
    State.except { s with parts := x1 } W = s.except W := by simp [State.except, h1]

@[simp] theorem except_faultReports (s : State) {x1} (h1 : Part.faultReports ∈ W) :
    State.except { s with faultReports := x1 } W = s.except W := by simp [State.except, h1]

@[simp] theorem except_journals (s : State) {x1} (h1 : Part.journals ∈ W) :
    State.except { s with journals := x1 } W = s.except W := by simp [State.except, h1]

@[simp] theorem except_d2dReplays (s : State) {x1} (h1 : Part.d2dReplays ∈ W) :
    State.except { s with d2dReplays := x1 } W = s.except W := by simp [State.except, h1]

@[simp] theorem except_d2dRetried (s : State) {x1} (h1 : Part.d2dRetried ∈ W) :
    State.except { s with d2dRetried := x1 } W = s.except W := by simp [State.except, h1]

@[simp] theorem except_boot (s : State) {x1} (h1 : Part.boot ∈ W) :
    State.except { s with boot := x1 } W = s.except W := by simp [State.except, h1]

@[simp] theorem except_hostMem (s : State) {x1} (h1 : Part.hostMem ∈ W) :
    State.except { s with hostMem := x1 } W = s.except W := by simp [State.except, h1]

@[simp] theorem except_maps (s : State) {x1} (h1 : Part.maps ∈ W) :
    State.except { s with maps := x1 } W = s.except W := by simp [State.except, h1]

@[simp] theorem except_maps2 (s : State) {x1} (h1 : Part.maps2 ∈ W) :
    State.except { s with maps2 := x1 } W = s.except W := by simp [State.except, h1]

@[simp] theorem except_net (s : State) {x1} (h1 : Part.net ∈ W) :
    State.except { s with net := x1 } W = s.except W := by simp [State.except, h1]

@[simp] theorem except_seqs (s : State) {x1} (h1 : Part.seqs ∈ W) :
    State.except { s with seqs := x1 } W = s.except W := by simp [State.except, h1]

@[simp] theorem except_sources (s : State) {x1} (h1 : Part.sources ∈ W) :
    State.except { s with sources := x1 } W = s.except W := by simp [State.except, h1]

@[simp] theorem except_mapRe (s : State) {x1} (h1 : Part.mapRe ∈ W) :
    State.except { s with mapRe := x1 } W = s.except W := by simp [State.except, h1]

@[simp] theorem except_leaves (s : State) {x1} (h1 : Part.leaves ∈ W) :
    State.except { s with leaves := x1 } W = s.except W := by simp [State.except, h1]

@[simp] theorem except_mbox (s : State) {x1} (h1 : Part.mbox ∈ W) :
    State.except { s with mbox := x1 } W = s.except W := by simp [State.except, h1]

@[simp] theorem except_partState_mbox_recov (s : State) {x1 x2 x3} (h1 : Part.partState ∈ W) (h2 : Part.mbox ∈ W) (h3 : Part.recov ∈ W) :
    State.except { s with partState := x1, mbox := x2, recov := x3 } W = s.except W := by simp [State.except, h1, h2, h3]

@[simp] theorem except_recov (s : State) {x1} (h1 : Part.recov ∈ W) :
    State.except { s with recov := x1 } W = s.except W := by simp [State.except, h1]

@[simp] theorem except_robs (s : State) {x1} (h1 : Part.robs ∈ W) :
    State.except { s with robs := x1 } W = s.except W := by simp [State.except, h1]

@[simp] theorem except_tb_timers_trigQual_trigEvents_synced (s : State) {x1 x2 x3 x4 x5} (h1 : Part.tb ∈ W) (h2 : Part.timers ∈ W) (h3 : Part.trigQual ∈ W) (h4 : Part.trigEvents ∈ W) (h5 : Part.synced ∈ W) :
    State.except { s with tb := x1, timers := x2, trigQual := x3, trigEvents := x4, synced := x5 } W = s.except W := by simp [State.except, h1, h2, h3, h4, h5]

@[simp] theorem except_timers (s : State) {x1} (h1 : Part.timers ∈ W) :
    State.except { s with timers := x1 } W = s.except W := by simp [State.except, h1]

@[simp] theorem except_net_redIn_partials_links (s : State) {x1 x2 x3 x4} (h1 : Part.net ∈ W) (h2 : Part.redIn ∈ W) (h3 : Part.partials ∈ W) (h4 : Part.links ∈ W) :
    State.except { s with net := x1, redIn := x2, partials := x3, links := x4 } W = s.except W := by simp [State.except, h1, h2, h3, h4]

@[simp] theorem except_d2dReplays_d2dRetried (s : State) {x1 x2} (h1 : Part.d2dReplays ∈ W) (h2 : Part.d2dRetried ∈ W) :
    State.except { s with d2dReplays := x1, d2dRetried := x2 } W = s.except W := by simp [State.except, h1, h2]

@[simp] theorem except_freeze_traces (s : State) {x1 x2} (h1 : Part.freeze ∈ W) (h2 : Part.traces ∈ W) :
    State.except { s with freeze := x1, traces := x2 } W = s.except W := by simp [State.except, h1, h2]

@[simp] theorem except_rings_routes (s : State) {x1 x2} (h1 : Part.rings ∈ W) (h2 : Part.routes ∈ W) :
    State.except { s with rings := x1, routes := x2 } W = s.except W := by simp [State.except, h1, h2]

@[simp] theorem except_locks (s : State) {x1} (h1 : Part.locks ∈ W) :
    State.except { s with locks := x1 } W = s.except W := by simp [State.except, h1]

@[simp] theorem except_staging (s : State) {x1} (h1 : Part.staging ∈ W) :
    State.except { s with staging := x1 } W = s.except W := by simp [State.except, h1]

@[simp] theorem except_synced (s : State) {x1} (h1 : Part.synced ∈ W) :
    State.except { s with synced := x1 } W = s.except W := by simp [State.except, h1]

@[simp] theorem except_ckpts (s : State) {x1} (h1 : Part.ckpts ∈ W) :
    State.except { s with ckpts := x1 } W = s.except W := by simp [State.except, h1]

@[simp] theorem except_devPwr (s : State) {x1} (h1 : Part.devPwr ∈ W) :
    State.except { s with devPwr := x1 } W = s.except W := by simp [State.except, h1]

@[simp] theorem except_tb (s : State) {x1} (h1 : Part.tb ∈ W) :
    State.except { s with tb := x1 } W = s.except W := by simp [State.except, h1]

@[simp] theorem except_freeze (s : State) {x1} (h1 : Part.freeze ∈ W) :
    State.except { s with freeze := x1 } W = s.except W := by simp [State.except, h1]

@[simp] theorem except_msix (s : State) {x1} (h1 : Part.msix ∈ W) :
    State.except { s with msix := x1 } W = s.except W := by simp [State.except, h1]

@[simp] theorem except_sentMsi (s : State) {x1} (h1 : Part.sentMsi ∈ W) :
    State.except { s with sentMsi := x1 } W = s.except W := by simp [State.except, h1]

@[simp] theorem except_traces (s : State) {x1} (h1 : Part.traces ∈ W) :
    State.except { s with traces := x1 } W = s.except W := by simp [State.except, h1]

@[simp] theorem except_redIn (s : State) {x1} (h1 : Part.redIn ∈ W) :
    State.except { s with redIn := x1 } W = s.except W := by simp [State.except, h1]

@[simp] theorem except_partials (s : State) {x1} (h1 : Part.partials ∈ W) :
    State.except { s with partials := x1 } W = s.except W := by simp [State.except, h1]

@[simp] theorem except_pressure (s : State) {x1} (h1 : Part.pressure ∈ W) :
    State.except { s with pressure := x1 } W = s.except W := by simp [State.except, h1]

@[simp] theorem except_notices (s : State) {x1} (h1 : Part.notices ∈ W) :
    State.except { s with notices := x1 } W = s.except W := by simp [State.except, h1]

@[simp] theorem except_expect (s : State) {x1} (h1 : Part.expect ∈ W) :
    State.except { s with expect := x1 } W = s.except W := by simp [State.except, h1]

@[simp] theorem except_latches (s : State) {x1} (h1 : Part.latches ∈ W) :
    State.except { s with latches := x1 } W = s.except W := by simp [State.except, h1]

@[simp] theorem except_draws (s : State) {x1} (h1 : Part.draws ∈ W) :
    State.except { s with draws := x1 } W = s.except W := by simp [State.except, h1]

@[simp] theorem except_d3hot_rings_msix (s : State) {x1 x2 x3} (h1 : Part.d3hot ∈ W) (h2 : Part.rings ∈ W) (h3 : Part.msix ∈ W) :
    State.except { s with d3hot := x1, rings := x2, msix := x3 } W = s.except W := by simp [State.except, h1, h2, h3]

@[simp] theorem except_trigEvents (s : State) {x1} (h1 : Part.trigEvents ∈ W) :
    State.except { s with trigEvents := x1 } W = s.except W := by simp [State.except, h1]

@[simp] theorem except_devPwr_boot (s : State) {x1 x2} (h1 : Part.devPwr ∈ W) (h2 : Part.boot ∈ W) :
    State.except { s with devPwr := x1, boot := x2 } W = s.except W := by simp [State.except, h1, h2]

@[simp] theorem except_parkAreas (s : State) {x1} (h1 : Part.parkAreas ∈ W) :
    State.except { s with parkAreas := x1 } W = s.except W := by simp [State.except, h1]

@[simp] theorem except_debugger (s : State) {x1} (h1 : Part.debugger ∈ W) :
    State.except { s with debugger := x1 } W = s.except W := by simp [State.except, h1]

@[simp] theorem except_trigQual (s : State) {x1} (h1 : Part.trigQual ∈ W) :
    State.except { s with trigQual := x1 } W = s.except W := by simp [State.except, h1]

@[simp] theorem except_mapRe_inbox (s : State) {x1 x2} (h1 : Part.mapRe ∈ W) (h2 : Part.inbox ∈ W) :
    State.except { s with mapRe := x1, inbox := x2 } W = s.except W := by simp [State.except, h1, h2]

@[simp] theorem except_mapCur_mapRe (s : State) {x1 x2} (h1 : Part.mapCur ∈ W) (h2 : Part.mapRe ∈ W) :
    State.except { s with mapCur := x1, mapRe := x2 } W = s.except W := by simp [State.except, h1, h2]

@[simp] theorem except_links (s : State) {x1} (h1 : Part.links ∈ W) :
    State.except { s with links := x1 } W = s.except W := by simp [State.except, h1]

@[simp] theorem except_arrivals (s : State) {x1} (h1 : Part.arrivals ∈ W) :
    State.except { s with arrivals := x1 } W = s.except W := by simp [State.except, h1]

@[simp] theorem except_net_redIn (s : State) {x1 x2} (h1 : Part.net ∈ W) (h2 : Part.redIn ∈ W) :
    State.except { s with net := x1, redIn := x2 } W = s.except W := by simp [State.except, h1, h2]

@[simp] theorem except_d3hot_rings_msix_pci (s : State) {x1 x2 x3 x4} (h1 : Part.d3hot ∈ W) (h2 : Part.rings ∈ W) (h3 : Part.msix ∈ W) (h4 : Part.pci ∈ W) :
    State.except { s with d3hot := x1, rings := x2, msix := x3, pci := x4 } W = s.except W := by simp [State.except, h1, h2, h3, h4]

@[simp] theorem except_arrivals_inbox (s : State) {x1 x2} (h1 : Part.arrivals ∈ W) (h2 : Part.inbox ∈ W) :
    State.except { s with arrivals := x1, inbox := x2 } W = s.except W := by simp [State.except, h1, h2]

@[simp] theorem except_pci (s : State) {x1} (h1 : Part.pci ∈ W) :
    State.except { s with pci := x1 } W = s.except W := by simp [State.except, h1]

@[simp] theorem except_d3hot (s : State) {x1} (h1 : Part.d3hot ∈ W) :
    State.except { s with d3hot := x1 } W = s.except W := by simp [State.except, h1]

@[simp] theorem except_d3hot_rings_mbox (s : State) {x1 x2 x3} (h1 : Part.d3hot ∈ W) (h2 : Part.rings ∈ W) (h3 : Part.mbox ∈ W) :
    State.except { s with d3hot := x1, rings := x2, mbox := x3 } W = s.except W := by simp [State.except, h1, h2, h3]

@[simp] theorem except_d3hot_boot (s : State) {x1 x2} (h1 : Part.d3hot ∈ W) (h2 : Part.boot ∈ W) :
    State.except { s with d3hot := x1, boot := x2 } W = s.except W := by simp [State.except, h1, h2]

@[simp] theorem except_resp (s : State) {x} : State.except { s with resp := x } W = s.except W := rfl
@[simp] theorem except_ans (s : State) (r : Resp) : (s.ans r).except W = s.except W := rfl

@[simp] theorem except_ite (c : Prop) [Decidable c] (a b : State) : (if c then a else b).except W = if c then a.except W else b.except W := by
  split <;> rfl

/-- A fold of an operation that changes nothing outside W changes nothing outside W. -/
theorem except_foldl {α : Type} (g : State → α → State) (h : ∀ s x, (g s x).except W = s.except W) (l : List α) (s : State) :
    (l.foldl g s).except W = s.except W := by
  induction l generalizing s with
  | nil => rfl
  | cons x l ih => simp [ih, h]

/-- The same for the members of one list only. -/
theorem except_foldl_mem {α : Type} (g : State → α → State) (l : List α) (h : ∀ x ∈ l, ∀ s, (g s x).except W = s.except W) (s : State) :
    (l.foldl g s).except W = s.except W := by
  induction l generalizing s with
  | nil => rfl
  | cons x l ih =>
    rw [List.foldl_cons, ih fun y hy => h y (List.mem_cons_of_mem _ hy), h x (List.mem_cons_self ..)]

/-- The same for a fold that carries the state as the first component of a pair. -/
theorem except_foldl_fst {α β : Type} (g : State × β → α → State × β) (h : ∀ x a, (g x a).1.except W = x.1.except W) (l : List α)
    (x : State × β) : (l.foldl g x).1.except W = x.1.except W := by
  induction l generalizing x with
  | nil => rfl
  | cons a l ih => rw [List.foldl_cons, ih, h]

/-- The same for the second component. -/
theorem except_foldl_snd {α β : Type} (g : β × State → α → β × State) (h : ∀ x a, (g x a).2.except W = x.2.except W) (l : List α)
    (x : β × State) : (l.foldl g x).2.except W = x.2.except W := by
  induction l generalizing x with
  | nil => rfl
  | cons a l ih => rw [List.foldl_cons, ih, h]

/-- The second component of a pair that a call has answered. -/
theorem except_of_snd {α : Type} {x : α × State} {a : α} {t s : State} (h : x = (a, t)) (hx : State.except x.2 W = s.except W) :
    t.except W = s.except W := by
  subst h; exact hx

/-- Where every part may change, only the queue and the fuse words must stay. -/
theorem except_all (s t : State) (h : ∀ P, P ∈ W) (hp : t.pending = s.pending) (hf : t.fuses = s.fuses) :
    t.except W = s.except W := by
  have hl : ∀ l : List (Nat × Word), l.filter (fun e => decide (Part.regs (blockOf (e.1 / 16777216)) ∉ W)) = [] := by
    intro l; simp [h]
  unfold State.except
  rw [hl, hl, hp, hf]
  simp only [h, if_true]

theorem blockOf_key (p : Page) (off : Nat) : blockOf ((p.key + off % 4096) / 16777216) = p.blk := by
  have h : (p.key + off % 4096) / 16777216 = p.blk.idx := by unfold Page.key; omega
  rw [h]; cases p.blk <;> rfl

/-- A register write changes the registers of its block only. -/
@[simp] theorem wr_except (s : State) (p : Page) (off : Nat) (w : Word) (h : Part.regs p.blk ∈ W) :
    (s.wr p off w).except W = s.except W := by
  have := SMap.filter_set regDefault s.regs (p.key + off % 4096) w
    (fun e => decide (Part.regs (blockOf (e.1 / 16777216)) ∉ W)) (by simp [blockOf_key, h])
  simp only [State.wr, State.except] at this ⊢
  rw [this]

/-- Discarding registers of one page changes the registers of its block only. -/
theorem except_regs_filter (s : State) (p : Page) (f : Nat × Word → Bool) (h : Part.regs p.blk ∈ W)
    (hf : ∀ e : Nat × Word, f e = false → p.key ≤ e.1 ∧ e.1 < p.key + 4096) :
    State.except { s with regs := s.regs.filter f } W = s.except W := by
  have : (s.regs.filter f).filter (fun e => decide (Part.regs (blockOf (e.1 / 16777216)) ∉ W)) =
      s.regs.filter (fun e => decide (Part.regs (blockOf (e.1 / 16777216)) ∉ W)) := by
    rw [List.filter_filter]
    refine List.filter_congr fun e _ => ?_
    cases hfe : f e
    · have hb : e.1 / 16777216 = p.blk.idx := by have := hf e hfe; unfold Page.key at this; omega
      have : blockOf (e.1 / 16777216) = p.blk := by rw [hb]; cases p.blk <;> rfl
      simp [this, h]
    · simp
  simp only [State.except, this]

/-- Does the outcome leave everything outside W as `s` has it? -/
def Result.frames (r : Result) (W : List Part) (s : State) : Prop := ∀ t, r = .next t → t.except W = s.except W

@[simp] theorem done_frames (s t : State) : Result.frames (done t) W s ↔ t.except W = s.except W := by
  simp [Result.frames, done]

@[simp] theorem answer_frames (s t : State) (r : Resp) : Result.frames (answer t r) W s ↔ t.except W = s.except W := by
  simp [Result.frames, answer]

/-- A result that keeps what it leaves of one state keeps what it leaves of another that agrees with it. -/
theorem Result.frames_trans {r : Result} {s t : State} (h : Result.frames r W t) (hs : t.except W = s.except W) : Result.frames r W s :=
  fun u hu => (h u hu).trans hs

@[simp] theorem ite_frames (c : Prop) [Decidable c] (a b : Result) (s : State) :
    Result.frames (if c then a else b) W s ↔ if c then Result.frames a W s else Result.frames b W s := by
  split <;> rfl

end Sys2Proof.Machine
end

