-- ==== Sys2Proof/Laws/FrameOps.lean ====
section
/-!
SUPPORT. FrameOps.lean: for each operation of Ops.lean, the parts of the state it may change: it leaves everything outside W as it was,
whenever W holds those parts.
-/

namespace Sys2Proof.Machine

variable {W : List Part}

@[simp] theorem intg_blk (f : Nat) : (intg f).blk = .intg := by simp [intg]

@[simp] theorem State.setFld_except (s : State) (p : Page) (off : Nat) (hi : Nat) (lo : Nat) (v : Nat) (h1 : Part.regs p.blk ∈ W) :
    (State.setFld s p off hi lo v).except W = s.except W := by
  simp [State.setFld, *]

@[simp] theorem State.setFlag_except (s : State) (p : Page) (off : Nat) (i : Nat) (b : Bool) (h1 : Part.regs p.blk ∈ W) :
    (State.setFlag s p off i b).except W = s.except W := by
  simp [State.setFlag, *]

@[simp] theorem State.wrN_except (s : State) (p : Page) (off : Nat) (v : Nat) (h1 : Part.regs p.blk ∈ W) :
    (State.wrN s p off v).except W = s.except W := by
  simp [State.wrN, *]

@[simp] theorem State.wr64_except (s : State) (p : Page) (off : Nat) (v : Nat) (h1 : Part.regs p.blk ∈ W) :
    (State.wr64 s p off v).except W = s.except W := by
  simp [State.wr64, *]

@[simp] theorem State.addCtr_except (s : State) (p : Page) (off : Nat) (n : Nat) (h1 : Part.regs p.blk ∈ W) :
    (State.addCtr s p off n).except W = s.except W := by
  simp [State.addCtr, *]

@[simp] theorem State.incCtr_except (s : State) (p : Page) (off : Nat) (h1 : Part.regs p.blk ∈ W) :
    (State.incCtr s p off).except W = s.except W := by
  simp [State.incCtr, *]

@[simp] theorem State.raise_except (s : State) (p : Page) (i : Nat) (h1 : Part.regs p.blk ∈ W) :
    (State.raise s p i).except W = s.except W := by
  simp [State.raise, *]

@[simp] theorem State.logIn_except (s : State) (f : Nat) (cls : Nat) (e : LogEntry) (h1 : Part.logs ∈ W) (h2 : Part.regs .intg ∈ W) :
    (State.logIn s f cls e).except W = s.except W := by
  simp [State.logIn, *]

@[simp] theorem State.logErr_except (s : State) (p : Page) (key : Nat) (cls : Nat) (info : Word) (h1 : Part.logs ∈ W) (h2 : Part.regs .intg ∈ W) :
    (State.logErr s p key cls info).except W = s.except W := by
  simp [State.logErr, *]

@[simp] theorem State.countErr_except (s : State) (p : Page) (cls : Nat) (h1 : Part.regs p.blk ∈ W) :
    (State.countErr s p cls).except W = s.except W := by
  simp [State.countErr, *]

@[simp] theorem State.err_except (s : State) (p : Page) (cls : Nat) (code : Nat) (loc : Nat) (h1 : Part.logs ∈ W) (h2 : Part.regs .intg ∈ W) (h3 : Part.regs p.blk ∈ W) :
    (State.err s p cls code loc).except W = s.except W := by
  simp [State.err, *]

@[simp] theorem State.errIntg_except (s : State) (f : Nat) (cls : Nat) (code : Nat) (loc : Nat) (h1 : Part.logs ∈ W) (h2 : Part.regs .intg ∈ W) :
    (State.errIntg s f cls code loc).except W = s.except W := by
  simp [State.errIntg, *]

@[simp] theorem State.refuse_except (s : State) (p : Page) (off : Nat) (h1 : Part.logs ∈ W) (h2 : Part.regs .intg ∈ W) (h3 : Part.regs p.blk ∈ W) :
    (State.refuse s p off).except W = s.except W := by
  simp [State.refuse, *]

@[simp] theorem State.badEnc_except (s : State) (p : Page) (off : Nat) (h1 : Part.logs ∈ W) (h2 : Part.regs .intg ∈ W) (h3 : Part.regs p.blk ∈ W) :
    (State.badEnc s p off).except W = s.except W := by
  simp [State.badEnc, *]

@[simp] theorem State.reportWith_except (s : State) (p : Page) (code : Nat) (arg : Nat) (h1 : Part.faultReports ∈ W) :
    (State.reportWith s p code arg).except W = s.except W := by
  simp [State.reportWith, *]

@[simp] theorem State.report_except (s : State) (p : Page) (code : Nat) (h1 : Part.faultReports ∈ W) :
    (State.report s p code).except W = s.except W := by
  simp [State.report, *]

@[simp] theorem State.setByte_except (s : State) (a : Nat) (b : Byte) (h1 : Part.mem ∈ W) :
    (State.setByte s a b).except W = s.except W := by
  simp [State.setByte, *]

@[simp] theorem State.store_except (s : State) (a : Nat) (x1 : Nat) (x2 : Nat) (h1 : Part.mem ∈ W) :
    (State.store s a x1 x2).except W = s.except W := by
  induction x1 generalizing s a x2 with
  | zero => rfl
  | succ n ih => simp [State.store, *]

@[simp] theorem State.draw_except (s : State) (h1 : Part.draws ∈ W) :
    (State.draw s).2.except W = s.except W := by
  simp [State.draw, *]

@[simp] theorem State.draw256_except (s : State) (h1 : Part.draws ∈ W) :
    (State.draw256 s).2.except W = s.except W := by
  simp [State.draw256, *]

@[simp] theorem State.recChange_except (s : State) (h1 : Part.boot ∈ W) :
    (State.recChange s).except W = s.except W := by
  simp [State.recChange, *]

@[simp] theorem State.ans_except (s : State) (r : Resp)  :
    (State.ans s r).except W = s.except W := by
  simp [State.ans, *]

end Sys2Proof.Machine
end

