-- ==== Sys2Proof/Laws/FrameHostBus.lean ====
section
/-!
SUPPORT. FrameHostBus.lean: for each operation of HostBus.lean, the parts of the state it may change: it leaves everything outside W as it was,
whenever W holds those parts.
-/

namespace Sys2Proof.Machine

variable {W : List Part}

@[simp] theorem State.aer_except (s : State) (f : Nat) (e : AerErr) (h1 : Part.pci ∈ W) :
    (State.aer s f e).except W = s.except W := by
  simp [State.aer, *]

@[simp] theorem unsupported_frames (f : Nat) (s : State) (h1 : Part.pci ∈ W) :
    Result.frames (unsupported f s) W s := by
  simp [unsupported, *]

@[simp] theorem State.received_except (s : State) (f : Nat) (x1 : Bus) (h1 : Part.pci ∈ W) :
    (State.received s f x1).except W = s.except W := by
  unfold State.received
  try dsimp only
  (repeat' split) <;> simp_all [except_foldl]

@[simp] theorem gated_frames (r : Req) (p : Page) (off : Nat) (s : State) (k : State → State) (h1 : Part.logs ∈ W) (h2 : Part.pci ∈ W) (h3 : Part.regs .pwr ∈ W) (h4 : Part.regs .intg ∈ W) (h5 : Part.regs p.blk ∈ W) (h6 : (k s).except W = s.except W) :
    Result.frames (gated r p off s k) W s := by
  unfold gated
  split
  · split <;> simp [*]
  · next t ht =>
    have hg : t.except W = s.except W := by
      unfold State.gate at ht
      (repeat' split at ht) <;> first
        | (cases ht; done)
        | (cases ht; simp [*])
    simp [hg]
  · simp [*]

@[simp] theorem State.latch_except (s : State) (r : Req) (p : Page) (off : Nat) (v : Nat) (h1 : Part.latches ∈ W) :
    (State.latch s r p off v).except W = s.except W := by
  simp [State.latch, *]

@[simp] theorem gatedRead_frames (r : Req) (p : Page) (s : State) (k : State → Nat × State) (h1 : Part.pci ∈ W) (h2 : (k s).2.except W = s.except W) :
    Result.frames (gatedRead r p s k) W s := by
  simp [gatedRead, *]

@[simp] theorem plainWrite_except (p : Page) (off : Nat) (w : Word) (s : State) (h1 : Part.logs ∈ W) (h2 : Part.regs .intg ∈ W) (h3 : Part.regs p.blk ∈ W) :
    (plainWrite p off w s).except W = s.except W := by
  unfold plainWrite
  (repeat' split) <;> simp [*]

@[simp] theorem State.resetPage_except (s : State) (p : Page) (h1 : Part.regs p.blk ∈ W) : (s.resetPage p).except W = s.except W := by
  refine except_regs_filter s p _ h1 fun e he => ?_
  simp only [Bool.or_eq_false_iff, Bool.not_eq_false', Bool.and_eq_true, decide_eq_true_eq] at he
  exact he.1.1

end Sys2Proof.Machine
end

