-- ==== Sys2Proof/Laws/FrameMesh.lean ====
section
/-!
SUPPORT. FrameMesh.lean: for each operation of Mesh.lean, the parts of the state it may change: it leaves everything outside W as it was,
whenever W holds those parts.
-/

namespace Sys2Proof.Machine

variable {W : List Part}

@[simp] theorem endPage_blk (e : Nat) : (endPage e).blk = .rtr := by simp [endPage, rtr]

@[simp] theorem rtr_blk (p : Nat) : (rtr p).blk = .rtr := by simp [rtr]

@[simp] theorem pPlc_blk : (pPlc).blk = .plc := by simp [pPlc]

@[simp] theorem d2dPage_blk (g : Nat) : (d2dPage g).blk = .d2d := by simp [d2dPage]

@[simp] theorem State.enter_except (s : State) (f : Flit) (h1 : Part.net ∈ W) :
    (State.enter s f).except W = s.except W := by
  simp [State.enter, *]

@[simp] theorem State.setSource_except (s : State) (k : Nat) (e : Nat) (v : Source) (h1 : Part.sources ∈ W) :
    (State.setSource s k e v).except W = s.except W := by
  simp [State.setSource, *]

@[simp] theorem State.remember_except (s : State) (k : Nat) (e : Nat) (dest : Nat) (cls : Nat) (seq : Nat) (left : Nat) (h1 : Part.sources ∈ W) :
    (State.remember s k e dest cls seq left).except W = s.except W := by
  simp [State.remember, *]

@[simp] theorem State.inject_except (s : State) (src : Nat) (dest : Nat) (vc : Nat) (key : Nat) (kind : Nat) (payload : Nat) (h1 : Part.net ∈ W) (h2 : Part.seqs ∈ W) (h3 : Part.sources ∈ W) :
    (State.inject s src dest vc key kind payload).except W = s.except W := by
  simp [State.inject, *]

@[simp] theorem State.injectTree_except (s : State) (src : Nat) (dest : Nat) (vc : Nat) (key : Nat) (kind : Nat) (tag : Nat) (payload : Nat) (h1 : Part.net ∈ W) (h2 : Part.seqs ∈ W) (h3 : Part.sources ∈ W) :
    (State.injectTree s src dest vc key kind tag payload).except W = s.except W := by
  simp [State.injectTree, *]

@[simp] theorem State.parkedDrop_except (s : State) (k : Nat) (c : Nat) (h1 : Part.logs ∈ W) (h2 : Part.regs .plc ∈ W) (h3 : Part.regs .intg ∈ W) :
    (State.parkedDrop s k c).except W = s.except W := by
  simp [State.parkedDrop, *]

@[simp] theorem State.sendEvent_except (s : State) (src : Nat) (key : Nat) (cab : Nat) (payload : Nat) (h1 : Part.logs ∈ W) (h2 : Part.net ∈ W) (h3 : Part.seqs ∈ W) (h4 : Part.sources ∈ W) (h5 : Part.regs .plc ∈ W) (h6 : Part.regs .intg ∈ W) :
    (State.sendEvent s src key cab payload).except W = s.except W := by
  simp [State.sendEvent, *]

@[simp] theorem State.hopDiscard_except (s : State) (p : Nat) (dest : Nat) (h1 : Part.logs ∈ W) (h2 : Part.regs .intg ∈ W) (h3 : Part.regs .rtr ∈ W) :
    (State.hopDiscard s p dest).except W = s.except W := by
  simp [State.hopDiscard, *]

@[simp] theorem State.setLinkAt_except (s : State) (k : Nat) (v : Link) (h1 : Part.links ∈ W) :
    (State.setLinkAt s k v).except W = s.except W := by
  simp [State.setLinkAt, *]

@[simp] theorem State.setRetries_except (s : State) (k : Nat) (n : Nat) (h1 : Part.links ∈ W) :
    (State.setRetries s k n).except W = s.except W := by
  simp [State.setRetries, *]

@[simp] theorem State.keyDrop_except (s : State) (p : Nat) (port : Nat) (key : Nat) (memMesh : Bool) (h1 : Part.logs ∈ W) (h2 : Part.regs .intg ∈ W) (h3 : Part.regs .rtr ∈ W) :
    (State.keyDrop s p port key memMesh).except W = s.except W := by
  simp [State.keyDrop, *]

@[simp] theorem State.linkRetry_except (s : State) (p : Nat) (port : Nat) (f : AnyFlit) (h1 : Part.logs ∈ W) (h2 : Part.links ∈ W) (h3 : Part.regs .intg ∈ W) (h4 : Part.regs .rtr ∈ W) :
    (State.linkRetry s p port f).except W = s.except W := by
  simp [State.linkRetry, *]

@[simp] theorem State.linkStatus_except (s : State) (p : Nat) (h1 : Part.regs .rtr ∈ W) :
    (State.linkStatus s p).except W = s.except W := by
  simp [State.linkStatus, *]

@[simp] theorem State.setLink_except (s : State) (p : Nat) (port : Nat) (memMesh : Bool) (v : Nat) (h1 : Part.regs .rtr ∈ W) :
    (State.setLink s p port memMesh v).except W = s.except W := by
  unfold State.setLink
  try dsimp only
  (repeat' split) <;> simp_all [except_foldl]

@[simp] theorem execLinkRetrain_frames (p : Nat) (port : Nat) (plane : Nat) (memMesh : Bool) (o : LinkOutcome) (s : State) (h1 : Part.logs ∈ W) (h2 : Part.faultReports ∈ W) (h3 : Part.links ∈ W) (h4 : Part.regs .intg ∈ W) (h5 : Part.regs .rtr ∈ W) :
    Result.frames (execLinkRetrain p port plane memMesh o s) W s := by
  unfold execLinkRetrain
  (repeat' split) <;> simp [*]

@[simp] theorem State.d2dCross_except (s : State) (p : Nat) (port : Nat) (inward : Bool) (h1 : Part.d2dReplays ∈ W) :
    (State.d2dCross s p port inward).except W = s.except W := by
  unfold State.d2dCross
  try dsimp only
  (repeat' split) <;> simp_all [except_foldl]

@[simp] theorem State.setFwd_except (s : State) (p : Nat) (w : Word) (h1 : Part.links ∈ W) (h2 : Part.regs .rtr ∈ W) :
    (State.setFwd s p w).except W = s.except W := by
  simp [State.setFwd, *]

@[simp] theorem execFwdExpiry_frames (p : Nat) (s : State) (h1 : Part.regs .rtr ∈ W) :
    Result.frames (execFwdExpiry p s) W s := by
  simp [execFwdExpiry, *]

@[simp] theorem State.settleShare_except (s : State) (p : Nat) (k : Nat) (h1 : Part.links ∈ W) :
    (State.settleShare s p k).except W = s.except W := by
  simp [State.settleShare, except_foldl, *]

@[simp] theorem State.shareWrite_except (s : State) (i : Nat) (off : Nat) (w : Word) (h1 : Part.logs ∈ W) (h2 : Part.links ∈ W) (h3 : Part.regs .intg ∈ W) (h4 : Part.regs .rtr ∈ W) :
    (State.shareWrite s i off w).except W = s.except W := by
  simp [State.shareWrite, *]

@[simp] theorem State.leave_except (s : State) (p : Nat) (out : Nat) (h : Hop) (h1 : Part.net ∈ W) (h2 : Part.arrivals ∈ W) :
    (State.leave s p out h).except W = s.except W := by
  unfold State.leave
  try dsimp only
  (repeat' split) <;> simp_all [except_foldl]

@[simp] theorem State.spend_except (s : State) (out : Nat) (h : Hop) (how : Option Bool) (h1 : Part.links ∈ W) :
    (State.spend s out h how).except W = s.except W := by
  simp [State.spend, *]

@[simp] theorem State.payBucket_except (s : State) (h : Hop) (h1 : Part.links ∈ W) :
    (State.payBucket s h).except W = s.except W := by
  simp [State.payBucket, *]

@[simp] theorem State.watch_except (s : State) (out : Nat) (h : Hop) (lent : Bool) (h1 : Part.regs .rtr ∈ W) :
    (State.watch s out h lent).except W = s.except W := by
  simp [State.watch, *]

@[simp] theorem State.sendOut_except (s : State) (h : Hop) (out : Nat) (how : Option Bool) (h1 : Part.net ∈ W) (h2 : Part.arrivals ∈ W) (h3 : Part.links ∈ W) (h4 : Part.d2dReplays ∈ W) (h5 : Part.regs .rtr ∈ W) :
    (State.sendOut s h out how).except W = s.except W := by
  simp [State.sendOut, *]

@[simp] theorem State.sendOn_except (s : State) (h : Hop) (h1 : Part.net ∈ W) (h2 : Part.arrivals ∈ W) (h3 : Part.redIn ∈ W) (h4 : Part.links ∈ W) (h5 : Part.d2dReplays ∈ W) (h6 : Part.regs .rtr ∈ W) :
    (State.sendOn s h).except W = s.except W := by
  unfold State.sendOn
  try dsimp only
  repeat' first
    | rfl
    | assumption
    | split
    | (simp_all [except_foldl]; done)
    | simp [except_foldl, *]

@[simp] theorem State.setOff_except (s : State) (h : Hop) (new : List Hop) (h1 : Part.net ∈ W) (h2 : Part.arrivals ∈ W) (h3 : Part.redIn ∈ W) (h4 : Part.links ∈ W) (h5 : Part.d2dReplays ∈ W) (h6 : Part.regs .rtr ∈ W) :
    (State.setOff s h new).except W = s.except W := by
  simp [State.setOff, except_foldl, *]

@[simp] theorem State.gone_except (s : State) (h : Hop) (h1 : Part.net ∈ W) :
    (State.gone s h).except W = s.except W := by
  simp [State.gone, *]

@[simp] theorem State.routeEv_except (s : State) (h : Hop) (g : Hop) (f : Flit) (h1 : Part.logs ∈ W) (h2 : Part.net ∈ W) (h3 : Part.arrivals ∈ W) (h4 : Part.redIn ∈ W) (h5 : Part.links ∈ W) (h6 : Part.d2dReplays ∈ W) (h7 : Part.regs .intg ∈ W) (h8 : Part.regs .rtr ∈ W) :
    (State.routeEv s h g f).except W = s.except W := by
  unfold State.routeEv
  try dsimp only
  repeat' first
    | rfl
    | split
    | (simp [except_foldl, *]; done)

@[simp] theorem State.routeMem_except (s : State) (h : Hop) (g : Hop) (f : MFlit) (h1 : Part.logs ∈ W) (h2 : Part.net ∈ W) (h3 : Part.arrivals ∈ W) (h4 : Part.redIn ∈ W) (h5 : Part.links ∈ W) (h6 : Part.d2dReplays ∈ W) (h7 : Part.regs .intg ∈ W) (h8 : Part.regs .rtr ∈ W) :
    (State.routeMem s h g f).except W = s.except W := by
  simp [State.routeMem, except_foldl, *]

@[simp] theorem State.came_except (s : State) (h : Hop) (h1 : Part.links ∈ W) :
    (State.came s h).except W = s.except W := by
  simp [State.came, *]

@[simp] theorem State.take_except (s : State) (h : Hop) (h1 : Part.logs ∈ W) (h2 : Part.net ∈ W) (h3 : Part.arrivals ∈ W) (h4 : Part.redIn ∈ W) (h5 : Part.links ∈ W) (h6 : Part.d2dReplays ∈ W) (h7 : Part.regs .intg ∈ W) (h8 : Part.regs .rtr ∈ W) :
    (State.take s h).except W = s.except W := by
  unfold State.take
  try dsimp only
  (repeat' split) <;> simp_all [except_foldl]

@[simp] theorem State.bufParity_except (s : State) (h : Hop) (h1 : Part.logs ∈ W) (h2 : Part.faultReports ∈ W) (h3 : Part.net ∈ W) (h4 : Part.regs .intg ∈ W) (h5 : Part.regs .rtr ∈ W) :
    (State.bufParity s h).except W = s.except W := by
  simp [State.bufParity, *]

@[simp] theorem execFlitReceive_frames (p : Nat) (port : Nat) (crc : Nat) (parity : Bool) (f : AnyFlit) (s : State) (h1 : Part.logs ∈ W) (h2 : Part.faultReports ∈ W) (h3 : Part.net ∈ W) (h4 : Part.arrivals ∈ W) (h5 : Part.redIn ∈ W) (h6 : Part.links ∈ W) (h7 : Part.d2dReplays ∈ W) (h8 : Part.regs .intg ∈ W) (h9 : Part.regs .rtr ∈ W) :
    Result.frames (execFlitReceive p port crc parity f s) W s := by
  unfold execFlitReceive
  try dsimp only
  (repeat' split) <;> simp_all [except_foldl]

@[simp] theorem execEscape_frames (p : Nat) (port : Nat) (f : AnyFlit) (s : State) (h1 : Part.net ∈ W) (h2 : Part.regs .rtr ∈ W) :
    Result.frames (execEscape p port f s) W s := by
  unfold execEscape
  (repeat' split) <;> simp [*]

@[simp] theorem State.setPartials_except (s : State) (p : Nat) (l : List RedPartial) (h1 : Part.partials ∈ W) :
    (State.setPartials s p l).except W = s.except W := by
  simp [State.setPartials, *]

@[simp] theorem State.sendUp_except (s : State) (p : Nat) (f : Flit) (h1 : Part.net ∈ W) :
    (State.sendUp s p f).except W = s.except W := by
  unfold State.sendUp
  (repeat' split) <;> simp [*]

@[simp] theorem State.redBroadcast_except (s : State) (p : Nat) (r : RedPartial) (v : Nat) (incomplete : Bool) (ovf : Bool) (h1 : Part.net ∈ W) (h2 : Part.seqs ∈ W) (h3 : Part.sources ∈ W) :
    (State.redBroadcast s p r v incomplete ovf).except W = s.except W := by
  simp [State.redBroadcast, *]

@[simp] theorem State.rootCheck_except (s : State) (p : Nat) (r : RedPartial) (h1 : Part.logs ∈ W) (h2 : Part.net ∈ W) (h3 : Part.seqs ∈ W) (h4 : Part.partials ∈ W) (h5 : Part.sources ∈ W) (h6 : Part.regs .intg ∈ W) (h7 : Part.regs .rtr ∈ W) :
    (State.rootCheck s p r).except W = s.except W := by
  simp [State.rootCheck, *]

@[simp] theorem State.redTaken_except (s : State) (h : Hop) (h1 : Part.net ∈ W) (h2 : Part.redIn ∈ W) :
    (State.redTaken s h).except W = s.except W := by
  simp [State.redTaken, *]

@[simp] theorem execRedUp_frames (p : Nat) (f : Flit) (s : State) (h1 : Part.logs ∈ W) (h2 : Part.net ∈ W) (h3 : Part.redIn ∈ W) (h4 : Part.seqs ∈ W) (h5 : Part.partials ∈ W) (h6 : Part.sources ∈ W) (h7 : Part.regs .intg ∈ W) (h8 : Part.regs .rtr ∈ W) :
    Result.frames (execRedUp p f s) W s := by
  unfold execRedUp
  dsimp only
  (repeat' split) <;> simp_all [except_foldl]

@[simp] theorem execRedWindowExpiry_frames (p : Nat) (key : Nat) (tag : Nat) (inst : Nat) (s : State) (h1 : Part.net ∈ W) (h2 : Part.partials ∈ W) :
    Result.frames (execRedWindowExpiry p key tag inst s) W s := by
  unfold execRedWindowExpiry
  (repeat' split) <;> simp [*]

@[simp] theorem execRedTmo_frames (p : Nat) (key : Nat) (tag : Nat) (inst : Nat) (s : State) (h1 : Part.logs ∈ W) (h2 : Part.net ∈ W) (h3 : Part.redIn ∈ W) (h4 : Part.seqs ∈ W) (h5 : Part.partials ∈ W) (h6 : Part.sources ∈ W) (h7 : Part.regs .intg ∈ W) (h8 : Part.regs .rtr ∈ W) :
    Result.frames (execRedTmo p key tag inst s) W s := by
  unfold execRedTmo
  try dsimp only
  (repeat' split) <;> simp_all [except_foldl]

@[simp] theorem State.setReplays_except (s : State) (g : Nat) (inward : Bool) (v : Nat × Nat) (h1 : Part.d2dReplays ∈ W) :
    (State.setReplays s g inward v).except W = s.except W := by
  simp [State.setReplays, *]

@[simp] theorem State.noReplays_except (s : State) (g : Nat) (h1 : Part.d2dReplays ∈ W) :
    (State.noReplays s g).except W = s.except W := by
  simp [State.noReplays, *]

@[simp] theorem State.setRetried_except (s : State) (g : Nat) (b : Bool) (h1 : Part.d2dRetried ∈ W) :
    (State.setRetried s g b).except W = s.except W := by
  simp [State.setRetried, *]

@[simp] theorem execD2dReplay_frames (g : Nat) (frame : BadFrame) (lanes : Nat) (s : State) (h1 : Part.logs ∈ W) (h2 : Part.d2dReplays ∈ W) (h3 : Part.regs .intg ∈ W) (h4 : Part.regs .d2d ∈ W) :
    Result.frames (execD2dReplay g frame lanes s) W s := by
  simp [execD2dReplay, *]

@[simp] theorem State.d2dTrain_except (s : State) (g : Nat) (failing : List Nat) (us : Nat) (h1 : Part.logs ∈ W) (h2 : Part.faultReports ∈ W) (h3 : Part.d2dRetried ∈ W) (h4 : Part.boot ∈ W) (h5 : Part.regs .intg ∈ W) (h6 : Part.regs .d2d ∈ W) :
    (State.d2dTrain s g failing us).except W = s.except W := by
  simp [State.d2dTrain, except_foldl, *]

@[simp] theorem execD2dGroupDown_frames (g : Nat) (failing : List Nat) (us : Nat) (s : State) (h1 : Part.logs ∈ W) (h2 : Part.faultReports ∈ W) (h3 : Part.d2dReplays ∈ W) (h4 : Part.d2dRetried ∈ W) (h5 : Part.boot ∈ W) (h6 : Part.regs .intg ∈ W) (h7 : Part.regs .d2d ∈ W) :
    Result.frames (execD2dGroupDown g failing us s) W s := by
  simp [execD2dGroupDown, *]

@[simp] theorem d2dCtrlWrite_except (g : Nat) (w : Word) (failing : List Nat) (us : Nat) (s : State) (h1 : Part.logs ∈ W) (h2 : Part.faultReports ∈ W) (h3 : Part.d2dReplays ∈ W) (h4 : Part.d2dRetried ∈ W) (h5 : Part.boot ∈ W) (h6 : Part.regs .intg ∈ W) (h7 : Part.regs .d2d ∈ W) :
    (d2dCtrlWrite g w failing us s).except W = s.except W := by
  simp [d2dCtrlWrite, *]

@[simp] theorem execD2dRetrain_frames (r : Req) (g : Nat) (w : Word) (failing : List Nat) (us : Nat) (s : State) (h1 : Part.logs ∈ W) (h2 : Part.faultReports ∈ W) (h3 : Part.d2dReplays ∈ W) (h4 : Part.d2dRetried ∈ W) (h5 : Part.boot ∈ W) (h6 : Part.pci ∈ W) (h7 : Part.regs .pwr ∈ W) (h8 : Part.regs .intg ∈ W) (h9 : Part.regs .d2d ∈ W) :
    Result.frames (execD2dRetrain r g w failing us s) W s := by
  simp [execD2dRetrain, *]

@[simp] theorem State.setRob_except (s : State) (e : Nat) (l : List RobEntry) (h1 : Part.robs ∈ W) (h2 : Part.pressure ∈ W) (h3 : Part.regs .rtr ∈ W) :
    (State.setRob s e l).except W = s.except W := by
  simp [State.setRob, *]

@[simp] theorem State.keepRobs_except (s : State) (keep : RobEntry → Bool) (h1 : Part.robs ∈ W) (h2 : Part.pressure ∈ W) (h3 : Part.regs .rtr ∈ W) :
    (State.keepRobs s keep).except W = s.except W := by
  exact except_foldl _ (fun u e => by simp [*]) _ s

end Sys2Proof.Machine
end

