-- ==== Sys2Proof/Laws/FrameTime.lean ====
section
/-!
SUPPORT. FrameTime.lean: for each operation of Time.lean, the parts of the state it may change: it leaves everything outside W as it was,
whenever W holds those parts.
-/

namespace Sys2Proof.Machine

variable {W : List Part}

@[simp] theorem pTime_blk : (pTime).blk = .time0 := by simp [pTime]

@[simp] theorem pTimers_blk : (pTimers).blk = .time1 := by simp [pTimers]

theorem allTimers_blk (t : Page × Nat) (h : t ∈ allTimers) : t.1.blk = .time1 ∨ t.1.blk = .chtmr := by
  unfold allTimers at h
  rw [List.mem_append, List.mem_map, List.mem_map] at h
  obtain ⟨i, _, rfl⟩ | ⟨i, _, rfl⟩ := h
  · exact .inl (pTimers_blk)
  · exact .inr rfl

@[simp] theorem execHoldoverEntry_frames (s : State) (h1 : Part.regs .time0 ∈ W) :
    Result.frames (execHoldoverEntry s) W s := by
  simp [execHoldoverEntry, *]

@[simp] theorem execPllRelock_frames (s : State) (h1 : Part.regs .time0 ∈ W) :
    Result.frames (execPllRelock s) W s := by
  simp [execPllRelock, *]

@[simp] theorem State.enterRunning_except (s : State) (v : Nat) (h1 : Part.tb ∈ W) (h2 : Part.regs .time0 ∈ W) :
    (State.enterRunning s v).except W = s.except W := by
  simp [State.enterRunning, *]

@[simp] theorem timeCtrlWrite_except (w : Word) (s : State) (h1 : Part.logs ∈ W) (h2 : Part.tb ∈ W) (h3 : Part.regs .time0 ∈ W) (h4 : Part.regs .intg ∈ W) :
    (timeCtrlWrite w s).except W = s.except W := by
  simp [timeCtrlWrite, *]

@[simp] theorem execStart_frames (r : Req) (w : Word) (s : State) (h1 : Part.logs ∈ W) (h2 : Part.tb ∈ W) (h3 : Part.pci ∈ W) (h4 : Part.regs .pwr ∈ W) (h5 : Part.regs .time0 ∈ W) (h6 : Part.regs .intg ∈ W) :
    Result.frames (execStart r w s) W s := by
  simp [execStart, *]

@[simp] theorem execArmSysref_frames (r : Req) (w : Word) (s : State) (h1 : Part.logs ∈ W) (h2 : Part.tb ∈ W) (h3 : Part.pci ∈ W) (h4 : Part.regs .pwr ∈ W) (h5 : Part.regs .time0 ∈ W) (h6 : Part.regs .intg ∈ W) :
    Result.frames (execArmSysref r w s) W s := by
  simp [execArmSysref, *]

@[simp] theorem execDisarm_frames (r : Req) (w : Word) (s : State) (h1 : Part.logs ∈ W) (h2 : Part.tb ∈ W) (h3 : Part.pci ∈ W) (h4 : Part.regs .pwr ∈ W) (h5 : Part.regs .time0 ∈ W) (h6 : Part.regs .intg ∈ W) :
    Result.frames (execDisarm r w s) W s := by
  simp [execDisarm, *]

@[simp] theorem State.setTimer_except (s : State) (p : Page) (i : Nat) (t : TimerSt) (h1 : Part.timers ∈ W) :
    (State.setTimer s p i t).except W = s.except W := by
  simp [State.setTimer, *]

@[simp] theorem State.setCaptureQ_except (s : State) (p : Page) (i : Nat) (q : List Capture) (h1 : Part.timers ∈ W) :
    (State.setCaptureQ s p i q).except W = s.except W := by
  simp [State.setCaptureQ, *]

@[simp] theorem State.capture_except (s : State) (p : Page) (i : Nat) (time : Nat) (code : Nat) (h1 : Part.timers ∈ W) (h2 : Part.regs .time0 ∈ W) (h3 : Part.regs p.blk ∈ W) :
    (State.capture s p i time code).except W = s.except W := by
  have hp : Part.regs (capCauses p).1.blk ∈ W := by unfold capCauses; split <;> simp [*]
  unfold State.capture
  dsimp only
  (repeat' split) <;> simp [*]

@[simp] theorem State.offerCapture_except (s : State) (src : Nat) (time : Nat) (code : Nat) (h1 : Part.timers ∈ W) (h2 : Part.regs .time0 ∈ W) (h3 : Part.regs .time1 ∈ W) (h4 : Part.regs .chtmr ∈ W) :
    (State.offerCapture s src time code).except W = s.except W := by
  refine except_foldl_mem _ _ (fun t ht u => ?_) s
  have hb : Part.regs t.1.blk ∈ W := by obtain hb | hb := allTimers_blk t ht <;> simp [*]
  split <;> simp [*]

@[simp] theorem sysrefEdge_except (phi : Nat) (s : State) (h1 : Part.tb ∈ W) (h2 : Part.timers ∈ W) (h3 : Part.regs .time0 ∈ W) (h4 : Part.regs .time1 ∈ W) (h5 : Part.regs .chtmr ∈ W) :
    (sysrefEdge phi s).except W = s.except W := by
  unfold sysrefEdge
  (repeat' split) <;> simp [*]

@[simp] theorem execSysrefEdge_frames (phi : Nat) (s : State) (h1 : Part.tb ∈ W) (h2 : Part.timers ∈ W) (h3 : Part.regs .time0 ∈ W) (h4 : Part.regs .time1 ∈ W) (h5 : Part.regs .chtmr ∈ W) :
    Result.frames (execSysrefEdge phi s) W s := by
  simp [execSysrefEdge, *]

@[simp] theorem execDeviceTimeLoad_frames (s : State) (h1 : Part.tb ∈ W) (h2 : Part.regs .time0 ∈ W) :
    Result.frames (execDeviceTimeLoad s) W s := by
  unfold execDeviceTimeLoad
  (repeat' split) <;> simp [*]

@[simp] theorem State.setSynced_except (s : State) (d : Nat) (b : Bool) (h1 : Part.synced ∈ W) :
    (State.setSynced s d b).except W = s.except W := by
  simp [State.setSynced, *]

@[simp] theorem execCopySync_frames (p : Page) (s : State) (h1 : Part.synced ∈ W) :
    Result.frames (execCopySync p s) W s := by
  simp [execCopySync, *]

@[simp] theorem timeSoftReset_except (s : State) (h1 : Part.tb ∈ W) (h2 : Part.timers ∈ W) (h3 : Part.trigQual ∈ W) (h4 : Part.trigEvents ∈ W) (h5 : Part.synced ∈ W) (h6 : Part.regs .time0 ∈ W) (h7 : Part.regs .time1 ∈ W) :
    (timeSoftReset s).except W = s.except W := by
  simp [timeSoftReset, *]

@[simp] theorem execTimeSoftReset_frames (r : Req) (x1 : Word) (s : State) (h1 : Part.logs ∈ W) (h2 : Part.tb ∈ W) (h3 : Part.timers ∈ W) (h4 : Part.trigQual ∈ W) (h5 : Part.trigEvents ∈ W) (h6 : Part.synced ∈ W) (h7 : Part.pci ∈ W) (h8 : Part.regs .pwr ∈ W) (h9 : Part.regs .time0 ∈ W) (h10 : Part.regs .time1 ∈ W) (h11 : Part.regs .intg ∈ W) :
    Result.frames (execTimeSoftReset r x1 s) W s := by
  simp [execTimeSoftReset, *]

@[simp] theorem stageLow_except (p : Page) (off : Nat) (w : Word) (s : State) (h1 : Part.staging ∈ W) :
    (stageLow p off w s).except W = s.except W := by
  simp [stageLow, *]

@[simp] theorem commitWide_except (p : Page) (off : Nat) (w : Word) (s : State) (h1 : Part.staging ∈ W) (h2 : Part.regs p.blk ∈ W) :
    (commitWide p off w s).except W = s.except W := by
  simp [commitWide, *]

@[simp] theorem execWideLowWrite_frames (r : Req) (p : Page) (off : Nat) (w : Word) (s : State) (h1 : Part.logs ∈ W) (h2 : Part.staging ∈ W) (h3 : Part.pci ∈ W) (h4 : Part.regs .pwr ∈ W) (h5 : Part.regs .intg ∈ W) (h6 : Part.regs p.blk ∈ W) :
    Result.frames (execWideLowWrite r p off w s) W s := by
  simp [execWideLowWrite, *]

@[simp] theorem execWideHighWrite_frames (r : Req) (p : Page) (off : Nat) (w : Word) (s : State) (h1 : Part.logs ∈ W) (h2 : Part.staging ∈ W) (h3 : Part.pci ∈ W) (h4 : Part.regs .pwr ∈ W) (h5 : Part.regs .intg ∈ W) (h6 : Part.regs p.blk ∈ W) :
    Result.frames (execWideHighWrite r p off w s) W s := by
  simp [execWideHighWrite, *]

@[simp] theorem State.offerFreeze_except (s : State) (src : Nat) (t : Nat) (cause : Nat) (pos : Nat) (unit : Nat) (h1 : Part.freeze ∈ W) (h2 : Part.regs .obs ∈ W) :
    (State.offerFreeze s src t cause pos unit).except W = s.except W := by
  simp [State.offerFreeze, *]

@[simp] theorem State.trigMiss_except (s : State) (pin : Nat) (h1 : Part.regs .time0 ∈ W) :
    (State.trigMiss s pin).except W = s.except W := by
  simp [State.trigMiss, *]

@[simp] theorem State.trigCapture_except (s : State) (e : TrigEdge) (h1 : Part.timers ∈ W) (h2 : Part.trigEvents ∈ W) (h3 : Part.freeze ∈ W) (h4 : Part.regs .time0 ∈ W) (h5 : Part.regs .time1 ∈ W) (h6 : Part.regs .obs ∈ W) (h7 : Part.regs .chtmr ∈ W) :
    (State.trigCapture s e).except W = s.except W := by
  simp [State.trigCapture, *]

@[simp] theorem execTriginEdge_frames (pin : Nat) (fall : Bool) (phi : Nat) (s : State) (h1 : Part.timers ∈ W) (h2 : Part.trigQual ∈ W) (h3 : Part.trigEvents ∈ W) (h4 : Part.freeze ∈ W) (h5 : Part.regs .time0 ∈ W) (h6 : Part.regs .time1 ∈ W) (h7 : Part.regs .obs ∈ W) (h8 : Part.regs .chtmr ∈ W) :
    Result.frames (execTriginEdge pin fall phi s) W s := by
  simp [execTriginEdge, *]

@[simp] theorem execTriginQualify_frames (pin : Nat) (held : Bool) (s : State) (h1 : Part.timers ∈ W) (h2 : Part.trigQual ∈ W) (h3 : Part.trigEvents ∈ W) (h4 : Part.freeze ∈ W) (h5 : Part.regs .time0 ∈ W) (h6 : Part.regs .time1 ∈ W) (h7 : Part.regs .obs ∈ W) (h8 : Part.regs .chtmr ∈ W) :
    Result.frames (execTriginQualify pin held s) W s := by
  unfold execTriginQualify
  (repeat' split) <;> simp [*]

@[simp] theorem trigEvtWrite_except (pin : Nat) (w : Word) (s : State) (h1 : Part.logs ∈ W) (h2 : Part.regs .time0 ∈ W) (h3 : Part.regs .intg ∈ W) :
    (trigEvtWrite pin w s).except W = s.except W := by
  simp [trigEvtWrite, *]

@[simp] theorem execTriginEvtWrite_frames (r : Req) (pin : Nat) (w : Word) (s : State) (h1 : Part.logs ∈ W) (h2 : Part.pci ∈ W) (h3 : Part.regs .pwr ∈ W) (h4 : Part.regs .time0 ∈ W) (h5 : Part.regs .intg ∈ W) :
    Result.frames (execTriginEvtWrite r pin w s) W s := by
  simp [execTriginEvtWrite, *]

@[simp] theorem State.timerMatch_except (s : State) (p : Page) (i : Nat) (h1 : Part.regs p.blk ∈ W) :
    (State.timerMatch s p i).except W = s.except W := by
  simp [State.timerMatch, *]

@[simp] theorem State.timerReload_except (s : State) (p : Page) (i : Nat) (h1 : Part.regs p.blk ∈ W) :
    (State.timerReload s p i).except W = s.except W := by
  simp [State.timerReload, *]

@[simp] theorem State.onTick_except (s : State) (p : Page) (i : Nat) (h1 : Part.regs p.blk ∈ W) :
    (State.onTick s p i).except W = s.except W := by
  simp [State.onTick, *]

@[simp] theorem State.takeTick_except (s : State) (p : Page) (i : Nat) (h1 : Part.timers ∈ W) (h2 : Part.regs p.blk ∈ W) :
    (State.takeTick s p i).except W = s.except W := by
  simp [State.takeTick, *]

@[simp] theorem execTimerTick_frames (p : Page) (i : Nat) (s : State) (h1 : Part.timers ∈ W) (h2 : Part.regs p.blk ∈ W) :
    Result.frames (execTimerTick p i s) W s := by
  simp [execTimerTick, *]

@[simp] theorem State.settleTick_except (s : State) (p : Page) (i : Nat) (h1 : Part.timers ∈ W) (h2 : Part.regs p.blk ∈ W) :
    (State.settleTick s p i).except W = s.except W := by
  simp [State.settleTick, *]

@[simp] theorem State.settlePage_except (s : State) (p : Page) (h1 : Part.timers ∈ W) (h2 : Part.regs p.blk ∈ W) :
    (State.settlePage s p).except W = s.except W := by
  simp [State.settlePage, except_foldl, *]

@[simp] theorem tmrPeriodWrite_except (p : Page) (i : Nat) (w : Word) (s : State) (h1 : Part.timers ∈ W) (h2 : Part.regs p.blk ∈ W) :
    (tmrPeriodWrite p i w s).except W = s.except W := by
  unfold tmrPeriodWrite
  try dsimp only
  (repeat' split) <;> simp_all [except_foldl]

@[simp] theorem tmrCtrlWrite_except (p : Page) (i : Nat) (w : Word) (s : State) (h1 : Part.logs ∈ W) (h2 : Part.timers ∈ W) (h3 : Part.regs .intg ∈ W) (h4 : Part.regs .chin ∈ W) (h5 : Part.regs p.blk ∈ W) :
    (tmrCtrlWrite p i w s).except W = s.except W := by
  simp [tmrCtrlWrite, *]

@[simp] theorem execTimerEnable_frames (r : Req) (p : Page) (i : Nat) (w : Word) (s : State) (h1 : Part.logs ∈ W) (h2 : Part.timers ∈ W) (h3 : Part.pci ∈ W) (h4 : Part.regs .pwr ∈ W) (h5 : Part.regs .intg ∈ W) (h6 : Part.regs .chin ∈ W) (h7 : Part.regs p.blk ∈ W) :
    Result.frames (execTimerEnable r p i w s) W s := by
  simp [execTimerEnable, *]

@[simp] theorem execTimerRestart_frames (r : Req) (p : Page) (i : Nat) (w : Word) (s : State) (h1 : Part.logs ∈ W) (h2 : Part.timers ∈ W) (h3 : Part.pci ∈ W) (h4 : Part.regs .pwr ∈ W) (h5 : Part.regs .intg ∈ W) (h6 : Part.regs .chin ∈ W) (h7 : Part.regs p.blk ∈ W) :
    Result.frames (execTimerRestart r p i w s) W s := by
  simp [execTimerRestart, *]

@[simp] theorem capturePop_except (r : Req) (p : Page) (i : Nat) (s : State) (h1 : Part.latches ∈ W) (h2 : Part.timers ∈ W) (h3 : Part.regs p.blk ∈ W) :
    State.except (capturePop r p i s).2 W = s.except W := by
  unfold capturePop
  (repeat' split) <;> simp [*]

@[simp] theorem execCapturePop_frames (r : Req) (p : Page) (i : Nat) (s : State) (h1 : Part.latches ∈ W) (h2 : Part.timers ∈ W) (h3 : Part.pci ∈ W) (h4 : Part.regs p.blk ∈ W) :
    Result.frames (execCapturePop r p i s) W s := by
  simp [execCapturePop, *]

@[simp] theorem State.timerEdge_except (s : State) (p : Page) (i : Nat) (old : Nat) (h1 : Part.timers ∈ W) :
    (State.timerEdge s p i old).except W = s.except W := by
  simp [State.timerEdge, *]

@[simp] theorem State.settleTimers_except (s : State) (h1 : Part.timers ∈ W) (h2 : Part.regs .time0 ∈ W) (h3 : Part.regs .time1 ∈ W) (h4 : Part.regs .chtmr ∈ W) :
    (State.settleTimers s).except W = s.except W := by
  refine except_foldl_mem _ _ (fun t ht u => ?_) s
  obtain hb | hb := allTimers_blk t ht <;> simp [*]

@[simp] theorem State.countEdge_except (s : State) (h1 : Part.tb ∈ W) (h2 : Part.regs .time0 ∈ W) :
    (State.countEdge s).except W = s.except W := by
  unfold State.countEdge
  try dsimp only
  (repeat' split) <;> simp_all [except_foldl]

@[simp] theorem clockEdge_except (s : State) (h1 : Part.tb ∈ W) (h2 : Part.timers ∈ W) (h3 : Part.regs .time0 ∈ W) (h4 : Part.regs .time1 ∈ W) (h5 : Part.regs .chtmr ∈ W) :
    (clockEdge s).except W = s.except W := by
  simp [clockEdge, except_foldl, *]

end Sys2Proof.Machine
end

