-- ==== Sys2Proof/Laws/FrameCabinet.lean ====
section
/-!
SUPPORT. FrameCabinet.lean: for each operation of Cabinet.lean, the parts of the state it may change: it leaves everything outside W as it was,
whenever W holds those parts.
-/

namespace Sys2Proof.Machine

variable {W : List Part}

@[simp] theorem cctl_blk (p : Nat) : (cctl p).blk = .cctl := by simp [cctl]

@[simp] theorem qmgr_blk (p : Nat) : (qmgr p).blk = .qmgr := by simp [qmgr]

@[simp] theorem spad_blk (p : Nat) : (spad p).blk = .spad := by simp [spad]

@[simp] theorem drw_blk (p d : Nat) : (drw p d).blk = .drw := by simp [drw]

@[simp] theorem trs_blk (p t : Nat) : (trs p t).blk = .trs := by simp [trs]

@[simp] theorem xpnd_blk (p : Nat) : (xpnd p).blk = .xpnd := by simp [xpnd]

@[simp] theorem hzn_blk (p : Nat) : (hzn p).blk = .hzn := by simp [hzn]

@[simp] theorem hut0_blk (h : Nat) : (hut0 h).blk = .hut0 := by simp [hut0]

@[simp] theorem hut1_blk (h : Nat) : (hut1 h).blk = .hut1 := by simp [hut1]

@[simp] theorem State.setCab_except (s : State) (p : Nat) (c : Cab) (h1 : Part.cabs ∈ W) :
    (State.setCab s p c).except W = s.except W := by
  simp [State.setCab, *]

@[simp] theorem State.setXp_except (s : State) (p : Nat) (x : Xp) (h1 : Part.cabs ∈ W) :
    (State.setXp s p x).except W = s.except W := by
  simp [State.setXp, *]

@[simp] theorem State.setCfg_except (s : State) (k : Nat) (c : PartCfg) (h1 : Part.parts ∈ W) :
    (State.setCfg s k c).except W = s.except W := by
  simp [State.setCfg, *]

@[simp] theorem State.bankErr_except (s : State) (p : Nat) (b : Nat) (h1 : Part.logs ∈ W) (h2 : Part.regs .intg ∈ W) (h3 : Part.regs .spad ∈ W) :
    (State.bankErr s p b).except W = s.except W := by
  simp [State.bankErr, *]

@[simp] theorem State.clearBytes_except (s : State) (lo : Nat) (hi : Nat) (h1 : Part.mem ∈ W) :
    (State.clearBytes s lo hi).except W = s.except W := by
  simp [State.clearBytes, *]

@[simp] theorem State.setHutch_except (s : State) (h : Nat) (v : Hutch) (h1 : Part.hutches ∈ W) :
    (State.setHutch s h v).except W = s.except W := by
  simp [State.setHutch, *]

@[simp] theorem State.isolate_except (s : State) (key : Nat) (a : Nat) (code : Nat) (h1 : Part.logs ∈ W) (h2 : Part.regs .intg ∈ W) (h3 : Part.regs .hut0 ∈ W) :
    (State.isolate s key a code).except W = s.except W := by
  simp [State.isolate, *]

@[simp] theorem State.stackPut_except (s : State) (a : Nat) (n : Nat) (v : Nat) (h1 : Part.mem ∈ W) :
    (State.stackPut s a n v).except W = s.except W := by
  unfold State.stackPut
  (repeat' split) <;> simp [*]

@[simp] theorem State.ownPut_except (s : State) (key : Nat) (x1 : Nat) (n : Nat) (v : Nat) (h1 : Part.mem ∈ W) (h2 : Part.logs ∈ W) (h3 : Part.regs .intg ∈ W) (h4 : Part.regs .hut0 ∈ W) :
    (State.ownPut s key x1 n v).except W = s.except W := by
  unfold State.ownPut
  try dsimp only
  (repeat' split) <;> simp_all [except_foldl]

@[simp] theorem State.setJournal_except (s : State) (k : Nat) (c : Nat) (j : Journal) (h1 : Part.journals ∈ W) :
    (State.setJournal s k c j).except W = s.except W := by
  simp [State.setJournal, *]

@[simp] theorem State.journalWrite_except (s : State) (k : Nat) (c : Nat) (n : Nat) (es : List Nat) (h1 : Part.mem ∈ W) :
    (State.journalWrite s k c n es).except W = s.except W := by
  unfold State.journalWrite
  try dsimp only
  (repeat' split) <;> simp_all [except_foldl]

@[simp] theorem State.journalAdd_except (s : State) (k : Nat) (c : Nat) (es : List Nat) (h1 : Part.mem ∈ W) (h2 : Part.journals ∈ W) :
    (State.journalAdd s k c es).except W = s.except W := by
  simp [State.journalAdd, *]

@[simp] theorem State.journalBlock_except (s : State) (k : Nat) (c : Nat) (h1 : Part.journals ∈ W) (h2 : Part.regs .intg ∈ W) :
    (State.journalBlock s k c).except W = s.except W := by
  simp [State.journalBlock, *]

@[simp] theorem State.undo_except (s : State) (p : Nat) (x1 : Nat) (n : Nat) (h1 : Part.mem ∈ W) (h2 : Part.journals ∈ W) :
    (State.undo s p x1 n).except W = s.except W := by
  simp [State.undo, *]

@[simp] theorem State.countLine_except (s : State) (a : Nat) (h1 : Part.hutches ∈ W) :
    (State.countLine s a).except W = s.except W := by
  simp [State.countLine, *]

@[simp] theorem State.countCopies_except (s : State) (x1 : Nat) (h1 : Part.hutches ∈ W) :
    (State.countCopies s x1).except W = s.except W := by
  unfold State.countCopies
  try dsimp only
  (repeat' split) <;> simp_all [except_foldl]

@[simp] theorem State.countLines_except (s : State) (a : Nat) (n : Nat) (h1 : Part.hutches ∈ W) :
    (State.countLines s a n).except W = s.except W := by
  simp [State.countLines, except_foldl, *]

@[simp] theorem State.countWrites_except (s : State) (x1 : Nat) (n : Nat) (h1 : Part.hutches ∈ W) :
    (State.countWrites s x1 n).except W = s.except W := by
  simp [State.countWrites, except_foldl, *]

@[simp] theorem State.stackRead_except (s : State) (key : Nat) (a : Nat) (n : Nat) (h1 : Part.logs ∈ W) (h2 : Part.hutches ∈ W) (h3 : Part.regs .intg ∈ W) (h4 : Part.regs .hut0 ∈ W) :
    (State.stackRead s key a n).2.except W = s.except W := by
  unfold State.stackRead
  (repeat' split) <;> simp [*]

@[simp] theorem State.mirrorServed_except (s : State) (x1 : Nat) (h1 : Part.logs ∈ W) (h2 : Part.regs .intg ∈ W) (h3 : Part.regs .hut0 ∈ W) :
    (State.mirrorServed s x1).except W = s.except W := by
  simp [State.mirrorServed, *]

@[simp] theorem State.uncorrected_except (s : State) (a : Nat) (h1 : Part.logs ∈ W) (h2 : Part.faultReports ∈ W) (h3 : Part.hutches ∈ W) (h4 : Part.regs .intg ∈ W) (h5 : Part.regs .hut0 ∈ W) :
    (State.uncorrected s a).except W = s.except W := by
  simp [State.uncorrected, *]

@[simp] theorem State.stackFetch_except (s : State) (key : Nat) (x1 : Nat) (n : Nat) (h1 : Part.draws ∈ W) (h2 : Part.logs ∈ W) (h3 : Part.faultReports ∈ W) (h4 : Part.hutches ∈ W) (h5 : Part.regs .intg ∈ W) (h6 : Part.regs .hut0 ∈ W) :
    State.except (State.stackFetch s key x1 n).2 W = s.except W := by
  unfold State.stackFetch
  cases s.mirrorAt x1 <;> dsimp only <;> split <;> (try split) <;> (try split) <;> simp [*]

@[simp] theorem State.stackSplit_except (s : State) (a : Nat) (n : Nat) (v : Nat) (h1 : Part.mem ∈ W) :
    (State.stackSplit s a n v).except W = s.except W := by
  simp [State.stackSplit, *]

@[simp] theorem State.stackWrite_except (s : State) (p : Nat) (key : Nat) (a : Nat) (n : Nat) (v : Nat) (h1 : Part.mem ∈ W) (h2 : Part.logs ∈ W) (h3 : Part.hutches ∈ W) (h4 : Part.journals ∈ W) (h5 : Part.regs .intg ∈ W) (h6 : Part.regs .hut0 ∈ W) :
    (State.stackWrite s p key a n v).2.except W = s.except W := by
  unfold State.stackWrite
  (repeat' split) <;> simp [*]

@[simp] theorem State.spadGet_except (s : State) (p : Nat) (off : Nat) (n : Nat) (h1 : Part.logs ∈ W) (h2 : Part.regs .intg ∈ W) (h3 : Part.regs .spad ∈ W) :
    (State.spadGet s p off n).2.except W = s.except W := by
  unfold State.spadGet
  try dsimp only
  repeat' first
    | (with_reducible rfl)
    | (with_reducible refine (except_foldl _ (fun _ _ => ?_) _ _).trans ?_)
    | (with_reducible refine (except_foldl_fst _ (fun _ _ => ?_) _ _).trans ?_)
    | (with_reducible refine (except_foldl_snd _ (fun _ _ => ?_) _ _).trans ?_)
    | split
    | (simp [*]; done)
    | simp [*]

@[simp] theorem State.spadSet_except (s : State) (p : Nat) (off : Nat) (n : Nat) (v : Nat) (h1 : Part.mem ∈ W) (h2 : Part.logs ∈ W) (h3 : Part.regs .intg ∈ W) (h4 : Part.regs .spad ∈ W) :
    (State.spadSet s p off n v).except W = s.except W := by
  unfold State.spadSet
  (repeat' split) <;> simp [except_foldl, *]

@[simp] theorem State.areaErr_except (s : State) (p : Nat) (who : Nat) (h1 : Part.logs ∈ W) (h2 : Part.regs .intg ∈ W) (h3 : Part.regs .spad ∈ W) :
    (State.areaErr s p who).except W = s.except W := by
  simp [State.areaErr, *]

@[simp] theorem State.areaGet_except (s : State) (p : Nat) (who : Nat) (off : Nat) (n : Nat) (h1 : Part.logs ∈ W) (h2 : Part.regs .intg ∈ W) (h3 : Part.regs .spad ∈ W) :
    State.except (State.areaGet s p who off n).2 W = s.except W := by
  unfold State.areaGet
  try dsimp only
  (repeat' split) <;> simp_all [except_foldl]

@[simp] theorem State.areaSet_except (s : State) (p : Nat) (who : Nat) (off : Nat) (n : Nat) (v : Nat) (h1 : Part.mem ∈ W) (h2 : Part.logs ∈ W) (h3 : Part.regs .intg ∈ W) (h4 : Part.regs .spad ∈ W) :
    (State.areaSet s p who off n v).except W = s.except W := by
  simp [State.areaSet, *]

@[simp] theorem State.sharedRead_except (s : State) (p : Nat) (x1 : Nat) (n : Nat) (h1 : Part.draws ∈ W) (h2 : Part.logs ∈ W) (h3 : Part.faultReports ∈ W) (h4 : Part.hutches ∈ W) (h5 : Part.regs .intg ∈ W) (h6 : Part.regs .hut0 ∈ W) :
    State.except (State.sharedRead s p x1 n).2 W = s.except W := by
  unfold State.sharedRead
  (repeat' split) <;> simp [*]

@[simp] theorem State.sharedWrite_except (s : State) (p : Nat) (a : Nat) (n : Nat) (v : Nat) (h1 : Part.mem ∈ W) (h2 : Part.logs ∈ W) (h3 : Part.hutches ∈ W) (h4 : Part.journals ∈ W) (h5 : Part.regs .intg ∈ W) (h6 : Part.regs .hut0 ∈ W) :
    (State.sharedWrite s p a n v).2.except W = s.except W := by
  unfold State.sharedWrite
  (repeat' split) <;> simp [*]

@[simp] theorem State.cabFault_except (s : State) (p : Nat) (code : Nat) (h1 : Part.faultReports ∈ W) :
    (State.cabFault s p code).except W = s.except W := by
  simp [State.cabFault, *]

@[simp] theorem State.spadAddr_except (s : State) (p : Nat) (off : Nat) (h1 : Part.regs .spad ∈ W) :
    (State.spadAddr s p off).except W = s.except W := by
  simp [State.spadAddr, *]

@[simp] theorem State.spadCorr_except (s : State) (p : Nat) (off : Nat) (h1 : Part.logs ∈ W) (h2 : Part.regs .intg ∈ W) (h3 : Part.regs .spad ∈ W) :
    (State.spadCorr s p off).except W = s.except W := by
  simp [State.spadCorr, *]

@[simp] theorem State.spadUncorr_except (s : State) (p : Nat) (off : Nat) (h1 : Part.logs ∈ W) (h2 : Part.faultReports ∈ W) (h3 : Part.regs .intg ∈ W) (h4 : Part.regs .spad ∈ W) :
    (State.spadUncorr s p off).except W = s.except W := by
  simp [State.spadUncorr, *]

@[simp] theorem State.spadCheck_except (s : State) (p : Nat) (off : Nat) (v : Nat) (x1 : EccRead) (h1 : Part.logs ∈ W) (h2 : Part.faultReports ∈ W) (h3 : Part.regs .intg ∈ W) (h4 : Part.regs .spad ∈ W) :
    (State.spadCheck s p off v x1).2.2.except W = s.except W := by
  unfold State.spadCheck
  (repeat' split) <;> simp [*]

end Sys2Proof.Machine
end

