-- ==== Sys2Proof/Laws/FrameIntake.lean ====
section
/-!
SUPPORT. FrameIntake.lean: for each operation of Intake.lean, the parts of the state it may change: it leaves everything outside W as it was,
whenever W holds those parts.
-/

namespace Sys2Proof.Machine

variable {W : List Part}

@[simp] theorem chin_blk (n : Nat) : (chin n).blk = .chin := by simp [chin]

@[simp] theorem chenc_blk (n : Nat) : (chenc n).blk = .chenc := by simp [chenc]

@[simp] theorem chtmr_blk (n : Nat) : (chtmr n).blk = .chtmr := by simp [chtmr]

@[simp] theorem chdec_blk (n : Nat) : (chdec n).blk = .chdec := by simp [chdec]

@[simp] theorem State.setChan_except (s : State) (n : Nat) (c : Chan) (h1 : Part.chans ∈ W) :
    (State.setChan s n c).except W = s.except W := by
  simp [State.setChan, *]

@[simp] theorem State.setDec_except (s : State) (n : Nat) (d : Dec) (h1 : Part.decs ∈ W) :
    (State.setDec s n d).except W = s.except W := by
  simp [State.setDec, *]

@[simp] theorem State.linkLeave_except (s : State) (n : Nat) (cause : Nat) (h1 : Part.chans ∈ W) (h2 : Part.regs .chin ∈ W) :
    (State.linkLeave s n cause).except W = s.except W := by
  simp [State.linkLeave, *]

@[simp] theorem State.linkTo_except (s : State) (n : Nat) (st : Nat) (h1 : Part.regs .chin ∈ W) :
    (State.linkTo s n st).except W = s.except W := by
  simp [State.linkTo, except_foldl, *]

@[simp] theorem State.linkInit_except (s : State) (n : Nat) (h1 : Part.chans ∈ W) (h2 : Part.regs .chin ∈ W) :
    (State.linkInit s n).except W = s.except W := by
  simp [State.linkInit, *]

@[simp] theorem State.linkStart_except (s : State) (n : Nat) (h1 : Part.logs ∈ W) (h2 : Part.chans ∈ W) (h3 : Part.regs .intg ∈ W) (h4 : Part.regs .chin ∈ W) :
    (State.linkStart s n).except W = s.except W := by
  unfold State.linkStart
  dsimp only
  (repeat' split) <;> simp_all [except_foldl]

@[simp] theorem linkCtrlWrite_except (n : Nat) (w : Word) (s : State) (h1 : Part.logs ∈ W) (h2 : Part.chans ∈ W) (h3 : Part.regs .intg ∈ W) (h4 : Part.regs .chin ∈ W) :
    (linkCtrlWrite n w s).except W = s.except W := by
  simp [linkCtrlWrite, *]

@[simp] theorem execLinkEnable_frames (r : Req) (n : Nat) (w : Word) (s : State) (h1 : Part.logs ∈ W) (h2 : Part.chans ∈ W) (h3 : Part.pci ∈ W) (h4 : Part.regs .pwr ∈ W) (h5 : Part.regs .intg ∈ W) (h6 : Part.regs .chin ∈ W) :
    Result.frames (execLinkEnable r n w s) W s := by
  simp [execLinkEnable, *]

@[simp] theorem execLinkReinit_frames (r : Req) (n : Nat) (w : Word) (s : State) (h1 : Part.logs ∈ W) (h2 : Part.chans ∈ W) (h3 : Part.pci ∈ W) (h4 : Part.regs .pwr ∈ W) (h5 : Part.regs .intg ∈ W) (h6 : Part.regs .chin ∈ W) :
    Result.frames (execLinkReinit r n w s) W s := by
  simp [execLinkReinit, *]

@[simp] theorem execLinkDisable_frames (r : Req) (n : Nat) (w : Word) (s : State) (h1 : Part.logs ∈ W) (h2 : Part.chans ∈ W) (h3 : Part.pci ∈ W) (h4 : Part.regs .pwr ∈ W) (h5 : Part.regs .intg ∈ W) (h6 : Part.regs .chin ∈ W) :
    Result.frames (execLinkDisable r n w s) W s := by
  simp [execLinkDisable, *]

@[simp] theorem execLaneLock_frames (n : Nat) (s : State) (h1 : Part.logs ∈ W) (h2 : Part.chans ∈ W) (h3 : Part.regs .intg ∈ W) (h4 : Part.regs .chin ∈ W) :
    Result.frames (execLaneLock n s) W s := by
  simp [execLaneLock, except_foldl, *]

@[simp] theorem State.setAnchor_except (s : State) (n : Nat) (h1 : Part.regs .chin ∈ W) :
    (State.setAnchor s n).except W = s.except W := by
  simp [State.setAnchor, *]

@[simp] theorem execLmfcAlign_frames (n : Nat) (phi : Nat) (s : State) (h1 : Part.chans ∈ W) (h2 : Part.regs .chin ∈ W) :
    Result.frames (execLmfcAlign n phi s) W s := by
  simp [execLmfcAlign, *]

@[simp] theorem execIlasCheck_frames (n : Nat) (got : List (List Nat)) (s : State) (h1 : Part.logs ∈ W) (h2 : Part.chans ∈ W) (h3 : Part.regs .intg ∈ W) (h4 : Part.regs .chin ∈ W) :
    Result.frames (execIlasCheck n got s) W s := by
  unfold execIlasCheck
  dsimp only
  (repeat' split) <;> simp_all [except_foldl]

@[simp] theorem execIlasRetry_frames (n : Nat) (s : State) (h1 : Part.logs ∈ W) (h2 : Part.chans ∈ W) (h3 : Part.regs .intg ∈ W) (h4 : Part.regs .chin ∈ W) :
    Result.frames (execIlasRetry n s) W s := by
  simp [execIlasRetry, *]

@[simp] theorem execLinkUp_frames (n : Nat) (k : LinkAlign) (s : State) (h1 : Part.logs ∈ W) (h2 : Part.chans ∈ W) (h3 : Part.regs .intg ∈ W) (h4 : Part.regs .chin ∈ W) :
    Result.frames (execLinkUp n k s) W s := by
  simp [execLinkUp, except_foldl, *]

@[simp] theorem State.pairFault_except (s : State) (n : Nat) (a : Nat) (b : Nat) (h1 : Part.chans ∈ W) :
    (State.pairFault s n a b).except W = s.except W := by
  simp [State.pairFault, *]

@[simp] theorem copyMismatch_except (s : State) (p : Page) (h1 : Part.logs ∈ W) (h2 : Part.faultReports ∈ W) (h3 : Part.chans ∈ W) (h4 : Part.regs .time0 ∈ W) (h5 : Part.regs .intg ∈ W) (h6 : Part.regs p.blk ∈ W) :
    (copyMismatch s p).except W = s.except W := by
  unfold copyMismatch
  try dsimp only
  (repeat' split) <;> simp_all [except_foldl]

@[simp] theorem execCopyCheck_frames (bad : List Page) (s : State) (h1 : Part.logs ∈ W) (h2 : Part.faultReports ∈ W) (h3 : Part.chans ∈ W) (h4 : Part.regs .time0 ∈ W) (h5 : Part.regs .intg ∈ W) (h6 : ∀ p ∈ bad, Part.regs p.blk ∈ W) :
    Result.frames (execCopyCheck bad s) W s := by
  unfold execCopyCheck
  split
  · rw [done_frames]
    refine except_foldl_mem _ _ (fun p hp u => ?_) s
    simp [h6 p hp, *]
  · simp

@[simp] theorem execLaneErr_frames (n : Nat) (lane : Nat) (code : Bool) (s : State) (h1 : Part.chans ∈ W) (h2 : Part.regs .chin ∈ W) :
    Result.frames (execLaneErr n lane code s) W s := by
  simp [execLaneErr, *]

@[simp] theorem State.lossOfLock_except (s : State) (n : Nat) (lane : Nat) (h1 : Part.logs ∈ W) (h2 : Part.chans ∈ W) (h3 : Part.regs .intg ∈ W) (h4 : Part.regs .chin ∈ W) :
    (State.lossOfLock s n lane).except W = s.except W := by
  simp [State.lossOfLock, *]

@[simp] theorem execLossOfCodeGroupSync_frames (n : Nat) (lane : Nat) (s : State) (h1 : Part.logs ∈ W) (h2 : Part.chans ∈ W) (h3 : Part.regs .intg ∈ W) (h4 : Part.regs .chin ∈ W) :
    Result.frames (execLossOfCodeGroupSync n lane s) W s := by
  simp [execLossOfCodeGroupSync, *]

@[simp] theorem execLossOfSyncHeaderLock_frames (n : Nat) (lane : Nat) (s : State) (h1 : Part.logs ∈ W) (h2 : Part.chans ∈ W) (h3 : Part.regs .intg ∈ W) (h4 : Part.regs .chin ∈ W) :
    Result.frames (execLossOfSyncHeaderLock n lane s) W s := by
  simp [execLossOfSyncHeaderLock, *]

@[simp] theorem execMultiblockCrcCheck_frames (n : Nat) (lane : Nat) (ok : Bool) (a : Nat) (b : Nat) (s : State) (h1 : Part.chans ∈ W) (h2 : Part.regs .chin ∈ W) :
    Result.frames (execMultiblockCrcCheck n lane ok a b s) W s := by
  simp [execMultiblockCrcCheck, *]

@[simp] theorem State.linksDown_except (s : State) (n : Nat) (h1 : Part.chans ∈ W) (h2 : Part.regs .chin ∈ W) :
    (State.linksDown s n).except W = s.except W := by
  simp [State.linksDown, *]

@[simp] theorem execSerdesPllLoss_frames (n : Nat) (s : State) (h1 : Part.chans ∈ W) (h2 : Part.regs .chin ∈ W) :
    Result.frames (execSerdesPllLoss n s) W s := by
  simp [execSerdesPllLoss, *]

@[simp] theorem execChannelSysrefCheck_frames (n : Nat) (phi : Nat) (s : State) (h1 : Part.logs ∈ W) (h2 : Part.chans ∈ W) (h3 : Part.regs .intg ∈ W) (h4 : Part.regs .chin ∈ W) :
    Result.frames (execChannelSysrefCheck n phi s) W s := by
  simp [execChannelSysrefCheck, *]

@[simp] theorem dlOffsetWrite_except (n : Nat) (w : Word) (s : State) (h1 : Part.logs ∈ W) (h2 : Part.regs .intg ∈ W) (h3 : Part.regs .chin ∈ W) :
    (dlOffsetWrite n w s).except W = s.except W := by
  simp [dlOffsetWrite, *]

@[simp] theorem execDlOffsetWrite_frames (r : Req) (n : Nat) (w : Word) (s : State) (h1 : Part.logs ∈ W) (h2 : Part.pci ∈ W) (h3 : Part.regs .pwr ∈ W) (h4 : Part.regs .intg ∈ W) (h5 : Part.regs .chin ∈ W) :
    Result.frames (execDlOffsetWrite r n w s) W s := by
  simp [execDlOffsetWrite, *]

@[simp] theorem linkConfigWrite_except (n : Nat) (off : Nat) (w : Word) (s : State) (h1 : Part.logs ∈ W) (h2 : Part.regs .intg ∈ W) (h3 : Part.regs .chin ∈ W) :
    (linkConfigWrite n off w s).except W = s.except W := by
  unfold linkConfigWrite
  dsimp only
  (repeat' split) <;> simp_all [except_foldl]

@[simp] theorem execLinkConfigWrite_frames (r : Req) (n : Nat) (off : Nat) (w : Word) (s : State) (h1 : Part.logs ∈ W) (h2 : Part.pci ∈ W) (h3 : Part.regs .pwr ∈ W) (h4 : Part.regs .intg ∈ W) (h5 : Part.regs .chin ∈ W) :
    Result.frames (execLinkConfigWrite r n off w s) W s := by
  simp [execLinkConfigWrite, *]

@[simp] theorem State.setFifo_except (s : State) (n : Nat) (f : Sfifo) (h1 : Part.chans ∈ W) (h2 : Part.regs .chin ∈ W) :
    (State.setFifo s n f).except W = s.except W := by
  simp [State.setFifo, *]

@[simp] theorem State.truncate_except (s : State) (n : Nat) (h1 : Part.chans ∈ W) (h2 : Part.regs .chin ∈ W) :
    (State.truncate s n).except W = s.except W := by
  unfold State.truncate
  dsimp only
  (repeat' split) <;> simp_all [except_foldl]

@[simp] theorem State.fifoSample_except (s : State) (n : Nat) (t : Nat) (xs : List Nat) (err : Bool) (after : Bool) (h1 : Part.chans ∈ W) (h2 : Part.regs .chin ∈ W) :
    (State.fifoSample s n t xs err after).except W = s.except W := by
  unfold State.fifoSample
  dsimp only
  (repeat' split) <;> simp_all [except_foldl]

@[simp] theorem gapCfgWrite_except (n : Nat) (w : Word) (s : State) (h1 : Part.logs ∈ W) (h2 : Part.timers ∈ W) (h3 : Part.regs .intg ∈ W) (h4 : Part.regs .chin ∈ W) (h5 : Part.regs .chtmr ∈ W) :
    (gapCfgWrite n w s).except W = s.except W := by
  simp [gapCfgWrite, *]

@[simp] theorem State.popLatch_except (s : State) (n : Nat) (hi : Nat) (info : Nat) (h1 : Part.regs .chin ∈ W) :
    (State.popLatch s n hi info).except W = s.except W := by
  simp [State.popLatch, *]

@[simp] theorem sfifoPop_except (n : Nat) (ecc : EccRead) (s : State) (h1 : Part.logs ∈ W) (h2 : Part.chans ∈ W) (h3 : Part.regs .intg ∈ W) (h4 : Part.regs .chin ∈ W) :
    (sfifoPop n ecc s).2.except W = s.except W := by
  unfold sfifoPop
  dsimp only
  (repeat' split) <;> simp_all [except_foldl]

@[simp] theorem execSfifoPop_frames (r : Req) (n : Nat) (ecc : EccRead) (s : State) (h1 : Part.logs ∈ W) (h2 : Part.chans ∈ W) (h3 : Part.pci ∈ W) (h4 : Part.regs .intg ∈ W) (h5 : Part.regs .chin ∈ W) :
    Result.frames (execSfifoPop r n ecc s) W s := by
  simp [execSfifoPop, *]

@[simp] theorem sfifoDropRest_except (n : Nat) (s : State) (h1 : Part.chans ∈ W) (h2 : Part.regs .chin ∈ W) :
    (sfifoDropRest n s).except W = s.except W := by
  unfold sfifoDropRest
  dsimp only
  (repeat' split) <;> simp_all [except_foldl]

@[simp] theorem execSfifoDropRest_frames (r : Req) (n : Nat) (s : State) (h1 : Part.logs ∈ W) (h2 : Part.chans ∈ W) (h3 : Part.pci ∈ W) (h4 : Part.regs .pwr ∈ W) (h5 : Part.regs .intg ∈ W) (h6 : Part.regs .chin ∈ W) :
    Result.frames (execSfifoDropRest r n s) W s := by
  simp [execSfifoDropRest, *]

@[simp] theorem sfifoArm_except (n : Nat) (s : State) (h1 : Part.chans ∈ W) :
    (sfifoArm n s).except W = s.except W := by
  simp [sfifoArm, *]

@[simp] theorem execSfifoArm_frames (r : Req) (n : Nat) (s : State) (h1 : Part.logs ∈ W) (h2 : Part.chans ∈ W) (h3 : Part.pci ∈ W) (h4 : Part.regs .pwr ∈ W) (h5 : Part.regs .intg ∈ W) (h6 : Part.regs .chin ∈ W) :
    Result.frames (execSfifoArm r n s) W s := by
  simp [execSfifoArm, *]

@[simp] theorem sfifoFlush_except (n : Nat) (s : State) (h1 : Part.chans ∈ W) (h2 : Part.regs .chin ∈ W) :
    (sfifoFlush n s).except W = s.except W := by
  simp [sfifoFlush, *]

@[simp] theorem execSfifoFlush_frames (r : Req) (n : Nat) (s : State) (h1 : Part.logs ∈ W) (h2 : Part.chans ∈ W) (h3 : Part.pci ∈ W) (h4 : Part.regs .pwr ∈ W) (h5 : Part.regs .intg ∈ W) (h6 : Part.regs .chin ∈ W) :
    Result.frames (execSfifoFlush r n s) W s := by
  simp [execSfifoFlush, *]

@[simp] theorem sfifoCmdWrite_except (n : Nat) (w : Word) (s : State) (h1 : Part.logs ∈ W) (h2 : Part.chans ∈ W) (h3 : Part.regs .intg ∈ W) (h4 : Part.regs .chin ∈ W) :
    (sfifoCmdWrite n w s).except W = s.except W := by
  unfold sfifoCmdWrite
  (repeat' split) <;> simp [*]

@[simp] theorem sfifoThrWrite_except (n : Nat) (w : Word) (s : State) (h1 : Part.chans ∈ W) (h2 : Part.regs .chin ∈ W) :
    (sfifoThrWrite n w s).except W = s.except W := by
  simp [sfifoThrWrite, *]

@[simp] theorem execSfifoThrWrite_frames (r : Req) (n : Nat) (w : Word) (s : State) (h1 : Part.logs ∈ W) (h2 : Part.chans ∈ W) (h3 : Part.pci ∈ W) (h4 : Part.regs .pwr ∈ W) (h5 : Part.regs .intg ∈ W) (h6 : Part.regs .chin ∈ W) :
    Result.frames (execSfifoThrWrite r n w s) W s := by
  simp [execSfifoThrWrite, *]

@[simp] theorem State.hostByte_except (s : State) (a : Nat) (b : Byte) (h1 : Part.hostMem ∈ W) :
    (State.hostByte s a b).except W = s.except W := by
  simp [State.hostByte, *]

@[simp] theorem State.hostRing_except (s : State) (base : Nat) (size : Nat) (at' : Nat) (x1 : Nat) (x2 : Nat) (h1 : Part.hostMem ∈ W) :
    (State.hostRing s base size at' x1 x2).except W = s.except W := by
  induction x1 generalizing s at' x2 with
  | zero => rfl
  | succ n ih => simp [State.hostRing, *]

@[simp] theorem State.hostRingWords_except (s : State) (base : Nat) (size : Nat) (at' : Nat) (x1 : List Nat) (h1 : Part.hostMem ∈ W) :
    (State.hostRingWords s base size at' x1).except W = s.except W := by
  induction x1 generalizing s at' with
  | nil => rfl
  | cons w ws ih =>
    unfold State.hostRingWords
    rw [ih, State.hostRing_except _ _ _ _ _ _ h1]

@[simp] theorem execSdmaRecordCopy_frames (n : Nat) (s : State) (h1 : Part.chans ∈ W) (h2 : Part.hostMem ∈ W) (h3 : Part.regs .chin ∈ W) :
    Result.frames (execSdmaRecordCopy n s) W s := by
  unfold execSdmaRecordCopy
  dsimp only
  (repeat' split) <;> simp_all [except_foldl]

end Sys2Proof.Machine
end

