-- ==== Sys2Proof/Laws/FrameEncoder.lean ====
section
/-!
SUPPORT. FrameEncoder.lean: for each operation of Encoder.lean, the parts of the state it may change: it leaves everything outside W as it was,
whenever W holds those parts.
-/

namespace Sys2Proof.Machine

variable {W : List Part}

@[simp] theorem State.suppress_except (s : State) (n : Nat) (u : Nat) (h1 : Part.regs .chenc ∈ W) :
    (State.suppress s n u).except W = s.except W := by
  simp [State.suppress, *]

@[simp] theorem State.formEvent_except (s : State) (n : Nat) (u : Nat) (flags : Nat) (e : Ev) (h1 : Part.logs ∈ W) (h2 : Part.chans ∈ W) (h3 : Part.regs .intg ∈ W) (h4 : Part.regs .chenc ∈ W) :
    (State.formEvent s n u flags e).except W = s.except W := by
  simp [State.formEvent, *]

@[simp] theorem State.bandStep_except (s : State) (n : Nat) (u : Nat) (b : Nat) (flags : Nat) (v : Int) (t : Nat) (h1 : Part.chans ∈ W) (h2 : Part.regs .chenc ∈ W) :
    (State.bandStep s n u b flags v t).1.except W = s.except W := by
  unfold State.bandStep
  dsimp only
  (repeat' split) <;> simp_all [except_foldl]

@[simp] theorem State.bandInput_except (s : State) (n : Nat) (u : Nat) (b : Nat) (flags : Nat) (x : Int) (t : Nat) (seed : Bool) (h1 : Part.chans ∈ W) (h2 : Part.regs .chenc ∈ W) :
    (State.bandInput s n u b flags x t seed).1.except W = s.except W := by
  unfold State.bandInput
  dsimp only
  (repeat' split) <;> simp_all [except_foldl]

@[simp] theorem State.unitSample_except (s : State) (n : Nat) (u : Nat) (t : Nat) (xs : List Nat) (seed : Bool) (h1 : Part.logs ∈ W) (h2 : Part.chans ∈ W) (h3 : Part.regs .intg ∈ W) (h4 : Part.regs .chenc ∈ W) :
    (State.unitSample s n u t xs seed).except W = s.except W := by
  unfold State.unitSample
  dsimp only
  have key : ∀ (g : State × List Ev → Nat → State × List Ev) (hg : ∀ a i, State.except (g a i).1 W = a.1.except W) (l : List Nat) a,
      State.except (l.foldl g a).1 W = a.1.except W := by
    intro g hg l
    induction l with
    | nil => intro a; rfl
    | cons x l ih => intro a; rw [List.foldl_cons, ih, hg]
  (repeat' split) <;> first
    | (simp [except_foldl, *]; done)
    | (rw [except_foldl _ (fun u e => by simp [*])]
       first
         | (rw [key _ (fun a i => by simp [*])]; done)
         | simp [*])

@[simp] theorem State.encode_except (s : State) (n : Nat) (t : Nat) (xs : List Nat) (h1 : Part.logs ∈ W) (h2 : Part.chans ∈ W) (h3 : Part.regs .intg ∈ W) (h4 : Part.regs .chenc ∈ W) :
    (State.encode s n t xs).except W = s.except W := by
  simp [State.encode, except_foldl, *]

@[simp] theorem State.formMarker_except (s : State) (n : Nat) (time : Nat) (cause : Nat) (fin : Bool) (itv : Nat) (h1 : Part.chans ∈ W) :
    (State.formMarker s n time cause fin itv).except W = s.except W := by
  simp [State.formMarker, *]

@[simp] theorem State.declareGap_except (s : State) (n : Nat) (cause : Nat) (start : Nat) (h1 : Part.timers ∈ W) (h2 : Part.chans ∈ W) (h3 : Part.regs .time0 ∈ W) (h4 : Part.regs .time1 ∈ W) (h5 : Part.regs .chin ∈ W) (h6 : Part.regs .chtmr ∈ W) :
    (State.declareGap s n cause start).except W = s.except W := by
  unfold State.declareGap
  simp [*]
  refine (except_foldl_mem _ _ (fun t ht u => ?_) _).trans (by simp [*])
  have hb : Part.regs t.1.blk ∈ W := by obtain hb | hb := allTimers_blk t ht <;> simp [*]
  split <;> simp [*]

@[simp] theorem State.endGap_except (s : State) (n : Nat) (cause : Nat) (start : Nat) (first : Nat) (h1 : Part.timers ∈ W) (h2 : Part.chans ∈ W) (h3 : Part.regs .time0 ∈ W) (h4 : Part.regs .time1 ∈ W) (h5 : Part.regs .chin ∈ W) (h6 : Part.regs .chtmr ∈ W) :
    (State.endGap s n cause start first).except W = s.except W := by
  unfold State.endGap
  simp [*]
  refine (except_foldl_mem _ _ (fun t ht u => ?_) _).trans (by simp [*])
  have hb : Part.regs t.1.blk ∈ W := by obtain hb | hb := allTimers_blk t ht <;> simp [*]
  split <;> simp [*]

@[simp] theorem execGapStart_frames (n : Nat) (s : State) (h1 : Part.timers ∈ W) (h2 : Part.chans ∈ W) (h3 : Part.regs .time0 ∈ W) (h4 : Part.regs .time1 ∈ W) (h5 : Part.regs .chin ∈ W) (h6 : Part.regs .chtmr ∈ W) :
    Result.frames (execGapStart n s) W s := by
  unfold execGapStart
  dsimp only
  (repeat' split) <;> simp_all [except_foldl]

@[simp] theorem State.calibrate_except (s : State) (n : Nat) (t : Nat) (x : Int) (h1 : Part.chans ∈ W) (h2 : Part.regs .chin ∈ W) :
    (State.calibrate s n t x).except W = s.except W := by
  unfold State.calibrate
  dsimp only
  (repeat' split) <;> simp_all [except_foldl]

@[simp] theorem State.delayPut_except (s : State) (n : Nat) (t : Nat) (xs : List Nat) (h1 : Part.mem ∈ W) (h2 : Part.logs ∈ W) (h3 : Part.decs ∈ W) (h4 : Part.regs .intg ∈ W) (h5 : Part.regs .hut0 ∈ W) :
    (State.delayPut s n t xs).except W = s.except W := by
  simp [State.delayPut, *]

@[simp] theorem State.stampSample_except (s : State) (n : Nat) (err : Bool) (xs : List Nat) (h1 : Part.mem ∈ W) (h2 : Part.logs ∈ W) (h3 : Part.timers ∈ W) (h4 : Part.chans ∈ W) (h5 : Part.decs ∈ W) (h6 : Part.regs .time0 ∈ W) (h7 : Part.regs .time1 ∈ W) (h8 : Part.regs .intg ∈ W) (h9 : Part.regs .chin ∈ W) (h10 : Part.regs .chenc ∈ W) (h11 : Part.regs .chtmr ∈ W) (h12 : Part.regs .hut0 ∈ W) :
    (State.stampSample s n err xs).except W = s.except W := by
  unfold State.stampSample
  dsimp only
  (repeat' split) <;> simp_all [except_foldl]

@[simp] theorem State.restartGapTimer_except (s : State) (n : Nat) (h1 : Part.timers ∈ W) (h2 : Part.chans ∈ W) (h3 : Part.regs .chtmr ∈ W) :
    (State.restartGapTimer s n).except W = s.except W := by
  simp [State.restartGapTimer, *]

@[simp] theorem execWordStamp_frames (n : Nat) (samples : List (List Nat)) (err : Bool) (s : State) (h1 : Part.mem ∈ W) (h2 : Part.logs ∈ W) (h3 : Part.timers ∈ W) (h4 : Part.chans ∈ W) (h5 : Part.decs ∈ W) (h6 : Part.regs .time0 ∈ W) (h7 : Part.regs .time1 ∈ W) (h8 : Part.regs .intg ∈ W) (h9 : Part.regs .chin ∈ W) (h10 : Part.regs .chenc ∈ W) (h11 : Part.regs .chtmr ∈ W) (h12 : Part.regs .hut0 ∈ W) :
    Result.frames (execWordStamp n samples err s) W s := by
  simp [execWordStamp, except_foldl, *]

@[simp] theorem State.encTake_except (s : State) (n : Nat) (h1 : Part.chans ∈ W) (h2 : Part.regs .chenc ∈ W) :
    (State.encTake s n).except W = s.except W := by
  simp [State.encTake, except_foldl, *]

@[simp] theorem execPairStatusSend_frames (n : Nat) (w : Nat) (s : State) (h1 : Part.net ∈ W) (h2 : Part.chans ∈ W) :
    Result.frames (execPairStatusSend n w s) W s := by
  simp [execPairStatusSend, *]

@[simp] theorem execPairStatusReceive_frames (n : Nat) (f : Flit) (s : State) (h1 : Part.inbox ∈ W) (h2 : Part.notices ∈ W) (h3 : Part.chans ∈ W) :
    Result.frames (execPairStatusReceive n f s) W s := by
  unfold execPairStatusReceive
  (repeat' split) <;> simp [*]

@[simp] theorem State.decideWindow_except (s : State) (n : Nat) (w : Nat) (h1 : Part.chans ∈ W) (h2 : Part.regs .chin ∈ W) :
    (State.decideWindow s n w).1.except W = s.except W := by
  unfold State.decideWindow
  dsimp only
  (repeat' split) <;> simp_all [except_foldl]

@[simp] theorem execPairDeliveryDecision_frames (n : Nat) (w : Nat) (s : State) (h1 : Part.chans ∈ W) (h2 : Part.regs .chin ∈ W) :
    Result.frames (execPairDeliveryDecision n w s) W s := by
  simp [execPairDeliveryDecision, *]

@[simp] theorem execEncoderEventRelease_frames (n : Nat) (s : State) (h1 : Part.logs ∈ W) (h2 : Part.net ∈ W) (h3 : Part.seqs ∈ W) (h4 : Part.sources ∈ W) (h5 : Part.chans ∈ W) (h6 : Part.regs .plc ∈ W) (h7 : Part.regs .intg ∈ W) (h8 : Part.regs .chin ∈ W) (h9 : Part.regs .chenc ∈ W) :
    Result.frames (execEncoderEventRelease n s) W s := by
  unfold execEncoderEventRelease
  dsimp only
  (repeat' split) <;> simp_all [except_foldl]

@[simp] theorem txCtrlWrite_except (n : Nat) (w : Word) (s : State) (h1 : Part.logs ∈ W) (h2 : Part.chans ∈ W) (h3 : Part.regs .intg ∈ W) (h4 : Part.regs .chin ∈ W) :
    (txCtrlWrite n w s).except W = s.except W := by
  unfold txCtrlWrite
  try dsimp only
  (repeat' split) <;> simp_all [except_foldl]

@[simp] theorem execTxEnable_frames (r : Req) (n : Nat) (w : Word) (s : State) (h1 : Part.logs ∈ W) (h2 : Part.chans ∈ W) (h3 : Part.pci ∈ W) (h4 : Part.regs .pwr ∈ W) (h5 : Part.regs .intg ∈ W) (h6 : Part.regs .chin ∈ W) :
    Result.frames (execTxEnable r n w s) W s := by
  simp [execTxEnable, *]

@[simp] theorem execTxAlign_frames (n : Nat) (phi : Nat) (s : State) (h1 : Part.chans ∈ W) (h2 : Part.regs .chin ∈ W) :
    Result.frames (execTxAlign n phi s) W s := by
  simp [execTxAlign, *]

end Sys2Proof.Machine
end

