-- ==== Sys2Proof/Laws/FrameMessages.lean ====
section
/-!
SUPPORT. FrameMessages.lean: for each operation of Messages.lean, the parts of the state it may change: it leaves everything outside W as it was,
whenever W holds those parts.
-/

namespace Sys2Proof.Machine

variable {W : List Part}

@[simp] theorem pObs_blk : (pObs).blk = .obs := by simp [pObs]

@[simp] theorem State.setQm_except (s : State) (p : Nat) (q : Qm) (h1 : Part.cabs ∈ W) :
    (State.setQm s p q).except W = s.except W := by
  simp [State.setQm, *]

@[simp] theorem State.setCore_except (s : State) (p : Nat) (c : Core) (h1 : Part.cabs ∈ W) :
    (State.setCore s p c).except W = s.except W := by
  simp [State.setCore, *]

@[simp] theorem State.setTraceBuf_except (s : State) (e : Nat) (b : TraceBuf) (h1 : Part.traces ∈ W) :
    (State.setTraceBuf s e b).except W = s.except W := by
  simp [State.setTraceBuf, *]

@[simp] theorem State.traceForm_except (s : State) (e : Nat) (k : Nat) (rec : Nat) (h1 : Part.traces ∈ W) (h2 : Part.regs .obs ∈ W) :
    (State.traceForm s e k rec).except W = s.except W := by
  simp [State.traceForm, *]

@[simp] theorem State.endWait_except (s : State) (p : Nat) (h1 : Part.traces ∈ W) (h2 : Part.cabs ∈ W) (h3 : Part.regs .obs ∈ W) :
    (State.endWait s p).except W = s.except W := by
  simp [State.endWait, *]

theorem State.launch1_except (s : State) (e unit : Nat) (h1 : Part.net ∈ W) (h2 : Part.seqs ∈ W) (h3 : Part.sources ∈ W) (h4 : Part.cabs ∈ W)
    (h5 : Part.regs .qmgr ∈ W) {t : State} (ht : State.launch1 s e unit = .leaves t) :
    t.except W = s.except W := by
  unfold State.launch1 at ht
  dsimp only at ht
  (repeat' split at ht) <;> first
    | (cases ht; done)
    | (cases ht; simp [*])

@[simp] theorem State.startWait_except (s : State) (p : Nat) (w : CoreWait) (h1 : Part.cabs ∈ W) :
    (State.startWait s p w).except W = s.except W := by
  simp [State.startWait, *]

@[simp] theorem State.retire_except (s : State) (p : Nat) (rd : Nat) (v : Word) (h1 : Part.traces ∈ W) (h2 : Part.cabs ∈ W) (h3 : Part.regs .obs ∈ W) (h4 : Part.regs .cctl ∈ W) :
    (State.retire s p rd v).except W = s.except W := by
  simp [State.retire, *]

@[simp] theorem State.sendEnds_except (s : State) (e : Nat) (x : Send) (st : Nat) (ring : State → Nat → Nat → State) (h1 : Part.logs ∈ W) (h2 : Part.traces ∈ W) (h3 : Part.cabs ∈ W) (h4 : Part.regs .intg ∈ W) (h5 : Part.regs .obs ∈ W) (h6 : Part.regs .cctl ∈ W) (h7 : Part.regs .qmgr ∈ W) (h8 : ∀ u a b, (ring u a b).except W = u.except W) :
    (State.sendEnds s e x st ring).except W = s.except W := by
  unfold State.sendEnds
  dsimp only
  (repeat' split) <;> simp_all [except_foldl]

@[simp] theorem State.launchWith_except (ring : State → Nat → Nat → State) (e : Nat) (unit : Nat) (x1 : Nat) (x2 : State) (h1 : Part.logs ∈ W) (h2 : Part.traces ∈ W) (h3 : Part.net ∈ W) (h4 : Part.seqs ∈ W) (h5 : Part.sources ∈ W) (h6 : Part.cabs ∈ W) (h7 : Part.regs .intg ∈ W) (h8 : Part.regs .obs ∈ W) (h9 : Part.regs .cctl ∈ W) (h10 : Part.regs .qmgr ∈ W) (h11 : ∀ u a b, (ring u a b).except W = u.except W) :
    (State.launchWith ring e unit x1 x2).except W = x2.except W := by
  induction x1 generalizing x2 with
  | zero => rfl
  | succ n ih =>
    unfold State.launchWith
    split
    · next t ht => exact State.launch1_except _ _ _ (by assumption) (by assumption) (by assumption) (by assumption) (by assumption) ht
    · rfl
    · rw [ih]; exact State.sendEnds_except _ _ _ _ _ (by assumption) (by assumption) (by assumption) (by assumption) (by assumption) (by assumption) (by assumption) (by assumption)

@[simp] theorem State.launch_except (s : State) (p : Nat) (unit : Nat) (h1 : Part.logs ∈ W) (h2 : Part.traces ∈ W) (h3 : Part.net ∈ W) (h4 : Part.seqs ∈ W) (h5 : Part.sources ∈ W) (h6 : Part.cabs ∈ W) (h7 : Part.regs .intg ∈ W) (h8 : Part.regs .obs ∈ W) (h9 : Part.regs .cctl ∈ W) (h10 : Part.regs .qmgr ∈ W) :
    (State.launch s p unit).except W = s.except W := by
  simp [State.launch, *]

@[simp] theorem State.post_except (s : State) (p : Nat) (unit : Nat) (qid : Nat) (user : Nat) (body : Nat) (h1 : Part.logs ∈ W) (h2 : Part.traces ∈ W) (h3 : Part.net ∈ W) (h4 : Part.seqs ∈ W) (h5 : Part.sources ∈ W) (h6 : Part.cabs ∈ W) (h7 : Part.regs .intg ∈ W) (h8 : Part.regs .obs ∈ W) (h9 : Part.regs .cctl ∈ W) (h10 : Part.regs .qmgr ∈ W) :
    (State.post s p unit qid user body).except W = s.except W := by
  simp [State.post, *]

@[simp] theorem State.complete_except (s : State) (p : Nat) (unit : Nat) (reply : Nat) (user : Nat) (op : Nat) (status : Nat) (extra : Nat) (h1 : Part.logs ∈ W) (h2 : Part.traces ∈ W) (h3 : Part.net ∈ W) (h4 : Part.seqs ∈ W) (h5 : Part.sources ∈ W) (h6 : Part.cabs ∈ W) (h7 : Part.regs .intg ∈ W) (h8 : Part.regs .obs ∈ W) (h9 : Part.regs .cctl ∈ W) (h10 : Part.regs .qmgr ∈ W) :
    (State.complete s p unit reply user op status extra).except W = s.except W := by
  simp [State.complete, *]

end Sys2Proof.Machine
end

