-- ==== Sys2Proof/Laws/FrameDrawer.lean ====
section
/-!
SUPPORT. FrameDrawer.lean: for each operation of Drawer.lean, the parts of the state it may change: it leaves everything outside W as it was,
whenever W holds those parts.
-/

namespace Sys2Proof.Machine

variable {W : List Part}

@[simp] theorem State.setNrec_except (s : State) (p : Nat) (d : Nat) (i : Nat) (r : Nat) (h1 : Part.mem ∈ W) (h2 : Part.regs .drw ∈ W) :
    (State.setNrec s p d i r).except W = s.except W := by
  simp [State.setNrec, *]

@[simp] theorem State.setRing_except (s : State) (p : Nat) (d : Nat) (i : Nat) (j : Nat) (q : Int) (h1 : Part.mem ∈ W) :
    (State.setRing s p d i j q).except W = s.except W := by
  simp [State.setRing, *]

@[simp] theorem State.setOcc_except (s : State) (p : Nat) (d : Nat) (i : Nat) (j : Nat) (b : Bool) (h1 : Part.mem ∈ W) :
    (State.setOcc s p d i j b).except W = s.except W := by
  simp [State.setOcc, *]

@[simp] theorem State.drwBankErr_except (s : State) (p : Nat) (d : Nat) (h1 : Part.logs ∈ W) (h2 : Part.regs .intg ∈ W) (h3 : Part.regs .spad ∈ W) :
    (State.drwBankErr s p d).except W = s.except W := by
  unfold State.drwBankErr
  (repeat' split) <;> simp [*]

@[simp] theorem State.drwFault_except (s : State) (p : Nat) (d : Nat) (code : Nat) (h1 : Part.faultReports ∈ W) (h2 : Part.regs .drw ∈ W) :
    (State.drwFault s p d code).except W = s.except W := by
  simp [State.drwFault, *]

@[simp] theorem State.drwShow_except (s : State) (p : Nat) (d : Nat) (h1 : Part.regs .drw ∈ W) :
    (State.drwShow s p d).except W = s.except W := by
  simp [State.drwShow, *]

@[simp] theorem State.countRested_except (s : State) (p : Nat) (d : Nat) (h1 : Part.regs .drw ∈ W) :
    (State.countRested s p d).except W = s.except W := by
  simp [State.countRested, *]

@[simp] theorem State.drwEcc_except (s : State) (p : Nat) (d : Nat) (x1 : WordEcc) (h1 : Part.logs ∈ W) (h2 : Part.faultReports ∈ W) (h3 : Part.regs .intg ∈ W) (h4 : Part.regs .drw ∈ W) :
    (State.drwEcc s p d x1).2.except W = s.except W := by
  unfold State.drwEcc
  (repeat' split) <;> simp [*]

@[simp] theorem State.saturation_except (s : State) (p : Nat) (d : Nat) (i : Nat) (h1 : Part.mem ∈ W) (h2 : Part.regs .drw ∈ W) :
    (State.saturation s p d i).except W = s.except W := by
  simp [State.saturation, *]

@[simp] theorem State.slotAdd_except (s : State) (p : Nat) (d : Nat) (i : Nat) (te : Nat) (q : Int) (h1 : Part.mem ∈ W) (h2 : Part.regs .drw ∈ W) :
    (State.slotAdd s p d i te q).except W = s.except W := by
  simp [State.slotAdd, *]

@[simp] theorem State.ldqPut_except (s : State) (p : Nat) (off : Nat) (w : Nat) (h1 : Part.mem ∈ W) (h2 : Part.logs ∈ W) (h3 : Part.regs .intg ∈ W) (h4 : Part.regs .spad ∈ W) :
    (State.ldqPut s p off w).except W = s.except W := by
  simp [State.ldqPut, *]

@[simp] theorem State.ldqStore_except (s : State) (p : Nat) (h1 : Part.mem ∈ W) (h2 : Part.logs ∈ W) (h3 : Part.regs .intg ∈ W) (h4 : Part.regs .hut0 ∈ W) (h5 : Part.regs .spad ∈ W) :
    (State.ldqStore s p).except W = s.except W := by
  simp [State.ldqStore, except_foldl, *]

@[simp] theorem State.ldqRegs_except (s : State) (p : Nat) (h1 : Part.mem ∈ W) (h2 : Part.logs ∈ W) (h3 : Part.regs .intg ∈ W) (h4 : Part.regs .hut0 ∈ W) (h5 : Part.regs .spad ∈ W) (h6 : Part.regs .hzn ∈ W) :
    (State.ldqRegs s p).except W = s.except W := by
  simp [State.ldqRegs, *]

theorem State.ldqAdd_except (s : State) (p : Nat) (e : Ldq) (h1 : Part.mem ∈ W) (h2 : Part.logs ∈ W) (h3 : Part.cabs ∈ W) (h4 : Part.regs .intg ∈ W) (h5 : Part.regs .hut0 ∈ W) (h6 : Part.regs .spad ∈ W) (h7 : Part.regs .hzn ∈ W) {t : State} (ht : State.ldqAdd s p e = some t) :
    t.except W = s.except W := by
  unfold State.ldqAdd at ht
  dsimp only at ht
  (repeat' split at ht) <;> first
    | (cases ht; done)
    | (cases ht; simp [*])

@[simp] theorem State.ldqRead_except (s : State) (p : Nat) (i : Nat) (spilled : Bool) (h1 : Part.logs ∈ W) (h2 : Part.regs .intg ∈ W) (h3 : Part.regs .hut0 ∈ W) (h4 : Part.regs .spad ∈ W) :
    State.except (State.ldqRead s p i spilled).2 W = s.except W := by
  unfold State.ldqRead
  try dsimp only
  (repeat' split) <;> simp_all [except_foldl]

@[simp] theorem State.ldqReads_except (s : State) (p : Nat) (spilled : Bool) (l : List (Ldq × Nat)) (h1 : Part.logs ∈ W) (h2 : Part.regs .intg ∈ W) (h3 : Part.regs .hut0 ∈ W) (h4 : Part.regs .spad ∈ W) :
    State.except (State.ldqReads s p spilled l).2 W = s.except W := by
  unfold State.ldqReads
  exact except_foldl_snd _ (fun x a => by simp [*]) l _

@[simp] theorem State.ldqMove_except (s : State) (p : Nat) (go : Ldq → Bool) (h1 : Part.mem ∈ W) (h2 : Part.logs ∈ W) (h3 : Part.cabs ∈ W) (h4 : Part.regs .intg ∈ W) (h5 : Part.regs .hut0 ∈ W) (h6 : Part.regs .spad ∈ W) (h7 : Part.regs .drw ∈ W) (h8 : Part.regs .hzn ∈ W) :
    (State.ldqMove s p go).except W = s.except W := by
  simp [State.ldqMove, except_foldl, *]

@[simp] theorem State.storeErrs_except (s : State) (p : Nat) (ecc : StoreEcc) (ns : List Nat) (h1 : Part.logs ∈ W) (h2 : Part.faultReports ∈ W) (h3 : Part.regs .intg ∈ W) (h4 : Part.regs .spad ∈ W) (h5 : Part.regs .drw ∈ W) :
    (State.storeErrs s p ecc ns).except W = s.except W := by
  simp [State.storeErrs, except_foldl, *]

@[simp] theorem State.ldqSettle_except (s : State) (p : Nat) (ecc : StoreEcc) (h1 : Part.mem ∈ W) (h2 : Part.logs ∈ W) (h3 : Part.faultReports ∈ W) (h4 : Part.cabs ∈ W) (h5 : Part.regs .intg ∈ W) (h6 : Part.regs .hut0 ∈ W) (h7 : Part.regs .spad ∈ W) (h8 : Part.regs .drw ∈ W) (h9 : Part.regs .hzn ∈ W) :
    (State.ldqSettle s p ecc).except W = s.except W := by
  simp [State.ldqSettle, except_foldl, *]

@[simp] theorem State.ldqDue_except (s : State) (p : Nat) (d : Nat) (i : Nat) (te : Nat) (h1 : Part.mem ∈ W) (h2 : Part.logs ∈ W) (h3 : Part.cabs ∈ W) (h4 : Part.regs .intg ∈ W) (h5 : Part.regs .hut0 ∈ W) (h6 : Part.regs .spad ∈ W) (h7 : Part.regs .drw ∈ W) (h8 : Part.regs .hzn ∈ W) :
    (State.ldqDue s p d i te).except W = s.except W := by
  simp [State.ldqDue, *]

@[simp] theorem State.landCounts_except (s : State) (p : Nat) (d : Nat) (late : Bool) (defer : Bool) (h1 : Part.regs .drw ∈ W) :
    (State.landCounts s p d late defer).except W = s.except W := by
  simp [State.landCounts, *]

theorem State.land_except (s : State) (p : Nat) (e : Dlv) (h1 : Part.mem ∈ W) (h2 : Part.logs ∈ W) (h3 : Part.cabs ∈ W) (h4 : Part.regs .intg ∈ W) (h5 : Part.regs .hut0 ∈ W) (h6 : Part.regs .spad ∈ W) (h7 : Part.regs .drw ∈ W) (h8 : Part.regs .hzn ∈ W) {t : State} (ht : State.land s p e = some t) :
    t.except W = s.except W := by
  unfold State.land at ht
  dsimp only at ht
  split at ht
  · cases ht
    (repeat' split) <;> simp [*]
  · obtain ⟨u, hu, rfl⟩ := Option.map_eq_some_iff.mp ht
    have := State.ldqAdd_except _ _ _ (by assumption) (by assumption) (by assumption) (by assumption) (by assumption) (by assumption) (by assumption) hu
    (repeat' split) <;> simp [*]

@[simp] theorem State.spillFull_except (s : State) (p : Nat) (h1 : Part.logs ∈ W) (h2 : Part.cabs ∈ W) (h3 : Part.regs .intg ∈ W) (h4 : Part.regs .hzn ∈ W) :
    (State.spillFull s p).except W = s.except W := by
  simp [State.spillFull, *]

@[simp] theorem State.landHead_except (s : State) (p : Nat) (h1 : Part.mem ∈ W) (h2 : Part.logs ∈ W) (h3 : Part.cabs ∈ W) (h4 : Part.regs .intg ∈ W) (h5 : Part.regs .hut0 ∈ W) (h6 : Part.regs .spad ∈ W) (h7 : Part.regs .drw ∈ W) (h8 : Part.regs .hzn ∈ W) :
    (State.landHead s p).except W = s.except W := by
  unfold State.landHead
  (repeat' split) <;> first
    | (simp [*]; done)
    | (rename_i heq; have := State.land_except _ _ _ (by assumption) (by assumption) (by assumption) (by assumption) (by assumption) (by assumption) (by assumption) (by assumption) heq; simp [*])

@[simp] theorem State.landFirst_except (s : State) (p : Nat) (ecc : WordEcc) (h1 : Part.mem ∈ W) (h2 : Part.logs ∈ W) (h3 : Part.faultReports ∈ W) (h4 : Part.cabs ∈ W) (h5 : Part.regs .intg ∈ W) (h6 : Part.regs .hut0 ∈ W) (h7 : Part.regs .spad ∈ W) (h8 : Part.regs .drw ∈ W) (h9 : Part.regs .hzn ∈ W) :
    (State.landFirst s p ecc).except W = s.except W := by
  unfold State.landFirst
  split
  · rfl
  · dsimp only
    (repeat' split) <;> first
      | (simp [*]; done)
      | (have h0 := except_of_snd (W := W) ‹State.drwEcc _ _ _ _ = _› (State.drwEcc_except _ _ _ _ (by assumption) (by assumption) (by assumption) (by assumption)); simp [*])

@[simp] theorem execDelivery_frames (p : Nat) (ecc : WordEcc) (s : State) (h1 : Part.mem ∈ W) (h2 : Part.logs ∈ W) (h3 : Part.faultReports ∈ W) (h4 : Part.cabs ∈ W) (h5 : Part.regs .intg ∈ W) (h6 : Part.regs .hut0 ∈ W) (h7 : Part.regs .spad ∈ W) (h8 : Part.regs .drw ∈ W) (h9 : Part.regs .hzn ∈ W) :
    Result.frames (execDelivery p ecc s) W s := by
  simp [execDelivery, except_foldl, *]

@[simp] theorem execLdqReturn_frames (p : Nat) (s : State) (h1 : Part.mem ∈ W) (h2 : Part.logs ∈ W) (h3 : Part.cabs ∈ W) (h4 : Part.regs .intg ∈ W) (h5 : Part.regs .hut0 ∈ W) (h6 : Part.regs .spad ∈ W) (h7 : Part.regs .hzn ∈ W) :
    Result.frames (execLdqReturn p s) W s := by
  unfold execLdqReturn
  dsimp only
  (repeat' split) <;> simp_all [except_foldl]

@[simp] theorem execSpillResume_frames (p : Checked WordEcc) (s : State) (h1 : Part.mem ∈ W) (h2 : Part.logs ∈ W) (h3 : Part.faultReports ∈ W) (h4 : Part.cabs ∈ W) (h5 : Part.regs .intg ∈ W) (h6 : Part.regs .hut0 ∈ W) (h7 : Part.regs .spad ∈ W) (h8 : Part.regs .drw ∈ W) (h9 : Part.regs .hzn ∈ W) :
    Result.frames (execSpillResume p s) W s := by
  simp [execSpillResume, *]

@[simp] theorem State.postFlag_except (s : State) (p : Nat) (d : Nat) (h1 : Part.regs .drw ∈ W) :
    (State.postFlag s p d).except W = s.except W := by
  simp [State.postFlag, *]

@[simp] theorem State.postEnter_except (s : State) (p : Nat) (d : Nat) (i : Nat) (te : Nat) (h1 : Part.mem ∈ W) (h2 : Part.regs .drw ∈ W) :
    (State.postEnter s p d i te).except W = s.except W := by
  unfold State.postEnter
  (repeat' split) <;> simp [*]

@[simp] theorem State.postForget_except (s : State) (p : Nat) (d : Nat) (i : Nat) (h1 : Part.mem ∈ W) (h2 : Part.regs .drw ∈ W) :
    (State.postForget s p d i).except W = s.except W := by
  simp [State.postForget, except_foldl, *]

@[simp] theorem State.pgroup_except (s : State) (p : Nat) (c : Nat) (x1 : Nat) (h1 : Part.logs ∈ W) (h2 : Part.regs .intg ∈ W) (h3 : Part.regs .spad ∈ W) :
    State.except (State.pgroup s p c x1).2 W = s.except W := by
  simp [State.pgroup, *]

@[simp] theorem State.pdest_except (s : State) (p : Nat) (c : Nat) (y : Nat) (h1 : Part.logs ∈ W) (h2 : Part.regs .intg ∈ W) (h3 : Part.regs .spad ∈ W) :
    State.except (State.pdest s p c y).2 W = s.except W := by
  simp [State.pdest, *]

@[simp] theorem State.project_except (s : State) (p : Nat) (w : Nat) (n : Nat) (rlo : Nat) (time : Nat) (pay : Nat) (itv : Nat) (type : Nat) (g : Nat) (pass : Nat) (h1 : Part.logs ∈ W) (h2 : Part.traces ∈ W) (h3 : Part.net ∈ W) (h4 : Part.seqs ∈ W) (h5 : Part.sources ∈ W) (h6 : Part.cabs ∈ W) (h7 : Part.regs .plc ∈ W) (h8 : Part.regs .intg ∈ W) (h9 : Part.regs .obs ∈ W) (h10 : Part.regs .cctl ∈ W) (h11 : Part.regs .qmgr ∈ W) :
    (State.project s p w n rlo time pay itv type g pass).except W = s.except W := by
  simp [State.project, *]

@[simp] theorem State.projectGroup_except (s : State) (p : Nat) (n : Nat) (group : Nat) (time : Nat) (pay : Nat) (itv : Nat) (type : Nat) (g : Nat) (pass : Nat) (h1 : Part.logs ∈ W) (h2 : Part.traces ∈ W) (h3 : Part.net ∈ W) (h4 : Part.seqs ∈ W) (h5 : Part.sources ∈ W) (h6 : Part.cabs ∈ W) (h7 : Part.regs .plc ∈ W) (h8 : Part.regs .intg ∈ W) (h9 : Part.regs .obs ∈ W) (h10 : Part.regs .cctl ∈ W) (h11 : Part.regs .qmgr ∈ W) (h12 : Part.regs .spad ∈ W) (h13 : Part.regs .xpnd ∈ W) :
    (State.projectGroup s p n group time pay itv type g pass).except W = s.except W := by
  simp [State.projectGroup, except_foldl, *]

@[simp] theorem State.evaluate_except (s : State) (p : Nat) (d : Nat) (i : Nat) (te : Nat) (g : Nat) (pass : Nat) (h1 : Part.mem ∈ W) (h2 : Part.logs ∈ W) (h3 : Part.traces ∈ W) (h4 : Part.net ∈ W) (h5 : Part.seqs ∈ W) (h6 : Part.sources ∈ W) (h7 : Part.cabs ∈ W) (h8 : Part.regs .plc ∈ W) (h9 : Part.regs .intg ∈ W) (h10 : Part.regs .obs ∈ W) (h11 : Part.regs .cctl ∈ W) (h12 : Part.regs .qmgr ∈ W) (h13 : Part.regs .spad ∈ W) (h14 : Part.regs .drw ∈ W) (h15 : Part.regs .xpnd ∈ W) :
    (State.evaluate s p d i te g pass).except W = s.except W := by
  unfold State.evaluate
  dsimp only
  (repeat' split) <;> simp_all [except_foldl]

@[simp] theorem execEvaluate_frames (p : Nat) (d : Nat) (i : Nat) (ecc : WordEcc) (s : State) (h1 : Part.mem ∈ W) (h2 : Part.logs ∈ W) (h3 : Part.faultReports ∈ W) (h4 : Part.traces ∈ W) (h5 : Part.net ∈ W) (h6 : Part.seqs ∈ W) (h7 : Part.sources ∈ W) (h8 : Part.cabs ∈ W) (h9 : Part.regs .plc ∈ W) (h10 : Part.regs .intg ∈ W) (h11 : Part.regs .obs ∈ W) (h12 : Part.regs .hut0 ∈ W) (h13 : Part.regs .cctl ∈ W) (h14 : Part.regs .qmgr ∈ W) (h15 : Part.regs .spad ∈ W) (h16 : Part.regs .drw ∈ W) (h17 : Part.regs .xpnd ∈ W) (h18 : Part.regs .hzn ∈ W) :
    Result.frames (execEvaluate p d i ecc s) W s := by
  unfold execEvaluate
  have hr : State.except (s.drwEcc p d ecc).2 W = s.except W := by simp [*]
  generalize s.drwEcc p d ecc = r at hr ⊢
  obtain ⟨o, u⟩ := r
  cases o <;> (repeat' split) <;> simp_all

@[simp] theorem State.sweep_except (s : State) (p : Nat) (d : Nat) (i : Nat) (h1 : Part.mem ∈ W) (h2 : Part.regs .drw ∈ W) :
    (State.sweep s p d i).except W = s.except W := by
  simp [State.sweep, *]

@[simp] theorem execSweepVisit_frames (p : Nat) (d : Nat) (ecc : WordEcc) (s : State) (h1 : Part.mem ∈ W) (h2 : Part.logs ∈ W) (h3 : Part.faultReports ∈ W) (h4 : Part.cabs ∈ W) (h5 : Part.regs .intg ∈ W) (h6 : Part.regs .spad ∈ W) (h7 : Part.regs .drw ∈ W) :
    Result.frames (execSweepVisit p d ecc s) W s := by
  unfold execSweepVisit
  dsimp only
  (repeat' split) <;> simp_all [except_foldl]

@[simp] theorem State.catchupOne_except (s : State) (p : Nat) (d : Nat) (outTime : Nat) (i : Nat) (h1 : Part.mem ∈ W) (h2 : Part.regs .drw ∈ W) :
    (State.catchupOne s p d outTime i).except W = s.except W := by
  simp [State.catchupOne, except_foldl, *]

@[simp] theorem execCatchupPass_frames (p : Nat) (d : Checked WordEcc) (s : State) (h1 : Part.mem ∈ W) (h2 : Part.logs ∈ W) (h3 : Part.faultReports ∈ W) (h4 : Part.regs .intg ∈ W) (h5 : Part.regs .spad ∈ W) (h6 : Part.regs .drw ∈ W) :
    Result.frames (execCatchupPass p d s) W s := by
  simp [execCatchupPass, except_foldl, *]

@[simp] theorem execHandshakeTimeout_frames (p : Nat) (d : Nat) (i : Nat) (s : State) (h1 : Part.logs ∈ W) (h2 : Part.faultReports ∈ W) (h3 : Part.regs .intg ∈ W) (h4 : Part.regs .drw ∈ W) :
    Result.frames (execHandshakeTimeout p d i s) W s := by
  simp [execHandshakeTimeout, *]

@[simp] theorem State.drwTake_except (s : State) (p : Nat) (d : Nat) (m : Nat) (h1 : Part.cabs ∈ W) :
    (State.drwTake s p d m).except W = s.except W := by
  simp [State.drwTake, *]

@[simp] theorem State.drwRefuse_except (s : State) (p : Nat) (d : Nat) (m : Nat) (code : Nat) (loc : Nat) (h1 : Part.logs ∈ W) (h2 : Part.traces ∈ W) (h3 : Part.net ∈ W) (h4 : Part.seqs ∈ W) (h5 : Part.sources ∈ W) (h6 : Part.cabs ∈ W) (h7 : Part.regs .intg ∈ W) (h8 : Part.regs .obs ∈ W) (h9 : Part.regs .cctl ∈ W) (h10 : Part.regs .qmgr ∈ W) (h11 : Part.regs .drw ∈ W) :
    (State.drwRefuse s p d m code loc).except W = s.except W := by
  simp [State.drwRefuse, *]

@[simp] theorem State.drwDone_except (s : State) (p : Nat) (d : Nat) (m : Nat) (h1 : Part.logs ∈ W) (h2 : Part.traces ∈ W) (h3 : Part.net ∈ W) (h4 : Part.seqs ∈ W) (h5 : Part.sources ∈ W) (h6 : Part.cabs ∈ W) (h7 : Part.regs .intg ∈ W) (h8 : Part.regs .obs ∈ W) (h9 : Part.regs .cctl ∈ W) (h10 : Part.regs .qmgr ∈ W) :
    (State.drwDone s p d m).except W = s.except W := by
  simp [State.drwDone, *]

@[simp] theorem drwCommand_frames (p : Nat) (d : Nat) (op : Nat) (s : State) (k : Nat → State → State) (h1 : Part.logs ∈ W) (h2 : Part.traces ∈ W) (h3 : Part.net ∈ W) (h4 : Part.seqs ∈ W) (h5 : Part.sources ∈ W) (h6 : Part.cabs ∈ W) (h7 : Part.regs .intg ∈ W) (h8 : Part.regs .obs ∈ W) (h9 : Part.regs .cctl ∈ W) (h10 : Part.regs .qmgr ∈ W) (h11 : Part.regs .drw ∈ W) (h12 : ∀ m u, (k m u).except W = u.except W) :
    Result.frames (drwCommand p d op s k) W s := by
  unfold drwCommand
  (repeat' split) <;> simp [*]

@[simp] theorem execReadNeuron_frames (p : Nat) (d : Nat) (ecc : WordEcc) (s : State) (h1 : Part.mem ∈ W) (h2 : Part.logs ∈ W) (h3 : Part.faultReports ∈ W) (h4 : Part.traces ∈ W) (h5 : Part.net ∈ W) (h6 : Part.seqs ∈ W) (h7 : Part.sources ∈ W) (h8 : Part.cabs ∈ W) (h9 : Part.hutches ∈ W) (h10 : Part.journals ∈ W) (h11 : Part.regs .intg ∈ W) (h12 : Part.regs .obs ∈ W) (h13 : Part.regs .hut0 ∈ W) (h14 : Part.regs .cctl ∈ W) (h15 : Part.regs .qmgr ∈ W) (h16 : Part.regs .spad ∈ W) (h17 : Part.regs .drw ∈ W) :
    Result.frames (execReadNeuron p d ecc s) W s := by
  unfold execReadNeuron
  refine drwCommand_frames _ _ _ _ _ (by assumption) (by assumption) (by assumption) (by assumption) (by assumption) (by assumption) (by assumption) (by assumption) (by assumption) (by assumption) (by assumption) (fun m u => ?_)
  dsimp only
  (repeat' split) <;> first
    | (simp [*]; done)
    | (have h0 := except_of_snd (W := W) ‹State.drwEcc _ _ _ _ = _› (State.drwEcc_except _ _ _ _ (by assumption) (by assumption) (by assumption) (by assumption)); simp [*]; done)
    | (have h0 := except_of_snd (W := W) ‹State.drwEcc _ _ _ _ = _› (State.drwEcc_except _ _ _ _ (by assumption) (by assumption) (by assumption) (by assumption))
       have h1 := except_of_snd (W := W) ‹State.sharedRead _ _ _ _ = _› (State.sharedRead_except _ _ _ _ (by assumption) (by assumption) (by assumption) (by assumption) (by assumption) (by assumption)); simp [*]; done)
    | (have h0 := except_of_snd (W := W) ‹State.sharedRead _ _ _ _ = _› (State.sharedRead_except _ _ _ _ (by assumption) (by assumption) (by assumption) (by assumption) (by assumption) (by assumption)); simp [*]; done)
    | (have h0 := except_of_snd (W := W) ‹State.drwEcc _ _ _ _ = _› (State.drwEcc_except _ _ _ _ (by assumption) (by assumption) (by assumption) (by assumption))
       have h1 := except_of_snd (W := W) ‹State.sharedWrite _ _ _ _ _ = _› (State.sharedWrite_except _ _ _ _ _ (by assumption) (by assumption) (by assumption) (by assumption) (by assumption) (by assumption)); simp [*]; done)
    | (have h0 := except_of_snd (W := W) ‹State.drwEcc _ _ _ _ = _› (State.drwEcc_except _ _ _ _ (by assumption) (by assumption) (by assumption) (by assumption))
       have h1 := State.land_except _ _ _ (by assumption) (by assumption) (by assumption) (by assumption) (by assumption) (by assumption) (by assumption) (by assumption) ‹State.land _ _ _ = _›; simp [*])

@[simp] theorem execWriteNeuron_frames (p : Nat) (d : Nat) (ecc : WordEcc) (s : State) (h1 : Part.draws ∈ W) (h2 : Part.mem ∈ W) (h3 : Part.logs ∈ W) (h4 : Part.faultReports ∈ W) (h5 : Part.traces ∈ W) (h6 : Part.net ∈ W) (h7 : Part.seqs ∈ W) (h8 : Part.sources ∈ W) (h9 : Part.cabs ∈ W) (h10 : Part.hutches ∈ W) (h11 : Part.regs .intg ∈ W) (h12 : Part.regs .obs ∈ W) (h13 : Part.regs .hut0 ∈ W) (h14 : Part.regs .cctl ∈ W) (h15 : Part.regs .qmgr ∈ W) (h16 : Part.regs .spad ∈ W) (h17 : Part.regs .drw ∈ W) :
    Result.frames (execWriteNeuron p d ecc s) W s := by
  unfold execWriteNeuron
  refine drwCommand_frames _ _ _ _ _ (by assumption) (by assumption) (by assumption) (by assumption) (by assumption) (by assumption) (by assumption) (by assumption) (by assumption) (by assumption) (by assumption) (fun m u => ?_)
  dsimp only
  (repeat' split) <;> first
    | (simp [except_foldl, *]; done)
    | (have h0 := except_of_snd (W := W) ‹State.drwEcc _ _ _ _ = _› (State.drwEcc_except _ _ _ _ (by assumption) (by assumption) (by assumption) (by assumption)); simp [except_foldl, *]; done)
    | (have h0 := except_of_snd (W := W) ‹State.drwEcc _ _ _ _ = _› (State.drwEcc_except _ _ _ _ (by assumption) (by assumption) (by assumption) (by assumption))
       have h1 := except_of_snd (W := W) ‹State.sharedRead _ _ _ _ = _› (State.sharedRead_except _ _ _ _ (by assumption) (by assumption) (by assumption) (by assumption) (by assumption) (by assumption)); simp [except_foldl, *]; done)
    | (have h0 := except_of_snd (W := W) ‹State.sharedRead _ _ _ _ = _› (State.sharedRead_except _ _ _ _ (by assumption) (by assumption) (by assumption) (by assumption) (by assumption) (by assumption)); simp [except_foldl, *]; done)
    | (have h0 := except_of_snd (W := W) ‹State.drwEcc _ _ _ _ = _› (State.drwEcc_except _ _ _ _ (by assumption) (by assumption) (by assumption) (by assumption))
       have h1 := except_of_snd (W := W) ‹State.sharedWrite _ _ _ _ _ = _› (State.sharedWrite_except _ _ _ _ _ (by assumption) (by assumption) (by assumption) (by assumption) (by assumption) (by assumption)); simp [except_foldl, *]; done)
    | (have h0 := except_of_snd (W := W) ‹State.drwEcc _ _ _ _ = _› (State.drwEcc_except _ _ _ _ (by assumption) (by assumption) (by assumption) (by assumption))
       have h1 := State.land_except _ _ _ (by assumption) (by assumption) (by assumption) (by assumption) (by assumption) (by assumption) (by assumption) (by assumption) ‹State.land _ _ _ = _›; simp [except_foldl, *])

@[simp] theorem State.floorRefuse_except (s : State) (p : Nat) (what : Nat) (h1 : Part.logs ∈ W) (h2 : Part.regs .intg ∈ W) (h3 : Part.regs .hzn ∈ W) :
    (State.floorRefuse s p what).except W = s.except W := by
  simp [State.floorRefuse, *]

@[simp] theorem execCharge_frames (p : Nat) (d : Checked WordEcc) (s : State) (h1 : Part.mem ∈ W) (h2 : Part.logs ∈ W) (h3 : Part.faultReports ∈ W) (h4 : Part.traces ∈ W) (h5 : Part.net ∈ W) (h6 : Part.seqs ∈ W) (h7 : Part.sources ∈ W) (h8 : Part.cabs ∈ W) (h9 : Part.regs .intg ∈ W) (h10 : Part.regs .obs ∈ W) (h11 : Part.regs .hut0 ∈ W) (h12 : Part.regs .cctl ∈ W) (h13 : Part.regs .qmgr ∈ W) (h14 : Part.regs .spad ∈ W) (h15 : Part.regs .drw ∈ W) (h16 : Part.regs .hzn ∈ W) :
    Result.frames (execCharge p d s) W s := by
  unfold execCharge
  split
  · simp
  · refine drwCommand_frames _ _ _ _ _ (by assumption) (by assumption) (by assumption) (by assumption) (by assumption) (by assumption) (by assumption) (by assumption) (by assumption) (by assumption) (by assumption) (fun m u => ?_)
    dsimp only
    (repeat' split) <;> first
      | (simp [*]; done)
      | (have h0 := except_of_snd (W := W) ‹State.drwEcc _ _ _ _ = _› (State.drwEcc_except _ _ _ _ (by assumption) (by assumption) (by assumption) (by assumption)); simp [*]; done)
      | (have h0 := except_of_snd (W := W) ‹State.drwEcc _ _ _ _ = _› (State.drwEcc_except _ _ _ _ (by assumption) (by assumption) (by assumption) (by assumption))
         have h1 := except_of_snd (W := W) ‹State.sharedRead _ _ _ _ = _› (State.sharedRead_except _ _ _ _ (by assumption) (by assumption) (by assumption) (by assumption) (by assumption) (by assumption)); simp [*]; done)
      | (have h0 := except_of_snd (W := W) ‹State.sharedRead _ _ _ _ = _› (State.sharedRead_except _ _ _ _ (by assumption) (by assumption) (by assumption) (by assumption) (by assumption) (by assumption)); simp [*]; done)
      | (have h0 := except_of_snd (W := W) ‹State.drwEcc _ _ _ _ = _› (State.drwEcc_except _ _ _ _ (by assumption) (by assumption) (by assumption) (by assumption))
         have h1 := except_of_snd (W := W) ‹State.sharedWrite _ _ _ _ _ = _› (State.sharedWrite_except _ _ _ _ _ (by assumption) (by assumption) (by assumption) (by assumption) (by assumption) (by assumption)); simp [*]; done)
      | (have h0 := except_of_snd (W := W) ‹State.drwEcc _ _ _ _ = _› (State.drwEcc_except _ _ _ _ (by assumption) (by assumption) (by assumption) (by assumption))
         have h1 := State.land_except _ _ _ (by assumption) (by assumption) (by assumption) (by assumption) (by assumption) (by assumption) (by assumption) (by assumption) ‹State.land _ _ _ = _›; simp [*])

@[simp] theorem drwWinWrite_except (p : Nat) (d : Nat) (ecc : WordEcc) (w : Word) (s : State) (h1 : Part.mem ∈ W) (h2 : Part.logs ∈ W) (h3 : Part.faultReports ∈ W) (h4 : Part.regs .intg ∈ W) (h5 : Part.regs .spad ∈ W) (h6 : Part.regs .drw ∈ W) :
    (drwWinWrite p d ecc w s).except W = s.except W := by
  unfold drwWinWrite
  dsimp only
  (repeat' split) <;> first
    | (simp [*]; done)
    | (have h0 := except_of_snd (W := W) ‹State.drwEcc _ _ _ _ = _› (State.drwEcc_except _ _ _ _ (by assumption) (by assumption) (by assumption) (by assumption)); simp [*]; done)

@[simp] theorem drwWinRead_except (p : Nat) (d : Nat) (ecc : WordEcc) (s : State) (h1 : Part.draws ∈ W) (h2 : Part.logs ∈ W) (h3 : Part.faultReports ∈ W) (h4 : Part.regs .intg ∈ W) (h5 : Part.regs .spad ∈ W) (h6 : Part.regs .drw ∈ W) :
    State.except (drwWinRead p d ecc s).2 W = s.except W := by
  unfold drwWinRead
  try dsimp only
  (repeat' split) <;> simp_all [except_foldl]

@[simp] theorem execDrwWinData_frames (r : Req) (p : Nat) (d : Nat) (w : Option Word) (ecc : WordEcc) (s : State) (h1 : Part.draws ∈ W) (h2 : Part.mem ∈ W) (h3 : Part.logs ∈ W) (h4 : Part.faultReports ∈ W) (h5 : Part.pci ∈ W) (h6 : Part.regs .pwr ∈ W) (h7 : Part.regs .intg ∈ W) (h8 : Part.regs .spad ∈ W) (h9 : Part.regs .drw ∈ W) :
    Result.frames (execDrwWinData r p d w ecc s) W s := by
  unfold execDrwWinData
  (repeat' split) <;> simp [*]

@[simp] theorem drwCtrlWrite_except (r : Req) (p : Nat) (d : Nat) (w : Word) (s : State) (h1 : Part.logs ∈ W) (h2 : Part.regs .intg ∈ W) (h3 : Part.regs .drw ∈ W) :
    (drwCtrlWrite r p d w s).except W = s.except W := by
  simp [drwCtrlWrite, *]

@[simp] theorem execDrawerPause_frames (r : Req) (p : Nat) (d : Nat) (w : Word) (s : State) (h1 : Part.logs ∈ W) (h2 : Part.pci ∈ W) (h3 : Part.regs .pwr ∈ W) (h4 : Part.regs .intg ∈ W) (h5 : Part.regs .drw ∈ W) :
    Result.frames (execDrawerPause r p d w s) W s := by
  simp [execDrawerPause, *]

end Sys2Proof.Machine
end

