-- ==== Sys2Proof/Laws/FrameHutch.lean ====
section
/-!
SUPPORT. FrameHutch.lean: for each operation of Hutch.lean, the parts of the state it may change: it leaves everything outside W as it was,
whenever W holds those parts.
-/

namespace Sys2Proof.Machine

variable {W : List Part}

@[simp] theorem bur_blk (f : Nat) : (bur f).blk = .bur := by simp [bur]

@[simp] theorem State.applyRatio_except (s : State) (k : Nat) (f : Nat) (h1 : Part.links ∈ W) (h2 : Part.parts ∈ W) (h3 : Part.regs .bur ∈ W) (h4 : Part.regs .plc ∈ W) (h5 : Part.regs .rtr ∈ W) :
    (State.applyRatio s k f).except W = s.except W := by
  simp [State.applyRatio, except_foldl, *]

@[simp] theorem State.shortfall_except (s : State) (h1 : Part.links ∈ W) (h2 : Part.parts ∈ W) (h3 : Part.regs .bur ∈ W) (h4 : Part.regs .plc ∈ W) (h5 : Part.regs .rtr ∈ W) :
    (State.shortfall s).except W = s.except W := by
  simp [State.shortfall, except_foldl, *]

@[simp] theorem State.hutState_except (s : State) (h : Nat) (h1 : Part.regs .hut0 ∈ W) :
    (State.hutState s h).except W = s.except W := by
  simp [State.hutState, *]

@[simp] theorem State.degrade_except (s : State) (h : Nat) (h1 : Part.regs .hut1 ∈ W) :
    (State.degrade s h).except W = s.except W := by
  simp [State.degrade, except_foldl, *]

@[simp] theorem State.reprotect_except (s : State) (h : Nat) (h1 : Part.mem ∈ W) (h2 : Part.regs .hut1 ∈ W) :
    (State.reprotect s h).except W = s.except W := by
  unfold State.reprotect
  refine except_foldl _ (fun s r => ?_) _ s
  dsimp only
  split
  · rfl
  · split
    · rfl
    · simp [except_foldl, *]

@[simp] theorem State.relayoutAbandon_except (s : State) (h : Nat) (h1 : Part.hutches ∈ W) (h2 : Part.regs .hut0 ∈ W) :
    (State.relayoutAbandon s h).except W = s.except W := by
  unfold State.relayoutAbandon
  (repeat' split) <;> simp [*]

@[simp] theorem State.retirePc_except (s : State) (h : Nat) (p : Nat) (h1 : Part.mem ∈ W) (h2 : Part.logs ∈ W) (h3 : Part.links ∈ W) (h4 : Part.hutches ∈ W) (h5 : Part.parts ∈ W) (h6 : Part.boot ∈ W) (h7 : Part.regs .bur ∈ W) (h8 : Part.regs .plc ∈ W) (h9 : Part.regs .intg ∈ W) (h10 : Part.regs .hut0 ∈ W) (h11 : Part.regs .hut1 ∈ W) (h12 : Part.regs .rtr ∈ W) :
    (State.retirePc s h p).except W = s.except W := by
  simp [State.retirePc, *]

@[simp] theorem pcRetireWrite_except (h : Nat) (w : Word) (s : State) (h1 : Part.mem ∈ W) (h2 : Part.logs ∈ W) (h3 : Part.links ∈ W) (h4 : Part.hutches ∈ W) (h5 : Part.parts ∈ W) (h6 : Part.boot ∈ W) (h7 : Part.regs .bur ∈ W) (h8 : Part.regs .plc ∈ W) (h9 : Part.regs .intg ∈ W) (h10 : Part.regs .hut0 ∈ W) (h11 : Part.regs .hut1 ∈ W) (h12 : Part.regs .rtr ∈ W) :
    (pcRetireWrite h w s).except W = s.except W := by
  simp [pcRetireWrite, *]

@[simp] theorem execPcRetire_frames (r : Req) (h : Nat) (w : Word) (s : State) (h1 : Part.mem ∈ W) (h2 : Part.logs ∈ W) (h3 : Part.links ∈ W) (h4 : Part.hutches ∈ W) (h5 : Part.parts ∈ W) (h6 : Part.boot ∈ W) (h7 : Part.pci ∈ W) (h8 : Part.regs .bur ∈ W) (h9 : Part.regs .pwr ∈ W) (h10 : Part.regs .plc ∈ W) (h11 : Part.regs .intg ∈ W) (h12 : Part.regs .hut0 ∈ W) (h13 : Part.regs .hut1 ∈ W) (h14 : Part.regs .rtr ∈ W) :
    Result.frames (execPcRetire r h w s) W s := by
  simp [execPcRetire, *]

@[simp] theorem State.ueRead_except (s : State) (h : Nat) (p : Nat) (h1 : Part.mem ∈ W) (h2 : Part.logs ∈ W) (h3 : Part.links ∈ W) (h4 : Part.hutches ∈ W) (h5 : Part.parts ∈ W) (h6 : Part.boot ∈ W) (h7 : Part.regs .bur ∈ W) (h8 : Part.regs .plc ∈ W) (h9 : Part.regs .intg ∈ W) (h10 : Part.regs .hut0 ∈ W) (h11 : Part.regs .hut1 ∈ W) (h12 : Part.regs .rtr ∈ W) :
    (State.ueRead s h p).except W = s.except W := by
  simp [State.ueRead, *]

@[simp] theorem State.readLine_except (s : State) (x1 : Nat) (ecc : LineEcc) (h1 : Part.mem ∈ W) (h2 : Part.logs ∈ W) (h3 : Part.faultReports ∈ W) (h4 : Part.links ∈ W) (h5 : Part.hutches ∈ W) (h6 : Part.parts ∈ W) (h7 : Part.boot ∈ W) (h8 : Part.regs .bur ∈ W) (h9 : Part.regs .plc ∈ W) (h10 : Part.regs .intg ∈ W) (h11 : Part.regs .hut0 ∈ W) (h12 : Part.regs .hut1 ∈ W) (h13 : Part.regs .rtr ∈ W) :
    State.except (State.readLine s x1 ecc).2 W = s.except W := by
  unfold State.readLine
  dsimp only
  (repeat' split) <;> simp_all [except_foldl]

@[simp] theorem State.respond_except (s : State) (f : MFlit) (status : Nat) (beat : Nat) (data : Nat) (h1 : Part.net ∈ W) :
    (State.respond s f status beat data).except W = s.except W := by
  simp [State.respond, *]

@[simp] theorem State.serveRead_except (s : State) (f : MFlit) (x1 : Nat) (ecc : List LineEcc) (i : Nat) (x2 : Nat) (h1 : Part.mem ∈ W) (h2 : Part.logs ∈ W) (h3 : Part.faultReports ∈ W) (h4 : Part.net ∈ W) (h5 : Part.links ∈ W) (h6 : Part.hutches ∈ W) (h7 : Part.parts ∈ W) (h8 : Part.boot ∈ W) (h9 : Part.regs .bur ∈ W) (h10 : Part.regs .plc ∈ W) (h11 : Part.regs .intg ∈ W) (h12 : Part.regs .hut0 ∈ W) (h13 : Part.regs .hut1 ∈ W) (h14 : Part.regs .rtr ∈ W) :
    (State.serveRead s f x1 ecc i x2).except W = s.except W := by
  induction x2 generalizing s i with
  | zero => rfl
  | succ n ih =>
    unfold State.serveRead
    dsimp only
    rw [ih]
    split <;> simp [*]

@[simp] theorem State.writeLine_except (s : State) (a : Nat) (qmask : Nat) (data : Nat) (h1 : Part.mem ∈ W) :
    (State.writeLine s a qmask data).except W = s.except W := by
  simp [State.writeLine, except_foldl, *]

@[simp] theorem execMemoryRequest_frames (f : MFlit) (ecc : List LineEcc) (s : State) (h1 : Part.mem ∈ W) (h2 : Part.logs ∈ W) (h3 : Part.faultReports ∈ W) (h4 : Part.net ∈ W) (h5 : Part.links ∈ W) (h6 : Part.hutches ∈ W) (h7 : Part.parts ∈ W) (h8 : Part.boot ∈ W) (h9 : Part.regs .bur ∈ W) (h10 : Part.regs .plc ∈ W) (h11 : Part.regs .intg ∈ W) (h12 : Part.regs .hut0 ∈ W) (h13 : Part.regs .hut1 ∈ W) (h14 : Part.regs .rtr ∈ W) :
    Result.frames (execMemoryRequest f ecc s) W s := by
  unfold execMemoryRequest
  dsimp only
  (repeat' split) <;> simp_all [except_foldl]

@[simp] theorem execScrubRead_frames (h : Nat) (ecc : LineEcc) (s : State) (h1 : Part.mem ∈ W) (h2 : Part.logs ∈ W) (h3 : Part.faultReports ∈ W) (h4 : Part.links ∈ W) (h5 : Part.hutches ∈ W) (h6 : Part.parts ∈ W) (h7 : Part.boot ∈ W) (h8 : Part.regs .bur ∈ W) (h9 : Part.regs .plc ∈ W) (h10 : Part.regs .intg ∈ W) (h11 : Part.regs .hut0 ∈ W) (h12 : Part.regs .hut1 ∈ W) (h13 : Part.regs .rtr ∈ W) :
    Result.frames (execScrubRead h ecc s) W s := by
  unfold execScrubRead
  split
  · simp
  · dsimp only
    split
    · simp
    · simp [*]

@[simp] theorem State.relayoutStart_except (s : State) (h : Nat) (r : Nat) (f : Nat) (fn : Nat) (key : Word) (h1 : Part.hutches ∈ W) (h2 : Part.regs .hut0 ∈ W) :
    (State.relayoutStart s h r f fn key).except W = s.except W := by
  simp [State.relayoutStart, *]

@[simp] theorem relayoutWrite_except (h : Nat) (w : Word) (s : State) (h1 : Part.logs ∈ W) (h2 : Part.hutches ∈ W) (h3 : Part.regs .intg ∈ W) (h4 : Part.regs .hut0 ∈ W) :
    (relayoutWrite h w s).except W = s.except W := by
  simp [relayoutWrite, *]

@[simp] theorem execRelayout_frames (r : Req) (h : Nat) (w : Word) (s : State) (h1 : Part.logs ∈ W) (h2 : Part.hutches ∈ W) (h3 : Part.pci ∈ W) (h4 : Part.regs .pwr ∈ W) (h5 : Part.regs .intg ∈ W) (h6 : Part.regs .hut0 ∈ W) :
    Result.frames (execRelayout r h w s) W s := by
  simp [execRelayout, *]

@[simp] theorem State.autoRelayout_except (s : State) (h : Nat) (r : Nat) (h1 : Part.draws ∈ W) (h2 : Part.hutches ∈ W) (h3 : Part.regs .hut0 ∈ W) :
    (State.autoRelayout s h r).except W = s.except W := by
  unfold State.autoRelayout
  (repeat' split) <;> simp [*]

@[simp] theorem State.imbAlarm_except (s : State) (h : Nat) (r : Nat) (p : Nat) (h1 : Part.draws ∈ W) (h2 : Part.hutches ∈ W) (h3 : Part.regs .hut0 ∈ W) :
    (State.imbAlarm s h r p).except W = s.except W := by
  simp [State.imbAlarm, *]

@[simp] theorem State.mirrorRelaid_except (s : State) (w : Word) (fn : Nat) (key : Word) (h1 : Part.regs .hut1 ∈ W) :
    (State.mirrorRelaid s w fn key).except W = s.except W := by
  unfold State.mirrorRelaid
  try dsimp only
  (repeat' split) <;> simp_all [except_foldl]

@[simp] theorem State.relayoutEnd_except (s : State) (h : Nat) (r : Nat) (f : Nat) (fn : Nat) (h1 : Part.draws ∈ W) (h2 : Part.hutches ∈ W) (h3 : Part.regs .hut0 ∈ W) (h4 : Part.regs .hut1 ∈ W) :
    (State.relayoutEnd s h r f fn).except W = s.except W := by
  unfold State.relayoutEnd
  try dsimp only
  (repeat' split) <;> simp_all [except_foldl]

@[simp] theorem execRelayoutLineCopy_frames (h : Nat) (s : State) (h1 : Part.draws ∈ W) (h2 : Part.hutches ∈ W) (h3 : Part.regs .hut0 ∈ W) (h4 : Part.regs .hut1 ∈ W) :
    Result.frames (execRelayoutLineCopy h s) W s := by
  unfold execRelayoutLineCopy
  (repeat' split) <;> simp [*]

@[simp] theorem State.judge_except (s : State) (h : Nat) (r : Nat) (counts : SMap Nat) (h1 : Part.draws ∈ W) (h2 : Part.hutches ∈ W) (h3 : Part.regs .hut0 ∈ W) :
    (State.judge s h r counts).except W = s.except W := by
  simp [State.judge, except_foldl, *]

@[simp] theorem State.judgeWindow_except (s : State) (h : Nat) (e : Nat × SMap Nat) (h1 : Part.draws ∈ W) (h2 : Part.hutches ∈ W) (h3 : Part.regs .hut0 ∈ W) :
    (State.judgeWindow s h e).except W = s.except W := by
  simp [State.judgeWindow, except_foldl, *]

@[simp] theorem execImbalanceWindow_frames (h : Nat) (s : State) (h1 : Part.draws ∈ W) (h2 : Part.hutches ∈ W) (h3 : Part.regs .hut0 ∈ W) (h4 : Part.regs .hut1 ∈ W) :
    Result.frames (execImbalanceWindow h s) W s := by
  simp [execImbalanceWindow, except_foldl, *]

end Sys2Proof.Machine
end

