-- ==== Sys2Proof/Laws/FrameExpander.lean ====
section
/-!
SUPPORT. FrameExpander.lean: for each operation of Expander.lean, the parts of the state it may change: it leaves everything outside W as it was,
whenever W holds those parts.
-/

namespace Sys2Proof.Machine

variable {W : List Part}

@[simp] theorem State.cacheUse_except (s : State) (p : Nat) (ls : List Nat) (h1 : Part.cabs ∈ W) :
    (State.cacheUse s p ls).except W = s.except W := by
  simp [State.cacheUse, *]

@[simp] theorem State.lookupLines_except (s : State) (p : Nat) (ls : List Nat) (h1 : Part.cabs ∈ W) (h2 : Part.regs .xpnd ∈ W) :
    (State.lookupLines s p ls).2.except W = s.except W := by
  simp [State.lookupLines, *]

@[simp] theorem State.rowErr_except (s : State) (p : Nat) (code : Nat) (loc : Nat) (h1 : Part.logs ∈ W) (h2 : Part.regs .intg ∈ W) (h3 : Part.regs .xpnd ∈ W) :
    (State.rowErr s p code loc).except W = s.except W := by
  simp [State.rowErr, *]

@[simp] theorem State.addDeliv_except (s : State) (p : Nat) (n : Nat) (h1 : Part.regs .xpnd ∈ W) :
    (State.addDeliv s p n).except W = s.except W := by
  simp [State.addDeliv, *]

@[simp] theorem State.stat_except (s : State) (p : Nat) (i : Nat) (h1 : Part.cabs ∈ W) :
    (State.stat s p i).except W = s.except W := by
  simp [State.stat, *]

@[simp] theorem State.statsWrite_except (s : State) (p : Nat) (h1 : Part.mem ∈ W) (h2 : Part.logs ∈ W) (h3 : Part.regs .intg ∈ W) (h4 : Part.regs .hut0 ∈ W) :
    (State.statsWrite s p).except W = s.except W := by
  simp [State.statsWrite, except_foldl, *]

@[simp] theorem State.statsLoad_except (s : State) (p : Nat) (h1 : Part.cabs ∈ W) :
    (State.statsLoad s p).except W = s.except W := by
  simp [State.statsLoad, *]

@[simp] theorem State.holdMax_except (s : State) (p : Nat) (h1 : Part.regs .xpnd ∈ W) :
    (State.holdMax s p).except W = s.except W := by
  simp [State.holdMax, *]

@[simp] theorem State.cacheEcc_except (s : State) (p : Nat) (x1 : WordEcc) (h1 : Part.logs ∈ W) (h2 : Part.regs .intg ∈ W) (h3 : Part.regs .xpnd ∈ W) :
    (State.cacheEcc s p x1).except W = s.except W := by
  unfold State.cacheEcc
  (repeat' split) <;> simp [*]

@[simp] theorem State.deliverEnt_except (s : State) (p : Nat) (ev : Evt) (h : RowHdr) (g : Nat) (pass : Nat) (e : RowEnt) (h1 : Part.logs ∈ W) (h2 : Part.cabs ∈ W) (h3 : Part.regs .intg ∈ W) (h4 : Part.regs .xpnd ∈ W) :
    (State.deliverEnt s p ev h g pass e).except W = s.except W := by
  simp [State.deliverEnt, *]

@[simp] theorem State.deliverRow_except (s : State) (p : Nat) (ev : Evt) (h : RowHdr) (ents : List RowEnt) (bad : List Nat) (line : Nat) (h1 : Part.logs ∈ W) (h2 : Part.cabs ∈ W) (h3 : Part.regs .intg ∈ W) (h4 : Part.regs .xpnd ∈ W) :
    (State.deliverRow s p ev h ents bad line).except W = s.except W := by
  simp [State.deliverRow, except_foldl, *]

@[simp] theorem State.learnPut_except (s : State) (p : Nat) (a : Nat) (n : Nat) (v : Nat) (h1 : Part.mem ∈ W) (h2 : Part.logs ∈ W) (h3 : Part.hutches ∈ W) (h4 : Part.journals ∈ W) (h5 : Part.regs .intg ∈ W) (h6 : Part.regs .hut0 ∈ W) :
    (State.learnPut s p a n v).except W = s.except W := by
  simp [State.learnPut, *]

@[simp] theorem State.putWord_except (s : State) (p : Nat) (axon : Nat) (line : Nat) (w : Nat) (v : Nat) (h1 : Part.mem ∈ W) (h2 : Part.logs ∈ W) (h3 : Part.hutches ∈ W) (h4 : Part.journals ∈ W) (h5 : Part.regs .intg ∈ W) (h6 : Part.regs .hut0 ∈ W) :
    (State.putWord s p axon line w v).except W = s.except W := by
  unfold State.putWord
  dsimp only
  (repeat' split) <;> simp_all [except_foldl]

@[simp] theorem State.putTag_except (s : State) (p : Nat) (axon : Nat) (line : Nat) (j : Nat) (v : Nat) (h1 : Part.mem ∈ W) (h2 : Part.logs ∈ W) (h3 : Part.hutches ∈ W) (h4 : Part.journals ∈ W) (h5 : Part.regs .intg ∈ W) (h6 : Part.regs .hut0 ∈ W) :
    (State.putTag s p axon line j v).except W = s.except W := by
  unfold State.putTag
  dsimp only
  (repeat' split) <;> simp_all [except_foldl]

@[simp] theorem State.addVacant_except (s : State) (p : Nat) (axon : Nat) (line : Nat) (up : Bool) (h1 : Part.mem ∈ W) (h2 : Part.logs ∈ W) (h3 : Part.hutches ∈ W) (h4 : Part.journals ∈ W) (h5 : Part.regs .intg ∈ W) (h6 : Part.regs .hut0 ∈ W) :
    (State.addVacant s p axon line up).except W = s.except W := by
  unfold State.addVacant
  dsimp only
  (repeat' split) <;> simp_all [except_foldl]

@[simp] theorem State.learnTag_except (s : State) (p : Nat) (ev : Evt) (e : RowEnt) (rl : Nat) (tag : Nat) (h1 : Part.cabs ∈ W) :
    (State.learnTag s p ev e rl tag).2.2.except W = s.except W := by
  unfold State.learnTag
  (repeat' split) <;> simp [*]

@[simp] theorem State.learnPutEnt_except (s : State) (p : Nat) (ev : Evt) (line : Nat) (e : RowEnt) (code : Nat) (tag : Nat) (tag' : Nat) (h1 : Part.mem ∈ W) (h2 : Part.logs ∈ W) (h3 : Part.hutches ∈ W) (h4 : Part.journals ∈ W) (h5 : Part.regs .intg ∈ W) (h6 : Part.regs .hut0 ∈ W) :
    (State.learnPutEnt s p ev line e code tag tag').except W = s.except W := by
  simp [State.learnPutEnt, *]

@[simp] theorem State.learn_except (s : State) (p : Nat) (ev : Evt) (h : RowHdr) (line : Nat) (e : RowEnt) (h1 : Part.mem ∈ W) (h2 : Part.logs ∈ W) (h3 : Part.cabs ∈ W) (h4 : Part.hutches ∈ W) (h5 : Part.journals ∈ W) (h6 : Part.regs .intg ∈ W) (h7 : Part.regs .hut0 ∈ W) :
    (State.learn s p ev h line e).except W = s.except W := by
  simp [State.learn, *]

@[simp] theorem State.create_except (s : State) (p : Nat) (ev : Evt) (line : Nat) (h1 : Part.mem ∈ W) (h2 : Part.logs ∈ W) (h3 : Part.cabs ∈ W) (h4 : Part.hutches ∈ W) (h5 : Part.journals ∈ W) (h6 : Part.regs .intg ∈ W) (h7 : Part.regs .hut0 ∈ W) :
    (State.create s p ev line).except W = s.except W := by
  unfold State.create
  dsimp only
  (repeat' split) <;> simp_all [except_foldl]

@[simp] theorem State.learnRow_except (s : State) (p : Nat) (ev : Evt) (h : RowHdr) (ents : List RowEnt) (line : Nat) (post : StoreEcc) (h1 : Part.mem ∈ W) (h2 : Part.logs ∈ W) (h3 : Part.faultReports ∈ W) (h4 : Part.cabs ∈ W) (h5 : Part.hutches ∈ W) (h6 : Part.journals ∈ W) (h7 : Part.regs .intg ∈ W) (h8 : Part.regs .hut0 ∈ W) (h9 : Part.regs .spad ∈ W) (h10 : Part.regs .drw ∈ W) :
    (State.learnRow s p ev h ents line post).except W = s.except W := by
  simp [State.learnRow, except_foldl, *]

@[simp] theorem State.walk_except (s : State) (p : Nat) (ev : Evt) (bad : List Nat) (post : StoreEcc) (h1 : Part.mem ∈ W) (h2 : Part.logs ∈ W) (h3 : Part.faultReports ∈ W) (h4 : Part.cabs ∈ W) (h5 : Part.hutches ∈ W) (h6 : Part.journals ∈ W) (h7 : Part.regs .intg ∈ W) (h8 : Part.regs .hut0 ∈ W) (h9 : Part.regs .spad ∈ W) (h10 : Part.regs .drw ∈ W) (h11 : Part.regs .xpnd ∈ W) :
    (State.walk s p ev bad post).except W = s.except W := by
  simp [State.walk, except_foldl, *]

@[simp] theorem State.lineFailed_except (s : State) (p : Nat) (axon : Nat) (h1 : Part.logs ∈ W) (h2 : Part.faultReports ∈ W) (h3 : Part.regs .intg ∈ W) (h4 : Part.regs .xpnd ∈ W) :
    (State.lineFailed s p axon).except W = s.except W := by
  simp [State.lineFailed, *]

@[simp] theorem State.ask_except (s : State) (p : Nat) (h1 : Part.cabs ∈ W) :
    (State.ask s p).except W = s.except W := by
  simp [State.ask, *]

@[simp] theorem State.walkFrom_except (s : State) (p : Nat) (ev : Evt) (plastic : Bool) (bad : List Nat) (post : StoreEcc) (x1 : Nat) (x2 : Nat) (h1 : Part.mem ∈ W) (h2 : Part.logs ∈ W) (h3 : Part.faultReports ∈ W) (h4 : Part.cabs ∈ W) (h5 : Part.hutches ∈ W) (h6 : Part.journals ∈ W) (h7 : Part.regs .intg ∈ W) (h8 : Part.regs .hut0 ∈ W) (h9 : Part.regs .spad ∈ W) (h10 : Part.regs .drw ∈ W) (h11 : Part.regs .xpnd ∈ W) :
    (State.walkFrom s p ev plastic bad post x1 x2).except W = s.except W := by
  induction x1 generalizing s x2 with
  | zero => rfl
  | succ fuel ih =>
    unfold State.walkFrom
    dsimp only
    (repeat' split) <;> simp [*]

@[simp] theorem State.walkStart_except (s : State) (p : Nat) (ev : Evt) (plastic : Bool) (post : StoreEcc) (h1 : Part.mem ∈ W) (h2 : Part.logs ∈ W) (h3 : Part.faultReports ∈ W) (h4 : Part.cabs ∈ W) (h5 : Part.hutches ∈ W) (h6 : Part.journals ∈ W) (h7 : Part.regs .intg ∈ W) (h8 : Part.regs .hut0 ∈ W) (h9 : Part.regs .spad ∈ W) (h10 : Part.regs .drw ∈ W) (h11 : Part.regs .xpnd ∈ W) :
    (State.walkStart s p ev plastic post).except W = s.except W := by
  unfold State.walkStart
  try dsimp only
  (repeat' split) <;> simp_all [except_foldl]

@[simp] theorem State.fillOff_except (s : State) (p : Nat) (b : Nat) (w : Wait) (h1 : Part.logs ∈ W) (h2 : Part.faultReports ∈ W) (h3 : Part.regs .intg ∈ W) (h4 : Part.regs .spad ∈ W) (h5 : Part.regs .xpnd ∈ W) :
    (State.fillOff s p b w).except W = s.except W := by
  simp [State.fillOff, *]

@[simp] theorem State.postFree_except (s : State) (p : Nat) (h1 : Part.mem ∈ W) (h2 : Part.regs .drw ∈ W) :
    (State.postFree s p).except W = s.except W := by
  unfold State.postFree
  refine except_foldl _ (fun u d => ?_) _ _
  dsimp only
  split <;> simp [except_foldl, *]

@[simp] theorem State.fillLines_except (s : State) (p : Nat) (bad : List Nat) (ls : List Nat) (h1 : Part.mem ∈ W) (h2 : Part.logs ∈ W) (h3 : Part.faultReports ∈ W) (h4 : Part.links ∈ W) (h5 : Part.hutches ∈ W) (h6 : Part.parts ∈ W) (h7 : Part.boot ∈ W) (h8 : Part.regs .bur ∈ W) (h9 : Part.regs .plc ∈ W) (h10 : Part.regs .intg ∈ W) (h11 : Part.regs .hut0 ∈ W) (h12 : Part.regs .hut1 ∈ W) (h13 : Part.regs .rtr ∈ W) :
    State.except (State.fillLines s p bad ls).2.2 W = s.except W := by
  have key : ∀ (l : List Nat) (a : List Nat × List Nat × State), State.except (l.foldl (fun (a : List Nat × List Nat × State) l =>
      match a.2.2.stackDenied (s.cabKey p) (l * 64) false with
      | some c => (a.1 ++ [l], a.2.1, a.2.2.isolate (s.cabKey p) (l * 64) c)
      | none =>
        let x := (a.2.2.countLine (l * 64)).readLine (l * 64) (if bad.contains l then .uncorrectable true else .clean)
        (a.1, if x.1.isNone then a.2.1 ++ [l] else a.2.1, x.2)) a).2.2 W = a.2.2.except W := by
    intro l
    induction l with
    | nil => intro a; rfl
    | cons x l ih => intro a; rw [List.foldl_cons, ih]; split <;> simp [*]
  exact key ls ([], [], s)

@[simp] theorem execRowLineFill_frames (p : Nat) (lines : FillReads) (s : State) (h1 : Part.mem ∈ W) (h2 : Part.logs ∈ W) (h3 : Part.faultReports ∈ W) (h4 : Part.links ∈ W) (h5 : Part.cabs ∈ W) (h6 : Part.hutches ∈ W) (h7 : Part.parts ∈ W) (h8 : Part.journals ∈ W) (h9 : Part.boot ∈ W) (h10 : Part.regs .bur ∈ W) (h11 : Part.regs .plc ∈ W) (h12 : Part.regs .intg ∈ W) (h13 : Part.regs .hut0 ∈ W) (h14 : Part.regs .hut1 ∈ W) (h15 : Part.regs .spad ∈ W) (h16 : Part.regs .drw ∈ W) (h17 : Part.regs .xpnd ∈ W) (h18 : Part.regs .rtr ∈ W) :
    Result.frames (execRowLineFill p lines s) W s := by
  unfold execRowLineFill
  split
  · simp
  · next w _ =>
    dsimp only
    split
    · simp
    · have hk : State.except (s.fillLines p lines.bad w.lines).2.2 W = s.except W := by simp [*]
      generalize s.fillLines p lines.bad w.lines = r at hk ⊢
      obtain ⟨iso, lost, u⟩ := r
      dsimp only at hk ⊢
      (repeat' split) <;> simp [*]

@[simp] theorem State.handleEvt_except (s : State) (p : Nat) (ev : Evt) (h1 : Part.mem ∈ W) (h2 : Part.logs ∈ W) (h3 : Part.faultReports ∈ W) (h4 : Part.cabs ∈ W) (h5 : Part.hutches ∈ W) (h6 : Part.journals ∈ W) (h7 : Part.regs .intg ∈ W) (h8 : Part.regs .hut0 ∈ W) (h9 : Part.regs .spad ∈ W) (h10 : Part.regs .drw ∈ W) (h11 : Part.regs .xpnd ∈ W) :
    (State.handleEvt s p ev).except W = s.except W := by
  simp [State.handleEvt, *]

@[simp] theorem State.evinjEnds_except (s : State) (p : Nat) (ev : Evt) (h1 : Part.traces ∈ W) (h2 : Part.cabs ∈ W) (h3 : Part.regs .obs ∈ W) (h4 : Part.regs .cctl ∈ W) :
    (State.evinjEnds s p ev).except W = s.except W := by
  unfold State.evinjEnds
  try dsimp only
  (repeat' split) <;> simp_all [except_foldl]

@[simp] theorem execExpanderEvent_frames (p : Nat) (mesh : Bool) (ecc : WordEcc) (s : State) (h1 : Part.mem ∈ W) (h2 : Part.logs ∈ W) (h3 : Part.faultReports ∈ W) (h4 : Part.traces ∈ W) (h5 : Part.inbox ∈ W) (h6 : Part.cabs ∈ W) (h7 : Part.hutches ∈ W) (h8 : Part.journals ∈ W) (h9 : Part.regs .intg ∈ W) (h10 : Part.regs .obs ∈ W) (h11 : Part.regs .hut0 ∈ W) (h12 : Part.regs .cctl ∈ W) (h13 : Part.regs .spad ∈ W) (h14 : Part.regs .drw ∈ W) (h15 : Part.regs .xpnd ∈ W) :
    Result.frames (execExpanderEvent p mesh ecc s) W s := by
  unfold execExpanderEvent
  dsimp only
  (repeat' split) <;> simp_all [except_foldl]

@[simp] theorem execPlasticEventWalk_frames (p : Nat) (ecc : WalkEcc) (s : State) (h1 : Part.mem ∈ W) (h2 : Part.logs ∈ W) (h3 : Part.faultReports ∈ W) (h4 : Part.cabs ∈ W) (h5 : Part.hutches ∈ W) (h6 : Part.journals ∈ W) (h7 : Part.regs .intg ∈ W) (h8 : Part.regs .hut0 ∈ W) (h9 : Part.regs .spad ∈ W) (h10 : Part.regs .drw ∈ W) (h11 : Part.regs .xpnd ∈ W) :
    Result.frames (execPlasticEventWalk p ecc s) W s := by
  unfold execPlasticEventWalk
  dsimp only
  (repeat' split) <;> simp_all [except_foldl]

@[simp] theorem execRewardProcess_frames (p : Nat) (s : State) (h1 : Part.mem ∈ W) (h2 : Part.cabs ∈ W) (h3 : Part.regs .drw ∈ W) :
    Result.frames (execRewardProcess p s) W s := by
  unfold execRewardProcess
  dsimp only
  (repeat' split) <;> simp_all [except_foldl]

@[simp] theorem State.pinReads_except (s : State) (p : Nat) (c : Nat) (h1 : Part.logs ∈ W) (h2 : Part.regs .intg ∈ W) (h3 : Part.regs .spad ∈ W) :
    (State.pinReads s p c).except W = s.except W := by
  simp [State.pinReads, except_foldl, *]

@[simp] theorem State.applyPins_except (s : State) (p : Nat) (h1 : Part.logs ∈ W) (h2 : Part.cabs ∈ W) (h3 : Part.regs .intg ∈ W) (h4 : Part.regs .spad ∈ W) (h5 : Part.regs .xpnd ∈ W) :
    (State.applyPins s p).except W = s.except W := by
  simp [State.applyPins, *]

@[simp] theorem epochWrite_except (p : Nat) (w : Word) (s : State) (h1 : Part.logs ∈ W) (h2 : Part.cabs ∈ W) (h3 : Part.regs .intg ∈ W) (h4 : Part.regs .xpnd ∈ W) :
    (epochWrite p w s).except W = s.except W := by
  simp [epochWrite, *]

@[simp] theorem execEpochRequest_frames (r : Req) (p : Nat) (w : Word) (s : State) (h1 : Part.logs ∈ W) (h2 : Part.cabs ∈ W) (h3 : Part.pci ∈ W) (h4 : Part.regs .pwr ∈ W) (h5 : Part.regs .intg ∈ W) (h6 : Part.regs .xpnd ∈ W) :
    Result.frames (execEpochRequest r p w s) W s := by
  simp [execEpochRequest, *]

@[simp] theorem execEpochSwitch_frames (p : Nat) (s : State) (h1 : Part.logs ∈ W) (h2 : Part.cabs ∈ W) (h3 : Part.regs .intg ∈ W) (h4 : Part.regs .spad ∈ W) (h5 : Part.regs .xpnd ∈ W) :
    Result.frames (execEpochSwitch p s) W s := by
  simp [execEpochSwitch, *]

@[simp] theorem State.buildRow_except (s : State) (old : Nat) (line : Nat) (nent' : Nat) (h1 : Part.mem ∈ W) :
    (State.buildRow s old line nent').except W = s.except W := by
  simp [State.buildRow, except_foldl, *]

@[simp] theorem execRelocationCopy_frames (p : Nat) (axon : Nat) (bad : List Nat) (s : State) (h1 : Part.mem ∈ W) (h2 : Part.cabs ∈ W) :
    Result.frames (execRelocationCopy p axon bad s) W s := by
  unfold execRelocationCopy
  dsimp only
  (repeat' split) <;> simp_all [except_foldl]

@[simp] theorem execRelocDone_frames (p : Nat) (axon : Nat) (s : State) (h1 : Part.cabs ∈ W) (h2 : Part.regs .xpnd ∈ W) :
    Result.frames (execRelocDone p axon s) W s := by
  unfold execRelocDone
  dsimp only
  (repeat' split) <;> simp_all [except_foldl]

@[simp] theorem execRelocationInstall_frames (p : Nat) (axon : Nat) (s : State) (h1 : Part.mem ∈ W) (h2 : Part.logs ∈ W) (h3 : Part.cabs ∈ W) (h4 : Part.hutches ∈ W) (h5 : Part.journals ∈ W) (h6 : Part.regs .intg ∈ W) (h7 : Part.regs .hut0 ∈ W) (h8 : Part.regs .spad ∈ W) (h9 : Part.regs .xpnd ∈ W) :
    Result.frames (execRelocationInstall p axon s) W s := by
  unfold execRelocationInstall
  dsimp only
  (repeat' split) <;> simp_all [except_foldl]

@[simp] theorem State.markerAnswer_except (s : State) (p : Nat) (ok : Bool) (h1 : Part.mbox ∈ W) :
    (State.markerAnswer s p ok).except W = s.except W := by
  simp [State.markerAnswer, *]

@[simp] theorem execConsolidationMarker_frames (p : Nat) (s : State) (h1 : Part.inbox ∈ W) (h2 : Part.cabs ∈ W) (h3 : Part.mbox ∈ W) :
    Result.frames (execConsolidationMarker p s) W s := by
  unfold execConsolidationMarker
  (repeat' split) <;> simp [*]

@[simp] theorem State.markTag_except (s : State) (p : Nat) (tc : Nat) (axon : Nat) (h : RowHdr) (line : Nat) (post : StoreEcc) (e : RowEnt) (h1 : Part.mem ∈ W) (h2 : Part.logs ∈ W) (h3 : Part.cabs ∈ W) (h4 : Part.hutches ∈ W) (h5 : Part.journals ∈ W) (h6 : Part.regs .intg ∈ W) (h7 : Part.regs .hut0 ∈ W) :
    (State.markTag s p tc axon h line post e).except W = s.except W := by
  simp [State.markTag, *]

@[simp] theorem execMarkerProcess_frames (c : Checked StoreEcc) (s : State) (h1 : Part.mem ∈ W) (h2 : Part.logs ∈ W) (h3 : Part.faultReports ∈ W) (h4 : Part.cabs ∈ W) (h5 : Part.hutches ∈ W) (h6 : Part.journals ∈ W) (h7 : Part.regs .intg ∈ W) (h8 : Part.regs .hut0 ∈ W) (h9 : Part.regs .spad ∈ W) (h10 : Part.regs .drw ∈ W) :
    Result.frames (execMarkerProcess c s) W s := by
  unfold execMarkerProcess
  dsimp only
  split
  · simp
  · split
    · simp
    · simp only [done_frames]
      refine (State.statsWrite_except _ _ (by assumption) (by assumption) (by assumption) (by assumption)).trans ?_
      simp [*]
      refine (except_foldl _ (fun u x => ?_) _ _).trans (by simp [*])
      simp [except_foldl, *]

@[simp] theorem State.fetch_except (s : State) (p : Nat) (ls : List Nat) (h1 : Part.logs ∈ W) (h2 : Part.cabs ∈ W) (h3 : Part.regs .intg ∈ W) (h4 : Part.regs .spad ∈ W) :
    (State.fetch s p ls).except W = s.except W := by
  unfold State.fetch
  try dsimp only
  (repeat' split) <;> simp_all [except_foldl]

@[simp] theorem execPrefetch_frames (p : Nat) (s : State) (h1 : Part.logs ∈ W) (h2 : Part.traces ∈ W) (h3 : Part.net ∈ W) (h4 : Part.seqs ∈ W) (h5 : Part.sources ∈ W) (h6 : Part.cabs ∈ W) (h7 : Part.regs .intg ∈ W) (h8 : Part.regs .obs ∈ W) (h9 : Part.regs .cctl ∈ W) (h10 : Part.regs .qmgr ∈ W) (h11 : Part.regs .spad ∈ W) :
    Result.frames (execPrefetch p s) W s := by
  unfold execPrefetch
  (repeat' split) <;> simp [*]

end Sys2Proof.Machine
end

