-- ==== Sys2Proof/Laws/FrameHorizon.lean ====
section
/-!
SUPPORT. FrameHorizon.lean: for each operation of Horizon.lean, the parts of the state it may change: it leaves everything outside W as it was,
whenever W holds those parts.
-/

namespace Sys2Proof.Machine

variable {W : List Part}

@[simp] theorem State.setCkpts_except (s : State) (k : Nat) (c : Nat) (l : List Ckpt) (h1 : Part.ckpts ∈ W) :
    (State.setCkpts s k c l).except W = s.except W := by
  simp [State.setCkpts, *]

@[simp] theorem State.ckptTake_except (s : State) (p : Nat) (n : Nat) (t : Nat) (h1 : Part.mem ∈ W) (h2 : Part.logs ∈ W) (h3 : Part.journals ∈ W) (h4 : Part.ckpts ∈ W) (h5 : Part.regs .intg ∈ W) (h6 : Part.regs .hut0 ∈ W) :
    (State.ckptTake s p n t).except W = s.except W := by
  simp [State.ckptTake, *]

@[simp] theorem State.ckptDue_except (s : State) (p : Nat) (g : Nat) (h1 : Part.mem ∈ W) (h2 : Part.logs ∈ W) (h3 : Part.journals ∈ W) (h4 : Part.ckpts ∈ W) (h5 : Part.regs .intg ∈ W) (h6 : Part.regs .hut0 ∈ W) :
    (State.ckptDue s p g).except W = s.except W := by
  simp [State.ckptDue, *]

@[simp] theorem State.stepDone_except (s : State) (p : Nat) (g : Nat) (ecc : StoreEcc) (h1 : Part.mem ∈ W) (h2 : Part.logs ∈ W) (h3 : Part.faultReports ∈ W) (h4 : Part.cabs ∈ W) (h5 : Part.journals ∈ W) (h6 : Part.ckpts ∈ W) (h7 : Part.regs .intg ∈ W) (h8 : Part.regs .hut0 ∈ W) (h9 : Part.regs .spad ∈ W) (h10 : Part.regs .drw ∈ W) (h11 : Part.regs .hzn ∈ W) :
    (State.stepDone s p g ecc).except W = s.except W := by
  simp [State.stepDone, *]

@[simp] theorem execStepStart_frames (c : Checked StoreEcc) (s : State) (h1 : Part.mem ∈ W) (h2 : Part.logs ∈ W) (h3 : Part.faultReports ∈ W) (h4 : Part.cabs ∈ W) (h5 : Part.journals ∈ W) (h6 : Part.ckpts ∈ W) (h7 : Part.regs .intg ∈ W) (h8 : Part.regs .hut0 ∈ W) (h9 : Part.regs .spad ∈ W) (h10 : Part.regs .drw ∈ W) (h11 : Part.regs .hzn ∈ W) :
    Result.frames (execStepStart c s) W s := by
  simp [execStepStart, *]

@[simp] theorem execStepComplete_frames (c : Checked StoreEcc) (s : State) (h1 : Part.mem ∈ W) (h2 : Part.logs ∈ W) (h3 : Part.faultReports ∈ W) (h4 : Part.cabs ∈ W) (h5 : Part.journals ∈ W) (h6 : Part.ckpts ∈ W) (h7 : Part.regs .intg ∈ W) (h8 : Part.regs .hut0 ∈ W) (h9 : Part.regs .spad ∈ W) (h10 : Part.regs .drw ∈ W) (h11 : Part.regs .hzn ∈ W) :
    Result.frames (execStepComplete c s) W s := by
  unfold execStepComplete
  try dsimp only
  (repeat' split) <;> simp_all [except_foldl]

@[simp] theorem floorCommit_except (p : Nat) (hi : Word) (s : State) (h1 : Part.logs ∈ W) (h2 : Part.staging ∈ W) (h3 : Part.cabs ∈ W) (h4 : Part.regs .intg ∈ W) (h5 : Part.regs .hzn ∈ W) :
    (floorCommit p hi s).except W = s.except W := by
  simp [floorCommit, *]

@[simp] theorem execCoreFloorWrite_frames (r : Req) (p : Nat) (w : Word) (s : State) (h1 : Part.logs ∈ W) (h2 : Part.staging ∈ W) (h3 : Part.cabs ∈ W) (h4 : Part.pci ∈ W) (h5 : Part.regs .pwr ∈ W) (h6 : Part.regs .intg ∈ W) (h7 : Part.regs .hzn ∈ W) :
    Result.frames (execCoreFloorWrite r p w s) W s := by
  simp [execCoreFloorWrite, *]

@[simp] theorem execHorizonRoundSample_frames (k : Nat) (e : Nat) (s : State) (h1 : Part.sources ∈ W) :
    Result.frames (execHorizonRoundSample k e s) W s := by
  unfold execHorizonRoundSample
  (repeat' split) <;> simp [*]

@[simp] theorem execHorizonContributionSend_frames (k : Nat) (e : Nat) (s : State) (h1 : Part.net ∈ W) (h2 : Part.sources ∈ W) (h3 : Part.regs .hzn ∈ W) :
    Result.frames (execHorizonContributionSend k e s) W s := by
  unfold execHorizonContributionSend
  dsimp only
  (repeat' split) <;> simp_all [except_foldl]

@[simp] theorem execAcceptanceNotice_frames (i : Nat) (s : State) (h1 : Part.notices ∈ W) (h2 : Part.sources ∈ W) (h3 : Part.chans ∈ W) :
    Result.frames (execAcceptanceNotice i s) W s := by
  unfold execAcceptanceNotice
  dsimp only
  (repeat' split) <;> simp_all [except_foldl]

end Sys2Proof.Machine
end

