-- ==== Sys2Proof/Laws/FrameDecoder.lean ====
section
/-!
SUPPORT. FrameDecoder.lean: for each operation of Decoder.lean, the parts of the state it may change: it leaves everything outside W as it was,
whenever W holds those parts.
-/

namespace Sys2Proof.Machine

variable {W : List Part}

@[simp] theorem State.putDec_except (s : State) (n : Nat) (d : Dec) (h1 : Part.decs ∈ W) (h2 : Part.regs .chdec ∈ W) :
    (State.putDec s n d).except W = s.except W := by
  simp [State.putDec, *]

@[simp] theorem State.spillPq_except (s : State) (n : Nat) (h1 : Part.mem ∈ W) (h2 : Part.logs ∈ W) (h3 : Part.regs .intg ∈ W) (h4 : Part.regs .hut0 ∈ W) :
    (State.spillPq s n).except W = s.except W := by
  simp [State.spillPq, except_foldl, *]

@[simp] theorem State.formWindow_except (s : State) (n : Nat) (u : Nat) (w : Nat) (h1 : Part.mem ∈ W) (h2 : Part.logs ∈ W) (h3 : Part.decs ∈ W) (h4 : Part.regs .intg ∈ W) (h5 : Part.regs .chdec ∈ W) (h6 : Part.regs .hut0 ∈ W) :
    (State.formWindow s n u w).except W = s.except W := by
  simp [State.formWindow, *]

@[simp] theorem State.confirmWindow_except (s : State) (n : Nat) (u : Nat) (w : Nat) (h1 : Part.mem ∈ W) (h2 : Part.logs ∈ W) (h3 : Part.decs ∈ W) (h4 : Part.regs .intg ∈ W) (h5 : Part.regs .chdec ∈ W) (h6 : Part.regs .hut0 ∈ W) :
    (State.confirmWindow s n u w).except W = s.except W := by
  simp [State.confirmWindow, *]

@[simp] theorem State.stepWindow_except (s : State) (n : Nat) (u : Nat) (w : Nat) (h1 : Part.mem ∈ W) (h2 : Part.logs ∈ W) (h3 : Part.decs ∈ W) (h4 : Part.regs .intg ∈ W) (h5 : Part.regs .chdec ∈ W) (h6 : Part.regs .hut0 ∈ W) :
    (State.stepWindow s n u w).except W = s.except W := by
  simp [State.stepWindow, *]

@[simp] theorem State.decAdvance_except (s : State) (n : Nat) (h1 : Part.mem ∈ W) (h2 : Part.logs ∈ W) (h3 : Part.decs ∈ W) (h4 : Part.regs .intg ∈ W) (h5 : Part.regs .chdec ∈ W) (h6 : Part.regs .hut0 ∈ W) :
    (State.decAdvance s n).except W = s.except W := by
  unfold State.decAdvance
  refine except_foldl _ (fun u x => ?_) _ _
  split
  · exact except_foldl _ (fun v w => by simp [*]) _ _
  · rfl

@[simp] theorem State.inputErr_except (s : State) (n : Nat) (i : Nat) (ty : Nat) (h1 : Part.logs ∈ W) (h2 : Part.regs .intg ∈ W) (h3 : Part.regs .chdec ∈ W) :
    (State.inputErr s n i ty).except W = s.except W := by
  simp [State.inputErr, *]

@[simp] theorem State.lateInput_except (s : State) (n : Nat) (i : Nat) (h1 : Part.logs ∈ W) (h2 : Part.regs .intg ∈ W) (h3 : Part.regs .chdec ∈ W) :
    (State.lateInput s n i).except W = s.except W := by
  simp [State.lateInput, *]

@[simp] theorem State.applyInput_except (s : State) (n : Nat) (u : Nat) (e : DIn) (h1 : Part.mem ∈ W) (h2 : Part.logs ∈ W) (h3 : Part.decs ∈ W) (h4 : Part.regs .intg ∈ W) (h5 : Part.regs .chdec ∈ W) (h6 : Part.regs .hut0 ∈ W) :
    (State.applyInput s n u e).except W = s.except W := by
  simp [State.applyInput, *]

@[simp] theorem State.notice_except (s : State) (e : Nat) (f : Flit) (h1 : Part.notices ∈ W) :
    (State.notice s e f).except W = s.except W := by
  simp [State.notice, *]

@[simp] theorem State.writeLog_except (s : State) (n : Nat) (e : DIn) (h1 : Part.mem ∈ W) (h2 : Part.logs ∈ W) (h3 : Part.decs ∈ W) (h4 : Part.regs .intg ∈ W) (h5 : Part.regs .hut0 ∈ W) :
    (State.writeLog s n e).except W = s.except W := by
  simp [State.writeLog, *]

@[simp] theorem execDecoderInput_frames (n : Nat) (room : Bool) (s : State) (h1 : Part.mem ∈ W) (h2 : Part.logs ∈ W) (h3 : Part.inbox ∈ W) (h4 : Part.notices ∈ W) (h5 : Part.decs ∈ W) (h6 : Part.regs .intg ∈ W) (h7 : Part.regs .chdec ∈ W) (h8 : Part.regs .hut0 ∈ W) :
    Result.frames (execDecoderInput n room s) W s := by
  unfold execDecoderInput
  dsimp only
  (repeat' split) <;> simp_all [except_foldl]

@[simp] theorem State.putRf_except (s : State) (n : Nat) (d : Dec) (h1 : Part.decs ∈ W) (h2 : Part.regs .chdec ∈ W) :
    (State.putRf s n d).except W = s.except W := by
  simp [State.putRf, *]

@[simp] theorem State.badRecord_except (s : State) (n : Nat) (seq : Nat) (h1 : Part.logs ∈ W) (h2 : Part.faultReports ∈ W) (h3 : Part.chans ∈ W) (h4 : Part.regs .intg ∈ W) (h5 : Part.regs .chdec ∈ W) :
    (State.badRecord s n seq).except W = s.except W := by
  simp [State.badRecord, *]

@[simp] theorem execRecordWrite_frames (n : Nat) (bad : Option Bool) (s : State) (h1 : Part.logs ∈ W) (h2 : Part.faultReports ∈ W) (h3 : Part.chans ∈ W) (h4 : Part.decs ∈ W) (h5 : Part.regs .intg ∈ W) (h6 : Part.regs .chdec ∈ W) :
    Result.frames (execRecordWrite n bad s) W s := by
  unfold execRecordWrite
  dsimp only
  (repeat' split) <;> simp_all [except_foldl]

@[simp] theorem State.commitRecord_except (s : State) (n : Nat) (x : PRes) (seq : Nat) (held : Bool) (h1 : Part.decs ∈ W) (h2 : Part.regs .chdec ∈ W) :
    (State.commitRecord s n x seq held).except W = s.except W := by
  simp [State.commitRecord, *]

@[simp] theorem State.trigPulse_except (s : State) (n : Nat) (r : Nat) (h1 : Part.decs ∈ W) (h2 : Part.regs .chdec ∈ W) :
    (State.trigPulse s n r).except W = s.except W := by
  unfold State.trigPulse
  dsimp only
  (repeat' split) <;> simp_all [except_foldl]

@[simp] theorem State.annotate_except (s : State) (n : Nat) (u : Nat) (r : Nat) (h1 : Part.decs ∈ W) :
    (State.annotate s n u r).except W = s.except W := by
  simp [State.annotate, *]

@[simp] theorem State.releaseOut_except (s : State) (n : Nat) (x : PRes) (r : Nat) (late : Bool) (h1 : Part.decs ∈ W) (h2 : Part.regs .chdec ∈ W) :
    (State.releaseOut s n x r late).except W = s.except W := by
  simp [State.releaseOut, *]

@[simp] theorem State.releaseRecord_except (s : State) (n : Nat) (x1 : PRes) (q : Nat) (bad : Bool) (h1 : Part.logs ∈ W) (h2 : Part.faultReports ∈ W) (h3 : Part.chans ∈ W) (h4 : Part.decs ∈ W) (h5 : Part.regs .intg ∈ W) (h6 : Part.regs .chdec ∈ W) :
    (State.releaseRecord s n x1 q bad).except W = s.except W := by
  simp [State.releaseRecord, *]

@[simp] theorem execResultRelease_frames (x1 : ChanBad) (s : State) (h1 : Part.logs ∈ W) (h2 : Part.faultReports ∈ W) (h3 : Part.chans ∈ W) (h4 : Part.decs ∈ W) (h5 : Part.regs .intg ∈ W) (h6 : Part.regs .chdec ∈ W) :
    Result.frames (execResultRelease x1 s) W s := by
  unfold execResultRelease
  dsimp only
  (repeat' split) <;> simp_all [except_foldl]

@[simp] theorem execRecordHeldCommit_frames (x1 : ChanBad) (s : State) (h1 : Part.logs ∈ W) (h2 : Part.faultReports ∈ W) (h3 : Part.chans ∈ W) (h4 : Part.decs ∈ W) (h5 : Part.regs .intg ∈ W) (h6 : Part.regs .chdec ∈ W) :
    Result.frames (execRecordHeldCommit x1 s) W s := by
  unfold execRecordHeldCommit
  dsimp only
  (repeat' split) <;> simp_all [except_foldl]

@[simp] theorem execTrigOutEnd_frames (n : Nat) (s : State) (h1 : Part.decs ∈ W) :
    Result.frames (execTrigOutEnd n s) W s := by
  unfold execTrigOutEnd
  dsimp only
  (repeat' split) <;> simp_all [except_foldl]

@[simp] theorem State.rfLatch_except (s : State) (n : Nat) (hi : Nat) (info : Nat) (h1 : Part.regs .chdec ∈ W) :
    (State.rfLatch s n hi info).except W = s.except W := by
  simp [State.rfLatch, *]

@[simp] theorem rfPop_except (n : Nat) (ecc : EccRead) (s : State) (h1 : Part.logs ∈ W) (h2 : Part.chans ∈ W) (h3 : Part.decs ∈ W) (h4 : Part.regs .intg ∈ W) (h5 : Part.regs .chdec ∈ W) :
    (rfPop n ecc s).2.except W = s.except W := by
  unfold rfPop
  dsimp only
  (repeat' split) <;> simp_all [except_foldl]

@[simp] theorem execRfPop_frames (r : Req) (n : Nat) (ecc : EccRead) (s : State) (h1 : Part.logs ∈ W) (h2 : Part.chans ∈ W) (h3 : Part.decs ∈ W) (h4 : Part.pci ∈ W) (h5 : Part.regs .intg ∈ W) (h6 : Part.regs .chdec ∈ W) :
    Result.frames (execRfPop r n ecc s) W s := by
  simp [execRfPop, *]

@[simp] theorem rfDropRest_except (n : Nat) (s : State) (h1 : Part.decs ∈ W) (h2 : Part.regs .chdec ∈ W) :
    (rfDropRest n s).except W = s.except W := by
  unfold rfDropRest
  dsimp only
  (repeat' split) <;> simp_all [except_foldl]

@[simp] theorem rfFlush_except (n : Nat) (s : State) (h1 : Part.decs ∈ W) (h2 : Part.regs .chdec ∈ W) :
    (rfFlush n s).except W = s.except W := by
  simp [rfFlush, *]

@[simp] theorem rfCmdWrite_except (n : Nat) (w : Word) (s : State) (h1 : Part.logs ∈ W) (h2 : Part.decs ∈ W) (h3 : Part.regs .intg ∈ W) (h4 : Part.regs .chdec ∈ W) :
    (rfCmdWrite n w s).except W = s.except W := by
  unfold rfCmdWrite
  (repeat' split) <;> simp [*]

@[simp] theorem execRfDropRest_frames (r : Req) (n : Nat) (s : State) (h1 : Part.logs ∈ W) (h2 : Part.decs ∈ W) (h3 : Part.pci ∈ W) (h4 : Part.regs .pwr ∈ W) (h5 : Part.regs .intg ∈ W) (h6 : Part.regs .chdec ∈ W) :
    Result.frames (execRfDropRest r n s) W s := by
  simp [execRfDropRest, *]

@[simp] theorem execRfFlush_frames (r : Req) (n : Nat) (s : State) (h1 : Part.logs ∈ W) (h2 : Part.decs ∈ W) (h3 : Part.pci ∈ W) (h4 : Part.regs .pwr ∈ W) (h5 : Part.regs .intg ∈ W) (h6 : Part.regs .chdec ∈ W) :
    Result.frames (execRfFlush r n s) W s := by
  simp [execRfFlush, *]

@[simp] theorem rfThrWrite_except (n : Nat) (w : Word) (s : State) (h1 : Part.decs ∈ W) (h2 : Part.regs .chdec ∈ W) :
    (rfThrWrite n w s).except W = s.except W := by
  simp [rfThrWrite, *]

@[simp] theorem execRfThrWrite_frames (r : Req) (n : Nat) (w : Word) (s : State) (h1 : Part.logs ∈ W) (h2 : Part.decs ∈ W) (h3 : Part.pci ∈ W) (h4 : Part.regs .pwr ∈ W) (h5 : Part.regs .intg ∈ W) (h6 : Part.regs .chdec ∈ W) :
    Result.frames (execRfThrWrite r n w s) W s := by
  simp [execRfThrWrite, *]

@[simp] theorem execRdmaRecordCopy_frames (n : Nat) (s : State) (h1 : Part.decs ∈ W) (h2 : Part.hostMem ∈ W) (h3 : Part.regs .chdec ∈ W) :
    Result.frames (execRdmaRecordCopy n s) W s := by
  unfold execRdmaRecordCopy
  dsimp only
  (repeat' split) <;> simp_all [except_foldl]

@[simp] theorem State.rewind_except (s : State) (n : Nat) (c : Nat) (t : Nat) (h1 : Part.mem ∈ W) (h2 : Part.logs ∈ W) (h3 : Part.decs ∈ W) (h4 : Part.regs .intg ∈ W) (h5 : Part.regs .chdec ∈ W) (h6 : Part.regs .hut0 ∈ W) :
    (State.rewind s n c t).except W = s.except W := by
  simp [State.rewind, except_foldl, *]

@[simp] theorem execRewind_frames (n : Nat) (s : State) (h1 : Part.mem ∈ W) (h2 : Part.logs ∈ W) (h3 : Part.inbox ∈ W) (h4 : Part.decs ∈ W) (h5 : Part.regs .intg ∈ W) (h6 : Part.regs .chdec ∈ W) (h7 : Part.regs .hut0 ∈ W) :
    Result.frames (execRewind n s) W s := by
  unfold execRewind
  (repeat' split) <;> simp [*]

@[simp] theorem execFront_frames (n : Nat) (s : State) (h1 : Part.mem ∈ W) (h2 : Part.logs ∈ W) (h3 : Part.inbox ∈ W) (h4 : Part.decs ∈ W) (h5 : Part.regs .intg ∈ W) (h6 : Part.regs .chdec ∈ W) (h7 : Part.regs .hut0 ∈ W) :
    Result.frames (execFront n s) W s := by
  unfold execFront
  (repeat' split) <;> simp [*]

@[simp] theorem execReplayEnd_frames (n : Nat) (s : State) (h1 : Part.mem ∈ W) (h2 : Part.logs ∈ W) (h3 : Part.inbox ∈ W) (h4 : Part.decs ∈ W) (h5 : Part.regs .intg ∈ W) (h6 : Part.regs .chdec ∈ W) (h7 : Part.regs .hut0 ∈ W) :
    Result.frames (execReplayEnd n s) W s := by
  unfold execReplayEnd
  (repeat' split) <;> simp [*]

@[simp] theorem State.txContent_except (s : State) (n : Nat) (m : Nat) (tau : Int) (h1 : Part.regs .chdec ∈ W) :
    State.except (State.txContent s n m tau).2 W = s.except W := by
  unfold State.txContent
  dsimp only
  (repeat' split) <;> simp_all [except_foldl]

@[simp] theorem State.txStreams_except (s : State) (n : Nat) (tau : Int) (x1 : Nat) (x2 : Nat) (h1 : Part.regs .chdec ∈ W) :
    State.except (State.txStreams s n tau x1 x2).2 W = s.except W := by
  induction x1 generalizing s x2 with
  | zero => rfl
  | succ n ih => unfold State.txStreams; simp [*]

@[simp] theorem execTxSample_frames (n : Nat) (s : State) (h1 : Part.chans ∈ W) (h2 : Part.decs ∈ W) (h3 : Part.regs .chdec ∈ W) :
    Result.frames (execTxSample n s) W s := by
  simp [execTxSample, *]

@[simp] theorem State.chanEnable_except (s : State) (n : Nat) (h1 : Part.chans ∈ W) (h2 : Part.decs ∈ W) (h3 : Part.regs .chin ∈ W) (h4 : Part.regs .chenc ∈ W) (h5 : Part.regs .chdec ∈ W) :
    (State.chanEnable s n).except W = s.except W := by
  simp [State.chanEnable, *]

@[simp] theorem chanCtrlWrite_except (n : Nat) (w : Word) (s : State) (h1 : Part.logs ∈ W) (h2 : Part.chans ∈ W) (h3 : Part.decs ∈ W) (h4 : Part.regs .intg ∈ W) (h5 : Part.regs .chin ∈ W) (h6 : Part.regs .chenc ∈ W) (h7 : Part.regs .chdec ∈ W) :
    (chanCtrlWrite n w s).except W = s.except W := by
  unfold chanCtrlWrite
  dsimp only
  (repeat' split) <;> simp_all [except_foldl]

@[simp] theorem execChannelEnable_frames (r : Req) (n : Nat) (w : Word) (s : State) (h1 : Part.logs ∈ W) (h2 : Part.chans ∈ W) (h3 : Part.decs ∈ W) (h4 : Part.pci ∈ W) (h5 : Part.regs .pwr ∈ W) (h6 : Part.regs .intg ∈ W) (h7 : Part.regs .chin ∈ W) (h8 : Part.regs .chenc ∈ W) (h9 : Part.regs .chdec ∈ W) :
    Result.frames (execChannelEnable r n w s) W s := by
  simp [execChannelEnable, *]

@[simp] theorem execChannelDisable_frames (r : Req) (n : Nat) (w : Word) (s : State) (h1 : Part.logs ∈ W) (h2 : Part.chans ∈ W) (h3 : Part.decs ∈ W) (h4 : Part.pci ∈ W) (h5 : Part.regs .pwr ∈ W) (h6 : Part.regs .intg ∈ W) (h7 : Part.regs .chin ∈ W) (h8 : Part.regs .chenc ∈ W) (h9 : Part.regs .chdec ∈ W) :
    Result.frames (execChannelDisable r n w s) W s := by
  simp [execChannelDisable, *]

@[simp] theorem chinWrite_except (n : Nat) (off : Nat) (w : Word) (s : State) (h1 : Part.logs ∈ W) (h2 : Part.timers ∈ W) (h3 : Part.chans ∈ W) (h4 : Part.regs .intg ∈ W) (h5 : Part.regs .chin ∈ W) (h6 : Part.regs .chtmr ∈ W) :
    (chinWrite n off w s).except W = s.except W := by
  simp [chinWrite, *]

@[simp] theorem chencWrite_except (n : Nat) (off : Nat) (w : Word) (s : State) (h1 : Part.logs ∈ W) (h2 : Part.regs .intg ∈ W) (h3 : Part.regs .chenc ∈ W) :
    (chencWrite n off w s).except W = s.except W := by
  simp [chencWrite, *]

@[simp] theorem chdecWrite_except (n : Nat) (off : Nat) (w : Word) (s : State) (h1 : Part.logs ∈ W) (h2 : Part.decs ∈ W) (h3 : Part.regs .intg ∈ W) (h4 : Part.regs .chdec ∈ W) :
    (chdecWrite n off w s).except W = s.except W := by
  simp [chdecWrite, *]

@[simp] theorem chanWrite_except (p : Page) (off : Nat) (w : Word) (s : State) (h1 : Part.logs ∈ W) (h2 : Part.timers ∈ W) (h3 : Part.chans ∈ W) (h4 : Part.decs ∈ W) (h5 : Part.regs .intg ∈ W) (h6 : Part.regs .chin ∈ W) (h7 : Part.regs .chenc ∈ W) (h8 : Part.regs .chdec ∈ W) (h9 : Part.regs .chtmr ∈ W) (h10 : Part.regs p.blk ∈ W) :
    (chanWrite p off w s).except W = s.except W := by
  unfold chanWrite
  try dsimp only
  (repeat' split) <;> simp_all [except_foldl]

end Sys2Proof.Machine
end

