-- ==== Sys2Proof/Laws/FrameRings.lean ====
section
/-!
SUPPORT. FrameRings.lean: for each operation of Rings.lean, the parts of the state it may change: it leaves everything outside W as it was,
whenever W holds those parts.
-/

namespace Sys2Proof.Machine

variable {W : List Part}

@[simp] theorem hq_blk (f : Nat) : (hq f).blk = .hq := by simp [hq]

@[simp] theorem State.setHring_except (s : State) (f : Nat) (i : Nat) (r : Ring) (h1 : Part.rings ∈ W) :
    (State.setHring s f i r).except W = s.except W := by
  simp [State.setHring, *]

@[simp] theorem State.ringShadow_except (s : State) (r : Ring) (h1 : Part.hostMem ∈ W) :
    (State.ringShadow s r).except W = s.except W := by
  simp [State.ringShadow, *]

@[simp] theorem State.ringError_except (s : State) (f : Nat) (i : Nat) (code : Nat) (cls : Nat) (st : Nat) (h1 : Part.logs ∈ W) (h2 : Part.rings ∈ W) (h3 : Part.regs .intg ∈ W) (h4 : Part.regs .hq ∈ W) :
    (State.ringError s f i code cls st).except W = s.except W := by
  simp [State.ringError, *]

@[simp] theorem State.ringAdvance_except (s : State) (f : Nat) (i : Nat) (h1 : Part.hostMem ∈ W) (h2 : Part.rings ∈ W) :
    (State.ringAdvance s f i).except W = s.except W := by
  simp [State.ringAdvance, *]

@[simp] theorem ringTakes_except (s : State) (unit : Nat) (st : Nat) (h1 : Part.logs ∈ W) (h2 : Part.hostMem ∈ W) (h3 : Part.rings ∈ W) (h4 : Part.regs .intg ∈ W) (h5 : Part.regs .hq ∈ W) :
    (ringTakes s unit st).except W = s.except W := by
  simp [ringTakes, *]

@[simp] theorem busChecked_frames (f : Nat) (bus : Bus) (s : State) (k : Result) (h1 : Part.logs ∈ W) (h2 : Part.regs .intg ∈ W) (h3 : Result.frames k W s) :
    Result.frames (busChecked f bus s k) W s := by
  unfold busChecked
  split <;> simp [*]

@[simp] theorem doorbellWrite_frames (f : Nat) (off : Nat) (w : Word) (s : State) (h1 : Part.logs ∈ W) (h2 : Part.rings ∈ W) (h3 : Part.regs .intg ∈ W) (h4 : Part.regs .hq ∈ W) :
    Result.frames (doorbellWrite f off w s) W s := by
  simp [doorbellWrite, *]

@[simp] theorem bar2Write_frames (f : Nat) (off : Nat) (size : Nat) (w : Word) (bus : Bus) (s : State) (h1 : Part.logs ∈ W) (h2 : Part.rings ∈ W) (h3 : Part.pci ∈ W) (h4 : Part.regs .intg ∈ W) (h5 : Part.regs .hq ∈ W) :
    Result.frames (bar2Write f off size w bus s) W s := by
  unfold bar2Write
  have hr : (s.received f bus).except W = s.except W := by simp [*]
  refine Result.frames_trans ?_ hr
  apply busChecked_frames _ _ _ _ h1 h4
  (repeat' split) <;> simp [*]

@[simp] theorem execDoorbell_frames (f : Nat) (off : Nat) (w : Word) (bus : Bus) (s : State) (h1 : Part.logs ∈ W) (h2 : Part.rings ∈ W) (h3 : Part.pci ∈ W) (h4 : Part.regs .intg ∈ W) (h5 : Part.regs .hq ∈ W) :
    Result.frames (execDoorbell f off w bus s) W s := by
  simp [execDoorbell, *]

@[simp] theorem bar2Read_frames (f : Nat) (bus : Bus) (s : State) (h1 : Part.pci ∈ W) :
    Result.frames (bar2Read f bus s) W s := by
  unfold bar2Read
  have hr : (s.received f bus).except W = s.except W := by simp [*]
  refine Result.frames_trans ?_ hr
  dsimp only
  (repeat' split) <;> simp [*]

@[simp] theorem ringCfgWrite_except (f : Nat) (w : Word) (s : State) (h1 : Part.logs ∈ W) (h2 : Part.rings ∈ W) (h3 : Part.regs .intg ∈ W) (h4 : Part.regs .hq ∈ W) :
    (ringCfgWrite f w s).except W = s.except W := by
  unfold ringCfgWrite
  (repeat' split) <;> simp [*]

@[simp] theorem execRingCfgWrite_frames (r : Req) (w : Word) (s : State) (h1 : Part.logs ∈ W) (h2 : Part.rings ∈ W) (h3 : Part.pci ∈ W) (h4 : Part.regs .pwr ∈ W) (h5 : Part.regs .intg ∈ W) (h6 : Part.regs .hq ∈ W) :
    Result.frames (execRingCfgWrite r w s) W s := by
  simp [execRingCfgWrite, *]

@[simp] theorem ringRegWrite_except (f : Nat) (off : Nat) (w : Word) (s : State) (h1 : Part.logs ∈ W) (h2 : Part.rings ∈ W) (h3 : Part.regs .intg ∈ W) (h4 : Part.regs .hq ∈ W) :
    (ringRegWrite f off w s).except W = s.except W := by
  unfold ringRegWrite
  (repeat' split) <;> simp [*]

@[simp] theorem State.ringReset_except (s : State) (f : Nat) (i : Nat) (r : Ring) (h1 : Part.hostMem ∈ W) (h2 : Part.rings ∈ W) :
    (State.ringReset s f i r).except W = s.except W := by
  simp [State.ringReset, *]

@[simp] theorem ringCmdWrite_except (f : Nat) (w : Word) (s : State) (h1 : Part.logs ∈ W) (h2 : Part.hostMem ∈ W) (h3 : Part.rings ∈ W) (h4 : Part.regs .intg ∈ W) (h5 : Part.regs .hq ∈ W) :
    (ringCmdWrite f w s).except W = s.except W := by
  unfold ringCmdWrite
  (repeat' split) <;> simp [*]

@[simp] theorem execRingReset_frames (r : Req) (s : State) (h1 : Part.logs ∈ W) (h2 : Part.hostMem ∈ W) (h3 : Part.rings ∈ W) (h4 : Part.pci ∈ W) (h5 : Part.regs .pwr ∈ W) (h6 : Part.regs .intg ∈ W) (h7 : Part.regs .hq ∈ W) :
    Result.frames (execRingReset r s) W s := by
  simp [execRingReset, *]

@[simp] theorem execRingRetry_frames (r : Req) (s : State) (h1 : Part.logs ∈ W) (h2 : Part.hostMem ∈ W) (h3 : Part.rings ∈ W) (h4 : Part.pci ∈ W) (h5 : Part.regs .pwr ∈ W) (h6 : Part.regs .intg ∈ W) (h7 : Part.regs .hq ∈ W) :
    Result.frames (execRingRetry r s) W s := by
  simp [execRingRetry, *]

@[simp] theorem execRingSkip_frames (r : Req) (s : State) (h1 : Part.logs ∈ W) (h2 : Part.hostMem ∈ W) (h3 : Part.rings ∈ W) (h4 : Part.pci ∈ W) (h5 : Part.regs .pwr ∈ W) (h6 : Part.regs .intg ∈ W) (h7 : Part.regs .hq ∈ W) :
    Result.frames (execRingSkip r s) W s := by
  simp [execRingSkip, *]

@[simp] theorem execRingStall_frames (f : Nat) (i : Nat) (s : State) (h1 : Part.rings ∈ W) (h2 : Part.regs .hq ∈ W) :
    Result.frames (execRingStall f i s) W s := by
  unfold execRingStall
  dsimp only
  (repeat' split) <;> simp_all [except_foldl]

end Sys2Proof.Machine
end

