-- ==== Sys2Proof/Laws/FrameQueues.lean ====
section
/-!
SUPPORT. FrameQueues.lean: for each operation of Queues.lean, the parts of the state it may change: it leaves everything outside W as it was,
whenever W holds those parts.
-/

namespace Sys2Proof.Machine

variable {W : List Part}

@[simp] theorem State.setQctx_except (s : State) (p : Nat) (q : Nat) (c : QCtx) (h1 : Part.cabs ∈ W) :
    (State.setQctx s p q c).except W = s.except W := by
  simp [State.setQctx, *]

@[simp] theorem State.qLevel_except (s : State) (p : Nat) (q : Nat) (c : QCtx) (h1 : Part.cabs ∈ W) (h2 : Part.regs .qmgr ∈ W) :
    (State.qLevel s p q c).except W = s.except W := by
  simp [State.qLevel, *]

@[simp] theorem State.qIsolated_except (s : State) (p : Nat) (loc : Nat) (h1 : Part.logs ∈ W) (h2 : Part.regs .intg ∈ W) (h3 : Part.regs .qmgr ∈ W) :
    (State.qIsolated s p loc).except W = s.except W := by
  simp [State.qIsolated, *]

@[simp] theorem State.ctxCheck_except (s : State) (p : Nat) (q : Nat) (x1 : EccRead) (h1 : Part.logs ∈ W) (h2 : Part.faultReports ∈ W) (h3 : Part.cabs ∈ W) (h4 : Part.regs .intg ∈ W) (h5 : Part.regs .qmgr ∈ W) :
    (State.ctxCheck s p q x1).except W = s.except W := by
  unfold State.ctxCheck
  (repeat' split) <;> simp [*]

@[simp] theorem State.mcCheck_except (s : State) (p : Nat) (g : Nat) (x1 : EccRead) (h1 : Part.logs ∈ W) (h2 : Part.faultReports ∈ W) (h3 : Part.cabs ∈ W) (h4 : Part.regs .intg ∈ W) (h5 : Part.regs .qmgr ∈ W) :
    (State.mcCheck s p g x1).except W = s.except W := by
  unfold State.mcCheck
  try dsimp only
  (repeat' split) <;> simp_all [except_foldl]

@[simp] theorem State.qRead_except (s : State) (p : Nat) (q : Nat) (ecc : EccRead) (h1 : Part.draws ∈ W) (h2 : Part.logs ∈ W) (h3 : Part.faultReports ∈ W) (h4 : Part.hutches ∈ W) (h5 : Part.regs .intg ∈ W) (h6 : Part.regs .hut0 ∈ W) (h7 : Part.regs .qmgr ∈ W) (h8 : Part.regs .spad ∈ W) :
    State.except (State.qRead s p q ecc).2 W = s.except W := by
  unfold State.qRead
  dsimp only
  split
  · simp [*]
  · have hr : State.except (s.stackFetch (s.cabKey p) ((s.qctx p q).entryAt (s.qctx p q).head) 32).2 W = s.except W := by simp [*]
    generalize s.stackFetch (s.cabKey p) ((s.qctx p q).entryAt (s.qctx p q).head) 32 = r at hr ⊢
    obtain ⟨o, u⟩ := r
    cases o <;> simp_all

@[simp] theorem State.dequeue_except (s : State) (p : Nat) (q : Nat) (h1 : Part.cabs ∈ W) (h2 : Part.regs .qmgr ∈ W) :
    (State.dequeue s p q).except W = s.except W := by
  simp [State.dequeue, *]

theorem State.qWrite_except (s : State) (p q m : Nat) (h1 : Part.mem ∈ W) (h2 : Part.logs ∈ W) (h4 : Part.regs .intg ∈ W)
    (h5 : Part.regs .hut0 ∈ W) (h6 : Part.regs .spad ∈ W) :
    (∀ t, (State.qWrite s p q m).1 = some t → t.except W = s.except W) ∧ (State.qWrite s p q m).2.except W = s.except W := by
  unfold State.qWrite
  dsimp only
  (repeat' split) <;> simp [*]

@[simp] theorem State.qRefuse_except (s : State) (p : Nat) (q : Nat) (h1 : Part.cabs ∈ W) (h2 : Part.regs .qmgr ∈ W) :
    (State.qRefuse s p q).except W = s.except W := by
  simp [State.qRefuse, *]

@[simp] theorem State.offerWith_except (s : State) (p : Nat) (qid : Nat) (m : Nat) (jrn : Bool) (h1 : Part.mem ∈ W) (h2 : Part.logs ∈ W) (h3 : Part.cabs ∈ W) (h4 : Part.journals ∈ W) (h5 : Part.regs .intg ∈ W) (h6 : Part.regs .hut0 ∈ W) (h7 : Part.regs .qmgr ∈ W) (h8 : Part.regs .spad ∈ W) :
    State.except (State.offerWith s p qid m jrn).2 W = s.except W := by
  unfold State.offerWith
  dsimp only
  have hr := State.qWrite_except s p (qid % 4096) m (by assumption) (by assumption) (by assumption) (by assumption) (by assumption)
  generalize s.qWrite p (qid % 4096) m = r at hr ⊢
  obtain ⟨o, u⟩ := r
  cases o with
  | none => (repeat' split) <;> simp_all
  | some t0 =>
    have ht := hr.1 t0 rfl
    (repeat' split) <;> simp_all

@[simp] theorem State.offer_except (s : State) (p : Nat) (qid : Nat) (m : Nat) (h1 : Part.mem ∈ W) (h2 : Part.logs ∈ W) (h3 : Part.cabs ∈ W) (h4 : Part.journals ∈ W) (h5 : Part.regs .intg ∈ W) (h6 : Part.regs .hut0 ∈ W) (h7 : Part.regs .qmgr ∈ W) (h8 : Part.regs .spad ∈ W) :
    State.except (State.offer s p qid m).2 W = s.except W := by
  simp [State.offer, *]

@[simp] theorem State.answerSend_except (s : State) (src : Nat) (dest : Nat) (key : Nat) (seq : Nat) (st : Nat) (h1 : Part.notices ∈ W) :
    (State.answerSend s src dest key seq st).except W = s.except W := by
  simp [State.answerSend, *]

@[simp] theorem execOffer_frames (p : Nat) (unit : Option Nat) (ecc : EccRead) (s : State) (h1 : Part.mem ∈ W) (h2 : Part.logs ∈ W) (h3 : Part.faultReports ∈ W) (h4 : Part.inbox ∈ W) (h5 : Part.notices ∈ W) (h6 : Part.cabs ∈ W) (h7 : Part.journals ∈ W) (h8 : Part.regs .intg ∈ W) (h9 : Part.regs .hut0 ∈ W) (h10 : Part.regs .qmgr ∈ W) (h11 : Part.regs .spad ∈ W) :
    Result.frames (execOffer p unit ecc s) W s := by
  unfold execOffer
  (repeat' split) <;> simp [*]

@[simp] theorem State.relaunch_except (s : State) (e : Nat) (unit : Nat) (h1 : Part.logs ∈ W) (h2 : Part.traces ∈ W) (h3 : Part.net ∈ W) (h4 : Part.seqs ∈ W) (h5 : Part.sources ∈ W) (h6 : Part.hostMem ∈ W) (h7 : Part.rings ∈ W) (h8 : Part.cabs ∈ W) (h9 : Part.regs .intg ∈ W) (h10 : Part.regs .obs ∈ W) (h11 : Part.regs .hq ∈ W) (h12 : Part.regs .cctl ∈ W) (h13 : Part.regs .qmgr ∈ W) :
    (State.relaunch s e unit).except W = s.except W := by
  simp [State.relaunch, *]

@[simp] theorem State.sendFull_except (s : State) (e : Nat) (x : Send) (h1 : Part.logs ∈ W) (h2 : Part.traces ∈ W) (h3 : Part.net ∈ W) (h4 : Part.seqs ∈ W) (h5 : Part.sources ∈ W) (h6 : Part.hostMem ∈ W) (h7 : Part.rings ∈ W) (h8 : Part.cabs ∈ W) (h9 : Part.regs .intg ∈ W) (h10 : Part.regs .obs ∈ W) (h11 : Part.regs .hq ∈ W) (h12 : Part.regs .cctl ∈ W) (h13 : Part.regs .qmgr ∈ W) :
    (State.sendFull s e x).except W = s.except W := by
  simp [State.sendFull, *]

@[simp] theorem execSendAnswer_frames (i : Nat) (s : State) (h1 : Part.logs ∈ W) (h2 : Part.traces ∈ W) (h3 : Part.net ∈ W) (h4 : Part.seqs ∈ W) (h5 : Part.notices ∈ W) (h6 : Part.sources ∈ W) (h7 : Part.hostMem ∈ W) (h8 : Part.rings ∈ W) (h9 : Part.cabs ∈ W) (h10 : Part.regs .intg ∈ W) (h11 : Part.regs .obs ∈ W) (h12 : Part.regs .hq ∈ W) (h13 : Part.regs .cctl ∈ W) (h14 : Part.regs .qmgr ∈ W) :
    Result.frames (execSendAnswer i s) W s := by
  unfold execSendAnswer
  dsimp only
  (repeat' split) <;> simp_all [except_foldl]

@[simp] theorem execSendRetry_frames (e : Nat) (unit : Nat) (s : State) (h1 : Part.logs ∈ W) (h2 : Part.traces ∈ W) (h3 : Part.net ∈ W) (h4 : Part.seqs ∈ W) (h5 : Part.sources ∈ W) (h6 : Part.hostMem ∈ W) (h7 : Part.rings ∈ W) (h8 : Part.cabs ∈ W) (h9 : Part.regs .intg ∈ W) (h10 : Part.regs .obs ∈ W) (h11 : Part.regs .hq ∈ W) (h12 : Part.regs .cctl ∈ W) (h13 : Part.regs .qmgr ∈ W) :
    Result.frames (execSendRetry e unit s) W s := by
  unfold execSendRetry
  (repeat' split) <;> simp [*]

@[simp] theorem State.ctxRefuse_except (s : State) (p : Nat) (h1 : Part.logs ∈ W) (h2 : Part.regs .intg ∈ W) (h3 : Part.regs .qmgr ∈ W) :
    (State.ctxRefuse s p).except W = s.except W := by
  simp [State.ctxRefuse, *]

@[simp] theorem ctxCreate_except (r : Req) (p : Nat) (ecc : EccRead) (s : State) (h1 : Part.logs ∈ W) (h2 : Part.faultReports ∈ W) (h3 : Part.cabs ∈ W) (h4 : Part.regs .intg ∈ W) (h5 : Part.regs .qmgr ∈ W) :
    (ctxCreate r p ecc s).except W = s.except W := by
  simp [ctxCreate, *]

@[simp] theorem ctxDestroy_except (p : Nat) (ecc : EccRead) (s : State) (h1 : Part.logs ∈ W) (h2 : Part.faultReports ∈ W) (h3 : Part.cabs ∈ W) (h4 : Part.regs .intg ∈ W) (h5 : Part.regs .qmgr ∈ W) :
    (ctxDestroy p ecc s).except W = s.except W := by
  simp [ctxDestroy, *]

@[simp] theorem ctxSetThr_except (p : Nat) (ecc : EccRead) (s : State) (h1 : Part.logs ∈ W) (h2 : Part.faultReports ∈ W) (h3 : Part.cabs ∈ W) (h4 : Part.regs .intg ∈ W) (h5 : Part.regs .qmgr ∈ W) :
    (ctxSetThr p ecc s).except W = s.except W := by
  simp [ctxSetThr, *]

@[simp] theorem ctxFlush_except (p : Nat) (ecc : EccRead) (s : State) (h1 : Part.logs ∈ W) (h2 : Part.faultReports ∈ W) (h3 : Part.cabs ∈ W) (h4 : Part.regs .intg ∈ W) (h5 : Part.regs .qmgr ∈ W) :
    (ctxFlush p ecc s).except W = s.except W := by
  simp [ctxFlush, *]

@[simp] theorem ctxCmdWrite_except (r : Req) (p : Nat) (w : Word) (ecc : EccRead) (s : State) (h1 : Part.logs ∈ W) (h2 : Part.faultReports ∈ W) (h3 : Part.cabs ∈ W) (h4 : Part.regs .intg ∈ W) (h5 : Part.regs .qmgr ∈ W) :
    (ctxCmdWrite r p w ecc s).except W = s.except W := by
  simp [ctxCmdWrite, *]

@[simp] theorem execCtxCreate_frames (r : Req) (p : Checked EccRead) (s : State) (h1 : Part.logs ∈ W) (h2 : Part.faultReports ∈ W) (h3 : Part.cabs ∈ W) (h4 : Part.pci ∈ W) (h5 : Part.regs .pwr ∈ W) (h6 : Part.regs .intg ∈ W) (h7 : Part.regs .qmgr ∈ W) :
    Result.frames (execCtxCreate r p s) W s := by
  simp [execCtxCreate, *]

@[simp] theorem execCtxDestroy_frames (r : Req) (p : Checked EccRead) (s : State) (h1 : Part.logs ∈ W) (h2 : Part.faultReports ∈ W) (h3 : Part.cabs ∈ W) (h4 : Part.pci ∈ W) (h5 : Part.regs .pwr ∈ W) (h6 : Part.regs .intg ∈ W) (h7 : Part.regs .qmgr ∈ W) :
    Result.frames (execCtxDestroy r p s) W s := by
  simp [execCtxDestroy, *]

@[simp] theorem execCtxSetThr_frames (r : Req) (p : Checked EccRead) (s : State) (h1 : Part.logs ∈ W) (h2 : Part.faultReports ∈ W) (h3 : Part.cabs ∈ W) (h4 : Part.pci ∈ W) (h5 : Part.regs .pwr ∈ W) (h6 : Part.regs .intg ∈ W) (h7 : Part.regs .qmgr ∈ W) :
    Result.frames (execCtxSetThr r p s) W s := by
  simp [execCtxSetThr, *]

@[simp] theorem execCtxFlush_frames (r : Req) (p : Checked EccRead) (s : State) (h1 : Part.logs ∈ W) (h2 : Part.faultReports ∈ W) (h3 : Part.cabs ∈ W) (h4 : Part.pci ∈ W) (h5 : Part.regs .pwr ∈ W) (h6 : Part.regs .intg ∈ W) (h7 : Part.regs .qmgr ∈ W) :
    Result.frames (execCtxFlush r p s) W s := by
  simp [execCtxFlush, *]

@[simp] theorem ctxRead_except (p : Nat) (ecc : EccRead) (s : State) (h1 : Part.logs ∈ W) (h2 : Part.faultReports ∈ W) (h3 : Part.cabs ∈ W) (h4 : Part.regs .intg ∈ W) (h5 : Part.regs .qmgr ∈ W) :
    State.except (ctxRead p ecc s).2 W = s.except W := by
  simp [ctxRead, *]

@[simp] theorem execQmgrCtxRead_frames (r : Req) (p : Checked EccRead) (s : State) (h1 : Part.logs ∈ W) (h2 : Part.faultReports ∈ W) (h3 : Part.cabs ∈ W) (h4 : Part.pci ∈ W) (h5 : Part.regs .intg ∈ W) (h6 : Part.regs .qmgr ∈ W) :
    Result.frames (execQmgrCtxRead r p s) W s := by
  simp [execQmgrCtxRead, *]

@[simp] theorem headRead_except (p : Nat) (ctx : EccRead) (ecc : EccRead) (s : State) (h1 : Part.draws ∈ W) (h2 : Part.logs ∈ W) (h3 : Part.faultReports ∈ W) (h4 : Part.cabs ∈ W) (h5 : Part.hutches ∈ W) (h6 : Part.regs .intg ∈ W) (h7 : Part.regs .hut0 ∈ W) (h8 : Part.regs .qmgr ∈ W) (h9 : Part.regs .spad ∈ W) :
    State.except (headRead p ctx ecc s).2 W = s.except W := by
  unfold headRead
  dsimp only
  (repeat' split) <;> simp_all [except_foldl]

@[simp] theorem execQmgrHeadRead_frames (r : Req) (p : Nat) (ecc : QmReads) (s : State) (h1 : Part.draws ∈ W) (h2 : Part.logs ∈ W) (h3 : Part.faultReports ∈ W) (h4 : Part.cabs ∈ W) (h5 : Part.hutches ∈ W) (h6 : Part.pci ∈ W) (h7 : Part.regs .intg ∈ W) (h8 : Part.regs .hut0 ∈ W) (h9 : Part.regs .qmgr ∈ W) (h10 : Part.regs .spad ∈ W) :
    Result.frames (execQmgrHeadRead r p ecc s) W s := by
  simp [execQmgrHeadRead, *]

@[simp] theorem State.portPut_except (s : State) (p : Nat) (bind : Nat) (m : Nat) (h1 : Part.cabs ∈ W) :
    (State.portPut s p bind m).except W = s.except W := by
  simp [State.portPut, *]

@[simp] theorem execPortDrain_frames (p : Nat) (q : Nat) (ecc : QmReads) (s : State) (h1 : Part.draws ∈ W) (h2 : Part.logs ∈ W) (h3 : Part.faultReports ∈ W) (h4 : Part.cabs ∈ W) (h5 : Part.hutches ∈ W) (h6 : Part.regs .intg ∈ W) (h7 : Part.regs .hut0 ∈ W) (h8 : Part.regs .qmgr ∈ W) (h9 : Part.regs .spad ∈ W) :
    Result.frames (execPortDrain p q ecc s) W s := by
  simp [execPortDrain, *]

@[simp] theorem State.offerSnap_except (s : State) (src : Nat) (cause : Nat) (pos : Nat) (unit : Nat) (h1 : Part.freeze ∈ W) (h2 : Part.regs .obs ∈ W) :
    (State.offerSnap s src cause pos unit).except W = s.except W := by
  simp [State.offerSnap, *]

@[simp] theorem execHang_frames (p : Nat) (unit : Nat) (s : State) (h1 : Part.logs ∈ W) (h2 : Part.freeze ∈ W) (h3 : Part.cabs ∈ W) (h4 : Part.regs .intg ∈ W) (h5 : Part.regs .obs ∈ W) (h6 : Part.regs .cctl ∈ W) :
    Result.frames (execHang p unit s) W s := by
  unfold execHang
  (repeat' split) <;> simp [*]

@[simp] theorem hostSignalWrite_except (p : Nat) (w : Word) (s : State) (h1 : Part.regs .cctl ∈ W) :
    (hostSignalWrite p w s).except W = s.except W := by
  simp [hostSignalWrite, *]

@[simp] theorem execHostSignal_frames (r : Req) (p : Nat) (w : Word) (s : State) (h1 : Part.logs ∈ W) (h2 : Part.pci ∈ W) (h3 : Part.regs .pwr ∈ W) (h4 : Part.regs .intg ∈ W) (h5 : Part.regs .cctl ∈ W) :
    Result.frames (execHostSignal r p w s) W s := by
  simp [execHostSignal, *]

end Sys2Proof.Machine
end

