-- ==== Sys2Proof/Laws/FrameHostRing.lean ====
section
/-!
SUPPORT. FrameHostRing.lean: for each operation of HostRing.lean, the parts of the state it may change: it leaves everything outside W as it was,
whenever W holds those parts.
-/

namespace Sys2Proof.Machine

variable {W : List Part}

@[simp] theorem execRingFetch_frames (f : Nat) (i : Nat) (s : State) (h1 : Part.rings ∈ W) :
    Result.frames (execRingFetch f i s) W s := by
  simp [execRingFetch, *]

@[simp] theorem State.ringOffer_except (s : State) (f : Nat) (i : Nat) (entry : Nat) (h1 : Part.logs ∈ W) (h2 : Part.traces ∈ W) (h3 : Part.net ∈ W) (h4 : Part.seqs ∈ W) (h5 : Part.sources ∈ W) (h6 : Part.hostMem ∈ W) (h7 : Part.rings ∈ W) (h8 : Part.cabs ∈ W) (h9 : Part.regs .intg ∈ W) (h10 : Part.regs .obs ∈ W) (h11 : Part.regs .hq ∈ W) (h12 : Part.regs .cctl ∈ W) (h13 : Part.regs .qmgr ∈ W) :
    (State.ringOffer s f i entry).except W = s.except W := by
  simp [State.ringOffer, *]

@[simp] theorem State.ringWord_except (s : State) (f : Nat) (i : Nat) (w : Nat) (h1 : Part.logs ∈ W) (h2 : Part.net ∈ W) (h3 : Part.seqs ∈ W) (h4 : Part.sources ∈ W) (h5 : Part.hostMem ∈ W) (h6 : Part.rings ∈ W) (h7 : Part.regs .plc ∈ W) (h8 : Part.regs .intg ∈ W) (h9 : Part.regs .hq ∈ W) :
    (State.ringWord s f i w).except W = s.except W := by
  simp [State.ringWord, *]

@[simp] theorem State.ringRead_except (s : State) (f : Nat) (i : Nat) (d : DmaRead) (h1 : Part.logs ∈ W) (h2 : Part.traces ∈ W) (h3 : Part.net ∈ W) (h4 : Part.seqs ∈ W) (h5 : Part.sources ∈ W) (h6 : Part.hostMem ∈ W) (h7 : Part.rings ∈ W) (h8 : Part.cabs ∈ W) (h9 : Part.regs .plc ∈ W) (h10 : Part.regs .intg ∈ W) (h11 : Part.regs .obs ∈ W) (h12 : Part.regs .hq ∈ W) (h13 : Part.regs .cctl ∈ W) (h14 : Part.regs .qmgr ∈ W) :
    (State.ringRead s f i d).except W = s.except W := by
  unfold State.ringRead
  (repeat' split) <;> simp [*]

@[simp] theorem State.ringPut_except (s : State) (f : Nat) (i : Nat) (v : Nat) (h1 : Part.hostMem ∈ W) (h2 : Part.rings ∈ W) :
    (State.ringPut s f i v).except W = s.except W := by
  simp [State.ringPut, *]

@[simp] theorem execRingWrite_frames (f : Nat) (i : Nat) (ecc : QmReads) (s : State) (h1 : Part.draws ∈ W) (h2 : Part.logs ∈ W) (h3 : Part.faultReports ∈ W) (h4 : Part.hostMem ∈ W) (h5 : Part.rings ∈ W) (h6 : Part.cabs ∈ W) (h7 : Part.hutches ∈ W) (h8 : Part.regs .intg ∈ W) (h9 : Part.regs .hq ∈ W) (h10 : Part.regs .hut0 ∈ W) (h11 : Part.regs .qmgr ∈ W) (h12 : Part.regs .spad ∈ W) :
    Result.frames (execRingWrite f i ecc s) W s := by
  unfold execRingWrite
  dsimp only
  (repeat' split) <;> simp_all [except_foldl]

end Sys2Proof.Machine
end

