-- ==== Sys2Proof/Laws/FrameTrestle.lean ====
section
/-!
SUPPORT. FrameTrestle.lean: for each operation of Trestle.lean, the parts of the state it may change: it leaves everything outside W as it was,
whenever W holds those parts.
-/

namespace Sys2Proof.Machine

variable {W : List Part}

@[simp] theorem State.setWin_except (s : State) (p : Nat) (t : Nat) (l : List TDesc) (h1 : Part.cabs ∈ W) :
    (State.setWin s p t l).except W = s.except W := by
  simp [State.setWin, *]

@[simp] theorem State.trsDone_except (s : State) (p : Nat) (t : Nat) (d : Nat) (status : Nat) (h1 : Part.logs ∈ W) (h2 : Part.traces ∈ W) (h3 : Part.net ∈ W) (h4 : Part.seqs ∈ W) (h5 : Part.sources ∈ W) (h6 : Part.cabs ∈ W) (h7 : Part.regs .intg ∈ W) (h8 : Part.regs .obs ∈ W) (h9 : Part.regs .cctl ∈ W) (h10 : Part.regs .qmgr ∈ W) (h11 : Part.regs .trs ∈ W) :
    (State.trsDone s p t d status).except W = s.except W := by
  simp [State.trsDone, *]

@[simp] theorem State.trsRefuse_except (s : State) (p : Nat) (t : Nat) (d : Nat) (code : Nat) (loc : Nat) (h1 : Part.logs ∈ W) (h2 : Part.traces ∈ W) (h3 : Part.net ∈ W) (h4 : Part.seqs ∈ W) (h5 : Part.sources ∈ W) (h6 : Part.cabs ∈ W) (h7 : Part.regs .intg ∈ W) (h8 : Part.regs .obs ∈ W) (h9 : Part.regs .cctl ∈ W) (h10 : Part.regs .qmgr ∈ W) (h11 : Part.regs .trs ∈ W) :
    (State.trsRefuse s p t d code loc).except W = s.except W := by
  simp [State.trsRefuse, *]

@[simp] theorem State.trsShow_except (s : State) (p : Nat) (t : Nat) (h1 : Part.regs .trs ∈ W) :
    (State.trsShow s p t).except W = s.except W := by
  simp [State.trsShow, *]

@[simp] theorem execDescriptorEntry_frames (p : Nat) (t : Nat) (s : State) (h1 : Part.logs ∈ W) (h2 : Part.traces ∈ W) (h3 : Part.net ∈ W) (h4 : Part.seqs ∈ W) (h5 : Part.sources ∈ W) (h6 : Part.cabs ∈ W) (h7 : Part.regs .intg ∈ W) (h8 : Part.regs .obs ∈ W) (h9 : Part.regs .cctl ∈ W) (h10 : Part.regs .qmgr ∈ W) (h11 : Part.regs .trs ∈ W) (h12 : Part.regs .hzn ∈ W) :
    Result.frames (execDescriptorEntry p t s) W s := by
  unfold execDescriptorEntry
  (repeat' split) <;> simp [*]

@[simp] theorem State.trsSet_except (s : State) (p : Nat) (t : Nat) (x : TDesc) (y : TDesc) (h1 : Part.cabs ∈ W) :
    (State.trsSet s p t x y).except W = s.except W := by
  simp [State.trsSet, *]

@[simp] theorem State.trsFaulted_except (s : State) (p : Nat) (t : Nat) (code : Nat) (h1 : Part.faultReports ∈ W) (h2 : Part.regs .trs ∈ W) :
    (State.trsFaulted s p t code).except W = s.except W := by
  simp [State.trsFaulted, *]

@[simp] theorem State.trsFault_except (s : State) (p : Nat) (t : Nat) (code : Nat) (x : TDesc) (h1 : Part.faultReports ∈ W) (h2 : Part.cabs ∈ W) (h3 : Part.regs .trs ∈ W) :
    (State.trsFault s p t code x).except W = s.except W := by
  simp [State.trsFault, *]

@[simp] theorem State.trsUncorr_except (s : State) (p : Nat) (t : Nat) (off : Nat) (h1 : Part.logs ∈ W) (h2 : Part.faultReports ∈ W) (h3 : Part.cabs ∈ W) (h4 : Part.regs .intg ∈ W) (h5 : Part.regs .trs ∈ W) :
    (State.trsUncorr s p t off).except W = s.except W := by
  simp [State.trsUncorr, *]

@[simp] theorem State.trsEcc_except (s : State) (p : Nat) (t : Nat) (x : TDesc) (x1 : WordEcc) (h1 : Part.logs ∈ W) (h2 : Part.faultReports ∈ W) (h3 : Part.cabs ∈ W) (h4 : Part.regs .intg ∈ W) (h5 : Part.regs .trs ∈ W) :
    (State.trsEcc s p t x x1).2.except W = s.except W := by
  unfold State.trsEcc
  (repeat' split) <;> simp [*]

@[simp] theorem trsStart_frames (p : Nat) (t : Nat) (ecc : WordEcc) (f : Nat → Bool) (s : State) (k : TDesc → State → State) (h1 : Part.logs ∈ W) (h2 : Part.faultReports ∈ W) (h3 : Part.cabs ∈ W) (h4 : Part.regs .intg ∈ W) (h5 : Part.regs .spad ∈ W) (h6 : Part.regs .trs ∈ W) (h7 : ∀ x u, (k x u).except W = u.except W) :
    Result.frames (trsStart p t ecc f s k) W s := by
  unfold trsStart
  split
  · simp
  · split
    · simp
    · next x _ =>
      split
      · simp [*]
      · have hr : State.except (s.trsEcc p t x ecc).2 W = s.except W := by simp [*]
        generalize s.trsEcc p t x ecc = r at hr ⊢
        obtain ⟨o, u⟩ := r
        cases o <;> simp_all

@[simp] theorem State.trsFinish_except (s : State) (p : Nat) (t : Nat) (x : TDesc) (h1 : Part.cabs ∈ W) :
    (State.trsFinish s p t x).except W = s.except W := by
  simp [State.trsFinish, *]

@[simp] theorem State.trsLoad_except (s : State) (p : Nat) (t : Nat) (x1 : TDesc) (src : Nat) (n : Nat) (k : Nat → State → State) (h1 : Part.draws ∈ W) (h2 : Part.logs ∈ W) (h3 : Part.faultReports ∈ W) (h4 : Part.cabs ∈ W) (h5 : Part.hutches ∈ W) (h6 : Part.regs .intg ∈ W) (h7 : Part.regs .hut0 ∈ W) (h8 : Part.regs .spad ∈ W) (h9 : Part.regs .trs ∈ W) (h10 : ∀ v u, (k v u).except W = u.except W) :
    (State.trsLoad s p t x1 src n k).except W = s.except W := by
  unfold State.trsLoad
  split
  · simp [*]
  · have hr : State.except (s.sharedRead p src n).2 W = s.except W := by simp [*]
    generalize s.sharedRead p src n = r at hr ⊢
    obtain ⟨o, u⟩ := r
    cases o <;> simp_all

@[simp] theorem State.trsCopy_except (s : State) (p : Nat) (t : Nat) (x1 : TDesc) (src : Nat) (dst : Nat) (n : Nat) (h1 : Part.draws ∈ W) (h2 : Part.mem ∈ W) (h3 : Part.logs ∈ W) (h4 : Part.faultReports ∈ W) (h5 : Part.cabs ∈ W) (h6 : Part.hutches ∈ W) (h7 : Part.regs .intg ∈ W) (h8 : Part.regs .hut0 ∈ W) (h9 : Part.regs .spad ∈ W) (h10 : Part.regs .trs ∈ W) :
    (State.trsCopy s p t x1 src dst n).except W = s.except W := by
  unfold State.trsCopy
  have hr : State.except (s.sharedRead p src n).2 W = s.except W := by simp [*]
  generalize s.sharedRead p src n = r at hr ⊢
  obtain ⟨o, u⟩ := r
  cases o <;> simp_all

@[simp] theorem execLoadW_frames (p : Nat) (t : Nat) (ecc : WordEcc) (s : State) (h1 : Part.draws ∈ W) (h2 : Part.mem ∈ W) (h3 : Part.logs ∈ W) (h4 : Part.faultReports ∈ W) (h5 : Part.cabs ∈ W) (h6 : Part.hutches ∈ W) (h7 : Part.regs .intg ∈ W) (h8 : Part.regs .hut0 ∈ W) (h9 : Part.regs .spad ∈ W) (h10 : Part.regs .trs ∈ W) :
    Result.frames (execLoadW p t ecc s) W s := by
  simp [execLoadW, *]

@[simp] theorem execLoadCb_frames (p : Nat) (t : Nat) (ecc : WordEcc) (s : State) (h1 : Part.draws ∈ W) (h2 : Part.mem ∈ W) (h3 : Part.logs ∈ W) (h4 : Part.faultReports ∈ W) (h5 : Part.cabs ∈ W) (h6 : Part.hutches ∈ W) (h7 : Part.regs .intg ∈ W) (h8 : Part.regs .hut0 ∈ W) (h9 : Part.regs .spad ∈ W) (h10 : Part.regs .trs ∈ W) :
    Result.frames (execLoadCb p t ecc s) W s := by
  simp [execLoadCb, *]

@[simp] theorem execLoadRescale_frames (p : Nat) (t : Nat) (ecc : WordEcc) (s : State) (h1 : Part.draws ∈ W) (h2 : Part.mem ∈ W) (h3 : Part.logs ∈ W) (h4 : Part.faultReports ∈ W) (h5 : Part.cabs ∈ W) (h6 : Part.hutches ∈ W) (h7 : Part.regs .intg ∈ W) (h8 : Part.regs .hut0 ∈ W) (h9 : Part.regs .spad ∈ W) (h10 : Part.regs .trs ∈ W) :
    Result.frames (execLoadRescale p t ecc s) W s := by
  simp [execLoadRescale, *]

@[simp] theorem State.quantRow_except (s : State) (p : Nat) (t : Nat) (dst : Nat) (scales : Nat) (i : Nat) (k : Nat) (f : Fmt) (raw : List Nat) (h1 : Part.mem ∈ W) (h2 : Part.regs .trs ∈ W) :
    (State.quantRow s p t dst scales i k f raw).except W = s.except W := by
  simp [State.quantRow, *]

@[simp] theorem execLoadAct_frames (p : Nat) (t : Nat) (ecc : WordEcc) (s : State) (h1 : Part.draws ∈ W) (h2 : Part.mem ∈ W) (h3 : Part.logs ∈ W) (h4 : Part.faultReports ∈ W) (h5 : Part.cabs ∈ W) (h6 : Part.hutches ∈ W) (h7 : Part.regs .intg ∈ W) (h8 : Part.regs .hut0 ∈ W) (h9 : Part.regs .spad ∈ W) (h10 : Part.regs .trs ∈ W) :
    Result.frames (execLoadAct p t ecc s) W s := by
  unfold execLoadAct
  refine trsStart_frames _ _ _ _ _ _ (by assumption) (by assumption) (by assumption) (by assumption) (by assumption) (by assumption) (fun x u => ?_)
  dsimp only
  split
  · refine State.trsLoad_except _ _ _ _ _ _ _ (by assumption) (by assumption) (by assumption) (by assumption) (by assumption) (by assumption) (by assumption) (by assumption) (by assumption) (fun v u => ?_)
    exact (except_foldl _ (fun v e => by simp [*]) _ _).trans (by simp [*])
  · simp [*]

@[simp] theorem State.trsCount_except (s : State) (p : Nat) (t : Nat) (c : Cnt) (h1 : Part.regs .trs ∈ W) :
    (State.trsCount s p t c).except W = s.except W := by
  simp [State.trsCount, *]

@[simp] theorem State.runBlock_except (s : State) (p : Nat) (t : Nat) (d : Nat) (h1 : Part.mem ∈ W) (h2 : Part.regs .trs ∈ W) :
    (State.runBlock s p t d).except W = s.except W := by
  simp [State.runBlock, except_foldl, *]

@[simp] theorem execRun_frames (p : Nat) (t : Nat) (ecc : WordEcc) (chk : Option Nat) (s : State) (h1 : Part.mem ∈ W) (h2 : Part.logs ∈ W) (h3 : Part.faultReports ∈ W) (h4 : Part.cabs ∈ W) (h5 : Part.regs .intg ∈ W) (h6 : Part.regs .spad ∈ W) (h7 : Part.regs .trs ∈ W) :
    Result.frames (execRun p t ecc chk s) W s := by
  unfold execRun
  (repeat' split) <;> simp [*]

@[simp] theorem execReduceOutCopy_frames (p : Nat) (t : Nat) (ecc : WordEcc) (s : State) (h1 : Part.mem ∈ W) (h2 : Part.logs ∈ W) (h3 : Part.faultReports ∈ W) (h4 : Part.cabs ∈ W) (h5 : Part.hutches ∈ W) (h6 : Part.journals ∈ W) (h7 : Part.regs .intg ∈ W) (h8 : Part.regs .hut0 ∈ W) (h9 : Part.regs .spad ∈ W) (h10 : Part.regs .trs ∈ W) :
    Result.frames (execReduceOutCopy p t ecc s) W s := by
  unfold execReduceOutCopy
  refine trsStart_frames _ _ _ _ _ _ (by assumption) (by assumption) (by assumption) (by assumption) (by assumption) (by assumption) (fun x u => ?_)
  dsimp only
  split <;> simp [*]

@[simp] theorem State.redSend_except (s : State) (p : Nat) (t : Nat) (d : Nat) (elem : Nat) (h1 : Part.mem ∈ W) (h2 : Part.net ∈ W) (h3 : Part.journals ∈ W) (h4 : Part.regs .trs ∈ W) :
    (State.redSend s p t d elem).except W = s.except W := by
  simp [State.redSend, *]

@[simp] theorem execReduceOutReduce_frames (p : Nat) (t : Nat) (ecc : WordEcc) (s : State) (h1 : Part.mem ∈ W) (h2 : Part.logs ∈ W) (h3 : Part.faultReports ∈ W) (h4 : Part.net ∈ W) (h5 : Part.cabs ∈ W) (h6 : Part.journals ∈ W) (h7 : Part.regs .intg ∈ W) (h8 : Part.regs .spad ∈ W) (h9 : Part.regs .trs ∈ W) :
    Result.frames (execReduceOutReduce p t ecc s) W s := by
  unfold execReduceOutReduce
  refine trsStart_frames _ _ _ _ _ _ (by assumption) (by assumption) (by assumption) (by assumption) (by assumption) (by assumption) (fun x u => ?_)
  dsimp only
  split
  · exact (except_foldl _ (fun v e => by simp [*]) _ _).trans (by simp [*])
  · simp [*]

@[simp] theorem State.redTake_except (s : State) (p : Nat) (t : Nat) (inst : Nat) (pl : Nat) (x1 : TDesc) (h1 : Part.mem ∈ W) (h2 : Part.logs ∈ W) (h3 : Part.faultReports ∈ W) (h4 : Part.cabs ∈ W) (h5 : Part.regs .intg ∈ W) (h6 : Part.regs .spad ∈ W) (h7 : Part.regs .trs ∈ W) :
    (State.redTake s p t inst pl x1).except W = s.except W := by
  unfold State.redTake
  try dsimp only
  (repeat' split) <;> simp_all [except_foldl]

@[simp] theorem State.redOrphan_except (s : State) (p : Nat) (tag : Nat) (pl : Nat) (h1 : Part.logs ∈ W) (h2 : Part.traces ∈ W) (h3 : Part.net ∈ W) (h4 : Part.seqs ∈ W) (h5 : Part.sources ∈ W) (h6 : Part.cabs ∈ W) (h7 : Part.regs .intg ∈ W) (h8 : Part.regs .obs ∈ W) (h9 : Part.regs .cctl ∈ W) (h10 : Part.regs .qmgr ∈ W) :
    (State.redOrphan s p tag pl).except W = s.except W := by
  simp [State.redOrphan, *]

@[simp] theorem execRedDownProgramResult_frames (p : Nat) (s : State) (h1 : Part.mem ∈ W) (h2 : Part.logs ∈ W) (h3 : Part.faultReports ∈ W) (h4 : Part.traces ∈ W) (h5 : Part.net ∈ W) (h6 : Part.inbox ∈ W) (h7 : Part.seqs ∈ W) (h8 : Part.sources ∈ W) (h9 : Part.cabs ∈ W) (h10 : Part.journals ∈ W) (h11 : Part.regs .intg ∈ W) (h12 : Part.regs .obs ∈ W) (h13 : Part.regs .cctl ∈ W) (h14 : Part.regs .qmgr ∈ W) (h15 : Part.regs .spad ∈ W) (h16 : Part.regs .trs ∈ W) :
    Result.frames (execRedDownProgramResult p s) W s := by
  unfold execRedDownProgramResult
  dsimp only
  (repeat' split) <;> simp_all [except_foldl]

@[simp] theorem execEmitEvents_frames (p : Nat) (t : Nat) (ecc : WordEcc) (s : State) (h1 : Part.logs ∈ W) (h2 : Part.faultReports ∈ W) (h3 : Part.traces ∈ W) (h4 : Part.net ∈ W) (h5 : Part.seqs ∈ W) (h6 : Part.sources ∈ W) (h7 : Part.cabs ∈ W) (h8 : Part.regs .plc ∈ W) (h9 : Part.regs .intg ∈ W) (h10 : Part.regs .obs ∈ W) (h11 : Part.regs .cctl ∈ W) (h12 : Part.regs .qmgr ∈ W) (h13 : Part.regs .spad ∈ W) (h14 : Part.regs .trs ∈ W) (h15 : Part.regs .xpnd ∈ W) :
    Result.frames (execEmitEvents p t ecc s) W s := by
  simp (maxDischargeDepth := 40) [execEmitEvents, except_foldl, *]

@[simp] theorem execFence_frames (p : Nat) (t : Nat) (s : State) (h1 : Part.logs ∈ W) (h2 : Part.traces ∈ W) (h3 : Part.net ∈ W) (h4 : Part.seqs ∈ W) (h5 : Part.sources ∈ W) (h6 : Part.cabs ∈ W) (h7 : Part.regs .intg ∈ W) (h8 : Part.regs .obs ∈ W) (h9 : Part.regs .cctl ∈ W) (h10 : Part.regs .qmgr ∈ W) (h11 : Part.regs .trs ∈ W) :
    Result.frames (execFence p t s) W s := by
  unfold execFence
  (repeat' split) <;> simp [*]

@[simp] theorem State.floorRelease_except (s : State) (p : Nat) (h1 : Part.cabs ∈ W) (h2 : Part.regs .hzn ∈ W) :
    (State.floorRelease s p).except W = s.except W := by
  unfold State.floorRelease
  (repeat' split) <;> simp [*]

@[simp] theorem execDescriptorComplete_frames (p : Nat) (t : Nat) (s : State) (h1 : Part.logs ∈ W) (h2 : Part.traces ∈ W) (h3 : Part.net ∈ W) (h4 : Part.seqs ∈ W) (h5 : Part.sources ∈ W) (h6 : Part.cabs ∈ W) (h7 : Part.regs .intg ∈ W) (h8 : Part.regs .obs ∈ W) (h9 : Part.regs .cctl ∈ W) (h10 : Part.regs .qmgr ∈ W) (h11 : Part.regs .trs ∈ W) (h12 : Part.regs .hzn ∈ W) :
    Result.frames (execDescriptorComplete p t s) W s := by
  unfold execDescriptorComplete
  (repeat' split) <;> simp [*]

@[simp] theorem trsCtrlWrite_except (r : Req) (p : Nat) (t : Nat) (w : Word) (s : State) (h1 : Part.logs ∈ W) (h2 : Part.regs .intg ∈ W) (h3 : Part.regs .trs ∈ W) :
    (trsCtrlWrite r p t w s).except W = s.except W := by
  simp [trsCtrlWrite, *]

@[simp] theorem execTrestlePause_frames (r : Req) (p : Nat) (t : Nat) (w : Word) (s : State) (h1 : Part.logs ∈ W) (h2 : Part.pci ∈ W) (h3 : Part.regs .pwr ∈ W) (h4 : Part.regs .intg ∈ W) (h5 : Part.regs .trs ∈ W) :
    Result.frames (execTrestlePause r p t w s) W s := by
  simp [execTrestlePause, *]

@[simp] theorem State.trsWinNext_except (s : State) (p : Nat) (t : Nat) (h1 : Part.regs .trs ∈ W) :
    (State.trsWinNext s p t).except W = s.except W := by
  simp [State.trsWinNext, *]

@[simp] theorem trsWinWrite_except (p : Nat) (t : Nat) (w : Word) (s : State) (h1 : Part.mem ∈ W) (h2 : Part.logs ∈ W) (h3 : Part.regs .intg ∈ W) (h4 : Part.regs .spad ∈ W) (h5 : Part.regs .trs ∈ W) :
    (trsWinWrite p t w s).except W = s.except W := by
  simp [trsWinWrite, *]

@[simp] theorem trsWinRead_except (p : Nat) (t : Nat) (ecc : WordEcc) (s : State) (h1 : Part.draws ∈ W) (h2 : Part.logs ∈ W) (h3 : Part.faultReports ∈ W) (h4 : Part.cabs ∈ W) (h5 : Part.regs .intg ∈ W) (h6 : Part.regs .spad ∈ W) (h7 : Part.regs .trs ∈ W) :
    (trsWinRead p t ecc s).2.except W = s.except W := by
  unfold trsWinRead
  dsimp only
  (repeat' split) <;> simp_all [except_foldl]

@[simp] theorem execTrsWinData_frames (r : Req) (p : Nat) (t : Nat) (w : Option Word) (ecc : WordEcc) (s : State) (h1 : Part.draws ∈ W) (h2 : Part.mem ∈ W) (h3 : Part.logs ∈ W) (h4 : Part.faultReports ∈ W) (h5 : Part.cabs ∈ W) (h6 : Part.pci ∈ W) (h7 : Part.regs .pwr ∈ W) (h8 : Part.regs .intg ∈ W) (h9 : Part.regs .spad ∈ W) (h10 : Part.regs .trs ∈ W) :
    Result.frames (execTrsWinData r p t w ecc s) W s := by
  unfold execTrsWinData
  (repeat' split) <;> simp [*]

end Sys2Proof.Machine
end

