-- ==== Sys2Proof/Laws/FramePeek.lean ====
section
/-!
SUPPORT. FramePeek.lean: for each operation of Peek.lean, the parts of the state it may change: it leaves everything outside W as it was,
whenever W holds those parts.
-/

namespace Sys2Proof.Machine

variable {W : List Part}

@[simp] theorem State.setRoute_except (s : State) (p : Page) (w : Word) (h1 : Part.routes ∈ W) :
    (State.setRoute s p w).except W = s.except W := by
  simp [State.setRoute, *]

@[simp] theorem readRegister_except (r : Req) (p : Page) (off : Nat) (s : State) (h1 : Part.latches ∈ W) :
    (readRegister r p off s).2.except W = s.except W := by
  unfold readRegister
  (repeat' split) <;> simp [*]

end Sys2Proof.Machine
end

