-- ==== Sys2Proof/Laws/FrameObserve.lean ====
section
/-!
SUPPORT. FrameObserve.lean: for each operation of Observe.lean, the parts of the state it may change: it leaves everything outside W as it was,
whenever W holds those parts.
-/

namespace Sys2Proof.Machine

variable {W : List Part}

@[simp] theorem State.freezeArm_except (s : State) (h1 : Part.logs ∈ W) (h2 : Part.freeze ∈ W) (h3 : Part.regs .intg ∈ W) (h4 : Part.regs .obs ∈ W) :
    (State.freezeArm s).except W = s.except W := by
  simp [State.freezeArm, *]

@[simp] theorem State.thaw_except (s : State) (h1 : Part.logs ∈ W) (h2 : Part.freeze ∈ W) (h3 : Part.regs .intg ∈ W) (h4 : Part.regs .obs ∈ W) :
    (State.thaw s).except W = s.except W := by
  simp [State.thaw, *]

@[simp] theorem freezeCtrlWrite_except (w : Word) (s : State) (h1 : Part.logs ∈ W) (h2 : Part.freeze ∈ W) (h3 : Part.regs .intg ∈ W) (h4 : Part.regs .obs ∈ W) :
    (freezeCtrlWrite w s).except W = s.except W := by
  simp [freezeCtrlWrite, *]

@[simp] theorem execFreezeArm_frames (r : Req) (w : Word) (s : State) (h1 : Part.logs ∈ W) (h2 : Part.freeze ∈ W) (h3 : Part.pci ∈ W) (h4 : Part.regs .pwr ∈ W) (h5 : Part.regs .intg ∈ W) (h6 : Part.regs .obs ∈ W) :
    Result.frames (execFreezeArm r w s) W s := by
  simp [execFreezeArm, *]

@[simp] theorem execThaw_frames (r : Req) (w : Word) (s : State) (h1 : Part.logs ∈ W) (h2 : Part.freeze ∈ W) (h3 : Part.pci ∈ W) (h4 : Part.regs .pwr ∈ W) (h5 : Part.regs .intg ∈ W) (h6 : Part.regs .obs ∈ W) :
    Result.frames (execThaw r w s) W s := by
  simp [execThaw, *]

@[simp] theorem snapCmdWrite_except (w : Word) (s : State) (h1 : Part.freeze ∈ W) (h2 : Part.regs .obs ∈ W) :
    (snapCmdWrite w s).except W = s.except W := by
  simp [snapCmdWrite, *]

@[simp] theorem execSnapTake_frames (r : Req) (w : Word) (s : State) (h1 : Part.logs ∈ W) (h2 : Part.freeze ∈ W) (h3 : Part.pci ∈ W) (h4 : Part.regs .pwr ∈ W) (h5 : Part.regs .intg ∈ W) (h6 : Part.regs .obs ∈ W) :
    Result.frames (execSnapTake r w s) W s := by
  simp [execSnapTake, *]

@[simp] theorem State.putItems_except (s : State) (base : Nat) (l : SnapItems) (h1 : Part.mem ∈ W) :
    (State.putItems s base l).except W = s.except W := by
  simp [State.putItems, except_foldl, *]

@[simp] theorem State.putSections_except (s : State) (t : State) (base : Nat) (x1 : List Nat) (h1 : Part.mem ∈ W) :
    (State.putSections s t base x1).except W = s.except W := by
  induction x1 generalizing s with
  | nil => rfl
  | cons p ps ih =>
    unfold State.putSections
    simp [*]

@[simp] theorem State.snapTake_except (s : State) (h1 : Part.mem ∈ W) (h2 : Part.logs ∈ W) (h3 : Part.freeze ∈ W) (h4 : Part.regs .intg ∈ W) (h5 : Part.regs .obs ∈ W) :
    (State.snapTake s).except W = s.except W := by
  unfold State.snapTake
  have hs : ∀ (u v : State) b l, State.except (State.putSections u v b l) W = u.except W := fun u v b l =>
    State.putSections_except u v b l (by assumption)
  dsimp only
  split
  · simp [*]
  · simp [*]
    (with_reducible refine (except_foldl _ (fun _ _ => ?_) _ _).trans ?_)
    · simp [*]
    · simp [*]

@[simp] theorem execFreeze_frames (s : State) (h1 : Part.mem ∈ W) (h2 : Part.logs ∈ W) (h3 : Part.freeze ∈ W) (h4 : Part.regs .intg ∈ W) (h5 : Part.regs .obs ∈ W) (h6 : Part.regs .cobs ∈ W) :
    Result.frames (execFreeze s) W s := by
  simp [execFreeze, except_foldl, *]

@[simp] theorem execCounterResume_frames (s : State) (h1 : Part.freeze ∈ W) (h2 : Part.regs .obs ∈ W) :
    Result.frames (execCounterResume s) W s := by
  unfold execCounterResume
  (repeat' split) <;> simp [*]

@[simp] theorem execSnapDone_frames (fail : Option Nat) (s : State) (h1 : Part.mem ∈ W) (h2 : Part.logs ∈ W) (h3 : Part.freeze ∈ W) (h4 : Part.regs .intg ∈ W) (h5 : Part.regs .obs ∈ W) (h6 : Part.regs .cobs ∈ W) :
    Result.frames (execSnapDone fail s) W s := by
  unfold execSnapDone
  (repeat' split) <;> simp [except_foldl, *]

@[simp] theorem execTraceRecordWrite_frames (e : Nat) (s : State) (h1 : Part.mem ∈ W) (h2 : Part.traces ∈ W) (h3 : Part.regs .obs ∈ W) :
    Result.frames (execTraceRecordWrite e s) W s := by
  unfold execTraceRecordWrite
  try dsimp only
  repeat' first
    | rfl
    | (refine (except_foldl _ (fun _ _ => ?_) _ _).trans ?_)
    | split
    | (simp [*]; done)
    | simp [*]

@[simp] theorem execWaitStartRecord_frames (p : Nat) (s : State) (h1 : Part.traces ∈ W) (h2 : Part.cabs ∈ W) (h3 : Part.regs .obs ∈ W) :
    Result.frames (execWaitStartRecord p s) W s := by
  simp [execWaitStartRecord, *]

@[simp] theorem State.clearCounters_except (s : State) (p : Page) (h1 : Part.regs p.blk ∈ W) : (s.clearCounters p).except W = s.except W := by
  refine except_regs_filter s p _ h1 fun e he => ?_
  simp only [Bool.not_eq_false', Bool.and_eq_true, decide_eq_true_eq] at he
  omega

@[simp] theorem cntClearWrite_except (p : Page) (w : Word) (s : State) (h1 : Part.regs p.blk ∈ W) :
    (cntClearWrite p w s).except W = s.except W := by
  simp [cntClearWrite, *]

@[simp] theorem execCntClear_frames (r : Req) (p : Page) (w : Word) (s : State) (h1 : Part.logs ∈ W) (h2 : Part.pci ∈ W) (h3 : Part.regs .pwr ∈ W) (h4 : Part.regs .intg ∈ W) (h5 : Part.regs p.blk ∈ W) :
    Result.frames (execCntClear r p w s) W s := by
  simp [execCntClear, *]

@[simp] theorem engineClear_except (p : Page) (off : Nat) (s : State) (h1 : Part.regs p.blk ∈ W) :
    (engineClear p off s).except W = s.except W := by
  simp [engineClear, *]

@[simp] theorem execTapInstruction_frames (code : Nat) (s : State) (h1 : Part.draws ∈ W) (h2 : Part.debugger ∈ W) :
    Result.frames (execTapInstruction code s) W s := by
  simp [execTapInstruction, *]

@[simp] theorem execUnlockChal_frames (s : State) (h1 : Part.draws ∈ W) (h2 : Part.debugger ∈ W) :
    Result.frames (execUnlockChal s) W s := by
  simp [execUnlockChal, *]

@[simp] theorem execUnlockResp_frames (x : UnlockResp) (s : State) (h1 : Part.logs ∈ W) (h2 : Part.debugger ∈ W) (h3 : Part.regs .intg ∈ W) (h4 : Part.regs .obs ∈ W) :
    Result.frames (execUnlockResp x s) W s := by
  unfold execUnlockResp
  (repeat' split) <;> simp [*]

@[simp] theorem execDebugHalt_frames (h : Nat) (s : State) (h1 : Part.debugger ∈ W) (h2 : Part.regs .cctl ∈ W) :
    Result.frames (execDebugHalt h s) W s := by
  simp [execDebugHalt, *]

@[simp] theorem State.timerStood_except (s : State) (h : Nat) (since : Nat) (h1 : Part.cabs ∈ W) :
    (State.timerStood s h since).except W = s.except W := by
  unfold State.timerStood
  (repeat' split) <;> simp [*]

@[simp] theorem execDebugResume_frames (h : Nat) (s : State) (h1 : Part.debugger ∈ W) (h2 : Part.cabs ∈ W) (h3 : Part.regs .cctl ∈ W) :
    Result.frames (execDebugResume h s) W s := by
  unfold execDebugResume
  (repeat' split) <;> simp [*]

end Sys2Proof.Machine
end

