-- ==== Sys2Proof/Laws/FrameSpad.lean ====
section
/-!
SUPPORT. FrameSpad.lean: for each operation of Spad.lean, the parts of the state it may change: it leaves everything outside W as it was,
whenever W holds those parts.
-/

namespace Sys2Proof.Machine

variable {W : List Part}

@[simp] theorem bankPwrWrite_except (r : Req) (p : Nat) (off : Nat) (w : Word) (s : State) (h1 : Part.logs ∈ W) (h2 : Part.regs .intg ∈ W) (h3 : Part.regs .spad ∈ W) :
    (bankPwrWrite r p off w s).except W = s.except W := by
  simp [bankPwrWrite, *]

@[simp] theorem execBankPowerWrite_frames (r : Req) (p : Nat) (hi : Bool) (w : Word) (s : State) (h1 : Part.logs ∈ W) (h2 : Part.pci ∈ W) (h3 : Part.regs .pwr ∈ W) (h4 : Part.regs .intg ∈ W) (h5 : Part.regs .spad ∈ W) :
    Result.frames (execBankPowerWrite r p hi w s) W s := by
  simp [execBankPowerWrite, *]

@[simp] theorem State.clearBank_except (s : State) (p : Nat) (b : Nat) (h1 : Part.mem ∈ W) :
    (State.clearBank s p b).except W = s.except W := by
  simp [State.clearBank, *]

@[simp] theorem State.bankLost_except (s : State) (p : Nat) (b : Nat) (h1 : Part.mem ∈ W) (h2 : Part.cabs ∈ W) (h3 : Part.regs .drw ∈ W) (h4 : Part.regs .hzn ∈ W) :
    (State.bankLost s p b).except W = s.except W := by
  simp [State.bankLost, *]

@[simp] theorem State.bankDone_except (s : State) (p : Nat) (b : Nat) (h1 : Part.mem ∈ W) (h2 : Part.cabs ∈ W) (h3 : Part.regs .spad ∈ W) (h4 : Part.regs .drw ∈ W) (h5 : Part.regs .hzn ∈ W) :
    (State.bankDone s p b).except W = s.except W := by
  simp [State.bankDone, *]

@[simp] theorem execBankTransitionDone_frames (p : Nat) (b : Nat) (s : State) (h1 : Part.mem ∈ W) (h2 : Part.cabs ∈ W) (h3 : Part.regs .spad ∈ W) (h4 : Part.regs .drw ∈ W) (h5 : Part.regs .hzn ∈ W) :
    Result.frames (execBankTransitionDone p b s) W s := by
  simp [execBankTransitionDone, *]

@[simp] theorem State.banksDeep_except (s : State) (p : Nat) (h1 : Part.regs .spad ∈ W) :
    (State.banksDeep s p).except W = s.except W := by
  simp [State.banksDeep, except_foldl, *]

@[simp] theorem State.banksBack_except (s : State) (p : Nat) (h1 : Part.mem ∈ W) (h2 : Part.cabs ∈ W) (h3 : Part.regs .spad ∈ W) (h4 : Part.regs .drw ∈ W) (h5 : Part.regs .hzn ∈ W) :
    (State.banksBack s p).except W = s.except W := by
  simp [State.banksBack, except_foldl, *]

end Sys2Proof.Machine
end

