-- ==== Sys2Proof/Laws/FramePower.lean ====
section
/-!
SUPPORT. FramePower.lean: for each operation of Power.lean, the parts of the state it may change: it leaves everything outside W as it was,
whenever W holds those parts.
-/

namespace Sys2Proof.Machine

variable {W : List Part}

@[simp] theorem pPwr_blk : (pPwr).blk = .pwr := by simp [pPwr]

@[simp] theorem State.setDom_except (s : State) (d : Nat) (x : Dom) (h1 : Part.doms ∈ W) :
    (State.setDom s d x).except W = s.except W := by
  simp [State.setDom, *]

@[simp] theorem State.powerRefuse_except (s : State) (d : Nat) (h1 : Part.logs ∈ W) (h2 : Part.regs .pwr ∈ W) (h3 : Part.regs .intg ∈ W) :
    (State.powerRefuse s d).except W = s.except W := by
  simp [State.powerRefuse, *]

@[simp] theorem State.leaveRun_except (s : State) (d : Nat) (h1 : Part.chans ∈ W) (h2 : Part.decs ∈ W) (h3 : Part.regs .chin ∈ W) (h4 : Part.regs .drw ∈ W) :
    (State.leaveRun s d).except W = s.except W := by
  simp [State.leaveRun, except_foldl, *]

@[simp] theorem State.startTransition_except (s : State) (d : Nat) (t : Pwr) (h1 : Part.doms ∈ W) (h2 : Part.chans ∈ W) (h3 : Part.decs ∈ W) (h4 : Part.regs .chin ∈ W) (h5 : Part.regs .drw ∈ W) :
    (State.startTransition s d t).except W = s.except W := by
  simp [State.startTransition, *]

@[simp] theorem State.powerRequest_except (s : State) (bureau : Bool) (d : Nat) (t : Pwr) (h1 : Part.logs ∈ W) (h2 : Part.doms ∈ W) (h3 : Part.chans ∈ W) (h4 : Part.decs ∈ W) (h5 : Part.regs .pwr ∈ W) (h6 : Part.regs .intg ∈ W) (h7 : Part.regs .chin ∈ W) (h8 : Part.regs .drw ∈ W) :
    (State.powerRequest s bureau d t).except W = s.except W := by
  simp [State.powerRequest, *]

@[simp] theorem pgPwrWrite_except (r : Req) (p : Page) (w : Word) (s : State) (h1 : Part.logs ∈ W) (h2 : Part.doms ∈ W) (h3 : Part.chans ∈ W) (h4 : Part.decs ∈ W) (h5 : Part.regs .pwr ∈ W) (h6 : Part.regs .intg ∈ W) (h7 : Part.regs .chin ∈ W) (h8 : Part.regs .drw ∈ W) (h9 : Part.regs p.blk ∈ W) :
    (pgPwrWrite r p w s).except W = s.except W := by
  unfold pgPwrWrite
  (repeat' split) <;> simp [*]

@[simp] theorem domReqWrite_except (r : Req) (w : Word) (s : State) (h1 : Part.logs ∈ W) (h2 : Part.doms ∈ W) (h3 : Part.chans ∈ W) (h4 : Part.decs ∈ W) (h5 : Part.regs .pwr ∈ W) (h6 : Part.regs .intg ∈ W) (h7 : Part.regs .chin ∈ W) (h8 : Part.regs .drw ∈ W) :
    (domReqWrite r w s).except W = s.except W := by
  unfold domReqWrite
  (repeat' split) <;> simp [*]

@[simp] theorem execPowerRequest_frames (r : Req) (p : Option Page) (w : Word) (s : State) (h1 : Part.logs ∈ W) (h2 : Part.doms ∈ W) (h3 : Part.chans ∈ W) (h4 : Part.decs ∈ W) (h5 : Part.pci ∈ W) (h6 : ∀ b, Part.regs b ∈ W) :
    Result.frames (execPowerRequest r p w s) W s := by
  unfold execPowerRequest
  (repeat' split) <;> simp [*]

@[simp] theorem State.losePage_except (s : State) (p : Page) (h1 : Part.regs p.blk ∈ W) (h2 : Part.timers ∈ W) (h3 : Part.locks ∈ W) (h4 : Part.routes ∈ W) :
    (s.losePage p).except W = s.except W := by
  have := except_regs_filter s p (fun e => !(decide (p.key ≤ e.1) && decide (e.1 < p.key + 4096))) h1 fun e he => by
    simpa only [Bool.not_eq_false', Bool.and_eq_true, decide_eq_true_eq] using he
  refine Eq.trans ?_ this
  simp [State.losePage, State.except, *]

@[simp] theorem State.loseState_except (s : State) (d : Nat) (h1 : Part.locks ∈ W) (h2 : Part.timers ∈ W) (h3 : Part.chans ∈ W) (h4 : Part.decs ∈ W) (h5 : Part.cabs ∈ W) (h6 : Part.hutches ∈ W) (h7 : Part.routes ∈ W) (h8 : Part.regs .chin ∈ W) (h9 : Part.regs .chenc ∈ W) (h10 : Part.regs .chdec ∈ W) (h11 : Part.regs .chtmr ∈ W) (h12 : Part.regs .hut0 ∈ W) (h13 : Part.regs .hut1 ∈ W) (h14 : Part.regs .cctl ∈ W) (h15 : Part.regs .qmgr ∈ W) (h16 : Part.regs .spad ∈ W) (h17 : Part.regs .drw ∈ W) (h18 : Part.regs .trs ∈ W) (h19 : Part.regs .xpnd ∈ W) (h20 : Part.regs .hzn ∈ W) (h21 : Part.regs .rtr ∈ W) (h22 : Part.regs .cobs ∈ W) :
    (State.loseState s d).except W = s.except W := by
  have hb : ∀ p ∈ domPages d, Part.regs p.blk ∈ W := by
    unfold domPages
    (repeat' split) <;> simp [cabPages, *]
  have hl : ∀ u, State.except (List.foldl State.losePage u (domPages d)) W = u.except W := fun u =>
    except_foldl_mem _ _ (fun p hp v => State.losePage_except _ _ (hb p hp) (by assumption) (by assumption) (by assumption)) u
  unfold State.loseState
  dsimp only
  (repeat' split) <;> simp [*]

@[simp] theorem State.loseMemory_except (s : State) (d : Nat) (h1 : Part.mem ∈ W) :
    (State.loseMemory s d).except W = s.except W := by
  simp [State.loseMemory, *]

@[simp] theorem State.restoreError_except (s : State) (d : Nat) (h1 : Part.logs ∈ W) (h2 : Part.faultReports ∈ W) (h3 : Part.locks ∈ W) (h4 : Part.timers ∈ W) (h5 : Part.chans ∈ W) (h6 : Part.decs ∈ W) (h7 : Part.cabs ∈ W) (h8 : Part.hutches ∈ W) (h9 : Part.routes ∈ W) (h10 : Part.regs .pwr ∈ W) (h11 : Part.regs .intg ∈ W) (h12 : Part.regs .chin ∈ W) (h13 : Part.regs .chenc ∈ W) (h14 : Part.regs .chdec ∈ W) (h15 : Part.regs .chtmr ∈ W) (h16 : Part.regs .hut0 ∈ W) (h17 : Part.regs .hut1 ∈ W) (h18 : Part.regs .cctl ∈ W) (h19 : Part.regs .qmgr ∈ W) (h20 : Part.regs .spad ∈ W) (h21 : Part.regs .drw ∈ W) (h22 : Part.regs .trs ∈ W) (h23 : Part.regs .xpnd ∈ W) (h24 : Part.regs .hzn ∈ W) (h25 : Part.regs .rtr ∈ W) (h26 : Part.regs .cobs ∈ W) :
    (State.restoreError s d).except W = s.except W := by
  simp [State.restoreError, *]

@[simp] theorem State.arrive_except (s : State) (d : Nat) (bad : Bool) (h1 : Part.draws ∈ W) (h2 : Part.mem ∈ W) (h3 : Part.logs ∈ W) (h4 : Part.faultReports ∈ W) (h5 : Part.locks ∈ W) (h6 : Part.timers ∈ W) (h7 : Part.synced ∈ W) (h8 : Part.doms ∈ W) (h9 : Part.chans ∈ W) (h10 : Part.decs ∈ W) (h11 : Part.cabs ∈ W) (h12 : Part.hutches ∈ W) (h13 : Part.routes ∈ W) (h14 : Part.regs .pwr ∈ W) (h15 : Part.regs .intg ∈ W) (h16 : Part.regs .chin ∈ W) (h17 : Part.regs .chenc ∈ W) (h18 : Part.regs .chdec ∈ W) (h19 : Part.regs .chtmr ∈ W) (h20 : Part.regs .hut0 ∈ W) (h21 : Part.regs .hut1 ∈ W) (h22 : Part.regs .cctl ∈ W) (h23 : Part.regs .qmgr ∈ W) (h24 : Part.regs .spad ∈ W) (h25 : Part.regs .drw ∈ W) (h26 : Part.regs .trs ∈ W) (h27 : Part.regs .xpnd ∈ W) (h28 : Part.regs .hzn ∈ W) (h29 : Part.regs .rtr ∈ W) (h30 : Part.regs .cobs ∈ W) :
    (State.arrive s d bad).except W = s.except W := by
  simp [State.arrive, except_foldl, *]

@[simp] theorem execTransitionDone_frames (d : Nat) (bad : Bool) (s : State) (h1 : Part.draws ∈ W) (h2 : Part.mem ∈ W) (h3 : Part.logs ∈ W) (h4 : Part.faultReports ∈ W) (h5 : Part.locks ∈ W) (h6 : Part.timers ∈ W) (h7 : Part.synced ∈ W) (h8 : Part.doms ∈ W) (h9 : Part.chans ∈ W) (h10 : Part.decs ∈ W) (h11 : Part.cabs ∈ W) (h12 : Part.hutches ∈ W) (h13 : Part.routes ∈ W) (h14 : Part.regs .pwr ∈ W) (h15 : Part.regs .intg ∈ W) (h16 : Part.regs .chin ∈ W) (h17 : Part.regs .chenc ∈ W) (h18 : Part.regs .chdec ∈ W) (h19 : Part.regs .chtmr ∈ W) (h20 : Part.regs .hut0 ∈ W) (h21 : Part.regs .hut1 ∈ W) (h22 : Part.regs .cctl ∈ W) (h23 : Part.regs .qmgr ∈ W) (h24 : Part.regs .spad ∈ W) (h25 : Part.regs .drw ∈ W) (h26 : Part.regs .trs ∈ W) (h27 : Part.regs .xpnd ∈ W) (h28 : Part.regs .hzn ∈ W) (h29 : Part.regs .rtr ∈ W) (h30 : Part.regs .cobs ∈ W) :
    Result.frames (execTransitionDone d bad s) W s := by
  unfold execTransitionDone
  dsimp only
  (repeat' split) <;> simp_all [except_foldl]

@[simp] theorem domClkswWrite_except (w : Word) (s : State) (h1 : Part.logs ∈ W) (h2 : Part.synced ∈ W) (h3 : Part.doms ∈ W) (h4 : Part.regs .pwr ∈ W) (h5 : Part.regs .intg ∈ W) :
    (domClkswWrite w s).except W = s.except W := by
  simp [domClkswWrite, *]

@[simp] theorem execClockSwitch_frames (r : Req) (w : Word) (s : State) (h1 : Part.logs ∈ W) (h2 : Part.synced ∈ W) (h3 : Part.doms ∈ W) (h4 : Part.pci ∈ W) (h5 : Part.regs .pwr ∈ W) (h6 : Part.regs .intg ∈ W) :
    Result.frames (execClockSwitch r w s) W s := by
  simp [execClockSwitch, *]

@[simp] theorem State.deviceStart_except (s : State) (t : Pwr) (h1 : Part.logs ∈ W) (h2 : Part.doms ∈ W) (h3 : Part.devPwr ∈ W) (h4 : Part.chans ∈ W) (h5 : Part.decs ∈ W) (h6 : Part.regs .pwr ∈ W) (h7 : Part.regs .intg ∈ W) (h8 : Part.regs .chin ∈ W) (h9 : Part.regs .drw ∈ W) :
    (State.deviceStart s t).except W = s.except W := by
  unfold State.deviceStart
  (repeat' split) <;> simp [except_foldl, *]

@[simp] theorem State.deviceRefuse_except (s : State) (h1 : Part.logs ∈ W) (h2 : Part.regs .pwr ∈ W) (h3 : Part.regs .intg ∈ W) :
    (State.deviceRefuse s).except W = s.except W := by
  simp [State.deviceRefuse, *]

@[simp] theorem State.deviceRequest_except (s : State) (t : Pwr) (h1 : Part.logs ∈ W) (h2 : Part.doms ∈ W) (h3 : Part.devPwr ∈ W) (h4 : Part.chans ∈ W) (h5 : Part.decs ∈ W) (h6 : Part.regs .pwr ∈ W) (h7 : Part.regs .intg ∈ W) (h8 : Part.regs .chin ∈ W) (h9 : Part.regs .drw ∈ W) :
    (State.deviceRequest s t).except W = s.except W := by
  simp [State.deviceRequest, *]

@[simp] theorem devReqWrite_except (w : Word) (s : State) (h1 : Part.logs ∈ W) (h2 : Part.doms ∈ W) (h3 : Part.devPwr ∈ W) (h4 : Part.chans ∈ W) (h5 : Part.decs ∈ W) (h6 : Part.regs .pwr ∈ W) (h7 : Part.regs .intg ∈ W) (h8 : Part.regs .chin ∈ W) (h9 : Part.regs .drw ∈ W) :
    (devReqWrite w s).except W = s.except W := by
  unfold devReqWrite
  (repeat' split) <;> simp [*]

@[simp] theorem execDevicePowerRequest_frames (r : Req) (w : Word) (s : State) (h1 : Part.logs ∈ W) (h2 : Part.doms ∈ W) (h3 : Part.devPwr ∈ W) (h4 : Part.chans ∈ W) (h5 : Part.decs ∈ W) (h6 : Part.pci ∈ W) (h7 : Part.regs .pwr ∈ W) (h8 : Part.regs .intg ∈ W) (h9 : Part.regs .chin ∈ W) (h10 : Part.regs .drw ∈ W) :
    Result.frames (execDevicePowerRequest r w s) W s := by
  simp [execDevicePowerRequest, *]

@[simp] theorem State.powerOff_except (s : State) (h1 : ∀ P, P ∈ W) :
    (State.powerOff s).except W = s.except W := by
  unfold State.powerOff
  exact except_all _ _ h1 rfl rfl

@[simp] theorem execDevDone_frames (s : State) (h1 : ∀ P, P ∈ W) :
    Result.frames (execDevDone s) W s := by
  unfold execDevDone
  dsimp only
  (repeat' split) <;> simp_all [except_foldl]

end Sys2Proof.Machine
end

