-- ==== Sys2Proof/Laws/FrameBringup.lean ====
section
/-!
SUPPORT. FrameBringup.lean: for each operation of Bringup.lean, the parts of the state it may change: it leaves everything outside W as it was,
whenever W holds those parts.
-/

namespace Sys2Proof.Machine

variable {W : List Part}

@[simp] theorem pBist_blk : (pBist).blk = .bist := by simp [pBist]

@[simp] theorem pDev_blk : (pDev).blk = .dev := by simp [pDev]

@[simp] theorem State.alertOn_except (s : State) (h1 : Part.boot ∈ W) (h2 : Part.regs .dev ∈ W) :
    (State.alertOn s).except W = s.except W := by
  simp [State.alertOn, except_foldl, *]

@[simp] theorem State.resetHold_except (s : State) (cause : Nat) (ty : Nat) (inst : Nat) (code : Nat) (h1 : Part.boot ∈ W) (h2 : Part.regs .dev ∈ W) :
    (State.resetHold s cause ty inst code).except W = s.except W := by
  simp [State.resetHold, *]

@[simp] theorem State.noSpare_except (s : State) (slice : Nat) (ty : Nat) (inst : Nat) (h1 : Part.logs ∈ W) (h2 : Part.boot ∈ W) (h3 : Part.regs .dev ∈ W) (h4 : Part.regs .intg ∈ W) (h5 : Part.regs .bist ∈ W) :
    (State.noSpare s slice ty inst).except W = s.except W := by
  simp [State.noSpare, *]

@[simp] theorem State.trainFails_except (s : State) (slice : Nat) (ty : Nat) (inst : Nat) (h1 : Part.logs ∈ W) (h2 : Part.boot ∈ W) (h3 : Part.regs .dev ∈ W) (h4 : Part.regs .intg ∈ W) (h5 : Part.regs .bist ∈ W) :
    (State.trainFails s slice ty inst).except W = s.except W := by
  simp [State.trainFails, *]

@[simp] theorem State.blockFails_except (s : State) (cause : Nat) (ty : Nat) (inst : Nat) (h1 : Part.draws ∈ W) (h2 : Part.logs ∈ W) (h3 : Part.boot ∈ W) (h4 : Part.regs .dev ∈ W) (h5 : Part.regs .intg ∈ W) (h6 : Part.regs .bist ∈ W) :
    (State.blockFails s cause ty inst).except W = s.except W := by
  simp [State.blockFails, *]

@[simp] theorem State.sliceResult_except (s : State) (x : Slice) (r : Nat) (h1 : Part.boot ∈ W) :
    (State.sliceResult s x r).except W = s.except W := by
  simp [State.sliceResult, *]

@[simp] theorem State.fencePosition_except (s : State) (p : Nat) (h1 : Part.boot ∈ W) :
    State.except (State.fencePosition s p).2.2 W = s.except W := by
  unfold State.fencePosition
  try dsimp only
  (repeat' split) <;> simp_all [except_foldl]

@[simp] theorem State.positionFails_except (s : State) (p : Nat) (h1 : Part.logs ∈ W) (h2 : Part.boot ∈ W) (h3 : Part.regs .intg ∈ W) (h4 : Part.regs .bist ∈ W) :
    (State.positionFails s p).2.except W = s.except W := by
  unfold State.positionFails
  dsimp only
  (repeat' split) <;> simp_all [except_foldl]

@[simp] theorem State.sliceDone_except (s : State) (x : Slice) (h1 : Part.logs ∈ W) (h2 : Part.boot ∈ W) (h3 : Part.regs .intg ∈ W) (h4 : Part.regs .bist ∈ W) :
    (State.sliceDone s x).except W = s.except W := by
  simp [State.sliceDone, *]

@[simp] theorem State.testVerdict_except (s : State) (l : List Slice) (h1 : Part.logs ∈ W) (h2 : Part.boot ∈ W) (h3 : Part.regs .dev ∈ W) (h4 : Part.regs .intg ∈ W) (h5 : Part.regs .bist ∈ W) :
    (State.testVerdict s l).except W = s.except W := by
  unfold State.testVerdict
  (repeat' split) <;> simp [*]

@[simp] theorem State.selfTest_except (s : State) (l : List Slice) (ms : Nat) (h1 : Part.logs ∈ W) (h2 : Part.boot ∈ W) (h3 : Part.regs .dev ∈ W) (h4 : Part.regs .intg ∈ W) (h5 : Part.regs .bist ∈ W) :
    (State.selfTest s l ms).except W = s.except W := by
  simp [State.selfTest, except_foldl, *]

@[simp] theorem State.deliverFw_except (s : State) (fw : List (Nat × Byte)) (p : Nat) (h1 : Part.mem ∈ W) :
    (State.deliverFw s fw p).except W = s.except W := by
  simp [State.deliverFw, except_foldl, *]

@[simp] theorem execFirmwareBlock_frames (p : Nat) (index : Nat) (count : Nat) (dest : Nat) (data : List Byte) (crc : Nat) (s : State) (h1 : Part.mem ∈ W) (h2 : Part.logs ∈ W) (h3 : Part.boot ∈ W) (h4 : Part.regs .intg ∈ W) (h5 : Part.regs .bist ∈ W) :
    Result.frames (execFirmwareBlock p index count dest data crc s) W s := by
  unfold execFirmwareBlock
  try dsimp only
  repeat' first
    | (with_reducible rfl)
    | (with_reducible refine (except_foldl _ (fun _ _ => ?_) _ _).trans ?_)
    | (with_reducible refine (except_foldl_fst _ (fun _ _ => ?_) _ _).trans ?_)
    | (with_reducible refine (except_foldl_snd _ (fun _ _ => ?_) _ _).trans ?_)
    | split
    | (simp [*]; done)
    | simp [*]

@[simp] theorem State.startReset_except (s : State) (h1 : ∀ P, P ∈ W) :
    (State.startReset s).except W = s.except W := by
  exact except_all _ _ h1 rfl rfl

@[simp] theorem State.faultMap_except (s : State) (h1 : Part.boot ∈ W) (h2 : Part.regs .hut0 ∈ W) :
    (State.faultMap s).except W = s.except W := by
  unfold State.faultMap
  (repeat' split) <;> simp [except_foldl, *]

@[simp] theorem State.trainStacks_except (s : State) (x1 : StartPlan) (h1 : Part.mem ∈ W) (h2 : Part.logs ∈ W) (h3 : Part.links ∈ W) (h4 : Part.hutches ∈ W) (h5 : Part.parts ∈ W) (h6 : Part.boot ∈ W) (h7 : Part.regs .bur ∈ W) (h8 : Part.regs .plc ∈ W) (h9 : Part.regs .intg ∈ W) (h10 : Part.regs .hut0 ∈ W) (h11 : Part.regs .hut1 ∈ W) (h12 : Part.regs .rtr ∈ W) :
    (State.trainStacks s x1).except W = s.except W := by
  unfold State.trainStacks
  try dsimp only
  repeat' first
    | (with_reducible rfl)
    | (with_reducible refine (except_foldl _ (fun _ _ => ?_) _ _).trans ?_)
    | (with_reducible refine (except_foldl_fst _ (fun _ _ => ?_) _ _).trans ?_)
    | (with_reducible refine (except_foldl_snd _ (fun _ _ => ?_) _ _).trans ?_)
    | split
    | (simp [*]; done)
    | simp [*]

@[simp] theorem State.parkSpares_except (s : State) (h1 : Part.doms ∈ W) :
    (State.parkSpares s).except W = s.except W := by
  simp [State.parkSpares, except_foldl, *]

@[simp] theorem State.becomeReady_except (s : State) (ms : Nat) (h1 : Part.regs .dev ∈ W) :
    (State.becomeReady s ms).except W = s.except W := by
  simp [State.becomeReady, except_foldl, *]

@[simp] theorem State.startEnd_except (s : State) (x : StartPlan) (h1 : Part.mem ∈ W) (h2 : Part.logs ∈ W) (h3 : Part.doms ∈ W) (h4 : Part.boot ∈ W) (h5 : Part.regs .dev ∈ W) (h6 : Part.regs .intg ∈ W) (h7 : Part.regs .bist ∈ W) :
    (State.startEnd s x).except W = s.except W := by
  simp [State.startEnd, except_foldl, *]

@[simp] theorem State.startTest_except (s : State) (x1 : StartPlan) (h1 : Part.draws ∈ W) (h2 : Part.mem ∈ W) (h3 : Part.logs ∈ W) (h4 : Part.faultReports ∈ W) (h5 : Part.doms ∈ W) (h6 : Part.links ∈ W) (h7 : Part.d2dRetried ∈ W) (h8 : Part.hutches ∈ W) (h9 : Part.parts ∈ W) (h10 : Part.boot ∈ W) (h11 : Part.regs .dev ∈ W) (h12 : Part.regs .bur ∈ W) (h13 : Part.regs .plc ∈ W) (h14 : Part.regs .intg ∈ W) (h15 : Part.regs .bist ∈ W) (h16 : Part.regs .hut0 ∈ W) (h17 : Part.regs .hut1 ∈ W) (h18 : Part.regs .d2d ∈ W) (h19 : Part.regs .rtr ∈ W) :
    (State.startTest s x1).except W = s.except W := by
  unfold State.startTest
  try dsimp only
  (repeat' split) <;> simp_all [except_foldl]

@[simp] theorem State.startSequence_except (s : State) (x : StartPlan) (h1 : ∀ P, P ∈ W) :
    (State.startSequence s x).except W = s.except W := by
  unfold State.startSequence
  (repeat' split) <;> simp [*]

@[simp] theorem execResetNRise_frames (x : StartPlan) (s : State) (h1 : ∀ P, P ∈ W) :
    Result.frames (execResetNRise x s) W s := by
  simp [execResetNRise, *]

@[simp] theorem execResetNFall_frames (s : State) (h1 : ∀ P, P ∈ W) :
    Result.frames (execResetNFall s) W s := by
  unfold execResetNFall
  (repeat' split) <;> first
    | (simp [*]; done)
    | (rw [done_frames]; exact except_all _ _ h1 rfl rfl)

@[simp] theorem execWakeN_frames (x : StartPlan) (s : State) (h1 : ∀ P, P ∈ W) :
    Result.frames (execWakeN x s) W s := by
  simp [execWakeN, *]

@[simp] theorem State.flashDone_except (s : State) (i : Nat) (ok : Bool) (h1 : Part.logs ∈ W) (h2 : Part.regs .intg ∈ W) (h3 : Part.regs .bist ∈ W) :
    (State.flashDone s i ok).except W = s.except W := by
  simp [State.flashDone, *]

@[simp] theorem State.writeRecord_except (s : State) (full : Bool) (ok : Bool) (h1 : Part.logs ∈ W) (h2 : Part.boot ∈ W) (h3 : Part.regs .intg ∈ W) (h4 : Part.regs .bist ∈ W) :
    (State.writeRecord s full ok).except W = s.except W := by
  simp [State.writeRecord, *]

@[simp] theorem execHealthRecordUpdate_frames (ok : Bool) (s : State) (h1 : Part.logs ∈ W) (h2 : Part.boot ∈ W) (h3 : Part.regs .intg ∈ W) (h4 : Part.regs .bist ∈ W) :
    Result.frames (execHealthRecordUpdate ok s) W s := by
  simp [execHealthRecordUpdate, *]

@[simp] theorem execTrainingRecordWrite_frames (ok : Bool) (s : State) (h1 : Part.logs ∈ W) (h2 : Part.boot ∈ W) (h3 : Part.regs .intg ∈ W) (h4 : Part.regs .bist ∈ W) :
    Result.frames (execTrainingRecordWrite ok s) W s := by
  simp [execTrainingRecordWrite, *]

@[simp] theorem State.testStart_except (s : State) (h1 : Part.regs .bist ∈ W) :
    (State.testStart s).except W = s.except W := by
  simp [State.testStart, *]

@[simp] theorem bistCtrlWrite_except (w : Word) (s : State) (h1 : Part.logs ∈ W) (h2 : Part.boot ∈ W) (h3 : Part.regs .intg ∈ W) (h4 : Part.regs .bist ∈ W) :
    (bistCtrlWrite w s).except W = s.except W := by
  simp [bistCtrlWrite, *]

@[simp] theorem execShutdown_frames (r : Req) (w : Word) (s : State) (h1 : Part.logs ∈ W) (h2 : Part.boot ∈ W) (h3 : Part.pci ∈ W) (h4 : Part.regs .pwr ∈ W) (h5 : Part.regs .intg ∈ W) (h6 : Part.regs .bist ∈ W) :
    Result.frames (execShutdown r w s) W s := by
  simp [execShutdown, *]

@[simp] theorem execClearFaults_frames (r : Req) (w : Word) (s : State) (h1 : Part.logs ∈ W) (h2 : Part.boot ∈ W) (h3 : Part.pci ∈ W) (h4 : Part.regs .pwr ∈ W) (h5 : Part.regs .intg ∈ W) (h6 : Part.regs .bist ∈ W) :
    Result.frames (execClearFaults r w s) W s := by
  simp [execClearFaults, *]

@[simp] theorem execRunFull_frames (r : Req) (w : Word) (s : State) (h1 : Part.logs ∈ W) (h2 : Part.boot ∈ W) (h3 : Part.pci ∈ W) (h4 : Part.regs .pwr ∈ W) (h5 : Part.regs .intg ∈ W) (h6 : Part.regs .bist ∈ W) :
    Result.frames (execRunFull r w s) W s := by
  simp [execRunFull, *]

@[simp] theorem State.clearPassed_except (s : State) (l : List Slice) (h1 : Part.boot ∈ W) (h2 : Part.regs .hut0 ∈ W) :
    (State.clearPassed s l).except W = s.except W := by
  simp [State.clearPassed, except_foldl, *]

@[simp] theorem execBistDone_frames (l : List Slice) (ms : Nat) (ok : Bool) (s : State) (h1 : Part.logs ∈ W) (h2 : Part.boot ∈ W) (h3 : Part.regs .dev ∈ W) (h4 : Part.regs .intg ∈ W) (h5 : Part.regs .bist ∈ W) (h6 : Part.regs .hut0 ∈ W) :
    Result.frames (execBistDone l ms ok s) W s := by
  simp [execBistDone, *]

@[simp] theorem execVddAonRise_frames (s : State) (h1 : Part.draws ∈ W) (h2 : Part.boot ∈ W) :
    Result.frames (execVddAonRise s) W s := by
  simp [execVddAonRise, *]

@[simp] theorem execVddAonLoss_frames (s : State) (h1 : ∀ P, P ∈ W) :
    Result.frames (execVddAonLoss s) W s := by
  unfold execVddAonLoss
  split
  · simp
  · rw [done_frames]; exact except_all _ _ h1 rfl rfl

end Sys2Proof.Machine
end

