-- ==== Sys2Proof/Laws/FrameEndpoint.lean ====
section
/-!
SUPPORT. FrameEndpoint.lean: for each operation of Endpoint.lean, the parts of the state it may change: it leaves everything outside W as it was,
whenever W holds those parts.
-/

namespace Sys2Proof.Machine

variable {W : List Part}

@[simp] theorem State.setExpected_except (s : State) (pk : Nat) (n : Nat) (h1 : Part.expect ∈ W) :
    (State.setExpected s pk n).except W = s.except W := by
  simp [State.setExpected, *]

@[simp] theorem State.jrnRefuse_except (s : State) (e : Nat) (h1 : Part.journals ∈ W) (h2 : Part.regs .intg ∈ W) :
    (State.jrnRefuse s e).except W = s.except W := by
  simp [State.jrnRefuse, *]

@[simp] theorem State.toInbox_except (s : State) (e : Nat) (esc : Bool) (f : Flit) (h1 : Part.inbox ∈ W) :
    (State.toInbox s e esc f).except W = s.except W := by
  simp [State.toInbox, *]

@[simp] theorem State.acceptEvent_except (s : State) (p : Nat) (esc : Bool) (f : Flit) (h1 : Part.mem ∈ W) (h2 : Part.inbox ∈ W) (h3 : Part.notices ∈ W) (h4 : Part.cabs ∈ W) (h5 : Part.journals ∈ W) :
    (State.acceptEvent s p esc f).except W = s.except W := by
  unfold State.acceptEvent
  dsimp only
  (repeat' split) <;> simp_all [except_foldl]

@[simp] theorem State.noQueue_except (s : State) (c : Nat) (f : Flit) (h1 : Part.notices ∈ W) :
    (State.noQueue s c f).except W = s.except W := by
  simp [State.noQueue, *]

@[simp] theorem State.deliver_except (s : State) (e : Nat) (esc : Bool) (f : Flit) (h1 : Part.mem ∈ W) (h2 : Part.logs ∈ W) (h3 : Part.inbox ∈ W) (h4 : Part.notices ∈ W) (h5 : Part.cabs ∈ W) (h6 : Part.journals ∈ W) (h7 : Part.regs .plc ∈ W) (h8 : Part.regs .intg ∈ W) (h9 : Part.regs .rtr ∈ W) :
    (State.deliver s e esc f).except W = s.except W := by
  simp [State.deliver, *]

@[simp] theorem State.robDrain_except (e : Nat) (pk : Nat) (x1 : Nat) (x2 : State) (h1 : Part.mem ∈ W) (h2 : Part.logs ∈ W) (h3 : Part.inbox ∈ W) (h4 : Part.robs ∈ W) (h5 : Part.expect ∈ W) (h6 : Part.pressure ∈ W) (h7 : Part.notices ∈ W) (h8 : Part.cabs ∈ W) (h9 : Part.journals ∈ W) (h10 : Part.regs .plc ∈ W) (h11 : Part.regs .intg ∈ W) (h12 : Part.regs .rtr ∈ W) :
    (State.robDrain e pk x1 x2).except W = x2.except W := by
  induction x1 generalizing x2 with
  | zero => rfl
  | succ n ih =>
    unfold State.robDrain
    (repeat' split) <;> simp [*]

@[simp] theorem execFlitEject_frames (e : Nat) (esc : Bool) (f : Flit) (s : State) (h1 : Part.mem ∈ W) (h2 : Part.logs ∈ W) (h3 : Part.arrivals ∈ W) (h4 : Part.inbox ∈ W) (h5 : Part.robs ∈ W) (h6 : Part.expect ∈ W) (h7 : Part.pressure ∈ W) (h8 : Part.notices ∈ W) (h9 : Part.cabs ∈ W) (h10 : Part.journals ∈ W) (h11 : Part.regs .plc ∈ W) (h12 : Part.regs .intg ∈ W) (h13 : Part.regs .rtr ∈ W) :
    Result.frames (execFlitEject e esc f s) W s := by
  simp [execFlitEject, *]

@[simp] theorem execRobTimeout_frames (e : Nat) (s : State) (h1 : Part.mem ∈ W) (h2 : Part.logs ∈ W) (h3 : Part.faultReports ∈ W) (h4 : Part.arrivals ∈ W) (h5 : Part.inbox ∈ W) (h6 : Part.robs ∈ W) (h7 : Part.expect ∈ W) (h8 : Part.pressure ∈ W) (h9 : Part.notices ∈ W) (h10 : Part.cabs ∈ W) (h11 : Part.journals ∈ W) (h12 : Part.regs .plc ∈ W) (h13 : Part.regs .intg ∈ W) (h14 : Part.regs .rtr ∈ W) :
    Result.frames (execRobTimeout e s) W s := by
  unfold execRobTimeout
  dsimp only
  (repeat' split) <;> simp_all [except_foldl]

@[simp] theorem State.robResume_except (s : State) (e : Nat) (h1 : Part.mem ∈ W) (h2 : Part.logs ∈ W) (h3 : Part.inbox ∈ W) (h4 : Part.robs ∈ W) (h5 : Part.expect ∈ W) (h6 : Part.pressure ∈ W) (h7 : Part.notices ∈ W) (h8 : Part.cabs ∈ W) (h9 : Part.journals ∈ W) (h10 : Part.regs .plc ∈ W) (h11 : Part.regs .intg ∈ W) (h12 : Part.regs .rtr ∈ W) :
    (State.robResume s e).except W = s.except W := by
  simp [State.robResume, except_foldl, *]

@[simp] theorem execExternalTriggerEvent_frames (pin : Nat) (s : State) (h1 : Part.logs ∈ W) (h2 : Part.trigEvents ∈ W) (h3 : Part.net ∈ W) (h4 : Part.seqs ∈ W) (h5 : Part.sources ∈ W) (h6 : Part.regs .plc ∈ W) (h7 : Part.regs .intg ∈ W) :
    Result.frames (execExternalTriggerEvent pin s) W s := by
  unfold execExternalTriggerEvent
  (repeat' split) <;> simp [*]

@[simp] theorem execMapSwitchFlit_frames (e : Nat) (s : State) (h1 : Part.mapRe ∈ W) (h2 : Part.inbox ∈ W) :
    Result.frames (execMapSwitchFlit e s) W s := by
  unfold execMapSwitchFlit
  (repeat' split) <;> simp [*]

end Sys2Proof.Machine
end

