-- ==== Sys2Proof/Laws/FramePackage.lean ====
section
/-!
SUPPORT. FramePackage.lean: for each operation of Package.lean, the parts of the state it may change: it leaves everything outside W as it was,
whenever W holds those parts.
-/

namespace Sys2Proof.Machine

variable {W : List Part}

@[simp] theorem State.tripped_except (s : State) (h1 : ∀ P, P ∈ W) :
    (State.tripped s).except W = s.except W := by
  simp [State.tripped, *]

@[simp] theorem State.alarmSet_except (s : State) (h1 : Part.boot ∈ W) (h2 : Part.regs .dev ∈ W) :
    (State.alarmSet s).except W = s.except W := by
  simp [State.alarmSet, *]

@[simp] theorem State.alarmRelease_except (s : State) (h1 : Part.boot ∈ W) :
    (State.alarmRelease s).except W = s.except W := by
  simp [State.alarmRelease, *]

@[simp] theorem execMonitorReading_frames (temps : List Int) (s : State) (h1 : ∀ P, P ∈ W) :
    Result.frames (execMonitorReading temps s) W s := by
  simp [execMonitorReading, *]

@[simp] theorem execSmbusBlockRead_frames (s : State)  :
    Result.frames (execSmbusBlockRead s) W s := by
  simp [execSmbusBlockRead, *]

@[simp] theorem execSmbusMonitorRead_frames (i : Nat) (s : State)  :
    Result.frames (execSmbusMonitorRead i s) W s := by
  simp [execSmbusMonitorRead, *]

@[simp] theorem execSmbusHighestRead_frames (s : State)  :
    Result.frames (execSmbusHighestRead s) W s := by
  simp [execSmbusHighestRead, *]

@[simp] theorem execSmbusAlarmRead_frames (s : State)  :
    Result.frames (execSmbusAlarmRead s) W s := by
  simp [execSmbusAlarmRead, *]

@[simp] theorem execSmbusAlarmClear_frames (v : Nat) (pec : Option Bool) (s : State) (h1 : Part.boot ∈ W) :
    Result.frames (execSmbusAlarmClear v pec s) W s := by
  simp [execSmbusAlarmClear, *]

end Sys2Proof.Machine
end

