-- ==== Sys2Proof/Laws/FrameHost.lean ====
section
/-!
SUPPORT. FrameHost.lean: for each operation of Host.lean, the parts of the state it may change: it leaves everything outside W as it was,
whenever W holds those parts.
-/

namespace Sys2Proof.Machine

variable {W : List Part}

@[simp] theorem State.setMsix_except (s : State) (f : Nat) (x : Msix) (h1 : Part.msix ∈ W) :
    (State.setMsix s f x).except W = s.except W := by
  simp [State.setMsix, *]

@[simp] theorem State.msixTry_except (s : State) (f : Nat) (v : Nat) (h1 : Part.msix ∈ W) (h2 : Part.sentMsi ∈ W) :
    (State.msixTry s f v).except W = s.except W := by
  simp [State.msixTry, *]

@[simp] theorem State.msixUnmask_except (s : State) (f : Nat) (h1 : Part.msix ∈ W) (h2 : Part.sentMsi ∈ W) :
    (State.msixUnmask s f).except W = s.except W := by
  simp [State.msixUnmask, except_foldl, *]

@[simp] theorem execMsixMessage_frames (f : Nat) (v : Nat) (s : State) (h1 : Part.msix ∈ W) (h2 : Part.sentMsi ∈ W) :
    Result.frames (execMsixMessage f v s) W s := by
  simp [execMsixMessage, *]

@[simp] theorem vecEoiWrite_except (f : Nat) (w : Word) (s : State) (h1 : Part.logs ∈ W) (h2 : Part.msix ∈ W) (h3 : Part.sentMsi ∈ W) (h4 : Part.regs .intg ∈ W) (h5 : Part.regs .hq ∈ W) :
    (vecEoiWrite f w s).except W = s.except W := by
  simp [vecEoiWrite, *]

@[simp] theorem execVecEoi_frames (r : Req) (w : Word) (s : State) (h1 : Part.logs ∈ W) (h2 : Part.msix ∈ W) (h3 : Part.sentMsi ∈ W) (h4 : Part.pci ∈ W) (h5 : Part.regs .pwr ∈ W) (h6 : Part.regs .intg ∈ W) (h7 : Part.regs .hq ∈ W) :
    Result.frames (execVecEoi r w s) W s := by
  simp [execVecEoi, *]

@[simp] theorem State.msixTableWrite_except (s : State) (f : Nat) (v : Nat) (i : Nat) (w : Word) (h1 : Part.msix ∈ W) (h2 : Part.sentMsi ∈ W) :
    (State.msixTableWrite s f v i w).except W = s.except W := by
  simp [State.msixTableWrite, *]

@[simp] theorem State.portReset_except (s : State) (h1 : Part.d3hot ∈ W) (h2 : Part.rings ∈ W) (h3 : Part.msix ∈ W) (h4 : Part.pci ∈ W) :
    (State.portReset s).except W = s.except W := by
  simp [State.portReset, except_foldl, *]

@[simp] theorem execHotReset_frames (s : State) (h1 : Part.d3hot ∈ W) (h2 : Part.rings ∈ W) (h3 : Part.msix ∈ W) (h4 : Part.pci ∈ W) :
    Result.frames (execHotReset s) W s := by
  simp [execHotReset, *]

@[simp] theorem execPerstNRise_frames (s : State) (h1 : Part.d3hot ∈ W) (h2 : Part.rings ∈ W) (h3 : Part.boot ∈ W) (h4 : Part.msix ∈ W) (h5 : Part.pci ∈ W) :
    Result.frames (execPerstNRise s) W s := by
  simp [execPerstNRise, *]

@[simp] theorem State.pciWrite_except (s : State) (f : Nat) (x1 : PciField) (v : Nat) (h1 : Part.pci ∈ W) :
    (State.pciWrite s f x1 v).except W = s.except W := by
  simp [State.pciWrite, *]

@[simp] theorem execConfigRequest_frames (f : Nat) (op : CfgOp) (ready : Bool) (s : State) (h1 : Part.draws ∈ W) (h2 : Part.d3hot ∈ W) (h3 : Part.boot ∈ W) (h4 : Part.msix ∈ W) (h5 : Part.sentMsi ∈ W) (h6 : Part.pci ∈ W) :
    Result.frames (execConfigRequest f op ready s) W s := by
  unfold execConfigRequest
  try dsimp only
  (repeat' split) <;> simp_all [except_foldl]

@[simp] theorem State.windowLines_except (s : State) (x1 : Nat) (ecc : List LineEcc) (x2 : Nat) (x3 : Nat) (h1 : Part.mem ∈ W) (h2 : Part.logs ∈ W) (h3 : Part.faultReports ∈ W) (h4 : Part.links ∈ W) (h5 : Part.hutches ∈ W) (h6 : Part.parts ∈ W) (h7 : Part.boot ∈ W) (h8 : Part.regs .bur ∈ W) (h9 : Part.regs .plc ∈ W) (h10 : Part.regs .intg ∈ W) (h11 : Part.regs .hut0 ∈ W) (h12 : Part.regs .hut1 ∈ W) (h13 : Part.regs .rtr ∈ W) :
    State.except (State.windowLines s x1 ecc x2 x3).2 W = s.except W := by
  induction x2 generalizing s x3 with
  | zero => rfl
  | succ n ih =>
    unfold State.windowLines
    simp [*]

@[simp] theorem execStackWindowAccess_frames (f : Nat) (o : Nat) (acc : WinAcc) (bus : Bus) (s : State) (h1 : Part.draws ∈ W) (h2 : Part.mem ∈ W) (h3 : Part.logs ∈ W) (h4 : Part.faultReports ∈ W) (h5 : Part.links ∈ W) (h6 : Part.hutches ∈ W) (h7 : Part.parts ∈ W) (h8 : Part.boot ∈ W) (h9 : Part.pci ∈ W) (h10 : Part.regs .bur ∈ W) (h11 : Part.regs .plc ∈ W) (h12 : Part.regs .intg ∈ W) (h13 : Part.regs .hut0 ∈ W) (h14 : Part.regs .hut1 ∈ W) (h15 : Part.regs .rtr ∈ W) :
    Result.frames (execStackWindowAccess f o acc bus s) W s := by
  unfold execStackWindowAccess
  have hr : (s.received f bus).except W = s.except W := by simp [*]
  refine Result.frames_trans ?_ hr
  generalize s.received f bus = s
  dsimp only
  split
  · simp
  · split
    · simp [*]
    · split
      · repeat' first
          | split
          | (simp [*]; done)
          | (refine Result.frames_trans (unsupported_frames _ _ (by assumption)) ?_
             simp [*]; done)
      · refine busChecked_frames _ _ _ _ (by assumption) (by assumption) ?_
        repeat' first
          | split
          | (simp [*]; done)
          | (rw [done_frames, except_foldl_fst _ (fun _ _ => by simp [*])]
             exact except_foldl _ (fun _ _ => by simp [*]) _ _)

@[simp] theorem State.coreReset_except (s : State) (p : Nat) (h1 : Part.notices ∈ W) (h2 : Part.cabs ∈ W) (h3 : Part.regs .cctl ∈ W) :
    (State.coreReset s p).except W = s.except W := by
  unfold State.coreReset
  (repeat' split) <;> simp [*]

@[simp] theorem State.disableAll_except (s : State) (h1 : Part.logs ∈ W) (h2 : Part.notices ∈ W) (h3 : Part.chans ∈ W) (h4 : Part.decs ∈ W) (h5 : Part.cabs ∈ W) (h6 : Part.regs .intg ∈ W) (h7 : Part.regs .chin ∈ W) (h8 : Part.regs .chenc ∈ W) (h9 : Part.regs .chdec ∈ W) (h10 : Part.regs .cctl ∈ W) (h11 : Part.regs .hzn ∈ W) :
    (State.disableAll s).except W = s.except W := by
  simp [State.disableAll, except_foldl, *]

@[simp] theorem State.hostHold_except (s : State) (h1 : Part.logs ∈ W) (h2 : Part.notices ∈ W) (h3 : Part.chans ∈ W) (h4 : Part.decs ∈ W) (h5 : Part.cabs ∈ W) (h6 : Part.regs .dev ∈ W) (h7 : Part.regs .intg ∈ W) (h8 : Part.regs .chin ∈ W) (h9 : Part.regs .chenc ∈ W) (h10 : Part.regs .chdec ∈ W) (h11 : Part.regs .cctl ∈ W) (h12 : Part.regs .hzn ∈ W) :
    (State.hostHold s).except W = s.except W := by
  simp [State.hostHold, *]

@[simp] theorem State.legacyWrite_except (s : State) (b : Bool) (h1 : Part.logs ∈ W) (h2 : Part.boot ∈ W) (h3 : Part.regs .dev ∈ W) (h4 : Part.regs .intg ∈ W) :
    (State.legacyWrite s b).except W = s.except W := by
  simp [State.legacyWrite, *]

@[simp] theorem State.hostRelease_except (s : State) (x : StartPlan) (h1 : Part.mem ∈ W) (h2 : Part.logs ∈ W) (h3 : Part.doms ∈ W) (h4 : Part.boot ∈ W) (h5 : Part.regs .dev ∈ W) (h6 : Part.regs .intg ∈ W) (h7 : Part.regs .bist ∈ W) :
    (State.hostRelease s x).except W = s.except W := by
  simp [State.hostRelease, *]

@[simp] theorem devCtrlWrite_except (r : Req) (w : Word) (x1 : StartPlan) (s : State) (h1 : Part.mem ∈ W) (h2 : Part.logs ∈ W) (h3 : Part.doms ∈ W) (h4 : Part.notices ∈ W) (h5 : Part.chans ∈ W) (h6 : Part.decs ∈ W) (h7 : Part.cabs ∈ W) (h8 : Part.boot ∈ W) (h9 : Part.regs .dev ∈ W) (h10 : Part.regs .intg ∈ W) (h11 : Part.regs .bist ∈ W) (h12 : Part.regs .chin ∈ W) (h13 : Part.regs .chenc ∈ W) (h14 : Part.regs .chdec ∈ W) (h15 : Part.regs .cctl ∈ W) (h16 : Part.regs .hzn ∈ W) :
    (devCtrlWrite r w x1 s).except W = s.except W := by
  simp [devCtrlWrite, *]

@[simp] theorem execHold_frames (r : Req) (w : Word) (s : State) (h1 : Part.mem ∈ W) (h2 : Part.logs ∈ W) (h3 : Part.doms ∈ W) (h4 : Part.notices ∈ W) (h5 : Part.chans ∈ W) (h6 : Part.decs ∈ W) (h7 : Part.cabs ∈ W) (h8 : Part.boot ∈ W) (h9 : Part.pci ∈ W) (h10 : Part.regs .dev ∈ W) (h11 : Part.regs .pwr ∈ W) (h12 : Part.regs .intg ∈ W) (h13 : Part.regs .bist ∈ W) (h14 : Part.regs .chin ∈ W) (h15 : Part.regs .chenc ∈ W) (h16 : Part.regs .chdec ∈ W) (h17 : Part.regs .cctl ∈ W) (h18 : Part.regs .hzn ∈ W) :
    Result.frames (execHold r w s) W s := by
  simp [execHold, *]

@[simp] theorem execRelease_frames (r : Req) (w : Word) (x1 : StartPlan) (s : State) (h1 : Part.mem ∈ W) (h2 : Part.logs ∈ W) (h3 : Part.doms ∈ W) (h4 : Part.notices ∈ W) (h5 : Part.chans ∈ W) (h6 : Part.decs ∈ W) (h7 : Part.cabs ∈ W) (h8 : Part.boot ∈ W) (h9 : Part.pci ∈ W) (h10 : Part.regs .dev ∈ W) (h11 : Part.regs .pwr ∈ W) (h12 : Part.regs .intg ∈ W) (h13 : Part.regs .bist ∈ W) (h14 : Part.regs .chin ∈ W) (h15 : Part.regs .chenc ∈ W) (h16 : Part.regs .chdec ∈ W) (h17 : Part.regs .cctl ∈ W) (h18 : Part.regs .hzn ∈ W) :
    Result.frames (execRelease r w x1 s) W s := by
  simp [execRelease, *]

@[simp] theorem execLegacyWrite_frames (r : Req) (w : Word) (s : State) (h1 : Part.mem ∈ W) (h2 : Part.logs ∈ W) (h3 : Part.doms ∈ W) (h4 : Part.notices ∈ W) (h5 : Part.chans ∈ W) (h6 : Part.decs ∈ W) (h7 : Part.cabs ∈ W) (h8 : Part.boot ∈ W) (h9 : Part.pci ∈ W) (h10 : Part.regs .dev ∈ W) (h11 : Part.regs .pwr ∈ W) (h12 : Part.regs .intg ∈ W) (h13 : Part.regs .bist ∈ W) (h14 : Part.regs .chin ∈ W) (h15 : Part.regs .chenc ∈ W) (h16 : Part.regs .chdec ∈ W) (h17 : Part.regs .cctl ∈ W) (h18 : Part.regs .hzn ∈ W) :
    Result.frames (execLegacyWrite r w s) W s := by
  simp [execLegacyWrite, *]

end Sys2Proof.Machine
end

