-- ==== Sys2Proof/Laws/FrameImage.lean ====
section
/-!
SUPPORT. FrameImage.lean: for each operation of Image.lean, the parts of the state it may change: it leaves everything outside W as it was,
whenever W holds those parts.
-/

namespace Sys2Proof.Machine

variable {W : List Part}

@[simp] theorem State.putChan_except (s : State) (m : Img) (l : Nat) (n : Nat) (h1 : Part.logs ∈ W) (h2 : Part.timers ∈ W) (h3 : Part.chans ∈ W) (h4 : Part.decs ∈ W) (h5 : Part.regs .intg ∈ W) (h6 : Part.regs .chin ∈ W) (h7 : Part.regs .chenc ∈ W) (h8 : Part.regs .chdec ∈ W) (h9 : Part.regs .chtmr ∈ W) :
    (State.putChan s m l n).except W = s.except W := by
  unfold State.putChan
  refine except_foldl _ (fun u e => ?_) _ _
  have hb : ∀ n i, Part.regs (chanPage n i).blk ∈ W := by
    intro n i; unfold chanPage; (repeat' split) <;> simp [*]
  split
  · rfl
  · have := hb n e.1
    simp [*]

@[simp] theorem State.putChanBare_except (s : State) (m : Img) (l : Nat) (n : Nat) (h1 : Part.logs ∈ W) (h2 : Part.chans ∈ W) (h3 : Part.regs .intg ∈ W) (h4 : Part.regs .chin ∈ W) (h5 : Part.regs .chenc ∈ W) (h6 : Part.regs .chdec ∈ W) :
    (State.putChanBare s m l n).except W = s.except W := by
  have hb : ∀ n i, Part.regs (chanPage n i).blk ∈ W := by
    intro n i; unfold chanPage; (repeat' split) <;> simp [*]
  have hf : State.except ((m.chanRegs l).foldl (fun s e => if e.2.1 < 0x040 then s
      else plainWrite (chanPage n e.1) e.2.1 (BitVec.ofNat 32 e.2.2) s) s) W = s.except W := by
    refine except_foldl _ (fun u e => ?_) _ _
    have := hb n e.1
    split
    · rfl
    · simp [*]
  unfold State.putChanBare
  dsimp only
  simp [hf, *]

@[simp] theorem State.imgScratch_except (s : State) (k : Nat) (m : Img) (h1 : Part.logs ∈ W) (h2 : Part.chans ∈ W) (h3 : Part.parts ∈ W) (h4 : Part.regs .intg ∈ W) (h5 : Part.regs .chin ∈ W) (h6 : Part.regs .chenc ∈ W) (h7 : Part.regs .chdec ∈ W) :
    (State.imgScratch s k m).except W = s.except W := by
  unfold State.imgScratch
  try dsimp only
  repeat' first
    | rfl
    | assumption
    | split
    | (simp_all [except_foldl]; done)
    | simp [except_foldl, *]

end Sys2Proof.Machine
end

