-- ==== Sys2Proof/Laws/FramePlacement.lean ====
section
/-!
SUPPORT. FramePlacement.lean: for each operation of Placement.lean, the parts of the state it may change: it leaves everything outside W as it was,
whenever W holds those parts.
-/

namespace Sys2Proof.Machine

variable {W : List Part}

@[simp] theorem State.putRegion_except (s : State) (h : Nat) (r : Nat) (w : Word) (h1 : Part.regs .hut1 ∈ W) :
    (State.putRegion s h r w).except W = s.except W := by
  simp [State.putRegion, *]

@[simp] theorem State.takeRegions_except (s : State) (k : Nat) (l : List Allot) (h1 : Part.regs .hut1 ∈ W) :
    (State.takeRegions s k l).except W = s.except W := by
  unfold State.takeRegions
  try dsimp only
  repeat' first
    | rfl
    | (refine (except_foldl _ (fun _ _ => ?_) _ _).trans ?_)
    | split
    | (simp [*]; done)
    | simp [*]

@[simp] theorem State.freePartRegions_except (s : State) (k : Nat) (h1 : Part.regs .hut1 ∈ W) :
    (State.freePartRegions s k).except W = s.except W := by
  unfold State.freePartRegions
  try dsimp only
  repeat' first
    | (with_reducible rfl)
    | (with_reducible refine (except_foldl _ (fun _ _ => ?_) _ _).trans ?_)
    | (with_reducible refine (except_foldl_fst _ (fun _ _ => ?_) _ _).trans ?_)
    | (with_reducible refine (except_foldl_snd _ (fun _ _ => ?_) _ _).trans ?_)
    | split
    | (simp [*]; done)
    | simp [*]

@[simp] theorem State.setTree_except (s : State) (k : Nat) (root : Nat) (leaves : List Nat) (h1 : Part.leaves ∈ W) (h2 : Part.regs .rtr ∈ W) :
    (State.setTree s k root leaves).except W = s.except W := by
  simp [State.setTree, except_foldl, *]

@[simp] theorem State.setMcast_except (s : State) (k : Nat) (t : Nat) (root : Nat) (cabs : List Nat) (leaves : List Nat) (h1 : Part.leaves ∈ W) (h2 : Part.regs .rtr ∈ W) :
    (State.setMcast s k t root cabs leaves).except W = s.except W := by
  simp [State.setMcast, except_foldl, *]

@[simp] theorem State.setMask_except (s : State) (base : Nat) (k : Nat) (ports : List (Nat × Nat)) (b : Bool) (h1 : Part.regs .rtr ∈ W) :
    (State.setMask s base k ports b).except W = s.except W := by
  unfold State.setMask
  try dsimp only
  repeat' first
    | (with_reducible rfl)
    | (with_reducible refine (except_foldl _ (fun _ _ => ?_) _ _).trans ?_)
    | (with_reducible refine (except_foldl_fst _ (fun _ _ => ?_) _ _).trans ?_)
    | (with_reducible refine (except_foldl_snd _ (fun _ _ => ?_) _ _).trans ?_)
    | split
    | (simp [*]; done)
    | simp [*]

@[simp] theorem State.connect_except (s : State) (k : Nat) (extra : List Nat) (h1 : Part.leaves ∈ W) (h2 : Part.regs .rtr ∈ W) :
    (State.connect s k extra).except W = s.except W := by
  unfold State.connect
  try dsimp only
  repeat' first
    | (with_reducible rfl)
    | (with_reducible refine (except_foldl _ (fun _ _ => ?_) _ _).trans ?_)
    | (with_reducible refine (except_foldl_fst _ (fun _ _ => ?_) _ _).trans ?_)
    | (with_reducible refine (except_foldl_snd _ (fun _ _ => ?_) _ _).trans ?_)
    | split
    | (simp [*]; done)
    | simp [*]

@[simp] theorem State.setShares_except (s : State) (k : Nat) (h1 : Part.logs ∈ W) (h2 : Part.links ∈ W) (h3 : Part.regs .intg ∈ W) (h4 : Part.regs .rtr ∈ W) :
    (State.setShares s k).except W = s.except W := by
  simp [State.setShares, except_foldl, *]

@[simp] theorem State.disconnect_except (s : State) (k : Nat) (h1 : Part.links ∈ W) (h2 : Part.regs .rtr ∈ W) :
    (State.disconnect s k).except W = s.except W := by
  unfold State.disconnect
  try dsimp only
  repeat' first
    | (with_reducible rfl)
    | (with_reducible refine (except_foldl _ (fun _ _ => ?_) _ _).trans ?_)
    | (with_reducible refine (except_foldl_fst _ (fun _ _ => ?_) _ _).trans ?_)
    | (with_reducible refine (except_foldl_snd _ (fun _ _ => ?_) _ _).trans ?_)
    | split
    | (simp [*]; done)
    | simp [*]

end Sys2Proof.Machine
end

