-- ==== Sys2Proof/Laws/FramePartition.lean ====
section
/-!
SUPPORT. FramePartition.lean: for each operation of Partition.lean, the parts of the state it may change: it leaves everything outside W as it was,
whenever W holds those parts.
-/

namespace Sys2Proof.Machine

variable {W : List Part}

@[simp] theorem State.refused_except (s : State) (h1 : Part.regs .plc ∈ W) :
    (State.refused s).except W = s.except W := by
  simp [State.refused, *]

@[simp] theorem State.assign_except (s : State) (k : Nat) (p : Page) (h1 : Part.routes ∈ W) (h2 : Part.regs p.blk ∈ W) :
    (State.assign s k p).except W = s.except W := by
  simp [State.assign, *]

@[simp] theorem State.clearArea_except (s : State) (a : Nat) (n : Nat) (h1 : Part.mem ∈ W) :
    (State.clearArea s a n).except W = s.except W := by
  unfold State.clearArea
  dsimp only
  (repeat' split) <;> simp_all [except_foldl]

@[simp] theorem State.putRows_except (s : State) (m : Img) (c : Nat) (a : Nat) (h1 : Part.mem ∈ W) :
    (State.putRows s m c a).except W = s.except W := by
  simp [State.putRows, except_foldl, *]

@[simp] theorem State.putArea_except (s : State) (m : Img) (x : Nat × Nat × Nat × Nat) (h1 : Part.mem ∈ W) (h2 : Part.regs .chdec ∈ W) :
    (State.putArea s m x).except W = s.except W := by
  simp [State.putArea, *]

@[simp] theorem State.putChans_except (s : State) (k : Nat) (m : Img) (h1 : Part.logs ∈ W) (h2 : Part.timers ∈ W) (h3 : Part.chans ∈ W) (h4 : Part.decs ∈ W) (h5 : Part.routes ∈ W) (h6 : Part.regs .intg ∈ W) (h7 : Part.regs .chin ∈ W) (h8 : Part.regs .chenc ∈ W) (h9 : Part.regs .chdec ∈ W) (h10 : Part.regs .chtmr ∈ W) :
    (State.putChans s k m).except W = s.except W := by
  simp [State.putChans, except_foldl, *]

@[simp] theorem State.enableChans_except (s : State) (m : Img) (h1 : Part.logs ∈ W) (h2 : Part.chans ∈ W) (h3 : Part.decs ∈ W) (h4 : Part.regs .intg ∈ W) (h5 : Part.regs .chin ∈ W) (h6 : Part.regs .chenc ∈ W) (h7 : Part.regs .chdec ∈ W) :
    (State.enableChans s m).except W = s.except W := by
  simp [State.enableChans, except_foldl, *]

@[simp] theorem State.imageLoad_except (s : State) (k : Nat) (m : Img) (h1 : Part.mem ∈ W) (h2 : Part.logs ∈ W) (h3 : Part.timers ∈ W) (h4 : Part.partState ∈ W) (h5 : Part.chans ∈ W) (h6 : Part.decs ∈ W) (h7 : Part.parts ∈ W) (h8 : Part.routes ∈ W) (h9 : Part.regs .plc ∈ W) (h10 : Part.regs .intg ∈ W) (h11 : Part.regs .chin ∈ W) (h12 : Part.regs .chenc ∈ W) (h13 : Part.regs .chdec ∈ W) (h14 : Part.regs .chtmr ∈ W) (h15 : Part.regs .hut1 ∈ W) :
    (State.imageLoad s k m).s.except W = s.except W := by
  unfold State.imageLoad
  dsimp only
  (repeat' split) <;> simp_all [except_foldl]

@[simp] theorem State.putReg_except (s : State) (p : Page) (off : Nat) (w : Word) (h1 : Part.regs p.blk ∈ W) :
    (State.putReg s p off w).except W = s.except W := by
  unfold State.putReg
  try dsimp only
  (repeat' split) <;> simp_all [except_foldl]

@[simp] theorem State.putDrawer_except (s : State) (m : Img) (c : Nat) (p : Nat) (t : Nat) (d : Nat) (h1 : Part.mem ∈ W) (h2 : Part.regs .drw ∈ W) :
    (State.putDrawer s m c p t d).except W = s.except W := by
  unfold State.putDrawer
  try dsimp only
  repeat' first
    | (with_reducible rfl)
    | (with_reducible refine (except_foldl _ (fun _ _ => ?_) _ _).trans ?_)
    | (with_reducible refine (except_foldl_fst _ (fun _ _ => ?_) _ _).trans ?_)
    | (with_reducible refine (except_foldl_snd _ (fun _ _ => ?_) _ _).trans ?_)
    | split
    | (simp [*]; done)
    | simp [*]

@[simp] theorem State.putShared_except (s : State) (m : Img) (k : Nat) (c : Nat) (p : Nat) (h1 : Part.mem ∈ W) (h2 : Part.regs .cctl ∈ W) (h3 : Part.regs .xpnd ∈ W) :
    (State.putShared s m k c p).except W = s.except W := by
  simp [State.putShared, except_foldl, *]

@[simp] theorem State.putQueues_except (s : State) (m : Img) (k : Nat) (c : Nat) (p : Nat) (h1 : Part.cabs ∈ W) :
    (State.putQueues s m k c p).except W = s.except W := by
  simp [State.putQueues, except_foldl, *]

@[simp] theorem State.putPages_except (s : State) (m : Img) (k : Nat) (c : Nat) (p : Nat) (t : Nat) (h1 : Part.regs .xpnd ∈ W) (h2 : Part.regs .hzn ∈ W) :
    (State.putPages s m k c p t).except W = s.except W := by
  simp [State.putPages, except_foldl, *]

@[simp] theorem State.openPos_except (s : State) (k : Nat) (p : Nat) (h1 : Part.mem ∈ W) (h2 : Part.locks ∈ W) (h3 : Part.timers ∈ W) (h4 : Part.chans ∈ W) (h5 : Part.decs ∈ W) (h6 : Part.cabs ∈ W) (h7 : Part.hutches ∈ W) (h8 : Part.routes ∈ W) (h9 : Part.regs .chin ∈ W) (h10 : Part.regs .chenc ∈ W) (h11 : Part.regs .chdec ∈ W) (h12 : Part.regs .chtmr ∈ W) (h13 : Part.regs .hut0 ∈ W) (h14 : Part.regs .hut1 ∈ W) (h15 : Part.regs .cctl ∈ W) (h16 : Part.regs .qmgr ∈ W) (h17 : Part.regs .spad ∈ W) (h18 : Part.regs .drw ∈ W) (h19 : Part.regs .trs ∈ W) (h20 : Part.regs .xpnd ∈ W) (h21 : Part.regs .hzn ∈ W) (h22 : Part.regs .rtr ∈ W) (h23 : Part.regs .cobs ∈ W) :
    (State.openPos s k p).except W = s.except W := by
  have hb : ∀ q, ∀ g ∈ cabPages q, Part.regs g.blk ∈ W := by
    intro q; simp [cabPages, *]
  unfold State.openPos
  rw [except_foldl_mem _ _ (fun g hg u => State.assign_except u _ g (by assumption) (hb _ g hg))]
  simp [*]

@[simp] theorem State.wake_except (s : State) (ds : List Nat) (h1 : Part.logs ∈ W) (h2 : Part.doms ∈ W) (h3 : Part.chans ∈ W) (h4 : Part.decs ∈ W) (h5 : Part.regs .pwr ∈ W) (h6 : Part.regs .intg ∈ W) (h7 : Part.regs .chin ∈ W) (h8 : Part.regs .drw ∈ W) :
    (State.wake s ds).except W = s.except W := by
  simp [State.wake, except_foldl, *]

@[simp] theorem State.putTrestles_except (s : State) (m : Img) (c : Nat) (p : Nat) (h1 : Part.mem ∈ W) :
    (State.putTrestles s m c p).except W = s.except W := by
  unfold State.putTrestles
  try dsimp only
  repeat' first
    | (with_reducible rfl)
    | (with_reducible refine (except_foldl _ (fun _ _ => ?_) _ _).trans ?_)
    | (with_reducible refine (except_foldl_fst _ (fun _ _ => ?_) _ _).trans ?_)
    | (with_reducible refine (except_foldl_snd _ (fun _ _ => ?_) _ _).trans ?_)
    | split
    | (simp [*]; done)
    | simp [*]

@[simp] theorem State.putCabinet_except (s : State) (k : Nat) (m : Img) (c : Nat) (p : Nat) (t : Nat) (h1 : Part.mem ∈ W) (h2 : Part.locks ∈ W) (h3 : Part.timers ∈ W) (h4 : Part.chans ∈ W) (h5 : Part.decs ∈ W) (h6 : Part.cabs ∈ W) (h7 : Part.hutches ∈ W) (h8 : Part.routes ∈ W) (h9 : Part.regs .chin ∈ W) (h10 : Part.regs .chenc ∈ W) (h11 : Part.regs .chdec ∈ W) (h12 : Part.regs .chtmr ∈ W) (h13 : Part.regs .hut0 ∈ W) (h14 : Part.regs .hut1 ∈ W) (h15 : Part.regs .cctl ∈ W) (h16 : Part.regs .qmgr ∈ W) (h17 : Part.regs .spad ∈ W) (h18 : Part.regs .drw ∈ W) (h19 : Part.regs .trs ∈ W) (h20 : Part.regs .xpnd ∈ W) (h21 : Part.regs .hzn ∈ W) (h22 : Part.regs .rtr ∈ W) (h23 : Part.regs .cobs ∈ W) :
    (State.putCabinet s k m c p t).except W = s.except W := by
  simp [State.putCabinet, except_foldl, *]

@[simp] theorem State.startSources_except (s : State) (k : Nat) (t : Nat) (h1 : Part.sources ∈ W) :
    (State.startSources s k t).except W = s.except W := by
  simp [State.startSources, except_foldl, *]

@[simp] theorem State.resumeSources_except (s : State) (k : Nat) (t : Nat) (h1 : Part.sources ∈ W) :
    (State.resumeSources s k t).except W = s.except W := by
  simp [State.resumeSources, except_foldl, *]

@[simp] theorem State.newMap_except (s : State) (k : Nat) (pos : List Nat) (h1 : Part.maps ∈ W) (h2 : Part.maps2 ∈ W) (h3 : Part.mapCur ∈ W) (h4 : Part.mapRe ∈ W) :
    (State.newMap s k pos).except W = s.except W := by
  simp [State.newMap, *]

@[simp] theorem State.forgetSeqs_except (s : State) (k : Nat) (h1 : Part.expect ∈ W) (h2 : Part.seqs ∈ W) :
    (State.forgetSeqs s k).except W = s.except W := by
  simp [State.forgetSeqs, *]

@[simp] theorem State.forgetKey_except (s : State) (k : Nat) (h1 : Part.net ∈ W) (h2 : Part.arrivals ∈ W) (h3 : Part.inbox ∈ W) (h4 : Part.robs ∈ W) (h5 : Part.expect ∈ W) (h6 : Part.seqs ∈ W) (h7 : Part.pressure ∈ W) (h8 : Part.leaves ∈ W) (h9 : Part.notices ∈ W) (h10 : Part.sources ∈ W) (h11 : Part.journals ∈ W) (h12 : Part.ckpts ∈ W) (h13 : Part.parkAreas ∈ W) (h14 : Part.regs .rtr ∈ W) :
    (State.forgetKey s k).except W = s.except W := by
  simp [State.forgetKey, *]

@[simp] theorem State.firstCkpts_except (s : State) (k : Nat) (t : Nat) (h1 : Part.mem ∈ W) (h2 : Part.logs ∈ W) (h3 : Part.journals ∈ W) (h4 : Part.ckpts ∈ W) (h5 : Part.regs .intg ∈ W) (h6 : Part.regs .hut0 ∈ W) :
    (State.firstCkpts s k t).except W = s.except W := by
  simp [State.firstCkpts, except_foldl, *]

@[simp] theorem State.bumpEp_except (s : State) (k : Nat) (h1 : Part.parts ∈ W) :
    (State.bumpEp s k).except W = s.except W := by
  simp [State.bumpEp, *]

@[simp] theorem State.spareLow_except (s : State) (before : Nat) (h1 : Part.regs .plc ∈ W) :
    (State.spareLow s before).except W = s.except W := by
  simp [State.spareLow, *]

@[simp] theorem State.startRun_except (s : State) (k : Nat) (t : Nat) (g : List Nat) (mw : Nat) (ew : Nat) (fresh : Bool) (h1 : Part.mem ∈ W) (h2 : Part.logs ∈ W) (h3 : Part.partState ∈ W) (h4 : Part.links ∈ W) (h5 : Part.leaves ∈ W) (h6 : Part.sources ∈ W) (h7 : Part.parts ∈ W) (h8 : Part.journals ∈ W) (h9 : Part.ckpts ∈ W) (h10 : Part.regs .bur ∈ W) (h11 : Part.regs .plc ∈ W) (h12 : Part.regs .intg ∈ W) (h13 : Part.regs .hut0 ∈ W) (h14 : Part.regs .rtr ∈ W) :
    (State.startRun s k t g mw ew fresh).except W = s.except W := by
  simp [State.startRun, *]

@[simp] theorem State.mapped_except (s : State) (k : Nat) (fresh : Bool) (pos : List Nat) (h1 : Part.maps ∈ W) (h2 : Part.maps2 ∈ W) (h3 : Part.mapCur ∈ W) (h4 : Part.mapRe ∈ W) :
    (State.mapped s k fresh pos).except W = s.except W := by
  simp [State.mapped, *]

@[simp] theorem State.startCabs_except (s : State) (k : Nat) (h1 : Part.logs ∈ W) (h2 : Part.cabs ∈ W) (h3 : Part.regs .intg ∈ W) (h4 : Part.regs .spad ∈ W) (h5 : Part.regs .xpnd ∈ W) (h6 : Part.regs .hzn ∈ W) :
    (State.startCabs s k).except W = s.except W := by
  simp [State.startCabs, except_foldl, *]

@[simp] theorem State.fitted_except (s : State) (k : Nat) (m : Img) (t : Nat) (fresh : Bool) (pos : List Nat) (h1 : Part.mem ∈ W) (h2 : Part.logs ∈ W) (h3 : Part.locks ∈ W) (h4 : Part.timers ∈ W) (h5 : Part.net ∈ W) (h6 : Part.arrivals ∈ W) (h7 : Part.inbox ∈ W) (h8 : Part.robs ∈ W) (h9 : Part.expect ∈ W) (h10 : Part.seqs ∈ W) (h11 : Part.pressure ∈ W) (h12 : Part.leaves ∈ W) (h13 : Part.notices ∈ W) (h14 : Part.sources ∈ W) (h15 : Part.chans ∈ W) (h16 : Part.decs ∈ W) (h17 : Part.cabs ∈ W) (h18 : Part.hutches ∈ W) (h19 : Part.journals ∈ W) (h20 : Part.ckpts ∈ W) (h21 : Part.parkAreas ∈ W) (h22 : Part.routes ∈ W) (h23 : Part.regs .intg ∈ W) (h24 : Part.regs .chin ∈ W) (h25 : Part.regs .chenc ∈ W) (h26 : Part.regs .chdec ∈ W) (h27 : Part.regs .chtmr ∈ W) (h28 : Part.regs .hut0 ∈ W) (h29 : Part.regs .hut1 ∈ W) (h30 : Part.regs .cctl ∈ W) (h31 : Part.regs .qmgr ∈ W) (h32 : Part.regs .spad ∈ W) (h33 : Part.regs .drw ∈ W) (h34 : Part.regs .trs ∈ W) (h35 : Part.regs .xpnd ∈ W) (h36 : Part.regs .hzn ∈ W) (h37 : Part.regs .rtr ∈ W) (h38 : Part.regs .cobs ∈ W) :
    (State.fitted s k m t fresh pos).except W = s.except W := by
  simp [State.fitted, except_foldl, *]


@[simp] theorem State.addMirror_except (s : State) (k : Nat) (x1 : (Nat × Nat) × Nat × Nat) (h1 : Part.mem ∈ W) (h2 : Part.regs .hut1 ∈ W) :
    (State.addMirror s k x1).except W = s.except W := by
  simp [State.addMirror, except_foldl, *]

@[simp] theorem State.takeAreas_except (s : State) (k : Nat) (m : Img) (fresh : Bool) (x1 : AreaPlan) (h1 : Part.mem ∈ W) (h2 : Part.parts ∈ W) (h3 : Part.regs .chdec ∈ W) (h4 : Part.regs .hut1 ∈ W) :
    (State.takeAreas s k m fresh x1).except W = s.except W := by
  simp [State.takeAreas, except_foldl, *]

@[simp] theorem State.startDo_except (s : State) (k : Nat) (t : Nat) (x1 : PartPlan) (h1 : Part.mem ∈ W) (h2 : Part.logs ∈ W) (h3 : Part.locks ∈ W) (h4 : Part.timers ∈ W) (h5 : Part.partState ∈ W) (h6 : Part.maps ∈ W) (h7 : Part.maps2 ∈ W) (h8 : Part.mapCur ∈ W) (h9 : Part.mapRe ∈ W) (h10 : Part.net ∈ W) (h11 : Part.arrivals ∈ W) (h12 : Part.inbox ∈ W) (h13 : Part.robs ∈ W) (h14 : Part.expect ∈ W) (h15 : Part.seqs ∈ W) (h16 : Part.pressure ∈ W) (h17 : Part.links ∈ W) (h18 : Part.leaves ∈ W) (h19 : Part.notices ∈ W) (h20 : Part.sources ∈ W) (h21 : Part.chans ∈ W) (h22 : Part.decs ∈ W) (h23 : Part.cabs ∈ W) (h24 : Part.hutches ∈ W) (h25 : Part.parts ∈ W) (h26 : Part.journals ∈ W) (h27 : Part.ckpts ∈ W) (h28 : Part.parkAreas ∈ W) (h29 : Part.routes ∈ W) (h30 : Part.regs .bur ∈ W) (h31 : Part.regs .plc ∈ W) (h32 : Part.regs .intg ∈ W) (h33 : Part.regs .chin ∈ W) (h34 : Part.regs .chenc ∈ W) (h35 : Part.regs .chdec ∈ W) (h36 : Part.regs .chtmr ∈ W) (h37 : Part.regs .hut0 ∈ W) (h38 : Part.regs .hut1 ∈ W) (h39 : Part.regs .cctl ∈ W) (h40 : Part.regs .qmgr ∈ W) (h41 : Part.regs .spad ∈ W) (h42 : Part.regs .drw ∈ W) (h43 : Part.regs .trs ∈ W) (h44 : Part.regs .xpnd ∈ W) (h45 : Part.regs .hzn ∈ W) (h46 : Part.regs .rtr ∈ W) (h47 : Part.regs .cobs ∈ W) :
    (State.startDo s k t x1).except W = s.except W := by
  simp [State.startDo, *]

/-- A start that is refused leaves the state as it is, or counts the refusal. -/
theorem State.startPlan_error {s : State} {k t : Nat} {o : MbOut} (h : s.startPlan k t = .error o) : o.s = s ∨ o.s = s.refused := by
  unfold State.startPlan at h
  dsimp only at h
  (repeat' split at h) <;> first
    | (cases h; done)
    | (cases h; simp)

@[simp] theorem State.stopped_except (s : State) (k : Nat) (discard : Bool) (h1 : Part.mem ∈ W) (h2 : Part.logs ∈ W) (h3 : Part.partState ∈ W) (h4 : Part.decs ∈ W) (h5 : Part.regs .intg ∈ W) (h6 : Part.regs .chdec ∈ W) (h7 : Part.regs .hut0 ∈ W) :
    (State.stopped s k discard).except W = s.except W := by
  simp [State.stopped, except_foldl, *]

@[simp] theorem State.closePos_except (s : State) (p : Nat) (h1 : Part.mem ∈ W) (h2 : Part.locks ∈ W) (h3 : Part.timers ∈ W) (h4 : Part.doms ∈ W) (h5 : Part.chans ∈ W) (h6 : Part.decs ∈ W) (h7 : Part.cabs ∈ W) (h8 : Part.hutches ∈ W) (h9 : Part.routes ∈ W) (h10 : Part.regs .chin ∈ W) (h11 : Part.regs .chenc ∈ W) (h12 : Part.regs .chdec ∈ W) (h13 : Part.regs .chtmr ∈ W) (h14 : Part.regs .hut0 ∈ W) (h15 : Part.regs .hut1 ∈ W) (h16 : Part.regs .cctl ∈ W) (h17 : Part.regs .qmgr ∈ W) (h18 : Part.regs .spad ∈ W) (h19 : Part.regs .drw ∈ W) (h20 : Part.regs .trs ∈ W) (h21 : Part.regs .xpnd ∈ W) (h22 : Part.regs .hzn ∈ W) (h23 : Part.regs .rtr ∈ W) (h24 : Part.regs .cobs ∈ W) :
    (State.closePos s p).except W = s.except W := by
  have hb : ∀ q, ∀ g ∈ cabPages q, Part.regs g.blk ∈ W := by
    intro q; simp [cabPages, *]
  have ha : State.except ((cabPages p).foldl (State.assign · 0) s) W = s.except W :=
    except_foldl_mem _ _ (fun g hg u => State.assign_except u _ g (by assumption) (hb _ g hg)) _
  unfold State.closePos
  simp [ha, *]

@[simp] theorem State.partRelease_except (s : State) (k : Nat) (h1 : Part.mem ∈ W) (h2 : Part.logs ∈ W) (h3 : Part.locks ∈ W) (h4 : Part.timers ∈ W) (h5 : Part.doms ∈ W) (h6 : Part.partState ∈ W) (h7 : Part.maps ∈ W) (h8 : Part.maps2 ∈ W) (h9 : Part.mapCur ∈ W) (h10 : Part.mapRe ∈ W) (h11 : Part.net ∈ W) (h12 : Part.arrivals ∈ W) (h13 : Part.inbox ∈ W) (h14 : Part.robs ∈ W) (h15 : Part.expect ∈ W) (h16 : Part.seqs ∈ W) (h17 : Part.pressure ∈ W) (h18 : Part.links ∈ W) (h19 : Part.leaves ∈ W) (h20 : Part.notices ∈ W) (h21 : Part.sources ∈ W) (h22 : Part.chans ∈ W) (h23 : Part.decs ∈ W) (h24 : Part.cabs ∈ W) (h25 : Part.hutches ∈ W) (h26 : Part.parts ∈ W) (h27 : Part.journals ∈ W) (h28 : Part.ckpts ∈ W) (h29 : Part.parkAreas ∈ W) (h30 : Part.routes ∈ W) (h31 : Part.regs .bur ∈ W) (h32 : Part.regs .plc ∈ W) (h33 : Part.regs .intg ∈ W) (h34 : Part.regs .chin ∈ W) (h35 : Part.regs .chenc ∈ W) (h36 : Part.regs .chdec ∈ W) (h37 : Part.regs .chtmr ∈ W) (h38 : Part.regs .hut0 ∈ W) (h39 : Part.regs .hut1 ∈ W) (h40 : Part.regs .cctl ∈ W) (h41 : Part.regs .qmgr ∈ W) (h42 : Part.regs .spad ∈ W) (h43 : Part.regs .drw ∈ W) (h44 : Part.regs .trs ∈ W) (h45 : Part.regs .xpnd ∈ W) (h46 : Part.regs .hzn ∈ W) (h47 : Part.regs .rtr ∈ W) (h48 : Part.regs .cobs ∈ W) :
    (State.partRelease s k).except W = s.except W := by
  simp [State.partRelease, except_foldl, *]

end Sys2Proof.Machine
end

