-- ==== Sys2Proof/Laws/FrameMigrate.lean ====
section
/-!
SUPPORT. FrameMigrate.lean: for each operation of Migrate.lean, the parts of the state it may change: it leaves everything outside W as it was,
whenever W holds those parts.
-/

namespace Sys2Proof.Machine

variable {W : List Part}

@[simp] theorem State.putMb_except (s : State) (m : MbCmd) (n : MbCmd) (h1 : Part.mbox ∈ W) :
    (State.putMb s m n).except W = s.except W := by
  simp [State.putMb, *]

@[simp] theorem State.copyPage_except (s : State) (a : Page) (b : Page) (h1 : Part.regs b.blk ∈ W) :
    (State.copyPage s a b).except W = s.except W := by
  simp [State.copyPage, except_foldl, *]

@[simp] theorem State.copyPages_except (s : State) (p : Nat) (q : Nat) (h1 : Part.regs .cctl ∈ W) (h2 : Part.regs .qmgr ∈ W) (h3 : Part.regs .spad ∈ W) (h4 : Part.regs .drw ∈ W) (h5 : Part.regs .trs ∈ W) (h6 : Part.regs .xpnd ∈ W) (h7 : Part.regs .hzn ∈ W) (h8 : Part.regs .rtr ∈ W) (h9 : Part.regs .cobs ∈ W) :
    (State.copyPages s p q).except W = s.except W := by
  have hb : ∀ q, ∀ g ∈ cabPages q, Part.regs g.blk ∈ W := by
    intro q; simp [cabPages, *]
  unfold State.copyPages
  refine except_foldl_mem _ _ (fun e he u => ?_) _
  exact State.copyPage_except _ _ _ (hb _ _ (List.of_mem_zip he).2)

@[simp] theorem State.loadPages_except (s : State) (q : Nat) (l : List (Nat × Word)) (h1 : Part.regs .cctl ∈ W) (h2 : Part.regs .qmgr ∈ W) (h3 : Part.regs .spad ∈ W) (h4 : Part.regs .drw ∈ W) (h5 : Part.regs .trs ∈ W) (h6 : Part.regs .xpnd ∈ W) (h7 : Part.regs .hzn ∈ W) (h8 : Part.regs .rtr ∈ W) (h9 : Part.regs .cobs ∈ W) :
    (State.loadPages s q l).except W = s.except W := by
  have hb : ∀ q, ∀ g ∈ cabPages q, Part.regs g.blk ∈ W := by
    intro q; simp [cabPages, *]
  unfold State.loadPages
  refine except_foldl _ (fun u e => ?_) _ _
  split
  · next pg hp =>
    have := hb _ pg (List.mem_of_getElem? hp)
    split <;> simp [*]
  · rfl

@[simp] theorem State.putCabBytes_except (s : State) (q : Nat) (l : List (Nat × Byte)) (h1 : Part.mem ∈ W) :
    (State.putCabBytes s q l).except W = s.except W := by
  simp [State.putCabBytes, except_foldl, *]

@[simp] theorem State.pauseAll_except (s : State) (p : Nat) (b : Bool) (h1 : Part.regs .cctl ∈ W) (h2 : Part.regs .drw ∈ W) (h3 : Part.regs .trs ∈ W) :
    (State.pauseAll s p b).except W = s.except W := by
  simp [State.pauseAll, except_foldl, *]

@[simp] theorem State.freezeCab_except (s : State) (p : Nat) (h1 : Part.cabs ∈ W) (h2 : Part.regs .cctl ∈ W) (h3 : Part.regs .drw ∈ W) (h4 : Part.regs .trs ∈ W) :
    (State.freezeCab s p).except W = s.except W := by
  simp [State.freezeCab, *]

@[simp] theorem State.unfreezeCab_except (s : State) (p : Nat) (h1 : Part.inbox ∈ W) (h2 : Part.cabs ∈ W) (h3 : Part.regs .cctl ∈ W) (h4 : Part.regs .drw ∈ W) (h5 : Part.regs .trs ∈ W) :
    (State.unfreezeCab s p).except W = s.except W := by
  simp [State.unfreezeCab, except_foldl, *]

@[simp] theorem State.newHolder_except (s : State) (k : Nat) (p : Nat) (h1 : Part.mapCur ∈ W) (h2 : Part.mapRe ∈ W) :
    (State.newHolder s k p).except W = s.except W := by
  simp [State.newHolder, *]

@[simp] theorem State.moveStart_except (s : State) (m : MbCmd) (c : Nat) (src : Nat) (dst : Nat) (h1 : Part.mem ∈ W) (h2 : Part.logs ∈ W) (h3 : Part.locks ∈ W) (h4 : Part.timers ∈ W) (h5 : Part.doms ∈ W) (h6 : Part.mapCur ∈ W) (h7 : Part.mapRe ∈ W) (h8 : Part.leaves ∈ W) (h9 : Part.chans ∈ W) (h10 : Part.decs ∈ W) (h11 : Part.cabs ∈ W) (h12 : Part.hutches ∈ W) (h13 : Part.routes ∈ W) (h14 : Part.mbox ∈ W) (h15 : Part.regs .pwr ∈ W) (h16 : Part.regs .plc ∈ W) (h17 : Part.regs .intg ∈ W) (h18 : Part.regs .chin ∈ W) (h19 : Part.regs .chenc ∈ W) (h20 : Part.regs .chdec ∈ W) (h21 : Part.regs .chtmr ∈ W) (h22 : Part.regs .hut0 ∈ W) (h23 : Part.regs .hut1 ∈ W) (h24 : Part.regs .cctl ∈ W) (h25 : Part.regs .qmgr ∈ W) (h26 : Part.regs .spad ∈ W) (h27 : Part.regs .drw ∈ W) (h28 : Part.regs .trs ∈ W) (h29 : Part.regs .xpnd ∈ W) (h30 : Part.regs .hzn ∈ W) (h31 : Part.regs .rtr ∈ W) (h32 : Part.regs .cobs ∈ W) :
    (State.moveStart s m c src dst).except W = s.except W := by
  simp [State.moveStart, *]

@[simp] theorem execMigrationFreeze_frames (f : Nat) (s : State) (h1 : Part.cabs ∈ W) (h2 : Part.mbox ∈ W) (h3 : Part.regs .cctl ∈ W) (h4 : Part.regs .drw ∈ W) (h5 : Part.regs .trs ∈ W) :
    Result.frames (execMigrationFreeze f s) W s := by
  unfold execMigrationFreeze
  (repeat' split) <;> simp [*]

@[simp] theorem State.writeInactive_except (s : State) (k : Nat) (c : Nat) (e : MapEntry) (h1 : Part.maps ∈ W) (h2 : Part.maps2 ∈ W) :
    (State.writeInactive s k c e).except W = s.except W := by
  simp [State.writeInactive, *]

@[simp] theorem State.mapSwitch_except (s : State) (k : Nat) (re : Nat) (h1 : Part.mapRe ∈ W) (h2 : Part.net ∈ W) (h3 : Part.seqs ∈ W) (h4 : Part.sources ∈ W) :
    (State.mapSwitch s k re).except W = s.except W := by
  simp [State.mapSwitch, *]

@[simp] theorem State.blankPos_except (s : State) (q : Nat) (h1 : Part.mem ∈ W) (h2 : Part.regs .cctl ∈ W) (h3 : Part.regs .qmgr ∈ W) (h4 : Part.regs .spad ∈ W) (h5 : Part.regs .drw ∈ W) (h6 : Part.regs .trs ∈ W) (h7 : Part.regs .xpnd ∈ W) (h8 : Part.regs .hzn ∈ W) (h9 : Part.regs .rtr ∈ W) (h10 : Part.regs .cobs ∈ W) :
    (State.blankPos s q).except W = s.except W := by
  have hb : ∀ q, ∀ g ∈ cabPages q, Part.regs g.blk ∈ W := by
    intro q; simp [cabPages, *]
  unfold State.blankPos
  have hf : State.except ((cabPages q).foldl State.resetPage s) W = s.except W := except_foldl_mem _ _ (fun g hg u => by simp [hb q g hg, *]) s
  simp [hf, *]

@[simp] theorem State.copyCab_except (s : State) (p : Nat) (q : Nat) (h1 : Part.mem ∈ W) (h2 : Part.cabs ∈ W) (h3 : Part.regs .cctl ∈ W) (h4 : Part.regs .qmgr ∈ W) (h5 : Part.regs .spad ∈ W) (h6 : Part.regs .drw ∈ W) (h7 : Part.regs .trs ∈ W) (h8 : Part.regs .xpnd ∈ W) (h9 : Part.regs .hzn ∈ W) (h10 : Part.regs .rtr ∈ W) (h11 : Part.regs .cobs ∈ W) :
    (State.copyCab s p q).except W = s.except W := by
  simp [State.copyCab, *]

@[simp] theorem State.parkCab_except (s : State) (k : Nat) (c : Nat) (p : Nat) (h1 : Part.parkAreas ∈ W) :
    (State.parkCab s k c p).except W = s.except W := by
  simp [State.parkCab, *]

@[simp] theorem State.returnCab_except (s : State) (k : Nat) (c : Nat) (q : Nat) (h1 : Part.mem ∈ W) (h2 : Part.cabs ∈ W) (h3 : Part.regs .cctl ∈ W) (h4 : Part.regs .qmgr ∈ W) (h5 : Part.regs .spad ∈ W) (h6 : Part.regs .drw ∈ W) (h7 : Part.regs .trs ∈ W) (h8 : Part.regs .xpnd ∈ W) (h9 : Part.regs .hzn ∈ W) (h10 : Part.regs .rtr ∈ W) (h11 : Part.regs .cobs ∈ W) :
    (State.returnCab s k c q).except W = s.except W := by
  unfold State.returnCab
  (repeat' split) <;> simp [except_foldl, *]

@[simp] theorem execMigrationCopyDone_frames (f : Nat) (s : State) (h1 : Part.mem ∈ W) (h2 : Part.maps ∈ W) (h3 : Part.maps2 ∈ W) (h4 : Part.mapRe ∈ W) (h5 : Part.net ∈ W) (h6 : Part.seqs ∈ W) (h7 : Part.leaves ∈ W) (h8 : Part.sources ∈ W) (h9 : Part.cabs ∈ W) (h10 : Part.parkAreas ∈ W) (h11 : Part.mbox ∈ W) (h12 : Part.regs .cctl ∈ W) (h13 : Part.regs .qmgr ∈ W) (h14 : Part.regs .spad ∈ W) (h15 : Part.regs .drw ∈ W) (h16 : Part.regs .trs ∈ W) (h17 : Part.regs .xpnd ∈ W) (h18 : Part.regs .hzn ∈ W) (h19 : Part.regs .rtr ∈ W) (h20 : Part.regs .cobs ∈ W) :
    Result.frames (execMigrationCopyDone f s) W s := by
  unfold execMigrationCopyDone
  (repeat' split) <;> simp [*]

@[simp] theorem State.forward_except (s : State) (m : MbCmd) (h1 : Part.links ∈ W) (h2 : Part.regs .rtr ∈ W) :
    (State.forward s m).except W = s.except W := by
  simp [State.forward, *]

@[simp] theorem State.targetRuns_except (s : State) (m : MbCmd) (h1 : Part.logs ∈ W) (h2 : Part.arrivals ∈ W) (h3 : Part.inbox ∈ W) (h4 : Part.robs ∈ W) (h5 : Part.pressure ∈ W) (h6 : Part.cabs ∈ W) (h7 : Part.parkAreas ∈ W) (h8 : Part.regs .intg ∈ W) (h9 : Part.regs .cctl ∈ W) (h10 : Part.regs .spad ∈ W) (h11 : Part.regs .drw ∈ W) (h12 : Part.regs .trs ∈ W) (h13 : Part.regs .xpnd ∈ W) (h14 : Part.regs .hzn ∈ W) (h15 : Part.regs .rtr ∈ W) :
    (State.targetRuns s m).except W = s.except W := by
  simp [State.targetRuns, except_foldl, *]

@[simp] theorem State.parkLeft_except (s : State) (m : MbCmd) (h1 : Part.logs ∈ W) (h2 : Part.arrivals ∈ W) (h3 : Part.inbox ∈ W) (h4 : Part.notices ∈ W) (h5 : Part.regs .plc ∈ W) (h6 : Part.regs .intg ∈ W) :
    (State.parkLeft s m).except W = s.except W := by
  simp [State.parkLeft, except_foldl, *]

@[simp] theorem State.takeOver_except (s : State) (e : Nat) (inst : Nat) (h1 : Part.logs ∈ W) (h2 : Part.arrivals ∈ W) (h3 : Part.inbox ∈ W) (h4 : Part.robs ∈ W) (h5 : Part.pressure ∈ W) (h6 : Part.links ∈ W) (h7 : Part.notices ∈ W) (h8 : Part.sources ∈ W) (h9 : Part.cabs ∈ W) (h10 : Part.parkAreas ∈ W) (h11 : Part.mbox ∈ W) (h12 : Part.regs .plc ∈ W) (h13 : Part.regs .intg ∈ W) (h14 : Part.regs .cctl ∈ W) (h15 : Part.regs .spad ∈ W) (h16 : Part.regs .drw ∈ W) (h17 : Part.regs .trs ∈ W) (h18 : Part.regs .xpnd ∈ W) (h19 : Part.regs .hzn ∈ W) (h20 : Part.regs .rtr ∈ W) :
    (State.takeOver s e inst).except W = s.except W := by
  unfold State.takeOver
  (repeat' split) <;> simp [*]

@[simp] theorem State.putRec_except (s : State) (r : Recov) (x : Recov) (h1 : Part.recov ∈ W) :
    (State.putRec s r x).except W = s.except W := by
  simp [State.putRec, *]

@[simp] theorem State.replayEnds_except (s : State) (p : Nat) (logs : List Flit) (h1 : Part.inbox ∈ W) (h2 : Part.cabs ∈ W) :
    (State.replayEnds s p logs).except W = s.except W := by
  simp [State.replayEnds, except_foldl, *]

@[simp] theorem State.recTakeOver_except (s : State) (e : Nat) (inst : Nat) (h1 : Part.inbox ∈ W) (h2 : Part.robs ∈ W) (h3 : Part.pressure ∈ W) (h4 : Part.links ∈ W) (h5 : Part.sources ∈ W) (h6 : Part.cabs ∈ W) (h7 : Part.recov ∈ W) (h8 : Part.regs .hzn ∈ W) (h9 : Part.regs .rtr ∈ W) :
    (State.recTakeOver s e inst).except W = s.except W := by
  unfold State.recTakeOver
  (repeat' split) <;> simp [*]

@[simp] theorem State.swapSpare_except (s : State) (src : Nat) (dst : Nat) (h1 : Part.boot ∈ W) :
    (State.swapSpare s src dst).except W = s.except W := by
  simp [State.swapSpare, *]

@[simp] theorem State.moveEnd_except (s : State) (m : MbCmd) (h1 : Part.mem ∈ W) (h2 : Part.locks ∈ W) (h3 : Part.timers ∈ W) (h4 : Part.doms ∈ W) (h5 : Part.leaves ∈ W) (h6 : Part.chans ∈ W) (h7 : Part.decs ∈ W) (h8 : Part.cabs ∈ W) (h9 : Part.hutches ∈ W) (h10 : Part.parts ∈ W) (h11 : Part.boot ∈ W) (h12 : Part.routes ∈ W) (h13 : Part.regs .plc ∈ W) (h14 : Part.regs .chin ∈ W) (h15 : Part.regs .chenc ∈ W) (h16 : Part.regs .chdec ∈ W) (h17 : Part.regs .chtmr ∈ W) (h18 : Part.regs .hut0 ∈ W) (h19 : Part.regs .hut1 ∈ W) (h20 : Part.regs .cctl ∈ W) (h21 : Part.regs .qmgr ∈ W) (h22 : Part.regs .spad ∈ W) (h23 : Part.regs .drw ∈ W) (h24 : Part.regs .trs ∈ W) (h25 : Part.regs .xpnd ∈ W) (h26 : Part.regs .hzn ∈ W) (h27 : Part.regs .rtr ∈ W) (h28 : Part.regs .cobs ∈ W) :
    (State.moveEnd s m).except W = s.except W := by
  simp [State.moveEnd, *]

@[simp] theorem State.moveAbandon_except (s : State) (m : MbCmd) (h1 : Part.mem ∈ W) (h2 : Part.logs ∈ W) (h3 : Part.locks ∈ W) (h4 : Part.timers ∈ W) (h5 : Part.doms ∈ W) (h6 : Part.maps ∈ W) (h7 : Part.maps2 ∈ W) (h8 : Part.mapRe ∈ W) (h9 : Part.net ∈ W) (h10 : Part.inbox ∈ W) (h11 : Part.seqs ∈ W) (h12 : Part.leaves ∈ W) (h13 : Part.sources ∈ W) (h14 : Part.chans ∈ W) (h15 : Part.decs ∈ W) (h16 : Part.cabs ∈ W) (h17 : Part.hutches ∈ W) (h18 : Part.routes ∈ W) (h19 : Part.mbox ∈ W) (h20 : Part.regs .plc ∈ W) (h21 : Part.regs .intg ∈ W) (h22 : Part.regs .chin ∈ W) (h23 : Part.regs .chenc ∈ W) (h24 : Part.regs .chdec ∈ W) (h25 : Part.regs .chtmr ∈ W) (h26 : Part.regs .hut0 ∈ W) (h27 : Part.regs .hut1 ∈ W) (h28 : Part.regs .cctl ∈ W) (h29 : Part.regs .qmgr ∈ W) (h30 : Part.regs .spad ∈ W) (h31 : Part.regs .drw ∈ W) (h32 : Part.regs .trs ∈ W) (h33 : Part.regs .xpnd ∈ W) (h34 : Part.regs .hzn ∈ W) (h35 : Part.regs .rtr ∈ W) (h36 : Part.regs .cobs ∈ W) :
    (State.moveAbandon s m).except W = s.except W := by
  simp [State.moveAbandon, *]

end Sys2Proof.Machine
end

