-- ==== Sys2Proof/Laws/FrameMailbox.lean ====
section
/-!
SUPPORT. FrameMailbox.lean: for each operation of Mailbox.lean, the parts of the state it may change: it leaves everything outside W as it was,
whenever W holds those parts.
-/

namespace Sys2Proof.Machine

variable {W : List Part}

@[simp] theorem State.mbOut_except (m : MbCmd) (o : MbOut) (h0 : Part.mbox ∈ W) : (State.mbOut m o).except W = o.s.except W := by
  simp [State.mbOut, *]

@[simp] theorem State.mbEnd_except (s : State) (m : MbCmd) (st : MbSt) (h1 : Part.mbox ∈ W) :
    (State.mbEnd s m st).except W = s.except W := by
  simp [State.mbEnd, *]


/-- A start acts on its plan: a plan that refuses must itself leave the state outside W as it is. -/
theorem State.mbStartWith_except (s : State) (m : MbCmd) (t : Nat) (plan : Except MbOut PartPlan) (hp : ∀ o, plan = .error o → o.s.except W = s.except W) (h1 : Part.mem ∈ W) (h2 : Part.logs ∈ W) (h3 : Part.locks ∈ W) (h4 : Part.timers ∈ W) (h5 : Part.doms ∈ W) (h6 : Part.partState ∈ W) (h7 : Part.maps ∈ W) (h8 : Part.maps2 ∈ W) (h9 : Part.mapCur ∈ W) (h10 : Part.mapRe ∈ W) (h11 : Part.net ∈ W) (h12 : Part.arrivals ∈ W) (h13 : Part.inbox ∈ W) (h14 : Part.robs ∈ W) (h15 : Part.expect ∈ W) (h16 : Part.seqs ∈ W) (h17 : Part.pressure ∈ W) (h18 : Part.links ∈ W) (h19 : Part.leaves ∈ W) (h20 : Part.notices ∈ W) (h21 : Part.sources ∈ W) (h22 : Part.chans ∈ W) (h23 : Part.decs ∈ W) (h24 : Part.cabs ∈ W) (h25 : Part.hutches ∈ W) (h26 : Part.parts ∈ W) (h27 : Part.journals ∈ W) (h28 : Part.ckpts ∈ W) (h29 : Part.parkAreas ∈ W) (h30 : Part.routes ∈ W) (h31 : Part.mbox ∈ W) (h32 : Part.regs .bur ∈ W) (h33 : Part.regs .pwr ∈ W) (h34 : Part.regs .plc ∈ W) (h35 : Part.regs .intg ∈ W) (h36 : Part.regs .chin ∈ W) (h37 : Part.regs .chenc ∈ W) (h38 : Part.regs .chdec ∈ W) (h39 : Part.regs .chtmr ∈ W) (h40 : Part.regs .hut0 ∈ W) (h41 : Part.regs .hut1 ∈ W) (h42 : Part.regs .cctl ∈ W) (h43 : Part.regs .qmgr ∈ W) (h44 : Part.regs .spad ∈ W) (h45 : Part.regs .drw ∈ W) (h46 : Part.regs .trs ∈ W) (h47 : Part.regs .xpnd ∈ W) (h48 : Part.regs .hzn ∈ W) (h49 : Part.regs .rtr ∈ W) (h50 : Part.regs .cobs ∈ W) :
    (State.mbStartWith s m t plan).except W = s.except W := by
  cases plan with
  | error o =>
    have ho := hp o rfl
    clear hp
    simp [State.mbStartWith, ho, *]
  | ok x =>
    clear hp
    simp only [State.mbStartWith]
    split <;> simp [State.mbOut, *]

@[simp] theorem State.mbConfig_except (s : State) (m : MbCmd) (h1 : Part.parts ∈ W) (h2 : Part.mbox ∈ W) (h3 : Part.regs .chdec ∈ W) :
    (State.mbConfig s m).except W = s.except W := by
  simp [State.mbConfig, except_foldl, *]

@[simp] theorem State.mbStartGo_except (s : State) (m : MbCmd) (h1 : Part.mem ∈ W) (h2 : Part.logs ∈ W) (h3 : Part.locks ∈ W) (h4 : Part.timers ∈ W) (h5 : Part.doms ∈ W) (h6 : Part.partState ∈ W) (h7 : Part.maps ∈ W) (h8 : Part.maps2 ∈ W) (h9 : Part.mapCur ∈ W) (h10 : Part.mapRe ∈ W) (h11 : Part.net ∈ W) (h12 : Part.arrivals ∈ W) (h13 : Part.inbox ∈ W) (h14 : Part.robs ∈ W) (h15 : Part.expect ∈ W) (h16 : Part.seqs ∈ W) (h17 : Part.pressure ∈ W) (h18 : Part.links ∈ W) (h19 : Part.leaves ∈ W) (h20 : Part.notices ∈ W) (h21 : Part.sources ∈ W) (h22 : Part.chans ∈ W) (h23 : Part.decs ∈ W) (h24 : Part.cabs ∈ W) (h25 : Part.hutches ∈ W) (h26 : Part.parts ∈ W) (h27 : Part.journals ∈ W) (h28 : Part.ckpts ∈ W) (h29 : Part.parkAreas ∈ W) (h30 : Part.routes ∈ W) (h31 : Part.mbox ∈ W) (h32 : Part.regs .bur ∈ W) (h33 : Part.regs .pwr ∈ W) (h34 : Part.regs .plc ∈ W) (h35 : Part.regs .intg ∈ W) (h36 : Part.regs .chin ∈ W) (h37 : Part.regs .chenc ∈ W) (h38 : Part.regs .chdec ∈ W) (h39 : Part.regs .chtmr ∈ W) (h40 : Part.regs .hut0 ∈ W) (h41 : Part.regs .hut1 ∈ W) (h42 : Part.regs .cctl ∈ W) (h43 : Part.regs .qmgr ∈ W) (h44 : Part.regs .spad ∈ W) (h45 : Part.regs .drw ∈ W) (h46 : Part.regs .trs ∈ W) (h47 : Part.regs .xpnd ∈ W) (h48 : Part.regs .hzn ∈ W) (h49 : Part.regs .rtr ∈ W) (h50 : Part.regs .cobs ∈ W) :
    (State.mbStartGo s m).except W = s.except W := by
  unfold State.mbStartGo
  refine State.mbStartWith_except _ _ _ _ (fun o ho => ?_) h1 h2 h3 h4 h5 h6 h7 h8 h9 h10 h11 h12 h13 h14 h15 h16 h17 h18 h19 h20 h21 h22 h23 h24 h25 h26 h27 h28 h29 h30 h31 h32 h33 h34 h35 h36 h37 h38 h39 h40 h41 h42 h43 h44 h45 h46 h47 h48 h49 h50
  rcases State.startPlan_error ho with h | h <;> rw [h]
  simp [State.refused, *]

@[simp] theorem State.mbPartStart_except (s : State) (m : MbCmd) (h1 : Part.mem ∈ W) (h2 : Part.logs ∈ W) (h3 : Part.locks ∈ W) (h4 : Part.timers ∈ W) (h5 : Part.doms ∈ W) (h6 : Part.partState ∈ W) (h7 : Part.maps ∈ W) (h8 : Part.maps2 ∈ W) (h9 : Part.mapCur ∈ W) (h10 : Part.mapRe ∈ W) (h11 : Part.net ∈ W) (h12 : Part.arrivals ∈ W) (h13 : Part.inbox ∈ W) (h14 : Part.robs ∈ W) (h15 : Part.expect ∈ W) (h16 : Part.seqs ∈ W) (h17 : Part.pressure ∈ W) (h18 : Part.links ∈ W) (h19 : Part.leaves ∈ W) (h20 : Part.notices ∈ W) (h21 : Part.sources ∈ W) (h22 : Part.chans ∈ W) (h23 : Part.decs ∈ W) (h24 : Part.cabs ∈ W) (h25 : Part.hutches ∈ W) (h26 : Part.parts ∈ W) (h27 : Part.journals ∈ W) (h28 : Part.ckpts ∈ W) (h29 : Part.parkAreas ∈ W) (h30 : Part.routes ∈ W) (h31 : Part.mbox ∈ W) (h32 : Part.regs .bur ∈ W) (h33 : Part.regs .pwr ∈ W) (h34 : Part.regs .plc ∈ W) (h35 : Part.regs .intg ∈ W) (h36 : Part.regs .chin ∈ W) (h37 : Part.regs .chenc ∈ W) (h38 : Part.regs .chdec ∈ W) (h39 : Part.regs .chtmr ∈ W) (h40 : Part.regs .hut0 ∈ W) (h41 : Part.regs .hut1 ∈ W) (h42 : Part.regs .cctl ∈ W) (h43 : Part.regs .qmgr ∈ W) (h44 : Part.regs .spad ∈ W) (h45 : Part.regs .drw ∈ W) (h46 : Part.regs .trs ∈ W) (h47 : Part.regs .xpnd ∈ W) (h48 : Part.regs .hzn ∈ W) (h49 : Part.regs .rtr ∈ W) (h50 : Part.regs .cobs ∈ W) :
    (State.mbPartStart s m).except W = s.except W := by
  fun_cases State.mbPartStart s m <;> simp [*]

@[simp] theorem State.mbStop_except (s : State) (m : MbCmd) (h1 : Part.parts ∈ W) (h2 : Part.mbox ∈ W) :
    (State.mbStop s m).except W = s.except W := by
  simp [State.mbStop, *]

@[simp] theorem State.mbRelease_except (s : State) (m : MbCmd) (h1 : Part.mem ∈ W) (h2 : Part.logs ∈ W) (h3 : Part.locks ∈ W) (h4 : Part.timers ∈ W) (h5 : Part.doms ∈ W) (h6 : Part.partState ∈ W) (h7 : Part.maps ∈ W) (h8 : Part.maps2 ∈ W) (h9 : Part.mapCur ∈ W) (h10 : Part.mapRe ∈ W) (h11 : Part.net ∈ W) (h12 : Part.arrivals ∈ W) (h13 : Part.inbox ∈ W) (h14 : Part.robs ∈ W) (h15 : Part.expect ∈ W) (h16 : Part.seqs ∈ W) (h17 : Part.pressure ∈ W) (h18 : Part.links ∈ W) (h19 : Part.leaves ∈ W) (h20 : Part.notices ∈ W) (h21 : Part.sources ∈ W) (h22 : Part.chans ∈ W) (h23 : Part.decs ∈ W) (h24 : Part.cabs ∈ W) (h25 : Part.hutches ∈ W) (h26 : Part.parts ∈ W) (h27 : Part.journals ∈ W) (h28 : Part.ckpts ∈ W) (h29 : Part.parkAreas ∈ W) (h30 : Part.routes ∈ W) (h31 : Part.mbox ∈ W) (h32 : Part.regs .bur ∈ W) (h33 : Part.regs .plc ∈ W) (h34 : Part.regs .intg ∈ W) (h35 : Part.regs .chin ∈ W) (h36 : Part.regs .chenc ∈ W) (h37 : Part.regs .chdec ∈ W) (h38 : Part.regs .chtmr ∈ W) (h39 : Part.regs .hut0 ∈ W) (h40 : Part.regs .hut1 ∈ W) (h41 : Part.regs .cctl ∈ W) (h42 : Part.regs .qmgr ∈ W) (h43 : Part.regs .spad ∈ W) (h44 : Part.regs .drw ∈ W) (h45 : Part.regs .trs ∈ W) (h46 : Part.regs .xpnd ∈ W) (h47 : Part.regs .hzn ∈ W) (h48 : Part.regs .rtr ∈ W) (h49 : Part.regs .cobs ∈ W) :
    (State.mbRelease s m).except W = s.except W := by
  simp [State.mbRelease, *]

@[simp] theorem State.mbNoPos_except (s : State) (m : MbCmd) (h1 : Part.mbox ∈ W) (h2 : Part.regs .plc ∈ W) :
    (State.mbNoPos s m).except W = s.except W := by
  simp [State.mbNoPos, *]

@[simp] theorem State.mbMigrate_except (s : State) (m : MbCmd) (h1 : Part.mem ∈ W) (h2 : Part.logs ∈ W) (h3 : Part.locks ∈ W) (h4 : Part.timers ∈ W) (h5 : Part.doms ∈ W) (h6 : Part.mapCur ∈ W) (h7 : Part.mapRe ∈ W) (h8 : Part.leaves ∈ W) (h9 : Part.chans ∈ W) (h10 : Part.decs ∈ W) (h11 : Part.cabs ∈ W) (h12 : Part.hutches ∈ W) (h13 : Part.routes ∈ W) (h14 : Part.mbox ∈ W) (h15 : Part.regs .pwr ∈ W) (h16 : Part.regs .plc ∈ W) (h17 : Part.regs .intg ∈ W) (h18 : Part.regs .chin ∈ W) (h19 : Part.regs .chenc ∈ W) (h20 : Part.regs .chdec ∈ W) (h21 : Part.regs .chtmr ∈ W) (h22 : Part.regs .hut0 ∈ W) (h23 : Part.regs .hut1 ∈ W) (h24 : Part.regs .cctl ∈ W) (h25 : Part.regs .qmgr ∈ W) (h26 : Part.regs .spad ∈ W) (h27 : Part.regs .drw ∈ W) (h28 : Part.regs .trs ∈ W) (h29 : Part.regs .xpnd ∈ W) (h30 : Part.regs .hzn ∈ W) (h31 : Part.regs .rtr ∈ W) (h32 : Part.regs .cobs ∈ W) :
    (State.mbMigrate s m).except W = s.except W := by
  unfold State.mbMigrate
  dsimp only
  (repeat' split) <;> simp_all [except_foldl]

@[simp] theorem State.mbPark_except (s : State) (m : MbCmd) (h1 : Part.mem ∈ W) (h2 : Part.logs ∈ W) (h3 : Part.locks ∈ W) (h4 : Part.timers ∈ W) (h5 : Part.doms ∈ W) (h6 : Part.mapCur ∈ W) (h7 : Part.mapRe ∈ W) (h8 : Part.leaves ∈ W) (h9 : Part.chans ∈ W) (h10 : Part.decs ∈ W) (h11 : Part.cabs ∈ W) (h12 : Part.hutches ∈ W) (h13 : Part.routes ∈ W) (h14 : Part.mbox ∈ W) (h15 : Part.regs .pwr ∈ W) (h16 : Part.regs .plc ∈ W) (h17 : Part.regs .intg ∈ W) (h18 : Part.regs .chin ∈ W) (h19 : Part.regs .chenc ∈ W) (h20 : Part.regs .chdec ∈ W) (h21 : Part.regs .chtmr ∈ W) (h22 : Part.regs .hut0 ∈ W) (h23 : Part.regs .hut1 ∈ W) (h24 : Part.regs .cctl ∈ W) (h25 : Part.regs .qmgr ∈ W) (h26 : Part.regs .spad ∈ W) (h27 : Part.regs .drw ∈ W) (h28 : Part.regs .trs ∈ W) (h29 : Part.regs .xpnd ∈ W) (h30 : Part.regs .hzn ∈ W) (h31 : Part.regs .rtr ∈ W) (h32 : Part.regs .cobs ∈ W) :
    (State.mbPark s m).except W = s.except W := by
  unfold State.mbPark
  dsimp only
  (repeat' split) <;> simp_all [except_foldl]

@[simp] theorem State.mbUnpark_except (s : State) (m : MbCmd) (h1 : Part.mem ∈ W) (h2 : Part.logs ∈ W) (h3 : Part.locks ∈ W) (h4 : Part.timers ∈ W) (h5 : Part.doms ∈ W) (h6 : Part.mapCur ∈ W) (h7 : Part.mapRe ∈ W) (h8 : Part.links ∈ W) (h9 : Part.leaves ∈ W) (h10 : Part.chans ∈ W) (h11 : Part.decs ∈ W) (h12 : Part.cabs ∈ W) (h13 : Part.hutches ∈ W) (h14 : Part.parts ∈ W) (h15 : Part.routes ∈ W) (h16 : Part.mbox ∈ W) (h17 : Part.regs .pwr ∈ W) (h18 : Part.regs .plc ∈ W) (h19 : Part.regs .intg ∈ W) (h20 : Part.regs .chin ∈ W) (h21 : Part.regs .chenc ∈ W) (h22 : Part.regs .chdec ∈ W) (h23 : Part.regs .chtmr ∈ W) (h24 : Part.regs .hut0 ∈ W) (h25 : Part.regs .hut1 ∈ W) (h26 : Part.regs .cctl ∈ W) (h27 : Part.regs .qmgr ∈ W) (h28 : Part.regs .spad ∈ W) (h29 : Part.regs .drw ∈ W) (h30 : Part.regs .trs ∈ W) (h31 : Part.regs .xpnd ∈ W) (h32 : Part.regs .hzn ∈ W) (h33 : Part.regs .rtr ∈ W) (h34 : Part.regs .cobs ∈ W) :
    (State.mbUnpark s m).except W = s.except W := by
  fun_cases State.mbUnpark s m <;> simp [*]

@[simp] theorem State.writePins_except (s : State) (p : Nat) (axons : List Nat) (h1 : Part.mem ∈ W) :
    (State.writePins s p axons).except W = s.except W := by
  simp [State.writePins, except_foldl, *]

@[simp] theorem State.rePin_except (s : State) (k : Nat) (pins : List (Nat × List Nat)) (h1 : Part.mem ∈ W) (h2 : Part.cabs ∈ W) (h3 : Part.regs .xpnd ∈ W) :
    (State.rePin s k pins).except W = s.except W := by
  simp [State.rePin, except_foldl, *]

@[simp] theorem State.mbMoves_except (s : State) (m : MbCmd) (n : MbCmd) (h1 : Part.mem ∈ W) (h2 : Part.logs ∈ W) (h3 : Part.locks ∈ W) (h4 : Part.timers ∈ W) (h5 : Part.doms ∈ W) (h6 : Part.mapCur ∈ W) (h7 : Part.mapRe ∈ W) (h8 : Part.leaves ∈ W) (h9 : Part.chans ∈ W) (h10 : Part.decs ∈ W) (h11 : Part.cabs ∈ W) (h12 : Part.hutches ∈ W) (h13 : Part.routes ∈ W) (h14 : Part.mbox ∈ W) (h15 : Part.regs .pwr ∈ W) (h16 : Part.regs .plc ∈ W) (h17 : Part.regs .intg ∈ W) (h18 : Part.regs .chin ∈ W) (h19 : Part.regs .chenc ∈ W) (h20 : Part.regs .chdec ∈ W) (h21 : Part.regs .chtmr ∈ W) (h22 : Part.regs .hut0 ∈ W) (h23 : Part.regs .hut1 ∈ W) (h24 : Part.regs .cctl ∈ W) (h25 : Part.regs .qmgr ∈ W) (h26 : Part.regs .spad ∈ W) (h27 : Part.regs .drw ∈ W) (h28 : Part.regs .trs ∈ W) (h29 : Part.regs .xpnd ∈ W) (h30 : Part.regs .hzn ∈ W) (h31 : Part.regs .rtr ∈ W) (h32 : Part.regs .cobs ∈ W) :
    (State.mbMoves s m n).except W = s.except W := by
  unfold State.mbMoves
  (repeat' split) <;> simp [*]

@[simp] theorem State.mbRebalance_except (s : State) (m : MbCmd) (h1 : Part.mem ∈ W) (h2 : Part.logs ∈ W) (h3 : Part.locks ∈ W) (h4 : Part.timers ∈ W) (h5 : Part.doms ∈ W) (h6 : Part.mapCur ∈ W) (h7 : Part.mapRe ∈ W) (h8 : Part.links ∈ W) (h9 : Part.leaves ∈ W) (h10 : Part.chans ∈ W) (h11 : Part.decs ∈ W) (h12 : Part.cabs ∈ W) (h13 : Part.hutches ∈ W) (h14 : Part.parts ∈ W) (h15 : Part.routes ∈ W) (h16 : Part.mbox ∈ W) (h17 : Part.regs .pwr ∈ W) (h18 : Part.regs .plc ∈ W) (h19 : Part.regs .intg ∈ W) (h20 : Part.regs .chin ∈ W) (h21 : Part.regs .chenc ∈ W) (h22 : Part.regs .chdec ∈ W) (h23 : Part.regs .chtmr ∈ W) (h24 : Part.regs .hut0 ∈ W) (h25 : Part.regs .hut1 ∈ W) (h26 : Part.regs .cctl ∈ W) (h27 : Part.regs .qmgr ∈ W) (h28 : Part.regs .spad ∈ W) (h29 : Part.regs .drw ∈ W) (h30 : Part.regs .trs ∈ W) (h31 : Part.regs .xpnd ∈ W) (h32 : Part.regs .hzn ∈ W) (h33 : Part.regs .rtr ∈ W) (h34 : Part.regs .cobs ∈ W) :
    (State.mbRebalance s m).except W = s.except W := by
  fun_cases State.mbRebalance s m <;> first
    | (simp [*]; done)
    | simp +zetaDelta [*]

@[simp] theorem State.mbConsolidate_except (s : State) (m : MbCmd) (h1 : Part.net ∈ W) (h2 : Part.seqs ∈ W) (h3 : Part.sources ∈ W) (h4 : Part.mbox ∈ W) :
    (State.mbConsolidate s m).except W = s.except W := by
  simp [State.mbConsolidate, except_foldl, *]

@[simp] theorem State.mbQuery_except (s : State) (m : MbCmd) (h1 : Part.mbox ∈ W) :
    (State.mbQuery s m).except W = s.except W := by
  simp [State.mbQuery, *]

@[simp] theorem State.mbStart_except (s : State) (m0 : MbCmd) (h1 : Part.mem ∈ W) (h2 : Part.logs ∈ W) (h3 : Part.locks ∈ W) (h4 : Part.timers ∈ W) (h5 : Part.doms ∈ W) (h6 : Part.partState ∈ W) (h7 : Part.maps ∈ W) (h8 : Part.maps2 ∈ W) (h9 : Part.mapCur ∈ W) (h10 : Part.mapRe ∈ W) (h11 : Part.net ∈ W) (h12 : Part.arrivals ∈ W) (h13 : Part.inbox ∈ W) (h14 : Part.robs ∈ W) (h15 : Part.expect ∈ W) (h16 : Part.seqs ∈ W) (h17 : Part.pressure ∈ W) (h18 : Part.links ∈ W) (h19 : Part.leaves ∈ W) (h20 : Part.notices ∈ W) (h21 : Part.sources ∈ W) (h22 : Part.chans ∈ W) (h23 : Part.decs ∈ W) (h24 : Part.cabs ∈ W) (h25 : Part.hutches ∈ W) (h26 : Part.parts ∈ W) (h27 : Part.journals ∈ W) (h28 : Part.ckpts ∈ W) (h29 : Part.parkAreas ∈ W) (h30 : Part.routes ∈ W) (h31 : Part.mbox ∈ W) (h32 : Part.regs .bur ∈ W) (h33 : Part.regs .pwr ∈ W) (h34 : Part.regs .plc ∈ W) (h35 : Part.regs .intg ∈ W) (h36 : Part.regs .chin ∈ W) (h37 : Part.regs .chenc ∈ W) (h38 : Part.regs .chdec ∈ W) (h39 : Part.regs .chtmr ∈ W) (h40 : Part.regs .hut0 ∈ W) (h41 : Part.regs .hut1 ∈ W) (h42 : Part.regs .cctl ∈ W) (h43 : Part.regs .qmgr ∈ W) (h44 : Part.regs .spad ∈ W) (h45 : Part.regs .drw ∈ W) (h46 : Part.regs .trs ∈ W) (h47 : Part.regs .xpnd ∈ W) (h48 : Part.regs .hzn ∈ W) (h49 : Part.regs .rtr ∈ W) (h50 : Part.regs .cobs ∈ W) :
    (State.mbStart s m0).except W = s.except W := by
  unfold State.mbStart
  try dsimp only
  repeat' first
    | (with_reducible rfl)
    | (with_reducible refine (except_foldl _ (fun _ _ => ?_) _ _).trans ?_)
    | (with_reducible refine (except_foldl_fst _ (fun _ _ => ?_) _ _).trans ?_)
    | (with_reducible refine (except_foldl_snd _ (fun _ _ => ?_) _ _).trans ?_)
    | split
    | (simp [*]; done)
    | simp [*]

@[simp] theorem State.mbNext_except (s : State) (h1 : Part.mem ∈ W) (h2 : Part.logs ∈ W) (h3 : Part.locks ∈ W) (h4 : Part.timers ∈ W) (h5 : Part.doms ∈ W) (h6 : Part.partState ∈ W) (h7 : Part.maps ∈ W) (h8 : Part.maps2 ∈ W) (h9 : Part.mapCur ∈ W) (h10 : Part.mapRe ∈ W) (h11 : Part.net ∈ W) (h12 : Part.arrivals ∈ W) (h13 : Part.inbox ∈ W) (h14 : Part.robs ∈ W) (h15 : Part.expect ∈ W) (h16 : Part.seqs ∈ W) (h17 : Part.pressure ∈ W) (h18 : Part.links ∈ W) (h19 : Part.leaves ∈ W) (h20 : Part.notices ∈ W) (h21 : Part.sources ∈ W) (h22 : Part.chans ∈ W) (h23 : Part.decs ∈ W) (h24 : Part.cabs ∈ W) (h25 : Part.hutches ∈ W) (h26 : Part.parts ∈ W) (h27 : Part.journals ∈ W) (h28 : Part.ckpts ∈ W) (h29 : Part.parkAreas ∈ W) (h30 : Part.routes ∈ W) (h31 : Part.mbox ∈ W) (h32 : Part.regs .bur ∈ W) (h33 : Part.regs .pwr ∈ W) (h34 : Part.regs .plc ∈ W) (h35 : Part.regs .intg ∈ W) (h36 : Part.regs .chin ∈ W) (h37 : Part.regs .chenc ∈ W) (h38 : Part.regs .chdec ∈ W) (h39 : Part.regs .chtmr ∈ W) (h40 : Part.regs .hut0 ∈ W) (h41 : Part.regs .hut1 ∈ W) (h42 : Part.regs .cctl ∈ W) (h43 : Part.regs .qmgr ∈ W) (h44 : Part.regs .spad ∈ W) (h45 : Part.regs .drw ∈ W) (h46 : Part.regs .trs ∈ W) (h47 : Part.regs .xpnd ∈ W) (h48 : Part.regs .hzn ∈ W) (h49 : Part.regs .rtr ∈ W) (h50 : Part.regs .cobs ∈ W) :
    (State.mbNext s).except W = s.except W := by
  unfold State.mbNext
  (repeat' split) <;> simp [*]

@[simp] theorem mbWrite_except (f : Nat) (w : Word) (obs : List (Nat × Nat × Nat)) (pins : List (Nat × List Nat)) (s : State) (h1 : Part.mem ∈ W) (h2 : Part.logs ∈ W) (h3 : Part.locks ∈ W) (h4 : Part.timers ∈ W) (h5 : Part.doms ∈ W) (h6 : Part.partState ∈ W) (h7 : Part.maps ∈ W) (h8 : Part.maps2 ∈ W) (h9 : Part.mapCur ∈ W) (h10 : Part.mapRe ∈ W) (h11 : Part.net ∈ W) (h12 : Part.arrivals ∈ W) (h13 : Part.inbox ∈ W) (h14 : Part.robs ∈ W) (h15 : Part.expect ∈ W) (h16 : Part.seqs ∈ W) (h17 : Part.pressure ∈ W) (h18 : Part.links ∈ W) (h19 : Part.leaves ∈ W) (h20 : Part.notices ∈ W) (h21 : Part.sources ∈ W) (h22 : Part.chans ∈ W) (h23 : Part.decs ∈ W) (h24 : Part.cabs ∈ W) (h25 : Part.hutches ∈ W) (h26 : Part.parts ∈ W) (h27 : Part.journals ∈ W) (h28 : Part.ckpts ∈ W) (h29 : Part.parkAreas ∈ W) (h30 : Part.routes ∈ W) (h31 : Part.mbox ∈ W) (h32 : Part.regs .bur ∈ W) (h33 : Part.regs .pwr ∈ W) (h34 : Part.regs .plc ∈ W) (h35 : Part.regs .intg ∈ W) (h36 : Part.regs .chin ∈ W) (h37 : Part.regs .chenc ∈ W) (h38 : Part.regs .chdec ∈ W) (h39 : Part.regs .chtmr ∈ W) (h40 : Part.regs .hut0 ∈ W) (h41 : Part.regs .hut1 ∈ W) (h42 : Part.regs .cctl ∈ W) (h43 : Part.regs .qmgr ∈ W) (h44 : Part.regs .spad ∈ W) (h45 : Part.regs .drw ∈ W) (h46 : Part.regs .trs ∈ W) (h47 : Part.regs .xpnd ∈ W) (h48 : Part.regs .hzn ∈ W) (h49 : Part.regs .rtr ∈ W) (h50 : Part.regs .cobs ∈ W) :
    (mbWrite f w obs pins s).except W = s.except W := by
  simp [mbWrite, *]

@[simp] theorem mbCommand_frames (op : Nat) (r : Req) (w : Word) (obs : List (Nat × Nat × Nat)) (pins : List (Nat × List Nat)) (s : State) (h1 : Part.mem ∈ W) (h2 : Part.logs ∈ W) (h3 : Part.locks ∈ W) (h4 : Part.timers ∈ W) (h5 : Part.doms ∈ W) (h6 : Part.partState ∈ W) (h7 : Part.maps ∈ W) (h8 : Part.maps2 ∈ W) (h9 : Part.mapCur ∈ W) (h10 : Part.mapRe ∈ W) (h11 : Part.net ∈ W) (h12 : Part.arrivals ∈ W) (h13 : Part.inbox ∈ W) (h14 : Part.robs ∈ W) (h15 : Part.expect ∈ W) (h16 : Part.seqs ∈ W) (h17 : Part.pressure ∈ W) (h18 : Part.links ∈ W) (h19 : Part.leaves ∈ W) (h20 : Part.notices ∈ W) (h21 : Part.sources ∈ W) (h22 : Part.chans ∈ W) (h23 : Part.decs ∈ W) (h24 : Part.cabs ∈ W) (h25 : Part.hutches ∈ W) (h26 : Part.parts ∈ W) (h27 : Part.journals ∈ W) (h28 : Part.ckpts ∈ W) (h29 : Part.parkAreas ∈ W) (h30 : Part.routes ∈ W) (h31 : Part.pci ∈ W) (h32 : Part.mbox ∈ W) (h33 : Part.regs .bur ∈ W) (h34 : Part.regs .pwr ∈ W) (h35 : Part.regs .plc ∈ W) (h36 : Part.regs .intg ∈ W) (h37 : Part.regs .chin ∈ W) (h38 : Part.regs .chenc ∈ W) (h39 : Part.regs .chdec ∈ W) (h40 : Part.regs .chtmr ∈ W) (h41 : Part.regs .hut0 ∈ W) (h42 : Part.regs .hut1 ∈ W) (h43 : Part.regs .cctl ∈ W) (h44 : Part.regs .qmgr ∈ W) (h45 : Part.regs .spad ∈ W) (h46 : Part.regs .drw ∈ W) (h47 : Part.regs .trs ∈ W) (h48 : Part.regs .xpnd ∈ W) (h49 : Part.regs .hzn ∈ W) (h50 : Part.regs .rtr ∈ W) (h51 : Part.regs .cobs ∈ W) :
    Result.frames (mbCommand op r w obs pins s) W s := by
  simp [mbCommand, *]

@[simp] theorem execPartConfig_frames (r : Req) (w : Word) (s : State) (h1 : Part.mem ∈ W) (h2 : Part.logs ∈ W) (h3 : Part.locks ∈ W) (h4 : Part.timers ∈ W) (h5 : Part.doms ∈ W) (h6 : Part.partState ∈ W) (h7 : Part.maps ∈ W) (h8 : Part.maps2 ∈ W) (h9 : Part.mapCur ∈ W) (h10 : Part.mapRe ∈ W) (h11 : Part.net ∈ W) (h12 : Part.arrivals ∈ W) (h13 : Part.inbox ∈ W) (h14 : Part.robs ∈ W) (h15 : Part.expect ∈ W) (h16 : Part.seqs ∈ W) (h17 : Part.pressure ∈ W) (h18 : Part.links ∈ W) (h19 : Part.leaves ∈ W) (h20 : Part.notices ∈ W) (h21 : Part.sources ∈ W) (h22 : Part.chans ∈ W) (h23 : Part.decs ∈ W) (h24 : Part.cabs ∈ W) (h25 : Part.hutches ∈ W) (h26 : Part.parts ∈ W) (h27 : Part.journals ∈ W) (h28 : Part.ckpts ∈ W) (h29 : Part.parkAreas ∈ W) (h30 : Part.routes ∈ W) (h31 : Part.pci ∈ W) (h32 : Part.mbox ∈ W) (h33 : Part.regs .bur ∈ W) (h34 : Part.regs .pwr ∈ W) (h35 : Part.regs .plc ∈ W) (h36 : Part.regs .intg ∈ W) (h37 : Part.regs .chin ∈ W) (h38 : Part.regs .chenc ∈ W) (h39 : Part.regs .chdec ∈ W) (h40 : Part.regs .chtmr ∈ W) (h41 : Part.regs .hut0 ∈ W) (h42 : Part.regs .hut1 ∈ W) (h43 : Part.regs .cctl ∈ W) (h44 : Part.regs .qmgr ∈ W) (h45 : Part.regs .spad ∈ W) (h46 : Part.regs .drw ∈ W) (h47 : Part.regs .trs ∈ W) (h48 : Part.regs .xpnd ∈ W) (h49 : Part.regs .hzn ∈ W) (h50 : Part.regs .rtr ∈ W) (h51 : Part.regs .cobs ∈ W) :
    Result.frames (execPartConfig r w s) W s := by
  simp [execPartConfig, *]

@[simp] theorem execImageLoad_frames (r : Req) (w : Word) (s : State) (h1 : Part.mem ∈ W) (h2 : Part.logs ∈ W) (h3 : Part.locks ∈ W) (h4 : Part.timers ∈ W) (h5 : Part.doms ∈ W) (h6 : Part.partState ∈ W) (h7 : Part.maps ∈ W) (h8 : Part.maps2 ∈ W) (h9 : Part.mapCur ∈ W) (h10 : Part.mapRe ∈ W) (h11 : Part.net ∈ W) (h12 : Part.arrivals ∈ W) (h13 : Part.inbox ∈ W) (h14 : Part.robs ∈ W) (h15 : Part.expect ∈ W) (h16 : Part.seqs ∈ W) (h17 : Part.pressure ∈ W) (h18 : Part.links ∈ W) (h19 : Part.leaves ∈ W) (h20 : Part.notices ∈ W) (h21 : Part.sources ∈ W) (h22 : Part.chans ∈ W) (h23 : Part.decs ∈ W) (h24 : Part.cabs ∈ W) (h25 : Part.hutches ∈ W) (h26 : Part.parts ∈ W) (h27 : Part.journals ∈ W) (h28 : Part.ckpts ∈ W) (h29 : Part.parkAreas ∈ W) (h30 : Part.routes ∈ W) (h31 : Part.pci ∈ W) (h32 : Part.mbox ∈ W) (h33 : Part.regs .bur ∈ W) (h34 : Part.regs .pwr ∈ W) (h35 : Part.regs .plc ∈ W) (h36 : Part.regs .intg ∈ W) (h37 : Part.regs .chin ∈ W) (h38 : Part.regs .chenc ∈ W) (h39 : Part.regs .chdec ∈ W) (h40 : Part.regs .chtmr ∈ W) (h41 : Part.regs .hut0 ∈ W) (h42 : Part.regs .hut1 ∈ W) (h43 : Part.regs .cctl ∈ W) (h44 : Part.regs .qmgr ∈ W) (h45 : Part.regs .spad ∈ W) (h46 : Part.regs .drw ∈ W) (h47 : Part.regs .trs ∈ W) (h48 : Part.regs .xpnd ∈ W) (h49 : Part.regs .hzn ∈ W) (h50 : Part.regs .rtr ∈ W) (h51 : Part.regs .cobs ∈ W) :
    Result.frames (execImageLoad r w s) W s := by
  simp [execImageLoad, *]

@[simp] theorem execPartStart_frames (r : Req) (w : Word) (s : State) (h1 : Part.mem ∈ W) (h2 : Part.logs ∈ W) (h3 : Part.locks ∈ W) (h4 : Part.timers ∈ W) (h5 : Part.doms ∈ W) (h6 : Part.partState ∈ W) (h7 : Part.maps ∈ W) (h8 : Part.maps2 ∈ W) (h9 : Part.mapCur ∈ W) (h10 : Part.mapRe ∈ W) (h11 : Part.net ∈ W) (h12 : Part.arrivals ∈ W) (h13 : Part.inbox ∈ W) (h14 : Part.robs ∈ W) (h15 : Part.expect ∈ W) (h16 : Part.seqs ∈ W) (h17 : Part.pressure ∈ W) (h18 : Part.links ∈ W) (h19 : Part.leaves ∈ W) (h20 : Part.notices ∈ W) (h21 : Part.sources ∈ W) (h22 : Part.chans ∈ W) (h23 : Part.decs ∈ W) (h24 : Part.cabs ∈ W) (h25 : Part.hutches ∈ W) (h26 : Part.parts ∈ W) (h27 : Part.journals ∈ W) (h28 : Part.ckpts ∈ W) (h29 : Part.parkAreas ∈ W) (h30 : Part.routes ∈ W) (h31 : Part.pci ∈ W) (h32 : Part.mbox ∈ W) (h33 : Part.regs .bur ∈ W) (h34 : Part.regs .pwr ∈ W) (h35 : Part.regs .plc ∈ W) (h36 : Part.regs .intg ∈ W) (h37 : Part.regs .chin ∈ W) (h38 : Part.regs .chenc ∈ W) (h39 : Part.regs .chdec ∈ W) (h40 : Part.regs .chtmr ∈ W) (h41 : Part.regs .hut0 ∈ W) (h42 : Part.regs .hut1 ∈ W) (h43 : Part.regs .cctl ∈ W) (h44 : Part.regs .qmgr ∈ W) (h45 : Part.regs .spad ∈ W) (h46 : Part.regs .drw ∈ W) (h47 : Part.regs .trs ∈ W) (h48 : Part.regs .xpnd ∈ W) (h49 : Part.regs .hzn ∈ W) (h50 : Part.regs .rtr ∈ W) (h51 : Part.regs .cobs ∈ W) :
    Result.frames (execPartStart r w s) W s := by
  simp [execPartStart, *]

@[simp] theorem execPartStop_frames (r : Req) (w : Word) (s : State) (h1 : Part.mem ∈ W) (h2 : Part.logs ∈ W) (h3 : Part.locks ∈ W) (h4 : Part.timers ∈ W) (h5 : Part.doms ∈ W) (h6 : Part.partState ∈ W) (h7 : Part.maps ∈ W) (h8 : Part.maps2 ∈ W) (h9 : Part.mapCur ∈ W) (h10 : Part.mapRe ∈ W) (h11 : Part.net ∈ W) (h12 : Part.arrivals ∈ W) (h13 : Part.inbox ∈ W) (h14 : Part.robs ∈ W) (h15 : Part.expect ∈ W) (h16 : Part.seqs ∈ W) (h17 : Part.pressure ∈ W) (h18 : Part.links ∈ W) (h19 : Part.leaves ∈ W) (h20 : Part.notices ∈ W) (h21 : Part.sources ∈ W) (h22 : Part.chans ∈ W) (h23 : Part.decs ∈ W) (h24 : Part.cabs ∈ W) (h25 : Part.hutches ∈ W) (h26 : Part.parts ∈ W) (h27 : Part.journals ∈ W) (h28 : Part.ckpts ∈ W) (h29 : Part.parkAreas ∈ W) (h30 : Part.routes ∈ W) (h31 : Part.pci ∈ W) (h32 : Part.mbox ∈ W) (h33 : Part.regs .bur ∈ W) (h34 : Part.regs .pwr ∈ W) (h35 : Part.regs .plc ∈ W) (h36 : Part.regs .intg ∈ W) (h37 : Part.regs .chin ∈ W) (h38 : Part.regs .chenc ∈ W) (h39 : Part.regs .chdec ∈ W) (h40 : Part.regs .chtmr ∈ W) (h41 : Part.regs .hut0 ∈ W) (h42 : Part.regs .hut1 ∈ W) (h43 : Part.regs .cctl ∈ W) (h44 : Part.regs .qmgr ∈ W) (h45 : Part.regs .spad ∈ W) (h46 : Part.regs .drw ∈ W) (h47 : Part.regs .trs ∈ W) (h48 : Part.regs .xpnd ∈ W) (h49 : Part.regs .hzn ∈ W) (h50 : Part.regs .rtr ∈ W) (h51 : Part.regs .cobs ∈ W) :
    Result.frames (execPartStop r w s) W s := by
  simp [execPartStop, *]

@[simp] theorem execPartRelease_frames (r : Req) (w : Word) (s : State) (h1 : Part.mem ∈ W) (h2 : Part.logs ∈ W) (h3 : Part.locks ∈ W) (h4 : Part.timers ∈ W) (h5 : Part.doms ∈ W) (h6 : Part.partState ∈ W) (h7 : Part.maps ∈ W) (h8 : Part.maps2 ∈ W) (h9 : Part.mapCur ∈ W) (h10 : Part.mapRe ∈ W) (h11 : Part.net ∈ W) (h12 : Part.arrivals ∈ W) (h13 : Part.inbox ∈ W) (h14 : Part.robs ∈ W) (h15 : Part.expect ∈ W) (h16 : Part.seqs ∈ W) (h17 : Part.pressure ∈ W) (h18 : Part.links ∈ W) (h19 : Part.leaves ∈ W) (h20 : Part.notices ∈ W) (h21 : Part.sources ∈ W) (h22 : Part.chans ∈ W) (h23 : Part.decs ∈ W) (h24 : Part.cabs ∈ W) (h25 : Part.hutches ∈ W) (h26 : Part.parts ∈ W) (h27 : Part.journals ∈ W) (h28 : Part.ckpts ∈ W) (h29 : Part.parkAreas ∈ W) (h30 : Part.routes ∈ W) (h31 : Part.pci ∈ W) (h32 : Part.mbox ∈ W) (h33 : Part.regs .bur ∈ W) (h34 : Part.regs .pwr ∈ W) (h35 : Part.regs .plc ∈ W) (h36 : Part.regs .intg ∈ W) (h37 : Part.regs .chin ∈ W) (h38 : Part.regs .chenc ∈ W) (h39 : Part.regs .chdec ∈ W) (h40 : Part.regs .chtmr ∈ W) (h41 : Part.regs .hut0 ∈ W) (h42 : Part.regs .hut1 ∈ W) (h43 : Part.regs .cctl ∈ W) (h44 : Part.regs .qmgr ∈ W) (h45 : Part.regs .spad ∈ W) (h46 : Part.regs .drw ∈ W) (h47 : Part.regs .trs ∈ W) (h48 : Part.regs .xpnd ∈ W) (h49 : Part.regs .hzn ∈ W) (h50 : Part.regs .rtr ∈ W) (h51 : Part.regs .cobs ∈ W) :
    Result.frames (execPartRelease r w s) W s := by
  simp [execPartRelease, *]

@[simp] theorem execMigrate_frames (r : Req) (w : Word) (s : State) (h1 : Part.mem ∈ W) (h2 : Part.logs ∈ W) (h3 : Part.locks ∈ W) (h4 : Part.timers ∈ W) (h5 : Part.doms ∈ W) (h6 : Part.partState ∈ W) (h7 : Part.maps ∈ W) (h8 : Part.maps2 ∈ W) (h9 : Part.mapCur ∈ W) (h10 : Part.mapRe ∈ W) (h11 : Part.net ∈ W) (h12 : Part.arrivals ∈ W) (h13 : Part.inbox ∈ W) (h14 : Part.robs ∈ W) (h15 : Part.expect ∈ W) (h16 : Part.seqs ∈ W) (h17 : Part.pressure ∈ W) (h18 : Part.links ∈ W) (h19 : Part.leaves ∈ W) (h20 : Part.notices ∈ W) (h21 : Part.sources ∈ W) (h22 : Part.chans ∈ W) (h23 : Part.decs ∈ W) (h24 : Part.cabs ∈ W) (h25 : Part.hutches ∈ W) (h26 : Part.parts ∈ W) (h27 : Part.journals ∈ W) (h28 : Part.ckpts ∈ W) (h29 : Part.parkAreas ∈ W) (h30 : Part.routes ∈ W) (h31 : Part.pci ∈ W) (h32 : Part.mbox ∈ W) (h33 : Part.regs .bur ∈ W) (h34 : Part.regs .pwr ∈ W) (h35 : Part.regs .plc ∈ W) (h36 : Part.regs .intg ∈ W) (h37 : Part.regs .chin ∈ W) (h38 : Part.regs .chenc ∈ W) (h39 : Part.regs .chdec ∈ W) (h40 : Part.regs .chtmr ∈ W) (h41 : Part.regs .hut0 ∈ W) (h42 : Part.regs .hut1 ∈ W) (h43 : Part.regs .cctl ∈ W) (h44 : Part.regs .qmgr ∈ W) (h45 : Part.regs .spad ∈ W) (h46 : Part.regs .drw ∈ W) (h47 : Part.regs .trs ∈ W) (h48 : Part.regs .xpnd ∈ W) (h49 : Part.regs .hzn ∈ W) (h50 : Part.regs .rtr ∈ W) (h51 : Part.regs .cobs ∈ W) :
    Result.frames (execMigrate r w s) W s := by
  simp [execMigrate, *]

@[simp] theorem execPark_frames (r : Req) (w : Word) (s : State) (h1 : Part.mem ∈ W) (h2 : Part.logs ∈ W) (h3 : Part.locks ∈ W) (h4 : Part.timers ∈ W) (h5 : Part.doms ∈ W) (h6 : Part.partState ∈ W) (h7 : Part.maps ∈ W) (h8 : Part.maps2 ∈ W) (h9 : Part.mapCur ∈ W) (h10 : Part.mapRe ∈ W) (h11 : Part.net ∈ W) (h12 : Part.arrivals ∈ W) (h13 : Part.inbox ∈ W) (h14 : Part.robs ∈ W) (h15 : Part.expect ∈ W) (h16 : Part.seqs ∈ W) (h17 : Part.pressure ∈ W) (h18 : Part.links ∈ W) (h19 : Part.leaves ∈ W) (h20 : Part.notices ∈ W) (h21 : Part.sources ∈ W) (h22 : Part.chans ∈ W) (h23 : Part.decs ∈ W) (h24 : Part.cabs ∈ W) (h25 : Part.hutches ∈ W) (h26 : Part.parts ∈ W) (h27 : Part.journals ∈ W) (h28 : Part.ckpts ∈ W) (h29 : Part.parkAreas ∈ W) (h30 : Part.routes ∈ W) (h31 : Part.pci ∈ W) (h32 : Part.mbox ∈ W) (h33 : Part.regs .bur ∈ W) (h34 : Part.regs .pwr ∈ W) (h35 : Part.regs .plc ∈ W) (h36 : Part.regs .intg ∈ W) (h37 : Part.regs .chin ∈ W) (h38 : Part.regs .chenc ∈ W) (h39 : Part.regs .chdec ∈ W) (h40 : Part.regs .chtmr ∈ W) (h41 : Part.regs .hut0 ∈ W) (h42 : Part.regs .hut1 ∈ W) (h43 : Part.regs .cctl ∈ W) (h44 : Part.regs .qmgr ∈ W) (h45 : Part.regs .spad ∈ W) (h46 : Part.regs .drw ∈ W) (h47 : Part.regs .trs ∈ W) (h48 : Part.regs .xpnd ∈ W) (h49 : Part.regs .hzn ∈ W) (h50 : Part.regs .rtr ∈ W) (h51 : Part.regs .cobs ∈ W) :
    Result.frames (execPark r w s) W s := by
  simp [execPark, *]

@[simp] theorem execUnpark_frames (r : Req) (w : Word) (s : State) (h1 : Part.mem ∈ W) (h2 : Part.logs ∈ W) (h3 : Part.locks ∈ W) (h4 : Part.timers ∈ W) (h5 : Part.doms ∈ W) (h6 : Part.partState ∈ W) (h7 : Part.maps ∈ W) (h8 : Part.maps2 ∈ W) (h9 : Part.mapCur ∈ W) (h10 : Part.mapRe ∈ W) (h11 : Part.net ∈ W) (h12 : Part.arrivals ∈ W) (h13 : Part.inbox ∈ W) (h14 : Part.robs ∈ W) (h15 : Part.expect ∈ W) (h16 : Part.seqs ∈ W) (h17 : Part.pressure ∈ W) (h18 : Part.links ∈ W) (h19 : Part.leaves ∈ W) (h20 : Part.notices ∈ W) (h21 : Part.sources ∈ W) (h22 : Part.chans ∈ W) (h23 : Part.decs ∈ W) (h24 : Part.cabs ∈ W) (h25 : Part.hutches ∈ W) (h26 : Part.parts ∈ W) (h27 : Part.journals ∈ W) (h28 : Part.ckpts ∈ W) (h29 : Part.parkAreas ∈ W) (h30 : Part.routes ∈ W) (h31 : Part.pci ∈ W) (h32 : Part.mbox ∈ W) (h33 : Part.regs .bur ∈ W) (h34 : Part.regs .pwr ∈ W) (h35 : Part.regs .plc ∈ W) (h36 : Part.regs .intg ∈ W) (h37 : Part.regs .chin ∈ W) (h38 : Part.regs .chenc ∈ W) (h39 : Part.regs .chdec ∈ W) (h40 : Part.regs .chtmr ∈ W) (h41 : Part.regs .hut0 ∈ W) (h42 : Part.regs .hut1 ∈ W) (h43 : Part.regs .cctl ∈ W) (h44 : Part.regs .qmgr ∈ W) (h45 : Part.regs .spad ∈ W) (h46 : Part.regs .drw ∈ W) (h47 : Part.regs .trs ∈ W) (h48 : Part.regs .xpnd ∈ W) (h49 : Part.regs .hzn ∈ W) (h50 : Part.regs .rtr ∈ W) (h51 : Part.regs .cobs ∈ W) :
    Result.frames (execUnpark r w s) W s := by
  simp [execUnpark, *]

@[simp] theorem execRebalance_frames (r : Req) (w : Word) (obs : List (Nat × Nat × Nat)) (pins : List (Nat × List Nat)) (s : State) (h1 : Part.mem ∈ W) (h2 : Part.logs ∈ W) (h3 : Part.locks ∈ W) (h4 : Part.timers ∈ W) (h5 : Part.doms ∈ W) (h6 : Part.partState ∈ W) (h7 : Part.maps ∈ W) (h8 : Part.maps2 ∈ W) (h9 : Part.mapCur ∈ W) (h10 : Part.mapRe ∈ W) (h11 : Part.net ∈ W) (h12 : Part.arrivals ∈ W) (h13 : Part.inbox ∈ W) (h14 : Part.robs ∈ W) (h15 : Part.expect ∈ W) (h16 : Part.seqs ∈ W) (h17 : Part.pressure ∈ W) (h18 : Part.links ∈ W) (h19 : Part.leaves ∈ W) (h20 : Part.notices ∈ W) (h21 : Part.sources ∈ W) (h22 : Part.chans ∈ W) (h23 : Part.decs ∈ W) (h24 : Part.cabs ∈ W) (h25 : Part.hutches ∈ W) (h26 : Part.parts ∈ W) (h27 : Part.journals ∈ W) (h28 : Part.ckpts ∈ W) (h29 : Part.parkAreas ∈ W) (h30 : Part.routes ∈ W) (h31 : Part.pci ∈ W) (h32 : Part.mbox ∈ W) (h33 : Part.regs .bur ∈ W) (h34 : Part.regs .pwr ∈ W) (h35 : Part.regs .plc ∈ W) (h36 : Part.regs .intg ∈ W) (h37 : Part.regs .chin ∈ W) (h38 : Part.regs .chenc ∈ W) (h39 : Part.regs .chdec ∈ W) (h40 : Part.regs .chtmr ∈ W) (h41 : Part.regs .hut0 ∈ W) (h42 : Part.regs .hut1 ∈ W) (h43 : Part.regs .cctl ∈ W) (h44 : Part.regs .qmgr ∈ W) (h45 : Part.regs .spad ∈ W) (h46 : Part.regs .drw ∈ W) (h47 : Part.regs .trs ∈ W) (h48 : Part.regs .xpnd ∈ W) (h49 : Part.regs .hzn ∈ W) (h50 : Part.regs .rtr ∈ W) (h51 : Part.regs .cobs ∈ W) :
    Result.frames (execRebalance r w obs pins s) W s := by
  simp [execRebalance, *]

@[simp] theorem execConsolidate_frames (r : Req) (w : Word) (s : State) (h1 : Part.mem ∈ W) (h2 : Part.logs ∈ W) (h3 : Part.locks ∈ W) (h4 : Part.timers ∈ W) (h5 : Part.doms ∈ W) (h6 : Part.partState ∈ W) (h7 : Part.maps ∈ W) (h8 : Part.maps2 ∈ W) (h9 : Part.mapCur ∈ W) (h10 : Part.mapRe ∈ W) (h11 : Part.net ∈ W) (h12 : Part.arrivals ∈ W) (h13 : Part.inbox ∈ W) (h14 : Part.robs ∈ W) (h15 : Part.expect ∈ W) (h16 : Part.seqs ∈ W) (h17 : Part.pressure ∈ W) (h18 : Part.links ∈ W) (h19 : Part.leaves ∈ W) (h20 : Part.notices ∈ W) (h21 : Part.sources ∈ W) (h22 : Part.chans ∈ W) (h23 : Part.decs ∈ W) (h24 : Part.cabs ∈ W) (h25 : Part.hutches ∈ W) (h26 : Part.parts ∈ W) (h27 : Part.journals ∈ W) (h28 : Part.ckpts ∈ W) (h29 : Part.parkAreas ∈ W) (h30 : Part.routes ∈ W) (h31 : Part.pci ∈ W) (h32 : Part.mbox ∈ W) (h33 : Part.regs .bur ∈ W) (h34 : Part.regs .pwr ∈ W) (h35 : Part.regs .plc ∈ W) (h36 : Part.regs .intg ∈ W) (h37 : Part.regs .chin ∈ W) (h38 : Part.regs .chenc ∈ W) (h39 : Part.regs .chdec ∈ W) (h40 : Part.regs .chtmr ∈ W) (h41 : Part.regs .hut0 ∈ W) (h42 : Part.regs .hut1 ∈ W) (h43 : Part.regs .cctl ∈ W) (h44 : Part.regs .qmgr ∈ W) (h45 : Part.regs .spad ∈ W) (h46 : Part.regs .drw ∈ W) (h47 : Part.regs .trs ∈ W) (h48 : Part.regs .xpnd ∈ W) (h49 : Part.regs .hzn ∈ W) (h50 : Part.regs .rtr ∈ W) (h51 : Part.regs .cobs ∈ W) :
    Result.frames (execConsolidate r w s) W s := by
  simp [execConsolidate, *]

@[simp] theorem execQuery_frames (r : Req) (w : Word) (s : State) (h1 : Part.mem ∈ W) (h2 : Part.logs ∈ W) (h3 : Part.locks ∈ W) (h4 : Part.timers ∈ W) (h5 : Part.doms ∈ W) (h6 : Part.partState ∈ W) (h7 : Part.maps ∈ W) (h8 : Part.maps2 ∈ W) (h9 : Part.mapCur ∈ W) (h10 : Part.mapRe ∈ W) (h11 : Part.net ∈ W) (h12 : Part.arrivals ∈ W) (h13 : Part.inbox ∈ W) (h14 : Part.robs ∈ W) (h15 : Part.expect ∈ W) (h16 : Part.seqs ∈ W) (h17 : Part.pressure ∈ W) (h18 : Part.links ∈ W) (h19 : Part.leaves ∈ W) (h20 : Part.notices ∈ W) (h21 : Part.sources ∈ W) (h22 : Part.chans ∈ W) (h23 : Part.decs ∈ W) (h24 : Part.cabs ∈ W) (h25 : Part.hutches ∈ W) (h26 : Part.parts ∈ W) (h27 : Part.journals ∈ W) (h28 : Part.ckpts ∈ W) (h29 : Part.parkAreas ∈ W) (h30 : Part.routes ∈ W) (h31 : Part.pci ∈ W) (h32 : Part.mbox ∈ W) (h33 : Part.regs .bur ∈ W) (h34 : Part.regs .pwr ∈ W) (h35 : Part.regs .plc ∈ W) (h36 : Part.regs .intg ∈ W) (h37 : Part.regs .chin ∈ W) (h38 : Part.regs .chenc ∈ W) (h39 : Part.regs .chdec ∈ W) (h40 : Part.regs .chtmr ∈ W) (h41 : Part.regs .hut0 ∈ W) (h42 : Part.regs .hut1 ∈ W) (h43 : Part.regs .cctl ∈ W) (h44 : Part.regs .qmgr ∈ W) (h45 : Part.regs .spad ∈ W) (h46 : Part.regs .drw ∈ W) (h47 : Part.regs .trs ∈ W) (h48 : Part.regs .xpnd ∈ W) (h49 : Part.regs .hzn ∈ W) (h50 : Part.regs .rtr ∈ W) (h51 : Part.regs .cobs ∈ W) :
    Result.frames (execQuery r w s) W s := by
  simp [execQuery, *]

@[simp] theorem State.mbFinish_except (s : State) (m : MbCmd) (h1 : Part.mem ∈ W) (h2 : Part.logs ∈ W) (h3 : Part.locks ∈ W) (h4 : Part.timers ∈ W) (h5 : Part.doms ∈ W) (h6 : Part.partState ∈ W) (h7 : Part.maps ∈ W) (h8 : Part.maps2 ∈ W) (h9 : Part.mapCur ∈ W) (h10 : Part.mapRe ∈ W) (h11 : Part.net ∈ W) (h12 : Part.arrivals ∈ W) (h13 : Part.inbox ∈ W) (h14 : Part.robs ∈ W) (h15 : Part.expect ∈ W) (h16 : Part.seqs ∈ W) (h17 : Part.pressure ∈ W) (h18 : Part.links ∈ W) (h19 : Part.leaves ∈ W) (h20 : Part.notices ∈ W) (h21 : Part.sources ∈ W) (h22 : Part.chans ∈ W) (h23 : Part.decs ∈ W) (h24 : Part.cabs ∈ W) (h25 : Part.hutches ∈ W) (h26 : Part.parts ∈ W) (h27 : Part.journals ∈ W) (h28 : Part.ckpts ∈ W) (h29 : Part.parkAreas ∈ W) (h30 : Part.routes ∈ W) (h31 : Part.mbox ∈ W) (h32 : Part.regs .bur ∈ W) (h33 : Part.regs .pwr ∈ W) (h34 : Part.regs .plc ∈ W) (h35 : Part.regs .intg ∈ W) (h36 : Part.regs .chin ∈ W) (h37 : Part.regs .chenc ∈ W) (h38 : Part.regs .chdec ∈ W) (h39 : Part.regs .chtmr ∈ W) (h40 : Part.regs .hut0 ∈ W) (h41 : Part.regs .hut1 ∈ W) (h42 : Part.regs .cctl ∈ W) (h43 : Part.regs .qmgr ∈ W) (h44 : Part.regs .spad ∈ W) (h45 : Part.regs .drw ∈ W) (h46 : Part.regs .trs ∈ W) (h47 : Part.regs .xpnd ∈ W) (h48 : Part.regs .hzn ∈ W) (h49 : Part.regs .rtr ∈ W) (h50 : Part.regs .cobs ∈ W) :
    (State.mbFinish s m).except W = s.except W := by
  simp [State.mbFinish, except_foldl, *]

@[simp] theorem execMailboxCommandDone_frames (f : Nat) (s : State) (h1 : Part.mem ∈ W) (h2 : Part.logs ∈ W) (h3 : Part.locks ∈ W) (h4 : Part.timers ∈ W) (h5 : Part.doms ∈ W) (h6 : Part.partState ∈ W) (h7 : Part.maps ∈ W) (h8 : Part.maps2 ∈ W) (h9 : Part.mapCur ∈ W) (h10 : Part.mapRe ∈ W) (h11 : Part.net ∈ W) (h12 : Part.arrivals ∈ W) (h13 : Part.inbox ∈ W) (h14 : Part.robs ∈ W) (h15 : Part.expect ∈ W) (h16 : Part.seqs ∈ W) (h17 : Part.pressure ∈ W) (h18 : Part.links ∈ W) (h19 : Part.leaves ∈ W) (h20 : Part.notices ∈ W) (h21 : Part.sources ∈ W) (h22 : Part.chans ∈ W) (h23 : Part.decs ∈ W) (h24 : Part.cabs ∈ W) (h25 : Part.hutches ∈ W) (h26 : Part.parts ∈ W) (h27 : Part.journals ∈ W) (h28 : Part.ckpts ∈ W) (h29 : Part.parkAreas ∈ W) (h30 : Part.boot ∈ W) (h31 : Part.routes ∈ W) (h32 : Part.mbox ∈ W) (h33 : Part.regs .bur ∈ W) (h34 : Part.regs .pwr ∈ W) (h35 : Part.regs .plc ∈ W) (h36 : Part.regs .intg ∈ W) (h37 : Part.regs .chin ∈ W) (h38 : Part.regs .chenc ∈ W) (h39 : Part.regs .chdec ∈ W) (h40 : Part.regs .chtmr ∈ W) (h41 : Part.regs .hut0 ∈ W) (h42 : Part.regs .hut1 ∈ W) (h43 : Part.regs .cctl ∈ W) (h44 : Part.regs .qmgr ∈ W) (h45 : Part.regs .spad ∈ W) (h46 : Part.regs .drw ∈ W) (h47 : Part.regs .trs ∈ W) (h48 : Part.regs .xpnd ∈ W) (h49 : Part.regs .hzn ∈ W) (h50 : Part.regs .rtr ∈ W) (h51 : Part.regs .cobs ∈ W) :
    Result.frames (execMailboxCommandDone f s) W s := by
  unfold execMailboxCommandDone
  dsimp only
  (repeat' split) <;> simp_all [except_foldl]

@[simp] theorem execImageLoadTimeout_frames (f : Nat) (s : State) (h1 : Part.mbox ∈ W) :
    Result.frames (execImageLoadTimeout f s) W s := by
  unfold execImageLoadTimeout
  (repeat' split) <;> simp [*]

@[simp] theorem State.imageLost_except (s : State) (f : Nat) (h1 : Part.mbox ∈ W) :
    (State.imageLost s f).except W = s.except W := by
  unfold State.imageLost
  (repeat' split) <;> simp [*]

@[simp] theorem State.imageRead_except (s : State) (f : Nat) (d : DmaRead) (h1 : Part.mem ∈ W) (h2 : Part.logs ∈ W) (h3 : Part.timers ∈ W) (h4 : Part.partState ∈ W) (h5 : Part.chans ∈ W) (h6 : Part.decs ∈ W) (h7 : Part.parts ∈ W) (h8 : Part.routes ∈ W) (h9 : Part.mbox ∈ W) (h10 : Part.regs .plc ∈ W) (h11 : Part.regs .intg ∈ W) (h12 : Part.regs .chin ∈ W) (h13 : Part.regs .chenc ∈ W) (h14 : Part.regs .chdec ∈ W) (h15 : Part.regs .chtmr ∈ W) (h16 : Part.regs .hut1 ∈ W) :
    (State.imageRead s f d).except W = s.except W := by
  unfold State.imageRead
  split <;> simp [*]

@[simp] theorem State.readReport_except (s : State) (f : Nat) (x1 : DmaRead) (h1 : Part.pci ∈ W) :
    (State.readReport s f x1).except W = s.except W := by
  unfold State.readReport
  try dsimp only
  (repeat' split) <;> simp_all [except_foldl]

@[simp] theorem execDmaReadCompletion_frames (w : DmaFor) (d : DmaRead) (s : State) (h1 : Part.mem ∈ W) (h2 : Part.logs ∈ W) (h3 : Part.timers ∈ W) (h4 : Part.traces ∈ W) (h5 : Part.partState ∈ W) (h6 : Part.net ∈ W) (h7 : Part.seqs ∈ W) (h8 : Part.sources ∈ W) (h9 : Part.chans ∈ W) (h10 : Part.decs ∈ W) (h11 : Part.hostMem ∈ W) (h12 : Part.rings ∈ W) (h13 : Part.cabs ∈ W) (h14 : Part.parts ∈ W) (h15 : Part.routes ∈ W) (h16 : Part.pci ∈ W) (h17 : Part.mbox ∈ W) (h18 : Part.regs .plc ∈ W) (h19 : Part.regs .intg ∈ W) (h20 : Part.regs .obs ∈ W) (h21 : Part.regs .hq ∈ W) (h22 : Part.regs .chin ∈ W) (h23 : Part.regs .chenc ∈ W) (h24 : Part.regs .chdec ∈ W) (h25 : Part.regs .chtmr ∈ W) (h26 : Part.regs .hut1 ∈ W) (h27 : Part.regs .cctl ∈ W) (h28 : Part.regs .qmgr ∈ W) :
    Result.frames (execDmaReadCompletion w d s) W s := by
  unfold execDmaReadCompletion
  (repeat' split) <;> simp [*]

@[simp] theorem execCompletionTimeout_frames (w : DmaFor) (s : State) (h1 : Part.logs ∈ W) (h2 : Part.traces ∈ W) (h3 : Part.net ∈ W) (h4 : Part.seqs ∈ W) (h5 : Part.sources ∈ W) (h6 : Part.hostMem ∈ W) (h7 : Part.rings ∈ W) (h8 : Part.cabs ∈ W) (h9 : Part.pci ∈ W) (h10 : Part.mbox ∈ W) (h11 : Part.regs .plc ∈ W) (h12 : Part.regs .intg ∈ W) (h13 : Part.regs .obs ∈ W) (h14 : Part.regs .hq ∈ W) (h15 : Part.regs .cctl ∈ W) (h16 : Part.regs .qmgr ∈ W) :
    Result.frames (execCompletionTimeout w s) W s := by
  unfold execCompletionTimeout
  (repeat' split) <;> simp [*]

@[simp] theorem State.freePart_except (s : State) (k : Nat) (h1 : Part.mem ∈ W) (h2 : Part.logs ∈ W) (h3 : Part.locks ∈ W) (h4 : Part.timers ∈ W) (h5 : Part.doms ∈ W) (h6 : Part.partState ∈ W) (h7 : Part.maps ∈ W) (h8 : Part.maps2 ∈ W) (h9 : Part.mapCur ∈ W) (h10 : Part.mapRe ∈ W) (h11 : Part.net ∈ W) (h12 : Part.arrivals ∈ W) (h13 : Part.inbox ∈ W) (h14 : Part.robs ∈ W) (h15 : Part.expect ∈ W) (h16 : Part.seqs ∈ W) (h17 : Part.pressure ∈ W) (h18 : Part.links ∈ W) (h19 : Part.leaves ∈ W) (h20 : Part.notices ∈ W) (h21 : Part.sources ∈ W) (h22 : Part.chans ∈ W) (h23 : Part.decs ∈ W) (h24 : Part.cabs ∈ W) (h25 : Part.hutches ∈ W) (h26 : Part.parts ∈ W) (h27 : Part.journals ∈ W) (h28 : Part.ckpts ∈ W) (h29 : Part.parkAreas ∈ W) (h30 : Part.routes ∈ W) (h31 : Part.mbox ∈ W) (h32 : Part.regs .bur ∈ W) (h33 : Part.regs .plc ∈ W) (h34 : Part.regs .intg ∈ W) (h35 : Part.regs .chin ∈ W) (h36 : Part.regs .chenc ∈ W) (h37 : Part.regs .chdec ∈ W) (h38 : Part.regs .chtmr ∈ W) (h39 : Part.regs .hut0 ∈ W) (h40 : Part.regs .hut1 ∈ W) (h41 : Part.regs .cctl ∈ W) (h42 : Part.regs .qmgr ∈ W) (h43 : Part.regs .spad ∈ W) (h44 : Part.regs .drw ∈ W) (h45 : Part.regs .trs ∈ W) (h46 : Part.regs .xpnd ∈ W) (h47 : Part.regs .hzn ∈ W) (h48 : Part.regs .rtr ∈ W) (h49 : Part.regs .cobs ∈ W) :
    (State.freePart s k).except W = s.except W := by
  simp [State.freePart, *]

@[simp] theorem State.clearFn_except (s : State) (f : Nat) (h1 : Part.d3hot ∈ W) (h2 : Part.rings ∈ W) (h3 : Part.msix ∈ W) (h4 : Part.mbox ∈ W) (h5 : Part.regs .bur ∈ W) :
    (State.clearFn s f).except W = s.except W := by
  simp [State.clearFn, *]

@[simp] theorem execFlr_frames (f : Nat) (s : State) (h1 : Part.mem ∈ W) (h2 : Part.logs ∈ W) (h3 : Part.locks ∈ W) (h4 : Part.timers ∈ W) (h5 : Part.doms ∈ W) (h6 : Part.d3hot ∈ W) (h7 : Part.partState ∈ W) (h8 : Part.maps ∈ W) (h9 : Part.maps2 ∈ W) (h10 : Part.mapCur ∈ W) (h11 : Part.mapRe ∈ W) (h12 : Part.net ∈ W) (h13 : Part.arrivals ∈ W) (h14 : Part.inbox ∈ W) (h15 : Part.robs ∈ W) (h16 : Part.expect ∈ W) (h17 : Part.seqs ∈ W) (h18 : Part.pressure ∈ W) (h19 : Part.links ∈ W) (h20 : Part.leaves ∈ W) (h21 : Part.notices ∈ W) (h22 : Part.sources ∈ W) (h23 : Part.chans ∈ W) (h24 : Part.decs ∈ W) (h25 : Part.rings ∈ W) (h26 : Part.cabs ∈ W) (h27 : Part.hutches ∈ W) (h28 : Part.parts ∈ W) (h29 : Part.journals ∈ W) (h30 : Part.ckpts ∈ W) (h31 : Part.parkAreas ∈ W) (h32 : Part.msix ∈ W) (h33 : Part.routes ∈ W) (h34 : Part.mbox ∈ W) (h35 : Part.recov ∈ W) (h36 : Part.regs .bur ∈ W) (h37 : Part.regs .pwr ∈ W) (h38 : Part.regs .plc ∈ W) (h39 : Part.regs .intg ∈ W) (h40 : Part.regs .hq ∈ W) (h41 : Part.regs .chin ∈ W) (h42 : Part.regs .chenc ∈ W) (h43 : Part.regs .chdec ∈ W) (h44 : Part.regs .chtmr ∈ W) (h45 : Part.regs .hut0 ∈ W) (h46 : Part.regs .hut1 ∈ W) (h47 : Part.regs .cctl ∈ W) (h48 : Part.regs .qmgr ∈ W) (h49 : Part.regs .spad ∈ W) (h50 : Part.regs .drw ∈ W) (h51 : Part.regs .trs ∈ W) (h52 : Part.regs .xpnd ∈ W) (h53 : Part.regs .hzn ∈ W) (h54 : Part.regs .rtr ∈ W) (h55 : Part.regs .cobs ∈ W) :
    Result.frames (execFlr f s) W s := by
  simp [execFlr, except_foldl, *]

end Sys2Proof.Machine
end

