-- ==== Sys2Proof/Laws/FrameRegister.lean ====
section
/-!
SUPPORT. FrameRegister.lean: for each operation of Register.lean, the parts of the state it may change: it leaves everything outside W as it was,
whenever W holds those parts.
-/

namespace Sys2Proof.Machine

variable {W : List Part}

theorem gate_drop_except {r : Req} {p : Page} {off : Nat} {s t : State} (ht : s.gate r p off = .drop t) (h1 : Part.logs ∈ W)
    (h2 : Part.regs .pwr ∈ W) (h3 : Part.regs .intg ∈ W) (h4 : Part.regs p.blk ∈ W) : t.except W = s.except W := by
  unfold State.gate at ht
  (repeat' split at ht) <;> first
    | (cases ht; done)
    | (cases ht; simp [*])

theorem ownerPages_mem (p : Page) (h1 : Part.regs .chin ∈ W) (h2 : Part.regs .chenc ∈ W) (h3 : Part.regs .chdec ∈ W)
    (h4 : Part.regs .chtmr ∈ W) (h5 : Part.regs p.blk ∈ W) : ∀ q ∈ ownerPages p, Part.regs q.blk ∈ W := by
  unfold ownerPages
  split <;> simp [*]

@[simp] theorem State.resetBlock_except (s : State) (p : Page) (h1 : Part.mem ∈ W) (h2 : Part.logs ∈ W) (h3 : Part.locks ∈ W) (h4 : Part.timers ∈ W) (h5 : Part.freeze ∈ W) (h6 : Part.traces ∈ W) (h7 : Part.doms ∈ W) (h8 : Part.maps ∈ W) (h9 : Part.maps2 ∈ W) (h10 : Part.mapRe ∈ W) (h11 : Part.net ∈ W) (h12 : Part.inbox ∈ W) (h13 : Part.redIn ∈ W) (h14 : Part.robs ∈ W) (h15 : Part.seqs ∈ W) (h16 : Part.pressure ∈ W) (h17 : Part.partials ∈ W) (h18 : Part.links ∈ W) (h19 : Part.d2dReplays ∈ W) (h20 : Part.d2dRetried ∈ W) (h21 : Part.leaves ∈ W) (h22 : Part.notices ∈ W) (h23 : Part.sources ∈ W) (h24 : Part.chans ∈ W) (h25 : Part.decs ∈ W) (h26 : Part.rings ∈ W) (h27 : Part.cabs ∈ W) (h28 : Part.hutches ∈ W) (h29 : Part.routes ∈ W) (h30 : Part.mbox ∈ W) (h31 : Part.regs .plc ∈ W) (h32 : Part.regs .intg ∈ W) (h33 : Part.regs .chin ∈ W) (h34 : Part.regs .chenc ∈ W) (h35 : Part.regs .chdec ∈ W) (h36 : Part.regs .chtmr ∈ W) (h37 : Part.regs .hut0 ∈ W) (h38 : Part.regs .hut1 ∈ W) (h39 : Part.regs .cctl ∈ W) (h40 : Part.regs .qmgr ∈ W) (h41 : Part.regs .spad ∈ W) (h42 : Part.regs .drw ∈ W) (h43 : Part.regs .trs ∈ W) (h44 : Part.regs .xpnd ∈ W) (h45 : Part.regs .hzn ∈ W) (h46 : Part.regs .rtr ∈ W) (h47 : Part.regs .cobs ∈ W) :
    (State.resetBlock s p).except W = s.except W := by
  unfold State.resetBlock
  (repeat' split) <;> simp [except_foldl, *]

@[simp] theorem State.resetRegs_except (s : State) (p : Page) (h1 : Part.regs .hut0 ∈ W) (h2 : Part.regs .hut1 ∈ W) (h3 : Part.regs p.blk ∈ W) :
    (State.resetRegs s p).except W = s.except W := by
  simp [State.resetRegs, *]

@[simp] theorem State.softReset_except (s : State) (p : Page) (h1 : Part.mem ∈ W) (h2 : Part.logs ∈ W) (h3 : Part.locks ∈ W) (h4 : Part.tb ∈ W) (h5 : Part.timers ∈ W) (h6 : Part.trigQual ∈ W) (h7 : Part.trigEvents ∈ W) (h8 : Part.synced ∈ W) (h9 : Part.freeze ∈ W) (h10 : Part.traces ∈ W) (h11 : Part.doms ∈ W) (h12 : Part.maps ∈ W) (h13 : Part.maps2 ∈ W) (h14 : Part.mapRe ∈ W) (h15 : Part.net ∈ W) (h16 : Part.inbox ∈ W) (h17 : Part.redIn ∈ W) (h18 : Part.robs ∈ W) (h19 : Part.seqs ∈ W) (h20 : Part.pressure ∈ W) (h21 : Part.partials ∈ W) (h22 : Part.links ∈ W) (h23 : Part.d2dReplays ∈ W) (h24 : Part.d2dRetried ∈ W) (h25 : Part.leaves ∈ W) (h26 : Part.notices ∈ W) (h27 : Part.sources ∈ W) (h28 : Part.chans ∈ W) (h29 : Part.decs ∈ W) (h30 : Part.rings ∈ W) (h31 : Part.cabs ∈ W) (h32 : Part.hutches ∈ W) (h33 : Part.routes ∈ W) (h34 : Part.mbox ∈ W) (h35 : Part.regs .time0 ∈ W) (h36 : Part.regs .time1 ∈ W) (h37 : Part.regs .plc ∈ W) (h38 : Part.regs .intg ∈ W) (h39 : Part.regs .chin ∈ W) (h40 : Part.regs .chenc ∈ W) (h41 : Part.regs .chdec ∈ W) (h42 : Part.regs .chtmr ∈ W) (h43 : Part.regs .hut0 ∈ W) (h44 : Part.regs .hut1 ∈ W) (h45 : Part.regs .cctl ∈ W) (h46 : Part.regs .qmgr ∈ W) (h47 : Part.regs .spad ∈ W) (h48 : Part.regs .drw ∈ W) (h49 : Part.regs .trs ∈ W) (h50 : Part.regs .xpnd ∈ W) (h51 : Part.regs .hzn ∈ W) (h52 : Part.regs .rtr ∈ W) (h53 : Part.regs .cobs ∈ W) (h54 : Part.regs p.blk ∈ W) :
    (State.softReset s p).except W = s.except W := by
  simp [State.softReset, *]

@[simp] theorem ctrlWrite_except (p : Page) (w : Word) (s : State) (h1 : Part.mem ∈ W) (h2 : Part.logs ∈ W) (h3 : Part.locks ∈ W) (h4 : Part.tb ∈ W) (h5 : Part.timers ∈ W) (h6 : Part.trigQual ∈ W) (h7 : Part.trigEvents ∈ W) (h8 : Part.synced ∈ W) (h9 : Part.freeze ∈ W) (h10 : Part.traces ∈ W) (h11 : Part.doms ∈ W) (h12 : Part.maps ∈ W) (h13 : Part.maps2 ∈ W) (h14 : Part.mapRe ∈ W) (h15 : Part.net ∈ W) (h16 : Part.inbox ∈ W) (h17 : Part.redIn ∈ W) (h18 : Part.robs ∈ W) (h19 : Part.seqs ∈ W) (h20 : Part.pressure ∈ W) (h21 : Part.partials ∈ W) (h22 : Part.links ∈ W) (h23 : Part.d2dReplays ∈ W) (h24 : Part.d2dRetried ∈ W) (h25 : Part.leaves ∈ W) (h26 : Part.notices ∈ W) (h27 : Part.sources ∈ W) (h28 : Part.chans ∈ W) (h29 : Part.decs ∈ W) (h30 : Part.rings ∈ W) (h31 : Part.cabs ∈ W) (h32 : Part.hutches ∈ W) (h33 : Part.routes ∈ W) (h34 : Part.mbox ∈ W) (h35 : Part.regs .time0 ∈ W) (h36 : Part.regs .time1 ∈ W) (h37 : Part.regs .plc ∈ W) (h38 : Part.regs .intg ∈ W) (h39 : Part.regs .chin ∈ W) (h40 : Part.regs .chenc ∈ W) (h41 : Part.regs .chdec ∈ W) (h42 : Part.regs .chtmr ∈ W) (h43 : Part.regs .hut0 ∈ W) (h44 : Part.regs .hut1 ∈ W) (h45 : Part.regs .cctl ∈ W) (h46 : Part.regs .qmgr ∈ W) (h47 : Part.regs .spad ∈ W) (h48 : Part.regs .drw ∈ W) (h49 : Part.regs .trs ∈ W) (h50 : Part.regs .xpnd ∈ W) (h51 : Part.regs .hzn ∈ W) (h52 : Part.regs .rtr ∈ W) (h53 : Part.regs .cobs ∈ W) (h54 : Part.regs p.blk ∈ W) :
    (ctrlWrite p w s).except W = s.except W := by
  simp [ctrlWrite, *]

@[simp] theorem execSoftReset_frames (r : Req) (p : Page) (w : Word) (s : State) (h1 : Part.mem ∈ W) (h2 : Part.logs ∈ W) (h3 : Part.locks ∈ W) (h4 : Part.tb ∈ W) (h5 : Part.timers ∈ W) (h6 : Part.trigQual ∈ W) (h7 : Part.trigEvents ∈ W) (h8 : Part.synced ∈ W) (h9 : Part.freeze ∈ W) (h10 : Part.traces ∈ W) (h11 : Part.doms ∈ W) (h12 : Part.maps ∈ W) (h13 : Part.maps2 ∈ W) (h14 : Part.mapRe ∈ W) (h15 : Part.net ∈ W) (h16 : Part.inbox ∈ W) (h17 : Part.redIn ∈ W) (h18 : Part.robs ∈ W) (h19 : Part.seqs ∈ W) (h20 : Part.pressure ∈ W) (h21 : Part.partials ∈ W) (h22 : Part.links ∈ W) (h23 : Part.d2dReplays ∈ W) (h24 : Part.d2dRetried ∈ W) (h25 : Part.leaves ∈ W) (h26 : Part.notices ∈ W) (h27 : Part.sources ∈ W) (h28 : Part.chans ∈ W) (h29 : Part.decs ∈ W) (h30 : Part.rings ∈ W) (h31 : Part.cabs ∈ W) (h32 : Part.hutches ∈ W) (h33 : Part.routes ∈ W) (h34 : Part.pci ∈ W) (h35 : Part.mbox ∈ W) (h36 : Part.regs .pwr ∈ W) (h37 : Part.regs .time0 ∈ W) (h38 : Part.regs .time1 ∈ W) (h39 : Part.regs .plc ∈ W) (h40 : Part.regs .intg ∈ W) (h41 : Part.regs .chin ∈ W) (h42 : Part.regs .chenc ∈ W) (h43 : Part.regs .chdec ∈ W) (h44 : Part.regs .chtmr ∈ W) (h45 : Part.regs .hut0 ∈ W) (h46 : Part.regs .hut1 ∈ W) (h47 : Part.regs .cctl ∈ W) (h48 : Part.regs .qmgr ∈ W) (h49 : Part.regs .spad ∈ W) (h50 : Part.regs .drw ∈ W) (h51 : Part.regs .trs ∈ W) (h52 : Part.regs .xpnd ∈ W) (h53 : Part.regs .hzn ∈ W) (h54 : Part.regs .rtr ∈ W) (h55 : Part.regs .cobs ∈ W) (h56 : Part.regs p.blk ∈ W) :
    Result.frames (execSoftReset r p w s) W s := by
  simp [execSoftReset, *]

@[simp] theorem execSoftResetDone_frames (p : Page) (s : State) (h1 : Part.regs .time0 ∈ W) (h2 : Part.regs .time1 ∈ W) (h3 : Part.regs p.blk ∈ W) :
    Result.frames (execSoftResetDone p s) W s := by
  simp [execSoftResetDone, *]

@[simp] theorem irqSet_except (p : Page) (w : Word) (s : State) (h1 : Part.regs p.blk ∈ W) :
    (irqSet p w s).except W = s.except W := by
  simp [irqSet, *]

@[simp] theorem irqClear_except (p : Page) (w : Word) (s : State) (h1 : Part.timers ∈ W) (h2 : Part.cabs ∈ W) (h3 : Part.regs p.blk ∈ W) :
    (irqClear p w s).except W = s.except W := by
  simp [irqClear, *]

@[simp] theorem ownerWrite_except (r : Req) (p : Page) (w : Word) (s : State) (h1 : Part.logs ∈ W) (h2 : Part.routes ∈ W) (h3 : Part.regs .intg ∈ W) (h4 : Part.regs .chin ∈ W) (h5 : Part.regs .chenc ∈ W) (h6 : Part.regs .chdec ∈ W) (h7 : Part.regs .chtmr ∈ W) (h8 : Part.regs p.blk ∈ W) :
    (ownerWrite r p w s).except W = s.except W := by
  have hb := ownerPages_mem (W := W) p (by assumption) (by assumption) (by assumption) (by assumption) (by assumption)
  have hf : ∀ k, State.except ((ownerPages p).foldl (fun s q => s.assign k q) s) W = s.except W := fun k =>
    except_foldl_mem _ _ (fun q hq u => State.assign_except _ _ _ (by assumption) (hb q hq)) s
  unfold ownerWrite
  dsimp only
  (repeat' split) <;> simp [*]

@[simp] theorem lockWrite_except (r : Req) (p : Page) (w : Word) (s : State) (h1 : Part.logs ∈ W) (h2 : Part.locks ∈ W) (h3 : Part.regs .intg ∈ W) (h4 : Part.regs p.blk ∈ W) :
    (lockWrite r p w s).except W = s.except W := by
  unfold lockWrite
  (repeat' split) <;> simp [*]

@[simp] theorem headerWrite_except (r : Req) (p : Page) (off : Nat) (w : Word) (s : State) (h1 : Part.mem ∈ W) (h2 : Part.logs ∈ W) (h3 : Part.locks ∈ W) (h4 : Part.tb ∈ W) (h5 : Part.timers ∈ W) (h6 : Part.trigQual ∈ W) (h7 : Part.trigEvents ∈ W) (h8 : Part.synced ∈ W) (h9 : Part.freeze ∈ W) (h10 : Part.traces ∈ W) (h11 : Part.doms ∈ W) (h12 : Part.maps ∈ W) (h13 : Part.maps2 ∈ W) (h14 : Part.mapRe ∈ W) (h15 : Part.net ∈ W) (h16 : Part.inbox ∈ W) (h17 : Part.redIn ∈ W) (h18 : Part.robs ∈ W) (h19 : Part.seqs ∈ W) (h20 : Part.pressure ∈ W) (h21 : Part.partials ∈ W) (h22 : Part.links ∈ W) (h23 : Part.d2dReplays ∈ W) (h24 : Part.d2dRetried ∈ W) (h25 : Part.leaves ∈ W) (h26 : Part.notices ∈ W) (h27 : Part.sources ∈ W) (h28 : Part.chans ∈ W) (h29 : Part.decs ∈ W) (h30 : Part.rings ∈ W) (h31 : Part.cabs ∈ W) (h32 : Part.hutches ∈ W) (h33 : Part.routes ∈ W) (h34 : Part.mbox ∈ W) (h35 : Part.regs .pwr ∈ W) (h36 : Part.regs .time0 ∈ W) (h37 : Part.regs .time1 ∈ W) (h38 : Part.regs .plc ∈ W) (h39 : Part.regs .intg ∈ W) (h40 : Part.regs .chin ∈ W) (h41 : Part.regs .chenc ∈ W) (h42 : Part.regs .chdec ∈ W) (h43 : Part.regs .chtmr ∈ W) (h44 : Part.regs .hut0 ∈ W) (h45 : Part.regs .hut1 ∈ W) (h46 : Part.regs .cctl ∈ W) (h47 : Part.regs .qmgr ∈ W) (h48 : Part.regs .spad ∈ W) (h49 : Part.regs .drw ∈ W) (h50 : Part.regs .trs ∈ W) (h51 : Part.regs .xpnd ∈ W) (h52 : Part.regs .hzn ∈ W) (h53 : Part.regs .rtr ∈ W) (h54 : Part.regs .cobs ∈ W) (h55 : Part.regs p.blk ∈ W) :
    (headerWrite r p off w s).except W = s.except W := by
  simp [headerWrite, *]

@[simp] theorem execPgOwnerWrite_frames (r : Req) (p : Page) (w : Word) (s : State) (h1 : Part.logs ∈ W) (h2 : Part.routes ∈ W) (h3 : Part.pci ∈ W) (h4 : Part.regs .pwr ∈ W) (h5 : Part.regs .intg ∈ W) (h6 : Part.regs .chin ∈ W) (h7 : Part.regs .chenc ∈ W) (h8 : Part.regs .chdec ∈ W) (h9 : Part.regs .chtmr ∈ W) (h10 : Part.regs p.blk ∈ W) :
    Result.frames (execPgOwnerWrite r p w s) W s := by
  simp [execPgOwnerWrite, *]

@[simp] theorem execPgLockWrite_frames (r : Req) (p : Page) (w : Word) (s : State) (h1 : Part.logs ∈ W) (h2 : Part.locks ∈ W) (h3 : Part.pci ∈ W) (h4 : Part.regs .pwr ∈ W) (h5 : Part.regs .intg ∈ W) (h6 : Part.regs p.blk ∈ W) :
    Result.frames (execPgLockWrite r p w s) W s := by
  simp [execPgLockWrite, *]

@[simp] theorem execPgIrqSet_frames (r : Req) (p : Page) (w : Word) (s : State) (h1 : Part.logs ∈ W) (h2 : Part.pci ∈ W) (h3 : Part.regs .pwr ∈ W) (h4 : Part.regs .intg ∈ W) (h5 : Part.regs p.blk ∈ W) :
    Result.frames (execPgIrqSet r p w s) W s := by
  simp [execPgIrqSet, *]

@[simp] theorem execPgIrqRawClear_frames (r : Req) (p : Page) (w : Word) (s : State) (h1 : Part.logs ∈ W) (h2 : Part.timers ∈ W) (h3 : Part.cabs ∈ W) (h4 : Part.pci ∈ W) (h5 : Part.regs .pwr ∈ W) (h6 : Part.regs .intg ∈ W) (h7 : Part.regs p.blk ∈ W) :
    Result.frames (execPgIrqRawClear r p w s) W s := by
  simp [execPgIrqRawClear, *]

@[simp] theorem execPgErrInfoClear_frames (r : Req) (p : Page) (w : Word) (s : State) (h1 : Part.logs ∈ W) (h2 : Part.pci ∈ W) (h3 : Part.regs .pwr ∈ W) (h4 : Part.regs .intg ∈ W) (h5 : Part.regs p.blk ∈ W) :
    Result.frames (execPgErrInfoClear r p w s) W s := by
  simp [execPgErrInfoClear, *]

@[simp] theorem stoppedWrite_except (p : Page) (off : Nat) (w : Word) (s : State) (h1 : Part.logs ∈ W) (h2 : Part.regs .intg ∈ W) (h3 : Part.regs p.blk ∈ W) :
    (stoppedWrite p off w s).except W = s.except W := by
  simp [stoppedWrite, *]

@[simp] theorem timeWrite_except (p : Page) (off : Nat) (w : Word) (s : State) (h1 : Part.logs ∈ W) (h2 : Part.tb ∈ W) (h3 : Part.timers ∈ W) (h4 : Part.cabs ∈ W) (h5 : Part.regs .time0 ∈ W) (h6 : Part.regs .intg ∈ W) (h7 : Part.regs .chin ∈ W) (h8 : Part.regs p.blk ∈ W) :
    (timeWrite p off w s).except W = s.except W := by
  simp [timeWrite, *]

@[simp] theorem rtrWrite_except (i : Nat) (off : Nat) (w : Word) (s : State) (h1 : Part.logs ∈ W) (h2 : Part.links ∈ W) (h3 : Part.regs .intg ∈ W) (h4 : Part.regs .rtr ∈ W) :
    (rtrWrite i off w s).except W = s.except W := by
  simp [rtrWrite, *]

@[simp] theorem hutWrite_except (r : Req) (p : Page) (off : Nat) (w : Word) (s : State) (h1 : Part.mem ∈ W) (h2 : Part.logs ∈ W) (h3 : Part.links ∈ W) (h4 : Part.hutches ∈ W) (h5 : Part.parts ∈ W) (h6 : Part.boot ∈ W) (h7 : Part.regs .bur ∈ W) (h8 : Part.regs .plc ∈ W) (h9 : Part.regs .intg ∈ W) (h10 : Part.regs .hut0 ∈ W) (h11 : Part.regs .hut1 ∈ W) (h12 : Part.regs .rtr ∈ W) (h13 : Part.regs p.blk ∈ W) :
    (hutWrite r p off w s).except W = s.except W := by
  simp [hutWrite, *]

@[simp] theorem intgWrite_except (f : Nat) (off : Nat) (w : Word) (s : State) (h1 : Part.logs ∈ W) (h2 : Part.parts ∈ W) (h3 : Part.journals ∈ W) (h4 : Part.regs .intg ∈ W) :
    (intgWrite f off w s).except W = s.except W := by
  unfold intgWrite
  (repeat' split) <;> simp [*]

@[simp] theorem obsWrite_except (off : Nat) (w : Word) (s : State) (h1 : Part.logs ∈ W) (h2 : Part.freeze ∈ W) (h3 : Part.regs .intg ∈ W) (h4 : Part.regs .obs ∈ W) :
    (obsWrite off w s).except W = s.except W := by
  simp [obsWrite, *]

@[simp] theorem routeWrite_except (f : Nat) (w : Word) (s : State) (h1 : Part.logs ∈ W) (h2 : Part.routes ∈ W) (h3 : Part.regs .intg ∈ W) (h4 : Part.regs .hq ∈ W) :
    (routeWrite f w s).except W = s.except W := by
  unfold routeWrite
  (repeat' split) <;> simp [*]

@[simp] theorem hqWrite_except (f : Nat) (off : Nat) (w : Word) (s : State) (h1 : Part.logs ∈ W) (h2 : Part.hostMem ∈ W) (h3 : Part.rings ∈ W) (h4 : Part.msix ∈ W) (h5 : Part.sentMsi ∈ W) (h6 : Part.routes ∈ W) (h7 : Part.regs .intg ∈ W) (h8 : Part.regs .hq ∈ W) :
    (hqWrite f off w s).except W = s.except W := by
  simp [hqWrite, *]

@[simp] theorem coreCtrlWrite_except (r : Req) (p : Nat) (w : Word) (s : State) (h1 : Part.logs ∈ W) (h2 : Part.notices ∈ W) (h3 : Part.cabs ∈ W) (h4 : Part.regs .intg ∈ W) (h5 : Part.regs .cctl ∈ W) :
    (coreCtrlWrite r p w s).except W = s.except W := by
  simp [coreCtrlWrite, *]

@[simp] theorem execCoreRunWrite_frames (r : Req) (p : Nat) (w : Word) (s : State) (h1 : Part.logs ∈ W) (h2 : Part.notices ∈ W) (h3 : Part.cabs ∈ W) (h4 : Part.pci ∈ W) (h5 : Part.regs .pwr ∈ W) (h6 : Part.regs .intg ∈ W) (h7 : Part.regs .cctl ∈ W) :
    Result.frames (execCoreRunWrite r p w s) W s := by
  simp [execCoreRunWrite, *]

@[simp] theorem cctlWrite_except (r : Req) (p : Nat) (off : Nat) (w : Word) (s : State) (h1 : Part.logs ∈ W) (h2 : Part.notices ∈ W) (h3 : Part.cabs ∈ W) (h4 : Part.regs .intg ∈ W) (h5 : Part.regs .cctl ∈ W) :
    (cctlWrite r p off w s).except W = s.except W := by
  simp [cctlWrite, *]

@[simp] theorem qmgrWrite_except (r : Req) (p : Nat) (off : Nat) (w : Word) (s : State) (h1 : Part.logs ∈ W) (h2 : Part.faultReports ∈ W) (h3 : Part.cabs ∈ W) (h4 : Part.regs .intg ∈ W) (h5 : Part.regs .qmgr ∈ W) :
    (qmgrWrite r p off w s).except W = s.except W := by
  simp [qmgrWrite, *]

@[simp] theorem hznWrite_except (p : Nat) (off : Nat) (w : Word) (s : State) (h1 : Part.logs ∈ W) (h2 : Part.regs .intg ∈ W) (h3 : Part.regs .hzn ∈ W) :
    (hznWrite p off w s).except W = s.except W := by
  simp [hznWrite, *]

@[simp] theorem xpndWrite_except (p : Nat) (off : Nat) (w : Word) (s : State) (h1 : Part.logs ∈ W) (h2 : Part.cabs ∈ W) (h3 : Part.regs .intg ∈ W) (h4 : Part.regs .spad ∈ W) (h5 : Part.regs .xpnd ∈ W) :
    (xpndWrite p off w s).except W = s.except W := by
  simp [xpndWrite, *]

@[simp] theorem drwWrite_except (r : Req) (p : Nat) (d : Nat) (off : Nat) (w : Word) (s : State) (h1 : Part.mem ∈ W) (h2 : Part.logs ∈ W) (h3 : Part.faultReports ∈ W) (h4 : Part.regs .intg ∈ W) (h5 : Part.regs .spad ∈ W) (h6 : Part.regs .drw ∈ W) :
    (drwWrite r p d off w s).except W = s.except W := by
  simp [drwWrite, *]

@[simp] theorem trsWrite_except (r : Req) (p : Nat) (t : Nat) (off : Nat) (w : Word) (s : State) (h1 : Part.mem ∈ W) (h2 : Part.logs ∈ W) (h3 : Part.regs .intg ∈ W) (h4 : Part.regs .spad ∈ W) (h5 : Part.regs .trs ∈ W) :
    (trsWrite r p t off w s).except W = s.except W := by
  simp [trsWrite, *]

@[simp] theorem pwrWrite_except (r : Req) (off : Nat) (w : Word) (s : State) (h1 : Part.logs ∈ W) (h2 : Part.synced ∈ W) (h3 : Part.doms ∈ W) (h4 : Part.devPwr ∈ W) (h5 : Part.chans ∈ W) (h6 : Part.decs ∈ W) (h7 : Part.regs .pwr ∈ W) (h8 : Part.regs .intg ∈ W) (h9 : Part.regs .chin ∈ W) (h10 : Part.regs .drw ∈ W) :
    (pwrWrite r off w s).except W = s.except W := by
  simp [pwrWrite, *]

@[simp] theorem blockWrite_except (r : Req) (p : Page) (off : Nat) (w : Word) (s : State) (h1 : Part.mem ∈ W) (h2 : Part.logs ∈ W) (h3 : Part.faultReports ∈ W) (h4 : Part.locks ∈ W) (h5 : Part.tb ∈ W) (h6 : Part.timers ∈ W) (h7 : Part.synced ∈ W) (h8 : Part.freeze ∈ W) (h9 : Part.doms ∈ W) (h10 : Part.devPwr ∈ W) (h11 : Part.partState ∈ W) (h12 : Part.maps ∈ W) (h13 : Part.maps2 ∈ W) (h14 : Part.mapCur ∈ W) (h15 : Part.mapRe ∈ W) (h16 : Part.net ∈ W) (h17 : Part.arrivals ∈ W) (h18 : Part.inbox ∈ W) (h19 : Part.robs ∈ W) (h20 : Part.expect ∈ W) (h21 : Part.seqs ∈ W) (h22 : Part.pressure ∈ W) (h23 : Part.links ∈ W) (h24 : Part.d2dReplays ∈ W) (h25 : Part.d2dRetried ∈ W) (h26 : Part.leaves ∈ W) (h27 : Part.notices ∈ W) (h28 : Part.sources ∈ W) (h29 : Part.chans ∈ W) (h30 : Part.decs ∈ W) (h31 : Part.hostMem ∈ W) (h32 : Part.rings ∈ W) (h33 : Part.cabs ∈ W) (h34 : Part.hutches ∈ W) (h35 : Part.parts ∈ W) (h36 : Part.journals ∈ W) (h37 : Part.ckpts ∈ W) (h38 : Part.parkAreas ∈ W) (h39 : Part.boot ∈ W) (h40 : Part.msix ∈ W) (h41 : Part.sentMsi ∈ W) (h42 : Part.routes ∈ W) (h43 : Part.mbox ∈ W) (h44 : Part.regs .dev ∈ W) (h45 : Part.regs .bur ∈ W) (h46 : Part.regs .pwr ∈ W) (h47 : Part.regs .time0 ∈ W) (h48 : Part.regs .plc ∈ W) (h49 : Part.regs .intg ∈ W) (h50 : Part.regs .obs ∈ W) (h51 : Part.regs .bist ∈ W) (h52 : Part.regs .hq ∈ W) (h53 : Part.regs .chin ∈ W) (h54 : Part.regs .chenc ∈ W) (h55 : Part.regs .chdec ∈ W) (h56 : Part.regs .chtmr ∈ W) (h57 : Part.regs .hut0 ∈ W) (h58 : Part.regs .hut1 ∈ W) (h59 : Part.regs .d2d ∈ W) (h60 : Part.regs .cctl ∈ W) (h61 : Part.regs .qmgr ∈ W) (h62 : Part.regs .spad ∈ W) (h63 : Part.regs .drw ∈ W) (h64 : Part.regs .trs ∈ W) (h65 : Part.regs .xpnd ∈ W) (h66 : Part.regs .hzn ∈ W) (h67 : Part.regs .rtr ∈ W) (h68 : Part.regs .cobs ∈ W) (h69 : Part.regs p.blk ∈ W) :
    (blockWrite r p off w s).except W = s.except W := by
  unfold blockWrite
  dsimp only
  (repeat' split) <;> simp_all [except_foldl]

@[simp] theorem regWrite_except (r : Req) (p : Page) (off : Nat) (w : Word) (s : State) (h1 : Part.mem ∈ W) (h2 : Part.logs ∈ W) (h3 : Part.faultReports ∈ W) (h4 : Part.locks ∈ W) (h5 : Part.staging ∈ W) (h6 : Part.tb ∈ W) (h7 : Part.timers ∈ W) (h8 : Part.trigQual ∈ W) (h9 : Part.trigEvents ∈ W) (h10 : Part.synced ∈ W) (h11 : Part.freeze ∈ W) (h12 : Part.traces ∈ W) (h13 : Part.doms ∈ W) (h14 : Part.devPwr ∈ W) (h15 : Part.partState ∈ W) (h16 : Part.maps ∈ W) (h17 : Part.maps2 ∈ W) (h18 : Part.mapCur ∈ W) (h19 : Part.mapRe ∈ W) (h20 : Part.net ∈ W) (h21 : Part.arrivals ∈ W) (h22 : Part.inbox ∈ W) (h23 : Part.redIn ∈ W) (h24 : Part.robs ∈ W) (h25 : Part.expect ∈ W) (h26 : Part.seqs ∈ W) (h27 : Part.pressure ∈ W) (h28 : Part.partials ∈ W) (h29 : Part.links ∈ W) (h30 : Part.d2dReplays ∈ W) (h31 : Part.d2dRetried ∈ W) (h32 : Part.leaves ∈ W) (h33 : Part.notices ∈ W) (h34 : Part.sources ∈ W) (h35 : Part.chans ∈ W) (h36 : Part.decs ∈ W) (h37 : Part.hostMem ∈ W) (h38 : Part.rings ∈ W) (h39 : Part.cabs ∈ W) (h40 : Part.hutches ∈ W) (h41 : Part.parts ∈ W) (h42 : Part.journals ∈ W) (h43 : Part.ckpts ∈ W) (h44 : Part.parkAreas ∈ W) (h45 : Part.boot ∈ W) (h46 : Part.msix ∈ W) (h47 : Part.sentMsi ∈ W) (h48 : Part.routes ∈ W) (h49 : Part.mbox ∈ W) (h50 : ∀ b, Part.regs b ∈ W) :
    (regWrite r p off w s).except W = s.except W := by
  simp [regWrite, *]

@[simp] theorem logPop_except (f : Nat) (s : State) (h1 : Part.logs ∈ W) (h2 : Part.regs .intg ∈ W) :
    (logPop f s).2.except W = s.except W := by
  unfold logPop
  (repeat' split) <;> simp [*]

@[simp] theorem execErrorLogPop_frames (r : Req) (s : State) (h1 : Part.logs ∈ W) (h2 : Part.pci ∈ W) (h3 : Part.regs .intg ∈ W) :
    Result.frames (execErrorLogPop r s) W s := by
  simp [execErrorLogPop, *]

theorem popRead_except {r : Req} {p : Page} {off : Nat} {g : State → Nat × State} (hg : popRead r p off = some g) (s : State)
    (h0 : Part.draws ∈ W) (h1 : Part.logs ∈ W) (h2 : Part.faultReports ∈ W) (h3 : Part.latches ∈ W) (h4 : Part.timers ∈ W) (h5 : Part.chans ∈ W) (h6 : Part.decs ∈ W) (h7 : Part.cabs ∈ W) (h8 : Part.hutches ∈ W) (h9 : Part.regs .intg ∈ W) (h10 : Part.regs .chin ∈ W) (h11 : Part.regs .chdec ∈ W) (h12 : Part.regs .hut0 ∈ W) (h13 : Part.regs .qmgr ∈ W) (h14 : Part.regs .spad ∈ W) (h15 : Part.regs .drw ∈ W) (h16 : Part.regs .trs ∈ W) (h17 : Part.regs p.blk ∈ W) : (g s).2.except W = s.except W := by
  unfold popRead at hg
  (repeat' split at hg) <;> first
    | (cases hg; done)
    | (cases hg; simp [*]; done)
    | (cases hg; simp_all)

@[simp] theorem readAny_except (r : Req) (p : Page) (off : Nat) (s : State) (h1 : Part.draws ∈ W) (h2 : Part.logs ∈ W) (h3 : Part.faultReports ∈ W) (h4 : Part.latches ∈ W) (h5 : Part.timers ∈ W) (h6 : Part.chans ∈ W) (h7 : Part.decs ∈ W) (h8 : Part.cabs ∈ W) (h9 : Part.hutches ∈ W) (h10 : Part.regs .intg ∈ W) (h11 : Part.regs .chin ∈ W) (h12 : Part.regs .chdec ∈ W) (h13 : Part.regs .hut0 ∈ W) (h14 : Part.regs .qmgr ∈ W) (h15 : Part.regs .spad ∈ W) (h16 : Part.regs .drw ∈ W) (h17 : Part.regs .trs ∈ W) (h18 : Part.regs p.blk ∈ W) :
    (readAny r p off s).2.except W = s.except W := by
  unfold readAny
  (repeat' split) <;> first
    | (simp [*]; done)
    | (rename_i hg _; exact popRead_except hg s (by assumption) (by assumption) (by assumption) (by assumption) (by assumption) (by assumption) (by assumption) (by assumption) (by assumption) (by assumption) (by assumption) (by assumption) (by assumption) (by assumption) (by assumption) (by assumption) (by assumption) (by assumption))

@[simp] theorem State.readCheck_except (s : State) (r : Req) (p : Page) (off : Nat) (x1 : Bus) (h1 : Part.logs ∈ W) (h2 : Part.faultReports ∈ W) (h3 : Part.cabs ∈ W) (h4 : Part.regs .intg ∈ W) (h5 : Part.regs .qmgr ∈ W) :
    (State.readCheck s r p off x1).except W = s.except W := by
  unfold State.readCheck
  (repeat' split) <;> simp [*]

@[simp] theorem State.busParity_except (s : State) (f : Nat) (slot : Nat) (h1 : Part.logs ∈ W) (h2 : Part.chans ∈ W) (h3 : Part.regs .intg ∈ W) :
    (State.busParity s f slot).except W = s.except W := by
  unfold State.busParity
  try dsimp only
  (repeat' split) <;> simp_all [except_foldl]

@[simp] theorem barWord_except (f : Nat) (off : Nat) (w : Word) (bus : Bus) (s : State) (h1 : Part.mem ∈ W) (h2 : Part.logs ∈ W) (h3 : Part.faultReports ∈ W) (h4 : Part.locks ∈ W) (h5 : Part.staging ∈ W) (h6 : Part.tb ∈ W) (h7 : Part.timers ∈ W) (h8 : Part.trigQual ∈ W) (h9 : Part.trigEvents ∈ W) (h10 : Part.synced ∈ W) (h11 : Part.freeze ∈ W) (h12 : Part.traces ∈ W) (h13 : Part.doms ∈ W) (h14 : Part.devPwr ∈ W) (h15 : Part.partState ∈ W) (h16 : Part.maps ∈ W) (h17 : Part.maps2 ∈ W) (h18 : Part.mapCur ∈ W) (h19 : Part.mapRe ∈ W) (h20 : Part.net ∈ W) (h21 : Part.arrivals ∈ W) (h22 : Part.inbox ∈ W) (h23 : Part.redIn ∈ W) (h24 : Part.robs ∈ W) (h25 : Part.expect ∈ W) (h26 : Part.seqs ∈ W) (h27 : Part.pressure ∈ W) (h28 : Part.partials ∈ W) (h29 : Part.links ∈ W) (h30 : Part.d2dReplays ∈ W) (h31 : Part.d2dRetried ∈ W) (h32 : Part.leaves ∈ W) (h33 : Part.notices ∈ W) (h34 : Part.sources ∈ W) (h35 : Part.chans ∈ W) (h36 : Part.decs ∈ W) (h37 : Part.hostMem ∈ W) (h38 : Part.rings ∈ W) (h39 : Part.cabs ∈ W) (h40 : Part.hutches ∈ W) (h41 : Part.parts ∈ W) (h42 : Part.journals ∈ W) (h43 : Part.ckpts ∈ W) (h44 : Part.parkAreas ∈ W) (h45 : Part.boot ∈ W) (h46 : Part.msix ∈ W) (h47 : Part.sentMsi ∈ W) (h48 : Part.routes ∈ W) (h49 : Part.mbox ∈ W) (h50 : ∀ b, Part.regs b ∈ W) :
    (barWord f off w bus s).except W = s.except W := by
  have hb : ∀ b, Part.regs b ∈ W := by intro b; cases b <;> (first | assumption | simp [*])
  unfold barWord
  dsimp only
  (repeat' split) <;> first
    | (simp [*]; done)
    | (rename_i ht; exact gate_drop_except ht (by assumption) (hb _) (hb _) (hb _))

@[simp] theorem barWrite_frames (f : Nat) (off : Nat) (size : Nat) (v : Nat) (bus : Bus) (s : State) (h1 : Part.mem ∈ W) (h2 : Part.logs ∈ W) (h3 : Part.faultReports ∈ W) (h4 : Part.locks ∈ W) (h5 : Part.staging ∈ W) (h6 : Part.tb ∈ W) (h7 : Part.timers ∈ W) (h8 : Part.trigQual ∈ W) (h9 : Part.trigEvents ∈ W) (h10 : Part.synced ∈ W) (h11 : Part.freeze ∈ W) (h12 : Part.traces ∈ W) (h13 : Part.doms ∈ W) (h14 : Part.devPwr ∈ W) (h15 : Part.partState ∈ W) (h16 : Part.maps ∈ W) (h17 : Part.maps2 ∈ W) (h18 : Part.mapCur ∈ W) (h19 : Part.mapRe ∈ W) (h20 : Part.net ∈ W) (h21 : Part.arrivals ∈ W) (h22 : Part.inbox ∈ W) (h23 : Part.redIn ∈ W) (h24 : Part.robs ∈ W) (h25 : Part.expect ∈ W) (h26 : Part.seqs ∈ W) (h27 : Part.pressure ∈ W) (h28 : Part.partials ∈ W) (h29 : Part.links ∈ W) (h30 : Part.d2dReplays ∈ W) (h31 : Part.d2dRetried ∈ W) (h32 : Part.leaves ∈ W) (h33 : Part.notices ∈ W) (h34 : Part.sources ∈ W) (h35 : Part.chans ∈ W) (h36 : Part.decs ∈ W) (h37 : Part.hostMem ∈ W) (h38 : Part.rings ∈ W) (h39 : Part.cabs ∈ W) (h40 : Part.hutches ∈ W) (h41 : Part.parts ∈ W) (h42 : Part.journals ∈ W) (h43 : Part.ckpts ∈ W) (h44 : Part.parkAreas ∈ W) (h45 : Part.boot ∈ W) (h46 : Part.msix ∈ W) (h47 : Part.sentMsi ∈ W) (h48 : Part.routes ∈ W) (h49 : Part.pci ∈ W) (h50 : Part.mbox ∈ W) (h51 : ∀ b, Part.regs b ∈ W) :
    Result.frames (barWrite f off size v bus s) W s := by
  have hr : (s.received f bus).except W = s.except W := by simp [*]
  revert hr
  unfold barWrite busChecked
  generalize s.received f bus = u
  intro hr
  refine Result.frames_trans ?_ hr
  dsimp only
  (repeat' split) <;> simp [*]

@[simp] theorem barRead1_except (f : Nat) (off : Nat) (s : State) (h1 : Part.draws ∈ W) (h2 : Part.logs ∈ W) (h3 : Part.faultReports ∈ W) (h4 : Part.latches ∈ W) (h5 : Part.timers ∈ W) (h6 : Part.chans ∈ W) (h7 : Part.decs ∈ W) (h8 : Part.cabs ∈ W) (h9 : Part.hutches ∈ W) (h10 : ∀ b, Part.regs b ∈ W) :
    (barRead1 f off s).2.except W = s.except W := by
  unfold barRead1
  dsimp only
  (repeat' split) <;> simp_all [except_foldl]

@[simp] theorem State.readParity_frames (s : State) (r : Req) (slot : Nat) (h1 : Part.draws ∈ W) (h2 : Part.logs ∈ W) (h3 : Part.chans ∈ W) (h4 : Part.regs .intg ∈ W) :
    Result.frames (State.readParity s r slot) W s := by
  unfold State.readParity
  dsimp only
  split <;> simp [*]

@[simp] theorem State.barCheck_except (s : State) (f : Nat) (off : Nat) (bus : Bus) (h1 : Part.logs ∈ W) (h2 : Part.faultReports ∈ W) (h3 : Part.cabs ∈ W) (h4 : Part.regs .intg ∈ W) (h5 : Part.regs .qmgr ∈ W) :
    (State.barCheck s f off bus).except W = s.except W := by
  unfold State.barCheck
  split <;> simp [*]

@[simp] theorem barRead_frames (f : Nat) (off : Nat) (size : Nat) (bus : Bus) (s : State) (h1 : Part.draws ∈ W) (h2 : Part.logs ∈ W) (h3 : Part.faultReports ∈ W) (h4 : Part.latches ∈ W) (h5 : Part.timers ∈ W) (h6 : Part.chans ∈ W) (h7 : Part.decs ∈ W) (h8 : Part.cabs ∈ W) (h9 : Part.hutches ∈ W) (h10 : Part.pci ∈ W) (h11 : ∀ b, Part.regs b ∈ W) :
    Result.frames (barRead f off size bus s) W s := by
  have hr : (s.received f bus).except W = s.except W := by simp [*]
  revert hr
  unfold barRead 
  generalize s.received f bus = u
  intro hr
  refine Result.frames_trans ?_ hr
  dsimp only
  (repeat' split) <;> simp [*]

@[simp] theorem execRegisterWrite_frames (r : Req) (t : Target) (v : Nat) (bus : Bus) (s : State) (h1 : Part.mem ∈ W) (h2 : Part.logs ∈ W) (h3 : Part.faultReports ∈ W) (h4 : Part.locks ∈ W) (h5 : Part.staging ∈ W) (h6 : Part.tb ∈ W) (h7 : Part.timers ∈ W) (h8 : Part.trigQual ∈ W) (h9 : Part.trigEvents ∈ W) (h10 : Part.synced ∈ W) (h11 : Part.freeze ∈ W) (h12 : Part.traces ∈ W) (h13 : Part.doms ∈ W) (h14 : Part.devPwr ∈ W) (h15 : Part.partState ∈ W) (h16 : Part.maps ∈ W) (h17 : Part.maps2 ∈ W) (h18 : Part.mapCur ∈ W) (h19 : Part.mapRe ∈ W) (h20 : Part.net ∈ W) (h21 : Part.arrivals ∈ W) (h22 : Part.inbox ∈ W) (h23 : Part.redIn ∈ W) (h24 : Part.robs ∈ W) (h25 : Part.expect ∈ W) (h26 : Part.seqs ∈ W) (h27 : Part.pressure ∈ W) (h28 : Part.partials ∈ W) (h29 : Part.links ∈ W) (h30 : Part.d2dReplays ∈ W) (h31 : Part.d2dRetried ∈ W) (h32 : Part.leaves ∈ W) (h33 : Part.notices ∈ W) (h34 : Part.sources ∈ W) (h35 : Part.chans ∈ W) (h36 : Part.decs ∈ W) (h37 : Part.hostMem ∈ W) (h38 : Part.rings ∈ W) (h39 : Part.cabs ∈ W) (h40 : Part.hutches ∈ W) (h41 : Part.parts ∈ W) (h42 : Part.journals ∈ W) (h43 : Part.ckpts ∈ W) (h44 : Part.parkAreas ∈ W) (h45 : Part.boot ∈ W) (h46 : Part.msix ∈ W) (h47 : Part.sentMsi ∈ W) (h48 : Part.routes ∈ W) (h49 : Part.pci ∈ W) (h50 : Part.mbox ∈ W) (h51 : ∀ b, Part.regs b ∈ W) :
    Result.frames (execRegisterWrite r t v bus s) W s := by
  have hb : ∀ b, Part.regs b ∈ W := by intro b; cases b <;> (first | assumption | simp [*])
  unfold execRegisterWrite
  split
  · split <;> simp [*]
  · split <;> simp [*]
  · next p off =>
    have hr : (s.received r.view bus).except W = s.except W := by simp [*]
    revert hr
    generalize s.received r.view bus = u
    intro hr
    refine Result.frames_trans ?_ hr
    dsimp only
    split
    · simp
    · split
      · simp [*]
      · next ht => exact busChecked_frames _ _ _ _ ‹_› (hb _) ((done_frames _ _).mpr (gate_drop_except ht ‹_› (hb _) (hb _) (hb _)))
      · refine busChecked_frames _ _ _ _ ‹_› (hb _) ?_
        split <;> simp [*]

@[simp] theorem execWideLowRead_frames (r : Req) (t : Target) (bus : Bus) (s : State) (h1 : Part.draws ∈ W) (h2 : Part.logs ∈ W) (h3 : Part.faultReports ∈ W) (h4 : Part.latches ∈ W) (h5 : Part.timers ∈ W) (h6 : Part.chans ∈ W) (h7 : Part.decs ∈ W) (h8 : Part.cabs ∈ W) (h9 : Part.hutches ∈ W) (h10 : Part.pci ∈ W) (h11 : ∀ b, Part.regs b ∈ W) :
    Result.frames (execWideLowRead r t bus s) W s := by
  unfold execWideLowRead
  split
  · split <;> simp [*]
  · split <;> simp [*]
  · next p off =>
    have hr : (s.received r.view bus).except W = s.except W := by simp [*]
    revert hr
    generalize s.received r.view bus = u
    intro hr
    refine Result.frames_trans ?_ hr
    dsimp only
    (repeat' split) <;> simp [*]

end Sys2Proof.Machine
end

