-- ==== Sys2Proof/Laws/FrameCoreCpu.lean ====
section
/-!
SUPPORT. FrameCoreCpu.lean: for each operation of CoreCpu.lean, the parts of the state it may change: it leaves everything outside W as it was,
whenever W holds those parts.
-/

namespace Sys2Proof.Machine

variable {W : List Part}

@[simp] theorem State.coreLockup_except (s : State) (p : Nat) (cls : Nat) (code : Nat) (loc : Nat) (h1 : Part.logs ∈ W) (h2 : Part.faultReports ∈ W) (h3 : Part.regs .intg ∈ W) (h4 : Part.regs .cctl ∈ W) :
    (State.coreLockup s p cls code loc).except W = s.except W := by
  simp [State.coreLockup, *]

@[simp] theorem State.coreTrapEnter_except (s : State) (p : Nat) (cause : Word) (tval : Word) (h1 : Part.cabs ∈ W) (h2 : Part.regs .cctl ∈ W) :
    (State.coreTrapEnter s p cause tval).except W = s.except W := by
  simp [State.coreTrapEnter, *]

@[simp] theorem State.coreException_except (s : State) (p : Nat) (cause : Nat) (h1 : Part.draws ∈ W) (h2 : Part.logs ∈ W) (h3 : Part.faultReports ∈ W) (h4 : Part.cabs ∈ W) (h5 : Part.regs .intg ∈ W) (h6 : Part.regs .cctl ∈ W) :
    (State.coreException s p cause).except W = s.except W := by
  simp [State.coreException, *]

@[simp] theorem State.waitAbandon_except (s : State) (p : Nat) (h1 : Part.traces ∈ W) (h2 : Part.cabs ∈ W) (h3 : Part.regs .obs ∈ W) :
    (State.waitAbandon s p).except W = s.except W := by
  unfold State.waitAbandon
  (repeat' split) <;> simp [*]

@[simp] theorem execCoreInterrupt_frames (p : Nat) (s : State) (h1 : Part.traces ∈ W) (h2 : Part.cabs ∈ W) (h3 : Part.regs .obs ∈ W) (h4 : Part.regs .cctl ∈ W) :
    Result.frames (execCoreInterrupt p s) W s := by
  simp [execCoreInterrupt, *]

@[simp] theorem State.coreSpadRead_except (s : State) (p : Nat) (a : Nat) (n : Nat) (ecc : EccRead) (h1 : Part.logs ∈ W) (h2 : Part.faultReports ∈ W) (h3 : Part.regs .intg ∈ W) (h4 : Part.regs .spad ∈ W) :
    (State.coreSpadRead s p a n ecc).2.except W = s.except W := by
  unfold State.coreSpadRead
  (repeat' split) <;> simp [*]

@[simp] theorem State.coreSpadParts_except (s : State) (p : Nat) (x1 : List (Nat × Nat)) (x2 : Nat) (h1 : Part.mem ∈ W) (h2 : Part.logs ∈ W) (h3 : Part.cabs ∈ W) (h4 : Part.regs .intg ∈ W) (h5 : Part.regs .spad ∈ W) (h6 : Part.regs .xpnd ∈ W) :
    State.except (State.coreSpadParts s p x1 x2).2 W = s.except W := by
  induction x1 generalizing s x2 with
  | nil => rfl
  | cons a l ih =>
    unfold State.coreSpadParts
    (repeat' split) <;> simp [*]

@[simp] theorem State.corePageRead_except (s : State) (p : Nat) (o : Nat) (h1 : Part.draws ∈ W) (h2 : Part.logs ∈ W) (h3 : Part.faultReports ∈ W) (h4 : Part.latches ∈ W) (h5 : Part.timers ∈ W) (h6 : Part.chans ∈ W) (h7 : Part.decs ∈ W) (h8 : Part.cabs ∈ W) (h9 : Part.hutches ∈ W) (h10 : Part.regs .intg ∈ W) (h11 : Part.regs .chin ∈ W) (h12 : Part.regs .chdec ∈ W) (h13 : Part.regs .hut0 ∈ W) (h14 : Part.regs .cctl ∈ W) (h15 : Part.regs .qmgr ∈ W) (h16 : Part.regs .spad ∈ W) (h17 : Part.regs .drw ∈ W) (h18 : Part.regs .trs ∈ W) (h19 : Part.regs .xpnd ∈ W) (h20 : Part.regs .hzn ∈ W) (h21 : Part.regs .rtr ∈ W) (h22 : Part.regs .cobs ∈ W) :
    (State.corePageRead s p o).2.except W = s.except W := by
  have hb : ∀ i, Part.regs (corePage p i).blk ∈ W := by
    intro i; unfold corePage; split <;> simp [*]
  unfold State.corePageRead
  split
  · rfl
  · exact readAny_except _ _ _ _ (by assumption) (by assumption) (by assumption) (by assumption) (by assumption) (by assumption) (by assumption) (by assumption) (by assumption) (by assumption) (by assumption) (by assumption) (by assumption) (by assumption) (by assumption) (by assumption) (by assumption) (hb _)

@[simp] theorem State.corePageWrite_except (s : State) (p : Nat) (o : Nat) (w : Word) (h1 : Part.mem ∈ W) (h2 : Part.logs ∈ W) (h3 : Part.faultReports ∈ W) (h4 : Part.locks ∈ W) (h5 : Part.staging ∈ W) (h6 : Part.tb ∈ W) (h7 : Part.timers ∈ W) (h8 : Part.trigQual ∈ W) (h9 : Part.trigEvents ∈ W) (h10 : Part.synced ∈ W) (h11 : Part.freeze ∈ W) (h12 : Part.traces ∈ W) (h13 : Part.doms ∈ W) (h14 : Part.devPwr ∈ W) (h15 : Part.partState ∈ W) (h16 : Part.maps ∈ W) (h17 : Part.maps2 ∈ W) (h18 : Part.mapCur ∈ W) (h19 : Part.mapRe ∈ W) (h20 : Part.net ∈ W) (h21 : Part.arrivals ∈ W) (h22 : Part.inbox ∈ W) (h23 : Part.redIn ∈ W) (h24 : Part.robs ∈ W) (h25 : Part.expect ∈ W) (h26 : Part.seqs ∈ W) (h27 : Part.pressure ∈ W) (h28 : Part.partials ∈ W) (h29 : Part.links ∈ W) (h30 : Part.d2dReplays ∈ W) (h31 : Part.d2dRetried ∈ W) (h32 : Part.leaves ∈ W) (h33 : Part.notices ∈ W) (h34 : Part.sources ∈ W) (h35 : Part.chans ∈ W) (h36 : Part.decs ∈ W) (h37 : Part.hostMem ∈ W) (h38 : Part.rings ∈ W) (h39 : Part.cabs ∈ W) (h40 : Part.hutches ∈ W) (h41 : Part.parts ∈ W) (h42 : Part.journals ∈ W) (h43 : Part.ckpts ∈ W) (h44 : Part.parkAreas ∈ W) (h45 : Part.boot ∈ W) (h46 : Part.msix ∈ W) (h47 : Part.sentMsi ∈ W) (h48 : Part.routes ∈ W) (h49 : Part.mbox ∈ W) (h50 : ∀ b, Part.regs b ∈ W) :
    (State.corePageWrite s p o w).except W = s.except W := by
  unfold State.corePageWrite
  split
  · rfl
  · split
    · simp [*]
    · next ht => exact gate_drop_except ht (by assumption) (h50 _) (h50 _) (h50 _)
    · rfl

@[simp] theorem State.coreIsolated_except (s : State) (p : Nat) (h1 : Part.logs ∈ W) (h2 : Part.regs .intg ∈ W) (h3 : Part.regs .qmgr ∈ W) :
    (State.coreIsolated s p).except W = s.except W := by
  simp [State.coreIsolated, *]

@[simp] theorem State.coreStackRead_except (s : State) (p : Nat) (b : Nat) (n : Nat) (ecc : EccRead) (h1 : Part.draws ∈ W) (h2 : Part.mem ∈ W) (h3 : Part.logs ∈ W) (h4 : Part.faultReports ∈ W) (h5 : Part.links ∈ W) (h6 : Part.hutches ∈ W) (h7 : Part.parts ∈ W) (h8 : Part.boot ∈ W) (h9 : Part.regs .bur ∈ W) (h10 : Part.regs .plc ∈ W) (h11 : Part.regs .intg ∈ W) (h12 : Part.regs .hut0 ∈ W) (h13 : Part.regs .hut1 ∈ W) (h14 : Part.regs .qmgr ∈ W) (h15 : Part.regs .rtr ∈ W) :
    State.except (State.coreStackRead s p b n ecc).2 W = s.except W := by
  unfold State.coreStackRead
  dsimp only
  (repeat' split) <;> simp_all [except_foldl]

@[simp] theorem State.corePageLoad_except (s : State) (p : Nat) (o : Nat) (n : Nat) (h1 : Part.draws ∈ W) (h2 : Part.logs ∈ W) (h3 : Part.faultReports ∈ W) (h4 : Part.latches ∈ W) (h5 : Part.timers ∈ W) (h6 : Part.chans ∈ W) (h7 : Part.decs ∈ W) (h8 : Part.cabs ∈ W) (h9 : Part.hutches ∈ W) (h10 : Part.regs .intg ∈ W) (h11 : Part.regs .chin ∈ W) (h12 : Part.regs .chdec ∈ W) (h13 : Part.regs .hut0 ∈ W) (h14 : Part.regs .cctl ∈ W) (h15 : Part.regs .qmgr ∈ W) (h16 : Part.regs .spad ∈ W) (h17 : Part.regs .drw ∈ W) (h18 : Part.regs .trs ∈ W) (h19 : Part.regs .xpnd ∈ W) (h20 : Part.regs .hzn ∈ W) (h21 : Part.regs .rtr ∈ W) (h22 : Part.regs .cobs ∈ W) :
    (State.corePageLoad s p o n).2.except W = s.except W := by
  unfold State.corePageLoad
  (repeat' split) <;> simp [*]

@[simp] theorem State.coreLoad_except (s : State) (p : Nat) (x1 : Nat) (n : Nat) (ecc : EccRead) (h1 : Part.draws ∈ W) (h2 : Part.mem ∈ W) (h3 : Part.logs ∈ W) (h4 : Part.faultReports ∈ W) (h5 : Part.latches ∈ W) (h6 : Part.timers ∈ W) (h7 : Part.links ∈ W) (h8 : Part.chans ∈ W) (h9 : Part.decs ∈ W) (h10 : Part.cabs ∈ W) (h11 : Part.hutches ∈ W) (h12 : Part.parts ∈ W) (h13 : Part.boot ∈ W) (h14 : Part.regs .bur ∈ W) (h15 : Part.regs .plc ∈ W) (h16 : Part.regs .intg ∈ W) (h17 : Part.regs .chin ∈ W) (h18 : Part.regs .chdec ∈ W) (h19 : Part.regs .hut0 ∈ W) (h20 : Part.regs .hut1 ∈ W) (h21 : Part.regs .cctl ∈ W) (h22 : Part.regs .qmgr ∈ W) (h23 : Part.regs .spad ∈ W) (h24 : Part.regs .drw ∈ W) (h25 : Part.regs .trs ∈ W) (h26 : Part.regs .xpnd ∈ W) (h27 : Part.regs .hzn ∈ W) (h28 : Part.regs .rtr ∈ W) (h29 : Part.regs .cobs ∈ W) :
    State.except (State.coreLoad s p x1 n ecc).2 W = s.except W := by
  unfold State.coreLoad
  (repeat' split) <;> first
    | with_reducible rfl
    | simp [*]

@[simp] theorem State.corePageStore_except (s : State) (p : Nat) (o : Nat) (n : Nat) (v : Nat) (h1 : Part.mem ∈ W) (h2 : Part.logs ∈ W) (h3 : Part.faultReports ∈ W) (h4 : Part.locks ∈ W) (h5 : Part.staging ∈ W) (h6 : Part.tb ∈ W) (h7 : Part.timers ∈ W) (h8 : Part.trigQual ∈ W) (h9 : Part.trigEvents ∈ W) (h10 : Part.synced ∈ W) (h11 : Part.freeze ∈ W) (h12 : Part.traces ∈ W) (h13 : Part.doms ∈ W) (h14 : Part.devPwr ∈ W) (h15 : Part.partState ∈ W) (h16 : Part.maps ∈ W) (h17 : Part.maps2 ∈ W) (h18 : Part.mapCur ∈ W) (h19 : Part.mapRe ∈ W) (h20 : Part.net ∈ W) (h21 : Part.arrivals ∈ W) (h22 : Part.inbox ∈ W) (h23 : Part.redIn ∈ W) (h24 : Part.robs ∈ W) (h25 : Part.expect ∈ W) (h26 : Part.seqs ∈ W) (h27 : Part.pressure ∈ W) (h28 : Part.partials ∈ W) (h29 : Part.links ∈ W) (h30 : Part.d2dReplays ∈ W) (h31 : Part.d2dRetried ∈ W) (h32 : Part.leaves ∈ W) (h33 : Part.notices ∈ W) (h34 : Part.sources ∈ W) (h35 : Part.chans ∈ W) (h36 : Part.decs ∈ W) (h37 : Part.hostMem ∈ W) (h38 : Part.rings ∈ W) (h39 : Part.cabs ∈ W) (h40 : Part.hutches ∈ W) (h41 : Part.parts ∈ W) (h42 : Part.journals ∈ W) (h43 : Part.ckpts ∈ W) (h44 : Part.parkAreas ∈ W) (h45 : Part.boot ∈ W) (h46 : Part.msix ∈ W) (h47 : Part.sentMsi ∈ W) (h48 : Part.routes ∈ W) (h49 : Part.mbox ∈ W) (h50 : ∀ b, Part.regs b ∈ W) :
    (State.corePageStore s p o n v).except W = s.except W := by
  simp [State.corePageStore, *]

@[simp] theorem State.coreStore_except (s : State) (p : Nat) (x1 : Nat) (n : Nat) (v : Nat) (h1 : Part.mem ∈ W) (h2 : Part.logs ∈ W) (h3 : Part.faultReports ∈ W) (h4 : Part.locks ∈ W) (h5 : Part.staging ∈ W) (h6 : Part.tb ∈ W) (h7 : Part.timers ∈ W) (h8 : Part.trigQual ∈ W) (h9 : Part.trigEvents ∈ W) (h10 : Part.synced ∈ W) (h11 : Part.freeze ∈ W) (h12 : Part.traces ∈ W) (h13 : Part.doms ∈ W) (h14 : Part.devPwr ∈ W) (h15 : Part.partState ∈ W) (h16 : Part.maps ∈ W) (h17 : Part.maps2 ∈ W) (h18 : Part.mapCur ∈ W) (h19 : Part.mapRe ∈ W) (h20 : Part.net ∈ W) (h21 : Part.arrivals ∈ W) (h22 : Part.inbox ∈ W) (h23 : Part.redIn ∈ W) (h24 : Part.robs ∈ W) (h25 : Part.expect ∈ W) (h26 : Part.seqs ∈ W) (h27 : Part.pressure ∈ W) (h28 : Part.partials ∈ W) (h29 : Part.links ∈ W) (h30 : Part.d2dReplays ∈ W) (h31 : Part.d2dRetried ∈ W) (h32 : Part.leaves ∈ W) (h33 : Part.notices ∈ W) (h34 : Part.sources ∈ W) (h35 : Part.chans ∈ W) (h36 : Part.decs ∈ W) (h37 : Part.hostMem ∈ W) (h38 : Part.rings ∈ W) (h39 : Part.cabs ∈ W) (h40 : Part.hutches ∈ W) (h41 : Part.parts ∈ W) (h42 : Part.journals ∈ W) (h43 : Part.ckpts ∈ W) (h44 : Part.parkAreas ∈ W) (h45 : Part.boot ∈ W) (h46 : Part.msix ∈ W) (h47 : Part.sentMsi ∈ W) (h48 : Part.routes ∈ W) (h49 : Part.mbox ∈ W) (h50 : ∀ b, Part.regs b ∈ W) :
    State.except (State.coreStore s p x1 n v).2 W = s.except W := by
  unfold State.coreStore
  (repeat' split) <;> simp [*]

@[simp] theorem State.coreFetch_except (s : State) (p : Nat) (a : Nat) (ecc : EccRead) (h1 : Part.logs ∈ W) (h2 : Part.faultReports ∈ W) (h3 : Part.regs .intg ∈ W) (h4 : Part.regs .spad ∈ W) :
    (State.coreFetch s p a ecc).2.except W = s.except W := by
  unfold State.coreFetch
  dsimp only
  (repeat' split) <;> simp_all [except_foldl]

@[simp] theorem State.csrRead_except (s : State) (p : Nat) (n : Nat) (h1 : Part.draws ∈ W) (h2 : Part.cabs ∈ W) :
    (State.csrRead s p n).2.except W = s.except W := by
  unfold State.csrRead
  (repeat' split) <;> simp [*]

@[simp] theorem State.coreRetire_except (s : State) (p : Nat) (next : Word) (h1 : Part.cabs ∈ W) (h2 : Part.regs .cctl ∈ W) :
    (State.coreRetire s p next).except W = s.except W := by
  simp [State.coreRetire, *]

@[simp] theorem State.coreWrite_except (s : State) (p : Nat) (rd : Nat) (v : Word) (next : Word) (h1 : Part.cabs ∈ W) (h2 : Part.regs .cctl ∈ W) :
    (State.coreWrite s p rd v next).except W = s.except W := by
  simp [State.coreWrite, *]

@[simp] theorem State.coreCsr_except (s : State) (p : Nat) (f : Nat) (rd : Nat) (src : Nat) (n : Nat) (next : Word) (h1 : Part.draws ∈ W) (h2 : Part.logs ∈ W) (h3 : Part.faultReports ∈ W) (h4 : Part.cabs ∈ W) (h5 : Part.regs .intg ∈ W) (h6 : Part.regs .cctl ∈ W) :
    (State.coreCsr s p f rd src n next).except W = s.except W := by
  unfold State.coreCsr
  (repeat' split) <;> simp [*]

@[simp] theorem State.coreStep_except (s : State) (p : Nat) (op : CoreOp) (len : Nat) (data : EccRead) (h1 : Part.draws ∈ W) (h2 : Part.mem ∈ W) (h3 : Part.logs ∈ W) (h4 : Part.faultReports ∈ W) (h5 : Part.locks ∈ W) (h6 : Part.latches ∈ W) (h7 : Part.staging ∈ W) (h8 : Part.tb ∈ W) (h9 : Part.timers ∈ W) (h10 : Part.trigQual ∈ W) (h11 : Part.trigEvents ∈ W) (h12 : Part.synced ∈ W) (h13 : Part.freeze ∈ W) (h14 : Part.traces ∈ W) (h15 : Part.doms ∈ W) (h16 : Part.devPwr ∈ W) (h17 : Part.partState ∈ W) (h18 : Part.maps ∈ W) (h19 : Part.maps2 ∈ W) (h20 : Part.mapCur ∈ W) (h21 : Part.mapRe ∈ W) (h22 : Part.net ∈ W) (h23 : Part.arrivals ∈ W) (h24 : Part.inbox ∈ W) (h25 : Part.redIn ∈ W) (h26 : Part.robs ∈ W) (h27 : Part.expect ∈ W) (h28 : Part.seqs ∈ W) (h29 : Part.pressure ∈ W) (h30 : Part.partials ∈ W) (h31 : Part.links ∈ W) (h32 : Part.d2dReplays ∈ W) (h33 : Part.d2dRetried ∈ W) (h34 : Part.leaves ∈ W) (h35 : Part.notices ∈ W) (h36 : Part.sources ∈ W) (h37 : Part.chans ∈ W) (h38 : Part.decs ∈ W) (h39 : Part.hostMem ∈ W) (h40 : Part.rings ∈ W) (h41 : Part.cabs ∈ W) (h42 : Part.hutches ∈ W) (h43 : Part.parts ∈ W) (h44 : Part.journals ∈ W) (h45 : Part.ckpts ∈ W) (h46 : Part.parkAreas ∈ W) (h47 : Part.boot ∈ W) (h48 : Part.msix ∈ W) (h49 : Part.sentMsi ∈ W) (h50 : Part.routes ∈ W) (h51 : Part.mbox ∈ W) (h52 : ∀ b, Part.regs b ∈ W) :
    (State.coreStep s p op len data).except W = s.except W := by
  unfold State.coreStep
  dsimp only
  (repeat' split) <;> first
    | (simp [*]; done)
    | (rename_i ht
       have h := (congrArg (fun x => State.except x.2 W) ht).symm
       clear ht
       dsimp only at h
       simp [*] at h
       simp [h, *]; done)

@[simp] theorem execCoreInstruction_frames (p : Nat) (fetch : EccRead) (data : EccRead) (parity : Option Nat) (s : State) (h1 : Part.draws ∈ W) (h2 : Part.mem ∈ W) (h3 : Part.logs ∈ W) (h4 : Part.faultReports ∈ W) (h5 : Part.locks ∈ W) (h6 : Part.latches ∈ W) (h7 : Part.staging ∈ W) (h8 : Part.tb ∈ W) (h9 : Part.timers ∈ W) (h10 : Part.trigQual ∈ W) (h11 : Part.trigEvents ∈ W) (h12 : Part.synced ∈ W) (h13 : Part.freeze ∈ W) (h14 : Part.traces ∈ W) (h15 : Part.doms ∈ W) (h16 : Part.devPwr ∈ W) (h17 : Part.partState ∈ W) (h18 : Part.maps ∈ W) (h19 : Part.maps2 ∈ W) (h20 : Part.mapCur ∈ W) (h21 : Part.mapRe ∈ W) (h22 : Part.net ∈ W) (h23 : Part.arrivals ∈ W) (h24 : Part.inbox ∈ W) (h25 : Part.redIn ∈ W) (h26 : Part.robs ∈ W) (h27 : Part.expect ∈ W) (h28 : Part.seqs ∈ W) (h29 : Part.pressure ∈ W) (h30 : Part.partials ∈ W) (h31 : Part.links ∈ W) (h32 : Part.d2dReplays ∈ W) (h33 : Part.d2dRetried ∈ W) (h34 : Part.leaves ∈ W) (h35 : Part.notices ∈ W) (h36 : Part.sources ∈ W) (h37 : Part.chans ∈ W) (h38 : Part.decs ∈ W) (h39 : Part.hostMem ∈ W) (h40 : Part.rings ∈ W) (h41 : Part.cabs ∈ W) (h42 : Part.hutches ∈ W) (h43 : Part.parts ∈ W) (h44 : Part.journals ∈ W) (h45 : Part.ckpts ∈ W) (h46 : Part.parkAreas ∈ W) (h47 : Part.boot ∈ W) (h48 : Part.msix ∈ W) (h49 : Part.sentMsi ∈ W) (h50 : Part.routes ∈ W) (h51 : Part.mbox ∈ W) (h52 : ∀ b, Part.regs b ∈ W) :
    Result.frames (execCoreInstruction p fetch data parity s) W s := by
  unfold execCoreInstruction
  split
  · simp
  · split
    · simp [*]
    · have h : State.except (s.coreFetch p (s.core p).pc.toNat fetch).2 W = s.except W := by simp [*]
      generalize State.coreFetch _ _ _ _ = r at h
      obtain ⟨o, t⟩ := r
      cases o with
      | none => dsimp only at h ⊢; simp [*]
      | some w =>
        dsimp only at h ⊢
        split <;> simp [*]

@[simp] theorem State.queueBuf_except (s : State) (p : Nat) (a : Nat) (ecc : EccRead) (h1 : Part.logs ∈ W) (h2 : Part.faultReports ∈ W) (h3 : Part.regs .intg ∈ W) (h4 : Part.regs .spad ∈ W) :
    (State.queueBuf s p a ecc).2.except W = s.except W := by
  unfold State.queueBuf
  (repeat' split) <;> simp [*]

@[simp] theorem State.queuePut_except (s : State) (p : Nat) (x1 : Nat) (m : Nat) (h1 : Part.mem ∈ W) (h2 : Part.logs ∈ W) (h3 : Part.cabs ∈ W) (h4 : Part.regs .intg ∈ W) (h5 : Part.regs .spad ∈ W) (h6 : Part.regs .xpnd ∈ W) :
    (State.queuePut s p x1 m).except W = s.except W := by
  simp [State.queuePut, except_foldl, *]

@[simp] theorem State.queueFail_except (s : State) (p : Nat) (rd : Nat) (st : Nat) (h1 : Part.logs ∈ W) (h2 : Part.traces ∈ W) (h3 : Part.cabs ∈ W) (h4 : Part.regs .intg ∈ W) (h5 : Part.regs .obs ∈ W) (h6 : Part.regs .cctl ∈ W) (h7 : Part.regs .qmgr ∈ W) :
    (State.queueFail s p rd st).except W = s.except W := by
  simp [State.queueFail, *]

@[simp] theorem State.coreSend_except (s : State) (p : Nat) (rd : Nat) (kind : Nat) (qid : Nat) (a : Nat) (limit : Option Nat) (mc : Option (Nat × List Nat)) (ecc : EccRead) (h1 : Part.logs ∈ W) (h2 : Part.faultReports ∈ W) (h3 : Part.traces ∈ W) (h4 : Part.net ∈ W) (h5 : Part.seqs ∈ W) (h6 : Part.sources ∈ W) (h7 : Part.hostMem ∈ W) (h8 : Part.rings ∈ W) (h9 : Part.cabs ∈ W) (h10 : Part.regs .intg ∈ W) (h11 : Part.regs .obs ∈ W) (h12 : Part.regs .hq ∈ W) (h13 : Part.regs .cctl ∈ W) (h14 : Part.regs .qmgr ∈ W) (h15 : Part.regs .spad ∈ W) :
    (State.coreSend s p rd kind qid a limit mc ecc).except W = s.except W := by
  simp [State.coreSend, *]

@[simp] theorem execQsend_frames (p : Nat) (ecc : EccRead) (s : State) (h1 : Part.logs ∈ W) (h2 : Part.faultReports ∈ W) (h3 : Part.traces ∈ W) (h4 : Part.net ∈ W) (h5 : Part.seqs ∈ W) (h6 : Part.sources ∈ W) (h7 : Part.hostMem ∈ W) (h8 : Part.rings ∈ W) (h9 : Part.cabs ∈ W) (h10 : Part.regs .intg ∈ W) (h11 : Part.regs .obs ∈ W) (h12 : Part.regs .hq ∈ W) (h13 : Part.regs .cctl ∈ W) (h14 : Part.regs .qmgr ∈ W) (h15 : Part.regs .spad ∈ W) :
    Result.frames (execQsend p ecc s) W s := by
  unfold execQsend
  (repeat' split) <;> simp [*]

@[simp] theorem execQsendT_frames (p : Nat) (ecc : EccRead) (s : State) (h1 : Part.logs ∈ W) (h2 : Part.faultReports ∈ W) (h3 : Part.traces ∈ W) (h4 : Part.net ∈ W) (h5 : Part.seqs ∈ W) (h6 : Part.sources ∈ W) (h7 : Part.hostMem ∈ W) (h8 : Part.rings ∈ W) (h9 : Part.cabs ∈ W) (h10 : Part.regs .intg ∈ W) (h11 : Part.regs .obs ∈ W) (h12 : Part.regs .hq ∈ W) (h13 : Part.regs .cctl ∈ W) (h14 : Part.regs .qmgr ∈ W) (h15 : Part.regs .spad ∈ W) :
    Result.frames (execQsendT p ecc s) W s := by
  unfold execQsendT
  (repeat' split) <;> simp [*]

@[simp] theorem execQmcast_frames (p : Nat) (ecc : QmReads) (s : State) (h1 : Part.logs ∈ W) (h2 : Part.faultReports ∈ W) (h3 : Part.traces ∈ W) (h4 : Part.net ∈ W) (h5 : Part.seqs ∈ W) (h6 : Part.sources ∈ W) (h7 : Part.hostMem ∈ W) (h8 : Part.rings ∈ W) (h9 : Part.cabs ∈ W) (h10 : Part.regs .intg ∈ W) (h11 : Part.regs .obs ∈ W) (h12 : Part.regs .hq ∈ W) (h13 : Part.regs .cctl ∈ W) (h14 : Part.regs .qmgr ∈ W) (h15 : Part.regs .spad ∈ W) :
    Result.frames (execQmcast p ecc s) W s := by
  unfold execQmcast
  dsimp only
  (repeat' split) <;> simp_all [except_foldl]

@[simp] theorem State.receive_except (s : State) (p : Nat) (q : Nat) (rd : Nat) (x1 : Nat) (ecc : EccRead) (h1 : Part.draws ∈ W) (h2 : Part.mem ∈ W) (h3 : Part.logs ∈ W) (h4 : Part.faultReports ∈ W) (h5 : Part.traces ∈ W) (h6 : Part.cabs ∈ W) (h7 : Part.hutches ∈ W) (h8 : Part.regs .intg ∈ W) (h9 : Part.regs .obs ∈ W) (h10 : Part.regs .hut0 ∈ W) (h11 : Part.regs .cctl ∈ W) (h12 : Part.regs .qmgr ∈ W) (h13 : Part.regs .spad ∈ W) (h14 : Part.regs .xpnd ∈ W) :
    (State.receive s p q rd x1 ecc).except W = s.except W := by
  simp [State.receive, *]

@[simp] theorem execQrecv_frames (p : Nat) (ecc : QmReads) (s : State) (h1 : Part.draws ∈ W) (h2 : Part.mem ∈ W) (h3 : Part.logs ∈ W) (h4 : Part.faultReports ∈ W) (h5 : Part.traces ∈ W) (h6 : Part.cabs ∈ W) (h7 : Part.hutches ∈ W) (h8 : Part.regs .intg ∈ W) (h9 : Part.regs .obs ∈ W) (h10 : Part.regs .hut0 ∈ W) (h11 : Part.regs .cctl ∈ W) (h12 : Part.regs .qmgr ∈ W) (h13 : Part.regs .spad ∈ W) (h14 : Part.regs .xpnd ∈ W) :
    Result.frames (execQrecv p ecc s) W s := by
  unfold execQrecv
  dsimp only
  (repeat' split) <;> simp_all [except_foldl]

@[simp] theorem execQrecvReceive_frames (p : Nat) (ecc : QmReads) (s : State) (h1 : Part.draws ∈ W) (h2 : Part.mem ∈ W) (h3 : Part.logs ∈ W) (h4 : Part.faultReports ∈ W) (h5 : Part.traces ∈ W) (h6 : Part.cabs ∈ W) (h7 : Part.hutches ∈ W) (h8 : Part.regs .intg ∈ W) (h9 : Part.regs .obs ∈ W) (h10 : Part.regs .hut0 ∈ W) (h11 : Part.regs .cctl ∈ W) (h12 : Part.regs .qmgr ∈ W) (h13 : Part.regs .spad ∈ W) (h14 : Part.regs .xpnd ∈ W) :
    Result.frames (execQrecvReceive p ecc s) W s := by
  unfold execQrecvReceive
  (repeat' split) <;> simp [*]

@[simp] theorem execQpeek_frames (p : Nat) (ecc : QmReads) (s : State) (h1 : Part.draws ∈ W) (h2 : Part.mem ∈ W) (h3 : Part.logs ∈ W) (h4 : Part.faultReports ∈ W) (h5 : Part.traces ∈ W) (h6 : Part.cabs ∈ W) (h7 : Part.hutches ∈ W) (h8 : Part.regs .intg ∈ W) (h9 : Part.regs .obs ∈ W) (h10 : Part.regs .hut0 ∈ W) (h11 : Part.regs .cctl ∈ W) (h12 : Part.regs .qmgr ∈ W) (h13 : Part.regs .spad ∈ W) (h14 : Part.regs .xpnd ∈ W) :
    Result.frames (execQpeek p ecc s) W s := by
  unfold execQpeek
  dsimp only
  (repeat' split) <;> simp_all [except_foldl]

@[simp] theorem execHzwait_frames (p : Nat) (s : State) (h1 : Part.traces ∈ W) (h2 : Part.cabs ∈ W) (h3 : Part.regs .obs ∈ W) (h4 : Part.regs .cctl ∈ W) :
    Result.frames (execHzwait p s) W s := by
  unfold execHzwait
  (repeat' split) <;> simp [*]

@[simp] theorem execHzwaitRetire_frames (p : Nat) (s : State) (h1 : Part.traces ∈ W) (h2 : Part.cabs ∈ W) (h3 : Part.regs .obs ∈ W) (h4 : Part.regs .cctl ∈ W) :
    Result.frames (execHzwaitRetire p s) W s := by
  unfold execHzwaitRetire
  (repeat' split) <;> simp [*]

@[simp] theorem State.evSend_except (s : State) (p : Nat) (kind : Nat) (dest : Nat) (pl : Nat) (h1 : Part.logs ∈ W) (h2 : Part.net ∈ W) (h3 : Part.seqs ∈ W) (h4 : Part.sources ∈ W) (h5 : Part.cabs ∈ W) (h6 : Part.regs .plc ∈ W) (h7 : Part.regs .intg ∈ W) :
    (State.evSend s p kind dest pl).except W = s.except W := by
  simp [State.evSend, *]

@[simp] theorem execEvinj_frames (p : Nat) (ecc : EccRead) (s : State) (h1 : Part.logs ∈ W) (h2 : Part.faultReports ∈ W) (h3 : Part.traces ∈ W) (h4 : Part.net ∈ W) (h5 : Part.seqs ∈ W) (h6 : Part.sources ∈ W) (h7 : Part.cabs ∈ W) (h8 : Part.regs .plc ∈ W) (h9 : Part.regs .intg ∈ W) (h10 : Part.regs .obs ∈ W) (h11 : Part.regs .cctl ∈ W) (h12 : Part.regs .spad ∈ W) (h13 : Part.regs .hzn ∈ W) :
    Result.frames (execEvinj p ecc s) W s := by
  unfold execEvinj
  (repeat' split) <;> simp [*]

end Sys2Proof.Machine
end

