-- ==== Sys2Proof/Laws/FrameRounds.lean ====
section
/-!
SUPPORT. FrameRounds.lean: for each operation of Rounds.lean, the parts of the state it may change: it leaves everything outside W as it was,
whenever W holds those parts.
-/

namespace Sys2Proof.Machine

variable {W : List Part}

@[simp] theorem State.mapApply_except (s : State) (e : Nat) (k : Nat) (inst : Nat) (h1 : Part.mapCur ∈ W) (h2 : Part.mapRe ∈ W) :
    (State.mapApply s e k inst).except W = s.except W := by
  unfold State.mapApply
  (repeat' split) <;> simp [*]

@[simp] theorem State.roundMin_except (s : State) (e : Nat) (k : Nat) (inst : Nat) (v : Nat) (h1 : Part.traces ∈ W) (h2 : Part.regs .obs ∈ W) :
    (State.roundMin s e k inst v).except W = s.except W := by
  simp [State.roundMin, *]

@[simp] theorem State.cabRound_except (s : State) (p : Nat) (inst : Nat) (v : Nat) (own : Option Contrib) (h1 : Part.mem ∈ W) (h2 : Part.regs .drw ∈ W) (h3 : Part.regs .hzn ∈ W) :
    (State.cabRound s p inst v own).except W = s.except W := by
  unfold State.cabRound
  try dsimp only
  (repeat' split) <;> simp_all [except_foldl]

@[simp] theorem State.sourceRound_except (s : State) (e : Nat) (src : Nat) (k : Nat) (inst : Nat) (v : Nat) (incomplete : Bool) (h1 : Part.mem ∈ W) (h2 : Part.logs ∈ W) (h3 : Part.traces ∈ W) (h4 : Part.sources ∈ W) (h5 : Part.regs .intg ∈ W) (h6 : Part.regs .obs ∈ W) (h7 : Part.regs .drw ∈ W) (h8 : Part.regs .hzn ∈ W) :
    (State.sourceRound s e src k inst v incomplete).except W = s.except W := by
  simp [State.sourceRound, *]

@[simp] theorem execRedDownReceive_frames (e : Nat) (s : State) (h1 : Part.mem ∈ W) (h2 : Part.logs ∈ W) (h3 : Part.traces ∈ W) (h4 : Part.mapCur ∈ W) (h5 : Part.mapRe ∈ W) (h6 : Part.arrivals ∈ W) (h7 : Part.inbox ∈ W) (h8 : Part.robs ∈ W) (h9 : Part.pressure ∈ W) (h10 : Part.links ∈ W) (h11 : Part.notices ∈ W) (h12 : Part.sources ∈ W) (h13 : Part.decs ∈ W) (h14 : Part.cabs ∈ W) (h15 : Part.parkAreas ∈ W) (h16 : Part.mbox ∈ W) (h17 : Part.recov ∈ W) (h18 : Part.regs .plc ∈ W) (h19 : Part.regs .intg ∈ W) (h20 : Part.regs .obs ∈ W) (h21 : Part.regs .chdec ∈ W) (h22 : Part.regs .hut0 ∈ W) (h23 : Part.regs .cctl ∈ W) (h24 : Part.regs .spad ∈ W) (h25 : Part.regs .drw ∈ W) (h26 : Part.regs .trs ∈ W) (h27 : Part.regs .xpnd ∈ W) (h28 : Part.regs .hzn ∈ W) (h29 : Part.regs .rtr ∈ W) :
    Result.frames (execRedDownReceive e s) W s := by
  unfold execRedDownReceive
  (repeat' split) <;> simp [*]

end Sys2Proof.Machine
end

