-- ==== Sys2Proof/Laws/FrameIntegrity.lean ====
section
/-!
SUPPORT. FrameIntegrity.lean: for each operation of Integrity.lean, the parts of the state it may change: it leaves everything outside W as it was,
whenever W holds those parts.
-/

namespace Sys2Proof.Machine

variable {W : List Part}

@[simp] theorem State.faultPart_except (s : State) (k : Nat) (h1 : Part.partState ∈ W) (h2 : Part.mbox ∈ W) (h3 : Part.recov ∈ W) (h4 : Part.regs .bur ∈ W) :
    (State.faultPart s k).except W = s.except W := by
  simp [State.faultPart, *]

@[simp] theorem State.raiseIntg_except (s : State) (k : Nat) (i : Nat) (h1 : Part.regs .intg ∈ W) :
    (State.raiseIntg s k i).except W = s.except W := by
  simp [State.raiseIntg, *]

@[simp] theorem State.recReg_except (s : State) (r : Recov) (step : Nat) (h1 : Part.regs .intg ∈ W) :
    (State.recReg s r step).except W = s.except W := by
  simp [State.recReg, *]

@[simp] theorem State.recFail_except (s : State) (r : Recov) (h1 : Part.logs ∈ W) (h2 : Part.partState ∈ W) (h3 : Part.mbox ∈ W) (h4 : Part.recov ∈ W) (h5 : Part.regs .bur ∈ W) (h6 : Part.regs .intg ∈ W) :
    (State.recFail s r).except W = s.except W := by
  simp [State.recFail, *]

@[simp] theorem State.mgmt_except (s : State) (k : Nat) (e : Nat) (op : Nat) (t : Nat) (c : Nat) (h1 : Part.net ∈ W) (h2 : Part.seqs ∈ W) (h3 : Part.sources ∈ W) :
    (State.mgmt s k e op t c).except W = s.except W := by
  simp [State.mgmt, *]

@[simp] theorem State.fence_except (s : State) (k : Nat) (c : Nat) (p : Nat) (td : Nat) (inPlace : Bool) (h1 : Part.cabs ∈ W) (h2 : Part.recov ∈ W) :
    (State.fence s k c p td inPlace).except W = s.except W := by
  simp [State.fence, *]

@[simp] theorem State.dropRobs_except (s : State) (k : Nat) (c : Nat) (h1 : Part.robs ∈ W) (h2 : Part.pressure ∈ W) (h3 : Part.regs .rtr ∈ W) :
    (State.dropRobs s k c).except W = s.except W := by
  simp [State.dropRobs, *]

@[simp] theorem State.followExpect_except (s : State) (k : Nat) (c : Nat) (h1 : Part.seqs ∈ W) :
    (State.followExpect s k c).except W = s.except W := by
  simp [State.followExpect, except_foldl, *]

@[simp] theorem State.recStart_except (s : State) (r : Recov) (h1 : Part.logs ∈ W) (h2 : Part.doms ∈ W) (h3 : Part.partState ∈ W) (h4 : Part.net ∈ W) (h5 : Part.robs ∈ W) (h6 : Part.seqs ∈ W) (h7 : Part.pressure ∈ W) (h8 : Part.sources ∈ W) (h9 : Part.chans ∈ W) (h10 : Part.decs ∈ W) (h11 : Part.cabs ∈ W) (h12 : Part.mbox ∈ W) (h13 : Part.recov ∈ W) (h14 : Part.regs .bur ∈ W) (h15 : Part.regs .pwr ∈ W) (h16 : Part.regs .intg ∈ W) (h17 : Part.regs .chin ∈ W) (h18 : Part.regs .drw ∈ W) (h19 : Part.regs .rtr ∈ W) :
    State.except (State.recStart s r).2 W = s.except W := by
  unfold State.recStart
  (repeat' split) <;> simp [except_foldl, *]

@[simp] theorem State.recNext_except (x1 : Nat) (x2 : State) (h1 : Part.logs ∈ W) (h2 : Part.doms ∈ W) (h3 : Part.partState ∈ W) (h4 : Part.net ∈ W) (h5 : Part.robs ∈ W) (h6 : Part.seqs ∈ W) (h7 : Part.pressure ∈ W) (h8 : Part.sources ∈ W) (h9 : Part.chans ∈ W) (h10 : Part.decs ∈ W) (h11 : Part.cabs ∈ W) (h12 : Part.mbox ∈ W) (h13 : Part.recov ∈ W) (h14 : Part.regs .bur ∈ W) (h15 : Part.regs .pwr ∈ W) (h16 : Part.regs .intg ∈ W) (h17 : Part.regs .chin ∈ W) (h18 : Part.regs .drw ∈ W) (h19 : Part.regs .rtr ∈ W) :
    (State.recNext x1 x2).except W = x2.except W := by
  induction x1 generalizing x2 with
  | zero => rfl
  | succ n ih =>
    unfold State.recNext
    dsimp only
    (repeat' split) <;> simp [*]

@[simp] theorem State.recGo_except (s : State) (h1 : Part.logs ∈ W) (h2 : Part.doms ∈ W) (h3 : Part.partState ∈ W) (h4 : Part.net ∈ W) (h5 : Part.robs ∈ W) (h6 : Part.seqs ∈ W) (h7 : Part.pressure ∈ W) (h8 : Part.sources ∈ W) (h9 : Part.chans ∈ W) (h10 : Part.decs ∈ W) (h11 : Part.cabs ∈ W) (h12 : Part.mbox ∈ W) (h13 : Part.recov ∈ W) (h14 : Part.regs .bur ∈ W) (h15 : Part.regs .pwr ∈ W) (h16 : Part.regs .intg ∈ W) (h17 : Part.regs .chin ∈ W) (h18 : Part.regs .drw ∈ W) (h19 : Part.regs .rtr ∈ W) :
    (State.recGo s).except W = s.except W := by
  simp [State.recGo, *]

@[simp] theorem State.moveLost_except (s : State) (m : MbCmd) (h1 : Part.maps ∈ W) (h2 : Part.maps2 ∈ W) (h3 : Part.mapRe ∈ W) (h4 : Part.net ∈ W) (h5 : Part.seqs ∈ W) (h6 : Part.sources ∈ W) (h7 : Part.mbox ∈ W) :
    (State.moveLost s m).except W = s.except W := by
  simp [State.moveLost, *]

@[simp] theorem State.fencePos_except (s : State) (p : Nat) (h1 : Part.boot ∈ W) (h2 : Part.regs .plc ∈ W) :
    (State.fencePos s p).except W = s.except W := by
  simp [State.fencePos, *]

@[simp] theorem State.cabFaulted_except (s : State) (p : Nat) (td : Nat) (inPlace : Bool) (h1 : Part.mem ∈ W) (h2 : Part.logs ∈ W) (h3 : Part.locks ∈ W) (h4 : Part.timers ∈ W) (h5 : Part.doms ∈ W) (h6 : Part.partState ∈ W) (h7 : Part.maps ∈ W) (h8 : Part.maps2 ∈ W) (h9 : Part.mapRe ∈ W) (h10 : Part.net ∈ W) (h11 : Part.inbox ∈ W) (h12 : Part.robs ∈ W) (h13 : Part.seqs ∈ W) (h14 : Part.pressure ∈ W) (h15 : Part.leaves ∈ W) (h16 : Part.sources ∈ W) (h17 : Part.chans ∈ W) (h18 : Part.decs ∈ W) (h19 : Part.cabs ∈ W) (h20 : Part.hutches ∈ W) (h21 : Part.boot ∈ W) (h22 : Part.routes ∈ W) (h23 : Part.mbox ∈ W) (h24 : Part.recov ∈ W) (h25 : Part.regs .bur ∈ W) (h26 : Part.regs .pwr ∈ W) (h27 : Part.regs .plc ∈ W) (h28 : Part.regs .intg ∈ W) (h29 : Part.regs .chin ∈ W) (h30 : Part.regs .chenc ∈ W) (h31 : Part.regs .chdec ∈ W) (h32 : Part.regs .chtmr ∈ W) (h33 : Part.regs .hut0 ∈ W) (h34 : Part.regs .hut1 ∈ W) (h35 : Part.regs .cctl ∈ W) (h36 : Part.regs .qmgr ∈ W) (h37 : Part.regs .spad ∈ W) (h38 : Part.regs .drw ∈ W) (h39 : Part.regs .trs ∈ W) (h40 : Part.regs .xpnd ∈ W) (h41 : Part.regs .hzn ∈ W) (h42 : Part.regs .rtr ∈ W) (h43 : Part.regs .cobs ∈ W) :
    (State.cabFaulted s p td inPlace).except W = s.except W := by
  unfold State.cabFaulted
  try dsimp only
  (repeat' split) <;> simp_all [except_foldl]

@[simp] theorem State.faultParts_except (s : State) (dep : Nat → Bool) (h1 : Part.logs ∈ W) (h2 : Part.doms ∈ W) (h3 : Part.partState ∈ W) (h4 : Part.net ∈ W) (h5 : Part.robs ∈ W) (h6 : Part.seqs ∈ W) (h7 : Part.pressure ∈ W) (h8 : Part.sources ∈ W) (h9 : Part.chans ∈ W) (h10 : Part.decs ∈ W) (h11 : Part.cabs ∈ W) (h12 : Part.mbox ∈ W) (h13 : Part.recov ∈ W) (h14 : Part.regs .bur ∈ W) (h15 : Part.regs .pwr ∈ W) (h16 : Part.regs .intg ∈ W) (h17 : Part.regs .chin ∈ W) (h18 : Part.regs .drw ∈ W) (h19 : Part.regs .rtr ∈ W) :
    (State.faultParts s dep).except W = s.except W := by
  simp [State.faultParts, except_foldl, *]

@[simp] theorem State.flitLost_except (s : State) (arg : Nat) (td : Nat) (h1 : Part.mem ∈ W) (h2 : Part.logs ∈ W) (h3 : Part.locks ∈ W) (h4 : Part.timers ∈ W) (h5 : Part.doms ∈ W) (h6 : Part.partState ∈ W) (h7 : Part.maps ∈ W) (h8 : Part.maps2 ∈ W) (h9 : Part.mapRe ∈ W) (h10 : Part.net ∈ W) (h11 : Part.inbox ∈ W) (h12 : Part.robs ∈ W) (h13 : Part.seqs ∈ W) (h14 : Part.pressure ∈ W) (h15 : Part.leaves ∈ W) (h16 : Part.sources ∈ W) (h17 : Part.chans ∈ W) (h18 : Part.decs ∈ W) (h19 : Part.cabs ∈ W) (h20 : Part.hutches ∈ W) (h21 : Part.boot ∈ W) (h22 : Part.routes ∈ W) (h23 : Part.mbox ∈ W) (h24 : Part.recov ∈ W) (h25 : Part.regs .bur ∈ W) (h26 : Part.regs .pwr ∈ W) (h27 : Part.regs .plc ∈ W) (h28 : Part.regs .intg ∈ W) (h29 : Part.regs .chin ∈ W) (h30 : Part.regs .chenc ∈ W) (h31 : Part.regs .chdec ∈ W) (h32 : Part.regs .chtmr ∈ W) (h33 : Part.regs .hut0 ∈ W) (h34 : Part.regs .hut1 ∈ W) (h35 : Part.regs .cctl ∈ W) (h36 : Part.regs .qmgr ∈ W) (h37 : Part.regs .spad ∈ W) (h38 : Part.regs .drw ∈ W) (h39 : Part.regs .trs ∈ W) (h40 : Part.regs .xpnd ∈ W) (h41 : Part.regs .hzn ∈ W) (h42 : Part.regs .rtr ∈ W) (h43 : Part.regs .cobs ∈ W) :
    (State.flitLost s arg td).except W = s.except W := by
  simp [State.flitLost, *]

@[simp] theorem State.handleFault_except (s : State) (f : FaultReport) (h1 : Part.mem ∈ W) (h2 : Part.logs ∈ W) (h3 : Part.locks ∈ W) (h4 : Part.timers ∈ W) (h5 : Part.doms ∈ W) (h6 : Part.partState ∈ W) (h7 : Part.maps ∈ W) (h8 : Part.maps2 ∈ W) (h9 : Part.mapRe ∈ W) (h10 : Part.net ∈ W) (h11 : Part.inbox ∈ W) (h12 : Part.robs ∈ W) (h13 : Part.seqs ∈ W) (h14 : Part.pressure ∈ W) (h15 : Part.leaves ∈ W) (h16 : Part.sources ∈ W) (h17 : Part.chans ∈ W) (h18 : Part.decs ∈ W) (h19 : Part.cabs ∈ W) (h20 : Part.hutches ∈ W) (h21 : Part.boot ∈ W) (h22 : Part.routes ∈ W) (h23 : Part.pci ∈ W) (h24 : Part.mbox ∈ W) (h25 : Part.recov ∈ W) (h26 : Part.regs .dev ∈ W) (h27 : Part.regs .bur ∈ W) (h28 : Part.regs .pwr ∈ W) (h29 : Part.regs .plc ∈ W) (h30 : Part.regs .intg ∈ W) (h31 : Part.regs .chin ∈ W) (h32 : Part.regs .chenc ∈ W) (h33 : Part.regs .chdec ∈ W) (h34 : Part.regs .chtmr ∈ W) (h35 : Part.regs .hut0 ∈ W) (h36 : Part.regs .hut1 ∈ W) (h37 : Part.regs .cctl ∈ W) (h38 : Part.regs .qmgr ∈ W) (h39 : Part.regs .spad ∈ W) (h40 : Part.regs .drw ∈ W) (h41 : Part.regs .trs ∈ W) (h42 : Part.regs .xpnd ∈ W) (h43 : Part.regs .hzn ∈ W) (h44 : Part.regs .rtr ∈ W) (h45 : Part.regs .cobs ∈ W) :
    (State.handleFault s f).except W = s.except W := by
  unfold State.handleFault
  (repeat' split) <;> simp [*]

@[simp] theorem execFaultReport_frames (s : State) (h1 : Part.mem ∈ W) (h2 : Part.logs ∈ W) (h3 : Part.faultReports ∈ W) (h4 : Part.locks ∈ W) (h5 : Part.timers ∈ W) (h6 : Part.doms ∈ W) (h7 : Part.partState ∈ W) (h8 : Part.maps ∈ W) (h9 : Part.maps2 ∈ W) (h10 : Part.mapRe ∈ W) (h11 : Part.net ∈ W) (h12 : Part.inbox ∈ W) (h13 : Part.robs ∈ W) (h14 : Part.seqs ∈ W) (h15 : Part.pressure ∈ W) (h16 : Part.leaves ∈ W) (h17 : Part.sources ∈ W) (h18 : Part.chans ∈ W) (h19 : Part.decs ∈ W) (h20 : Part.cabs ∈ W) (h21 : Part.hutches ∈ W) (h22 : Part.boot ∈ W) (h23 : Part.routes ∈ W) (h24 : Part.pci ∈ W) (h25 : Part.mbox ∈ W) (h26 : Part.recov ∈ W) (h27 : Part.regs .dev ∈ W) (h28 : Part.regs .bur ∈ W) (h29 : Part.regs .pwr ∈ W) (h30 : Part.regs .plc ∈ W) (h31 : Part.regs .intg ∈ W) (h32 : Part.regs .chin ∈ W) (h33 : Part.regs .chenc ∈ W) (h34 : Part.regs .chdec ∈ W) (h35 : Part.regs .chtmr ∈ W) (h36 : Part.regs .hut0 ∈ W) (h37 : Part.regs .hut1 ∈ W) (h38 : Part.regs .cctl ∈ W) (h39 : Part.regs .qmgr ∈ W) (h40 : Part.regs .spad ∈ W) (h41 : Part.regs .drw ∈ W) (h42 : Part.regs .trs ∈ W) (h43 : Part.regs .xpnd ∈ W) (h44 : Part.regs .hzn ∈ W) (h45 : Part.regs .rtr ∈ W) (h46 : Part.regs .cobs ∈ W) :
    Result.frames (execFaultReport s) W s := by
  unfold execFaultReport
  (repeat' split) <;> simp [*]

@[simp] theorem execSilentCabinet_frames (k : Nat) (s : State) (h1 : Part.mem ∈ W) (h2 : Part.logs ∈ W) (h3 : Part.locks ∈ W) (h4 : Part.timers ∈ W) (h5 : Part.doms ∈ W) (h6 : Part.partState ∈ W) (h7 : Part.maps ∈ W) (h8 : Part.maps2 ∈ W) (h9 : Part.mapRe ∈ W) (h10 : Part.net ∈ W) (h11 : Part.inbox ∈ W) (h12 : Part.robs ∈ W) (h13 : Part.seqs ∈ W) (h14 : Part.pressure ∈ W) (h15 : Part.leaves ∈ W) (h16 : Part.sources ∈ W) (h17 : Part.chans ∈ W) (h18 : Part.decs ∈ W) (h19 : Part.cabs ∈ W) (h20 : Part.hutches ∈ W) (h21 : Part.boot ∈ W) (h22 : Part.routes ∈ W) (h23 : Part.mbox ∈ W) (h24 : Part.recov ∈ W) (h25 : Part.regs .bur ∈ W) (h26 : Part.regs .pwr ∈ W) (h27 : Part.regs .plc ∈ W) (h28 : Part.regs .intg ∈ W) (h29 : Part.regs .chin ∈ W) (h30 : Part.regs .chenc ∈ W) (h31 : Part.regs .chdec ∈ W) (h32 : Part.regs .chtmr ∈ W) (h33 : Part.regs .hut0 ∈ W) (h34 : Part.regs .hut1 ∈ W) (h35 : Part.regs .cctl ∈ W) (h36 : Part.regs .qmgr ∈ W) (h37 : Part.regs .spad ∈ W) (h38 : Part.regs .drw ∈ W) (h39 : Part.regs .trs ∈ W) (h40 : Part.regs .xpnd ∈ W) (h41 : Part.regs .hzn ∈ W) (h42 : Part.regs .rtr ∈ W) (h43 : Part.regs .cobs ∈ W) :
    Result.frames (execSilentCabinet k s) W s := by
  simp [execSilentCabinet, except_foldl, *]

@[simp] theorem execCheckpointValid_frames (p : Nat) (s : State) (h1 : Part.mem ∈ W) (h2 : Part.logs ∈ W) (h3 : Part.inbox ∈ W) (h4 : Part.robs ∈ W) (h5 : Part.expect ∈ W) (h6 : Part.pressure ∈ W) (h7 : Part.notices ∈ W) (h8 : Part.cabs ∈ W) (h9 : Part.journals ∈ W) (h10 : Part.ckpts ∈ W) (h11 : Part.regs .plc ∈ W) (h12 : Part.regs .intg ∈ W) (h13 : Part.regs .rtr ∈ W) :
    Result.frames (execCheckpointValid p s) W s := by
  unfold execCheckpointValid
  try dsimp only
  (repeat' split) <;> simp_all [except_foldl]

@[simp] theorem State.undoAll_except (s : State) (l : List (Nat × Nat)) (h1 : Part.mem ∈ W) :
    (State.undoAll s l).except W = s.except W := by
  unfold State.undoAll
  try dsimp only
  repeat' first
    | (with_reducible rfl)
    | (with_reducible refine (except_foldl _ (fun _ _ => ?_) _ _).trans ?_)
    | (with_reducible refine (except_foldl_fst _ (fun _ _ => ?_) _ _).trans ?_)
    | (with_reducible refine (except_foldl_snd _ (fun _ _ => ?_) _ _).trans ?_)
    | split
    | (simp [*]; done)
    | simp [*]

@[simp] theorem State.replayOffer_except (s : State) (p : Nat) (e : Nat × Nat) (h1 : Part.mem ∈ W) (h2 : Part.logs ∈ W) (h3 : Part.cabs ∈ W) (h4 : Part.journals ∈ W) (h5 : Part.regs .intg ∈ W) (h6 : Part.regs .hut0 ∈ W) (h7 : Part.regs .qmgr ∈ W) (h8 : Part.regs .spad ∈ W) :
    State.except (State.replayOffer s p e).2 W = s.except W := by
  simp [State.replayOffer, *]

@[simp] theorem State.replayQueues_except (p : Nat) (x1 : List (Nat × Nat)) (x2 : State) (h1 : Part.mem ∈ W) (h2 : Part.logs ∈ W) (h3 : Part.cabs ∈ W) (h4 : Part.journals ∈ W) (h5 : Part.regs .intg ∈ W) (h6 : Part.regs .hut0 ∈ W) (h7 : Part.regs .qmgr ∈ W) (h8 : Part.regs .spad ∈ W) :
    State.except (State.replayQueues p x1 x2).2 W = x2.except W := by
  induction x1 generalizing x2 with
  | nil => rfl
  | cons e l ih =>
    unfold State.replayQueues
    dsimp only
    (repeat' split) <;> simp [*]

@[simp] theorem State.replayReds_except (p : Nat) (x1 : List (Nat × Nat)) (x2 : State) (h1 : Part.mem ∈ W) (h2 : Part.logs ∈ W) (h3 : Part.faultReports ∈ W) (h4 : Part.cabs ∈ W) (h5 : Part.regs .intg ∈ W) (h6 : Part.regs .spad ∈ W) (h7 : Part.regs .trs ∈ W) :
    State.except (State.replayReds p x1 x2).2 W = x2.except W := by
  induction x1 generalizing x2 with
  | nil => rfl
  | cons e l ih =>
    unfold State.replayReds
    dsimp only
    (repeat' split) <;> simp [*]

@[simp] theorem State.replayTake_except (s : State) (r : Recov) (h1 : Part.mem ∈ W) (h2 : Part.logs ∈ W) (h3 : Part.faultReports ∈ W) (h4 : Part.cabs ∈ W) (h5 : Part.journals ∈ W) (h6 : Part.recov ∈ W) (h7 : Part.regs .intg ∈ W) (h8 : Part.regs .hut0 ∈ W) (h9 : Part.regs .qmgr ∈ W) (h10 : Part.regs .spad ∈ W) (h11 : Part.regs .trs ∈ W) :
    (State.replayTake s r).except W = s.except W := by
  simp [State.replayTake, *]

@[simp] theorem State.replayEvents_except (s : State) (k : Nat) (p : Nat) (l : List (Nat × Nat)) (h1 : Part.inbox ∈ W) :
    (State.replayEvents s k p l).except W = s.except W := by
  simp [State.replayEvents, except_foldl, *]

@[simp] theorem State.restore_except (s : State) (r : Recov) (ck : Ckpt) (h1 : Part.mem ∈ W) (h2 : Part.logs ∈ W) (h3 : Part.locks ∈ W) (h4 : Part.timers ∈ W) (h5 : Part.inbox ∈ W) (h6 : Part.chans ∈ W) (h7 : Part.decs ∈ W) (h8 : Part.cabs ∈ W) (h9 : Part.hutches ∈ W) (h10 : Part.routes ∈ W) (h11 : Part.regs .intg ∈ W) (h12 : Part.regs .chin ∈ W) (h13 : Part.regs .chenc ∈ W) (h14 : Part.regs .chdec ∈ W) (h15 : Part.regs .chtmr ∈ W) (h16 : Part.regs .hut0 ∈ W) (h17 : Part.regs .hut1 ∈ W) (h18 : Part.regs .cctl ∈ W) (h19 : Part.regs .qmgr ∈ W) (h20 : Part.regs .spad ∈ W) (h21 : Part.regs .drw ∈ W) (h22 : Part.regs .trs ∈ W) (h23 : Part.regs .xpnd ∈ W) (h24 : Part.regs .hzn ∈ W) (h25 : Part.regs .rtr ∈ W) (h26 : Part.regs .cobs ∈ W) :
    (State.restore s r ck).except W = s.except W := by
  simp [State.restore, except_foldl, *]

@[simp] theorem execRecoveryRestoreDone_frames (k : Nat) (ok : Bool) (s : State) (h1 : Part.mem ∈ W) (h2 : Part.logs ∈ W) (h3 : Part.faultReports ∈ W) (h4 : Part.locks ∈ W) (h5 : Part.timers ∈ W) (h6 : Part.traces ∈ W) (h7 : Part.doms ∈ W) (h8 : Part.partState ∈ W) (h9 : Part.mapCur ∈ W) (h10 : Part.mapRe ∈ W) (h11 : Part.net ∈ W) (h12 : Part.inbox ∈ W) (h13 : Part.robs ∈ W) (h14 : Part.seqs ∈ W) (h15 : Part.pressure ∈ W) (h16 : Part.leaves ∈ W) (h17 : Part.sources ∈ W) (h18 : Part.chans ∈ W) (h19 : Part.decs ∈ W) (h20 : Part.hostMem ∈ W) (h21 : Part.rings ∈ W) (h22 : Part.cabs ∈ W) (h23 : Part.hutches ∈ W) (h24 : Part.journals ∈ W) (h25 : Part.routes ∈ W) (h26 : Part.mbox ∈ W) (h27 : Part.recov ∈ W) (h28 : Part.regs .bur ∈ W) (h29 : Part.regs .pwr ∈ W) (h30 : Part.regs .intg ∈ W) (h31 : Part.regs .obs ∈ W) (h32 : Part.regs .hq ∈ W) (h33 : Part.regs .chin ∈ W) (h34 : Part.regs .chenc ∈ W) (h35 : Part.regs .chdec ∈ W) (h36 : Part.regs .chtmr ∈ W) (h37 : Part.regs .hut0 ∈ W) (h38 : Part.regs .hut1 ∈ W) (h39 : Part.regs .cctl ∈ W) (h40 : Part.regs .qmgr ∈ W) (h41 : Part.regs .spad ∈ W) (h42 : Part.regs .drw ∈ W) (h43 : Part.regs .trs ∈ W) (h44 : Part.regs .xpnd ∈ W) (h45 : Part.regs .hzn ∈ W) (h46 : Part.regs .rtr ∈ W) (h47 : Part.regs .cobs ∈ W) :
    Result.frames (execRecoveryRestoreDone k ok s) W s := by
  unfold execRecoveryRestoreDone
  (repeat' split) <;> simp [except_foldl, *]

@[simp] theorem execFrontSend_frames (k : Nat) (s : State) (h1 : Part.mem ∈ W) (h2 : Part.logs ∈ W) (h3 : Part.faultReports ∈ W) (h4 : Part.net ∈ W) (h5 : Part.seqs ∈ W) (h6 : Part.sources ∈ W) (h7 : Part.cabs ∈ W) (h8 : Part.journals ∈ W) (h9 : Part.recov ∈ W) (h10 : Part.regs .intg ∈ W) (h11 : Part.regs .hut0 ∈ W) (h12 : Part.regs .qmgr ∈ W) (h13 : Part.regs .spad ∈ W) (h14 : Part.regs .trs ∈ W) :
    Result.frames (execFrontSend k s) W s := by
  unfold execFrontSend
  (repeat' split) <;> simp [except_foldl, *]

@[simp] theorem State.filtersEnd_except (s : State) (k : Nat) (c : Nat) (h1 : Part.logs ∈ W) (h2 : Part.cabs ∈ W) (h3 : Part.parts ∈ W) (h4 : Part.regs .intg ∈ W) :
    (State.filtersEnd s k c).except W = s.except W := by
  simp [State.filtersEnd, except_foldl, *]

@[simp] theorem State.recDone_except (s : State) (r : Recov) (h1 : Part.regs .intg ∈ W) :
    (State.recDone s r).except W = s.except W := by
  simp [State.recDone, except_foldl, *]

@[simp] theorem State.recFinish_except (s : State) (r : Recov) (h1 : Part.mem ∈ W) (h2 : Part.logs ∈ W) (h3 : Part.locks ∈ W) (h4 : Part.timers ∈ W) (h5 : Part.doms ∈ W) (h6 : Part.partState ∈ W) (h7 : Part.net ∈ W) (h8 : Part.robs ∈ W) (h9 : Part.seqs ∈ W) (h10 : Part.pressure ∈ W) (h11 : Part.leaves ∈ W) (h12 : Part.sources ∈ W) (h13 : Part.chans ∈ W) (h14 : Part.decs ∈ W) (h15 : Part.cabs ∈ W) (h16 : Part.hutches ∈ W) (h17 : Part.parts ∈ W) (h18 : Part.boot ∈ W) (h19 : Part.routes ∈ W) (h20 : Part.mbox ∈ W) (h21 : Part.recov ∈ W) (h22 : Part.regs .bur ∈ W) (h23 : Part.regs .pwr ∈ W) (h24 : Part.regs .plc ∈ W) (h25 : Part.regs .intg ∈ W) (h26 : Part.regs .chin ∈ W) (h27 : Part.regs .chenc ∈ W) (h28 : Part.regs .chdec ∈ W) (h29 : Part.regs .chtmr ∈ W) (h30 : Part.regs .hut0 ∈ W) (h31 : Part.regs .hut1 ∈ W) (h32 : Part.regs .cctl ∈ W) (h33 : Part.regs .qmgr ∈ W) (h34 : Part.regs .spad ∈ W) (h35 : Part.regs .drw ∈ W) (h36 : Part.regs .trs ∈ W) (h37 : Part.regs .xpnd ∈ W) (h38 : Part.regs .hzn ∈ W) (h39 : Part.regs .rtr ∈ W) (h40 : Part.regs .cobs ∈ W) :
    (State.recFinish s r).except W = s.except W := by
  simp [State.recFinish, except_foldl, *]

@[simp] theorem execReplayComplete_frames (k : Nat) (s : State) (h1 : Part.mem ∈ W) (h2 : Part.logs ∈ W) (h3 : Part.faultReports ∈ W) (h4 : Part.locks ∈ W) (h5 : Part.timers ∈ W) (h6 : Part.doms ∈ W) (h7 : Part.partState ∈ W) (h8 : Part.maps ∈ W) (h9 : Part.maps2 ∈ W) (h10 : Part.mapRe ∈ W) (h11 : Part.net ∈ W) (h12 : Part.inbox ∈ W) (h13 : Part.robs ∈ W) (h14 : Part.seqs ∈ W) (h15 : Part.pressure ∈ W) (h16 : Part.leaves ∈ W) (h17 : Part.sources ∈ W) (h18 : Part.chans ∈ W) (h19 : Part.decs ∈ W) (h20 : Part.cabs ∈ W) (h21 : Part.hutches ∈ W) (h22 : Part.parts ∈ W) (h23 : Part.journals ∈ W) (h24 : Part.boot ∈ W) (h25 : Part.routes ∈ W) (h26 : Part.mbox ∈ W) (h27 : Part.recov ∈ W) (h28 : Part.regs .bur ∈ W) (h29 : Part.regs .pwr ∈ W) (h30 : Part.regs .plc ∈ W) (h31 : Part.regs .intg ∈ W) (h32 : Part.regs .chin ∈ W) (h33 : Part.regs .chenc ∈ W) (h34 : Part.regs .chdec ∈ W) (h35 : Part.regs .chtmr ∈ W) (h36 : Part.regs .hut0 ∈ W) (h37 : Part.regs .hut1 ∈ W) (h38 : Part.regs .cctl ∈ W) (h39 : Part.regs .qmgr ∈ W) (h40 : Part.regs .spad ∈ W) (h41 : Part.regs .drw ∈ W) (h42 : Part.regs .trs ∈ W) (h43 : Part.regs .xpnd ∈ W) (h44 : Part.regs .hzn ∈ W) (h45 : Part.regs .rtr ∈ W) (h46 : Part.regs .cobs ∈ W) :
    Result.frames (execReplayComplete k s) W s := by
  unfold execReplayComplete
  try dsimp only
  (repeat' split) <;> simp_all [except_foldl]

@[simp] theorem execFilter_frames (p : Nat) (s : State) (h1 : Part.inbox ∈ W) (h2 : Part.cabs ∈ W) :
    Result.frames (execFilter p s) W s := by
  unfold execFilter
  (repeat' split) <;> simp [*]

end Sys2Proof.Machine
end

