-- ==== Sys2Proof/Laws/FrameUse.lean ====
section
/-!
SUPPORT. FrameUse.lean: how a frame is used: where the states agree outside W, every field and every block that is not in W is unchanged.
-/

namespace Sys2Proof.Machine

variable {W : List Part} {s t : State}

theorem pending_of_except (h : t.except W = s.except W) : t.pending = s.pending := by
  simpa [State.except] using congrArg State.pending h

theorem fuses_of_except (h : t.except W = s.except W) : t.fuses = s.fuses := by
  simpa [State.except] using congrArg State.fuses h

theorem draws_of_except (h : t.except W = s.except W) (hw : Part.draws ∉ W) : t.draws = s.draws := by
  simpa [State.except, hw] using congrArg State.draws h

theorem mem_of_except (h : t.except W = s.except W) (hw : Part.mem ∉ W) : t.mem = s.mem := by
  simpa [State.except, hw] using congrArg State.mem h

theorem logs_of_except (h : t.except W = s.except W) (hw : Part.logs ∉ W) : t.logs = s.logs := by
  simpa [State.except, hw] using congrArg State.logs h

theorem faultReports_of_except (h : t.except W = s.except W) (hw : Part.faultReports ∉ W) : t.faultReports = s.faultReports := by
  simpa [State.except, hw] using congrArg State.faultReports h

theorem locks_of_except (h : t.except W = s.except W) (hw : Part.locks ∉ W) : t.locks = s.locks := by
  simpa [State.except, hw] using congrArg State.locks h

theorem latches_of_except (h : t.except W = s.except W) (hw : Part.latches ∉ W) : t.latches = s.latches := by
  simpa [State.except, hw] using congrArg State.latches h

theorem staging_of_except (h : t.except W = s.except W) (hw : Part.staging ∉ W) : t.staging = s.staging := by
  simpa [State.except, hw] using congrArg State.staging h

theorem tb_of_except (h : t.except W = s.except W) (hw : Part.tb ∉ W) : t.tb = s.tb := by
  simpa [State.except, hw] using congrArg State.tb h

theorem timers_of_except (h : t.except W = s.except W) (hw : Part.timers ∉ W) : t.timers = s.timers := by
  simpa [State.except, hw] using congrArg State.timers h

theorem trigQual_of_except (h : t.except W = s.except W) (hw : Part.trigQual ∉ W) : t.trigQual = s.trigQual := by
  simpa [State.except, hw] using congrArg State.trigQual h

theorem trigEvents_of_except (h : t.except W = s.except W) (hw : Part.trigEvents ∉ W) : t.trigEvents = s.trigEvents := by
  simpa [State.except, hw] using congrArg State.trigEvents h

theorem synced_of_except (h : t.except W = s.except W) (hw : Part.synced ∉ W) : t.synced = s.synced := by
  simpa [State.except, hw] using congrArg State.synced h

theorem freeze_of_except (h : t.except W = s.except W) (hw : Part.freeze ∉ W) : t.freeze = s.freeze := by
  simpa [State.except, hw] using congrArg State.freeze h

theorem traces_of_except (h : t.except W = s.except W) (hw : Part.traces ∉ W) : t.traces = s.traces := by
  simpa [State.except, hw] using congrArg State.traces h

theorem debugger_of_except (h : t.except W = s.except W) (hw : Part.debugger ∉ W) : t.debugger = s.debugger := by
  simpa [State.except, hw] using congrArg State.debugger h

theorem doms_of_except (h : t.except W = s.except W) (hw : Part.doms ∉ W) : t.doms = s.doms := by
  simpa [State.except, hw] using congrArg State.doms h

theorem devPwr_of_except (h : t.except W = s.except W) (hw : Part.devPwr ∉ W) : t.devPwr = s.devPwr := by
  simpa [State.except, hw] using congrArg State.devPwr h

theorem d3hot_of_except (h : t.except W = s.except W) (hw : Part.d3hot ∉ W) : t.d3hot = s.d3hot := by
  simpa [State.except, hw] using congrArg State.d3hot h

theorem partState_of_except (h : t.except W = s.except W) (hw : Part.partState ∉ W) : t.partState = s.partState := by
  simpa [State.except, hw] using congrArg State.partState h

theorem maps_of_except (h : t.except W = s.except W) (hw : Part.maps ∉ W) : t.maps = s.maps := by
  simpa [State.except, hw] using congrArg State.maps h

theorem maps2_of_except (h : t.except W = s.except W) (hw : Part.maps2 ∉ W) : t.maps2 = s.maps2 := by
  simpa [State.except, hw] using congrArg State.maps2 h

theorem mapCur_of_except (h : t.except W = s.except W) (hw : Part.mapCur ∉ W) : t.mapCur = s.mapCur := by
  simpa [State.except, hw] using congrArg State.mapCur h

theorem mapRe_of_except (h : t.except W = s.except W) (hw : Part.mapRe ∉ W) : t.mapRe = s.mapRe := by
  simpa [State.except, hw] using congrArg State.mapRe h

theorem net_of_except (h : t.except W = s.except W) (hw : Part.net ∉ W) : t.net = s.net := by
  simpa [State.except, hw] using congrArg State.net h

theorem arrivals_of_except (h : t.except W = s.except W) (hw : Part.arrivals ∉ W) : t.arrivals = s.arrivals := by
  simpa [State.except, hw] using congrArg State.arrivals h

theorem inbox_of_except (h : t.except W = s.except W) (hw : Part.inbox ∉ W) : t.inbox = s.inbox := by
  simpa [State.except, hw] using congrArg State.inbox h

theorem redIn_of_except (h : t.except W = s.except W) (hw : Part.redIn ∉ W) : t.redIn = s.redIn := by
  simpa [State.except, hw] using congrArg State.redIn h

theorem robs_of_except (h : t.except W = s.except W) (hw : Part.robs ∉ W) : t.robs = s.robs := by
  simpa [State.except, hw] using congrArg State.robs h

theorem expect_of_except (h : t.except W = s.except W) (hw : Part.expect ∉ W) : t.expect = s.expect := by
  simpa [State.except, hw] using congrArg State.expect h

theorem seqs_of_except (h : t.except W = s.except W) (hw : Part.seqs ∉ W) : t.seqs = s.seqs := by
  simpa [State.except, hw] using congrArg State.seqs h

theorem pressure_of_except (h : t.except W = s.except W) (hw : Part.pressure ∉ W) : t.pressure = s.pressure := by
  simpa [State.except, hw] using congrArg State.pressure h

theorem partials_of_except (h : t.except W = s.except W) (hw : Part.partials ∉ W) : t.partials = s.partials := by
  simpa [State.except, hw] using congrArg State.partials h

theorem links_of_except (h : t.except W = s.except W) (hw : Part.links ∉ W) : t.links = s.links := by
  simpa [State.except, hw] using congrArg State.links h

theorem d2dReplays_of_except (h : t.except W = s.except W) (hw : Part.d2dReplays ∉ W) : t.d2dReplays = s.d2dReplays := by
  simpa [State.except, hw] using congrArg State.d2dReplays h

theorem d2dRetried_of_except (h : t.except W = s.except W) (hw : Part.d2dRetried ∉ W) : t.d2dRetried = s.d2dRetried := by
  simpa [State.except, hw] using congrArg State.d2dRetried h

theorem leaves_of_except (h : t.except W = s.except W) (hw : Part.leaves ∉ W) : t.leaves = s.leaves := by
  simpa [State.except, hw] using congrArg State.leaves h

theorem notices_of_except (h : t.except W = s.except W) (hw : Part.notices ∉ W) : t.notices = s.notices := by
  simpa [State.except, hw] using congrArg State.notices h

theorem sources_of_except (h : t.except W = s.except W) (hw : Part.sources ∉ W) : t.sources = s.sources := by
  simpa [State.except, hw] using congrArg State.sources h

theorem chans_of_except (h : t.except W = s.except W) (hw : Part.chans ∉ W) : t.chans = s.chans := by
  simpa [State.except, hw] using congrArg State.chans h

theorem decs_of_except (h : t.except W = s.except W) (hw : Part.decs ∉ W) : t.decs = s.decs := by
  simpa [State.except, hw] using congrArg State.decs h

theorem hostMem_of_except (h : t.except W = s.except W) (hw : Part.hostMem ∉ W) : t.hostMem = s.hostMem := by
  simpa [State.except, hw] using congrArg State.hostMem h

theorem rings_of_except (h : t.except W = s.except W) (hw : Part.rings ∉ W) : t.rings = s.rings := by
  simpa [State.except, hw] using congrArg State.rings h

theorem cabs_of_except (h : t.except W = s.except W) (hw : Part.cabs ∉ W) : t.cabs = s.cabs := by
  simpa [State.except, hw] using congrArg State.cabs h

theorem hutches_of_except (h : t.except W = s.except W) (hw : Part.hutches ∉ W) : t.hutches = s.hutches := by
  simpa [State.except, hw] using congrArg State.hutches h

theorem parts_of_except (h : t.except W = s.except W) (hw : Part.parts ∉ W) : t.parts = s.parts := by
  simpa [State.except, hw] using congrArg State.parts h

theorem journals_of_except (h : t.except W = s.except W) (hw : Part.journals ∉ W) : t.journals = s.journals := by
  simpa [State.except, hw] using congrArg State.journals h

theorem ckpts_of_except (h : t.except W = s.except W) (hw : Part.ckpts ∉ W) : t.ckpts = s.ckpts := by
  simpa [State.except, hw] using congrArg State.ckpts h

theorem parkAreas_of_except (h : t.except W = s.except W) (hw : Part.parkAreas ∉ W) : t.parkAreas = s.parkAreas := by
  simpa [State.except, hw] using congrArg State.parkAreas h

theorem boot_of_except (h : t.except W = s.except W) (hw : Part.boot ∉ W) : t.boot = s.boot := by
  simpa [State.except, hw] using congrArg State.boot h

theorem msix_of_except (h : t.except W = s.except W) (hw : Part.msix ∉ W) : t.msix = s.msix := by
  simpa [State.except, hw] using congrArg State.msix h

theorem sentMsi_of_except (h : t.except W = s.except W) (hw : Part.sentMsi ∉ W) : t.sentMsi = s.sentMsi := by
  simpa [State.except, hw] using congrArg State.sentMsi h

theorem routes_of_except (h : t.except W = s.except W) (hw : Part.routes ∉ W) : t.routes = s.routes := by
  simpa [State.except, hw] using congrArg State.routes h

theorem pci_of_except (h : t.except W = s.except W) (hw : Part.pci ∉ W) : t.pci = s.pci := by
  simpa [State.except, hw] using congrArg State.pci h

theorem mbox_of_except (h : t.except W = s.except W) (hw : Part.mbox ∉ W) : t.mbox = s.mbox := by
  simpa [State.except, hw] using congrArg State.mbox h

theorem recov_of_except (h : t.except W = s.except W) (hw : Part.recov ∉ W) : t.recov = s.recov := by
  simpa [State.except, hw] using congrArg State.recov h

theorem SMap.get_filter {α : Type} (d : Nat → α) (m : SMap α) (f : Nat × α → Bool) (k : Nat) (hf : ∀ v, f (k, v) = true) :
    SMap.get d (List.filter f m) k = SMap.get d m k := by
  induction m with
  | nil => rfl
  | cons e m ih =>
    obtain ⟨k', v⟩ := e
    by_cases hk : k = k'
    · subst hk
      simp [hf v, SMap.get]
    · cases hp : f (k', v) <;> simp [hp, SMap.get, hk, ih]

/-- A register of a block outside W is unchanged. -/
theorem rd_of_except (h : t.except W = s.except W) (p : Page) (off : Nat) (hw : Part.regs p.blk ∉ W) : t.rd p off = s.rd p off := by
  have hb : ∀ v : Word, decide (Part.regs (blockOf ((p.key + off % 4096, v).1 / 16777216)) ∉ W) = true := by
    intro v; simp [blockOf_key, hw]
  have e : t.regs.filter (fun e => decide (Part.regs (blockOf (e.1 / 16777216)) ∉ W)) =
      s.regs.filter (fun e => decide (Part.regs (blockOf (e.1 / 16777216)) ∉ W)) := congrArg State.regs h
  have ht := SMap.get_filter regDefault t.regs (fun e => decide (Part.regs (blockOf (e.1 / 16777216)) ∉ W)) (p.key + off % 4096) hb
  have hs := SMap.get_filter regDefault s.regs (fun e => decide (Part.regs (blockOf (e.1 / 16777216)) ∉ W)) (p.key + off % 4096) hb
  unfold State.rd
  rw [← ht, ← hs, e]

end Sys2Proof.Machine
end

