-- ==== Sys2Proof/Laws/MemBase.lean ====
section
/-!
SUPPORT. MemBase.lean: the canonical form of the byte memories through the primitive writes. `quiet` names every part but the two memories, so the
frame lemma of an operation that writes neither memory says at once that it keeps their form; each later Mem file gives every operation that does
write one its own lemma.
-/

namespace Sys2Proof.Machine

/-- Every part of the state but the two byte memories. -/
def quiet : List Part := Part.all.filter fun P => decide (P ≠ .mem) && decide (P ≠ .hostMem)

@[simp] theorem mem_quiet (P : Part) : P ∈ quiet ↔ P ≠ .mem ∧ P ≠ .hostMem := by
  have : P ∈ Part.all := by
    cases P with
    | regs b => cases b <;> decide
    | _ => decide
  simp [quiet, this]

/-- The memories are in no quiet part. -/
theorem memWf_quiet (s : State) : (s.except quiet).memWf = s.memWf := by
  simp [State.memWf, State.except]

/-- Does every next state of the outcome hold its memories in canonical form? -/
def Result.wfs (r : Result) : Prop := ∀ t, r = .next t → (t.except quiet).memWf = true

@[simp] theorem done_wfs (t : State) : Result.wfs (done t) ↔ (t.except quiet).memWf = true := by
  simp [Result.wfs, done]

@[simp] theorem answer_wfs (t : State) (r : Resp) : Result.wfs (answer t r) ↔ (t.except quiet).memWf = true := by
  simp [Result.wfs, answer]

@[simp] theorem ite_wfs (c : Prop) [Decidable c] (a b : Result) :
    Result.wfs (if c then a else b) ↔ if c then Result.wfs a else Result.wfs b := by
  split <;> rfl

theorem ite_wf (c : Prop) [Decidable c] {a b : State} (ha : (a.except quiet).memWf = true) (hb : (b.except quiet).memWf = true) :
    ((if c then a else b).except quiet).memWf = true := by
  split <;> assumption

/-- A fold of an operation that keeps the form keeps it. -/
theorem wf_foldl {α : Type} (g : State → α → State) (hg : ∀ s x, (s.except quiet).memWf = true → ((g s x).except quiet).memWf = true)
    (l : List α) (s : State) (h : (s.except quiet).memWf = true) : ((l.foldl g s).except quiet).memWf = true := by
  induction l generalizing s with
  | nil => exact h
  | cons x l ih => exact ih _ (hg _ _ h)

theorem wf_foldl_fst {α β : Type} (g : State × β → α → State × β)
    (hg : ∀ x a, (x.1.except quiet).memWf = true → ((g x a).1.except quiet).memWf = true)
    (l : List α) (x : State × β) (h : (x.1.except quiet).memWf = true) : ((l.foldl g x).1.except quiet).memWf = true := by
  induction l generalizing x with
  | nil => exact h
  | cons a l ih => exact ih _ (hg _ _ h)

theorem wf_foldl_snd {α β : Type} (g : β × State → α → β × State)
    (hg : ∀ x a, (x.2.except quiet).memWf = true → ((g x a).2.except quiet).memWf = true)
    (l : List α) (x : β × State) (h : (x.2.except quiet).memWf = true) : ((l.foldl g x).2.except quiet).memWf = true := by
  induction l generalizing x with
  | nil => exact h
  | cons a l ih => exact ih _ (hg _ _ h)

theorem wf_foldl_thd {α β γ : Type} (g : β × γ × State → α → β × γ × State)
    (hg : ∀ x a, (x.2.2.except quiet).memWf = true → ((g x a).2.2.except quiet).memWf = true)
    (l : List α) (x : β × γ × State) (h : (x.2.2.except quiet).memWf = true) : ((l.foldl g x).2.2.except quiet).memWf = true := by
  induction l generalizing x with
  | nil => exact h
  | cons a l ih => exact ih _ (hg _ _ h)

/-- What holds of the state of a pair holds of the name a match gives it. -/
theorem snd_wf {α : Type} {e : α × State} {a : α} {t : State} (he : e = (a, t)) (h : (e.2.except quiet).memWf = true) :
    (t.except quiet).memWf = true := by
  subst he; exact h

/-- A write of one byte keeps the form. -/
@[simp] theorem State.setByte_wf (s : State) (a : Nat) (b : Byte) (h : (s.except quiet).memWf = true) :
    ((s.setByte a b).except quiet).memWf = true := by
  simp only [memWf_quiet] at h ⊢
  simp only [State.memWf, Bool.and_eq_true, State.setByte] at h ⊢
  exact ⟨SMap.wf_set a b h.1, h.2⟩

/-- A store of `n` bytes keeps the form. -/
@[simp] theorem State.store_wf (s : State) (a n v : Nat) (h : (s.except quiet).memWf = true) :
    ((s.store a n v).except quiet).memWf = true := by
  induction n generalizing s a v with
  | zero => exact h
  | succ n ih => exact ih _ _ _ (State.setByte_wf _ _ _ h)

/-- Discarding bytes of the device memory keeps the form. -/
theorem memFilter_wf (s : State) (p : Nat × Byte → Bool) (h : (s.except quiet).memWf = true) :
    (State.except { s with mem := s.mem.filter p } quiet).memWf = true := by
  simp only [memWf_quiet] at h ⊢
  simp only [State.memWf, Bool.and_eq_true] at h ⊢
  exact ⟨SMap.wf_filter p h.1, h.2⟩

theorem gate_drop_wf {r : Req} {p : Page} {off : Nat} {s t : State} (ht : s.gate r p off = .drop t) (h : (s.except quiet).memWf = true) :
    (t.except quiet).memWf = true := by
  unfold State.gate at ht
  (repeat' split at ht) <;> first
    | (cases ht; done)
    | (cases ht; simp [*])

@[simp] theorem unsupported_wfs (f : Nat) (s : State) (h : (s.except quiet).memWf = true) : Result.wfs (unsupported f s) := by
  simp [unsupported, h]

/-- A command that leaves the byte memories alone keeps their form. -/
theorem wfs_of_frames {r : Result} {s : State} (hr : Result.frames r quiet s) (h : (s.except quiet).memWf = true) : Result.wfs r :=
  fun t ht => by rw [hr t ht]; exact h

theorem gated_wfs (r : Req) (p : Page) (off : Nat) (s : State) (k : State → State) (h : (s.except quiet).memWf = true)
    (hk : ((k s).except quiet).memWf = true) : Result.wfs (gated r p off s k) := by
  unfold gated
  split
  · split <;> simp [h, hk]
  · next ht => simp [gate_drop_wf ht h]
  · simp [unsupported, h]

theorem gatedRead_wfs (r : Req) (p : Page) (s : State) (k : State → Nat × State) (h : (s.except quiet).memWf = true)
    (hk : ((k s).2.except quiet).memWf = true) : Result.wfs (gatedRead r p s k) := by
  unfold gatedRead
  (repeat' split) <;> simp [unsupported, h, hk]

theorem busChecked_wfs (f : Nat) (bus : Bus) (s : State) (k : Result) (h : (s.except quiet).memWf = true) (hk : Result.wfs k) :
    Result.wfs (busChecked f bus s k) := by
  unfold busChecked
  split <;> simp [h, hk]

/-- A write of one byte of host memory keeps the form. -/
theorem hostSet_wf (s : State) (a : Nat) (b : Byte) (h : (s.except quiet).memWf = true) :
    (State.except { s with hostMem := SMap.set (fun _ => 0) s.hostMem a b } quiet).memWf = true := by
  simp only [memWf_quiet] at h ⊢
  simp only [State.memWf, Bool.and_eq_true] at h ⊢
  exact ⟨h.1, SMap.wf_set a b h.2⟩

/-- A reset empties the device memory and keeps the host's. -/
theorem fresh_wf (s t : State) (h : (s.except quiet).memWf = true) (h1 : t.mem = []) (h2 : t.hostMem = s.hostMem) :
    (t.except quiet).memWf = true := by
  rw [memWf_quiet] at h ⊢
  simp only [State.memWf, Bool.and_eq_true] at h ⊢
  rw [h1, h2]
  exact ⟨rfl, h.2⟩

end Sys2Proof.Machine
end

