-- ==== Sys2Proof/Laws/MemCabinet.lean ====
section
/-!
SUPPORT. MemCabinet.lean: every operation of Cabinet.lean that writes a byte memory keeps the memories in canonical form.
-/

namespace Sys2Proof.Machine

@[simp] theorem State.clearBytes_wf (s : State) (lo : Nat) (hi : Nat) (hm : (s.except quiet).memWf = true) :
    (State.except (State.clearBytes s lo hi) quiet).memWf = true := by
  exact memFilter_wf s _ hm

@[simp] theorem State.stackPut_wf (s : State) (a : Nat) (n : Nat) (v : Nat) (hm : (s.except quiet).memWf = true) :
    (State.except (State.stackPut s a n v) quiet).memWf = true := by
  fun_cases State.stackPut <;> simp (maxDischargeDepth := 40) [*]

@[simp] theorem State.ownPut_wf (s : State) (key : Nat) (a : Nat) (n : Nat) (v : Nat) (hm : (s.except quiet).memWf = true) :
    (State.except (State.ownPut s key a n v) quiet).memWf = true := by
  unfold State.ownPut
  try dsimp only
  repeat' first
    | with_reducible assumption
    | (with_reducible refine snd_wf (by assumption) ?_)
    | (with_reducible refine wf_foldl _ (fun _ _ hu => ?_) _ _ ?_)
    | (with_reducible refine wf_foldl_fst _ (fun _ _ hu => ?_) _ _ ?_)
    | (with_reducible refine wf_foldl_snd _ (fun _ _ hu => ?_) _ _ ?_)
    | (with_reducible refine gated_wfs _ _ _ _ _ (by assumption) ?_)
    | (with_reducible refine gatedRead_wfs _ _ _ _ (by assumption) ?_)
    | (with_reducible refine busChecked_wfs _ _ _ _ (by assumption) ?_)
    | (with_reducible exact gate_drop_wf (by assumption) (by assumption))
    | split
    | (simp (maxDischargeDepth := 40) [hm]; done)
    | (with_reducible refine State.stackPut_wf _ _ _ _ ?_)
    | (simp (maxDischargeDepth := 40) [*]; done)
    | (simp +contextual (maxDischargeDepth := 60) [wf_foldl, wf_foldl_fst, wf_foldl_snd, *]; done)
    | simp (maxDischargeDepth := 40)

@[simp] theorem State.journalWrite_wf (s : State) (k : Nat) (c : Nat) (n : Nat) (es : List Nat) (hm : (s.except quiet).memWf = true) :
    (State.except (State.journalWrite s k c n es) quiet).memWf = true := by
  unfold State.journalWrite
  split
  · exact wf_foldl _ (fun _ _ hu => by simp [hu]) _ _ hm
  · exact hm

@[simp] theorem State.journalAdd_wf (s : State) (k : Nat) (c : Nat) (es : List Nat) (hm : (s.except quiet).memWf = true) :
    (State.except (State.journalAdd s k c es) quiet).memWf = true := by
  simp [State.journalAdd, hm]

@[simp] theorem State.undo_wf (s : State) (p : Nat) (x1 : Nat) (n : Nat) (hm : (s.except quiet).memWf = true) :
    (State.except (State.undo s p x1 n) quiet).memWf = true := by
  unfold State.undo
  dsimp only
  split <;> simp [hm]

@[simp] theorem State.stackSplit_wf (s : State) (a : Nat) (n : Nat) (v : Nat) (hm : (s.except quiet).memWf = true) :
    (State.except (State.stackSplit s a n v) quiet).memWf = true := by
  unfold State.stackSplit
  try dsimp only
  repeat' first
    | with_reducible assumption
    | (with_reducible refine snd_wf (by assumption) ?_)
    | (with_reducible refine wf_foldl _ (fun _ _ hu => ?_) _ _ ?_)
    | (with_reducible refine wf_foldl_fst _ (fun _ _ hu => ?_) _ _ ?_)
    | (with_reducible refine wf_foldl_snd _ (fun _ _ hu => ?_) _ _ ?_)
    | (with_reducible refine gated_wfs _ _ _ _ _ (by assumption) ?_)
    | (with_reducible refine gatedRead_wfs _ _ _ _ (by assumption) ?_)
    | (with_reducible refine busChecked_wfs _ _ _ _ (by assumption) ?_)
    | (with_reducible exact gate_drop_wf (by assumption) (by assumption))
    | split
    | (simp (maxDischargeDepth := 40) [hm]; done)
    | (with_reducible refine State.stackPut_wf _ _ _ _ ?_)
    | (simp (maxDischargeDepth := 40) [*]; done)
    | (simp +contextual (maxDischargeDepth := 60) [wf_foldl, wf_foldl_fst, wf_foldl_snd, *]; done)
    | simp (maxDischargeDepth := 40)

@[simp] theorem State.stackWrite_wf (s : State) (p : Nat) (key : Nat) (a : Nat) (n : Nat) (v : Nat) (hm : (s.except quiet).memWf = true) :
    (State.except (State.stackWrite s p key a n v).2 quiet).memWf = true := by
  fun_cases State.stackWrite <;> simp (maxDischargeDepth := 40) [*]

@[simp] theorem State.spadSet_wf (s : State) (p : Nat) (off : Nat) (n : Nat) (v : Nat) (hm : (s.except quiet).memWf = true) :
    (State.except (State.spadSet s p off n v) quiet).memWf = true := by
  unfold State.spadSet
  try dsimp only
  repeat' first
    | with_reducible assumption
    | (with_reducible refine snd_wf (by assumption) ?_)
    | (with_reducible refine wf_foldl _ (fun _ _ hu => ?_) _ _ ?_)
    | (with_reducible refine wf_foldl_fst _ (fun _ _ hu => ?_) _ _ ?_)
    | (with_reducible refine wf_foldl_snd _ (fun _ _ hu => ?_) _ _ ?_)
    | (with_reducible refine gated_wfs _ _ _ _ _ (by assumption) ?_)
    | (with_reducible refine gatedRead_wfs _ _ _ _ (by assumption) ?_)
    | (with_reducible refine busChecked_wfs _ _ _ _ (by assumption) ?_)
    | (with_reducible exact gate_drop_wf (by assumption) (by assumption))
    | split
    | (simp (maxDischargeDepth := 40) [hm]; done)
    | (with_reducible refine State.store_wf _ _ _ _ ?_)
    | (simp (maxDischargeDepth := 40) [*]; done)
    | (simp +contextual (maxDischargeDepth := 60) [wf_foldl, wf_foldl_fst, wf_foldl_snd, *]; done)
    | simp (maxDischargeDepth := 40)

@[simp] theorem State.areaSet_wf (s : State) (p : Nat) (who : Nat) (off : Nat) (n : Nat) (v : Nat) (hm : (s.except quiet).memWf = true) :
    (State.except (State.areaSet s p who off n v) quiet).memWf = true := by
  unfold State.areaSet
  try dsimp only
  repeat' first
    | with_reducible assumption
    | (with_reducible refine snd_wf (by assumption) ?_)
    | (with_reducible refine wf_foldl _ (fun _ _ hu => ?_) _ _ ?_)
    | (with_reducible refine wf_foldl_fst _ (fun _ _ hu => ?_) _ _ ?_)
    | (with_reducible refine wf_foldl_snd _ (fun _ _ hu => ?_) _ _ ?_)
    | (with_reducible refine gated_wfs _ _ _ _ _ (by assumption) ?_)
    | (with_reducible refine gatedRead_wfs _ _ _ _ (by assumption) ?_)
    | (with_reducible refine busChecked_wfs _ _ _ _ (by assumption) ?_)
    | (with_reducible exact gate_drop_wf (by assumption) (by assumption))
    | split
    | (simp (maxDischargeDepth := 40) [hm]; done)
    | (with_reducible refine State.spadSet_wf _ _ _ _ _ ?_)
    | (simp (maxDischargeDepth := 40) [*]; done)
    | (simp +contextual (maxDischargeDepth := 60) [wf_foldl, wf_foldl_fst, wf_foldl_snd, *]; done)
    | simp (maxDischargeDepth := 40)

@[simp] theorem State.sharedWrite_wf (s : State) (p : Nat) (a : Nat) (n : Nat) (v : Nat) (hm : (s.except quiet).memWf = true) :
    (State.except (State.sharedWrite s p a n v).2 quiet).memWf = true := by
  fun_cases State.sharedWrite <;> simp (maxDischargeDepth := 40) [*]

end Sys2Proof.Machine
end

