-- ==== Sys2Proof/Laws/MemIntake.lean ====
section
/-!
SUPPORT. MemIntake.lean: every operation of Intake.lean that writes a byte memory keeps the memories in canonical form.
-/

namespace Sys2Proof.Machine

@[simp] theorem State.hostByte_wf (s : State) (a : Nat) (b : Byte) (hm : (s.except quiet).memWf = true) :
    (State.except (State.hostByte s a b) quiet).memWf = true := by
  exact hostSet_wf s _ _ hm

@[simp] theorem State.hostRing_wf (s : State) (base : Nat) (size : Nat) (at' : Nat) (x1 : Nat) (x2 : Nat) (hm : (s.except quiet).memWf = true) :
    (State.except (State.hostRing s base size at' x1 x2) quiet).memWf = true := by
  induction x1 generalizing s at' x2 with
  | zero => exact hm
  | succ n ih => simp (maxDischargeDepth := 40) [State.hostRing, *]

@[simp] theorem State.hostRingWords_wf (s : State) (base : Nat) (size : Nat) (at' : Nat) (x1 : List Nat) (hm : (s.except quiet).memWf = true) :
    (State.except (State.hostRingWords s base size at' x1) quiet).memWf = true := by
  induction x1 generalizing s at' with
  | nil => exact hm
  | cons w ws ih =>
    unfold State.hostRingWords
    exact ih _ _ (State.hostRing_wf _ _ _ _ _ _ hm)

@[simp] theorem execSdmaRecordCopy_wfs (n : Nat) (s : State) (hm : (s.except quiet).memWf = true) :
    Result.wfs (execSdmaRecordCopy n s) := by
  unfold execSdmaRecordCopy
  try dsimp only
  repeat' first
    | assumption
    | (with_reducible refine wf_foldl _ (fun _ _ _ => ?_) _ _ ?_)
    | (with_reducible refine wf_foldl_fst _ (fun _ _ _ => ?_) _ _ ?_)
    | (with_reducible refine wf_foldl_snd _ (fun _ _ _ => ?_) _ _ ?_)
    | split
    | (simp (maxDischargeDepth := 40) [*]; done)
    | simp (maxDischargeDepth := 40) [*]

end Sys2Proof.Machine
end

