-- ==== Sys2Proof/Laws/MemRings.lean ====
section
/-!
SUPPORT. MemRings.lean: every operation of Rings.lean that writes a byte memory keeps the memories in canonical form.
-/

namespace Sys2Proof.Machine

@[simp] theorem State.ringShadow_wf (s : State) (r : Ring) (hm : (s.except quiet).memWf = true) :
    (State.except (State.ringShadow s r) quiet).memWf = true := by
  simp (maxDischargeDepth := 40) [State.ringShadow, *]

@[simp] theorem State.ringAdvance_wf (s : State) (f : Nat) (i : Nat) (hm : (s.except quiet).memWf = true) :
    (State.except (State.ringAdvance s f i) quiet).memWf = true := by
  simp (maxDischargeDepth := 40) [State.ringAdvance, *]

@[simp] theorem ringTakes_wf (s : State) (unit : Nat) (st : Nat) (hm : (s.except quiet).memWf = true) :
    (State.except (ringTakes s unit st) quiet).memWf = true := by
  fun_cases ringTakes <;> simp (maxDischargeDepth := 40) [*]

@[simp] theorem State.ringReset_wf (s : State) (f : Nat) (i : Nat) (r : Ring) (hm : (s.except quiet).memWf = true) :
    (State.except (State.ringReset s f i r) quiet).memWf = true := by
  unfold State.ringReset
  try dsimp only
  repeat' first
    | with_reducible assumption
    | (with_reducible refine snd_wf (by assumption) ?_)
    | (with_reducible refine wf_foldl _ (fun _ _ hu => ?_) _ _ ?_)
    | (with_reducible refine wf_foldl_fst _ (fun _ _ hu => ?_) _ _ ?_)
    | (with_reducible refine wf_foldl_snd _ (fun _ _ hu => ?_) _ _ ?_)
    | (with_reducible refine gated_wfs _ _ _ _ _ (by assumption) ?_)
    | (with_reducible refine gatedRead_wfs _ _ _ _ (by assumption) ?_)
    | (with_reducible refine busChecked_wfs _ _ _ _ (by assumption) ?_)
    | (with_reducible exact gate_drop_wf (by assumption) (by assumption))
    | split
    | (simp (maxDischargeDepth := 40) [hm]; done)
    | (with_reducible refine State.ringShadow_wf _ _ ?_)
    | (simp (maxDischargeDepth := 40) [*]; done)
    | (simp +contextual (maxDischargeDepth := 60) [wf_foldl, wf_foldl_fst, wf_foldl_snd, *]; done)
    | simp (maxDischargeDepth := 40)

@[simp] theorem ringCmdWrite_wf (f : Nat) (w : Word) (s : State) (hm : (s.except quiet).memWf = true) :
    (State.except (ringCmdWrite f w s) quiet).memWf = true := by
  fun_cases ringCmdWrite <;> (try simp (maxDischargeDepth := 40) [*])

@[simp] theorem execRingReset_wfs (r : Req) (s : State) (hm : (s.except quiet).memWf = true) :
    Result.wfs (execRingReset r s) := by
  unfold execRingReset
  try dsimp only
  repeat' first
    | assumption
    | (with_reducible refine snd_wf (by assumption) ?_)
    | (with_reducible refine wf_foldl _ (fun _ _ _ => ?_) _ _ ?_)
    | (with_reducible refine wf_foldl_fst _ (fun _ _ _ => ?_) _ _ ?_)
    | (with_reducible refine wf_foldl_snd _ (fun _ _ _ => ?_) _ _ ?_)
    | (with_reducible refine gated_wfs _ _ _ _ _ (by assumption) ?_)
    | (with_reducible refine gatedRead_wfs _ _ _ _ (by assumption) ?_)
    | (with_reducible refine busChecked_wfs _ _ _ _ (by assumption) ?_)
    | exact gate_drop_wf (by assumption) (by assumption)
    | split
    | (simp (maxDischargeDepth := 40) [*]; done)
    | simp (maxDischargeDepth := 40) [*]

@[simp] theorem execRingRetry_wfs (r : Req) (s : State) (hm : (s.except quiet).memWf = true) :
    Result.wfs (execRingRetry r s) := by
  unfold execRingRetry
  try dsimp only
  repeat' first
    | assumption
    | (with_reducible refine snd_wf (by assumption) ?_)
    | (with_reducible refine wf_foldl _ (fun _ _ _ => ?_) _ _ ?_)
    | (with_reducible refine wf_foldl_fst _ (fun _ _ _ => ?_) _ _ ?_)
    | (with_reducible refine wf_foldl_snd _ (fun _ _ _ => ?_) _ _ ?_)
    | (with_reducible refine gated_wfs _ _ _ _ _ (by assumption) ?_)
    | (with_reducible refine gatedRead_wfs _ _ _ _ (by assumption) ?_)
    | (with_reducible refine busChecked_wfs _ _ _ _ (by assumption) ?_)
    | exact gate_drop_wf (by assumption) (by assumption)
    | split
    | (simp (maxDischargeDepth := 40) [*]; done)
    | simp (maxDischargeDepth := 40) [*]

@[simp] theorem execRingSkip_wfs (r : Req) (s : State) (hm : (s.except quiet).memWf = true) :
    Result.wfs (execRingSkip r s) := by
  unfold execRingSkip
  try dsimp only
  repeat' first
    | assumption
    | (with_reducible refine snd_wf (by assumption) ?_)
    | (with_reducible refine wf_foldl _ (fun _ _ _ => ?_) _ _ ?_)
    | (with_reducible refine wf_foldl_fst _ (fun _ _ _ => ?_) _ _ ?_)
    | (with_reducible refine wf_foldl_snd _ (fun _ _ _ => ?_) _ _ ?_)
    | (with_reducible refine gated_wfs _ _ _ _ _ (by assumption) ?_)
    | (with_reducible refine gatedRead_wfs _ _ _ _ (by assumption) ?_)
    | (with_reducible refine busChecked_wfs _ _ _ _ (by assumption) ?_)
    | exact gate_drop_wf (by assumption) (by assumption)
    | split
    | (simp (maxDischargeDepth := 40) [*]; done)
    | simp (maxDischargeDepth := 40) [*]

end Sys2Proof.Machine
end

