-- ==== Sys2Proof/Laws/MemHutch.lean ====
section
/-!
SUPPORT. MemHutch.lean: every operation of Hutch.lean that writes a byte memory keeps the memories in canonical form.
-/

namespace Sys2Proof.Machine

@[simp] theorem State.reprotect_wf (s : State) (h : Nat) (hm : (s.except quiet).memWf = true) :
    (State.except (State.reprotect s h) quiet).memWf = true := by
  unfold State.reprotect
  try dsimp only
  repeat' first
    | with_reducible assumption
    | (with_reducible refine snd_wf (by assumption) ?_)
    | (with_reducible refine wf_foldl _ (fun _ _ hu => ?_) _ _ ?_)
    | (with_reducible refine wf_foldl_fst _ (fun _ _ hu => ?_) _ _ ?_)
    | (with_reducible refine wf_foldl_snd _ (fun _ _ hu => ?_) _ _ ?_)
    | (with_reducible refine gated_wfs _ _ _ _ _ (by assumption) ?_)
    | (with_reducible refine gatedRead_wfs _ _ _ _ (by assumption) ?_)
    | (with_reducible refine busChecked_wfs _ _ _ _ (by assumption) ?_)
    | (with_reducible exact gate_drop_wf (by assumption) (by assumption))
    | (with_reducible refine drwCommand_wfs _ _ _ _ _ (by assumption) (fun _ _ hu => ?_))
    | split
    | (simp (maxDischargeDepth := 40) [hm]; done)
    | (with_reducible refine State.setByte_wf _ _ _ ?_)
    | (with_reducible refine State.clearBytes_wf _ _ _ ?_)
    | (simp (maxDischargeDepth := 40) [*]; done)
    | (simp +contextual (maxDischargeDepth := 60) [wf_foldl, wf_foldl_fst, wf_foldl_snd, *]; done)
    | simp (maxDischargeDepth := 40)

@[simp] theorem State.retirePc_wf (s : State) (h : Nat) (p : Nat) (hm : (s.except quiet).memWf = true) :
    (State.except (State.retirePc s h p) quiet).memWf = true := by
  unfold State.retirePc
  try dsimp only
  repeat' first
    | with_reducible assumption
    | (with_reducible refine snd_wf (by assumption) ?_)
    | (with_reducible refine wf_foldl _ (fun _ _ hu => ?_) _ _ ?_)
    | (with_reducible refine wf_foldl_fst _ (fun _ _ hu => ?_) _ _ ?_)
    | (with_reducible refine wf_foldl_snd _ (fun _ _ hu => ?_) _ _ ?_)
    | (with_reducible refine gated_wfs _ _ _ _ _ (by assumption) ?_)
    | (with_reducible refine gatedRead_wfs _ _ _ _ (by assumption) ?_)
    | (with_reducible refine busChecked_wfs _ _ _ _ (by assumption) ?_)
    | (with_reducible exact gate_drop_wf (by assumption) (by assumption))
    | (with_reducible refine drwCommand_wfs _ _ _ _ _ (by assumption) (fun _ _ hu => ?_))
    | split
    | (simp (maxDischargeDepth := 40) [hm]; done)
    | (with_reducible refine State.reprotect_wf _ _ ?_)
    | (simp (maxDischargeDepth := 40) [*]; done)
    | (simp +contextual (maxDischargeDepth := 60) [wf_foldl, wf_foldl_fst, wf_foldl_snd, *]; done)
    | simp (maxDischargeDepth := 40)

@[simp] theorem pcRetireWrite_wf (h : Nat) (w : Word) (s : State) (hm : (s.except quiet).memWf = true) :
    (State.except (pcRetireWrite h w s) quiet).memWf = true := by
  unfold pcRetireWrite
  try dsimp only
  repeat' first
    | with_reducible assumption
    | (with_reducible refine snd_wf (by assumption) ?_)
    | (with_reducible refine wf_foldl _ (fun _ _ hu => ?_) _ _ ?_)
    | (with_reducible refine wf_foldl_fst _ (fun _ _ hu => ?_) _ _ ?_)
    | (with_reducible refine wf_foldl_snd _ (fun _ _ hu => ?_) _ _ ?_)
    | (with_reducible refine gated_wfs _ _ _ _ _ (by assumption) ?_)
    | (with_reducible refine gatedRead_wfs _ _ _ _ (by assumption) ?_)
    | (with_reducible refine busChecked_wfs _ _ _ _ (by assumption) ?_)
    | (with_reducible exact gate_drop_wf (by assumption) (by assumption))
    | (with_reducible refine drwCommand_wfs _ _ _ _ _ (by assumption) (fun _ _ hu => ?_))
    | split
    | (simp (maxDischargeDepth := 40) [hm]; done)
    | (with_reducible refine State.retirePc_wf _ _ _ ?_)
    | (simp (maxDischargeDepth := 40) [*]; done)
    | (simp +contextual (maxDischargeDepth := 60) [wf_foldl, wf_foldl_fst, wf_foldl_snd, *]; done)
    | simp (maxDischargeDepth := 40)

@[simp] theorem execPcRetire_wfs (r : Req) (h : Nat) (w : Word) (s : State) (hm : (s.except quiet).memWf = true) :
    Result.wfs (execPcRetire r h w s) := by
  unfold execPcRetire
  try dsimp only
  repeat' first
    | with_reducible assumption
    | (with_reducible refine snd_wf (by assumption) ?_)
    | (with_reducible refine wf_foldl _ (fun _ _ hu => ?_) _ _ ?_)
    | (with_reducible refine wf_foldl_fst _ (fun _ _ hu => ?_) _ _ ?_)
    | (with_reducible refine wf_foldl_snd _ (fun _ _ hu => ?_) _ _ ?_)
    | (with_reducible refine gated_wfs _ _ _ _ _ (by assumption) ?_)
    | (with_reducible refine gatedRead_wfs _ _ _ _ (by assumption) ?_)
    | (with_reducible refine busChecked_wfs _ _ _ _ (by assumption) ?_)
    | (with_reducible exact gate_drop_wf (by assumption) (by assumption))
    | (with_reducible refine drwCommand_wfs _ _ _ _ _ (by assumption) (fun _ _ hu => ?_))
    | split
    | (simp (maxDischargeDepth := 40) [hm]; done)
    | (with_reducible refine pcRetireWrite_wf _ _ _ ?_)
    | (simp (maxDischargeDepth := 40) [*]; done)
    | (simp +contextual (maxDischargeDepth := 60) [wf_foldl, wf_foldl_fst, wf_foldl_snd, *]; done)
    | simp (maxDischargeDepth := 40)

@[simp] theorem State.ueRead_wf (s : State) (h : Nat) (p : Nat) (hm : (s.except quiet).memWf = true) :
    (State.except (State.ueRead s h p) quiet).memWf = true := by
  unfold State.ueRead
  try dsimp only
  repeat' first
    | with_reducible assumption
    | (with_reducible refine snd_wf (by assumption) ?_)
    | (with_reducible refine wf_foldl _ (fun _ _ hu => ?_) _ _ ?_)
    | (with_reducible refine wf_foldl_fst _ (fun _ _ hu => ?_) _ _ ?_)
    | (with_reducible refine wf_foldl_snd _ (fun _ _ hu => ?_) _ _ ?_)
    | (with_reducible refine gated_wfs _ _ _ _ _ (by assumption) ?_)
    | (with_reducible refine gatedRead_wfs _ _ _ _ (by assumption) ?_)
    | (with_reducible refine busChecked_wfs _ _ _ _ (by assumption) ?_)
    | (with_reducible exact gate_drop_wf (by assumption) (by assumption))
    | (with_reducible refine drwCommand_wfs _ _ _ _ _ (by assumption) (fun _ _ hu => ?_))
    | split
    | (simp (maxDischargeDepth := 40) [hm]; done)
    | (with_reducible refine State.retirePc_wf _ _ _ ?_)
    | (simp (maxDischargeDepth := 40) [*]; done)
    | (simp +contextual (maxDischargeDepth := 60) [wf_foldl, wf_foldl_fst, wf_foldl_snd, *]; done)
    | simp (maxDischargeDepth := 40)

@[simp] theorem State.readLine_wf (s : State) (a : Nat) (ecc : LineEcc) (hm : (s.except quiet).memWf = true) :
    (State.except (State.readLine s a ecc).2 quiet).memWf = true := by
  unfold State.readLine
  try dsimp only
  repeat' first
    | assumption
    | (with_reducible refine wf_foldl _ (fun _ _ _ => ?_) _ _ ?_)
    | (with_reducible refine wf_foldl_fst _ (fun _ _ _ => ?_) _ _ ?_)
    | (with_reducible refine wf_foldl_snd _ (fun _ _ _ => ?_) _ _ ?_)
    | split
    | (simp (maxDischargeDepth := 40) [*]; done)
    | simp (maxDischargeDepth := 40) [*]

@[simp] theorem State.serveRead_wf (s : State) (f : MFlit) (x1 : Nat) (ecc : List LineEcc) (i : Nat) (x2 : Nat) (hm : (s.except quiet).memWf = true) :
    (State.except (State.serveRead s f x1 ecc i x2) quiet).memWf = true := by
  induction x2 generalizing s i with
  | zero => exact hm
  | succ n ih =>
    unfold State.serveRead
    dsimp only
    refine ih _ _ ?_
    split <;> simp [State.readLine_wf, *]

@[simp] theorem State.writeLine_wf (s : State) (a : Nat) (qmask : Nat) (data : Nat) (hm : (s.except quiet).memWf = true) :
    (State.except (State.writeLine s a qmask data) quiet).memWf = true := by
  unfold State.writeLine
  try dsimp only
  repeat' first
    | assumption
    | (with_reducible refine wf_foldl _ (fun _ _ _ => ?_) _ _ ?_)
    | (with_reducible refine wf_foldl_fst _ (fun _ _ _ => ?_) _ _ ?_)
    | (with_reducible refine wf_foldl_snd _ (fun _ _ _ => ?_) _ _ ?_)
    | split
    | (simp (maxDischargeDepth := 40) [*]; done)
    | simp (maxDischargeDepth := 40) [*]

@[simp] theorem execMemoryRequest_wfs (f : MFlit) (ecc : List LineEcc) (s : State) (hm : (s.except quiet).memWf = true) :
    Result.wfs (execMemoryRequest f ecc s) := by
  unfold execMemoryRequest
  try dsimp only
  repeat' first
    | assumption
    | (with_reducible refine wf_foldl _ (fun _ _ _ => ?_) _ _ ?_)
    | (with_reducible refine wf_foldl_fst _ (fun _ _ _ => ?_) _ _ ?_)
    | (with_reducible refine wf_foldl_snd _ (fun _ _ _ => ?_) _ _ ?_)
    | split
    | (simp (maxDischargeDepth := 40) [*]; done)
    | simp (maxDischargeDepth := 40) [*]

@[simp] theorem execScrubRead_wfs (h : Nat) (ecc : LineEcc) (s : State) (hm : (s.except quiet).memWf = true) :
    Result.wfs (execScrubRead h ecc s) := by
  unfold execScrubRead
  split
  · simp [hm]
  · dsimp only
    split
    · simp [hm]
    · simp (maxDischargeDepth := 40) [hm]

end Sys2Proof.Machine
end

