-- ==== Sys2Proof/Laws/MemDrawer.lean ====
section
/-!
SUPPORT. MemDrawer.lean: every operation of Drawer.lean that writes a byte memory keeps the memories in canonical form.
-/

namespace Sys2Proof.Machine

theorem drwCommand_wfs (p d op : Nat) (s : State) (k : Nat → State → State) (h : (s.except quiet).memWf = true)
    (hk : ∀ m u, (u.except quiet).memWf = true → ((k m u).except quiet).memWf = true) : Result.wfs (drwCommand p d op s k) := by
  unfold drwCommand
  (repeat' split) <;> simp (maxDischargeDepth := 40) [*]

@[simp] theorem State.setNrec_wf (s : State) (p : Nat) (d : Nat) (i : Nat) (r : Nat) (hm : (s.except quiet).memWf = true) :
    (State.except (State.setNrec s p d i r) quiet).memWf = true := by
  simp (maxDischargeDepth := 40) [State.setNrec, *]

@[simp] theorem State.setRing_wf (s : State) (p : Nat) (d : Nat) (i : Nat) (j : Nat) (q : Int) (hm : (s.except quiet).memWf = true) :
    (State.except (State.setRing s p d i j q) quiet).memWf = true := by
  simp (maxDischargeDepth := 40) [State.setRing, *]

@[simp] theorem State.setOcc_wf (s : State) (p : Nat) (d : Nat) (i : Nat) (j : Nat) (b : Bool) (hm : (s.except quiet).memWf = true) :
    (State.except (State.setOcc s p d i j b) quiet).memWf = true := by
  simp (maxDischargeDepth := 40) [State.setOcc, *]

@[simp] theorem State.saturation_wf (s : State) (p : Nat) (d : Nat) (i : Nat) (hm : (s.except quiet).memWf = true) :
    (State.except (State.saturation s p d i) quiet).memWf = true := by
  unfold State.saturation
  try dsimp only
  (repeat' split) <;> simp_all (maxDischargeDepth := 40)

@[simp] theorem State.slotAdd_wf (s : State) (p : Nat) (d : Nat) (i : Nat) (te : Nat) (q : Int) (hm : (s.except quiet).memWf = true) :
    (State.except (State.slotAdd s p d i te q) quiet).memWf = true := by
  have key : ∀ (u : State) j x, (u.except quiet).memWf = true → (((u.setRing p d i j x).setOcc p d i j true).except quiet).memWf = true :=
    fun u j x hu => State.setOcc_wf _ _ _ _ _ _ (State.setRing_wf _ _ _ _ _ _ hu)
  unfold State.slotAdd
  dsimp only
  refine key _ _ _ ?_
  rw [except_ite]
  split
  · exact hm
  · exact State.saturation_wf _ _ _ _ hm

@[simp] theorem State.ldqPut_wf (s : State) (p : Nat) (off : Nat) (w : Nat) (hm : (s.except quiet).memWf = true) :
    (State.except (State.ldqPut s p off w) quiet).memWf = true := by
  unfold State.ldqPut
  try dsimp only
  repeat' first
    | with_reducible assumption
    | (with_reducible refine snd_wf (by assumption) ?_)
    | (with_reducible refine wf_foldl _ (fun _ _ hu => ?_) _ _ ?_)
    | (with_reducible refine wf_foldl_fst _ (fun _ _ hu => ?_) _ _ ?_)
    | (with_reducible refine wf_foldl_snd _ (fun _ _ hu => ?_) _ _ ?_)
    | (with_reducible refine gated_wfs _ _ _ _ _ (by assumption) ?_)
    | (with_reducible refine gatedRead_wfs _ _ _ _ (by assumption) ?_)
    | (with_reducible refine busChecked_wfs _ _ _ _ (by assumption) ?_)
    | (with_reducible exact gate_drop_wf (by assumption) (by assumption))
    | (with_reducible refine drwCommand_wfs _ _ _ _ _ (by assumption) (fun _ _ hu => ?_))
    | split
    | (simp (maxDischargeDepth := 40) [hm]; done)
    | (with_reducible refine State.areaSet_wf _ _ _ _ _ _ ?_)
    | (simp (maxDischargeDepth := 40) [*]; done)
    | (simp +contextual (maxDischargeDepth := 60) [wf_foldl, wf_foldl_fst, wf_foldl_snd, *]; done)
    | simp (maxDischargeDepth := 40)

@[simp] theorem State.ldqStore_wf (s : State) (p : Nat) (hm : (s.except quiet).memWf = true) :
    (State.except (State.ldqStore s p) quiet).memWf = true := by
  unfold State.ldqStore
  try dsimp only
  repeat' first
    | with_reducible assumption
    | (with_reducible refine snd_wf (by assumption) ?_)
    | (with_reducible refine wf_foldl _ (fun _ _ hu => ?_) _ _ ?_)
    | (with_reducible refine wf_foldl_fst _ (fun _ _ hu => ?_) _ _ ?_)
    | (with_reducible refine wf_foldl_snd _ (fun _ _ hu => ?_) _ _ ?_)
    | (with_reducible refine gated_wfs _ _ _ _ _ (by assumption) ?_)
    | (with_reducible refine gatedRead_wfs _ _ _ _ (by assumption) ?_)
    | (with_reducible refine busChecked_wfs _ _ _ _ (by assumption) ?_)
    | (with_reducible exact gate_drop_wf (by assumption) (by assumption))
    | (with_reducible refine drwCommand_wfs _ _ _ _ _ (by assumption) (fun _ _ hu => ?_))
    | split
    | (simp (maxDischargeDepth := 40) [hm]; done)
    | (with_reducible refine State.ownPut_wf _ _ _ _ _ ?_)
    | (with_reducible refine State.ldqPut_wf _ _ _ _ ?_)
    | (simp (maxDischargeDepth := 40) [*]; done)
    | (simp +contextual (maxDischargeDepth := 60) [wf_foldl, wf_foldl_fst, wf_foldl_snd, *]; done)
    | simp (maxDischargeDepth := 40)

@[simp] theorem State.ldqRegs_wf (s : State) (p : Nat) (hm : (s.except quiet).memWf = true) :
    (State.except (State.ldqRegs s p) quiet).memWf = true := by
  unfold State.ldqRegs
  try dsimp only
  repeat' first
    | with_reducible assumption
    | (with_reducible refine snd_wf (by assumption) ?_)
    | (with_reducible refine wf_foldl _ (fun _ _ hu => ?_) _ _ ?_)
    | (with_reducible refine wf_foldl_fst _ (fun _ _ hu => ?_) _ _ ?_)
    | (with_reducible refine wf_foldl_snd _ (fun _ _ hu => ?_) _ _ ?_)
    | (with_reducible refine gated_wfs _ _ _ _ _ (by assumption) ?_)
    | (with_reducible refine gatedRead_wfs _ _ _ _ (by assumption) ?_)
    | (with_reducible refine busChecked_wfs _ _ _ _ (by assumption) ?_)
    | (with_reducible exact gate_drop_wf (by assumption) (by assumption))
    | (with_reducible refine drwCommand_wfs _ _ _ _ _ (by assumption) (fun _ _ hu => ?_))
    | split
    | (simp (maxDischargeDepth := 40) [hm]; done)
    | (with_reducible refine State.ldqStore_wf _ _ ?_)
    | (simp (maxDischargeDepth := 40) [*]; done)
    | (simp +contextual (maxDischargeDepth := 60) [wf_foldl, wf_foldl_fst, wf_foldl_snd, *]; done)
    | simp (maxDischargeDepth := 40)

theorem State.ldqAdd_wf (s : State) (p : Nat) (e : Ldq) (hm : (s.except quiet).memWf = true) {t : State} (ht : State.ldqAdd s p e = some t) : (t.except quiet).memWf = true := by
  unfold State.ldqAdd at ht
  try dsimp only at ht
  (repeat' split at ht) <;> first
    | (cases ht; done)
    | (cases ht; simp (maxDischargeDepth := 40) [hm])

@[simp] theorem State.ldqMove_wf (s : State) (p : Nat) (go : Ldq → Bool) (hm : (s.except quiet).memWf = true) :
    (State.except (State.ldqMove s p go) quiet).memWf = true := by
  unfold State.ldqMove
  try dsimp only
  repeat' first
    | with_reducible assumption
    | (with_reducible refine snd_wf (by assumption) ?_)
    | (with_reducible refine wf_foldl _ (fun _ _ hu => ?_) _ _ ?_)
    | (with_reducible refine wf_foldl_fst _ (fun _ _ hu => ?_) _ _ ?_)
    | (with_reducible refine wf_foldl_snd _ (fun _ _ hu => ?_) _ _ ?_)
    | (with_reducible refine gated_wfs _ _ _ _ _ (by assumption) ?_)
    | (with_reducible refine gatedRead_wfs _ _ _ _ (by assumption) ?_)
    | (with_reducible refine busChecked_wfs _ _ _ _ (by assumption) ?_)
    | (with_reducible exact gate_drop_wf (by assumption) (by assumption))
    | (with_reducible refine drwCommand_wfs _ _ _ _ _ (by assumption) (fun _ _ hu => ?_))
    | split
    | (simp (maxDischargeDepth := 40) [hm]; done)
    | (with_reducible refine State.slotAdd_wf _ _ _ _ _ _ ?_)
    | (with_reducible refine State.ldqRegs_wf _ _ ?_)
    | (simp (maxDischargeDepth := 40) [*]; done)
    | (simp +contextual (maxDischargeDepth := 60) [wf_foldl, wf_foldl_fst, wf_foldl_snd, *]; done)
    | simp (maxDischargeDepth := 40)

@[simp] theorem State.ldqSettle_wf (s : State) (p : Nat) (ecc : StoreEcc) (hm : (s.except quiet).memWf = true) :
    (State.except (State.ldqSettle s p ecc) quiet).memWf = true := by
  unfold State.ldqSettle
  try dsimp only
  repeat' first
    | with_reducible assumption
    | (with_reducible refine snd_wf (by assumption) ?_)
    | (with_reducible refine wf_foldl _ (fun _ _ _ => ?_) _ _ ?_)
    | (with_reducible refine wf_foldl_fst _ (fun _ _ _ => ?_) _ _ ?_)
    | (with_reducible refine wf_foldl_snd _ (fun _ _ _ => ?_) _ _ ?_)
    | (with_reducible refine gated_wfs _ _ _ _ _ (by assumption) ?_)
    | (with_reducible refine gatedRead_wfs _ _ _ _ (by assumption) ?_)
    | (with_reducible refine busChecked_wfs _ _ _ _ (by assumption) ?_)
    | (with_reducible exact gate_drop_wf (by assumption) (by assumption))
    | (with_reducible refine drwCommand_wfs _ _ _ _ _ (by assumption) (fun _ _ _ => ?_))
    | split
    | (simp (maxDischargeDepth := 40) [*]; done)
    | (simp +contextual (maxDischargeDepth := 60) [wf_foldl, wf_foldl_fst, wf_foldl_snd, *]; done)
    | (simp (maxDischargeDepth := 40) only [done_wfs, answer_wfs, ite_wfs])

@[simp] theorem State.ldqDue_wf (s : State) (p : Nat) (d : Nat) (i : Nat) (te : Nat) (hm : (s.except quiet).memWf = true) :
    (State.except (State.ldqDue s p d i te) quiet).memWf = true := by
  unfold State.ldqDue
  try dsimp only
  repeat' first
    | with_reducible assumption
    | (with_reducible refine snd_wf (by assumption) ?_)
    | (with_reducible refine wf_foldl _ (fun _ _ hu => ?_) _ _ ?_)
    | (with_reducible refine wf_foldl_fst _ (fun _ _ hu => ?_) _ _ ?_)
    | (with_reducible refine wf_foldl_snd _ (fun _ _ hu => ?_) _ _ ?_)
    | (with_reducible refine gated_wfs _ _ _ _ _ (by assumption) ?_)
    | (with_reducible refine gatedRead_wfs _ _ _ _ (by assumption) ?_)
    | (with_reducible refine busChecked_wfs _ _ _ _ (by assumption) ?_)
    | (with_reducible exact gate_drop_wf (by assumption) (by assumption))
    | (with_reducible refine drwCommand_wfs _ _ _ _ _ (by assumption) (fun _ _ hu => ?_))
    | split
    | (simp (maxDischargeDepth := 40) [hm]; done)
    | (with_reducible refine State.ldqMove_wf _ _ _ ?_)
    | (simp (maxDischargeDepth := 40) [*]; done)
    | (simp +contextual (maxDischargeDepth := 60) [wf_foldl, wf_foldl_fst, wf_foldl_snd, *]; done)
    | simp (maxDischargeDepth := 40)

theorem State.land_wf (s : State) (p : Nat) (e : Dlv) (hm : (s.except quiet).memWf = true) {t : State} (ht : State.land s p e = some t) : (t.except quiet).memWf = true := by
  unfold State.land at ht
  dsimp only at ht
  split at ht
  · cases ht
    split
    · split <;> simp [hm]
    · simp [hm]
  · obtain ⟨u, hu, rfl⟩ := Option.map_eq_some_iff.mp ht
    have := State.ldqAdd_wf _ _ _ hm hu
    split
    · split <;> simp [this]
    · simp [this]

@[simp] theorem State.landHead_wf (s : State) (p : Nat) (hm : (s.except quiet).memWf = true) :
    (State.except (State.landHead s p) quiet).memWf = true := by
  unfold State.landHead
  try dsimp only
  repeat' first
    | with_reducible assumption
    | (with_reducible refine snd_wf (by assumption) ?_)
    | (with_reducible refine wf_foldl _ (fun _ _ hu => ?_) _ _ ?_)
    | (with_reducible refine wf_foldl_fst _ (fun _ _ hu => ?_) _ _ ?_)
    | (with_reducible refine wf_foldl_snd _ (fun _ _ hu => ?_) _ _ ?_)
    | (with_reducible refine gated_wfs _ _ _ _ _ (by assumption) ?_)
    | (with_reducible refine gatedRead_wfs _ _ _ _ (by assumption) ?_)
    | (with_reducible refine busChecked_wfs _ _ _ _ (by assumption) ?_)
    | (with_reducible exact gate_drop_wf (by assumption) (by assumption))
    | (with_reducible refine drwCommand_wfs _ _ _ _ _ (by assumption) (fun _ _ hu => ?_))
    | split
    | (simp (maxDischargeDepth := 40) [hm]; done)
    | (with_reducible refine State.land_wf _ _ _ ?_ (by assumption))
    | (simp (maxDischargeDepth := 40) [*]; done)
    | (simp +contextual (maxDischargeDepth := 60) [wf_foldl, wf_foldl_fst, wf_foldl_snd, *]; done)
    | simp (maxDischargeDepth := 40)

@[simp] theorem State.landFirst_wf (s : State) (p : Nat) (ecc : WordEcc) (hm : (s.except quiet).memWf = true) :
    (State.except (State.landFirst s p ecc) quiet).memWf = true := by
  unfold State.landFirst
  try dsimp only
  repeat' first
    | with_reducible assumption
    | (with_reducible refine snd_wf (by assumption) ?_)
    | (with_reducible refine wf_foldl _ (fun _ _ hu => ?_) _ _ ?_)
    | (with_reducible refine wf_foldl_fst _ (fun _ _ hu => ?_) _ _ ?_)
    | (with_reducible refine wf_foldl_snd _ (fun _ _ hu => ?_) _ _ ?_)
    | (with_reducible refine gated_wfs _ _ _ _ _ (by assumption) ?_)
    | (with_reducible refine gatedRead_wfs _ _ _ _ (by assumption) ?_)
    | (with_reducible refine busChecked_wfs _ _ _ _ (by assumption) ?_)
    | (with_reducible exact gate_drop_wf (by assumption) (by assumption))
    | (with_reducible refine drwCommand_wfs _ _ _ _ _ (by assumption) (fun _ _ hu => ?_))
    | split
    | (simp (maxDischargeDepth := 40) [hm]; done)
    | (with_reducible refine State.landHead_wf _ _ ?_)
    | (simp (maxDischargeDepth := 40) [*]; done)
    | (simp +contextual (maxDischargeDepth := 60) [wf_foldl, wf_foldl_fst, wf_foldl_snd, *]; done)
    | simp (maxDischargeDepth := 40)

@[simp] theorem execDelivery_wfs (p : Nat) (ecc : WordEcc) (s : State) (hm : (s.except quiet).memWf = true) :
    Result.wfs (execDelivery p ecc s) := by
  unfold execDelivery
  try dsimp only
  repeat' first
    | with_reducible assumption
    | (with_reducible refine snd_wf (by assumption) ?_)
    | (with_reducible refine wf_foldl _ (fun _ _ hu => ?_) _ _ ?_)
    | (with_reducible refine wf_foldl_fst _ (fun _ _ hu => ?_) _ _ ?_)
    | (with_reducible refine wf_foldl_snd _ (fun _ _ hu => ?_) _ _ ?_)
    | (with_reducible refine gated_wfs _ _ _ _ _ (by assumption) ?_)
    | (with_reducible refine gatedRead_wfs _ _ _ _ (by assumption) ?_)
    | (with_reducible refine busChecked_wfs _ _ _ _ (by assumption) ?_)
    | (with_reducible exact gate_drop_wf (by assumption) (by assumption))
    | (with_reducible refine drwCommand_wfs _ _ _ _ _ (by assumption) (fun _ _ hu => ?_))
    | split
    | (simp (maxDischargeDepth := 40) [hm]; done)
    | (with_reducible refine State.landHead_wf _ _ ?_)
    | (simp (maxDischargeDepth := 40) [*]; done)
    | (simp +contextual (maxDischargeDepth := 60) [wf_foldl, wf_foldl_fst, wf_foldl_snd, *]; done)
    | simp (maxDischargeDepth := 40)

@[simp] theorem execLdqReturn_wfs (p : Nat) (s : State) (hm : (s.except quiet).memWf = true) :
    Result.wfs (execLdqReturn p s) := by
  unfold execLdqReturn
  try dsimp only
  repeat' first
    | assumption
    | (with_reducible refine snd_wf (by assumption) ?_)
    | (with_reducible refine wf_foldl _ (fun _ _ _ => ?_) _ _ ?_)
    | (with_reducible refine wf_foldl_fst _ (fun _ _ _ => ?_) _ _ ?_)
    | (with_reducible refine wf_foldl_snd _ (fun _ _ _ => ?_) _ _ ?_)
    | (with_reducible refine gated_wfs _ _ _ _ _ (by assumption) ?_)
    | (with_reducible refine gatedRead_wfs _ _ _ _ (by assumption) ?_)
    | (with_reducible refine busChecked_wfs _ _ _ _ (by assumption) ?_)
    | exact gate_drop_wf (by assumption) (by assumption)
    | (with_reducible refine drwCommand_wfs _ _ _ _ _ (by assumption) (fun _ _ _ => ?_))
    | split
    | (simp (maxDischargeDepth := 40) [*]; done)
    | simp (maxDischargeDepth := 40) [*]

@[simp] theorem execSpillResume_wfs (p : Checked WordEcc) (s : State) (hm : (s.except quiet).memWf = true) :
    Result.wfs (execSpillResume p s) := by
  simp (maxDischargeDepth := 40) [execSpillResume, *]

@[simp] theorem State.postEnter_wf (s : State) (p : Nat) (d : Nat) (i : Nat) (te : Nat) (hm : (s.except quiet).memWf = true) :
    (State.except (State.postEnter s p d i te) quiet).memWf = true := by
  unfold State.postEnter
  try dsimp only
  (repeat' split) <;> simp_all (maxDischargeDepth := 40)

@[simp] theorem State.postForget_wf (s : State) (p : Nat) (d : Nat) (i : Nat) (hm : (s.except quiet).memWf = true) :
    (State.except (State.postForget s p d i) quiet).memWf = true := by
  unfold State.postForget
  try dsimp only
  repeat' first
    | with_reducible assumption
    | (with_reducible refine snd_wf (by assumption) ?_)
    | (with_reducible refine wf_foldl _ (fun _ _ hu => ?_) _ _ ?_)
    | (with_reducible refine wf_foldl_fst _ (fun _ _ hu => ?_) _ _ ?_)
    | (with_reducible refine wf_foldl_snd _ (fun _ _ hu => ?_) _ _ ?_)
    | (with_reducible refine gated_wfs _ _ _ _ _ (by assumption) ?_)
    | (with_reducible refine gatedRead_wfs _ _ _ _ (by assumption) ?_)
    | (with_reducible refine busChecked_wfs _ _ _ _ (by assumption) ?_)
    | (with_reducible exact gate_drop_wf (by assumption) (by assumption))
    | (with_reducible refine drwCommand_wfs _ _ _ _ _ (by assumption) (fun _ _ hu => ?_))
    | split
    | (simp (maxDischargeDepth := 40) [hm]; done)
    | (with_reducible refine State.store_wf _ _ _ _ ?_)
    | (simp (maxDischargeDepth := 40) [*]; done)
    | (simp +contextual (maxDischargeDepth := 60) [wf_foldl, wf_foldl_fst, wf_foldl_snd, *]; done)
    | simp (maxDischargeDepth := 40)

@[simp] theorem State.evaluate_wf (s : State) (p : Nat) (d : Nat) (i : Nat) (te : Nat) (g : Nat) (pass : Nat) (hm : (s.except quiet).memWf = true) :
    (State.except (State.evaluate s p d i te g pass) quiet).memWf = true := by
  unfold State.evaluate
  try dsimp only
  (repeat' split) <;> simp_all (maxDischargeDepth := 40)

@[simp] theorem execEvaluate_wfs (p : Nat) (d : Nat) (i : Nat) (ecc : WordEcc) (s : State) (hm : (s.except quiet).memWf = true) :
    Result.wfs (execEvaluate p d i ecc s) := by
  unfold execEvaluate
  try dsimp only
  repeat' first
    | with_reducible assumption
    | (with_reducible refine snd_wf (by assumption) ?_)
    | (with_reducible refine wf_foldl _ (fun _ _ hu => ?_) _ _ ?_)
    | (with_reducible refine wf_foldl_fst _ (fun _ _ hu => ?_) _ _ ?_)
    | (with_reducible refine wf_foldl_snd _ (fun _ _ hu => ?_) _ _ ?_)
    | (with_reducible refine gated_wfs _ _ _ _ _ (by assumption) ?_)
    | (with_reducible refine gatedRead_wfs _ _ _ _ (by assumption) ?_)
    | (with_reducible refine busChecked_wfs _ _ _ _ (by assumption) ?_)
    | (with_reducible exact gate_drop_wf (by assumption) (by assumption))
    | (with_reducible refine drwCommand_wfs _ _ _ _ _ (by assumption) (fun _ _ hu => ?_))
    | split
    | (simp (maxDischargeDepth := 40) [hm]; done)
    | (with_reducible refine State.ldqDue_wf _ _ _ _ _ ?_)
    | (with_reducible refine State.evaluate_wf _ _ _ _ _ _ _ ?_)
    | (with_reducible refine State.sweep_wf _ _ _ _ ?_)
    | (with_reducible refine step_wf _ ?_)
    | (simp (maxDischargeDepth := 40) [*]; done)
    | (simp +contextual (maxDischargeDepth := 60) [wf_foldl, wf_foldl_fst, wf_foldl_snd, *]; done)
    | simp (maxDischargeDepth := 40)

@[simp] theorem State.sweep_wf (s : State) (p : Nat) (d : Nat) (i : Nat) (hm : (s.except quiet).memWf = true) :
    (State.except (State.sweep s p d i) quiet).memWf = true := by
  fun_cases State.sweep <;> simp (maxDischargeDepth := 40) [*]

@[simp] theorem execSweepVisit_wfs (p : Nat) (d : Nat) (ecc : WordEcc) (s : State) (hm : (s.except quiet).memWf = true) :
    Result.wfs (execSweepVisit p d ecc s) := by
  unfold execSweepVisit
  try dsimp only
  repeat' first
    | assumption
    | (with_reducible refine wf_foldl _ (fun _ _ _ => ?_) _ _ ?_)
    | (with_reducible refine wf_foldl_fst _ (fun _ _ _ => ?_) _ _ ?_)
    | (with_reducible refine wf_foldl_snd _ (fun _ _ _ => ?_) _ _ ?_)
    | split
    | (simp (maxDischargeDepth := 40) [*]; done)
    | simp (maxDischargeDepth := 40) [*]

@[simp] theorem State.catchupOne_wf (s : State) (p : Nat) (d : Nat) (outTime : Nat) (i : Nat) (hm : (s.except quiet).memWf = true) :
    (State.except (State.catchupOne s p d outTime i) quiet).memWf = true := by
  unfold State.catchupOne
  try dsimp only
  repeat' first
    | with_reducible assumption
    | (with_reducible refine snd_wf (by assumption) ?_)
    | (with_reducible refine wf_foldl _ (fun _ _ _ => ?_) _ _ ?_)
    | (with_reducible refine wf_foldl_fst _ (fun _ _ _ => ?_) _ _ ?_)
    | (with_reducible refine wf_foldl_snd _ (fun _ _ _ => ?_) _ _ ?_)
    | (with_reducible refine gated_wfs _ _ _ _ _ (by assumption) ?_)
    | (with_reducible refine gatedRead_wfs _ _ _ _ (by assumption) ?_)
    | (with_reducible refine busChecked_wfs _ _ _ _ (by assumption) ?_)
    | (with_reducible exact gate_drop_wf (by assumption) (by assumption))
    | (with_reducible refine drwCommand_wfs _ _ _ _ _ (by assumption) (fun _ _ _ => ?_))
    | split
    | (simp (maxDischargeDepth := 40) [*]; done)
    | (simp +contextual (maxDischargeDepth := 60) [wf_foldl, wf_foldl_fst, wf_foldl_snd, *]; done)
    | (simp (maxDischargeDepth := 40) only [done_wfs, answer_wfs, ite_wfs])

@[simp] theorem execCatchupPass_wfs (p : Nat) (d : Checked WordEcc) (s : State) (hm : (s.except quiet).memWf = true) :
    Result.wfs (execCatchupPass p d s) := by
  unfold execCatchupPass
  try dsimp only
  repeat' first
    | with_reducible assumption
    | (with_reducible refine snd_wf (by assumption) ?_)
    | (with_reducible refine wf_foldl _ (fun _ _ _ => ?_) _ _ ?_)
    | (with_reducible refine wf_foldl_fst _ (fun _ _ _ => ?_) _ _ ?_)
    | (with_reducible refine wf_foldl_snd _ (fun _ _ _ => ?_) _ _ ?_)
    | (with_reducible refine gated_wfs _ _ _ _ _ (by assumption) ?_)
    | (with_reducible refine gatedRead_wfs _ _ _ _ (by assumption) ?_)
    | (with_reducible refine busChecked_wfs _ _ _ _ (by assumption) ?_)
    | (with_reducible exact gate_drop_wf (by assumption) (by assumption))
    | (with_reducible refine drwCommand_wfs _ _ _ _ _ (by assumption) (fun _ _ _ => ?_))
    | split
    | (simp (maxDischargeDepth := 40) [*]; done)
    | (simp +contextual (maxDischargeDepth := 60) [wf_foldl, wf_foldl_fst, wf_foldl_snd, *]; done)
    | (simp (maxDischargeDepth := 40) only [done_wfs, answer_wfs, ite_wfs])

@[simp] theorem execReadNeuron_wfs (p : Nat) (d : Nat) (ecc : WordEcc) (s : State) (hm : (s.except quiet).memWf = true) :
    Result.wfs (execReadNeuron p d ecc s) := by
  unfold execReadNeuron
  try dsimp only
  repeat' first
    | with_reducible assumption
    | (with_reducible refine snd_wf (by assumption) ?_)
    | (with_reducible refine wf_foldl _ (fun _ _ hu => ?_) _ _ ?_)
    | (with_reducible refine wf_foldl_fst _ (fun _ _ hu => ?_) _ _ ?_)
    | (with_reducible refine wf_foldl_snd _ (fun _ _ hu => ?_) _ _ ?_)
    | (with_reducible refine gated_wfs _ _ _ _ _ (by assumption) ?_)
    | (with_reducible refine gatedRead_wfs _ _ _ _ (by assumption) ?_)
    | (with_reducible refine busChecked_wfs _ _ _ _ (by assumption) ?_)
    | (with_reducible exact gate_drop_wf (by assumption) (by assumption))
    | (with_reducible refine drwCommand_wfs _ _ _ _ _ (by assumption) (fun _ _ hu => ?_))
    | split
    | (simp (maxDischargeDepth := 40) [hm]; done)
    | (with_reducible refine State.sharedWrite_wf _ _ _ _ _ ?_)
    | (simp (maxDischargeDepth := 40) [*]; done)
    | (simp +contextual (maxDischargeDepth := 60) [wf_foldl, wf_foldl_fst, wf_foldl_snd, *]; done)
    | simp (maxDischargeDepth := 40)

@[simp] theorem execWriteNeuron_wfs (p : Nat) (d : Nat) (ecc : WordEcc) (s : State) (hm : (s.except quiet).memWf = true) :
    Result.wfs (execWriteNeuron p d ecc s) := by
  unfold execWriteNeuron
  try dsimp only
  repeat' first
    | with_reducible assumption
    | (with_reducible refine snd_wf (by assumption) ?_)
    | (with_reducible refine wf_foldl _ (fun _ _ hu => ?_) _ _ ?_)
    | (with_reducible refine wf_foldl_fst _ (fun _ _ hu => ?_) _ _ ?_)
    | (with_reducible refine wf_foldl_snd _ (fun _ _ hu => ?_) _ _ ?_)
    | (with_reducible refine gated_wfs _ _ _ _ _ (by assumption) ?_)
    | (with_reducible refine gatedRead_wfs _ _ _ _ (by assumption) ?_)
    | (with_reducible refine busChecked_wfs _ _ _ _ (by assumption) ?_)
    | (with_reducible exact gate_drop_wf (by assumption) (by assumption))
    | (with_reducible refine drwCommand_wfs _ _ _ _ _ (by assumption) (fun _ _ hu => ?_))
    | split
    | (simp (maxDischargeDepth := 40) [hm]; done)
    | (with_reducible refine State.store_wf _ _ _ _ ?_)
    | (with_reducible refine State.setNrec_wf _ _ _ _ _ ?_)
    | (with_reducible refine State.setOcc_wf _ _ _ _ _ _ ?_)
    | (simp (maxDischargeDepth := 40) [*]; done)
    | (simp +contextual (maxDischargeDepth := 60) [wf_foldl, wf_foldl_fst, wf_foldl_snd, *]; done)
    | simp (maxDischargeDepth := 40)

@[simp] theorem execCharge_wfs (p : Nat) (d : Checked WordEcc) (s : State) (hm : (s.except quiet).memWf = true) :
    Result.wfs (execCharge p d s) := by
  unfold execCharge
  try dsimp only
  repeat' first
    | with_reducible assumption
    | (with_reducible refine snd_wf (by assumption) ?_)
    | (with_reducible refine wf_foldl _ (fun _ _ hu => ?_) _ _ ?_)
    | (with_reducible refine wf_foldl_fst _ (fun _ _ hu => ?_) _ _ ?_)
    | (with_reducible refine wf_foldl_snd _ (fun _ _ hu => ?_) _ _ ?_)
    | (with_reducible refine gated_wfs _ _ _ _ _ (by assumption) ?_)
    | (with_reducible refine gatedRead_wfs _ _ _ _ (by assumption) ?_)
    | (with_reducible refine busChecked_wfs _ _ _ _ (by assumption) ?_)
    | (with_reducible exact gate_drop_wf (by assumption) (by assumption))
    | (with_reducible refine drwCommand_wfs _ _ _ _ _ (by assumption) (fun _ _ hu => ?_))
    | split
    | (simp (maxDischargeDepth := 40) [hm]; done)
    | (with_reducible refine State.land_wf _ _ _ ?_ (by assumption))
    | (simp (maxDischargeDepth := 40) [*]; done)
    | (simp +contextual (maxDischargeDepth := 60) [wf_foldl, wf_foldl_fst, wf_foldl_snd, *]; done)
    | simp (maxDischargeDepth := 40)

@[simp] theorem drwWinWrite_wf (p : Nat) (d : Nat) (ecc : WordEcc) (w : Word) (s : State) (hm : (s.except quiet).memWf = true) :
    (State.except (drwWinWrite p d ecc w s) quiet).memWf = true := by
  unfold drwWinWrite
  try dsimp only
  repeat' first
    | with_reducible assumption
    | (with_reducible refine snd_wf (by assumption) ?_)
    | (with_reducible refine wf_foldl _ (fun _ _ hu => ?_) _ _ ?_)
    | (with_reducible refine wf_foldl_fst _ (fun _ _ hu => ?_) _ _ ?_)
    | (with_reducible refine wf_foldl_snd _ (fun _ _ hu => ?_) _ _ ?_)
    | (with_reducible refine gated_wfs _ _ _ _ _ (by assumption) ?_)
    | (with_reducible refine gatedRead_wfs _ _ _ _ (by assumption) ?_)
    | (with_reducible refine busChecked_wfs _ _ _ _ (by assumption) ?_)
    | (with_reducible exact gate_drop_wf (by assumption) (by assumption))
    | (with_reducible refine drwCommand_wfs _ _ _ _ _ (by assumption) (fun _ _ hu => ?_))
    | split
    | (simp (maxDischargeDepth := 40) [hm]; done)
    | (with_reducible refine State.store_wf _ _ _ _ ?_)
    | (with_reducible refine State.setNrec_wf _ _ _ _ _ ?_)
    | (simp (maxDischargeDepth := 40) [*]; done)
    | (simp +contextual (maxDischargeDepth := 60) [wf_foldl, wf_foldl_fst, wf_foldl_snd, *]; done)
    | simp (maxDischargeDepth := 40)

@[simp] theorem execDrwWinData_wfs (r : Req) (p : Nat) (d : Nat) (w : Option Word) (ecc : WordEcc) (s : State) (hm : (s.except quiet).memWf = true) :
    Result.wfs (execDrwWinData r p d w ecc s) := by
  unfold execDrwWinData
  try dsimp only
  repeat' first
    | assumption
    | (with_reducible refine snd_wf (by assumption) ?_)
    | (with_reducible refine wf_foldl _ (fun _ _ _ => ?_) _ _ ?_)
    | (with_reducible refine wf_foldl_fst _ (fun _ _ _ => ?_) _ _ ?_)
    | (with_reducible refine wf_foldl_snd _ (fun _ _ _ => ?_) _ _ ?_)
    | (with_reducible refine gated_wfs _ _ _ _ _ (by assumption) ?_)
    | (with_reducible refine gatedRead_wfs _ _ _ _ (by assumption) ?_)
    | (with_reducible refine busChecked_wfs _ _ _ _ (by assumption) ?_)
    | exact gate_drop_wf (by assumption) (by assumption)
    | (with_reducible refine drwCommand_wfs _ _ _ _ _ (by assumption) (fun _ _ _ => ?_))
    | split
    | (simp (maxDischargeDepth := 40) [*]; done)
    | simp (maxDischargeDepth := 40) [*]

end Sys2Proof.Machine
end

