-- ==== Sys2Proof/Laws/MemExpander.lean ====
section
/-!
SUPPORT. MemExpander.lean: every operation of Expander.lean that writes a byte memory keeps the memories in canonical form.
-/

namespace Sys2Proof.Machine

@[simp] theorem State.statsWrite_wf (s : State) (p : Nat) (hm : (s.except quiet).memWf = true) :
    (State.except (State.statsWrite s p) quiet).memWf = true := by
  unfold State.statsWrite
  try dsimp only
  repeat' first
    | assumption
    | (with_reducible refine wf_foldl _ (fun _ _ _ => ?_) _ _ ?_)
    | (with_reducible refine wf_foldl_fst _ (fun _ _ _ => ?_) _ _ ?_)
    | (with_reducible refine wf_foldl_snd _ (fun _ _ _ => ?_) _ _ ?_)
    | split
    | (simp (maxDischargeDepth := 40) [*]; done)
    | simp (maxDischargeDepth := 40) [*]

@[simp] theorem State.learnPut_wf (s : State) (p : Nat) (a : Nat) (n : Nat) (v : Nat) (hm : (s.except quiet).memWf = true) :
    (State.except (State.learnPut s p a n v) quiet).memWf = true := by
  simp (maxDischargeDepth := 40) [State.learnPut, *]

@[simp] theorem State.putWord_wf (s : State) (p : Nat) (axon : Nat) (line : Nat) (w : Nat) (v : Nat) (hm : (s.except quiet).memWf = true) :
    (State.except (State.putWord s p axon line w v) quiet).memWf = true := by
  unfold State.putWord
  try dsimp only
  repeat' first
    | assumption
    | (with_reducible refine wf_foldl _ (fun _ _ _ => ?_) _ _ ?_)
    | (with_reducible refine wf_foldl_fst _ (fun _ _ _ => ?_) _ _ ?_)
    | (with_reducible refine wf_foldl_snd _ (fun _ _ _ => ?_) _ _ ?_)
    | split
    | (simp (maxDischargeDepth := 40) [*]; done)
    | simp (maxDischargeDepth := 40) [*]

@[simp] theorem State.putTag_wf (s : State) (p : Nat) (axon : Nat) (line : Nat) (j : Nat) (v : Nat) (hm : (s.except quiet).memWf = true) :
    (State.except (State.putTag s p axon line j v) quiet).memWf = true := by
  unfold State.putTag
  try dsimp only
  repeat' first
    | assumption
    | (with_reducible refine wf_foldl _ (fun _ _ _ => ?_) _ _ ?_)
    | (with_reducible refine wf_foldl_fst _ (fun _ _ _ => ?_) _ _ ?_)
    | (with_reducible refine wf_foldl_snd _ (fun _ _ _ => ?_) _ _ ?_)
    | split
    | (simp (maxDischargeDepth := 40) [*]; done)
    | simp (maxDischargeDepth := 40) [*]

@[simp] theorem State.addVacant_wf (s : State) (p : Nat) (axon : Nat) (line : Nat) (up : Bool) (hm : (s.except quiet).memWf = true) :
    (State.except (State.addVacant s p axon line up) quiet).memWf = true := by
  unfold State.addVacant
  try dsimp only
  repeat' first
    | assumption
    | (with_reducible refine wf_foldl _ (fun _ _ _ => ?_) _ _ ?_)
    | (with_reducible refine wf_foldl_fst _ (fun _ _ _ => ?_) _ _ ?_)
    | (with_reducible refine wf_foldl_snd _ (fun _ _ _ => ?_) _ _ ?_)
    | split
    | (simp (maxDischargeDepth := 40) [*]; done)
    | simp (maxDischargeDepth := 40) [*]

@[simp] theorem State.learnPutEnt_wf (s : State) (p : Nat) (ev : Evt) (line : Nat) (e : RowEnt) (code : Nat) (tag : Nat) (tag' : Nat) (hm : (s.except quiet).memWf = true) :
    (State.except (State.learnPutEnt s p ev line e code tag tag') quiet).memWf = true := by
  unfold State.learnPutEnt
  try dsimp only
  repeat' first
    | assumption
    | (with_reducible refine wf_foldl _ (fun _ _ _ => ?_) _ _ ?_)
    | (with_reducible refine wf_foldl_fst _ (fun _ _ _ => ?_) _ _ ?_)
    | (with_reducible refine wf_foldl_snd _ (fun _ _ _ => ?_) _ _ ?_)
    | split
    | (simp (maxDischargeDepth := 40) [*]; done)
    | simp (maxDischargeDepth := 40) [*]

@[simp] theorem State.learn_wf (s : State) (p : Nat) (ev : Evt) (h : RowHdr) (line : Nat) (e : RowEnt) (hm : (s.except quiet).memWf = true) :
    (State.except (State.learn s p ev h line e) quiet).memWf = true := by
  unfold State.learn
  try dsimp only
  repeat' first
    | assumption
    | (with_reducible refine wf_foldl _ (fun _ _ _ => ?_) _ _ ?_)
    | (with_reducible refine wf_foldl_fst _ (fun _ _ _ => ?_) _ _ ?_)
    | (with_reducible refine wf_foldl_snd _ (fun _ _ _ => ?_) _ _ ?_)
    | split
    | (simp (maxDischargeDepth := 40) [*]; done)
    | simp (maxDischargeDepth := 40) [*]

@[simp] theorem State.create_wf (s : State) (p : Nat) (ev : Evt) (line : Nat) (hm : (s.except quiet).memWf = true) :
    (State.except (State.create s p ev line) quiet).memWf = true := by
  unfold State.create
  try dsimp only
  repeat' first
    | assumption
    | (with_reducible refine wf_foldl _ (fun _ _ _ => ?_) _ _ ?_)
    | (with_reducible refine wf_foldl_fst _ (fun _ _ _ => ?_) _ _ ?_)
    | (with_reducible refine wf_foldl_snd _ (fun _ _ _ => ?_) _ _ ?_)
    | split
    | (simp (maxDischargeDepth := 40) [*]; done)
    | simp (maxDischargeDepth := 40) [*]

@[simp] theorem State.learnRow_wf (s : State) (p : Nat) (ev : Evt) (h : RowHdr) (ents : List RowEnt) (line : Nat) (post : StoreEcc) (hm : (s.except quiet).memWf = true) :
    (State.except (State.learnRow s p ev h ents line post) quiet).memWf = true := by
  unfold State.learnRow
  try dsimp only
  repeat' first
    | with_reducible assumption
    | (with_reducible refine snd_wf (by assumption) ?_)
    | (with_reducible refine wf_foldl _ (fun _ _ hu => ?_) _ _ ?_)
    | (with_reducible refine wf_foldl_fst _ (fun _ _ hu => ?_) _ _ ?_)
    | (with_reducible refine wf_foldl_snd _ (fun _ _ hu => ?_) _ _ ?_)
    | (with_reducible refine gated_wfs _ _ _ _ _ (by assumption) ?_)
    | (with_reducible refine gatedRead_wfs _ _ _ _ (by assumption) ?_)
    | (with_reducible refine busChecked_wfs _ _ _ _ (by assumption) ?_)
    | (with_reducible exact gate_drop_wf (by assumption) (by assumption))
    | (with_reducible refine drwCommand_wfs _ _ _ _ _ (by assumption) (fun _ _ hu => ?_))
    | split
    | (simp (maxDischargeDepth := 40) [hm]; done)
    | (with_reducible refine State.learn_wf _ _ _ _ _ _ ?_)
    | (with_reducible refine State.create_wf _ _ _ _ ?_)
    | (simp (maxDischargeDepth := 40) [*]; done)
    | (simp +contextual (maxDischargeDepth := 60) [wf_foldl, wf_foldl_fst, wf_foldl_snd, *]; done)
    | simp (maxDischargeDepth := 40)

@[simp] theorem State.walk_wf (s : State) (p : Nat) (ev : Evt) (bad : List Nat) (post : StoreEcc) (hm : (s.except quiet).memWf = true) :
    (State.except (State.walk s p ev bad post) quiet).memWf = true := by
  unfold State.walk
  try dsimp only
  repeat' first
    | with_reducible assumption
    | (with_reducible refine snd_wf (by assumption) ?_)
    | (with_reducible refine wf_foldl _ (fun _ _ _ => ?_) _ _ ?_)
    | (with_reducible refine wf_foldl_fst _ (fun _ _ _ => ?_) _ _ ?_)
    | (with_reducible refine wf_foldl_snd _ (fun _ _ _ => ?_) _ _ ?_)
    | (with_reducible refine gated_wfs _ _ _ _ _ (by assumption) ?_)
    | (with_reducible refine gatedRead_wfs _ _ _ _ (by assumption) ?_)
    | (with_reducible refine busChecked_wfs _ _ _ _ (by assumption) ?_)
    | (with_reducible exact gate_drop_wf (by assumption) (by assumption))
    | (with_reducible refine drwCommand_wfs _ _ _ _ _ (by assumption) (fun _ _ _ => ?_))
    | split
    | (simp (maxDischargeDepth := 40) [*]; done)
    | (simp +contextual (maxDischargeDepth := 60) [wf_foldl, wf_foldl_fst, wf_foldl_snd, *]; done)
    | (simp (maxDischargeDepth := 40) only [done_wfs, answer_wfs, ite_wfs])

@[simp] theorem State.walkFrom_wf (s : State) (p : Nat) (ev : Evt) (plastic : Bool) (bad : List Nat) (post : StoreEcc) (x1 : Nat) (x2 : Nat) (hm : (s.except quiet).memWf = true) :
    (State.except (State.walkFrom s p ev plastic bad post x1 x2) quiet).memWf = true := by
  induction x1 generalizing s x2 with
  | zero => exact hm
  | succ n ih =>
    unfold State.walkFrom
    dsimp only
    repeat' first
      | with_reducible assumption
      | (with_reducible refine snd_wf (by assumption) ?_)
      | (with_reducible refine wf_foldl _ (fun _ _ hu => ?_) _ _ ?_)
      | (with_reducible refine wf_foldl_fst _ (fun _ _ hu => ?_) _ _ ?_)
      | (with_reducible refine wf_foldl_snd _ (fun _ _ hu => ?_) _ _ ?_)
      | (with_reducible refine gated_wfs _ _ _ _ _ (by assumption) ?_)
      | (with_reducible refine gatedRead_wfs _ _ _ _ (by assumption) ?_)
      | (with_reducible refine busChecked_wfs _ _ _ _ (by assumption) ?_)
      | (with_reducible exact gate_drop_wf (by assumption) (by assumption))
      | (with_reducible refine drwCommand_wfs _ _ _ _ _ (by assumption) (fun _ _ hu => ?_))
      | (with_reducible refine ih _ _ ?_)
      | split
      | (simp (maxDischargeDepth := 40) [hm]; done)
      | (simp (maxDischargeDepth := 40) [*]; done)
      | (simp +contextual (maxDischargeDepth := 60) [wf_foldl, wf_foldl_fst, wf_foldl_snd, *]; done)
      | simp (maxDischargeDepth := 40)

@[simp] theorem State.walkStart_wf (s : State) (p : Nat) (ev : Evt) (plastic : Bool) (post : StoreEcc) (hm : (s.except quiet).memWf = true) :
    (State.except (State.walkStart s p ev plastic post) quiet).memWf = true := by
  unfold State.walkStart
  try dsimp only
  repeat' first
    | with_reducible assumption
    | (with_reducible refine snd_wf (by assumption) ?_)
    | (with_reducible refine wf_foldl _ (fun _ _ hu => ?_) _ _ ?_)
    | (with_reducible refine wf_foldl_fst _ (fun _ _ hu => ?_) _ _ ?_)
    | (with_reducible refine wf_foldl_snd _ (fun _ _ hu => ?_) _ _ ?_)
    | (with_reducible refine gated_wfs _ _ _ _ _ (by assumption) ?_)
    | (with_reducible refine gatedRead_wfs _ _ _ _ (by assumption) ?_)
    | (with_reducible refine busChecked_wfs _ _ _ _ (by assumption) ?_)
    | (with_reducible exact gate_drop_wf (by assumption) (by assumption))
    | (with_reducible refine drwCommand_wfs _ _ _ _ _ (by assumption) (fun _ _ hu => ?_))
    | split
    | (simp (maxDischargeDepth := 40) [hm]; done)
    | (with_reducible refine State.walkFrom_wf _ _ _ _ _ _ _ _ ?_)
    | (simp (maxDischargeDepth := 40) [*]; done)
    | (simp +contextual (maxDischargeDepth := 60) [wf_foldl, wf_foldl_fst, wf_foldl_snd, *]; done)
    | simp (maxDischargeDepth := 40)

@[simp] theorem State.postFree_wf (s : State) (p : Nat) (hm : (s.except quiet).memWf = true) :
    (State.except (State.postFree s p) quiet).memWf = true := by
  unfold State.postFree
  try dsimp only
  repeat' first
    | with_reducible assumption
    | (with_reducible refine snd_wf (by assumption) ?_)
    | (with_reducible refine wf_foldl _ (fun _ _ _ => ?_) _ _ ?_)
    | (with_reducible refine wf_foldl_fst _ (fun _ _ _ => ?_) _ _ ?_)
    | (with_reducible refine wf_foldl_snd _ (fun _ _ _ => ?_) _ _ ?_)
    | (with_reducible refine gated_wfs _ _ _ _ _ (by assumption) ?_)
    | (with_reducible refine gatedRead_wfs _ _ _ _ (by assumption) ?_)
    | (with_reducible refine busChecked_wfs _ _ _ _ (by assumption) ?_)
    | (with_reducible exact gate_drop_wf (by assumption) (by assumption))
    | (with_reducible refine drwCommand_wfs _ _ _ _ _ (by assumption) (fun _ _ _ => ?_))
    | split
    | (simp (maxDischargeDepth := 40) [*]; done)
    | (simp +contextual (maxDischargeDepth := 60) [wf_foldl, wf_foldl_fst, wf_foldl_snd, *]; done)
    | (simp (maxDischargeDepth := 40) only [done_wfs, answer_wfs, ite_wfs])

@[simp] theorem State.fillLines_wf (s : State) (p : Nat) (bad : List Nat) (ls : List Nat) (hm : (s.except quiet).memWf = true) :
    (State.except (State.fillLines s p bad ls).2.2 quiet).memWf = true := by
  unfold State.fillLines
  refine wf_foldl_thd _ (fun x a hx => ?_) _ _ hm
  dsimp only
  split
  · simp [hx]
  · exact State.readLine_wf _ _ _ (by simp [hx])

@[simp] theorem execRowLineFill_wfs (p : Nat) (lines : FillReads) (s : State) (hm : (s.except quiet).memWf = true) :
    Result.wfs (execRowLineFill p lines s) := by
  unfold execRowLineFill
  try dsimp only
  repeat' first
    | with_reducible assumption
    | (with_reducible refine snd_wf (by assumption) ?_)
    | (with_reducible refine wf_foldl _ (fun _ _ hu => ?_) _ _ ?_)
    | (with_reducible refine wf_foldl_fst _ (fun _ _ hu => ?_) _ _ ?_)
    | (with_reducible refine wf_foldl_snd _ (fun _ _ hu => ?_) _ _ ?_)
    | (with_reducible refine gated_wfs _ _ _ _ _ (by assumption) ?_)
    | (with_reducible refine gatedRead_wfs _ _ _ _ (by assumption) ?_)
    | (with_reducible refine busChecked_wfs _ _ _ _ (by assumption) ?_)
    | (with_reducible exact gate_drop_wf (by assumption) (by assumption))
    | (with_reducible refine drwCommand_wfs _ _ _ _ _ (by assumption) (fun _ _ hu => ?_))
    | split
    | (simp (maxDischargeDepth := 40) [hm]; done)
    | (with_reducible refine State.walkFrom_wf _ _ _ _ _ _ _ ?_)
    | (simp (maxDischargeDepth := 40) [*]; done)
    | (simp +contextual (maxDischargeDepth := 60) [wf_foldl, wf_foldl_fst, wf_foldl_snd, *]; done)
    | simp (maxDischargeDepth := 40)

@[simp] theorem State.handleEvt_wf (s : State) (p : Nat) (ev : Evt) (hm : (s.except quiet).memWf = true) :
    (State.except (State.handleEvt s p ev) quiet).memWf = true := by
  fun_cases State.handleEvt <;> simp (maxDischargeDepth := 40) [*]

@[simp] theorem execExpanderEvent_wfs (p : Nat) (mesh : Bool) (ecc : WordEcc) (s : State) (hm : (s.except quiet).memWf = true) :
    Result.wfs (execExpanderEvent p mesh ecc s) := by
  fun_cases execExpanderEvent <;> simp (maxDischargeDepth := 40) [*]

@[simp] theorem execPlasticEventWalk_wfs (p : Nat) (ecc : WalkEcc) (s : State) (hm : (s.except quiet).memWf = true) :
    Result.wfs (execPlasticEventWalk p ecc s) := by
  fun_cases execPlasticEventWalk <;> simp (maxDischargeDepth := 40) [*]

@[simp] theorem execRewardProcess_wfs (p : Nat) (s : State) (hm : (s.except quiet).memWf = true) :
    Result.wfs (execRewardProcess p s) := by
  fun_cases execRewardProcess <;> simp (maxDischargeDepth := 40) [*]

@[simp] theorem State.buildRow_wf (s : State) (old : Nat) (line : Nat) (nent' : Nat) (hm : (s.except quiet).memWf = true) :
    (State.except (State.buildRow s old line nent') quiet).memWf = true := by
  unfold State.buildRow
  try dsimp only
  repeat' first
    | with_reducible assumption
    | (with_reducible refine snd_wf (by assumption) ?_)
    | (with_reducible refine wf_foldl _ (fun _ _ _ => ?_) _ _ ?_)
    | (with_reducible refine wf_foldl_fst _ (fun _ _ _ => ?_) _ _ ?_)
    | (with_reducible refine wf_foldl_snd _ (fun _ _ _ => ?_) _ _ ?_)
    | (with_reducible refine gated_wfs _ _ _ _ _ (by assumption) ?_)
    | (with_reducible refine gatedRead_wfs _ _ _ _ (by assumption) ?_)
    | (with_reducible refine busChecked_wfs _ _ _ _ (by assumption) ?_)
    | (with_reducible exact gate_drop_wf (by assumption) (by assumption))
    | (with_reducible refine drwCommand_wfs _ _ _ _ _ (by assumption) (fun _ _ _ => ?_))
    | split
    | (simp (maxDischargeDepth := 40) [*]; done)
    | (simp +contextual (maxDischargeDepth := 60) [wf_foldl, wf_foldl_fst, wf_foldl_snd, *]; done)
    | (simp (maxDischargeDepth := 40) only [done_wfs, answer_wfs, ite_wfs])

@[simp] theorem execRelocationCopy_wfs (p : Nat) (axon : Nat) (bad : List Nat) (s : State) (hm : (s.except quiet).memWf = true) :
    Result.wfs (execRelocationCopy p axon bad s) := by
  unfold execRelocationCopy
  try dsimp only
  repeat' first
    | assumption
    | (with_reducible refine wf_foldl _ (fun _ _ _ => ?_) _ _ ?_)
    | (with_reducible refine wf_foldl_fst _ (fun _ _ _ => ?_) _ _ ?_)
    | (with_reducible refine wf_foldl_snd _ (fun _ _ _ => ?_) _ _ ?_)
    | split
    | (simp (maxDischargeDepth := 40) [*]; done)
    | simp (maxDischargeDepth := 40) [*]

@[simp] theorem execRelocationInstall_wfs (p : Nat) (axon : Nat) (s : State) (hm : (s.except quiet).memWf = true) :
    Result.wfs (execRelocationInstall p axon s) := by
  unfold execRelocationInstall
  try dsimp only
  repeat' first
    | assumption
    | (with_reducible refine wf_foldl _ (fun _ _ _ => ?_) _ _ ?_)
    | (with_reducible refine wf_foldl_fst _ (fun _ _ _ => ?_) _ _ ?_)
    | (with_reducible refine wf_foldl_snd _ (fun _ _ _ => ?_) _ _ ?_)
    | split
    | (simp (maxDischargeDepth := 40) [*]; done)
    | simp (maxDischargeDepth := 40) [*]

@[simp] theorem State.markTag_wf (s : State) (p : Nat) (tc : Nat) (axon : Nat) (h : RowHdr) (line : Nat) (post : StoreEcc) (e : RowEnt) (hm : (s.except quiet).memWf = true) :
    (State.except (State.markTag s p tc axon h line post e) quiet).memWf = true := by
  unfold State.markTag
  try dsimp only
  repeat' first
    | with_reducible assumption
    | (with_reducible refine snd_wf (by assumption) ?_)
    | (with_reducible refine wf_foldl _ (fun _ _ hu => ?_) _ _ ?_)
    | (with_reducible refine wf_foldl_fst _ (fun _ _ hu => ?_) _ _ ?_)
    | (with_reducible refine wf_foldl_snd _ (fun _ _ hu => ?_) _ _ ?_)
    | (with_reducible refine gated_wfs _ _ _ _ _ (by assumption) ?_)
    | (with_reducible refine gatedRead_wfs _ _ _ _ (by assumption) ?_)
    | (with_reducible refine busChecked_wfs _ _ _ _ (by assumption) ?_)
    | (with_reducible exact gate_drop_wf (by assumption) (by assumption))
    | (with_reducible refine drwCommand_wfs _ _ _ _ _ (by assumption) (fun _ _ hu => ?_))
    | split
    | (simp (maxDischargeDepth := 40) [hm]; done)
    | (with_reducible refine State.putWord_wf _ _ _ _ _ _ ?_)
    | (with_reducible refine State.putTag_wf _ _ _ _ _ _ ?_)
    | (simp (maxDischargeDepth := 40) [*]; done)
    | (simp +contextual (maxDischargeDepth := 60) [wf_foldl, wf_foldl_fst, wf_foldl_snd, *]; done)
    | simp (maxDischargeDepth := 40)

@[simp] theorem execMarkerProcess_wfs (c : Checked StoreEcc) (s : State) (hm : (s.except quiet).memWf = true) :
    Result.wfs (execMarkerProcess c s) := by
  unfold execMarkerProcess
  try dsimp only
  repeat' first
    | with_reducible assumption
    | (with_reducible refine snd_wf (by assumption) ?_)
    | (with_reducible refine wf_foldl _ (fun _ _ _ => ?_) _ _ ?_)
    | (with_reducible refine wf_foldl_fst _ (fun _ _ _ => ?_) _ _ ?_)
    | (with_reducible refine wf_foldl_snd _ (fun _ _ _ => ?_) _ _ ?_)
    | (with_reducible refine gated_wfs _ _ _ _ _ (by assumption) ?_)
    | (with_reducible refine gatedRead_wfs _ _ _ _ (by assumption) ?_)
    | (with_reducible refine busChecked_wfs _ _ _ _ (by assumption) ?_)
    | (with_reducible exact gate_drop_wf (by assumption) (by assumption))
    | (with_reducible refine drwCommand_wfs _ _ _ _ _ (by assumption) (fun _ _ _ => ?_))
    | split
    | (simp (maxDischargeDepth := 40) [*]; done)
    | (simp +contextual (maxDischargeDepth := 60) [wf_foldl, wf_foldl_fst, wf_foldl_snd, *]; done)
    | (simp (maxDischargeDepth := 40) only [done_wfs, answer_wfs, ite_wfs])

end Sys2Proof.Machine
end

