-- ==== Sys2Proof/Laws/MemHorizon.lean ====
section
/-!
SUPPORT. MemHorizon.lean: every operation of Horizon.lean that writes a byte memory keeps the memories in canonical form.
-/

namespace Sys2Proof.Machine

@[simp] theorem State.ckptTake_wf (s : State) (p : Nat) (n : Nat) (t : Nat) (hm : (s.except quiet).memWf = true) :
    (State.except (State.ckptTake s p n t) quiet).memWf = true := by
  simp (maxDischargeDepth := 40) [State.ckptTake, *]

@[simp] theorem State.ckptDue_wf (s : State) (p : Nat) (g : Nat) (hm : (s.except quiet).memWf = true) :
    (State.except (State.ckptDue s p g) quiet).memWf = true := by
  fun_cases State.ckptDue <;> simp (maxDischargeDepth := 40) [*]

@[simp] theorem State.stepDone_wf (s : State) (p : Nat) (g : Nat) (ecc : StoreEcc) (hm : (s.except quiet).memWf = true) :
    (State.except (State.stepDone s p g ecc) quiet).memWf = true := by
  simp (maxDischargeDepth := 40) [State.stepDone, *]

@[simp] theorem execStepStart_wfs (c : Checked StoreEcc) (s : State) (hm : (s.except quiet).memWf = true) :
    Result.wfs (execStepStart c s) := by
  simp (maxDischargeDepth := 40) [execStepStart, *]

@[simp] theorem execStepComplete_wfs (c : Checked StoreEcc) (s : State) (hm : (s.except quiet).memWf = true) :
    Result.wfs (execStepComplete c s) := by
  unfold execStepComplete
  try dsimp only
  repeat' first
    | assumption
    | (with_reducible refine wf_foldl _ (fun _ _ _ => ?_) _ _ ?_)
    | (with_reducible refine wf_foldl_fst _ (fun _ _ _ => ?_) _ _ ?_)
    | (with_reducible refine wf_foldl_snd _ (fun _ _ _ => ?_) _ _ ?_)
    | split
    | (simp (maxDischargeDepth := 40) [*]; done)
    | simp (maxDischargeDepth := 40) [*]

end Sys2Proof.Machine
end

