-- ==== Sys2Proof/Laws/MemQueues.lean ====
section
/-!
SUPPORT. MemQueues.lean: every operation of Queues.lean that writes a byte memory keeps the memories in canonical form.
-/

namespace Sys2Proof.Machine

theorem State.launch1_wf (s : State) (e unit : Nat) (h : (s.except quiet).memWf = true) {t : State} (ht : State.launch1 s e unit = .leaves t) :
    (t.except quiet).memWf = true := by
  rw [State.launch1_except (W := quiet) s e unit (by simp) (by simp) (by simp) (by simp) (by simp) ht]
  exact h

theorem State.sendEnds_wf (s : State) (e : Nat) (x : Send) (st : Nat) (ring : State → Nat → Nat → State)
    (hr : ∀ u a b, (u.except quiet).memWf = true → ((ring u a b).except quiet).memWf = true) (h : (s.except quiet).memWf = true) :
    ((State.sendEnds s e x st ring).except quiet).memWf = true := by
  unfold State.sendEnds
  dsimp only
  repeat' first
    | (with_reducible refine hr _ _ _ ?_)
    | split
    | (simp [h]; done)
    | (simp only [except_ite, State.setQm_except, mem_quiet]; split <;> simp [h])

theorem State.launchWith_wf (ring : State → Nat → Nat → State)
    (hr : ∀ u a b, (u.except quiet).memWf = true → ((ring u a b).except quiet).memWf = true) (e unit n : Nat) (s : State)
    (h : (s.except quiet).memWf = true) : ((State.launchWith ring e unit n s).except quiet).memWf = true := by
  induction n generalizing s with
  | zero => exact h
  | succ n ih =>
    unfold State.launchWith
    split
    · next t ht => exact State.launch1_wf _ _ _ h ht
    · exact h
    · exact ih _ (State.sendEnds_wf _ _ _ _ _ hr h)

theorem State.qWrite_wf (s : State) (p q m : Nat) (h : (s.except quiet).memWf = true) :
    (∀ t, (State.qWrite s p q m).1 = some t → (t.except quiet).memWf = true) ∧ ((State.qWrite s p q m).2.except quiet).memWf = true := by
  unfold State.qWrite
  dsimp only
  (repeat' split) <;> simp (maxDischargeDepth := 40) [h]

@[simp] theorem State.offerWith_wf (s : State) (p : Nat) (qid : Nat) (m : Nat) (jrn : Bool) (hm : (s.except quiet).memWf = true) :
    (State.except (State.offerWith s p qid m jrn).2 quiet).memWf = true := by
  unfold State.offerWith
  dsimp only
  have hr := State.qWrite_wf s p (qid % 4096) m hm
  generalize s.qWrite p (qid % 4096) m = r at hr ⊢
  obtain ⟨o, u⟩ := r
  cases o with
  | none =>
    have h2 := hr.2
    (repeat' split) <;> simp_all
  | some t0 =>
    have ht := hr.1 t0 rfl
    (repeat' split) <;> simp_all

@[simp] theorem State.offer_wf (s : State) (p : Nat) (qid : Nat) (m : Nat) (hm : (s.except quiet).memWf = true) :
    (State.except (State.offer s p qid m).2 quiet).memWf = true := by
  simp [State.offer, *]

@[simp] theorem execOffer_wfs (p : Nat) (unit : Option Nat) (ecc : EccRead) (s : State) (hm : (s.except quiet).memWf = true) :
    Result.wfs (execOffer p unit ecc s) := by
  unfold execOffer
  try dsimp only
  repeat' first
    | assumption
    | (with_reducible refine wf_foldl _ (fun _ _ _ => ?_) _ _ ?_)
    | (with_reducible refine wf_foldl_fst _ (fun _ _ _ => ?_) _ _ ?_)
    | (with_reducible refine wf_foldl_snd _ (fun _ _ _ => ?_) _ _ ?_)
    | split
    | (simp (maxDischargeDepth := 40) [*]; done)
    | simp (maxDischargeDepth := 40) [*]

@[simp] theorem State.relaunch_wf (s : State) (e : Nat) (unit : Nat) (hm : (s.except quiet).memWf = true) :
    (State.except (State.relaunch s e unit) quiet).memWf = true := by
  exact State.launchWith_wf _ (fun _ _ _ hu => ringTakes_wf _ _ _ hu) _ _ _ _ hm

@[simp] theorem State.sendFull_wf (s : State) (e : Nat) (x : Send) (hm : (s.except quiet).memWf = true) :
    (State.except (State.sendFull s e x) quiet).memWf = true := by
  unfold State.sendFull
  try dsimp only
  repeat' first
    | with_reducible assumption
    | (with_reducible refine snd_wf (by assumption) ?_)
    | (with_reducible refine wf_foldl _ (fun _ _ hu => ?_) _ _ ?_)
    | (with_reducible refine wf_foldl_fst _ (fun _ _ hu => ?_) _ _ ?_)
    | (with_reducible refine wf_foldl_snd _ (fun _ _ hu => ?_) _ _ ?_)
    | (with_reducible refine gated_wfs _ _ _ _ _ (by assumption) ?_)
    | (with_reducible refine gatedRead_wfs _ _ _ _ (by assumption) ?_)
    | (with_reducible refine busChecked_wfs _ _ _ _ (by assumption) ?_)
    | (with_reducible exact gate_drop_wf (by assumption) (by assumption))
    | (with_reducible refine drwCommand_wfs _ _ _ _ _ (by assumption) (fun _ _ hu => ?_))
    | (with_reducible refine State.sendEnds_wf _ _ _ _ _ (fun _ _ _ hu => ringTakes_wf _ _ _ hu) ?_)
    | split
    | (simp (maxDischargeDepth := 40) [hm]; done)
    | (with_reducible refine State.relaunch_wf _ _ _ ?_)
    | (with_reducible refine ringTakes_wf _ _ _ ?_)
    | (simp (maxDischargeDepth := 40) [*]; done)
    | (simp +contextual (maxDischargeDepth := 60) [wf_foldl, wf_foldl_fst, wf_foldl_snd, *]; done)
    | simp (maxDischargeDepth := 40)

@[simp] theorem execSendAnswer_wfs (i : Nat) (s : State) (hm : (s.except quiet).memWf = true) :
    Result.wfs (execSendAnswer i s) := by
  unfold execSendAnswer
  try dsimp only
  repeat' first
    | with_reducible assumption
    | (with_reducible refine snd_wf (by assumption) ?_)
    | (with_reducible refine wf_foldl _ (fun _ _ hu => ?_) _ _ ?_)
    | (with_reducible refine wf_foldl_fst _ (fun _ _ hu => ?_) _ _ ?_)
    | (with_reducible refine wf_foldl_snd _ (fun _ _ hu => ?_) _ _ ?_)
    | (with_reducible refine gated_wfs _ _ _ _ _ (by assumption) ?_)
    | (with_reducible refine gatedRead_wfs _ _ _ _ (by assumption) ?_)
    | (with_reducible refine busChecked_wfs _ _ _ _ (by assumption) ?_)
    | (with_reducible exact gate_drop_wf (by assumption) (by assumption))
    | (with_reducible refine drwCommand_wfs _ _ _ _ _ (by assumption) (fun _ _ hu => ?_))
    | (with_reducible refine State.sendEnds_wf _ _ _ _ _ (fun _ _ _ hu => ringTakes_wf _ _ _ hu) ?_)
    | split
    | (simp (maxDischargeDepth := 40) [hm]; done)
    | (with_reducible refine State.sendFull_wf _ _ _ ?_)
    | (with_reducible refine State.relaunch_wf _ _ _ ?_)
    | (with_reducible refine ringTakes_wf _ _ _ ?_)
    | (simp (maxDischargeDepth := 40) [*]; done)
    | (simp +contextual (maxDischargeDepth := 60) [wf_foldl, wf_foldl_fst, wf_foldl_snd, *]; done)
    | simp (maxDischargeDepth := 40)

@[simp] theorem execSendRetry_wfs (e : Nat) (unit : Nat) (s : State) (hm : (s.except quiet).memWf = true) :
    Result.wfs (execSendRetry e unit s) := by
  unfold execSendRetry
  try dsimp only
  repeat' first
    | assumption
    | (with_reducible refine wf_foldl _ (fun _ _ _ => ?_) _ _ ?_)
    | (with_reducible refine wf_foldl_fst _ (fun _ _ _ => ?_) _ _ ?_)
    | (with_reducible refine wf_foldl_snd _ (fun _ _ _ => ?_) _ _ ?_)
    | split
    | (simp (maxDischargeDepth := 40) [*]; done)
    | simp (maxDischargeDepth := 40) [*]

end Sys2Proof.Machine
end

