-- ==== Sys2Proof/Laws/MemTrestle.lean ====
section
/-!
SUPPORT. MemTrestle.lean: every operation of Trestle.lean that writes a byte memory keeps the memories in canonical form.
-/

namespace Sys2Proof.Machine

theorem trsStart_wfs (p t : Nat) (ecc : WordEcc) (f : Nat → Bool) (s : State) (k : TDesc → State → State)
    (h : (s.except quiet).memWf = true) (hk : ∀ x u, (u.except quiet).memWf = true → ((k x u).except quiet).memWf = true) :
    Result.wfs (trsStart p t ecc f s k) := by
  unfold trsStart
  split
  · simp [h]
  · split
    · simp [h]
    · next x _ =>
      split
      · simp [h]
      · have hr : ((s.trsEcc p t x ecc).2.except quiet).memWf = true := by simp [h]
        generalize s.trsEcc p t x ecc = r at hr ⊢
        obtain ⟨o, u⟩ := r
        cases o with
        | false => simpa using hr
        | true => simpa using hk _ _ hr

theorem State.trsLoad_wf (s : State) (p t : Nat) (x : TDesc) (src n : Nat) (k : Nat → State → State) (h : (s.except quiet).memWf = true)
    (hk : ∀ v u, (u.except quiet).memWf = true → ((k v u).except quiet).memWf = true) : ((s.trsLoad p t x src n k).except quiet).memWf = true := by
  unfold State.trsLoad
  split
  · simp (maxDischargeDepth := 40) [h]
  · have hr : ((s.sharedRead p src n).2.except quiet).memWf = true := by simp (maxDischargeDepth := 40) [h]
    generalize s.sharedRead p src n = r at hr ⊢
    obtain ⟨o, u⟩ := r
    cases o with
    | none => simpa (maxDischargeDepth := 40) using hr
    | some v =>
      have := hk v u hr
      simpa (maxDischargeDepth := 40) using this

@[simp] theorem State.trsCopy_wf (s : State) (p : Nat) (t : Nat) (x : TDesc) (src : Nat) (dst : Nat) (n : Nat) (hm : (s.except quiet).memWf = true) :
    (State.except (State.trsCopy s p t x src dst n) quiet).memWf = true := by
  unfold State.trsCopy
  exact State.trsLoad_wf _ _ _ _ _ _ _ hm fun v u hu => by simp (maxDischargeDepth := 40) [hu]

@[simp] theorem execLoadW_wfs (p : Nat) (t : Nat) (ecc : WordEcc) (s : State) (hm : (s.except quiet).memWf = true) :
    Result.wfs (execLoadW p t ecc s) := by
  unfold execLoadW
  try dsimp only
  repeat' first
    | with_reducible assumption
    | (with_reducible refine snd_wf (by assumption) ?_)
    | (with_reducible refine wf_foldl _ (fun _ _ hu => ?_) _ _ ?_)
    | (with_reducible refine wf_foldl_fst _ (fun _ _ hu => ?_) _ _ ?_)
    | (with_reducible refine wf_foldl_snd _ (fun _ _ hu => ?_) _ _ ?_)
    | (with_reducible refine gated_wfs _ _ _ _ _ (by assumption) ?_)
    | (with_reducible refine gatedRead_wfs _ _ _ _ (by assumption) ?_)
    | (with_reducible refine busChecked_wfs _ _ _ _ (by assumption) ?_)
    | (with_reducible exact gate_drop_wf (by assumption) (by assumption))
    | (with_reducible refine drwCommand_wfs _ _ _ _ _ (by assumption) (fun _ _ hu => ?_))
    | (with_reducible refine trsStart_wfs _ _ _ _ _ _ (by assumption) (fun _ _ hu => ?_))
    | split
    | (simp (maxDischargeDepth := 40) [hm]; done)
    | (with_reducible refine State.trsCopy_wf _ _ _ _ _ _ ?_)
    | (simp (maxDischargeDepth := 40) [*]; done)
    | (simp +contextual (maxDischargeDepth := 60) [wf_foldl, wf_foldl_fst, wf_foldl_snd, *]; done)
    | simp (maxDischargeDepth := 40)

@[simp] theorem execLoadCb_wfs (p : Nat) (t : Nat) (ecc : WordEcc) (s : State) (hm : (s.except quiet).memWf = true) :
    Result.wfs (execLoadCb p t ecc s) := by
  unfold execLoadCb
  try dsimp only
  repeat' first
    | with_reducible assumption
    | (with_reducible refine snd_wf (by assumption) ?_)
    | (with_reducible refine wf_foldl _ (fun _ _ hu => ?_) _ _ ?_)
    | (with_reducible refine wf_foldl_fst _ (fun _ _ hu => ?_) _ _ ?_)
    | (with_reducible refine wf_foldl_snd _ (fun _ _ hu => ?_) _ _ ?_)
    | (with_reducible refine gated_wfs _ _ _ _ _ (by assumption) ?_)
    | (with_reducible refine gatedRead_wfs _ _ _ _ (by assumption) ?_)
    | (with_reducible refine busChecked_wfs _ _ _ _ (by assumption) ?_)
    | (with_reducible exact gate_drop_wf (by assumption) (by assumption))
    | (with_reducible refine drwCommand_wfs _ _ _ _ _ (by assumption) (fun _ _ hu => ?_))
    | (with_reducible refine trsStart_wfs _ _ _ _ _ _ (by assumption) (fun _ _ hu => ?_))
    | split
    | (simp (maxDischargeDepth := 40) [hm]; done)
    | (with_reducible refine State.trsCopy_wf _ _ _ _ _ _ ?_)
    | (simp (maxDischargeDepth := 40) [*]; done)
    | (simp +contextual (maxDischargeDepth := 60) [wf_foldl, wf_foldl_fst, wf_foldl_snd, *]; done)
    | simp (maxDischargeDepth := 40)

@[simp] theorem execLoadRescale_wfs (p : Nat) (t : Nat) (ecc : WordEcc) (s : State) (hm : (s.except quiet).memWf = true) :
    Result.wfs (execLoadRescale p t ecc s) := by
  unfold execLoadRescale
  try dsimp only
  repeat' first
    | with_reducible assumption
    | (with_reducible refine snd_wf (by assumption) ?_)
    | (with_reducible refine wf_foldl _ (fun _ _ hu => ?_) _ _ ?_)
    | (with_reducible refine wf_foldl_fst _ (fun _ _ hu => ?_) _ _ ?_)
    | (with_reducible refine wf_foldl_snd _ (fun _ _ hu => ?_) _ _ ?_)
    | (with_reducible refine gated_wfs _ _ _ _ _ (by assumption) ?_)
    | (with_reducible refine gatedRead_wfs _ _ _ _ (by assumption) ?_)
    | (with_reducible refine busChecked_wfs _ _ _ _ (by assumption) ?_)
    | (with_reducible exact gate_drop_wf (by assumption) (by assumption))
    | (with_reducible refine drwCommand_wfs _ _ _ _ _ (by assumption) (fun _ _ hu => ?_))
    | (with_reducible refine trsStart_wfs _ _ _ _ _ _ (by assumption) (fun _ _ hu => ?_))
    | split
    | (simp (maxDischargeDepth := 40) [hm]; done)
    | (with_reducible refine State.trsCopy_wf _ _ _ _ _ _ ?_)
    | (simp (maxDischargeDepth := 40) [*]; done)
    | (simp +contextual (maxDischargeDepth := 60) [wf_foldl, wf_foldl_fst, wf_foldl_snd, *]; done)
    | simp (maxDischargeDepth := 40)

@[simp] theorem State.quantRow_wf (s : State) (p : Nat) (t : Nat) (dst : Nat) (scales : Nat) (i : Nat) (k : Nat) (f : Fmt) (raw : List Nat) (hm : (s.except quiet).memWf = true) :
    (State.except (State.quantRow s p t dst scales i k f raw) quiet).memWf = true := by
  simp (maxDischargeDepth := 40) [State.quantRow, *]

@[simp] theorem execLoadAct_wfs (p : Nat) (t : Nat) (ecc : WordEcc) (s : State) (hm : (s.except quiet).memWf = true) :
    Result.wfs (execLoadAct p t ecc s) := by
  unfold execLoadAct
  refine trsStart_wfs _ _ _ _ _ _ (by assumption) (fun x u hu => ?_)
  dsimp only
  split
  · refine State.trsLoad_wf _ _ _ _ _ _ _ hu (fun v u hu => ?_)
    exact wf_foldl _ (fun u e hu => by simp (maxDischargeDepth := 40) [hu]) _ _ hu
  · simp (maxDischargeDepth := 40) [hu]

@[simp] theorem State.runBlock_wf (s : State) (p : Nat) (t : Nat) (d : Nat) (hm : (s.except quiet).memWf = true) :
    (State.except (State.runBlock s p t d) quiet).memWf = true := by
  unfold State.runBlock
  try dsimp only
  repeat' first
    | assumption
    | (with_reducible refine wf_foldl _ (fun _ _ _ => ?_) _ _ ?_)
    | (with_reducible refine wf_foldl_fst _ (fun _ _ _ => ?_) _ _ ?_)
    | (with_reducible refine wf_foldl_snd _ (fun _ _ _ => ?_) _ _ ?_)
    | split
    | (simp (maxDischargeDepth := 40) [*]; done)
    | simp (maxDischargeDepth := 40) [*]

@[simp] theorem execRun_wfs (p : Nat) (t : Nat) (ecc : WordEcc) (chk : Option Nat) (s : State) (hm : (s.except quiet).memWf = true) :
    Result.wfs (execRun p t ecc chk s) := by
  unfold execRun
  try dsimp only
  repeat' first
    | with_reducible assumption
    | (with_reducible refine snd_wf (by assumption) ?_)
    | (with_reducible refine wf_foldl _ (fun _ _ hu => ?_) _ _ ?_)
    | (with_reducible refine wf_foldl_fst _ (fun _ _ hu => ?_) _ _ ?_)
    | (with_reducible refine wf_foldl_snd _ (fun _ _ hu => ?_) _ _ ?_)
    | (with_reducible refine gated_wfs _ _ _ _ _ (by assumption) ?_)
    | (with_reducible refine gatedRead_wfs _ _ _ _ (by assumption) ?_)
    | (with_reducible refine busChecked_wfs _ _ _ _ (by assumption) ?_)
    | (with_reducible exact gate_drop_wf (by assumption) (by assumption))
    | (with_reducible refine drwCommand_wfs _ _ _ _ _ (by assumption) (fun _ _ hu => ?_))
    | (with_reducible refine trsStart_wfs _ _ _ _ _ _ (by assumption) (fun _ _ hu => ?_))
    | split
    | (simp (maxDischargeDepth := 40) [hm]; done)
    | (with_reducible refine State.runBlock_wf _ _ _ _ ?_)
    | (simp (maxDischargeDepth := 40) [*]; done)
    | (simp +contextual (maxDischargeDepth := 60) [wf_foldl, wf_foldl_fst, wf_foldl_snd, *]; done)
    | simp (maxDischargeDepth := 40)

@[simp] theorem execReduceOutCopy_wfs (p : Nat) (t : Nat) (ecc : WordEcc) (s : State) (hm : (s.except quiet).memWf = true) :
    Result.wfs (execReduceOutCopy p t ecc s) := by
  unfold execReduceOutCopy
  try dsimp only
  repeat' first
    | with_reducible assumption
    | (with_reducible refine snd_wf (by assumption) ?_)
    | (with_reducible refine wf_foldl _ (fun _ _ hu => ?_) _ _ ?_)
    | (with_reducible refine wf_foldl_fst _ (fun _ _ hu => ?_) _ _ ?_)
    | (with_reducible refine wf_foldl_snd _ (fun _ _ hu => ?_) _ _ ?_)
    | (with_reducible refine gated_wfs _ _ _ _ _ (by assumption) ?_)
    | (with_reducible refine gatedRead_wfs _ _ _ _ (by assumption) ?_)
    | (with_reducible refine busChecked_wfs _ _ _ _ (by assumption) ?_)
    | (with_reducible exact gate_drop_wf (by assumption) (by assumption))
    | (with_reducible refine drwCommand_wfs _ _ _ _ _ (by assumption) (fun _ _ hu => ?_))
    | (with_reducible refine trsStart_wfs _ _ _ _ _ _ (by assumption) (fun _ _ hu => ?_))
    | split
    | (simp (maxDischargeDepth := 40) [hm]; done)
    | (with_reducible refine State.sharedWrite_wf _ _ _ _ _ ?_)
    | (simp (maxDischargeDepth := 40) [*]; done)
    | (simp +contextual (maxDischargeDepth := 60) [wf_foldl, wf_foldl_fst, wf_foldl_snd, *]; done)
    | simp (maxDischargeDepth := 40)

@[simp] theorem State.redSend_wf (s : State) (p : Nat) (t : Nat) (d : Nat) (elem : Nat) (hm : (s.except quiet).memWf = true) :
    (State.except (State.redSend s p t d elem) quiet).memWf = true := by
  unfold State.redSend
  try dsimp only
  (repeat' split) <;> simp_all (maxDischargeDepth := 40)

@[simp] theorem execReduceOutReduce_wfs (p : Nat) (t : Nat) (ecc : WordEcc) (s : State) (hm : (s.except quiet).memWf = true) :
    Result.wfs (execReduceOutReduce p t ecc s) := by
  unfold execReduceOutReduce
  refine trsStart_wfs _ _ _ _ _ _ (by assumption) (fun x u hu => ?_)
  dsimp only
  split
  · exact wf_foldl _ (fun u e hu => State.redSend_wf _ _ _ _ _ hu) _ _ (by simp (maxDischargeDepth := 40) [hu])
  · simp (maxDischargeDepth := 40) [hu]

@[simp] theorem State.redTake_wf (s : State) (p : Nat) (t : Nat) (inst : Nat) (pl : Nat) (x : TDesc) (hm : (s.except quiet).memWf = true) :
    (State.except (State.redTake s p t inst pl x) quiet).memWf = true := by
  unfold State.redTake
  split
  · simp [*]
  · dsimp only
    (repeat' split) <;> simp (maxDischargeDepth := 40) [*]

@[simp] theorem execRedDownProgramResult_wfs (p : Nat) (s : State) (hm : (s.except quiet).memWf = true) :
    Result.wfs (execRedDownProgramResult p s) := by
  unfold execRedDownProgramResult
  try dsimp only
  repeat' first
    | assumption
    | (with_reducible refine wf_foldl _ (fun _ _ _ => ?_) _ _ ?_)
    | (with_reducible refine wf_foldl_fst _ (fun _ _ _ => ?_) _ _ ?_)
    | (with_reducible refine wf_foldl_snd _ (fun _ _ _ => ?_) _ _ ?_)
    | split
    | (simp (maxDischargeDepth := 40) [*]; done)
    | simp (maxDischargeDepth := 40) [*]

@[simp] theorem trsWinWrite_wf (p : Nat) (t : Nat) (w : Word) (s : State) (hm : (s.except quiet).memWf = true) :
    (State.except (trsWinWrite p t w s) quiet).memWf = true := by
  unfold trsWinWrite
  try dsimp only
  repeat' first
    | assumption
    | (with_reducible refine wf_foldl _ (fun _ _ _ => ?_) _ _ ?_)
    | (with_reducible refine wf_foldl_fst _ (fun _ _ _ => ?_) _ _ ?_)
    | (with_reducible refine wf_foldl_snd _ (fun _ _ _ => ?_) _ _ ?_)
    | split
    | (simp (maxDischargeDepth := 40) [*]; done)
    | simp (maxDischargeDepth := 40) [*]

@[simp] theorem execTrsWinData_wfs (r : Req) (p : Nat) (t : Nat) (w : Option Word) (ecc : WordEcc) (s : State) (hm : (s.except quiet).memWf = true) :
    Result.wfs (execTrsWinData r p t w ecc s) := by
  unfold execTrsWinData
  try dsimp only
  repeat' first
    | with_reducible assumption
    | (with_reducible refine snd_wf (by assumption) ?_)
    | (with_reducible refine wf_foldl _ (fun _ _ hu => ?_) _ _ ?_)
    | (with_reducible refine wf_foldl_fst _ (fun _ _ hu => ?_) _ _ ?_)
    | (with_reducible refine wf_foldl_snd _ (fun _ _ hu => ?_) _ _ ?_)
    | (with_reducible refine gated_wfs _ _ _ _ _ (by assumption) ?_)
    | (with_reducible refine gatedRead_wfs _ _ _ _ (by assumption) ?_)
    | (with_reducible refine busChecked_wfs _ _ _ _ (by assumption) ?_)
    | (with_reducible exact gate_drop_wf (by assumption) (by assumption))
    | (with_reducible refine drwCommand_wfs _ _ _ _ _ (by assumption) (fun _ _ hu => ?_))
    | (with_reducible refine trsStart_wfs _ _ _ _ _ _ (by assumption) (fun _ _ hu => ?_))
    | split
    | (simp (maxDischargeDepth := 40) [hm]; done)
    | (with_reducible refine trsWinWrite_wf _ _ _ _ ?_)
    | (simp (maxDischargeDepth := 40) [*]; done)
    | (simp +contextual (maxDischargeDepth := 60) [wf_foldl, wf_foldl_fst, wf_foldl_snd, *]; done)
    | simp (maxDischargeDepth := 40)

end Sys2Proof.Machine
end

