-- ==== Sys2Proof/Laws/MemHostRing.lean ====
section
/-!
SUPPORT. MemHostRing.lean: every operation of HostRing.lean that writes a byte memory keeps the memories in canonical form.
-/

namespace Sys2Proof.Machine

@[simp] theorem State.ringOffer_wf (s : State) (f : Nat) (i : Nat) (entry : Nat) (hm : (s.except quiet).memWf = true) :
    (State.except (State.ringOffer s f i entry) quiet).memWf = true := by
  simp (maxDischargeDepth := 40) [State.ringOffer, *]

@[simp] theorem State.ringWord_wf (s : State) (f : Nat) (i : Nat) (w : Nat) (hm : (s.except quiet).memWf = true) :
    (State.except (State.ringWord s f i w) quiet).memWf = true := by
  simp (maxDischargeDepth := 40) [State.ringWord, *]

@[simp] theorem State.ringRead_wf (s : State) (f : Nat) (i : Nat) (d : DmaRead) (hm : (s.except quiet).memWf = true) :
    (State.except (State.ringRead s f i d) quiet).memWf = true := by
  unfold State.ringRead
  try dsimp only
  repeat' first
    | assumption
    | (with_reducible refine wf_foldl _ (fun _ _ _ => ?_) _ _ ?_)
    | (with_reducible refine wf_foldl_fst _ (fun _ _ _ => ?_) _ _ ?_)
    | (with_reducible refine wf_foldl_snd _ (fun _ _ _ => ?_) _ _ ?_)
    | split
    | (simp (maxDischargeDepth := 40) [*]; done)
    | simp (maxDischargeDepth := 40) [*]

@[simp] theorem State.ringPut_wf (s : State) (f : Nat) (i : Nat) (v : Nat) (hm : (s.except quiet).memWf = true) :
    (State.except (State.ringPut s f i v) quiet).memWf = true := by
  simp (maxDischargeDepth := 40) [State.ringPut, *]

@[simp] theorem execRingWrite_wfs (f : Nat) (i : Nat) (ecc : QmReads) (s : State) (hm : (s.except quiet).memWf = true) :
    Result.wfs (execRingWrite f i ecc s) := by
  unfold execRingWrite
  try dsimp only
  repeat' first
    | assumption
    | (with_reducible refine wf_foldl _ (fun _ _ _ => ?_) _ _ ?_)
    | (with_reducible refine wf_foldl_fst _ (fun _ _ _ => ?_) _ _ ?_)
    | (with_reducible refine wf_foldl_snd _ (fun _ _ _ => ?_) _ _ ?_)
    | split
    | (simp (maxDischargeDepth := 40) [*]; done)
    | simp (maxDischargeDepth := 40) [*]

end Sys2Proof.Machine
end

