-- ==== Sys2Proof/Laws/MemObserve.lean ====
section
/-!
SUPPORT. MemObserve.lean: every operation of Observe.lean that writes a byte memory keeps the memories in canonical form.
-/

namespace Sys2Proof.Machine

@[simp] theorem State.putItems_wf (s : State) (base : Nat) (l : SnapItems) (hm : (s.except quiet).memWf = true) :
    (State.except (State.putItems s base l) quiet).memWf = true := by
  unfold State.putItems
  try dsimp only
  repeat' first
    | assumption
    | (with_reducible refine wf_foldl _ (fun _ _ _ => ?_) _ _ ?_)
    | (with_reducible refine wf_foldl_fst _ (fun _ _ _ => ?_) _ _ ?_)
    | (with_reducible refine wf_foldl_snd _ (fun _ _ _ => ?_) _ _ ?_)
    | split
    | (simp (maxDischargeDepth := 40) [*]; done)
    | simp (maxDischargeDepth := 40) [*]

theorem State.putSections_wf (s t : State) (base : Nat) (l : List Nat) (h : (s.except quiet).memWf = true) :
    ((State.putSections s t base l).except quiet).memWf = true := by
  induction l generalizing s with
  | nil => exact h
  | cons p ps ih =>
    unfold State.putSections
    refine ih _ ?_
    refine wf_foldl _ (fun u e hu => ?_) _ _ (by simp [h])
    split
    · exact hu
    · exact State.stackPut_wf _ _ _ _ hu

@[simp] theorem State.snapTake_wf (s : State) (hm : (s.except quiet).memWf = true) :
    (State.except (State.snapTake s) quiet).memWf = true := by
  unfold State.snapTake
  dsimp only
  repeat' first
    | with_reducible assumption
    | (with_reducible refine snd_wf (by assumption) ?_)
    | (with_reducible refine wf_foldl _ (fun _ _ hu => ?_) _ _ ?_)
    | (with_reducible refine wf_foldl_fst _ (fun _ _ hu => ?_) _ _ ?_)
    | (with_reducible refine wf_foldl_snd _ (fun _ _ hu => ?_) _ _ ?_)
    | (with_reducible refine gated_wfs _ _ _ _ _ (by assumption) ?_)
    | (with_reducible refine gatedRead_wfs _ _ _ _ (by assumption) ?_)
    | (with_reducible refine busChecked_wfs _ _ _ _ (by assumption) ?_)
    | (with_reducible exact gate_drop_wf (by assumption) (by assumption))
    | (with_reducible refine drwCommand_wfs _ _ _ _ _ (by assumption) (fun _ _ hu => ?_))
    | (with_reducible refine trsStart_wfs _ _ _ _ _ _ (by assumption) (fun _ _ hu => ?_))
    | (with_reducible refine State.putSections_wf _ _ _ _ ?_)
    | split
    | (simp (maxDischargeDepth := 40) [hm]; done)
    | (with_reducible refine State.clearBytes_wf _ _ _ ?_)
    | (with_reducible refine State.putItems_wf _ _ _ ?_)
    | (simp (maxDischargeDepth := 40) [*]; done)
    | (simp +contextual (maxDischargeDepth := 60) [wf_foldl, wf_foldl_fst, wf_foldl_snd, *]; done)
    | simp (maxDischargeDepth := 40)

@[simp] theorem execFreeze_wfs (s : State) (hm : (s.except quiet).memWf = true) :
    Result.wfs (execFreeze s) := by
  unfold execFreeze
  try dsimp only
  repeat' first
    | with_reducible assumption
    | (with_reducible refine snd_wf (by assumption) ?_)
    | (with_reducible refine wf_foldl _ (fun _ _ hu => ?_) _ _ ?_)
    | (with_reducible refine wf_foldl_fst _ (fun _ _ hu => ?_) _ _ ?_)
    | (with_reducible refine wf_foldl_snd _ (fun _ _ hu => ?_) _ _ ?_)
    | (with_reducible refine gated_wfs _ _ _ _ _ (by assumption) ?_)
    | (with_reducible refine gatedRead_wfs _ _ _ _ (by assumption) ?_)
    | (with_reducible refine busChecked_wfs _ _ _ _ (by assumption) ?_)
    | (with_reducible exact gate_drop_wf (by assumption) (by assumption))
    | (with_reducible refine drwCommand_wfs _ _ _ _ _ (by assumption) (fun _ _ hu => ?_))
    | (with_reducible refine trsStart_wfs _ _ _ _ _ _ (by assumption) (fun _ _ hu => ?_))
    | split
    | (simp (maxDischargeDepth := 40) [hm]; done)
    | (with_reducible refine State.snapTake_wf _ ?_)
    | (simp (maxDischargeDepth := 40) [*]; done)
    | (simp +contextual (maxDischargeDepth := 60) [wf_foldl, wf_foldl_fst, wf_foldl_snd, *]; done)
    | simp (maxDischargeDepth := 40)

@[simp] theorem execSnapDone_wfs (fail : Option Nat) (s : State) (hm : (s.except quiet).memWf = true) :
    Result.wfs (execSnapDone fail s) := by
  unfold execSnapDone
  try dsimp only
  repeat' first
    | assumption
    | (with_reducible refine wf_foldl _ (fun _ _ _ => ?_) _ _ ?_)
    | (with_reducible refine wf_foldl_fst _ (fun _ _ _ => ?_) _ _ ?_)
    | (with_reducible refine wf_foldl_snd _ (fun _ _ _ => ?_) _ _ ?_)
    | split
    | (simp (maxDischargeDepth := 40) [*]; done)
    | simp (maxDischargeDepth := 40) [*]

@[simp] theorem execTraceRecordWrite_wfs (e : Nat) (s : State) (hm : (s.except quiet).memWf = true) :
    Result.wfs (execTraceRecordWrite e s) := by
  unfold execTraceRecordWrite
  try dsimp only
  repeat' first
    | assumption
    | (with_reducible refine wf_foldl _ (fun _ _ _ => ?_) _ _ ?_)
    | (with_reducible refine wf_foldl_fst _ (fun _ _ _ => ?_) _ _ ?_)
    | (with_reducible refine wf_foldl_snd _ (fun _ _ _ => ?_) _ _ ?_)
    | split
    | (simp (maxDischargeDepth := 40) [*]; done)
    | simp (maxDischargeDepth := 40) [*]

end Sys2Proof.Machine
end

