-- ==== Sys2Proof/Laws/MemSpad.lean ====
section
/-!
SUPPORT. MemSpad.lean: every operation of Spad.lean that writes a byte memory keeps the memories in canonical form.
-/

namespace Sys2Proof.Machine

@[simp] theorem State.clearBank_wf (s : State) (p : Nat) (b : Nat) (hm : (s.except quiet).memWf = true) :
    (State.except (State.clearBank s p b) quiet).memWf = true := by
  exact memFilter_wf s _ hm

@[simp] theorem State.bankLost_wf (s : State) (p : Nat) (b : Nat) (hm : (s.except quiet).memWf = true) :
    (State.except (State.bankLost s p b) quiet).memWf = true := by
  unfold State.bankLost
  try dsimp only
  repeat' first
    | with_reducible assumption
    | (with_reducible refine snd_wf (by assumption) ?_)
    | (with_reducible refine wf_foldl _ (fun _ _ hu => ?_) _ _ ?_)
    | (with_reducible refine wf_foldl_fst _ (fun _ _ hu => ?_) _ _ ?_)
    | (with_reducible refine wf_foldl_snd _ (fun _ _ hu => ?_) _ _ ?_)
    | (with_reducible refine gated_wfs _ _ _ _ _ (by assumption) ?_)
    | (with_reducible refine gatedRead_wfs _ _ _ _ (by assumption) ?_)
    | (with_reducible refine busChecked_wfs _ _ _ _ (by assumption) ?_)
    | (with_reducible exact gate_drop_wf (by assumption) (by assumption))
    | (with_reducible refine drwCommand_wfs _ _ _ _ _ (by assumption) (fun _ _ hu => ?_))
    | split
    | (simp (maxDischargeDepth := 40) [hm]; done)
    | (with_reducible refine State.clearBank_wf _ _ _ ?_)
    | (simp (maxDischargeDepth := 40) [*]; done)
    | (simp +contextual (maxDischargeDepth := 60) [wf_foldl, wf_foldl_fst, wf_foldl_snd, *]; done)
    | simp (maxDischargeDepth := 40)

@[simp] theorem State.bankDone_wf (s : State) (p : Nat) (b : Nat) (hm : (s.except quiet).memWf = true) :
    (State.except (State.bankDone s p b) quiet).memWf = true := by
  unfold State.bankDone
  try dsimp only
  repeat' first
    | assumption
    | (with_reducible refine wf_foldl _ (fun _ _ _ => ?_) _ _ ?_)
    | (with_reducible refine wf_foldl_fst _ (fun _ _ _ => ?_) _ _ ?_)
    | (with_reducible refine wf_foldl_snd _ (fun _ _ _ => ?_) _ _ ?_)
    | split
    | (simp (maxDischargeDepth := 40) [*]; done)
    | simp (maxDischargeDepth := 40) [*]

@[simp] theorem execBankTransitionDone_wfs (p : Nat) (b : Nat) (s : State) (hm : (s.except quiet).memWf = true) :
    Result.wfs (execBankTransitionDone p b s) := by
  simp (maxDischargeDepth := 40) [execBankTransitionDone, *]

@[simp] theorem State.banksBack_wf (s : State) (p : Nat) (hm : (s.except quiet).memWf = true) :
    (State.except (State.banksBack s p) quiet).memWf = true := by
  unfold State.banksBack
  try dsimp only
  repeat' first
    | assumption
    | (with_reducible refine wf_foldl _ (fun _ _ _ => ?_) _ _ ?_)
    | (with_reducible refine wf_foldl_fst _ (fun _ _ _ => ?_) _ _ ?_)
    | (with_reducible refine wf_foldl_snd _ (fun _ _ _ => ?_) _ _ ?_)
    | split
    | (simp (maxDischargeDepth := 40) [*]; done)
    | simp (maxDischargeDepth := 40) [*]

end Sys2Proof.Machine
end

