-- ==== Sys2Proof/Laws/MemPower.lean ====
section
/-!
SUPPORT. MemPower.lean: every operation of Power.lean that writes a byte memory keeps the memories in canonical form.
-/

namespace Sys2Proof.Machine

@[simp] theorem State.loseMemory_wf (s : State) (d : Nat) (hm : (s.except quiet).memWf = true) :
    (State.except (State.loseMemory s d) quiet).memWf = true := by
  fun_cases State.loseMemory <;> simp (maxDischargeDepth := 40) [*]

@[simp] theorem State.powerOff_wf (s : State) (hm : (s.except quiet).memWf = true) :
    (State.except (State.powerOff s) quiet).memWf = true := by
  exact fresh_wf s _ hm rfl rfl

@[simp] theorem State.arrive_wf (s : State) (d : Nat) (bad : Bool) (hm : (s.except quiet).memWf = true) :
    (State.except (State.arrive s d bad) quiet).memWf = true := by
  unfold State.arrive
  extract_lets x ns s1 woke s2 s3 s4 s5 s6 s7 s8 s9
  have h1 : (s1.except quiet).memWf = true := ite_wf _ hm (by simp [hm])
  have h2 : (s2.except quiet).memWf = true := by simpa [s2] using h1
  have h3 : (s3.except quiet).memWf = true := ite_wf _ (by simp [h2]) h2
  have h4 : (s4.except quiet).memWf = true := ite_wf _ (by simp [h3]) h3
  have h5 : (s5.except quiet).memWf = true := ite_wf _ (by simp [h4]) h4
  have h6 : (s6.except quiet).memWf = true := ite_wf _ (by simp [h5]) h5
  have h7 : (s7.except quiet).memWf = true := ite_wf _ (by simp [h6]) h6
  have h8 : (s8.except quiet).memWf = true := ite_wf _ (by simp [h7]) h7
  have h9 : (s9.except quiet).memWf = true := ite_wf _ (wf_foldl _ (fun _ _ hu => by simp [hu]) _ _ h8) h8
  simpa using h9

@[simp] theorem execDevDone_wfs (s : State) (hm : (s.except quiet).memWf = true) :
    Result.wfs (execDevDone s) := by
  unfold execDevDone
  try dsimp only
  repeat' first
    | assumption
    | (with_reducible refine wf_foldl _ (fun _ _ _ => ?_) _ _ ?_)
    | (with_reducible refine wf_foldl_fst _ (fun _ _ _ => ?_) _ _ ?_)
    | (with_reducible refine wf_foldl_snd _ (fun _ _ _ => ?_) _ _ ?_)
    | split
    | (simp (maxDischargeDepth := 40) [*]; done)
    | simp (maxDischargeDepth := 40) [*]

@[simp] theorem execTransitionDone_wfs (d : Nat) (bad : Bool) (s : State) (hm : (s.except quiet).memWf = true) :
    Result.wfs (execTransitionDone d bad s) := by
  unfold execTransitionDone
  try dsimp only
  repeat' first
    | assumption
    | (with_reducible refine wf_foldl _ (fun _ _ _ => ?_) _ _ ?_)
    | (with_reducible refine wf_foldl_fst _ (fun _ _ _ => ?_) _ _ ?_)
    | (with_reducible refine wf_foldl_snd _ (fun _ _ _ => ?_) _ _ ?_)
    | split
    | (simp (maxDischargeDepth := 40) [*]; done)
    | simp (maxDischargeDepth := 40) [*]

end Sys2Proof.Machine
end

