-- ==== Sys2Proof/Laws/MemBringup.lean ====
section
/-!
SUPPORT. MemBringup.lean: every operation of Bringup.lean that writes a byte memory keeps the memories in canonical form.
-/

namespace Sys2Proof.Machine

@[simp] theorem State.deliverFw_wf (s : State) (fw : List (Nat × Byte)) (p : Nat) (hm : (s.except quiet).memWf = true) :
    (State.except (State.deliverFw s fw p) quiet).memWf = true := by
  unfold State.deliverFw
  try dsimp only
  repeat' first
    | assumption
    | (with_reducible refine wf_foldl _ (fun _ _ _ => ?_) _ _ ?_)
    | (with_reducible refine wf_foldl_fst _ (fun _ _ _ => ?_) _ _ ?_)
    | (with_reducible refine wf_foldl_snd _ (fun _ _ _ => ?_) _ _ ?_)
    | split
    | (simp (maxDischargeDepth := 40) [*]; done)
    | simp (maxDischargeDepth := 40) [*]

@[simp] theorem execFirmwareBlock_wfs (p : Nat) (index : Nat) (count : Nat) (dest : Nat) (data : List Byte) (crc : Nat) (s : State) (hm : (s.except quiet).memWf = true) :
    Result.wfs (execFirmwareBlock p index count dest data crc s) := by
  unfold execFirmwareBlock
  try dsimp only
  repeat' first
    | with_reducible assumption
    | (with_reducible refine snd_wf (by assumption) ?_)
    | (with_reducible refine wf_foldl _ (fun _ _ hu => ?_) _ _ ?_)
    | (with_reducible refine wf_foldl_fst _ (fun _ _ hu => ?_) _ _ ?_)
    | (with_reducible refine wf_foldl_snd _ (fun _ _ hu => ?_) _ _ ?_)
    | (with_reducible refine gated_wfs _ _ _ _ _ (by assumption) ?_)
    | (with_reducible refine gatedRead_wfs _ _ _ _ (by assumption) ?_)
    | (with_reducible refine busChecked_wfs _ _ _ _ (by assumption) ?_)
    | (with_reducible exact gate_drop_wf (by assumption) (by assumption))
    | (with_reducible refine drwCommand_wfs _ _ _ _ _ (by assumption) (fun _ _ hu => ?_))
    | split
    | (simp (maxDischargeDepth := 40) [hm]; done)
    | (simp (maxDischargeDepth := 40) [*]; done)
    | (simp +contextual (maxDischargeDepth := 60) [wf_foldl, wf_foldl_fst, wf_foldl_snd, *]; done)
    | simp (maxDischargeDepth := 40)

@[simp] theorem State.trainStacks_wf (s : State) (x : StartPlan) (hm : (s.except quiet).memWf = true) :
    (State.except (State.trainStacks s x) quiet).memWf = true := by
  unfold State.trainStacks
  try dsimp only
  repeat' first
    | with_reducible assumption
    | (with_reducible refine snd_wf (by assumption) ?_)
    | (with_reducible refine wf_foldl _ (fun _ _ hu => ?_) _ _ ?_)
    | (with_reducible refine wf_foldl_fst _ (fun _ _ hu => ?_) _ _ ?_)
    | (with_reducible refine wf_foldl_snd _ (fun _ _ hu => ?_) _ _ ?_)
    | (with_reducible refine gated_wfs _ _ _ _ _ (by assumption) ?_)
    | (with_reducible refine gatedRead_wfs _ _ _ _ (by assumption) ?_)
    | (with_reducible refine busChecked_wfs _ _ _ _ (by assumption) ?_)
    | (with_reducible exact gate_drop_wf (by assumption) (by assumption))
    | (with_reducible refine drwCommand_wfs _ _ _ _ _ (by assumption) (fun _ _ hu => ?_))
    | split
    | (simp (maxDischargeDepth := 40) [hm]; done)
    | (with_reducible refine State.retirePc_wf _ _ _ ?_)
    | (simp (maxDischargeDepth := 40) [*]; done)
    | (simp +contextual (maxDischargeDepth := 60) [wf_foldl, wf_foldl_fst, wf_foldl_snd, *]; done)
    | simp (maxDischargeDepth := 40)

@[simp] theorem State.startEnd_wf (s : State) (x : StartPlan) (hm : (s.except quiet).memWf = true) :
    (State.except (State.startEnd s x) quiet).memWf = true := by
  unfold State.startEnd
  try dsimp only
  repeat' first
    | with_reducible assumption
    | (with_reducible refine snd_wf (by assumption) ?_)
    | (with_reducible refine wf_foldl _ (fun _ _ hu => ?_) _ _ ?_)
    | (with_reducible refine wf_foldl_fst _ (fun _ _ hu => ?_) _ _ ?_)
    | (with_reducible refine wf_foldl_snd _ (fun _ _ hu => ?_) _ _ ?_)
    | (with_reducible refine gated_wfs _ _ _ _ _ (by assumption) ?_)
    | (with_reducible refine gatedRead_wfs _ _ _ _ (by assumption) ?_)
    | (with_reducible refine busChecked_wfs _ _ _ _ (by assumption) ?_)
    | (with_reducible exact gate_drop_wf (by assumption) (by assumption))
    | (with_reducible refine drwCommand_wfs _ _ _ _ _ (by assumption) (fun _ _ hu => ?_))
    | (with_reducible refine trsStart_wfs _ _ _ _ _ _ (by assumption) (fun _ _ hu => ?_))
    | split
    | (simp (maxDischargeDepth := 40) [hm]; done)
    | (with_reducible refine State.deliverFw_wf _ _ _ ?_)
    | (simp (maxDischargeDepth := 40) [*]; done)
    | (simp +contextual (maxDischargeDepth := 60) [wf_foldl, wf_foldl_fst, wf_foldl_snd, *]; done)
    | simp (maxDischargeDepth := 40)

@[simp] theorem State.startReset_wf (s : State) (hm : (s.except quiet).memWf = true) :
    (State.except (State.startReset s) quiet).memWf = true := by
  exact fresh_wf s _ hm rfl rfl

@[simp] theorem execVddAonLoss_wfs (s : State) (hm : (s.except quiet).memWf = true) :
    Result.wfs (execVddAonLoss s) := by
  unfold execVddAonLoss
  split
  · simp [hm]
  · rw [done_wfs]; exact fresh_wf s _ hm rfl rfl

@[simp] theorem State.startTest_wf (s : State) (x : StartPlan) (hm : (s.except quiet).memWf = true) :
    (State.except (State.startTest s x) quiet).memWf = true := by
  unfold State.startTest
  try dsimp only
  repeat' first
    | with_reducible assumption
    | (with_reducible refine snd_wf (by assumption) ?_)
    | (with_reducible refine wf_foldl _ (fun _ _ hu => ?_) _ _ ?_)
    | (with_reducible refine wf_foldl_fst _ (fun _ _ hu => ?_) _ _ ?_)
    | (with_reducible refine wf_foldl_snd _ (fun _ _ hu => ?_) _ _ ?_)
    | (with_reducible refine gated_wfs _ _ _ _ _ (by assumption) ?_)
    | (with_reducible refine gatedRead_wfs _ _ _ _ (by assumption) ?_)
    | (with_reducible refine busChecked_wfs _ _ _ _ (by assumption) ?_)
    | (with_reducible exact gate_drop_wf (by assumption) (by assumption))
    | (with_reducible refine drwCommand_wfs _ _ _ _ _ (by assumption) (fun _ _ hu => ?_))
    | (with_reducible refine trsStart_wfs _ _ _ _ _ _ (by assumption) (fun _ _ hu => ?_))
    | split
    | (simp (maxDischargeDepth := 40) [hm]; done)
    | (with_reducible refine State.startEnd_wf _ _ ?_)
    | (with_reducible refine State.clearBytes_wf _ _ _ ?_)
    | (simp (maxDischargeDepth := 40) [*]; done)
    | (simp +contextual (maxDischargeDepth := 60) [wf_foldl, wf_foldl_fst, wf_foldl_snd, *]; done)
    | simp (maxDischargeDepth := 40)

@[simp] theorem State.startSequence_wf (s : State) (x : StartPlan) (hm : (s.except quiet).memWf = true) :
    (State.except (State.startSequence s x) quiet).memWf = true := by
  unfold State.startSequence
  try dsimp only
  (repeat' split) <;> simp_all (maxDischargeDepth := 40)

@[simp] theorem execResetNRise_wfs (x : StartPlan) (s : State) (hm : (s.except quiet).memWf = true) :
    Result.wfs (execResetNRise x s) := by
  simp (maxDischargeDepth := 40) [execResetNRise, *]

@[simp] theorem execResetNFall_wfs (s : State) (hm : (s.except quiet).memWf = true) :
    Result.wfs (execResetNFall s) := by
  unfold execResetNFall
  split
  · simp [hm]
  · rw [done_wfs]; exact fresh_wf s _ hm rfl rfl

@[simp] theorem execWakeN_wfs (x : StartPlan) (s : State) (hm : (s.except quiet).memWf = true) :
    Result.wfs (execWakeN x s) := by
  simp (maxDischargeDepth := 40) [execWakeN, *]

end Sys2Proof.Machine
end

