-- ==== Sys2Proof/Laws/MemPackage.lean ====
section
/-!
SUPPORT. MemPackage.lean: every operation of Package.lean that writes a byte memory keeps the memories in canonical form.
-/

namespace Sys2Proof.Machine

@[simp] theorem State.tripped_wf (s : State) (hm : (s.except quiet).memWf = true) :
    (State.except (State.tripped s) quiet).memWf = true := by
  simp (maxDischargeDepth := 40) [State.tripped, *]

@[simp] theorem execMonitorReading_wfs (temps : List Int) (s : State) (hm : (s.except quiet).memWf = true) :
    Result.wfs (execMonitorReading temps s) := by
  simp (maxDischargeDepth := 40) [execMonitorReading, *]

end Sys2Proof.Machine
end

