-- ==== Sys2Proof/Laws/MemMailbox.lean ====
section
/-!
SUPPORT. MemMailbox.lean: every operation of Mailbox.lean that writes a byte memory keeps the memories in canonical form.
-/

namespace Sys2Proof.Machine

/-- A start acts on its plan: a plan that refuses must itself keep the form. -/
theorem State.mbStartWith_wf (s : State) (m : MbCmd) (t : Nat) (plan : Except MbOut PartPlan)
    (hp : ∀ o, plan = .error o → (o.s.except quiet).memWf = true) (hm : (s.except quiet).memWf = true) :
    (State.except (State.mbStartWith s m t plan) quiet).memWf = true := by
  cases plan with
  | error o =>
    have ho := hp o rfl
    clear hp
    simp [State.mbStartWith, ho]
  | ok x =>
    clear hp
    simp only [State.mbStartWith]
    split <;> simp [State.mbOut, hm]

@[simp] theorem State.mbStartGo_wf (s : State) (m : MbCmd) (hm : (s.except quiet).memWf = true) :
    (State.except (State.mbStartGo s m) quiet).memWf = true := by
  unfold State.mbStartGo
  refine State.mbStartWith_wf _ _ _ _ (fun o ho => ?_) hm
  rcases State.startPlan_error ho with h | h <;> rw [h]
  · exact hm
  · simp [State.refused, hm]

@[simp] theorem State.mbPartStart_wf (s : State) (m : MbCmd) (hm : (s.except quiet).memWf = true) :
    (State.except (State.mbPartStart s m) quiet).memWf = true := by
  fun_cases State.mbPartStart <;> simp (maxDischargeDepth := 40) [*]

@[simp] theorem State.mbRelease_wf (s : State) (m : MbCmd) (hm : (s.except quiet).memWf = true) :
    (State.except (State.mbRelease s m) quiet).memWf = true := by
  unfold State.mbRelease
  try dsimp only
  repeat' first
    | with_reducible assumption
    | (with_reducible refine snd_wf (by assumption) ?_)
    | (with_reducible refine wf_foldl _ (fun _ _ hu => ?_) _ _ ?_)
    | (with_reducible refine wf_foldl_fst _ (fun _ _ hu => ?_) _ _ ?_)
    | (with_reducible refine wf_foldl_snd _ (fun _ _ hu => ?_) _ _ ?_)
    | (with_reducible refine gated_wfs _ _ _ _ _ (by assumption) ?_)
    | (with_reducible refine gatedRead_wfs _ _ _ _ (by assumption) ?_)
    | (with_reducible refine busChecked_wfs _ _ _ _ (by assumption) ?_)
    | (with_reducible exact gate_drop_wf (by assumption) (by assumption))
    | (with_reducible refine drwCommand_wfs _ _ _ _ _ (by assumption) (fun _ _ hu => ?_))
    | split
    | (simp (maxDischargeDepth := 40) [hm]; done)
    | (with_reducible refine State.partRelease_wf _ _ ?_)
    | (simp (maxDischargeDepth := 40) [*]; done)
    | (simp +contextual (maxDischargeDepth := 60) [wf_foldl, wf_foldl_fst, wf_foldl_snd, *]; done)
    | simp (maxDischargeDepth := 40)

@[simp] theorem State.mbMigrate_wf (s : State) (m : MbCmd) (hm : (s.except quiet).memWf = true) :
    (State.except (State.mbMigrate s m) quiet).memWf = true := by
  fun_cases State.mbMigrate <;> simp (maxDischargeDepth := 40) [*]

@[simp] theorem State.mbPark_wf (s : State) (m : MbCmd) (hm : (s.except quiet).memWf = true) :
    (State.except (State.mbPark s m) quiet).memWf = true := by
  fun_cases State.mbPark <;> simp (maxDischargeDepth := 40) [*]

@[simp] theorem State.mbUnpark_wf (s : State) (m : MbCmd) (hm : (s.except quiet).memWf = true) :
    (State.except (State.mbUnpark s m) quiet).memWf = true := by
  fun_cases State.mbUnpark <;> simp (maxDischargeDepth := 40) [*]

@[simp] theorem State.writePins_wf (s : State) (p : Nat) (axons : List Nat) (hm : (s.except quiet).memWf = true) :
    (State.except (State.writePins s p axons) quiet).memWf = true := by
  unfold State.writePins
  try dsimp only
  repeat' first
    | with_reducible assumption
    | (with_reducible refine snd_wf (by assumption) ?_)
    | (with_reducible refine wf_foldl _ (fun _ _ hu => ?_) _ _ ?_)
    | (with_reducible refine wf_foldl_fst _ (fun _ _ hu => ?_) _ _ ?_)
    | (with_reducible refine wf_foldl_snd _ (fun _ _ hu => ?_) _ _ ?_)
    | (with_reducible refine gated_wfs _ _ _ _ _ (by assumption) ?_)
    | (with_reducible refine gatedRead_wfs _ _ _ _ (by assumption) ?_)
    | (with_reducible refine busChecked_wfs _ _ _ _ (by assumption) ?_)
    | (with_reducible exact gate_drop_wf (by assumption) (by assumption))
    | (with_reducible refine drwCommand_wfs _ _ _ _ _ (by assumption) (fun _ _ hu => ?_))
    | (with_reducible refine trsStart_wfs _ _ _ _ _ _ (by assumption) (fun _ _ hu => ?_))
    | split
    | (simp (maxDischargeDepth := 40) [hm]; done)
    | (with_reducible refine State.store_wf _ _ _ _ ?_)
    | (with_reducible refine State.clearBytes_wf _ _ _ ?_)
    | (simp (maxDischargeDepth := 40) [*]; done)
    | (simp +contextual (maxDischargeDepth := 60) [wf_foldl, wf_foldl_fst, wf_foldl_snd, *]; done)
    | simp (maxDischargeDepth := 40)

@[simp] theorem State.rePin_wf (s : State) (k : Nat) (pins : List (Nat × List Nat)) (hm : (s.except quiet).memWf = true) :
    (State.except (State.rePin s k pins) quiet).memWf = true := by
  unfold State.rePin
  try dsimp only
  repeat' first
    | assumption
    | (with_reducible refine wf_foldl _ (fun _ _ _ => ?_) _ _ ?_)
    | (with_reducible refine wf_foldl_fst _ (fun _ _ _ => ?_) _ _ ?_)
    | (with_reducible refine wf_foldl_snd _ (fun _ _ _ => ?_) _ _ ?_)
    | split
    | (simp (maxDischargeDepth := 40) [*]; done)
    | simp (maxDischargeDepth := 40) [*]

@[simp] theorem State.mbMoves_wf (s : State) (m : MbCmd) (n : MbCmd) (hm : (s.except quiet).memWf = true) :
    (State.except (State.mbMoves s m n) quiet).memWf = true := by
  fun_cases State.mbMoves <;> simp (maxDischargeDepth := 40) [*]

@[simp] theorem State.mbRebalance_wf (s : State) (m : MbCmd) (hm : (s.except quiet).memWf = true) :
    (State.except (State.mbRebalance s m) quiet).memWf = true := by
  fun_cases State.mbRebalance s m <;> first
    | with_reducible assumption
    | (simp (maxDischargeDepth := 40) [hm]; done)
    | (simp +zetaDelta +contextual (maxDischargeDepth := 60) [hm, wf_foldl]; done)
    | (dsimp +zetaDelta only
       (repeat' split) <;> simp (maxDischargeDepth := 60) [hm])

@[simp] theorem State.mbStart_wf (s : State) (m0 : MbCmd) (hm : (s.except quiet).memWf = true) :
    (State.except (State.mbStart s m0) quiet).memWf = true := by
  unfold State.mbStart
  try dsimp only
  repeat' first
    | with_reducible assumption
    | (with_reducible refine snd_wf (by assumption) ?_)
    | (with_reducible refine wf_foldl _ (fun _ _ hu => ?_) _ _ ?_)
    | (with_reducible refine wf_foldl_fst _ (fun _ _ hu => ?_) _ _ ?_)
    | (with_reducible refine wf_foldl_snd _ (fun _ _ hu => ?_) _ _ ?_)
    | (with_reducible refine gated_wfs _ _ _ _ _ (by assumption) ?_)
    | (with_reducible refine gatedRead_wfs _ _ _ _ (by assumption) ?_)
    | (with_reducible refine busChecked_wfs _ _ _ _ (by assumption) ?_)
    | (with_reducible exact gate_drop_wf (by assumption) (by assumption))
    | (with_reducible refine drwCommand_wfs _ _ _ _ _ (by assumption) (fun _ _ hu => ?_))
    | (with_reducible refine trsStart_wfs _ _ _ _ _ _ (by assumption) (fun _ _ hu => ?_))
    | split
    | (simp (maxDischargeDepth := 40) [hm]; done)
    | (with_reducible refine State.mbPartStart_wf _ _ ?_)
    | (with_reducible refine State.partRelease_wf _ _ ?_)
    | (with_reducible refine State.mbMigrate_wf _ _ ?_)
    | (with_reducible refine State.mbPark_wf _ _ ?_)
    | (with_reducible refine State.mbUnpark_wf _ _ ?_)
    | (with_reducible refine State.mbRebalance_wf _ _ ?_)
    | (simp (maxDischargeDepth := 40) [*]; done)
    | (simp +contextual (maxDischargeDepth := 60) [wf_foldl, wf_foldl_fst, wf_foldl_snd, *]; done)
    | simp (maxDischargeDepth := 40)

@[simp] theorem State.mbNext_wf (s : State) (hm : (s.except quiet).memWf = true) :
    (State.except (State.mbNext s) quiet).memWf = true := by
  fun_cases State.mbNext <;> simp (maxDischargeDepth := 40) [*]

@[simp] theorem mbWrite_wf (f : Nat) (w : Word) (obs : List (Nat × Nat × Nat)) (pins : List (Nat × List Nat)) (s : State) (hm : (s.except quiet).memWf = true) :
    (State.except (mbWrite f w obs pins s) quiet).memWf = true := by
  unfold mbWrite
  try dsimp only
  repeat' first
    | assumption
    | (with_reducible refine wf_foldl _ (fun _ _ _ => ?_) _ _ ?_)
    | (with_reducible refine wf_foldl_fst _ (fun _ _ _ => ?_) _ _ ?_)
    | (with_reducible refine wf_foldl_snd _ (fun _ _ _ => ?_) _ _ ?_)
    | split
    | (simp (maxDischargeDepth := 40) [*]; done)
    | simp (maxDischargeDepth := 40) [*]

@[simp] theorem mbCommand_wfs (op : Nat) (r : Req) (w : Word) (obs : List (Nat × Nat × Nat)) (pins : List (Nat × List Nat)) (s : State) (hm : (s.except quiet).memWf = true) :
    Result.wfs (mbCommand op r w obs pins s) := by
  unfold mbCommand
  try dsimp only
  repeat' first
    | with_reducible assumption
    | (with_reducible refine snd_wf (by assumption) ?_)
    | (with_reducible refine wf_foldl _ (fun _ _ hu => ?_) _ _ ?_)
    | (with_reducible refine wf_foldl_fst _ (fun _ _ hu => ?_) _ _ ?_)
    | (with_reducible refine wf_foldl_snd _ (fun _ _ hu => ?_) _ _ ?_)
    | (with_reducible refine gated_wfs _ _ _ _ _ (by assumption) ?_)
    | (with_reducible refine gatedRead_wfs _ _ _ _ (by assumption) ?_)
    | (with_reducible refine busChecked_wfs _ _ _ _ (by assumption) ?_)
    | (with_reducible exact gate_drop_wf (by assumption) (by assumption))
    | (with_reducible refine drwCommand_wfs _ _ _ _ _ (by assumption) (fun _ _ hu => ?_))
    | (with_reducible refine trsStart_wfs _ _ _ _ _ _ (by assumption) (fun _ _ hu => ?_))
    | split
    | (simp (maxDischargeDepth := 40) [hm]; done)
    | (with_reducible refine mbWrite_wf _ _ _ _ _ ?_)
    | (simp (maxDischargeDepth := 40) [*]; done)
    | (simp +contextual (maxDischargeDepth := 60) [wf_foldl, wf_foldl_fst, wf_foldl_snd, *]; done)
    | simp (maxDischargeDepth := 40)

@[simp] theorem execPartConfig_wfs (r : Req) (w : Word) (s : State) (hm : (s.except quiet).memWf = true) :
    Result.wfs (execPartConfig r w s) := by
  simp (maxDischargeDepth := 40) [execPartConfig, *]

@[simp] theorem execImageLoad_wfs (r : Req) (w : Word) (s : State) (hm : (s.except quiet).memWf = true) :
    Result.wfs (execImageLoad r w s) := by
  simp (maxDischargeDepth := 40) [execImageLoad, *]

@[simp] theorem execPartStart_wfs (r : Req) (w : Word) (s : State) (hm : (s.except quiet).memWf = true) :
    Result.wfs (execPartStart r w s) := by
  simp (maxDischargeDepth := 40) [execPartStart, *]

@[simp] theorem execPartStop_wfs (r : Req) (w : Word) (s : State) (hm : (s.except quiet).memWf = true) :
    Result.wfs (execPartStop r w s) := by
  simp (maxDischargeDepth := 40) [execPartStop, *]

@[simp] theorem execPartRelease_wfs (r : Req) (w : Word) (s : State) (hm : (s.except quiet).memWf = true) :
    Result.wfs (execPartRelease r w s) := by
  simp (maxDischargeDepth := 40) [execPartRelease, *]

@[simp] theorem execMigrate_wfs (r : Req) (w : Word) (s : State) (hm : (s.except quiet).memWf = true) :
    Result.wfs (execMigrate r w s) := by
  simp (maxDischargeDepth := 40) [execMigrate, *]

@[simp] theorem execPark_wfs (r : Req) (w : Word) (s : State) (hm : (s.except quiet).memWf = true) :
    Result.wfs (execPark r w s) := by
  simp (maxDischargeDepth := 40) [execPark, *]

@[simp] theorem execUnpark_wfs (r : Req) (w : Word) (s : State) (hm : (s.except quiet).memWf = true) :
    Result.wfs (execUnpark r w s) := by
  simp (maxDischargeDepth := 40) [execUnpark, *]

@[simp] theorem execRebalance_wfs (r : Req) (w : Word) (obs : List (Nat × Nat × Nat)) (pins : List (Nat × List Nat)) (s : State) (hm : (s.except quiet).memWf = true) :
    Result.wfs (execRebalance r w obs pins s) := by
  simp (maxDischargeDepth := 40) [execRebalance, *]

@[simp] theorem execConsolidate_wfs (r : Req) (w : Word) (s : State) (hm : (s.except quiet).memWf = true) :
    Result.wfs (execConsolidate r w s) := by
  simp (maxDischargeDepth := 40) [execConsolidate, *]

@[simp] theorem execQuery_wfs (r : Req) (w : Word) (s : State) (hm : (s.except quiet).memWf = true) :
    Result.wfs (execQuery r w s) := by
  simp (maxDischargeDepth := 40) [execQuery, *]

@[simp] theorem State.mbFinish_wf (s : State) (m : MbCmd) (hm : (s.except quiet).memWf = true) :
    (State.except (State.mbFinish s m) quiet).memWf = true := by
  unfold State.mbFinish
  try dsimp only
  repeat' first
    | with_reducible assumption
    | (with_reducible refine snd_wf (by assumption) ?_)
    | (with_reducible refine wf_foldl _ (fun _ _ hu => ?_) _ _ ?_)
    | (with_reducible refine wf_foldl_fst _ (fun _ _ hu => ?_) _ _ ?_)
    | (with_reducible refine wf_foldl_snd _ (fun _ _ hu => ?_) _ _ ?_)
    | (with_reducible refine gated_wfs _ _ _ _ _ (by assumption) ?_)
    | (with_reducible refine gatedRead_wfs _ _ _ _ (by assumption) ?_)
    | (with_reducible refine busChecked_wfs _ _ _ _ (by assumption) ?_)
    | (with_reducible exact gate_drop_wf (by assumption) (by assumption))
    | (with_reducible refine drwCommand_wfs _ _ _ _ _ (by assumption) (fun _ _ hu => ?_))
    | (with_reducible refine trsStart_wfs _ _ _ _ _ _ (by assumption) (fun _ _ hu => ?_))
    | split
    | (simp (maxDischargeDepth := 40) [hm]; done)
    | (with_reducible refine State.mbNext_wf _ ?_)
    | (simp (maxDischargeDepth := 40) [*]; done)
    | (simp +contextual (maxDischargeDepth := 60) [wf_foldl, wf_foldl_fst, wf_foldl_snd, *]; done)
    | simp (maxDischargeDepth := 40)

@[simp] theorem execMailboxCommandDone_wfs (f : Nat) (s : State) (hm : (s.except quiet).memWf = true) :
    Result.wfs (execMailboxCommandDone f s) := by
  unfold execMailboxCommandDone
  try dsimp only
  repeat' first
    | assumption
    | (with_reducible refine wf_foldl _ (fun _ _ _ => ?_) _ _ ?_)
    | (with_reducible refine wf_foldl_fst _ (fun _ _ _ => ?_) _ _ ?_)
    | (with_reducible refine wf_foldl_snd _ (fun _ _ _ => ?_) _ _ ?_)
    | split
    | (simp (maxDischargeDepth := 40) [*]; done)
    | simp (maxDischargeDepth := 40) [*]

@[simp] theorem State.imageRead_wf (s : State) (f : Nat) (d : DmaRead) (hm : (s.except quiet).memWf = true) :
    (State.except (State.imageRead s f d) quiet).memWf = true := by
  fun_cases State.imageRead <;> simp (maxDischargeDepth := 40) [*]

@[simp] theorem execDmaReadCompletion_wfs (w : DmaFor) (d : DmaRead) (s : State) (hm : (s.except quiet).memWf = true) :
    Result.wfs (execDmaReadCompletion w d s) := by
  fun_cases execDmaReadCompletion <;> simp (maxDischargeDepth := 40) [*]

@[simp] theorem execCompletionTimeout_wfs (w : DmaFor) (s : State) (hm : (s.except quiet).memWf = true) :
    Result.wfs (execCompletionTimeout w s) := by
  fun_cases execCompletionTimeout <;> simp (maxDischargeDepth := 40) [*]

@[simp] theorem State.freePart_wf (s : State) (k : Nat) (hm : (s.except quiet).memWf = true) :
    (State.except (State.freePart s k) quiet).memWf = true := by
  unfold State.freePart
  try dsimp only
  (repeat' split) <;> simp_all (maxDischargeDepth := 40)

@[simp] theorem execFlr_wfs (f : Nat) (s : State) (hm : (s.except quiet).memWf = true) :
    Result.wfs (execFlr f s) := by
  unfold execFlr
  try dsimp only
  repeat' first
    | with_reducible assumption
    | (with_reducible refine snd_wf (by assumption) ?_)
    | (with_reducible refine wf_foldl _ (fun _ _ hu => ?_) _ _ ?_)
    | (with_reducible refine wf_foldl_fst _ (fun _ _ hu => ?_) _ _ ?_)
    | (with_reducible refine wf_foldl_snd _ (fun _ _ hu => ?_) _ _ ?_)
    | (with_reducible refine gated_wfs _ _ _ _ _ (by assumption) ?_)
    | (with_reducible refine gatedRead_wfs _ _ _ _ (by assumption) ?_)
    | (with_reducible refine busChecked_wfs _ _ _ _ (by assumption) ?_)
    | (with_reducible exact gate_drop_wf (by assumption) (by assumption))
    | (with_reducible refine drwCommand_wfs _ _ _ _ _ (by assumption) (fun _ _ hu => ?_))
    | (with_reducible refine trsStart_wfs _ _ _ _ _ _ (by assumption) (fun _ _ hu => ?_))
    | split
    | (simp (maxDischargeDepth := 40) [hm]; done)
    | (with_reducible refine State.freePart_wf _ _ ?_)
    | (with_reducible refine State.mbNext_wf _ ?_)
    | (simp (maxDischargeDepth := 40) [*]; done)
    | (simp +contextual (maxDischargeDepth := 60) [wf_foldl, wf_foldl_fst, wf_foldl_snd, *]; done)
    | simp (maxDischargeDepth := 40)

end Sys2Proof.Machine
end

