-- ==== Sys2Proof/Laws/MemCoreCpu.lean ====
section
/-!
SUPPORT. MemCoreCpu.lean: every operation of CoreCpu.lean that writes a byte memory keeps the memories in canonical form.
-/

namespace Sys2Proof.Machine

@[simp] theorem State.coreSpadParts_wf (s : State) (p : Nat) (x1 : List (Nat × Nat)) (x2 : Nat) (hm : (s.except quiet).memWf = true) :
    (State.except (State.coreSpadParts s p x1 x2).2 quiet).memWf = true := by
  induction x1 generalizing s x2 with
  | nil => exact hm
  | cons a l ih =>
    unfold State.coreSpadParts
    repeat' first
      | with_reducible assumption
      | (with_reducible refine snd_wf (by assumption) ?_)
      | (with_reducible refine wf_foldl _ (fun _ _ hu => ?_) _ _ ?_)
      | (with_reducible refine wf_foldl_fst _ (fun _ _ hu => ?_) _ _ ?_)
      | (with_reducible refine wf_foldl_snd _ (fun _ _ hu => ?_) _ _ ?_)
      | (with_reducible refine gated_wfs _ _ _ _ _ (by assumption) ?_)
      | (with_reducible refine gatedRead_wfs _ _ _ _ (by assumption) ?_)
      | (with_reducible refine busChecked_wfs _ _ _ _ (by assumption) ?_)
      | (with_reducible exact gate_drop_wf (by assumption) (by assumption))
      | (with_reducible refine drwCommand_wfs _ _ _ _ _ (by assumption) (fun _ _ hu => ?_))
      | (with_reducible refine trsStart_wfs _ _ _ _ _ _ (by assumption) (fun _ _ hu => ?_))
      | (with_reducible refine ih _ _ ?_)
      | split
      | (simp (maxDischargeDepth := 40) [hm]; done)
      | (simp (maxDischargeDepth := 40) [*]; done)
      | (simp +contextual (maxDischargeDepth := 60) [wf_foldl, wf_foldl_fst, wf_foldl_snd, *]; done)
      | simp (maxDischargeDepth := 40)

@[simp] theorem State.corePageWrite_wf (s : State) (p : Nat) (o : Nat) (w : Word) (hm : (s.except quiet).memWf = true) :
    (State.except (State.corePageWrite s p o w) quiet).memWf = true := by
  unfold State.corePageWrite
  try dsimp only
  repeat' first
    | with_reducible assumption
    | (with_reducible refine snd_wf (by assumption) ?_)
    | (with_reducible refine wf_foldl _ (fun _ _ hu => ?_) _ _ ?_)
    | (with_reducible refine wf_foldl_fst _ (fun _ _ hu => ?_) _ _ ?_)
    | (with_reducible refine wf_foldl_snd _ (fun _ _ hu => ?_) _ _ ?_)
    | (with_reducible refine gated_wfs _ _ _ _ _ (by assumption) ?_)
    | (with_reducible refine gatedRead_wfs _ _ _ _ (by assumption) ?_)
    | (with_reducible refine busChecked_wfs _ _ _ _ (by assumption) ?_)
    | (with_reducible exact gate_drop_wf (by assumption) (by assumption))
    | (with_reducible refine drwCommand_wfs _ _ _ _ _ (by assumption) (fun _ _ hu => ?_))
    | (with_reducible refine trsStart_wfs _ _ _ _ _ _ (by assumption) (fun _ _ hu => ?_))
    | split
    | (simp (maxDischargeDepth := 40) [hm]; done)
    | (with_reducible refine regWrite_wf _ _ _ _ _ ?_)
    | (simp (maxDischargeDepth := 40) [*]; done)
    | (simp +contextual (maxDischargeDepth := 60) [wf_foldl, wf_foldl_fst, wf_foldl_snd, *]; done)
    | simp (maxDischargeDepth := 40)

@[simp] theorem State.coreStackRead_wf (s : State) (p : Nat) (b : Nat) (n : Nat) (ecc : EccRead) (hm : (s.except quiet).memWf = true) :
    (State.except (State.coreStackRead s p b n ecc).2 quiet).memWf = true := by
  unfold State.coreStackRead
  try dsimp only
  repeat' first
    | assumption
    | (with_reducible refine wf_foldl _ (fun _ _ _ => ?_) _ _ ?_)
    | (with_reducible refine wf_foldl_fst _ (fun _ _ _ => ?_) _ _ ?_)
    | (with_reducible refine wf_foldl_snd _ (fun _ _ _ => ?_) _ _ ?_)
    | split
    | (simp (maxDischargeDepth := 40) [*]; done)
    | simp (maxDischargeDepth := 40) [*]

@[simp] theorem State.coreLoad_wf (s : State) (p : Nat) (a : Nat) (n : Nat) (ecc : EccRead) (hm : (s.except quiet).memWf = true) :
    (State.except (State.coreLoad s p a n ecc).2 quiet).memWf = true := by
  fun_cases State.coreLoad <;> simp (maxDischargeDepth := 40) [*]

@[simp] theorem State.corePageStore_wf (s : State) (p : Nat) (o : Nat) (n : Nat) (v : Nat) (hm : (s.except quiet).memWf = true) :
    (State.except (State.corePageStore s p o n v) quiet).memWf = true := by
  unfold State.corePageStore
  try dsimp only
  repeat' first
    | with_reducible assumption
    | (with_reducible refine snd_wf (by assumption) ?_)
    | (with_reducible refine wf_foldl _ (fun _ _ hu => ?_) _ _ ?_)
    | (with_reducible refine wf_foldl_fst _ (fun _ _ hu => ?_) _ _ ?_)
    | (with_reducible refine wf_foldl_snd _ (fun _ _ hu => ?_) _ _ ?_)
    | (with_reducible refine gated_wfs _ _ _ _ _ (by assumption) ?_)
    | (with_reducible refine gatedRead_wfs _ _ _ _ (by assumption) ?_)
    | (with_reducible refine busChecked_wfs _ _ _ _ (by assumption) ?_)
    | (with_reducible exact gate_drop_wf (by assumption) (by assumption))
    | (with_reducible refine drwCommand_wfs _ _ _ _ _ (by assumption) (fun _ _ hu => ?_))
    | (with_reducible refine trsStart_wfs _ _ _ _ _ _ (by assumption) (fun _ _ hu => ?_))
    | split
    | (simp (maxDischargeDepth := 40) [hm]; done)
    | (with_reducible refine State.corePageWrite_wf _ _ _ _ ?_)
    | (simp (maxDischargeDepth := 40) [*]; done)
    | (simp +contextual (maxDischargeDepth := 60) [wf_foldl, wf_foldl_fst, wf_foldl_snd, *]; done)
    | simp (maxDischargeDepth := 40)

@[simp] theorem State.coreStore_wf (s : State) (p : Nat) (a : Nat) (n : Nat) (v : Nat) (hm : (s.except quiet).memWf = true) :
    (State.except (State.coreStore s p a n v).2 quiet).memWf = true := by
  unfold State.coreStore
  (repeat' split) <;> simp (maxDischargeDepth := 40) [*]

@[simp] theorem State.coreStep_wf (s : State) (p : Nat) (op : CoreOp) (len : Nat) (data : EccRead) (hm : (s.except quiet).memWf = true) :
    (State.except (State.coreStep s p op len data) quiet).memWf = true := by
  unfold State.coreStep
  try dsimp only
  repeat' first
    | with_reducible assumption
    | (with_reducible refine snd_wf (by assumption) ?_)
    | (with_reducible refine wf_foldl _ (fun _ _ hu => ?_) _ _ ?_)
    | (with_reducible refine wf_foldl_fst _ (fun _ _ hu => ?_) _ _ ?_)
    | (with_reducible refine wf_foldl_snd _ (fun _ _ hu => ?_) _ _ ?_)
    | (with_reducible refine gated_wfs _ _ _ _ _ (by assumption) ?_)
    | (with_reducible refine gatedRead_wfs _ _ _ _ (by assumption) ?_)
    | (with_reducible refine busChecked_wfs _ _ _ _ (by assumption) ?_)
    | (with_reducible exact gate_drop_wf (by assumption) (by assumption))
    | (with_reducible refine drwCommand_wfs _ _ _ _ _ (by assumption) (fun _ _ hu => ?_))
    | (with_reducible refine trsStart_wfs _ _ _ _ _ _ (by assumption) (fun _ _ hu => ?_))
    | split
    | (simp (maxDischargeDepth := 40) [hm]; done)
    | (with_reducible refine State.coreLoad_wf _ _ _ _ _ ?_)
    | (with_reducible refine State.coreStore_wf _ _ _ _ _ ?_)
    | (simp (maxDischargeDepth := 40) [*]; done)
    | (simp +contextual (maxDischargeDepth := 60) [wf_foldl, wf_foldl_fst, wf_foldl_snd, *]; done)
    | simp (maxDischargeDepth := 40)

@[simp] theorem execCoreInstruction_wfs (p : Nat) (fetch : EccRead) (data : EccRead) (parity : Option Nat) (s : State) (hm : (s.except quiet).memWf = true) :
    Result.wfs (execCoreInstruction p fetch data parity s) := by
  unfold execCoreInstruction
  try dsimp only
  repeat' first
    | with_reducible assumption
    | (with_reducible refine snd_wf (by assumption) ?_)
    | (with_reducible refine wf_foldl _ (fun _ _ hu => ?_) _ _ ?_)
    | (with_reducible refine wf_foldl_fst _ (fun _ _ hu => ?_) _ _ ?_)
    | (with_reducible refine wf_foldl_snd _ (fun _ _ hu => ?_) _ _ ?_)
    | (with_reducible refine gated_wfs _ _ _ _ _ (by assumption) ?_)
    | (with_reducible refine gatedRead_wfs _ _ _ _ (by assumption) ?_)
    | (with_reducible refine busChecked_wfs _ _ _ _ (by assumption) ?_)
    | (with_reducible exact gate_drop_wf (by assumption) (by assumption))
    | (with_reducible refine drwCommand_wfs _ _ _ _ _ (by assumption) (fun _ _ hu => ?_))
    | (with_reducible refine trsStart_wfs _ _ _ _ _ _ (by assumption) (fun _ _ hu => ?_))
    | split
    | (simp (maxDischargeDepth := 40) [hm]; done)
    | (with_reducible refine State.coreStep_wf _ _ _ _ _ ?_)
    | (simp (maxDischargeDepth := 40) [*]; done)
    | (simp +contextual (maxDischargeDepth := 60) [wf_foldl, wf_foldl_fst, wf_foldl_snd, *]; done)
    | simp (maxDischargeDepth := 40)

@[simp] theorem State.queuePut_wf (s : State) (p : Nat) (a : Nat) (m : Nat) (hm : (s.except quiet).memWf = true) :
    (State.except (State.queuePut s p a m) quiet).memWf = true := by
  unfold State.queuePut
  try dsimp only
  repeat' first
    | with_reducible assumption
    | (with_reducible refine snd_wf (by assumption) ?_)
    | (with_reducible refine wf_foldl _ (fun _ _ hu => ?_) _ _ ?_)
    | (with_reducible refine wf_foldl_fst _ (fun _ _ hu => ?_) _ _ ?_)
    | (with_reducible refine wf_foldl_snd _ (fun _ _ hu => ?_) _ _ ?_)
    | (with_reducible refine gated_wfs _ _ _ _ _ (by assumption) ?_)
    | (with_reducible refine gatedRead_wfs _ _ _ _ (by assumption) ?_)
    | (with_reducible refine busChecked_wfs _ _ _ _ (by assumption) ?_)
    | (with_reducible exact gate_drop_wf (by assumption) (by assumption))
    | (with_reducible refine drwCommand_wfs _ _ _ _ _ (by assumption) (fun _ _ hu => ?_))
    | split
    | (simp (maxDischargeDepth := 40) [hm]; done)
    | (with_reducible refine State.areaSet_wf _ _ _ _ _ _ ?_)
    | (simp (maxDischargeDepth := 40) [*]; done)
    | (simp +contextual (maxDischargeDepth := 60) [wf_foldl, wf_foldl_fst, wf_foldl_snd, *]; done)
    | simp (maxDischargeDepth := 40)

@[simp] theorem State.coreSend_wf (s : State) (p : Nat) (rd : Nat) (kind : Nat) (qid : Nat) (a : Nat) (limit : Option Nat) (mc : Option (Nat × List Nat)) (ecc : EccRead) (hm : (s.except quiet).memWf = true) :
    (State.except (State.coreSend s p rd kind qid a limit mc ecc) quiet).memWf = true := by
  simp (maxDischargeDepth := 40) [State.coreSend, *]

@[simp] theorem execQsend_wfs (p : Nat) (ecc : EccRead) (s : State) (hm : (s.except quiet).memWf = true) :
    Result.wfs (execQsend p ecc s) := by
  fun_cases execQsend <;> simp (maxDischargeDepth := 40) [*]

@[simp] theorem execQsendT_wfs (p : Nat) (ecc : EccRead) (s : State) (hm : (s.except quiet).memWf = true) :
    Result.wfs (execQsendT p ecc s) := by
  fun_cases execQsendT <;> simp (maxDischargeDepth := 40) [*]

@[simp] theorem execQmcast_wfs (p : Nat) (ecc : QmReads) (s : State) (hm : (s.except quiet).memWf = true) :
    Result.wfs (execQmcast p ecc s) := by
  unfold execQmcast
  try dsimp only
  repeat' first
    | with_reducible assumption
    | (with_reducible refine snd_wf (by assumption) ?_)
    | (with_reducible refine wf_foldl _ (fun _ _ hu => ?_) _ _ ?_)
    | (with_reducible refine wf_foldl_fst _ (fun _ _ hu => ?_) _ _ ?_)
    | (with_reducible refine wf_foldl_snd _ (fun _ _ hu => ?_) _ _ ?_)
    | (with_reducible refine gated_wfs _ _ _ _ _ (by assumption) ?_)
    | (with_reducible refine gatedRead_wfs _ _ _ _ (by assumption) ?_)
    | (with_reducible refine busChecked_wfs _ _ _ _ (by assumption) ?_)
    | (with_reducible exact gate_drop_wf (by assumption) (by assumption))
    | (with_reducible refine drwCommand_wfs _ _ _ _ _ (by assumption) (fun _ _ hu => ?_))
    | split
    | (simp (maxDischargeDepth := 40) [hm]; done)
    | (with_reducible refine State.coreSend_wf _ _ _ _ _ _ _ _ _ ?_)
    | (simp (maxDischargeDepth := 40) [*]; done)
    | (simp +contextual (maxDischargeDepth := 60) [wf_foldl, wf_foldl_fst, wf_foldl_snd, *]; done)
    | simp (maxDischargeDepth := 40)

@[simp] theorem State.receive_wf (s : State) (p : Nat) (q : Nat) (rd : Nat) (a : Nat) (ecc : EccRead) (hm : (s.except quiet).memWf = true) :
    (State.except (State.receive s p q rd a ecc) quiet).memWf = true := by
  simp (maxDischargeDepth := 40) [State.receive, *]

@[simp] theorem execQrecv_wfs (p : Nat) (ecc : QmReads) (s : State) (hm : (s.except quiet).memWf = true) :
    Result.wfs (execQrecv p ecc s) := by
  unfold execQrecv
  try dsimp only
  repeat' first
    | with_reducible assumption
    | (with_reducible refine snd_wf (by assumption) ?_)
    | (with_reducible refine wf_foldl _ (fun _ _ hu => ?_) _ _ ?_)
    | (with_reducible refine wf_foldl_fst _ (fun _ _ hu => ?_) _ _ ?_)
    | (with_reducible refine wf_foldl_snd _ (fun _ _ hu => ?_) _ _ ?_)
    | (with_reducible refine gated_wfs _ _ _ _ _ (by assumption) ?_)
    | (with_reducible refine gatedRead_wfs _ _ _ _ (by assumption) ?_)
    | (with_reducible refine busChecked_wfs _ _ _ _ (by assumption) ?_)
    | (with_reducible exact gate_drop_wf (by assumption) (by assumption))
    | (with_reducible refine drwCommand_wfs _ _ _ _ _ (by assumption) (fun _ _ hu => ?_))
    | split
    | (simp (maxDischargeDepth := 40) [hm]; done)
    | (with_reducible refine State.receive_wf _ _ _ _ _ _ ?_)
    | (simp (maxDischargeDepth := 40) [*]; done)
    | (simp +contextual (maxDischargeDepth := 60) [wf_foldl, wf_foldl_fst, wf_foldl_snd, *]; done)
    | simp (maxDischargeDepth := 40)

@[simp] theorem execQrecvReceive_wfs (p : Nat) (ecc : QmReads) (s : State) (hm : (s.except quiet).memWf = true) :
    Result.wfs (execQrecvReceive p ecc s) := by
  fun_cases execQrecvReceive <;> simp (maxDischargeDepth := 40) [*]

@[simp] theorem execQpeek_wfs (p : Nat) (ecc : QmReads) (s : State) (hm : (s.except quiet).memWf = true) :
    Result.wfs (execQpeek p ecc s) := by
  unfold execQpeek
  try dsimp only
  repeat' first
    | assumption
    | (with_reducible refine wf_foldl _ (fun _ _ _ => ?_) _ _ ?_)
    | (with_reducible refine wf_foldl_fst _ (fun _ _ _ => ?_) _ _ ?_)
    | (with_reducible refine wf_foldl_snd _ (fun _ _ _ => ?_) _ _ ?_)
    | split
    | (simp (maxDischargeDepth := 40) [*]; done)
    | simp (maxDischargeDepth := 40) [*]

end Sys2Proof.Machine
end

