-- ==== Sys2Proof/Laws/MemEndpoint.lean ====
section
/-!
SUPPORT. MemEndpoint.lean: every operation of Endpoint.lean that writes a byte memory keeps the memories in canonical form.
-/

namespace Sys2Proof.Machine

@[simp] theorem State.acceptEvent_wf (s : State) (p : Nat) (esc : Bool) (f : Flit) (hm : (s.except quiet).memWf = true) :
    (State.except (State.acceptEvent s p esc f) quiet).memWf = true := by
  unfold State.acceptEvent
  dsimp only
  (repeat' split) <;> simp_all (maxDischargeDepth := 40)

@[simp] theorem State.deliver_wf (s : State) (e : Nat) (esc : Bool) (f : Flit) (hm : (s.except quiet).memWf = true) :
    (State.except (State.deliver s e esc f) quiet).memWf = true := by
  unfold State.deliver
  (repeat' split) <;> simp_all (maxDischargeDepth := 40)

@[simp] theorem State.robDrain_wf (e : Nat) (pk : Nat) (n : Nat) (s : State) (hm : (s.except quiet).memWf = true) :
    (State.except (State.robDrain e pk n s) quiet).memWf = true := by
  induction n generalizing s with
  | zero => exact hm
  | succ n ih =>
    unfold State.robDrain
    (repeat' split) <;> simp_all (maxDischargeDepth := 40)

@[simp] theorem execFlitEject_wfs (e : Nat) (esc : Bool) (f : Flit) (s : State) (hm : (s.except quiet).memWf = true) :
    Result.wfs (execFlitEject e esc f s) := by
  unfold execFlitEject
  dsimp only
  (repeat' split) <;> simp_all (maxDischargeDepth := 40)

@[simp] theorem execRobTimeout_wfs (e : Nat) (s : State) (hm : (s.except quiet).memWf = true) :
    Result.wfs (execRobTimeout e s) := by
  unfold execRobTimeout
  dsimp only
  (repeat' split) <;> simp_all (maxDischargeDepth := 40)

@[simp] theorem State.robResume_wf (s : State) (e : Nat) (hm : (s.except quiet).memWf = true) :
    (State.except (State.robResume s e) quiet).memWf = true :=
  wf_foldl _ (fun _ _ hu => State.robDrain_wf _ _ _ _ hu) _ _ hm

end Sys2Proof.Machine
end

