-- ==== Sys2Proof/Laws/MemRounds.lean ====
section
/-!
SUPPORT. MemRounds.lean: every operation of Rounds.lean that writes a byte memory keeps the memories in canonical form.
-/

namespace Sys2Proof.Machine

@[simp] theorem State.cabRound_wf (s : State) (p : Nat) (inst : Nat) (v : Nat) (own : Option Contrib) (hm : (s.except quiet).memWf = true) :
    (State.except (State.cabRound s p inst v own) quiet).memWf = true := by
  unfold State.cabRound
  try dsimp only
  (repeat' split) <;> simp_all (maxDischargeDepth := 40)

@[simp] theorem State.sourceRound_wf (s : State) (e : Nat) (src : Nat) (k : Nat) (inst : Nat) (v : Nat) (incomplete : Bool) (hm : (s.except quiet).memWf = true) :
    (State.except (State.sourceRound s e src k inst v incomplete) quiet).memWf = true := by
  unfold State.sourceRound
  try dsimp only
  (repeat' split) <;> simp_all (maxDischargeDepth := 40)

@[simp] theorem execRedDownReceive_wfs (e : Nat) (s : State) (hm : (s.except quiet).memWf = true) :
    Result.wfs (execRedDownReceive e s) := by
  unfold execRedDownReceive
  try dsimp only
  (repeat' split) <;> simp_all (maxDischargeDepth := 40)

end Sys2Proof.Machine
end

