-- ==== Sys2Proof/Laws/MemIntegrity.lean ====
section
/-!
SUPPORT. MemIntegrity.lean: every operation of Integrity.lean that writes a byte memory keeps the memories in canonical form.
-/

namespace Sys2Proof.Machine

@[simp] theorem State.cabFaulted_wf (s : State) (p : Nat) (td : Nat) (inPlace : Bool) (hm : (s.except quiet).memWf = true) :
    (State.except (State.cabFaulted s p td inPlace) quiet).memWf = true := by
  unfold State.cabFaulted
  try dsimp only
  repeat' first
    | with_reducible assumption
    | (with_reducible refine snd_wf (by assumption) ?_)
    | (with_reducible refine wf_foldl _ (fun _ _ hu => ?_) _ _ ?_)
    | (with_reducible refine wf_foldl_fst _ (fun _ _ hu => ?_) _ _ ?_)
    | (with_reducible refine wf_foldl_snd _ (fun _ _ hu => ?_) _ _ ?_)
    | (with_reducible refine gated_wfs _ _ _ _ _ (by assumption) ?_)
    | (with_reducible refine gatedRead_wfs _ _ _ _ (by assumption) ?_)
    | (with_reducible refine busChecked_wfs _ _ _ _ (by assumption) ?_)
    | (with_reducible exact gate_drop_wf (by assumption) (by assumption))
    | (with_reducible refine drwCommand_wfs _ _ _ _ _ (by assumption) (fun _ _ hu => ?_))
    | split
    | (simp (maxDischargeDepth := 40) [hm]; done)
    | (with_reducible refine State.stopped_wf _ _ _ ?_)
    | (with_reducible refine State.moveAbandon_wf _ _ ?_)
    | (with_reducible refine step_wf _ ?_)
    | (simp (maxDischargeDepth := 40) [*]; done)
    | (simp +contextual (maxDischargeDepth := 60) [wf_foldl, wf_foldl_fst, wf_foldl_snd, *]; done)
    | simp (maxDischargeDepth := 40)

@[simp] theorem State.flitLost_wf (s : State) (arg : Nat) (td : Nat) (hm : (s.except quiet).memWf = true) :
    (State.except (State.flitLost s arg td) quiet).memWf = true := by
  unfold State.flitLost
  try dsimp only
  repeat' first
    | with_reducible assumption
    | (with_reducible refine snd_wf (by assumption) ?_)
    | (with_reducible refine wf_foldl _ (fun _ _ hu => ?_) _ _ ?_)
    | (with_reducible refine wf_foldl_fst _ (fun _ _ hu => ?_) _ _ ?_)
    | (with_reducible refine wf_foldl_snd _ (fun _ _ hu => ?_) _ _ ?_)
    | (with_reducible refine gated_wfs _ _ _ _ _ (by assumption) ?_)
    | (with_reducible refine gatedRead_wfs _ _ _ _ (by assumption) ?_)
    | (with_reducible refine busChecked_wfs _ _ _ _ (by assumption) ?_)
    | (with_reducible exact gate_drop_wf (by assumption) (by assumption))
    | (with_reducible refine drwCommand_wfs _ _ _ _ _ (by assumption) (fun _ _ hu => ?_))
    | split
    | (simp (maxDischargeDepth := 40) [hm]; done)
    | (with_reducible refine State.cabFaulted_wf _ _ _ _ ?_)
    | (simp (maxDischargeDepth := 40) [*]; done)
    | (simp +contextual (maxDischargeDepth := 60) [wf_foldl, wf_foldl_fst, wf_foldl_snd, *]; done)
    | simp (maxDischargeDepth := 40)

@[simp] theorem State.handleFault_wf (s : State) (f : FaultReport) (hm : (s.except quiet).memWf = true) :
    (State.except (State.handleFault s f) quiet).memWf = true := by
  unfold State.handleFault
  try dsimp only
  repeat' first
    | with_reducible assumption
    | (with_reducible refine snd_wf (by assumption) ?_)
    | (with_reducible refine wf_foldl _ (fun _ _ hu => ?_) _ _ ?_)
    | (with_reducible refine wf_foldl_fst _ (fun _ _ hu => ?_) _ _ ?_)
    | (with_reducible refine wf_foldl_snd _ (fun _ _ hu => ?_) _ _ ?_)
    | (with_reducible refine gated_wfs _ _ _ _ _ (by assumption) ?_)
    | (with_reducible refine gatedRead_wfs _ _ _ _ (by assumption) ?_)
    | (with_reducible refine busChecked_wfs _ _ _ _ (by assumption) ?_)
    | (with_reducible exact gate_drop_wf (by assumption) (by assumption))
    | (with_reducible refine drwCommand_wfs _ _ _ _ _ (by assumption) (fun _ _ hu => ?_))
    | split
    | (simp (maxDischargeDepth := 40) [hm]; done)
    | (with_reducible refine State.cabFaulted_wf _ _ _ _ ?_)
    | (with_reducible refine State.flitLost_wf _ _ _ ?_)
    | (simp (maxDischargeDepth := 40) [*]; done)
    | (simp +contextual (maxDischargeDepth := 60) [wf_foldl, wf_foldl_fst, wf_foldl_snd, *]; done)
    | simp (maxDischargeDepth := 40)

@[simp] theorem execFaultReport_wfs (s : State) (hm : (s.except quiet).memWf = true) :
    Result.wfs (execFaultReport s) := by
  unfold execFaultReport
  try dsimp only
  repeat' first
    | with_reducible assumption
    | (with_reducible refine snd_wf (by assumption) ?_)
    | (with_reducible refine wf_foldl _ (fun _ _ hu => ?_) _ _ ?_)
    | (with_reducible refine wf_foldl_fst _ (fun _ _ hu => ?_) _ _ ?_)
    | (with_reducible refine wf_foldl_snd _ (fun _ _ hu => ?_) _ _ ?_)
    | (with_reducible refine gated_wfs _ _ _ _ _ (by assumption) ?_)
    | (with_reducible refine gatedRead_wfs _ _ _ _ (by assumption) ?_)
    | (with_reducible refine busChecked_wfs _ _ _ _ (by assumption) ?_)
    | (with_reducible exact gate_drop_wf (by assumption) (by assumption))
    | (with_reducible refine drwCommand_wfs _ _ _ _ _ (by assumption) (fun _ _ hu => ?_))
    | split
    | (simp (maxDischargeDepth := 40) [hm]; done)
    | (with_reducible refine State.handleFault_wf _ _ ?_)
    | (simp (maxDischargeDepth := 40) [*]; done)
    | (simp +contextual (maxDischargeDepth := 60) [wf_foldl, wf_foldl_fst, wf_foldl_snd, *]; done)
    | simp (maxDischargeDepth := 40)

@[simp] theorem execSilentCabinet_wfs (k : Nat) (s : State) (hm : (s.except quiet).memWf = true) :
    Result.wfs (execSilentCabinet k s) := by
  unfold execSilentCabinet
  try dsimp only
  repeat' first
    | with_reducible assumption
    | (with_reducible refine snd_wf (by assumption) ?_)
    | (with_reducible refine wf_foldl _ (fun _ _ hu => ?_) _ _ ?_)
    | (with_reducible refine wf_foldl_fst _ (fun _ _ hu => ?_) _ _ ?_)
    | (with_reducible refine wf_foldl_snd _ (fun _ _ hu => ?_) _ _ ?_)
    | (with_reducible refine gated_wfs _ _ _ _ _ (by assumption) ?_)
    | (with_reducible refine gatedRead_wfs _ _ _ _ (by assumption) ?_)
    | (with_reducible refine busChecked_wfs _ _ _ _ (by assumption) ?_)
    | (with_reducible exact gate_drop_wf (by assumption) (by assumption))
    | (with_reducible refine drwCommand_wfs _ _ _ _ _ (by assumption) (fun _ _ hu => ?_))
    | split
    | (simp (maxDischargeDepth := 40) [hm]; done)
    | (with_reducible refine State.cabFaulted_wf _ _ _ _ ?_)
    | (simp (maxDischargeDepth := 40) [*]; done)
    | (simp +contextual (maxDischargeDepth := 60) [wf_foldl, wf_foldl_fst, wf_foldl_snd, *]; done)
    | simp (maxDischargeDepth := 40)

@[simp] theorem execCheckpointValid_wfs (p : Nat) (s : State) (hm : (s.except quiet).memWf = true) :
    Result.wfs (execCheckpointValid p s) := by
  unfold execCheckpointValid
  dsimp only
  split <;> simp (maxDischargeDepth := 40) [hm]

@[simp] theorem State.undoAll_wf (s : State) (l : List (Nat × Nat)) (hm : (s.except quiet).memWf = true) :
    (State.except (State.undoAll s l) quiet).memWf = true := by
  unfold State.undoAll
  try dsimp only
  repeat' first
    | assumption
    | (with_reducible refine wf_foldl _ (fun _ _ _ => ?_) _ _ ?_)
    | (with_reducible refine wf_foldl_fst _ (fun _ _ _ => ?_) _ _ ?_)
    | (with_reducible refine wf_foldl_snd _ (fun _ _ _ => ?_) _ _ ?_)
    | split
    | (simp (maxDischargeDepth := 40) [*]; done)
    | simp (maxDischargeDepth := 40) [*]

@[simp] theorem State.replayOffer_wf (s : State) (p : Nat) (e : Nat × Nat) (hm : (s.except quiet).memWf = true) :
    (State.except (State.replayOffer s p e).2 quiet).memWf = true := by
  simp (maxDischargeDepth := 40) [State.replayOffer, *]

@[simp] theorem State.replayQueues_wf (p : Nat) (x1 : List (Nat × Nat)) (x2 : State) (hm : (x2.except quiet).memWf = true) :
    (State.except (State.replayQueues p x1 x2).2 quiet).memWf = true := by
  induction x1 generalizing x2 with
  | nil => exact hm
  | cons a l ih =>
    unfold State.replayQueues
    dsimp only
    repeat' first
      | with_reducible assumption
      | (with_reducible refine snd_wf (by assumption) ?_)
      | (with_reducible refine wf_foldl _ (fun _ _ hu => ?_) _ _ ?_)
      | (with_reducible refine wf_foldl_fst _ (fun _ _ hu => ?_) _ _ ?_)
      | (with_reducible refine wf_foldl_snd _ (fun _ _ hu => ?_) _ _ ?_)
      | (with_reducible refine gated_wfs _ _ _ _ _ (by assumption) ?_)
      | (with_reducible refine gatedRead_wfs _ _ _ _ (by assumption) ?_)
      | (with_reducible refine busChecked_wfs _ _ _ _ (by assumption) ?_)
      | (with_reducible exact gate_drop_wf (by assumption) (by assumption))
      | (with_reducible refine drwCommand_wfs _ _ _ _ _ (by assumption) (fun _ _ hu => ?_))
      | (with_reducible refine trsStart_wfs _ _ _ _ _ _ (by assumption) (fun _ _ hu => ?_))
      | (with_reducible refine ih _ ?_)
      | split
      | (simp (maxDischargeDepth := 40) [hm]; done)
      | (simp (maxDischargeDepth := 40) [*]; done)
      | (simp +contextual (maxDischargeDepth := 60) [wf_foldl, wf_foldl_fst, wf_foldl_snd, *]; done)
      | simp (maxDischargeDepth := 40)

@[simp] theorem State.replayReds_wf (p : Nat) (x1 : List (Nat × Nat)) (x2 : State) (hm : (x2.except quiet).memWf = true) :
    (State.except (State.replayReds p x1 x2).2 quiet).memWf = true := by
  induction x1 generalizing x2 with
  | nil => exact hm
  | cons a l ih =>
    unfold State.replayReds
    dsimp only
    repeat' first
      | with_reducible assumption
      | (with_reducible refine snd_wf (by assumption) ?_)
      | (with_reducible refine wf_foldl _ (fun _ _ hu => ?_) _ _ ?_)
      | (with_reducible refine wf_foldl_fst _ (fun _ _ hu => ?_) _ _ ?_)
      | (with_reducible refine wf_foldl_snd _ (fun _ _ hu => ?_) _ _ ?_)
      | (with_reducible refine gated_wfs _ _ _ _ _ (by assumption) ?_)
      | (with_reducible refine gatedRead_wfs _ _ _ _ (by assumption) ?_)
      | (with_reducible refine busChecked_wfs _ _ _ _ (by assumption) ?_)
      | (with_reducible exact gate_drop_wf (by assumption) (by assumption))
      | (with_reducible refine drwCommand_wfs _ _ _ _ _ (by assumption) (fun _ _ hu => ?_))
      | (with_reducible refine trsStart_wfs _ _ _ _ _ _ (by assumption) (fun _ _ hu => ?_))
      | (with_reducible refine ih _ ?_)
      | split
      | (simp (maxDischargeDepth := 40) [hm]; done)
      | (simp (maxDischargeDepth := 40) [*]; done)
      | (simp +contextual (maxDischargeDepth := 60) [wf_foldl, wf_foldl_fst, wf_foldl_snd, *]; done)
      | simp (maxDischargeDepth := 40)

@[simp] theorem State.replayTake_wf (s : State) (r : Recov) (hm : (s.except quiet).memWf = true) :
    (State.except (State.replayTake s r) quiet).memWf = true := by
  simp (maxDischargeDepth := 40) [State.replayTake, *]

@[simp] theorem State.restore_wf (s : State) (r : Recov) (ck : Ckpt) (hm : (s.except quiet).memWf = true) :
    (State.except (State.restore s r ck) quiet).memWf = true := by
  unfold State.restore
  try dsimp only
  repeat' first
    | with_reducible assumption
    | (with_reducible refine snd_wf (by assumption) ?_)
    | (with_reducible refine wf_foldl _ (fun _ _ hu => ?_) _ _ ?_)
    | (with_reducible refine wf_foldl_fst _ (fun _ _ hu => ?_) _ _ ?_)
    | (with_reducible refine wf_foldl_snd _ (fun _ _ hu => ?_) _ _ ?_)
    | (with_reducible refine gated_wfs _ _ _ _ _ (by assumption) ?_)
    | (with_reducible refine gatedRead_wfs _ _ _ _ (by assumption) ?_)
    | (with_reducible refine busChecked_wfs _ _ _ _ (by assumption) ?_)
    | (with_reducible exact gate_drop_wf (by assumption) (by assumption))
    | (with_reducible refine drwCommand_wfs _ _ _ _ _ (by assumption) (fun _ _ hu => ?_))
    | (with_reducible refine trsStart_wfs _ _ _ _ _ _ (by assumption) (fun _ _ hu => ?_))
    | split
    | (simp (maxDischargeDepth := 40) [hm]; done)
    | (with_reducible refine State.openPos_wf _ _ _ ?_)
    | (with_reducible refine State.putCabBytes_wf _ _ _ ?_)
    | (simp (maxDischargeDepth := 40) [*]; done)
    | (simp +contextual (maxDischargeDepth := 60) [wf_foldl, wf_foldl_fst, wf_foldl_snd, *]; done)
    | simp (maxDischargeDepth := 40)

@[simp] theorem execRecoveryRestoreDone_wfs (k : Nat) (ok : Bool) (s : State) (hm : (s.except quiet).memWf = true) :
    Result.wfs (execRecoveryRestoreDone k ok s) := by
  unfold execRecoveryRestoreDone
  try dsimp only
  repeat' first
    | with_reducible assumption
    | (with_reducible refine snd_wf (by assumption) ?_)
    | (with_reducible refine wf_foldl _ (fun _ _ hu => ?_) _ _ ?_)
    | (with_reducible refine wf_foldl_fst _ (fun _ _ hu => ?_) _ _ ?_)
    | (with_reducible refine wf_foldl_snd _ (fun _ _ hu => ?_) _ _ ?_)
    | (with_reducible refine gated_wfs _ _ _ _ _ (by assumption) ?_)
    | (with_reducible refine gatedRead_wfs _ _ _ _ (by assumption) ?_)
    | (with_reducible refine busChecked_wfs _ _ _ _ (by assumption) ?_)
    | (with_reducible exact gate_drop_wf (by assumption) (by assumption))
    | (with_reducible refine drwCommand_wfs _ _ _ _ _ (by assumption) (fun _ _ hu => ?_))
    | (with_reducible refine trsStart_wfs _ _ _ _ _ _ (by assumption) (fun _ _ hu => ?_))
    | split
    | (simp (maxDischargeDepth := 40) [hm]; done)
    | (with_reducible refine State.undoAll_wf _ _ ?_)
    | (with_reducible refine State.restore_wf _ _ _ ?_)
    | (with_reducible refine State.relaunch_wf _ _ _ ?_)
    | (with_reducible refine State.replayTake_wf _ _ ?_)
    | (simp (maxDischargeDepth := 40) [*]; done)
    | (simp +contextual (maxDischargeDepth := 60) [wf_foldl, wf_foldl_fst, wf_foldl_snd, *]; done)
    | simp (maxDischargeDepth := 40)

@[simp] theorem execFrontSend_wfs (k : Nat) (s : State) (hm : (s.except quiet).memWf = true) :
    Result.wfs (execFrontSend k s) := by
  unfold execFrontSend
  try dsimp only
  repeat' first
    | assumption
    | (with_reducible refine wf_foldl _ (fun _ _ _ => ?_) _ _ ?_)
    | (with_reducible refine wf_foldl_fst _ (fun _ _ _ => ?_) _ _ ?_)
    | (with_reducible refine wf_foldl_snd _ (fun _ _ _ => ?_) _ _ ?_)
    | split
    | (simp (maxDischargeDepth := 40) [*]; done)
    | simp (maxDischargeDepth := 40) [*]

@[simp] theorem State.recFinish_wf (s : State) (r : Recov) (hm : (s.except quiet).memWf = true) :
    (State.except (State.recFinish s r) quiet).memWf = true := by
  unfold State.recFinish
  try dsimp only
  repeat' first
    | with_reducible assumption
    | (with_reducible refine snd_wf (by assumption) ?_)
    | (with_reducible refine wf_foldl _ (fun _ _ hu => ?_) _ _ ?_)
    | (with_reducible refine wf_foldl_fst _ (fun _ _ hu => ?_) _ _ ?_)
    | (with_reducible refine wf_foldl_snd _ (fun _ _ hu => ?_) _ _ ?_)
    | (with_reducible refine gated_wfs _ _ _ _ _ (by assumption) ?_)
    | (with_reducible refine gatedRead_wfs _ _ _ _ (by assumption) ?_)
    | (with_reducible refine busChecked_wfs _ _ _ _ (by assumption) ?_)
    | (with_reducible exact gate_drop_wf (by assumption) (by assumption))
    | (with_reducible refine drwCommand_wfs _ _ _ _ _ (by assumption) (fun _ _ hu => ?_))
    | (with_reducible refine trsStart_wfs _ _ _ _ _ _ (by assumption) (fun _ _ hu => ?_))
    | split
    | (simp (maxDischargeDepth := 40) [hm]; done)
    | (with_reducible refine State.closePos_wf _ _ ?_)
    | (simp (maxDischargeDepth := 40) [*]; done)
    | (simp +contextual (maxDischargeDepth := 60) [wf_foldl, wf_foldl_fst, wf_foldl_snd, *]; done)
    | simp (maxDischargeDepth := 40)

@[simp] theorem execReplayComplete_wfs (k : Nat) (s : State) (hm : (s.except quiet).memWf = true) :
    Result.wfs (execReplayComplete k s) := by
  unfold execReplayComplete
  try dsimp only
  repeat' first
    | assumption
    | (with_reducible refine wf_foldl _ (fun _ _ _ => ?_) _ _ ?_)
    | (with_reducible refine wf_foldl_fst _ (fun _ _ _ => ?_) _ _ ?_)
    | (with_reducible refine wf_foldl_snd _ (fun _ _ _ => ?_) _ _ ?_)
    | split
    | (simp (maxDischargeDepth := 40) [*]; done)
    | simp (maxDischargeDepth := 40) [*]

end Sys2Proof.Machine
end

