-- ==== Sys2Proof/Laws/State.lean ====
section
/-!
SUPPORT. State.lean: one lemma per field per primitive update of the state, each true by definition: the update leaves every field but its
own as it was. Later proofs need not unfold a record update. (The lemmas named with_ say it of a plain record update; through them the
kernel never compares the new value with the old one.)
-/

namespace Sys2Proof.Machine

variable (s : State)

theorem with_regs_pending {x} : State.pending { s with regs := x } = s.pending := rfl
theorem with_regs_resp {x} : State.resp { s with regs := x } = s.resp := rfl
theorem with_regs_fuses {x} : State.fuses { s with regs := x } = s.fuses := rfl
theorem with_regs_draws {x} : State.draws { s with regs := x } = s.draws := rfl
theorem with_regs_mem {x} : State.mem { s with regs := x } = s.mem := rfl
theorem with_regs_logs {x} : State.logs { s with regs := x } = s.logs := rfl
theorem with_regs_faultReports {x} : State.faultReports { s with regs := x } = s.faultReports := rfl
theorem with_regs_locks {x} : State.locks { s with regs := x } = s.locks := rfl
theorem with_regs_latches {x} : State.latches { s with regs := x } = s.latches := rfl
theorem with_regs_staging {x} : State.staging { s with regs := x } = s.staging := rfl
theorem with_regs_tb {x} : State.tb { s with regs := x } = s.tb := rfl
theorem with_regs_timers {x} : State.timers { s with regs := x } = s.timers := rfl
theorem with_regs_trigQual {x} : State.trigQual { s with regs := x } = s.trigQual := rfl
theorem with_regs_trigEvents {x} : State.trigEvents { s with regs := x } = s.trigEvents := rfl
theorem with_regs_synced {x} : State.synced { s with regs := x } = s.synced := rfl
theorem with_regs_freeze {x} : State.freeze { s with regs := x } = s.freeze := rfl
theorem with_regs_traces {x} : State.traces { s with regs := x } = s.traces := rfl
theorem with_regs_debugger {x} : State.debugger { s with regs := x } = s.debugger := rfl
theorem with_regs_doms {x} : State.doms { s with regs := x } = s.doms := rfl
theorem with_regs_devPwr {x} : State.devPwr { s with regs := x } = s.devPwr := rfl
theorem with_regs_d3hot {x} : State.d3hot { s with regs := x } = s.d3hot := rfl
theorem with_regs_partState {x} : State.partState { s with regs := x } = s.partState := rfl
theorem with_regs_maps {x} : State.maps { s with regs := x } = s.maps := rfl
theorem with_regs_maps2 {x} : State.maps2 { s with regs := x } = s.maps2 := rfl
theorem with_regs_mapCur {x} : State.mapCur { s with regs := x } = s.mapCur := rfl
theorem with_regs_mapRe {x} : State.mapRe { s with regs := x } = s.mapRe := rfl
theorem with_regs_net {x} : State.net { s with regs := x } = s.net := rfl
theorem with_regs_arrivals {x} : State.arrivals { s with regs := x } = s.arrivals := rfl
theorem with_regs_inbox {x} : State.inbox { s with regs := x } = s.inbox := rfl
theorem with_regs_redIn {x} : State.redIn { s with regs := x } = s.redIn := rfl
theorem with_regs_robs {x} : State.robs { s with regs := x } = s.robs := rfl
theorem with_regs_expect {x} : State.expect { s with regs := x } = s.expect := rfl
theorem with_regs_seqs {x} : State.seqs { s with regs := x } = s.seqs := rfl
theorem with_regs_pressure {x} : State.pressure { s with regs := x } = s.pressure := rfl
theorem with_regs_partials {x} : State.partials { s with regs := x } = s.partials := rfl
theorem with_regs_links {x} : State.links { s with regs := x } = s.links := rfl
theorem with_regs_d2dReplays {x} : State.d2dReplays { s with regs := x } = s.d2dReplays := rfl
theorem with_regs_d2dRetried {x} : State.d2dRetried { s with regs := x } = s.d2dRetried := rfl
theorem with_regs_leaves {x} : State.leaves { s with regs := x } = s.leaves := rfl
theorem with_regs_notices {x} : State.notices { s with regs := x } = s.notices := rfl
theorem with_regs_sources {x} : State.sources { s with regs := x } = s.sources := rfl
theorem with_regs_chans {x} : State.chans { s with regs := x } = s.chans := rfl
theorem with_regs_decs {x} : State.decs { s with regs := x } = s.decs := rfl
theorem with_regs_hostMem {x} : State.hostMem { s with regs := x } = s.hostMem := rfl
theorem with_regs_rings {x} : State.rings { s with regs := x } = s.rings := rfl
theorem with_regs_cabs {x} : State.cabs { s with regs := x } = s.cabs := rfl
theorem with_regs_hutches {x} : State.hutches { s with regs := x } = s.hutches := rfl
theorem with_regs_parts {x} : State.parts { s with regs := x } = s.parts := rfl
theorem with_regs_journals {x} : State.journals { s with regs := x } = s.journals := rfl
theorem with_regs_ckpts {x} : State.ckpts { s with regs := x } = s.ckpts := rfl
theorem with_regs_parkAreas {x} : State.parkAreas { s with regs := x } = s.parkAreas := rfl
theorem with_regs_boot {x} : State.boot { s with regs := x } = s.boot := rfl
theorem with_regs_msix {x} : State.msix { s with regs := x } = s.msix := rfl
theorem with_regs_sentMsi {x} : State.sentMsi { s with regs := x } = s.sentMsi := rfl
theorem with_regs_routes {x} : State.routes { s with regs := x } = s.routes := rfl
theorem with_regs_pci {x} : State.pci { s with regs := x } = s.pci := rfl
theorem with_regs_mbox {x} : State.mbox { s with regs := x } = s.mbox := rfl
theorem with_regs_recov {x} : State.recov { s with regs := x } = s.recov := rfl

theorem with_mem_pending {x} : State.pending { s with mem := x } = s.pending := rfl
theorem with_mem_resp {x} : State.resp { s with mem := x } = s.resp := rfl
theorem with_mem_fuses {x} : State.fuses { s with mem := x } = s.fuses := rfl
theorem with_mem_regs {x} : State.regs { s with mem := x } = s.regs := rfl
theorem with_mem_draws {x} : State.draws { s with mem := x } = s.draws := rfl
theorem with_mem_logs {x} : State.logs { s with mem := x } = s.logs := rfl
theorem with_mem_faultReports {x} : State.faultReports { s with mem := x } = s.faultReports := rfl
theorem with_mem_locks {x} : State.locks { s with mem := x } = s.locks := rfl
theorem with_mem_latches {x} : State.latches { s with mem := x } = s.latches := rfl
theorem with_mem_staging {x} : State.staging { s with mem := x } = s.staging := rfl
theorem with_mem_tb {x} : State.tb { s with mem := x } = s.tb := rfl
theorem with_mem_timers {x} : State.timers { s with mem := x } = s.timers := rfl
theorem with_mem_trigQual {x} : State.trigQual { s with mem := x } = s.trigQual := rfl
theorem with_mem_trigEvents {x} : State.trigEvents { s with mem := x } = s.trigEvents := rfl
theorem with_mem_synced {x} : State.synced { s with mem := x } = s.synced := rfl
theorem with_mem_freeze {x} : State.freeze { s with mem := x } = s.freeze := rfl
theorem with_mem_traces {x} : State.traces { s with mem := x } = s.traces := rfl
theorem with_mem_debugger {x} : State.debugger { s with mem := x } = s.debugger := rfl
theorem with_mem_doms {x} : State.doms { s with mem := x } = s.doms := rfl
theorem with_mem_devPwr {x} : State.devPwr { s with mem := x } = s.devPwr := rfl
theorem with_mem_d3hot {x} : State.d3hot { s with mem := x } = s.d3hot := rfl
theorem with_mem_partState {x} : State.partState { s with mem := x } = s.partState := rfl
theorem with_mem_maps {x} : State.maps { s with mem := x } = s.maps := rfl
theorem with_mem_maps2 {x} : State.maps2 { s with mem := x } = s.maps2 := rfl
theorem with_mem_mapCur {x} : State.mapCur { s with mem := x } = s.mapCur := rfl
theorem with_mem_mapRe {x} : State.mapRe { s with mem := x } = s.mapRe := rfl
theorem with_mem_net {x} : State.net { s with mem := x } = s.net := rfl
theorem with_mem_arrivals {x} : State.arrivals { s with mem := x } = s.arrivals := rfl
theorem with_mem_inbox {x} : State.inbox { s with mem := x } = s.inbox := rfl
theorem with_mem_redIn {x} : State.redIn { s with mem := x } = s.redIn := rfl
theorem with_mem_robs {x} : State.robs { s with mem := x } = s.robs := rfl
theorem with_mem_expect {x} : State.expect { s with mem := x } = s.expect := rfl
theorem with_mem_seqs {x} : State.seqs { s with mem := x } = s.seqs := rfl
theorem with_mem_pressure {x} : State.pressure { s with mem := x } = s.pressure := rfl
theorem with_mem_partials {x} : State.partials { s with mem := x } = s.partials := rfl
theorem with_mem_links {x} : State.links { s with mem := x } = s.links := rfl
theorem with_mem_d2dReplays {x} : State.d2dReplays { s with mem := x } = s.d2dReplays := rfl
theorem with_mem_d2dRetried {x} : State.d2dRetried { s with mem := x } = s.d2dRetried := rfl
theorem with_mem_leaves {x} : State.leaves { s with mem := x } = s.leaves := rfl
theorem with_mem_notices {x} : State.notices { s with mem := x } = s.notices := rfl
theorem with_mem_sources {x} : State.sources { s with mem := x } = s.sources := rfl
theorem with_mem_chans {x} : State.chans { s with mem := x } = s.chans := rfl
theorem with_mem_decs {x} : State.decs { s with mem := x } = s.decs := rfl
theorem with_mem_hostMem {x} : State.hostMem { s with mem := x } = s.hostMem := rfl
theorem with_mem_rings {x} : State.rings { s with mem := x } = s.rings := rfl
theorem with_mem_cabs {x} : State.cabs { s with mem := x } = s.cabs := rfl
theorem with_mem_hutches {x} : State.hutches { s with mem := x } = s.hutches := rfl
theorem with_mem_parts {x} : State.parts { s with mem := x } = s.parts := rfl
theorem with_mem_journals {x} : State.journals { s with mem := x } = s.journals := rfl
theorem with_mem_ckpts {x} : State.ckpts { s with mem := x } = s.ckpts := rfl
theorem with_mem_parkAreas {x} : State.parkAreas { s with mem := x } = s.parkAreas := rfl
theorem with_mem_boot {x} : State.boot { s with mem := x } = s.boot := rfl
theorem with_mem_msix {x} : State.msix { s with mem := x } = s.msix := rfl
theorem with_mem_sentMsi {x} : State.sentMsi { s with mem := x } = s.sentMsi := rfl
theorem with_mem_routes {x} : State.routes { s with mem := x } = s.routes := rfl
theorem with_mem_pci {x} : State.pci { s with mem := x } = s.pci := rfl
theorem with_mem_mbox {x} : State.mbox { s with mem := x } = s.mbox := rfl
theorem with_mem_recov {x} : State.recov { s with mem := x } = s.recov := rfl

theorem with_doms_pending {x} : State.pending { s with doms := x } = s.pending := rfl
theorem with_doms_resp {x} : State.resp { s with doms := x } = s.resp := rfl
theorem with_doms_fuses {x} : State.fuses { s with doms := x } = s.fuses := rfl
theorem with_doms_regs {x} : State.regs { s with doms := x } = s.regs := rfl
theorem with_doms_draws {x} : State.draws { s with doms := x } = s.draws := rfl
theorem with_doms_mem {x} : State.mem { s with doms := x } = s.mem := rfl
theorem with_doms_logs {x} : State.logs { s with doms := x } = s.logs := rfl
theorem with_doms_faultReports {x} : State.faultReports { s with doms := x } = s.faultReports := rfl
theorem with_doms_locks {x} : State.locks { s with doms := x } = s.locks := rfl
theorem with_doms_latches {x} : State.latches { s with doms := x } = s.latches := rfl
theorem with_doms_staging {x} : State.staging { s with doms := x } = s.staging := rfl
theorem with_doms_tb {x} : State.tb { s with doms := x } = s.tb := rfl
theorem with_doms_timers {x} : State.timers { s with doms := x } = s.timers := rfl
theorem with_doms_trigQual {x} : State.trigQual { s with doms := x } = s.trigQual := rfl
theorem with_doms_trigEvents {x} : State.trigEvents { s with doms := x } = s.trigEvents := rfl
theorem with_doms_synced {x} : State.synced { s with doms := x } = s.synced := rfl
theorem with_doms_freeze {x} : State.freeze { s with doms := x } = s.freeze := rfl
theorem with_doms_traces {x} : State.traces { s with doms := x } = s.traces := rfl
theorem with_doms_debugger {x} : State.debugger { s with doms := x } = s.debugger := rfl
theorem with_doms_devPwr {x} : State.devPwr { s with doms := x } = s.devPwr := rfl
theorem with_doms_d3hot {x} : State.d3hot { s with doms := x } = s.d3hot := rfl
theorem with_doms_partState {x} : State.partState { s with doms := x } = s.partState := rfl
theorem with_doms_maps {x} : State.maps { s with doms := x } = s.maps := rfl
theorem with_doms_maps2 {x} : State.maps2 { s with doms := x } = s.maps2 := rfl
theorem with_doms_mapCur {x} : State.mapCur { s with doms := x } = s.mapCur := rfl
theorem with_doms_mapRe {x} : State.mapRe { s with doms := x } = s.mapRe := rfl
theorem with_doms_net {x} : State.net { s with doms := x } = s.net := rfl
theorem with_doms_arrivals {x} : State.arrivals { s with doms := x } = s.arrivals := rfl
theorem with_doms_inbox {x} : State.inbox { s with doms := x } = s.inbox := rfl
theorem with_doms_redIn {x} : State.redIn { s with doms := x } = s.redIn := rfl
theorem with_doms_robs {x} : State.robs { s with doms := x } = s.robs := rfl
theorem with_doms_expect {x} : State.expect { s with doms := x } = s.expect := rfl
theorem with_doms_seqs {x} : State.seqs { s with doms := x } = s.seqs := rfl
theorem with_doms_pressure {x} : State.pressure { s with doms := x } = s.pressure := rfl
theorem with_doms_partials {x} : State.partials { s with doms := x } = s.partials := rfl
theorem with_doms_links {x} : State.links { s with doms := x } = s.links := rfl
theorem with_doms_d2dReplays {x} : State.d2dReplays { s with doms := x } = s.d2dReplays := rfl
theorem with_doms_d2dRetried {x} : State.d2dRetried { s with doms := x } = s.d2dRetried := rfl
theorem with_doms_leaves {x} : State.leaves { s with doms := x } = s.leaves := rfl
theorem with_doms_notices {x} : State.notices { s with doms := x } = s.notices := rfl
theorem with_doms_sources {x} : State.sources { s with doms := x } = s.sources := rfl
theorem with_doms_chans {x} : State.chans { s with doms := x } = s.chans := rfl
theorem with_doms_decs {x} : State.decs { s with doms := x } = s.decs := rfl
theorem with_doms_hostMem {x} : State.hostMem { s with doms := x } = s.hostMem := rfl
theorem with_doms_rings {x} : State.rings { s with doms := x } = s.rings := rfl
theorem with_doms_cabs {x} : State.cabs { s with doms := x } = s.cabs := rfl
theorem with_doms_hutches {x} : State.hutches { s with doms := x } = s.hutches := rfl
theorem with_doms_parts {x} : State.parts { s with doms := x } = s.parts := rfl
theorem with_doms_journals {x} : State.journals { s with doms := x } = s.journals := rfl
theorem with_doms_ckpts {x} : State.ckpts { s with doms := x } = s.ckpts := rfl
theorem with_doms_parkAreas {x} : State.parkAreas { s with doms := x } = s.parkAreas := rfl
theorem with_doms_boot {x} : State.boot { s with doms := x } = s.boot := rfl
theorem with_doms_msix {x} : State.msix { s with doms := x } = s.msix := rfl
theorem with_doms_sentMsi {x} : State.sentMsi { s with doms := x } = s.sentMsi := rfl
theorem with_doms_routes {x} : State.routes { s with doms := x } = s.routes := rfl
theorem with_doms_pci {x} : State.pci { s with doms := x } = s.pci := rfl
theorem with_doms_mbox {x} : State.mbox { s with doms := x } = s.mbox := rfl
theorem with_doms_recov {x} : State.recov { s with doms := x } = s.recov := rfl

theorem with_chans_pending {x} : State.pending { s with chans := x } = s.pending := rfl
theorem with_chans_resp {x} : State.resp { s with chans := x } = s.resp := rfl
theorem with_chans_fuses {x} : State.fuses { s with chans := x } = s.fuses := rfl
theorem with_chans_regs {x} : State.regs { s with chans := x } = s.regs := rfl
theorem with_chans_draws {x} : State.draws { s with chans := x } = s.draws := rfl
theorem with_chans_mem {x} : State.mem { s with chans := x } = s.mem := rfl
theorem with_chans_logs {x} : State.logs { s with chans := x } = s.logs := rfl
theorem with_chans_faultReports {x} : State.faultReports { s with chans := x } = s.faultReports := rfl
theorem with_chans_locks {x} : State.locks { s with chans := x } = s.locks := rfl
theorem with_chans_latches {x} : State.latches { s with chans := x } = s.latches := rfl
theorem with_chans_staging {x} : State.staging { s with chans := x } = s.staging := rfl
theorem with_chans_tb {x} : State.tb { s with chans := x } = s.tb := rfl
theorem with_chans_timers {x} : State.timers { s with chans := x } = s.timers := rfl
theorem with_chans_trigQual {x} : State.trigQual { s with chans := x } = s.trigQual := rfl
theorem with_chans_trigEvents {x} : State.trigEvents { s with chans := x } = s.trigEvents := rfl
theorem with_chans_synced {x} : State.synced { s with chans := x } = s.synced := rfl
theorem with_chans_freeze {x} : State.freeze { s with chans := x } = s.freeze := rfl
theorem with_chans_traces {x} : State.traces { s with chans := x } = s.traces := rfl
theorem with_chans_debugger {x} : State.debugger { s with chans := x } = s.debugger := rfl
theorem with_chans_doms {x} : State.doms { s with chans := x } = s.doms := rfl
theorem with_chans_devPwr {x} : State.devPwr { s with chans := x } = s.devPwr := rfl
theorem with_chans_d3hot {x} : State.d3hot { s with chans := x } = s.d3hot := rfl
theorem with_chans_partState {x} : State.partState { s with chans := x } = s.partState := rfl
theorem with_chans_maps {x} : State.maps { s with chans := x } = s.maps := rfl
theorem with_chans_maps2 {x} : State.maps2 { s with chans := x } = s.maps2 := rfl
theorem with_chans_mapCur {x} : State.mapCur { s with chans := x } = s.mapCur := rfl
theorem with_chans_mapRe {x} : State.mapRe { s with chans := x } = s.mapRe := rfl
theorem with_chans_net {x} : State.net { s with chans := x } = s.net := rfl
theorem with_chans_arrivals {x} : State.arrivals { s with chans := x } = s.arrivals := rfl
theorem with_chans_inbox {x} : State.inbox { s with chans := x } = s.inbox := rfl
theorem with_chans_redIn {x} : State.redIn { s with chans := x } = s.redIn := rfl
theorem with_chans_robs {x} : State.robs { s with chans := x } = s.robs := rfl
theorem with_chans_expect {x} : State.expect { s with chans := x } = s.expect := rfl
theorem with_chans_seqs {x} : State.seqs { s with chans := x } = s.seqs := rfl
theorem with_chans_pressure {x} : State.pressure { s with chans := x } = s.pressure := rfl
theorem with_chans_partials {x} : State.partials { s with chans := x } = s.partials := rfl
theorem with_chans_links {x} : State.links { s with chans := x } = s.links := rfl
theorem with_chans_d2dReplays {x} : State.d2dReplays { s with chans := x } = s.d2dReplays := rfl
theorem with_chans_d2dRetried {x} : State.d2dRetried { s with chans := x } = s.d2dRetried := rfl
theorem with_chans_leaves {x} : State.leaves { s with chans := x } = s.leaves := rfl
theorem with_chans_notices {x} : State.notices { s with chans := x } = s.notices := rfl
theorem with_chans_sources {x} : State.sources { s with chans := x } = s.sources := rfl
theorem with_chans_decs {x} : State.decs { s with chans := x } = s.decs := rfl
theorem with_chans_hostMem {x} : State.hostMem { s with chans := x } = s.hostMem := rfl
theorem with_chans_rings {x} : State.rings { s with chans := x } = s.rings := rfl
theorem with_chans_cabs {x} : State.cabs { s with chans := x } = s.cabs := rfl
theorem with_chans_hutches {x} : State.hutches { s with chans := x } = s.hutches := rfl
theorem with_chans_parts {x} : State.parts { s with chans := x } = s.parts := rfl
theorem with_chans_journals {x} : State.journals { s with chans := x } = s.journals := rfl
theorem with_chans_ckpts {x} : State.ckpts { s with chans := x } = s.ckpts := rfl
theorem with_chans_parkAreas {x} : State.parkAreas { s with chans := x } = s.parkAreas := rfl
theorem with_chans_boot {x} : State.boot { s with chans := x } = s.boot := rfl
theorem with_chans_msix {x} : State.msix { s with chans := x } = s.msix := rfl
theorem with_chans_sentMsi {x} : State.sentMsi { s with chans := x } = s.sentMsi := rfl
theorem with_chans_routes {x} : State.routes { s with chans := x } = s.routes := rfl
theorem with_chans_pci {x} : State.pci { s with chans := x } = s.pci := rfl
theorem with_chans_mbox {x} : State.mbox { s with chans := x } = s.mbox := rfl
theorem with_chans_recov {x} : State.recov { s with chans := x } = s.recov := rfl

theorem with_cabs_pending {x} : State.pending { s with cabs := x } = s.pending := rfl
theorem with_cabs_resp {x} : State.resp { s with cabs := x } = s.resp := rfl
theorem with_cabs_fuses {x} : State.fuses { s with cabs := x } = s.fuses := rfl
theorem with_cabs_regs {x} : State.regs { s with cabs := x } = s.regs := rfl
theorem with_cabs_draws {x} : State.draws { s with cabs := x } = s.draws := rfl
theorem with_cabs_mem {x} : State.mem { s with cabs := x } = s.mem := rfl
theorem with_cabs_logs {x} : State.logs { s with cabs := x } = s.logs := rfl
theorem with_cabs_faultReports {x} : State.faultReports { s with cabs := x } = s.faultReports := rfl
theorem with_cabs_locks {x} : State.locks { s with cabs := x } = s.locks := rfl
theorem with_cabs_latches {x} : State.latches { s with cabs := x } = s.latches := rfl
theorem with_cabs_staging {x} : State.staging { s with cabs := x } = s.staging := rfl
theorem with_cabs_tb {x} : State.tb { s with cabs := x } = s.tb := rfl
theorem with_cabs_timers {x} : State.timers { s with cabs := x } = s.timers := rfl
theorem with_cabs_trigQual {x} : State.trigQual { s with cabs := x } = s.trigQual := rfl
theorem with_cabs_trigEvents {x} : State.trigEvents { s with cabs := x } = s.trigEvents := rfl
theorem with_cabs_synced {x} : State.synced { s with cabs := x } = s.synced := rfl
theorem with_cabs_freeze {x} : State.freeze { s with cabs := x } = s.freeze := rfl
theorem with_cabs_traces {x} : State.traces { s with cabs := x } = s.traces := rfl
theorem with_cabs_debugger {x} : State.debugger { s with cabs := x } = s.debugger := rfl
theorem with_cabs_doms {x} : State.doms { s with cabs := x } = s.doms := rfl
theorem with_cabs_devPwr {x} : State.devPwr { s with cabs := x } = s.devPwr := rfl
theorem with_cabs_d3hot {x} : State.d3hot { s with cabs := x } = s.d3hot := rfl
theorem with_cabs_partState {x} : State.partState { s with cabs := x } = s.partState := rfl
theorem with_cabs_maps {x} : State.maps { s with cabs := x } = s.maps := rfl
theorem with_cabs_maps2 {x} : State.maps2 { s with cabs := x } = s.maps2 := rfl
theorem with_cabs_mapCur {x} : State.mapCur { s with cabs := x } = s.mapCur := rfl
theorem with_cabs_mapRe {x} : State.mapRe { s with cabs := x } = s.mapRe := rfl
theorem with_cabs_net {x} : State.net { s with cabs := x } = s.net := rfl
theorem with_cabs_arrivals {x} : State.arrivals { s with cabs := x } = s.arrivals := rfl
theorem with_cabs_inbox {x} : State.inbox { s with cabs := x } = s.inbox := rfl
theorem with_cabs_redIn {x} : State.redIn { s with cabs := x } = s.redIn := rfl
theorem with_cabs_robs {x} : State.robs { s with cabs := x } = s.robs := rfl
theorem with_cabs_expect {x} : State.expect { s with cabs := x } = s.expect := rfl
theorem with_cabs_seqs {x} : State.seqs { s with cabs := x } = s.seqs := rfl
theorem with_cabs_pressure {x} : State.pressure { s with cabs := x } = s.pressure := rfl
theorem with_cabs_partials {x} : State.partials { s with cabs := x } = s.partials := rfl
theorem with_cabs_links {x} : State.links { s with cabs := x } = s.links := rfl
theorem with_cabs_d2dReplays {x} : State.d2dReplays { s with cabs := x } = s.d2dReplays := rfl
theorem with_cabs_d2dRetried {x} : State.d2dRetried { s with cabs := x } = s.d2dRetried := rfl
theorem with_cabs_leaves {x} : State.leaves { s with cabs := x } = s.leaves := rfl
theorem with_cabs_notices {x} : State.notices { s with cabs := x } = s.notices := rfl
theorem with_cabs_sources {x} : State.sources { s with cabs := x } = s.sources := rfl
theorem with_cabs_chans {x} : State.chans { s with cabs := x } = s.chans := rfl
theorem with_cabs_decs {x} : State.decs { s with cabs := x } = s.decs := rfl
theorem with_cabs_hostMem {x} : State.hostMem { s with cabs := x } = s.hostMem := rfl
theorem with_cabs_rings {x} : State.rings { s with cabs := x } = s.rings := rfl
theorem with_cabs_hutches {x} : State.hutches { s with cabs := x } = s.hutches := rfl
theorem with_cabs_parts {x} : State.parts { s with cabs := x } = s.parts := rfl
theorem with_cabs_journals {x} : State.journals { s with cabs := x } = s.journals := rfl
theorem with_cabs_ckpts {x} : State.ckpts { s with cabs := x } = s.ckpts := rfl
theorem with_cabs_parkAreas {x} : State.parkAreas { s with cabs := x } = s.parkAreas := rfl
theorem with_cabs_boot {x} : State.boot { s with cabs := x } = s.boot := rfl
theorem with_cabs_msix {x} : State.msix { s with cabs := x } = s.msix := rfl
theorem with_cabs_sentMsi {x} : State.sentMsi { s with cabs := x } = s.sentMsi := rfl
theorem with_cabs_routes {x} : State.routes { s with cabs := x } = s.routes := rfl
theorem with_cabs_pci {x} : State.pci { s with cabs := x } = s.pci := rfl
theorem with_cabs_mbox {x} : State.mbox { s with cabs := x } = s.mbox := rfl
theorem with_cabs_recov {x} : State.recov { s with cabs := x } = s.recov := rfl

theorem with_resp_pending {x} : State.pending { s with resp := x } = s.pending := rfl
theorem with_resp_fuses {x} : State.fuses { s with resp := x } = s.fuses := rfl
theorem with_resp_regs {x} : State.regs { s with resp := x } = s.regs := rfl
theorem with_resp_draws {x} : State.draws { s with resp := x } = s.draws := rfl
theorem with_resp_mem {x} : State.mem { s with resp := x } = s.mem := rfl
theorem with_resp_logs {x} : State.logs { s with resp := x } = s.logs := rfl
theorem with_resp_faultReports {x} : State.faultReports { s with resp := x } = s.faultReports := rfl
theorem with_resp_locks {x} : State.locks { s with resp := x } = s.locks := rfl
theorem with_resp_latches {x} : State.latches { s with resp := x } = s.latches := rfl
theorem with_resp_staging {x} : State.staging { s with resp := x } = s.staging := rfl
theorem with_resp_tb {x} : State.tb { s with resp := x } = s.tb := rfl
theorem with_resp_timers {x} : State.timers { s with resp := x } = s.timers := rfl
theorem with_resp_trigQual {x} : State.trigQual { s with resp := x } = s.trigQual := rfl
theorem with_resp_trigEvents {x} : State.trigEvents { s with resp := x } = s.trigEvents := rfl
theorem with_resp_synced {x} : State.synced { s with resp := x } = s.synced := rfl
theorem with_resp_freeze {x} : State.freeze { s with resp := x } = s.freeze := rfl
theorem with_resp_traces {x} : State.traces { s with resp := x } = s.traces := rfl
theorem with_resp_debugger {x} : State.debugger { s with resp := x } = s.debugger := rfl
theorem with_resp_doms {x} : State.doms { s with resp := x } = s.doms := rfl
theorem with_resp_devPwr {x} : State.devPwr { s with resp := x } = s.devPwr := rfl
theorem with_resp_d3hot {x} : State.d3hot { s with resp := x } = s.d3hot := rfl
theorem with_resp_partState {x} : State.partState { s with resp := x } = s.partState := rfl
theorem with_resp_maps {x} : State.maps { s with resp := x } = s.maps := rfl
theorem with_resp_maps2 {x} : State.maps2 { s with resp := x } = s.maps2 := rfl
theorem with_resp_mapCur {x} : State.mapCur { s with resp := x } = s.mapCur := rfl
theorem with_resp_mapRe {x} : State.mapRe { s with resp := x } = s.mapRe := rfl
theorem with_resp_net {x} : State.net { s with resp := x } = s.net := rfl
theorem with_resp_arrivals {x} : State.arrivals { s with resp := x } = s.arrivals := rfl
theorem with_resp_inbox {x} : State.inbox { s with resp := x } = s.inbox := rfl
theorem with_resp_redIn {x} : State.redIn { s with resp := x } = s.redIn := rfl
theorem with_resp_robs {x} : State.robs { s with resp := x } = s.robs := rfl
theorem with_resp_expect {x} : State.expect { s with resp := x } = s.expect := rfl
theorem with_resp_seqs {x} : State.seqs { s with resp := x } = s.seqs := rfl
theorem with_resp_pressure {x} : State.pressure { s with resp := x } = s.pressure := rfl
theorem with_resp_partials {x} : State.partials { s with resp := x } = s.partials := rfl
theorem with_resp_links {x} : State.links { s with resp := x } = s.links := rfl
theorem with_resp_d2dReplays {x} : State.d2dReplays { s with resp := x } = s.d2dReplays := rfl
theorem with_resp_d2dRetried {x} : State.d2dRetried { s with resp := x } = s.d2dRetried := rfl
theorem with_resp_leaves {x} : State.leaves { s with resp := x } = s.leaves := rfl
theorem with_resp_notices {x} : State.notices { s with resp := x } = s.notices := rfl
theorem with_resp_sources {x} : State.sources { s with resp := x } = s.sources := rfl
theorem with_resp_chans {x} : State.chans { s with resp := x } = s.chans := rfl
theorem with_resp_decs {x} : State.decs { s with resp := x } = s.decs := rfl
theorem with_resp_hostMem {x} : State.hostMem { s with resp := x } = s.hostMem := rfl
theorem with_resp_rings {x} : State.rings { s with resp := x } = s.rings := rfl
theorem with_resp_cabs {x} : State.cabs { s with resp := x } = s.cabs := rfl
theorem with_resp_hutches {x} : State.hutches { s with resp := x } = s.hutches := rfl
theorem with_resp_parts {x} : State.parts { s with resp := x } = s.parts := rfl
theorem with_resp_journals {x} : State.journals { s with resp := x } = s.journals := rfl
theorem with_resp_ckpts {x} : State.ckpts { s with resp := x } = s.ckpts := rfl
theorem with_resp_parkAreas {x} : State.parkAreas { s with resp := x } = s.parkAreas := rfl
theorem with_resp_boot {x} : State.boot { s with resp := x } = s.boot := rfl
theorem with_resp_msix {x} : State.msix { s with resp := x } = s.msix := rfl
theorem with_resp_sentMsi {x} : State.sentMsi { s with resp := x } = s.sentMsi := rfl
theorem with_resp_routes {x} : State.routes { s with resp := x } = s.routes := rfl
theorem with_resp_pci {x} : State.pci { s with resp := x } = s.pci := rfl
theorem with_resp_mbox {x} : State.mbox { s with resp := x } = s.mbox := rfl
theorem with_resp_recov {x} : State.recov { s with resp := x } = s.recov := rfl

@[simp] theorem State.wr_pending (p : Page) (o : Nat) (w : Word) : (s.wr p o w).pending = s.pending := with_regs_pending s
@[simp] theorem State.wr_resp (p : Page) (o : Nat) (w : Word) : (s.wr p o w).resp = s.resp := with_regs_resp s
@[simp] theorem State.wr_fuses (p : Page) (o : Nat) (w : Word) : (s.wr p o w).fuses = s.fuses := with_regs_fuses s
@[simp] theorem State.wr_draws (p : Page) (o : Nat) (w : Word) : (s.wr p o w).draws = s.draws := with_regs_draws s
@[simp] theorem State.wr_mem (p : Page) (o : Nat) (w : Word) : (s.wr p o w).mem = s.mem := with_regs_mem s
@[simp] theorem State.wr_logs (p : Page) (o : Nat) (w : Word) : (s.wr p o w).logs = s.logs := with_regs_logs s
@[simp] theorem State.wr_faultReports (p : Page) (o : Nat) (w : Word) : (s.wr p o w).faultReports = s.faultReports := with_regs_faultReports s
@[simp] theorem State.wr_locks (p : Page) (o : Nat) (w : Word) : (s.wr p o w).locks = s.locks := with_regs_locks s
@[simp] theorem State.wr_latches (p : Page) (o : Nat) (w : Word) : (s.wr p o w).latches = s.latches := with_regs_latches s
@[simp] theorem State.wr_staging (p : Page) (o : Nat) (w : Word) : (s.wr p o w).staging = s.staging := with_regs_staging s
@[simp] theorem State.wr_tb (p : Page) (o : Nat) (w : Word) : (s.wr p o w).tb = s.tb := with_regs_tb s
@[simp] theorem State.wr_timers (p : Page) (o : Nat) (w : Word) : (s.wr p o w).timers = s.timers := with_regs_timers s
@[simp] theorem State.wr_trigQual (p : Page) (o : Nat) (w : Word) : (s.wr p o w).trigQual = s.trigQual := with_regs_trigQual s
@[simp] theorem State.wr_trigEvents (p : Page) (o : Nat) (w : Word) : (s.wr p o w).trigEvents = s.trigEvents := with_regs_trigEvents s
@[simp] theorem State.wr_synced (p : Page) (o : Nat) (w : Word) : (s.wr p o w).synced = s.synced := with_regs_synced s
@[simp] theorem State.wr_freeze (p : Page) (o : Nat) (w : Word) : (s.wr p o w).freeze = s.freeze := with_regs_freeze s
@[simp] theorem State.wr_traces (p : Page) (o : Nat) (w : Word) : (s.wr p o w).traces = s.traces := with_regs_traces s
@[simp] theorem State.wr_debugger (p : Page) (o : Nat) (w : Word) : (s.wr p o w).debugger = s.debugger := with_regs_debugger s
@[simp] theorem State.wr_doms (p : Page) (o : Nat) (w : Word) : (s.wr p o w).doms = s.doms := with_regs_doms s
@[simp] theorem State.wr_devPwr (p : Page) (o : Nat) (w : Word) : (s.wr p o w).devPwr = s.devPwr := with_regs_devPwr s
@[simp] theorem State.wr_d3hot (p : Page) (o : Nat) (w : Word) : (s.wr p o w).d3hot = s.d3hot := with_regs_d3hot s
@[simp] theorem State.wr_partState (p : Page) (o : Nat) (w : Word) : (s.wr p o w).partState = s.partState := with_regs_partState s
@[simp] theorem State.wr_maps (p : Page) (o : Nat) (w : Word) : (s.wr p o w).maps = s.maps := with_regs_maps s
@[simp] theorem State.wr_maps2 (p : Page) (o : Nat) (w : Word) : (s.wr p o w).maps2 = s.maps2 := with_regs_maps2 s
@[simp] theorem State.wr_mapCur (p : Page) (o : Nat) (w : Word) : (s.wr p o w).mapCur = s.mapCur := with_regs_mapCur s
@[simp] theorem State.wr_mapRe (p : Page) (o : Nat) (w : Word) : (s.wr p o w).mapRe = s.mapRe := with_regs_mapRe s
@[simp] theorem State.wr_net (p : Page) (o : Nat) (w : Word) : (s.wr p o w).net = s.net := with_regs_net s
@[simp] theorem State.wr_arrivals (p : Page) (o : Nat) (w : Word) : (s.wr p o w).arrivals = s.arrivals := with_regs_arrivals s
@[simp] theorem State.wr_inbox (p : Page) (o : Nat) (w : Word) : (s.wr p o w).inbox = s.inbox := with_regs_inbox s
@[simp] theorem State.wr_redIn (p : Page) (o : Nat) (w : Word) : (s.wr p o w).redIn = s.redIn := with_regs_redIn s
@[simp] theorem State.wr_robs (p : Page) (o : Nat) (w : Word) : (s.wr p o w).robs = s.robs := with_regs_robs s
@[simp] theorem State.wr_expect (p : Page) (o : Nat) (w : Word) : (s.wr p o w).expect = s.expect := with_regs_expect s
@[simp] theorem State.wr_seqs (p : Page) (o : Nat) (w : Word) : (s.wr p o w).seqs = s.seqs := with_regs_seqs s
@[simp] theorem State.wr_pressure (p : Page) (o : Nat) (w : Word) : (s.wr p o w).pressure = s.pressure := with_regs_pressure s
@[simp] theorem State.wr_partials (p : Page) (o : Nat) (w : Word) : (s.wr p o w).partials = s.partials := with_regs_partials s
@[simp] theorem State.wr_links (p : Page) (o : Nat) (w : Word) : (s.wr p o w).links = s.links := with_regs_links s
@[simp] theorem State.wr_d2dReplays (p : Page) (o : Nat) (w : Word) : (s.wr p o w).d2dReplays = s.d2dReplays := with_regs_d2dReplays s
@[simp] theorem State.wr_d2dRetried (p : Page) (o : Nat) (w : Word) : (s.wr p o w).d2dRetried = s.d2dRetried := with_regs_d2dRetried s
@[simp] theorem State.wr_leaves (p : Page) (o : Nat) (w : Word) : (s.wr p o w).leaves = s.leaves := with_regs_leaves s
@[simp] theorem State.wr_notices (p : Page) (o : Nat) (w : Word) : (s.wr p o w).notices = s.notices := with_regs_notices s
@[simp] theorem State.wr_sources (p : Page) (o : Nat) (w : Word) : (s.wr p o w).sources = s.sources := with_regs_sources s
@[simp] theorem State.wr_chans (p : Page) (o : Nat) (w : Word) : (s.wr p o w).chans = s.chans := with_regs_chans s
@[simp] theorem State.wr_decs (p : Page) (o : Nat) (w : Word) : (s.wr p o w).decs = s.decs := with_regs_decs s
@[simp] theorem State.wr_hostMem (p : Page) (o : Nat) (w : Word) : (s.wr p o w).hostMem = s.hostMem := with_regs_hostMem s
@[simp] theorem State.wr_rings (p : Page) (o : Nat) (w : Word) : (s.wr p o w).rings = s.rings := with_regs_rings s
@[simp] theorem State.wr_cabs (p : Page) (o : Nat) (w : Word) : (s.wr p o w).cabs = s.cabs := with_regs_cabs s
@[simp] theorem State.wr_hutches (p : Page) (o : Nat) (w : Word) : (s.wr p o w).hutches = s.hutches := with_regs_hutches s
@[simp] theorem State.wr_parts (p : Page) (o : Nat) (w : Word) : (s.wr p o w).parts = s.parts := with_regs_parts s
@[simp] theorem State.wr_journals (p : Page) (o : Nat) (w : Word) : (s.wr p o w).journals = s.journals := with_regs_journals s
@[simp] theorem State.wr_ckpts (p : Page) (o : Nat) (w : Word) : (s.wr p o w).ckpts = s.ckpts := with_regs_ckpts s
@[simp] theorem State.wr_parkAreas (p : Page) (o : Nat) (w : Word) : (s.wr p o w).parkAreas = s.parkAreas := with_regs_parkAreas s
@[simp] theorem State.wr_boot (p : Page) (o : Nat) (w : Word) : (s.wr p o w).boot = s.boot := with_regs_boot s
@[simp] theorem State.wr_msix (p : Page) (o : Nat) (w : Word) : (s.wr p o w).msix = s.msix := with_regs_msix s
@[simp] theorem State.wr_sentMsi (p : Page) (o : Nat) (w : Word) : (s.wr p o w).sentMsi = s.sentMsi := with_regs_sentMsi s
@[simp] theorem State.wr_routes (p : Page) (o : Nat) (w : Word) : (s.wr p o w).routes = s.routes := with_regs_routes s
@[simp] theorem State.wr_pci (p : Page) (o : Nat) (w : Word) : (s.wr p o w).pci = s.pci := with_regs_pci s
@[simp] theorem State.wr_mbox (p : Page) (o : Nat) (w : Word) : (s.wr p o w).mbox = s.mbox := with_regs_mbox s
@[simp] theorem State.wr_recov (p : Page) (o : Nat) (w : Word) : (s.wr p o w).recov = s.recov := with_regs_recov s

@[simp] theorem State.setFld_pending (p : Page) (o hi lo v : Nat) : (s.setFld p o hi lo v).pending = s.pending := with_regs_pending s
@[simp] theorem State.setFld_resp (p : Page) (o hi lo v : Nat) : (s.setFld p o hi lo v).resp = s.resp := with_regs_resp s
@[simp] theorem State.setFld_fuses (p : Page) (o hi lo v : Nat) : (s.setFld p o hi lo v).fuses = s.fuses := with_regs_fuses s
@[simp] theorem State.setFld_draws (p : Page) (o hi lo v : Nat) : (s.setFld p o hi lo v).draws = s.draws := with_regs_draws s
@[simp] theorem State.setFld_mem (p : Page) (o hi lo v : Nat) : (s.setFld p o hi lo v).mem = s.mem := with_regs_mem s
@[simp] theorem State.setFld_logs (p : Page) (o hi lo v : Nat) : (s.setFld p o hi lo v).logs = s.logs := with_regs_logs s
@[simp] theorem State.setFld_faultReports (p : Page) (o hi lo v : Nat) : (s.setFld p o hi lo v).faultReports = s.faultReports := with_regs_faultReports s
@[simp] theorem State.setFld_locks (p : Page) (o hi lo v : Nat) : (s.setFld p o hi lo v).locks = s.locks := with_regs_locks s
@[simp] theorem State.setFld_latches (p : Page) (o hi lo v : Nat) : (s.setFld p o hi lo v).latches = s.latches := with_regs_latches s
@[simp] theorem State.setFld_staging (p : Page) (o hi lo v : Nat) : (s.setFld p o hi lo v).staging = s.staging := with_regs_staging s
@[simp] theorem State.setFld_tb (p : Page) (o hi lo v : Nat) : (s.setFld p o hi lo v).tb = s.tb := with_regs_tb s
@[simp] theorem State.setFld_timers (p : Page) (o hi lo v : Nat) : (s.setFld p o hi lo v).timers = s.timers := with_regs_timers s
@[simp] theorem State.setFld_trigQual (p : Page) (o hi lo v : Nat) : (s.setFld p o hi lo v).trigQual = s.trigQual := with_regs_trigQual s
@[simp] theorem State.setFld_trigEvents (p : Page) (o hi lo v : Nat) : (s.setFld p o hi lo v).trigEvents = s.trigEvents := with_regs_trigEvents s
@[simp] theorem State.setFld_synced (p : Page) (o hi lo v : Nat) : (s.setFld p o hi lo v).synced = s.synced := with_regs_synced s
@[simp] theorem State.setFld_freeze (p : Page) (o hi lo v : Nat) : (s.setFld p o hi lo v).freeze = s.freeze := with_regs_freeze s
@[simp] theorem State.setFld_traces (p : Page) (o hi lo v : Nat) : (s.setFld p o hi lo v).traces = s.traces := with_regs_traces s
@[simp] theorem State.setFld_debugger (p : Page) (o hi lo v : Nat) : (s.setFld p o hi lo v).debugger = s.debugger := with_regs_debugger s
@[simp] theorem State.setFld_doms (p : Page) (o hi lo v : Nat) : (s.setFld p o hi lo v).doms = s.doms := with_regs_doms s
@[simp] theorem State.setFld_devPwr (p : Page) (o hi lo v : Nat) : (s.setFld p o hi lo v).devPwr = s.devPwr := with_regs_devPwr s
@[simp] theorem State.setFld_d3hot (p : Page) (o hi lo v : Nat) : (s.setFld p o hi lo v).d3hot = s.d3hot := with_regs_d3hot s
@[simp] theorem State.setFld_partState (p : Page) (o hi lo v : Nat) : (s.setFld p o hi lo v).partState = s.partState := with_regs_partState s
@[simp] theorem State.setFld_maps (p : Page) (o hi lo v : Nat) : (s.setFld p o hi lo v).maps = s.maps := with_regs_maps s
@[simp] theorem State.setFld_maps2 (p : Page) (o hi lo v : Nat) : (s.setFld p o hi lo v).maps2 = s.maps2 := with_regs_maps2 s
@[simp] theorem State.setFld_mapCur (p : Page) (o hi lo v : Nat) : (s.setFld p o hi lo v).mapCur = s.mapCur := with_regs_mapCur s
@[simp] theorem State.setFld_mapRe (p : Page) (o hi lo v : Nat) : (s.setFld p o hi lo v).mapRe = s.mapRe := with_regs_mapRe s
@[simp] theorem State.setFld_net (p : Page) (o hi lo v : Nat) : (s.setFld p o hi lo v).net = s.net := with_regs_net s
@[simp] theorem State.setFld_arrivals (p : Page) (o hi lo v : Nat) : (s.setFld p o hi lo v).arrivals = s.arrivals := with_regs_arrivals s
@[simp] theorem State.setFld_inbox (p : Page) (o hi lo v : Nat) : (s.setFld p o hi lo v).inbox = s.inbox := with_regs_inbox s
@[simp] theorem State.setFld_redIn (p : Page) (o hi lo v : Nat) : (s.setFld p o hi lo v).redIn = s.redIn := with_regs_redIn s
@[simp] theorem State.setFld_robs (p : Page) (o hi lo v : Nat) : (s.setFld p o hi lo v).robs = s.robs := with_regs_robs s
@[simp] theorem State.setFld_expect (p : Page) (o hi lo v : Nat) : (s.setFld p o hi lo v).expect = s.expect := with_regs_expect s
@[simp] theorem State.setFld_seqs (p : Page) (o hi lo v : Nat) : (s.setFld p o hi lo v).seqs = s.seqs := with_regs_seqs s
@[simp] theorem State.setFld_pressure (p : Page) (o hi lo v : Nat) : (s.setFld p o hi lo v).pressure = s.pressure := with_regs_pressure s
@[simp] theorem State.setFld_partials (p : Page) (o hi lo v : Nat) : (s.setFld p o hi lo v).partials = s.partials := with_regs_partials s
@[simp] theorem State.setFld_links (p : Page) (o hi lo v : Nat) : (s.setFld p o hi lo v).links = s.links := with_regs_links s
@[simp] theorem State.setFld_d2dReplays (p : Page) (o hi lo v : Nat) : (s.setFld p o hi lo v).d2dReplays = s.d2dReplays := with_regs_d2dReplays s
@[simp] theorem State.setFld_d2dRetried (p : Page) (o hi lo v : Nat) : (s.setFld p o hi lo v).d2dRetried = s.d2dRetried := with_regs_d2dRetried s
@[simp] theorem State.setFld_leaves (p : Page) (o hi lo v : Nat) : (s.setFld p o hi lo v).leaves = s.leaves := with_regs_leaves s
@[simp] theorem State.setFld_notices (p : Page) (o hi lo v : Nat) : (s.setFld p o hi lo v).notices = s.notices := with_regs_notices s
@[simp] theorem State.setFld_sources (p : Page) (o hi lo v : Nat) : (s.setFld p o hi lo v).sources = s.sources := with_regs_sources s
@[simp] theorem State.setFld_chans (p : Page) (o hi lo v : Nat) : (s.setFld p o hi lo v).chans = s.chans := with_regs_chans s
@[simp] theorem State.setFld_decs (p : Page) (o hi lo v : Nat) : (s.setFld p o hi lo v).decs = s.decs := with_regs_decs s
@[simp] theorem State.setFld_hostMem (p : Page) (o hi lo v : Nat) : (s.setFld p o hi lo v).hostMem = s.hostMem := with_regs_hostMem s
@[simp] theorem State.setFld_rings (p : Page) (o hi lo v : Nat) : (s.setFld p o hi lo v).rings = s.rings := with_regs_rings s
@[simp] theorem State.setFld_cabs (p : Page) (o hi lo v : Nat) : (s.setFld p o hi lo v).cabs = s.cabs := with_regs_cabs s
@[simp] theorem State.setFld_hutches (p : Page) (o hi lo v : Nat) : (s.setFld p o hi lo v).hutches = s.hutches := with_regs_hutches s
@[simp] theorem State.setFld_parts (p : Page) (o hi lo v : Nat) : (s.setFld p o hi lo v).parts = s.parts := with_regs_parts s
@[simp] theorem State.setFld_journals (p : Page) (o hi lo v : Nat) : (s.setFld p o hi lo v).journals = s.journals := with_regs_journals s
@[simp] theorem State.setFld_ckpts (p : Page) (o hi lo v : Nat) : (s.setFld p o hi lo v).ckpts = s.ckpts := with_regs_ckpts s
@[simp] theorem State.setFld_parkAreas (p : Page) (o hi lo v : Nat) : (s.setFld p o hi lo v).parkAreas = s.parkAreas := with_regs_parkAreas s
@[simp] theorem State.setFld_boot (p : Page) (o hi lo v : Nat) : (s.setFld p o hi lo v).boot = s.boot := with_regs_boot s
@[simp] theorem State.setFld_msix (p : Page) (o hi lo v : Nat) : (s.setFld p o hi lo v).msix = s.msix := with_regs_msix s
@[simp] theorem State.setFld_sentMsi (p : Page) (o hi lo v : Nat) : (s.setFld p o hi lo v).sentMsi = s.sentMsi := with_regs_sentMsi s
@[simp] theorem State.setFld_routes (p : Page) (o hi lo v : Nat) : (s.setFld p o hi lo v).routes = s.routes := with_regs_routes s
@[simp] theorem State.setFld_pci (p : Page) (o hi lo v : Nat) : (s.setFld p o hi lo v).pci = s.pci := with_regs_pci s
@[simp] theorem State.setFld_mbox (p : Page) (o hi lo v : Nat) : (s.setFld p o hi lo v).mbox = s.mbox := with_regs_mbox s
@[simp] theorem State.setFld_recov (p : Page) (o hi lo v : Nat) : (s.setFld p o hi lo v).recov = s.recov := with_regs_recov s

@[simp] theorem State.setFlag_pending (p : Page) (o i : Nat) (b : Bool) : (s.setFlag p o i b).pending = s.pending := with_regs_pending s
@[simp] theorem State.setFlag_resp (p : Page) (o i : Nat) (b : Bool) : (s.setFlag p o i b).resp = s.resp := with_regs_resp s
@[simp] theorem State.setFlag_fuses (p : Page) (o i : Nat) (b : Bool) : (s.setFlag p o i b).fuses = s.fuses := with_regs_fuses s
@[simp] theorem State.setFlag_draws (p : Page) (o i : Nat) (b : Bool) : (s.setFlag p o i b).draws = s.draws := with_regs_draws s
@[simp] theorem State.setFlag_mem (p : Page) (o i : Nat) (b : Bool) : (s.setFlag p o i b).mem = s.mem := with_regs_mem s
@[simp] theorem State.setFlag_logs (p : Page) (o i : Nat) (b : Bool) : (s.setFlag p o i b).logs = s.logs := with_regs_logs s
@[simp] theorem State.setFlag_faultReports (p : Page) (o i : Nat) (b : Bool) : (s.setFlag p o i b).faultReports = s.faultReports := with_regs_faultReports s
@[simp] theorem State.setFlag_locks (p : Page) (o i : Nat) (b : Bool) : (s.setFlag p o i b).locks = s.locks := with_regs_locks s
@[simp] theorem State.setFlag_latches (p : Page) (o i : Nat) (b : Bool) : (s.setFlag p o i b).latches = s.latches := with_regs_latches s
@[simp] theorem State.setFlag_staging (p : Page) (o i : Nat) (b : Bool) : (s.setFlag p o i b).staging = s.staging := with_regs_staging s
@[simp] theorem State.setFlag_tb (p : Page) (o i : Nat) (b : Bool) : (s.setFlag p o i b).tb = s.tb := with_regs_tb s
@[simp] theorem State.setFlag_timers (p : Page) (o i : Nat) (b : Bool) : (s.setFlag p o i b).timers = s.timers := with_regs_timers s
@[simp] theorem State.setFlag_trigQual (p : Page) (o i : Nat) (b : Bool) : (s.setFlag p o i b).trigQual = s.trigQual := with_regs_trigQual s
@[simp] theorem State.setFlag_trigEvents (p : Page) (o i : Nat) (b : Bool) : (s.setFlag p o i b).trigEvents = s.trigEvents := with_regs_trigEvents s
@[simp] theorem State.setFlag_synced (p : Page) (o i : Nat) (b : Bool) : (s.setFlag p o i b).synced = s.synced := with_regs_synced s
@[simp] theorem State.setFlag_freeze (p : Page) (o i : Nat) (b : Bool) : (s.setFlag p o i b).freeze = s.freeze := with_regs_freeze s
@[simp] theorem State.setFlag_traces (p : Page) (o i : Nat) (b : Bool) : (s.setFlag p o i b).traces = s.traces := with_regs_traces s
@[simp] theorem State.setFlag_debugger (p : Page) (o i : Nat) (b : Bool) : (s.setFlag p o i b).debugger = s.debugger := with_regs_debugger s
@[simp] theorem State.setFlag_doms (p : Page) (o i : Nat) (b : Bool) : (s.setFlag p o i b).doms = s.doms := with_regs_doms s
@[simp] theorem State.setFlag_devPwr (p : Page) (o i : Nat) (b : Bool) : (s.setFlag p o i b).devPwr = s.devPwr := with_regs_devPwr s
@[simp] theorem State.setFlag_d3hot (p : Page) (o i : Nat) (b : Bool) : (s.setFlag p o i b).d3hot = s.d3hot := with_regs_d3hot s
@[simp] theorem State.setFlag_partState (p : Page) (o i : Nat) (b : Bool) : (s.setFlag p o i b).partState = s.partState := with_regs_partState s
@[simp] theorem State.setFlag_maps (p : Page) (o i : Nat) (b : Bool) : (s.setFlag p o i b).maps = s.maps := with_regs_maps s
@[simp] theorem State.setFlag_maps2 (p : Page) (o i : Nat) (b : Bool) : (s.setFlag p o i b).maps2 = s.maps2 := with_regs_maps2 s
@[simp] theorem State.setFlag_mapCur (p : Page) (o i : Nat) (b : Bool) : (s.setFlag p o i b).mapCur = s.mapCur := with_regs_mapCur s
@[simp] theorem State.setFlag_mapRe (p : Page) (o i : Nat) (b : Bool) : (s.setFlag p o i b).mapRe = s.mapRe := with_regs_mapRe s
@[simp] theorem State.setFlag_net (p : Page) (o i : Nat) (b : Bool) : (s.setFlag p o i b).net = s.net := with_regs_net s
@[simp] theorem State.setFlag_arrivals (p : Page) (o i : Nat) (b : Bool) : (s.setFlag p o i b).arrivals = s.arrivals := with_regs_arrivals s
@[simp] theorem State.setFlag_inbox (p : Page) (o i : Nat) (b : Bool) : (s.setFlag p o i b).inbox = s.inbox := with_regs_inbox s
@[simp] theorem State.setFlag_redIn (p : Page) (o i : Nat) (b : Bool) : (s.setFlag p o i b).redIn = s.redIn := with_regs_redIn s
@[simp] theorem State.setFlag_robs (p : Page) (o i : Nat) (b : Bool) : (s.setFlag p o i b).robs = s.robs := with_regs_robs s
@[simp] theorem State.setFlag_expect (p : Page) (o i : Nat) (b : Bool) : (s.setFlag p o i b).expect = s.expect := with_regs_expect s
@[simp] theorem State.setFlag_seqs (p : Page) (o i : Nat) (b : Bool) : (s.setFlag p o i b).seqs = s.seqs := with_regs_seqs s
@[simp] theorem State.setFlag_pressure (p : Page) (o i : Nat) (b : Bool) : (s.setFlag p o i b).pressure = s.pressure := with_regs_pressure s
@[simp] theorem State.setFlag_partials (p : Page) (o i : Nat) (b : Bool) : (s.setFlag p o i b).partials = s.partials := with_regs_partials s
@[simp] theorem State.setFlag_links (p : Page) (o i : Nat) (b : Bool) : (s.setFlag p o i b).links = s.links := with_regs_links s
@[simp] theorem State.setFlag_d2dReplays (p : Page) (o i : Nat) (b : Bool) : (s.setFlag p o i b).d2dReplays = s.d2dReplays := with_regs_d2dReplays s
@[simp] theorem State.setFlag_d2dRetried (p : Page) (o i : Nat) (b : Bool) : (s.setFlag p o i b).d2dRetried = s.d2dRetried := with_regs_d2dRetried s
@[simp] theorem State.setFlag_leaves (p : Page) (o i : Nat) (b : Bool) : (s.setFlag p o i b).leaves = s.leaves := with_regs_leaves s
@[simp] theorem State.setFlag_notices (p : Page) (o i : Nat) (b : Bool) : (s.setFlag p o i b).notices = s.notices := with_regs_notices s
@[simp] theorem State.setFlag_sources (p : Page) (o i : Nat) (b : Bool) : (s.setFlag p o i b).sources = s.sources := with_regs_sources s
@[simp] theorem State.setFlag_chans (p : Page) (o i : Nat) (b : Bool) : (s.setFlag p o i b).chans = s.chans := with_regs_chans s
@[simp] theorem State.setFlag_decs (p : Page) (o i : Nat) (b : Bool) : (s.setFlag p o i b).decs = s.decs := with_regs_decs s
@[simp] theorem State.setFlag_hostMem (p : Page) (o i : Nat) (b : Bool) : (s.setFlag p o i b).hostMem = s.hostMem := with_regs_hostMem s
@[simp] theorem State.setFlag_rings (p : Page) (o i : Nat) (b : Bool) : (s.setFlag p o i b).rings = s.rings := with_regs_rings s
@[simp] theorem State.setFlag_cabs (p : Page) (o i : Nat) (b : Bool) : (s.setFlag p o i b).cabs = s.cabs := with_regs_cabs s
@[simp] theorem State.setFlag_hutches (p : Page) (o i : Nat) (b : Bool) : (s.setFlag p o i b).hutches = s.hutches := with_regs_hutches s
@[simp] theorem State.setFlag_parts (p : Page) (o i : Nat) (b : Bool) : (s.setFlag p o i b).parts = s.parts := with_regs_parts s
@[simp] theorem State.setFlag_journals (p : Page) (o i : Nat) (b : Bool) : (s.setFlag p o i b).journals = s.journals := with_regs_journals s
@[simp] theorem State.setFlag_ckpts (p : Page) (o i : Nat) (b : Bool) : (s.setFlag p o i b).ckpts = s.ckpts := with_regs_ckpts s
@[simp] theorem State.setFlag_parkAreas (p : Page) (o i : Nat) (b : Bool) : (s.setFlag p o i b).parkAreas = s.parkAreas := with_regs_parkAreas s
@[simp] theorem State.setFlag_boot (p : Page) (o i : Nat) (b : Bool) : (s.setFlag p o i b).boot = s.boot := with_regs_boot s
@[simp] theorem State.setFlag_msix (p : Page) (o i : Nat) (b : Bool) : (s.setFlag p o i b).msix = s.msix := with_regs_msix s
@[simp] theorem State.setFlag_sentMsi (p : Page) (o i : Nat) (b : Bool) : (s.setFlag p o i b).sentMsi = s.sentMsi := with_regs_sentMsi s
@[simp] theorem State.setFlag_routes (p : Page) (o i : Nat) (b : Bool) : (s.setFlag p o i b).routes = s.routes := with_regs_routes s
@[simp] theorem State.setFlag_pci (p : Page) (o i : Nat) (b : Bool) : (s.setFlag p o i b).pci = s.pci := with_regs_pci s
@[simp] theorem State.setFlag_mbox (p : Page) (o i : Nat) (b : Bool) : (s.setFlag p o i b).mbox = s.mbox := with_regs_mbox s
@[simp] theorem State.setFlag_recov (p : Page) (o i : Nat) (b : Bool) : (s.setFlag p o i b).recov = s.recov := with_regs_recov s

@[simp] theorem State.wrN_pending (p : Page) (o v : Nat) : (s.wrN p o v).pending = s.pending := with_regs_pending s
@[simp] theorem State.wrN_resp (p : Page) (o v : Nat) : (s.wrN p o v).resp = s.resp := with_regs_resp s
@[simp] theorem State.wrN_fuses (p : Page) (o v : Nat) : (s.wrN p o v).fuses = s.fuses := with_regs_fuses s
@[simp] theorem State.wrN_draws (p : Page) (o v : Nat) : (s.wrN p o v).draws = s.draws := with_regs_draws s
@[simp] theorem State.wrN_mem (p : Page) (o v : Nat) : (s.wrN p o v).mem = s.mem := with_regs_mem s
@[simp] theorem State.wrN_logs (p : Page) (o v : Nat) : (s.wrN p o v).logs = s.logs := with_regs_logs s
@[simp] theorem State.wrN_faultReports (p : Page) (o v : Nat) : (s.wrN p o v).faultReports = s.faultReports := with_regs_faultReports s
@[simp] theorem State.wrN_locks (p : Page) (o v : Nat) : (s.wrN p o v).locks = s.locks := with_regs_locks s
@[simp] theorem State.wrN_latches (p : Page) (o v : Nat) : (s.wrN p o v).latches = s.latches := with_regs_latches s
@[simp] theorem State.wrN_staging (p : Page) (o v : Nat) : (s.wrN p o v).staging = s.staging := with_regs_staging s
@[simp] theorem State.wrN_tb (p : Page) (o v : Nat) : (s.wrN p o v).tb = s.tb := with_regs_tb s
@[simp] theorem State.wrN_timers (p : Page) (o v : Nat) : (s.wrN p o v).timers = s.timers := with_regs_timers s
@[simp] theorem State.wrN_trigQual (p : Page) (o v : Nat) : (s.wrN p o v).trigQual = s.trigQual := with_regs_trigQual s
@[simp] theorem State.wrN_trigEvents (p : Page) (o v : Nat) : (s.wrN p o v).trigEvents = s.trigEvents := with_regs_trigEvents s
@[simp] theorem State.wrN_synced (p : Page) (o v : Nat) : (s.wrN p o v).synced = s.synced := with_regs_synced s
@[simp] theorem State.wrN_freeze (p : Page) (o v : Nat) : (s.wrN p o v).freeze = s.freeze := with_regs_freeze s
@[simp] theorem State.wrN_traces (p : Page) (o v : Nat) : (s.wrN p o v).traces = s.traces := with_regs_traces s
@[simp] theorem State.wrN_debugger (p : Page) (o v : Nat) : (s.wrN p o v).debugger = s.debugger := with_regs_debugger s
@[simp] theorem State.wrN_doms (p : Page) (o v : Nat) : (s.wrN p o v).doms = s.doms := with_regs_doms s
@[simp] theorem State.wrN_devPwr (p : Page) (o v : Nat) : (s.wrN p o v).devPwr = s.devPwr := with_regs_devPwr s
@[simp] theorem State.wrN_d3hot (p : Page) (o v : Nat) : (s.wrN p o v).d3hot = s.d3hot := with_regs_d3hot s
@[simp] theorem State.wrN_partState (p : Page) (o v : Nat) : (s.wrN p o v).partState = s.partState := with_regs_partState s
@[simp] theorem State.wrN_maps (p : Page) (o v : Nat) : (s.wrN p o v).maps = s.maps := with_regs_maps s
@[simp] theorem State.wrN_maps2 (p : Page) (o v : Nat) : (s.wrN p o v).maps2 = s.maps2 := with_regs_maps2 s
@[simp] theorem State.wrN_mapCur (p : Page) (o v : Nat) : (s.wrN p o v).mapCur = s.mapCur := with_regs_mapCur s
@[simp] theorem State.wrN_mapRe (p : Page) (o v : Nat) : (s.wrN p o v).mapRe = s.mapRe := with_regs_mapRe s
@[simp] theorem State.wrN_net (p : Page) (o v : Nat) : (s.wrN p o v).net = s.net := with_regs_net s
@[simp] theorem State.wrN_arrivals (p : Page) (o v : Nat) : (s.wrN p o v).arrivals = s.arrivals := with_regs_arrivals s
@[simp] theorem State.wrN_inbox (p : Page) (o v : Nat) : (s.wrN p o v).inbox = s.inbox := with_regs_inbox s
@[simp] theorem State.wrN_redIn (p : Page) (o v : Nat) : (s.wrN p o v).redIn = s.redIn := with_regs_redIn s
@[simp] theorem State.wrN_robs (p : Page) (o v : Nat) : (s.wrN p o v).robs = s.robs := with_regs_robs s
@[simp] theorem State.wrN_expect (p : Page) (o v : Nat) : (s.wrN p o v).expect = s.expect := with_regs_expect s
@[simp] theorem State.wrN_seqs (p : Page) (o v : Nat) : (s.wrN p o v).seqs = s.seqs := with_regs_seqs s
@[simp] theorem State.wrN_pressure (p : Page) (o v : Nat) : (s.wrN p o v).pressure = s.pressure := with_regs_pressure s
@[simp] theorem State.wrN_partials (p : Page) (o v : Nat) : (s.wrN p o v).partials = s.partials := with_regs_partials s
@[simp] theorem State.wrN_links (p : Page) (o v : Nat) : (s.wrN p o v).links = s.links := with_regs_links s
@[simp] theorem State.wrN_d2dReplays (p : Page) (o v : Nat) : (s.wrN p o v).d2dReplays = s.d2dReplays := with_regs_d2dReplays s
@[simp] theorem State.wrN_d2dRetried (p : Page) (o v : Nat) : (s.wrN p o v).d2dRetried = s.d2dRetried := with_regs_d2dRetried s
@[simp] theorem State.wrN_leaves (p : Page) (o v : Nat) : (s.wrN p o v).leaves = s.leaves := with_regs_leaves s
@[simp] theorem State.wrN_notices (p : Page) (o v : Nat) : (s.wrN p o v).notices = s.notices := with_regs_notices s
@[simp] theorem State.wrN_sources (p : Page) (o v : Nat) : (s.wrN p o v).sources = s.sources := with_regs_sources s
@[simp] theorem State.wrN_chans (p : Page) (o v : Nat) : (s.wrN p o v).chans = s.chans := with_regs_chans s
@[simp] theorem State.wrN_decs (p : Page) (o v : Nat) : (s.wrN p o v).decs = s.decs := with_regs_decs s
@[simp] theorem State.wrN_hostMem (p : Page) (o v : Nat) : (s.wrN p o v).hostMem = s.hostMem := with_regs_hostMem s
@[simp] theorem State.wrN_rings (p : Page) (o v : Nat) : (s.wrN p o v).rings = s.rings := with_regs_rings s
@[simp] theorem State.wrN_cabs (p : Page) (o v : Nat) : (s.wrN p o v).cabs = s.cabs := with_regs_cabs s
@[simp] theorem State.wrN_hutches (p : Page) (o v : Nat) : (s.wrN p o v).hutches = s.hutches := with_regs_hutches s
@[simp] theorem State.wrN_parts (p : Page) (o v : Nat) : (s.wrN p o v).parts = s.parts := with_regs_parts s
@[simp] theorem State.wrN_journals (p : Page) (o v : Nat) : (s.wrN p o v).journals = s.journals := with_regs_journals s
@[simp] theorem State.wrN_ckpts (p : Page) (o v : Nat) : (s.wrN p o v).ckpts = s.ckpts := with_regs_ckpts s
@[simp] theorem State.wrN_parkAreas (p : Page) (o v : Nat) : (s.wrN p o v).parkAreas = s.parkAreas := with_regs_parkAreas s
@[simp] theorem State.wrN_boot (p : Page) (o v : Nat) : (s.wrN p o v).boot = s.boot := with_regs_boot s
@[simp] theorem State.wrN_msix (p : Page) (o v : Nat) : (s.wrN p o v).msix = s.msix := with_regs_msix s
@[simp] theorem State.wrN_sentMsi (p : Page) (o v : Nat) : (s.wrN p o v).sentMsi = s.sentMsi := with_regs_sentMsi s
@[simp] theorem State.wrN_routes (p : Page) (o v : Nat) : (s.wrN p o v).routes = s.routes := with_regs_routes s
@[simp] theorem State.wrN_pci (p : Page) (o v : Nat) : (s.wrN p o v).pci = s.pci := with_regs_pci s
@[simp] theorem State.wrN_mbox (p : Page) (o v : Nat) : (s.wrN p o v).mbox = s.mbox := with_regs_mbox s
@[simp] theorem State.wrN_recov (p : Page) (o v : Nat) : (s.wrN p o v).recov = s.recov := with_regs_recov s

@[simp] theorem State.raise_pending (p : Page) (i : Nat) : (s.raise p i).pending = s.pending := with_regs_pending s
@[simp] theorem State.raise_resp (p : Page) (i : Nat) : (s.raise p i).resp = s.resp := with_regs_resp s
@[simp] theorem State.raise_fuses (p : Page) (i : Nat) : (s.raise p i).fuses = s.fuses := with_regs_fuses s
@[simp] theorem State.raise_draws (p : Page) (i : Nat) : (s.raise p i).draws = s.draws := with_regs_draws s
@[simp] theorem State.raise_mem (p : Page) (i : Nat) : (s.raise p i).mem = s.mem := with_regs_mem s
@[simp] theorem State.raise_logs (p : Page) (i : Nat) : (s.raise p i).logs = s.logs := with_regs_logs s
@[simp] theorem State.raise_faultReports (p : Page) (i : Nat) : (s.raise p i).faultReports = s.faultReports := with_regs_faultReports s
@[simp] theorem State.raise_locks (p : Page) (i : Nat) : (s.raise p i).locks = s.locks := with_regs_locks s
@[simp] theorem State.raise_latches (p : Page) (i : Nat) : (s.raise p i).latches = s.latches := with_regs_latches s
@[simp] theorem State.raise_staging (p : Page) (i : Nat) : (s.raise p i).staging = s.staging := with_regs_staging s
@[simp] theorem State.raise_tb (p : Page) (i : Nat) : (s.raise p i).tb = s.tb := with_regs_tb s
@[simp] theorem State.raise_timers (p : Page) (i : Nat) : (s.raise p i).timers = s.timers := with_regs_timers s
@[simp] theorem State.raise_trigQual (p : Page) (i : Nat) : (s.raise p i).trigQual = s.trigQual := with_regs_trigQual s
@[simp] theorem State.raise_trigEvents (p : Page) (i : Nat) : (s.raise p i).trigEvents = s.trigEvents := with_regs_trigEvents s
@[simp] theorem State.raise_synced (p : Page) (i : Nat) : (s.raise p i).synced = s.synced := with_regs_synced s
@[simp] theorem State.raise_freeze (p : Page) (i : Nat) : (s.raise p i).freeze = s.freeze := with_regs_freeze s
@[simp] theorem State.raise_traces (p : Page) (i : Nat) : (s.raise p i).traces = s.traces := with_regs_traces s
@[simp] theorem State.raise_debugger (p : Page) (i : Nat) : (s.raise p i).debugger = s.debugger := with_regs_debugger s
@[simp] theorem State.raise_doms (p : Page) (i : Nat) : (s.raise p i).doms = s.doms := with_regs_doms s
@[simp] theorem State.raise_devPwr (p : Page) (i : Nat) : (s.raise p i).devPwr = s.devPwr := with_regs_devPwr s
@[simp] theorem State.raise_d3hot (p : Page) (i : Nat) : (s.raise p i).d3hot = s.d3hot := with_regs_d3hot s
@[simp] theorem State.raise_partState (p : Page) (i : Nat) : (s.raise p i).partState = s.partState := with_regs_partState s
@[simp] theorem State.raise_maps (p : Page) (i : Nat) : (s.raise p i).maps = s.maps := with_regs_maps s
@[simp] theorem State.raise_maps2 (p : Page) (i : Nat) : (s.raise p i).maps2 = s.maps2 := with_regs_maps2 s
@[simp] theorem State.raise_mapCur (p : Page) (i : Nat) : (s.raise p i).mapCur = s.mapCur := with_regs_mapCur s
@[simp] theorem State.raise_mapRe (p : Page) (i : Nat) : (s.raise p i).mapRe = s.mapRe := with_regs_mapRe s
@[simp] theorem State.raise_net (p : Page) (i : Nat) : (s.raise p i).net = s.net := with_regs_net s
@[simp] theorem State.raise_arrivals (p : Page) (i : Nat) : (s.raise p i).arrivals = s.arrivals := with_regs_arrivals s
@[simp] theorem State.raise_inbox (p : Page) (i : Nat) : (s.raise p i).inbox = s.inbox := with_regs_inbox s
@[simp] theorem State.raise_redIn (p : Page) (i : Nat) : (s.raise p i).redIn = s.redIn := with_regs_redIn s
@[simp] theorem State.raise_robs (p : Page) (i : Nat) : (s.raise p i).robs = s.robs := with_regs_robs s
@[simp] theorem State.raise_expect (p : Page) (i : Nat) : (s.raise p i).expect = s.expect := with_regs_expect s
@[simp] theorem State.raise_seqs (p : Page) (i : Nat) : (s.raise p i).seqs = s.seqs := with_regs_seqs s
@[simp] theorem State.raise_pressure (p : Page) (i : Nat) : (s.raise p i).pressure = s.pressure := with_regs_pressure s
@[simp] theorem State.raise_partials (p : Page) (i : Nat) : (s.raise p i).partials = s.partials := with_regs_partials s
@[simp] theorem State.raise_links (p : Page) (i : Nat) : (s.raise p i).links = s.links := with_regs_links s
@[simp] theorem State.raise_d2dReplays (p : Page) (i : Nat) : (s.raise p i).d2dReplays = s.d2dReplays := with_regs_d2dReplays s
@[simp] theorem State.raise_d2dRetried (p : Page) (i : Nat) : (s.raise p i).d2dRetried = s.d2dRetried := with_regs_d2dRetried s
@[simp] theorem State.raise_leaves (p : Page) (i : Nat) : (s.raise p i).leaves = s.leaves := with_regs_leaves s
@[simp] theorem State.raise_notices (p : Page) (i : Nat) : (s.raise p i).notices = s.notices := with_regs_notices s
@[simp] theorem State.raise_sources (p : Page) (i : Nat) : (s.raise p i).sources = s.sources := with_regs_sources s
@[simp] theorem State.raise_chans (p : Page) (i : Nat) : (s.raise p i).chans = s.chans := with_regs_chans s
@[simp] theorem State.raise_decs (p : Page) (i : Nat) : (s.raise p i).decs = s.decs := with_regs_decs s
@[simp] theorem State.raise_hostMem (p : Page) (i : Nat) : (s.raise p i).hostMem = s.hostMem := with_regs_hostMem s
@[simp] theorem State.raise_rings (p : Page) (i : Nat) : (s.raise p i).rings = s.rings := with_regs_rings s
@[simp] theorem State.raise_cabs (p : Page) (i : Nat) : (s.raise p i).cabs = s.cabs := with_regs_cabs s
@[simp] theorem State.raise_hutches (p : Page) (i : Nat) : (s.raise p i).hutches = s.hutches := with_regs_hutches s
@[simp] theorem State.raise_parts (p : Page) (i : Nat) : (s.raise p i).parts = s.parts := with_regs_parts s
@[simp] theorem State.raise_journals (p : Page) (i : Nat) : (s.raise p i).journals = s.journals := with_regs_journals s
@[simp] theorem State.raise_ckpts (p : Page) (i : Nat) : (s.raise p i).ckpts = s.ckpts := with_regs_ckpts s
@[simp] theorem State.raise_parkAreas (p : Page) (i : Nat) : (s.raise p i).parkAreas = s.parkAreas := with_regs_parkAreas s
@[simp] theorem State.raise_boot (p : Page) (i : Nat) : (s.raise p i).boot = s.boot := with_regs_boot s
@[simp] theorem State.raise_msix (p : Page) (i : Nat) : (s.raise p i).msix = s.msix := with_regs_msix s
@[simp] theorem State.raise_sentMsi (p : Page) (i : Nat) : (s.raise p i).sentMsi = s.sentMsi := with_regs_sentMsi s
@[simp] theorem State.raise_routes (p : Page) (i : Nat) : (s.raise p i).routes = s.routes := with_regs_routes s
@[simp] theorem State.raise_pci (p : Page) (i : Nat) : (s.raise p i).pci = s.pci := with_regs_pci s
@[simp] theorem State.raise_mbox (p : Page) (i : Nat) : (s.raise p i).mbox = s.mbox := with_regs_mbox s
@[simp] theorem State.raise_recov (p : Page) (i : Nat) : (s.raise p i).recov = s.recov := with_regs_recov s

@[simp] theorem State.incCtr_pending (p : Page) (o : Nat) : (s.incCtr p o).pending = s.pending := with_regs_pending s
@[simp] theorem State.incCtr_resp (p : Page) (o : Nat) : (s.incCtr p o).resp = s.resp := with_regs_resp s
@[simp] theorem State.incCtr_fuses (p : Page) (o : Nat) : (s.incCtr p o).fuses = s.fuses := with_regs_fuses s
@[simp] theorem State.incCtr_draws (p : Page) (o : Nat) : (s.incCtr p o).draws = s.draws := with_regs_draws s
@[simp] theorem State.incCtr_mem (p : Page) (o : Nat) : (s.incCtr p o).mem = s.mem := with_regs_mem s
@[simp] theorem State.incCtr_logs (p : Page) (o : Nat) : (s.incCtr p o).logs = s.logs := with_regs_logs s
@[simp] theorem State.incCtr_faultReports (p : Page) (o : Nat) : (s.incCtr p o).faultReports = s.faultReports := with_regs_faultReports s
@[simp] theorem State.incCtr_locks (p : Page) (o : Nat) : (s.incCtr p o).locks = s.locks := with_regs_locks s
@[simp] theorem State.incCtr_latches (p : Page) (o : Nat) : (s.incCtr p o).latches = s.latches := with_regs_latches s
@[simp] theorem State.incCtr_staging (p : Page) (o : Nat) : (s.incCtr p o).staging = s.staging := with_regs_staging s
@[simp] theorem State.incCtr_tb (p : Page) (o : Nat) : (s.incCtr p o).tb = s.tb := with_regs_tb s
@[simp] theorem State.incCtr_timers (p : Page) (o : Nat) : (s.incCtr p o).timers = s.timers := with_regs_timers s
@[simp] theorem State.incCtr_trigQual (p : Page) (o : Nat) : (s.incCtr p o).trigQual = s.trigQual := with_regs_trigQual s
@[simp] theorem State.incCtr_trigEvents (p : Page) (o : Nat) : (s.incCtr p o).trigEvents = s.trigEvents := with_regs_trigEvents s
@[simp] theorem State.incCtr_synced (p : Page) (o : Nat) : (s.incCtr p o).synced = s.synced := with_regs_synced s
@[simp] theorem State.incCtr_freeze (p : Page) (o : Nat) : (s.incCtr p o).freeze = s.freeze := with_regs_freeze s
@[simp] theorem State.incCtr_traces (p : Page) (o : Nat) : (s.incCtr p o).traces = s.traces := with_regs_traces s
@[simp] theorem State.incCtr_debugger (p : Page) (o : Nat) : (s.incCtr p o).debugger = s.debugger := with_regs_debugger s
@[simp] theorem State.incCtr_doms (p : Page) (o : Nat) : (s.incCtr p o).doms = s.doms := with_regs_doms s
@[simp] theorem State.incCtr_devPwr (p : Page) (o : Nat) : (s.incCtr p o).devPwr = s.devPwr := with_regs_devPwr s
@[simp] theorem State.incCtr_d3hot (p : Page) (o : Nat) : (s.incCtr p o).d3hot = s.d3hot := with_regs_d3hot s
@[simp] theorem State.incCtr_partState (p : Page) (o : Nat) : (s.incCtr p o).partState = s.partState := with_regs_partState s
@[simp] theorem State.incCtr_maps (p : Page) (o : Nat) : (s.incCtr p o).maps = s.maps := with_regs_maps s
@[simp] theorem State.incCtr_maps2 (p : Page) (o : Nat) : (s.incCtr p o).maps2 = s.maps2 := with_regs_maps2 s
@[simp] theorem State.incCtr_mapCur (p : Page) (o : Nat) : (s.incCtr p o).mapCur = s.mapCur := with_regs_mapCur s
@[simp] theorem State.incCtr_mapRe (p : Page) (o : Nat) : (s.incCtr p o).mapRe = s.mapRe := with_regs_mapRe s
@[simp] theorem State.incCtr_net (p : Page) (o : Nat) : (s.incCtr p o).net = s.net := with_regs_net s
@[simp] theorem State.incCtr_arrivals (p : Page) (o : Nat) : (s.incCtr p o).arrivals = s.arrivals := with_regs_arrivals s
@[simp] theorem State.incCtr_inbox (p : Page) (o : Nat) : (s.incCtr p o).inbox = s.inbox := with_regs_inbox s
@[simp] theorem State.incCtr_redIn (p : Page) (o : Nat) : (s.incCtr p o).redIn = s.redIn := with_regs_redIn s
@[simp] theorem State.incCtr_robs (p : Page) (o : Nat) : (s.incCtr p o).robs = s.robs := with_regs_robs s
@[simp] theorem State.incCtr_expect (p : Page) (o : Nat) : (s.incCtr p o).expect = s.expect := with_regs_expect s
@[simp] theorem State.incCtr_seqs (p : Page) (o : Nat) : (s.incCtr p o).seqs = s.seqs := with_regs_seqs s
@[simp] theorem State.incCtr_pressure (p : Page) (o : Nat) : (s.incCtr p o).pressure = s.pressure := with_regs_pressure s
@[simp] theorem State.incCtr_partials (p : Page) (o : Nat) : (s.incCtr p o).partials = s.partials := with_regs_partials s
@[simp] theorem State.incCtr_links (p : Page) (o : Nat) : (s.incCtr p o).links = s.links := with_regs_links s
@[simp] theorem State.incCtr_d2dReplays (p : Page) (o : Nat) : (s.incCtr p o).d2dReplays = s.d2dReplays := with_regs_d2dReplays s
@[simp] theorem State.incCtr_d2dRetried (p : Page) (o : Nat) : (s.incCtr p o).d2dRetried = s.d2dRetried := with_regs_d2dRetried s
@[simp] theorem State.incCtr_leaves (p : Page) (o : Nat) : (s.incCtr p o).leaves = s.leaves := with_regs_leaves s
@[simp] theorem State.incCtr_notices (p : Page) (o : Nat) : (s.incCtr p o).notices = s.notices := with_regs_notices s
@[simp] theorem State.incCtr_sources (p : Page) (o : Nat) : (s.incCtr p o).sources = s.sources := with_regs_sources s
@[simp] theorem State.incCtr_chans (p : Page) (o : Nat) : (s.incCtr p o).chans = s.chans := with_regs_chans s
@[simp] theorem State.incCtr_decs (p : Page) (o : Nat) : (s.incCtr p o).decs = s.decs := with_regs_decs s
@[simp] theorem State.incCtr_hostMem (p : Page) (o : Nat) : (s.incCtr p o).hostMem = s.hostMem := with_regs_hostMem s
@[simp] theorem State.incCtr_rings (p : Page) (o : Nat) : (s.incCtr p o).rings = s.rings := with_regs_rings s
@[simp] theorem State.incCtr_cabs (p : Page) (o : Nat) : (s.incCtr p o).cabs = s.cabs := with_regs_cabs s
@[simp] theorem State.incCtr_hutches (p : Page) (o : Nat) : (s.incCtr p o).hutches = s.hutches := with_regs_hutches s
@[simp] theorem State.incCtr_parts (p : Page) (o : Nat) : (s.incCtr p o).parts = s.parts := with_regs_parts s
@[simp] theorem State.incCtr_journals (p : Page) (o : Nat) : (s.incCtr p o).journals = s.journals := with_regs_journals s
@[simp] theorem State.incCtr_ckpts (p : Page) (o : Nat) : (s.incCtr p o).ckpts = s.ckpts := with_regs_ckpts s
@[simp] theorem State.incCtr_parkAreas (p : Page) (o : Nat) : (s.incCtr p o).parkAreas = s.parkAreas := with_regs_parkAreas s
@[simp] theorem State.incCtr_boot (p : Page) (o : Nat) : (s.incCtr p o).boot = s.boot := with_regs_boot s
@[simp] theorem State.incCtr_msix (p : Page) (o : Nat) : (s.incCtr p o).msix = s.msix := with_regs_msix s
@[simp] theorem State.incCtr_sentMsi (p : Page) (o : Nat) : (s.incCtr p o).sentMsi = s.sentMsi := with_regs_sentMsi s
@[simp] theorem State.incCtr_routes (p : Page) (o : Nat) : (s.incCtr p o).routes = s.routes := with_regs_routes s
@[simp] theorem State.incCtr_pci (p : Page) (o : Nat) : (s.incCtr p o).pci = s.pci := with_regs_pci s
@[simp] theorem State.incCtr_mbox (p : Page) (o : Nat) : (s.incCtr p o).mbox = s.mbox := with_regs_mbox s
@[simp] theorem State.incCtr_recov (p : Page) (o : Nat) : (s.incCtr p o).recov = s.recov := with_regs_recov s

@[simp] theorem State.setByte_pending (a : Nat) (b : Byte) : (s.setByte a b).pending = s.pending := with_mem_pending s
@[simp] theorem State.setByte_resp (a : Nat) (b : Byte) : (s.setByte a b).resp = s.resp := with_mem_resp s
@[simp] theorem State.setByte_fuses (a : Nat) (b : Byte) : (s.setByte a b).fuses = s.fuses := with_mem_fuses s
@[simp] theorem State.setByte_regs (a : Nat) (b : Byte) : (s.setByte a b).regs = s.regs := with_mem_regs s
@[simp] theorem State.setByte_draws (a : Nat) (b : Byte) : (s.setByte a b).draws = s.draws := with_mem_draws s
@[simp] theorem State.setByte_logs (a : Nat) (b : Byte) : (s.setByte a b).logs = s.logs := with_mem_logs s
@[simp] theorem State.setByte_faultReports (a : Nat) (b : Byte) : (s.setByte a b).faultReports = s.faultReports := with_mem_faultReports s
@[simp] theorem State.setByte_locks (a : Nat) (b : Byte) : (s.setByte a b).locks = s.locks := with_mem_locks s
@[simp] theorem State.setByte_latches (a : Nat) (b : Byte) : (s.setByte a b).latches = s.latches := with_mem_latches s
@[simp] theorem State.setByte_staging (a : Nat) (b : Byte) : (s.setByte a b).staging = s.staging := with_mem_staging s
@[simp] theorem State.setByte_tb (a : Nat) (b : Byte) : (s.setByte a b).tb = s.tb := with_mem_tb s
@[simp] theorem State.setByte_timers (a : Nat) (b : Byte) : (s.setByte a b).timers = s.timers := with_mem_timers s
@[simp] theorem State.setByte_trigQual (a : Nat) (b : Byte) : (s.setByte a b).trigQual = s.trigQual := with_mem_trigQual s
@[simp] theorem State.setByte_trigEvents (a : Nat) (b : Byte) : (s.setByte a b).trigEvents = s.trigEvents := with_mem_trigEvents s
@[simp] theorem State.setByte_synced (a : Nat) (b : Byte) : (s.setByte a b).synced = s.synced := with_mem_synced s
@[simp] theorem State.setByte_freeze (a : Nat) (b : Byte) : (s.setByte a b).freeze = s.freeze := with_mem_freeze s
@[simp] theorem State.setByte_traces (a : Nat) (b : Byte) : (s.setByte a b).traces = s.traces := with_mem_traces s
@[simp] theorem State.setByte_debugger (a : Nat) (b : Byte) : (s.setByte a b).debugger = s.debugger := with_mem_debugger s
@[simp] theorem State.setByte_doms (a : Nat) (b : Byte) : (s.setByte a b).doms = s.doms := with_mem_doms s
@[simp] theorem State.setByte_devPwr (a : Nat) (b : Byte) : (s.setByte a b).devPwr = s.devPwr := with_mem_devPwr s
@[simp] theorem State.setByte_d3hot (a : Nat) (b : Byte) : (s.setByte a b).d3hot = s.d3hot := with_mem_d3hot s
@[simp] theorem State.setByte_partState (a : Nat) (b : Byte) : (s.setByte a b).partState = s.partState := with_mem_partState s
@[simp] theorem State.setByte_maps (a : Nat) (b : Byte) : (s.setByte a b).maps = s.maps := with_mem_maps s
@[simp] theorem State.setByte_maps2 (a : Nat) (b : Byte) : (s.setByte a b).maps2 = s.maps2 := with_mem_maps2 s
@[simp] theorem State.setByte_mapCur (a : Nat) (b : Byte) : (s.setByte a b).mapCur = s.mapCur := with_mem_mapCur s
@[simp] theorem State.setByte_mapRe (a : Nat) (b : Byte) : (s.setByte a b).mapRe = s.mapRe := with_mem_mapRe s
@[simp] theorem State.setByte_net (a : Nat) (b : Byte) : (s.setByte a b).net = s.net := with_mem_net s
@[simp] theorem State.setByte_arrivals (a : Nat) (b : Byte) : (s.setByte a b).arrivals = s.arrivals := with_mem_arrivals s
@[simp] theorem State.setByte_inbox (a : Nat) (b : Byte) : (s.setByte a b).inbox = s.inbox := with_mem_inbox s
@[simp] theorem State.setByte_redIn (a : Nat) (b : Byte) : (s.setByte a b).redIn = s.redIn := with_mem_redIn s
@[simp] theorem State.setByte_robs (a : Nat) (b : Byte) : (s.setByte a b).robs = s.robs := with_mem_robs s
@[simp] theorem State.setByte_expect (a : Nat) (b : Byte) : (s.setByte a b).expect = s.expect := with_mem_expect s
@[simp] theorem State.setByte_seqs (a : Nat) (b : Byte) : (s.setByte a b).seqs = s.seqs := with_mem_seqs s
@[simp] theorem State.setByte_pressure (a : Nat) (b : Byte) : (s.setByte a b).pressure = s.pressure := with_mem_pressure s
@[simp] theorem State.setByte_partials (a : Nat) (b : Byte) : (s.setByte a b).partials = s.partials := with_mem_partials s
@[simp] theorem State.setByte_links (a : Nat) (b : Byte) : (s.setByte a b).links = s.links := with_mem_links s
@[simp] theorem State.setByte_d2dReplays (a : Nat) (b : Byte) : (s.setByte a b).d2dReplays = s.d2dReplays := with_mem_d2dReplays s
@[simp] theorem State.setByte_d2dRetried (a : Nat) (b : Byte) : (s.setByte a b).d2dRetried = s.d2dRetried := with_mem_d2dRetried s
@[simp] theorem State.setByte_leaves (a : Nat) (b : Byte) : (s.setByte a b).leaves = s.leaves := with_mem_leaves s
@[simp] theorem State.setByte_notices (a : Nat) (b : Byte) : (s.setByte a b).notices = s.notices := with_mem_notices s
@[simp] theorem State.setByte_sources (a : Nat) (b : Byte) : (s.setByte a b).sources = s.sources := with_mem_sources s
@[simp] theorem State.setByte_chans (a : Nat) (b : Byte) : (s.setByte a b).chans = s.chans := with_mem_chans s
@[simp] theorem State.setByte_decs (a : Nat) (b : Byte) : (s.setByte a b).decs = s.decs := with_mem_decs s
@[simp] theorem State.setByte_hostMem (a : Nat) (b : Byte) : (s.setByte a b).hostMem = s.hostMem := with_mem_hostMem s
@[simp] theorem State.setByte_rings (a : Nat) (b : Byte) : (s.setByte a b).rings = s.rings := with_mem_rings s
@[simp] theorem State.setByte_cabs (a : Nat) (b : Byte) : (s.setByte a b).cabs = s.cabs := with_mem_cabs s
@[simp] theorem State.setByte_hutches (a : Nat) (b : Byte) : (s.setByte a b).hutches = s.hutches := with_mem_hutches s
@[simp] theorem State.setByte_parts (a : Nat) (b : Byte) : (s.setByte a b).parts = s.parts := with_mem_parts s
@[simp] theorem State.setByte_journals (a : Nat) (b : Byte) : (s.setByte a b).journals = s.journals := with_mem_journals s
@[simp] theorem State.setByte_ckpts (a : Nat) (b : Byte) : (s.setByte a b).ckpts = s.ckpts := with_mem_ckpts s
@[simp] theorem State.setByte_parkAreas (a : Nat) (b : Byte) : (s.setByte a b).parkAreas = s.parkAreas := with_mem_parkAreas s
@[simp] theorem State.setByte_boot (a : Nat) (b : Byte) : (s.setByte a b).boot = s.boot := with_mem_boot s
@[simp] theorem State.setByte_msix (a : Nat) (b : Byte) : (s.setByte a b).msix = s.msix := with_mem_msix s
@[simp] theorem State.setByte_sentMsi (a : Nat) (b : Byte) : (s.setByte a b).sentMsi = s.sentMsi := with_mem_sentMsi s
@[simp] theorem State.setByte_routes (a : Nat) (b : Byte) : (s.setByte a b).routes = s.routes := with_mem_routes s
@[simp] theorem State.setByte_pci (a : Nat) (b : Byte) : (s.setByte a b).pci = s.pci := with_mem_pci s
@[simp] theorem State.setByte_mbox (a : Nat) (b : Byte) : (s.setByte a b).mbox = s.mbox := with_mem_mbox s
@[simp] theorem State.setByte_recov (a : Nat) (b : Byte) : (s.setByte a b).recov = s.recov := with_mem_recov s

@[simp] theorem State.setDom_pending (d : Nat) (x : Dom) : (s.setDom d x).pending = s.pending := with_doms_pending s
@[simp] theorem State.setDom_resp (d : Nat) (x : Dom) : (s.setDom d x).resp = s.resp := with_doms_resp s
@[simp] theorem State.setDom_fuses (d : Nat) (x : Dom) : (s.setDom d x).fuses = s.fuses := with_doms_fuses s
@[simp] theorem State.setDom_regs (d : Nat) (x : Dom) : (s.setDom d x).regs = s.regs := with_doms_regs s
@[simp] theorem State.setDom_draws (d : Nat) (x : Dom) : (s.setDom d x).draws = s.draws := with_doms_draws s
@[simp] theorem State.setDom_mem (d : Nat) (x : Dom) : (s.setDom d x).mem = s.mem := with_doms_mem s
@[simp] theorem State.setDom_logs (d : Nat) (x : Dom) : (s.setDom d x).logs = s.logs := with_doms_logs s
@[simp] theorem State.setDom_faultReports (d : Nat) (x : Dom) : (s.setDom d x).faultReports = s.faultReports := with_doms_faultReports s
@[simp] theorem State.setDom_locks (d : Nat) (x : Dom) : (s.setDom d x).locks = s.locks := with_doms_locks s
@[simp] theorem State.setDom_latches (d : Nat) (x : Dom) : (s.setDom d x).latches = s.latches := with_doms_latches s
@[simp] theorem State.setDom_staging (d : Nat) (x : Dom) : (s.setDom d x).staging = s.staging := with_doms_staging s
@[simp] theorem State.setDom_tb (d : Nat) (x : Dom) : (s.setDom d x).tb = s.tb := with_doms_tb s
@[simp] theorem State.setDom_timers (d : Nat) (x : Dom) : (s.setDom d x).timers = s.timers := with_doms_timers s
@[simp] theorem State.setDom_trigQual (d : Nat) (x : Dom) : (s.setDom d x).trigQual = s.trigQual := with_doms_trigQual s
@[simp] theorem State.setDom_trigEvents (d : Nat) (x : Dom) : (s.setDom d x).trigEvents = s.trigEvents := with_doms_trigEvents s
@[simp] theorem State.setDom_synced (d : Nat) (x : Dom) : (s.setDom d x).synced = s.synced := with_doms_synced s
@[simp] theorem State.setDom_freeze (d : Nat) (x : Dom) : (s.setDom d x).freeze = s.freeze := with_doms_freeze s
@[simp] theorem State.setDom_traces (d : Nat) (x : Dom) : (s.setDom d x).traces = s.traces := with_doms_traces s
@[simp] theorem State.setDom_debugger (d : Nat) (x : Dom) : (s.setDom d x).debugger = s.debugger := with_doms_debugger s
@[simp] theorem State.setDom_devPwr (d : Nat) (x : Dom) : (s.setDom d x).devPwr = s.devPwr := with_doms_devPwr s
@[simp] theorem State.setDom_d3hot (d : Nat) (x : Dom) : (s.setDom d x).d3hot = s.d3hot := with_doms_d3hot s
@[simp] theorem State.setDom_partState (d : Nat) (x : Dom) : (s.setDom d x).partState = s.partState := with_doms_partState s
@[simp] theorem State.setDom_maps (d : Nat) (x : Dom) : (s.setDom d x).maps = s.maps := with_doms_maps s
@[simp] theorem State.setDom_maps2 (d : Nat) (x : Dom) : (s.setDom d x).maps2 = s.maps2 := with_doms_maps2 s
@[simp] theorem State.setDom_mapCur (d : Nat) (x : Dom) : (s.setDom d x).mapCur = s.mapCur := with_doms_mapCur s
@[simp] theorem State.setDom_mapRe (d : Nat) (x : Dom) : (s.setDom d x).mapRe = s.mapRe := with_doms_mapRe s
@[simp] theorem State.setDom_net (d : Nat) (x : Dom) : (s.setDom d x).net = s.net := with_doms_net s
@[simp] theorem State.setDom_arrivals (d : Nat) (x : Dom) : (s.setDom d x).arrivals = s.arrivals := with_doms_arrivals s
@[simp] theorem State.setDom_inbox (d : Nat) (x : Dom) : (s.setDom d x).inbox = s.inbox := with_doms_inbox s
@[simp] theorem State.setDom_redIn (d : Nat) (x : Dom) : (s.setDom d x).redIn = s.redIn := with_doms_redIn s
@[simp] theorem State.setDom_robs (d : Nat) (x : Dom) : (s.setDom d x).robs = s.robs := with_doms_robs s
@[simp] theorem State.setDom_expect (d : Nat) (x : Dom) : (s.setDom d x).expect = s.expect := with_doms_expect s
@[simp] theorem State.setDom_seqs (d : Nat) (x : Dom) : (s.setDom d x).seqs = s.seqs := with_doms_seqs s
@[simp] theorem State.setDom_pressure (d : Nat) (x : Dom) : (s.setDom d x).pressure = s.pressure := with_doms_pressure s
@[simp] theorem State.setDom_partials (d : Nat) (x : Dom) : (s.setDom d x).partials = s.partials := with_doms_partials s
@[simp] theorem State.setDom_links (d : Nat) (x : Dom) : (s.setDom d x).links = s.links := with_doms_links s
@[simp] theorem State.setDom_d2dReplays (d : Nat) (x : Dom) : (s.setDom d x).d2dReplays = s.d2dReplays := with_doms_d2dReplays s
@[simp] theorem State.setDom_d2dRetried (d : Nat) (x : Dom) : (s.setDom d x).d2dRetried = s.d2dRetried := with_doms_d2dRetried s
@[simp] theorem State.setDom_leaves (d : Nat) (x : Dom) : (s.setDom d x).leaves = s.leaves := with_doms_leaves s
@[simp] theorem State.setDom_notices (d : Nat) (x : Dom) : (s.setDom d x).notices = s.notices := with_doms_notices s
@[simp] theorem State.setDom_sources (d : Nat) (x : Dom) : (s.setDom d x).sources = s.sources := with_doms_sources s
@[simp] theorem State.setDom_chans (d : Nat) (x : Dom) : (s.setDom d x).chans = s.chans := with_doms_chans s
@[simp] theorem State.setDom_decs (d : Nat) (x : Dom) : (s.setDom d x).decs = s.decs := with_doms_decs s
@[simp] theorem State.setDom_hostMem (d : Nat) (x : Dom) : (s.setDom d x).hostMem = s.hostMem := with_doms_hostMem s
@[simp] theorem State.setDom_rings (d : Nat) (x : Dom) : (s.setDom d x).rings = s.rings := with_doms_rings s
@[simp] theorem State.setDom_cabs (d : Nat) (x : Dom) : (s.setDom d x).cabs = s.cabs := with_doms_cabs s
@[simp] theorem State.setDom_hutches (d : Nat) (x : Dom) : (s.setDom d x).hutches = s.hutches := with_doms_hutches s
@[simp] theorem State.setDom_parts (d : Nat) (x : Dom) : (s.setDom d x).parts = s.parts := with_doms_parts s
@[simp] theorem State.setDom_journals (d : Nat) (x : Dom) : (s.setDom d x).journals = s.journals := with_doms_journals s
@[simp] theorem State.setDom_ckpts (d : Nat) (x : Dom) : (s.setDom d x).ckpts = s.ckpts := with_doms_ckpts s
@[simp] theorem State.setDom_parkAreas (d : Nat) (x : Dom) : (s.setDom d x).parkAreas = s.parkAreas := with_doms_parkAreas s
@[simp] theorem State.setDom_boot (d : Nat) (x : Dom) : (s.setDom d x).boot = s.boot := with_doms_boot s
@[simp] theorem State.setDom_msix (d : Nat) (x : Dom) : (s.setDom d x).msix = s.msix := with_doms_msix s
@[simp] theorem State.setDom_sentMsi (d : Nat) (x : Dom) : (s.setDom d x).sentMsi = s.sentMsi := with_doms_sentMsi s
@[simp] theorem State.setDom_routes (d : Nat) (x : Dom) : (s.setDom d x).routes = s.routes := with_doms_routes s
@[simp] theorem State.setDom_pci (d : Nat) (x : Dom) : (s.setDom d x).pci = s.pci := with_doms_pci s
@[simp] theorem State.setDom_mbox (d : Nat) (x : Dom) : (s.setDom d x).mbox = s.mbox := with_doms_mbox s
@[simp] theorem State.setDom_recov (d : Nat) (x : Dom) : (s.setDom d x).recov = s.recov := with_doms_recov s

@[simp] theorem State.setChan_pending (n : Nat) (c : Chan) : (s.setChan n c).pending = s.pending := with_chans_pending s
@[simp] theorem State.setChan_resp (n : Nat) (c : Chan) : (s.setChan n c).resp = s.resp := with_chans_resp s
@[simp] theorem State.setChan_fuses (n : Nat) (c : Chan) : (s.setChan n c).fuses = s.fuses := with_chans_fuses s
@[simp] theorem State.setChan_regs (n : Nat) (c : Chan) : (s.setChan n c).regs = s.regs := with_chans_regs s
@[simp] theorem State.setChan_draws (n : Nat) (c : Chan) : (s.setChan n c).draws = s.draws := with_chans_draws s
@[simp] theorem State.setChan_mem (n : Nat) (c : Chan) : (s.setChan n c).mem = s.mem := with_chans_mem s
@[simp] theorem State.setChan_logs (n : Nat) (c : Chan) : (s.setChan n c).logs = s.logs := with_chans_logs s
@[simp] theorem State.setChan_faultReports (n : Nat) (c : Chan) : (s.setChan n c).faultReports = s.faultReports := with_chans_faultReports s
@[simp] theorem State.setChan_locks (n : Nat) (c : Chan) : (s.setChan n c).locks = s.locks := with_chans_locks s
@[simp] theorem State.setChan_latches (n : Nat) (c : Chan) : (s.setChan n c).latches = s.latches := with_chans_latches s
@[simp] theorem State.setChan_staging (n : Nat) (c : Chan) : (s.setChan n c).staging = s.staging := with_chans_staging s
@[simp] theorem State.setChan_tb (n : Nat) (c : Chan) : (s.setChan n c).tb = s.tb := with_chans_tb s
@[simp] theorem State.setChan_timers (n : Nat) (c : Chan) : (s.setChan n c).timers = s.timers := with_chans_timers s
@[simp] theorem State.setChan_trigQual (n : Nat) (c : Chan) : (s.setChan n c).trigQual = s.trigQual := with_chans_trigQual s
@[simp] theorem State.setChan_trigEvents (n : Nat) (c : Chan) : (s.setChan n c).trigEvents = s.trigEvents := with_chans_trigEvents s
@[simp] theorem State.setChan_synced (n : Nat) (c : Chan) : (s.setChan n c).synced = s.synced := with_chans_synced s
@[simp] theorem State.setChan_freeze (n : Nat) (c : Chan) : (s.setChan n c).freeze = s.freeze := with_chans_freeze s
@[simp] theorem State.setChan_traces (n : Nat) (c : Chan) : (s.setChan n c).traces = s.traces := with_chans_traces s
@[simp] theorem State.setChan_debugger (n : Nat) (c : Chan) : (s.setChan n c).debugger = s.debugger := with_chans_debugger s
@[simp] theorem State.setChan_doms (n : Nat) (c : Chan) : (s.setChan n c).doms = s.doms := with_chans_doms s
@[simp] theorem State.setChan_devPwr (n : Nat) (c : Chan) : (s.setChan n c).devPwr = s.devPwr := with_chans_devPwr s
@[simp] theorem State.setChan_d3hot (n : Nat) (c : Chan) : (s.setChan n c).d3hot = s.d3hot := with_chans_d3hot s
@[simp] theorem State.setChan_partState (n : Nat) (c : Chan) : (s.setChan n c).partState = s.partState := with_chans_partState s
@[simp] theorem State.setChan_maps (n : Nat) (c : Chan) : (s.setChan n c).maps = s.maps := with_chans_maps s
@[simp] theorem State.setChan_maps2 (n : Nat) (c : Chan) : (s.setChan n c).maps2 = s.maps2 := with_chans_maps2 s
@[simp] theorem State.setChan_mapCur (n : Nat) (c : Chan) : (s.setChan n c).mapCur = s.mapCur := with_chans_mapCur s
@[simp] theorem State.setChan_mapRe (n : Nat) (c : Chan) : (s.setChan n c).mapRe = s.mapRe := with_chans_mapRe s
@[simp] theorem State.setChan_net (n : Nat) (c : Chan) : (s.setChan n c).net = s.net := with_chans_net s
@[simp] theorem State.setChan_arrivals (n : Nat) (c : Chan) : (s.setChan n c).arrivals = s.arrivals := with_chans_arrivals s
@[simp] theorem State.setChan_inbox (n : Nat) (c : Chan) : (s.setChan n c).inbox = s.inbox := with_chans_inbox s
@[simp] theorem State.setChan_redIn (n : Nat) (c : Chan) : (s.setChan n c).redIn = s.redIn := with_chans_redIn s
@[simp] theorem State.setChan_robs (n : Nat) (c : Chan) : (s.setChan n c).robs = s.robs := with_chans_robs s
@[simp] theorem State.setChan_expect (n : Nat) (c : Chan) : (s.setChan n c).expect = s.expect := with_chans_expect s
@[simp] theorem State.setChan_seqs (n : Nat) (c : Chan) : (s.setChan n c).seqs = s.seqs := with_chans_seqs s
@[simp] theorem State.setChan_pressure (n : Nat) (c : Chan) : (s.setChan n c).pressure = s.pressure := with_chans_pressure s
@[simp] theorem State.setChan_partials (n : Nat) (c : Chan) : (s.setChan n c).partials = s.partials := with_chans_partials s
@[simp] theorem State.setChan_links (n : Nat) (c : Chan) : (s.setChan n c).links = s.links := with_chans_links s
@[simp] theorem State.setChan_d2dReplays (n : Nat) (c : Chan) : (s.setChan n c).d2dReplays = s.d2dReplays := with_chans_d2dReplays s
@[simp] theorem State.setChan_d2dRetried (n : Nat) (c : Chan) : (s.setChan n c).d2dRetried = s.d2dRetried := with_chans_d2dRetried s
@[simp] theorem State.setChan_leaves (n : Nat) (c : Chan) : (s.setChan n c).leaves = s.leaves := with_chans_leaves s
@[simp] theorem State.setChan_notices (n : Nat) (c : Chan) : (s.setChan n c).notices = s.notices := with_chans_notices s
@[simp] theorem State.setChan_sources (n : Nat) (c : Chan) : (s.setChan n c).sources = s.sources := with_chans_sources s
@[simp] theorem State.setChan_decs (n : Nat) (c : Chan) : (s.setChan n c).decs = s.decs := with_chans_decs s
@[simp] theorem State.setChan_hostMem (n : Nat) (c : Chan) : (s.setChan n c).hostMem = s.hostMem := with_chans_hostMem s
@[simp] theorem State.setChan_rings (n : Nat) (c : Chan) : (s.setChan n c).rings = s.rings := with_chans_rings s
@[simp] theorem State.setChan_cabs (n : Nat) (c : Chan) : (s.setChan n c).cabs = s.cabs := with_chans_cabs s
@[simp] theorem State.setChan_hutches (n : Nat) (c : Chan) : (s.setChan n c).hutches = s.hutches := with_chans_hutches s
@[simp] theorem State.setChan_parts (n : Nat) (c : Chan) : (s.setChan n c).parts = s.parts := with_chans_parts s
@[simp] theorem State.setChan_journals (n : Nat) (c : Chan) : (s.setChan n c).journals = s.journals := with_chans_journals s
@[simp] theorem State.setChan_ckpts (n : Nat) (c : Chan) : (s.setChan n c).ckpts = s.ckpts := with_chans_ckpts s
@[simp] theorem State.setChan_parkAreas (n : Nat) (c : Chan) : (s.setChan n c).parkAreas = s.parkAreas := with_chans_parkAreas s
@[simp] theorem State.setChan_boot (n : Nat) (c : Chan) : (s.setChan n c).boot = s.boot := with_chans_boot s
@[simp] theorem State.setChan_msix (n : Nat) (c : Chan) : (s.setChan n c).msix = s.msix := with_chans_msix s
@[simp] theorem State.setChan_sentMsi (n : Nat) (c : Chan) : (s.setChan n c).sentMsi = s.sentMsi := with_chans_sentMsi s
@[simp] theorem State.setChan_routes (n : Nat) (c : Chan) : (s.setChan n c).routes = s.routes := with_chans_routes s
@[simp] theorem State.setChan_pci (n : Nat) (c : Chan) : (s.setChan n c).pci = s.pci := with_chans_pci s
@[simp] theorem State.setChan_mbox (n : Nat) (c : Chan) : (s.setChan n c).mbox = s.mbox := with_chans_mbox s
@[simp] theorem State.setChan_recov (n : Nat) (c : Chan) : (s.setChan n c).recov = s.recov := with_chans_recov s

@[simp] theorem State.setCab_pending (q : Nat) (c : Cab) : (s.setCab q c).pending = s.pending := with_cabs_pending s
@[simp] theorem State.setCab_resp (q : Nat) (c : Cab) : (s.setCab q c).resp = s.resp := with_cabs_resp s
@[simp] theorem State.setCab_fuses (q : Nat) (c : Cab) : (s.setCab q c).fuses = s.fuses := with_cabs_fuses s
@[simp] theorem State.setCab_regs (q : Nat) (c : Cab) : (s.setCab q c).regs = s.regs := with_cabs_regs s
@[simp] theorem State.setCab_draws (q : Nat) (c : Cab) : (s.setCab q c).draws = s.draws := with_cabs_draws s
@[simp] theorem State.setCab_mem (q : Nat) (c : Cab) : (s.setCab q c).mem = s.mem := with_cabs_mem s
@[simp] theorem State.setCab_logs (q : Nat) (c : Cab) : (s.setCab q c).logs = s.logs := with_cabs_logs s
@[simp] theorem State.setCab_faultReports (q : Nat) (c : Cab) : (s.setCab q c).faultReports = s.faultReports := with_cabs_faultReports s
@[simp] theorem State.setCab_locks (q : Nat) (c : Cab) : (s.setCab q c).locks = s.locks := with_cabs_locks s
@[simp] theorem State.setCab_latches (q : Nat) (c : Cab) : (s.setCab q c).latches = s.latches := with_cabs_latches s
@[simp] theorem State.setCab_staging (q : Nat) (c : Cab) : (s.setCab q c).staging = s.staging := with_cabs_staging s
@[simp] theorem State.setCab_tb (q : Nat) (c : Cab) : (s.setCab q c).tb = s.tb := with_cabs_tb s
@[simp] theorem State.setCab_timers (q : Nat) (c : Cab) : (s.setCab q c).timers = s.timers := with_cabs_timers s
@[simp] theorem State.setCab_trigQual (q : Nat) (c : Cab) : (s.setCab q c).trigQual = s.trigQual := with_cabs_trigQual s
@[simp] theorem State.setCab_trigEvents (q : Nat) (c : Cab) : (s.setCab q c).trigEvents = s.trigEvents := with_cabs_trigEvents s
@[simp] theorem State.setCab_synced (q : Nat) (c : Cab) : (s.setCab q c).synced = s.synced := with_cabs_synced s
@[simp] theorem State.setCab_freeze (q : Nat) (c : Cab) : (s.setCab q c).freeze = s.freeze := with_cabs_freeze s
@[simp] theorem State.setCab_traces (q : Nat) (c : Cab) : (s.setCab q c).traces = s.traces := with_cabs_traces s
@[simp] theorem State.setCab_debugger (q : Nat) (c : Cab) : (s.setCab q c).debugger = s.debugger := with_cabs_debugger s
@[simp] theorem State.setCab_doms (q : Nat) (c : Cab) : (s.setCab q c).doms = s.doms := with_cabs_doms s
@[simp] theorem State.setCab_devPwr (q : Nat) (c : Cab) : (s.setCab q c).devPwr = s.devPwr := with_cabs_devPwr s
@[simp] theorem State.setCab_d3hot (q : Nat) (c : Cab) : (s.setCab q c).d3hot = s.d3hot := with_cabs_d3hot s
@[simp] theorem State.setCab_partState (q : Nat) (c : Cab) : (s.setCab q c).partState = s.partState := with_cabs_partState s
@[simp] theorem State.setCab_maps (q : Nat) (c : Cab) : (s.setCab q c).maps = s.maps := with_cabs_maps s
@[simp] theorem State.setCab_maps2 (q : Nat) (c : Cab) : (s.setCab q c).maps2 = s.maps2 := with_cabs_maps2 s
@[simp] theorem State.setCab_mapCur (q : Nat) (c : Cab) : (s.setCab q c).mapCur = s.mapCur := with_cabs_mapCur s
@[simp] theorem State.setCab_mapRe (q : Nat) (c : Cab) : (s.setCab q c).mapRe = s.mapRe := with_cabs_mapRe s
@[simp] theorem State.setCab_net (q : Nat) (c : Cab) : (s.setCab q c).net = s.net := with_cabs_net s
@[simp] theorem State.setCab_arrivals (q : Nat) (c : Cab) : (s.setCab q c).arrivals = s.arrivals := with_cabs_arrivals s
@[simp] theorem State.setCab_inbox (q : Nat) (c : Cab) : (s.setCab q c).inbox = s.inbox := with_cabs_inbox s
@[simp] theorem State.setCab_redIn (q : Nat) (c : Cab) : (s.setCab q c).redIn = s.redIn := with_cabs_redIn s
@[simp] theorem State.setCab_robs (q : Nat) (c : Cab) : (s.setCab q c).robs = s.robs := with_cabs_robs s
@[simp] theorem State.setCab_expect (q : Nat) (c : Cab) : (s.setCab q c).expect = s.expect := with_cabs_expect s
@[simp] theorem State.setCab_seqs (q : Nat) (c : Cab) : (s.setCab q c).seqs = s.seqs := with_cabs_seqs s
@[simp] theorem State.setCab_pressure (q : Nat) (c : Cab) : (s.setCab q c).pressure = s.pressure := with_cabs_pressure s
@[simp] theorem State.setCab_partials (q : Nat) (c : Cab) : (s.setCab q c).partials = s.partials := with_cabs_partials s
@[simp] theorem State.setCab_links (q : Nat) (c : Cab) : (s.setCab q c).links = s.links := with_cabs_links s
@[simp] theorem State.setCab_d2dReplays (q : Nat) (c : Cab) : (s.setCab q c).d2dReplays = s.d2dReplays := with_cabs_d2dReplays s
@[simp] theorem State.setCab_d2dRetried (q : Nat) (c : Cab) : (s.setCab q c).d2dRetried = s.d2dRetried := with_cabs_d2dRetried s
@[simp] theorem State.setCab_leaves (q : Nat) (c : Cab) : (s.setCab q c).leaves = s.leaves := with_cabs_leaves s
@[simp] theorem State.setCab_notices (q : Nat) (c : Cab) : (s.setCab q c).notices = s.notices := with_cabs_notices s
@[simp] theorem State.setCab_sources (q : Nat) (c : Cab) : (s.setCab q c).sources = s.sources := with_cabs_sources s
@[simp] theorem State.setCab_chans (q : Nat) (c : Cab) : (s.setCab q c).chans = s.chans := with_cabs_chans s
@[simp] theorem State.setCab_decs (q : Nat) (c : Cab) : (s.setCab q c).decs = s.decs := with_cabs_decs s
@[simp] theorem State.setCab_hostMem (q : Nat) (c : Cab) : (s.setCab q c).hostMem = s.hostMem := with_cabs_hostMem s
@[simp] theorem State.setCab_rings (q : Nat) (c : Cab) : (s.setCab q c).rings = s.rings := with_cabs_rings s
@[simp] theorem State.setCab_hutches (q : Nat) (c : Cab) : (s.setCab q c).hutches = s.hutches := with_cabs_hutches s
@[simp] theorem State.setCab_parts (q : Nat) (c : Cab) : (s.setCab q c).parts = s.parts := with_cabs_parts s
@[simp] theorem State.setCab_journals (q : Nat) (c : Cab) : (s.setCab q c).journals = s.journals := with_cabs_journals s
@[simp] theorem State.setCab_ckpts (q : Nat) (c : Cab) : (s.setCab q c).ckpts = s.ckpts := with_cabs_ckpts s
@[simp] theorem State.setCab_parkAreas (q : Nat) (c : Cab) : (s.setCab q c).parkAreas = s.parkAreas := with_cabs_parkAreas s
@[simp] theorem State.setCab_boot (q : Nat) (c : Cab) : (s.setCab q c).boot = s.boot := with_cabs_boot s
@[simp] theorem State.setCab_msix (q : Nat) (c : Cab) : (s.setCab q c).msix = s.msix := with_cabs_msix s
@[simp] theorem State.setCab_sentMsi (q : Nat) (c : Cab) : (s.setCab q c).sentMsi = s.sentMsi := with_cabs_sentMsi s
@[simp] theorem State.setCab_routes (q : Nat) (c : Cab) : (s.setCab q c).routes = s.routes := with_cabs_routes s
@[simp] theorem State.setCab_pci (q : Nat) (c : Cab) : (s.setCab q c).pci = s.pci := with_cabs_pci s
@[simp] theorem State.setCab_mbox (q : Nat) (c : Cab) : (s.setCab q c).mbox = s.mbox := with_cabs_mbox s
@[simp] theorem State.setCab_recov (q : Nat) (c : Cab) : (s.setCab q c).recov = s.recov := with_cabs_recov s

@[simp] theorem State.ans_pending (r : Resp) : (s.ans r).pending = s.pending := with_resp_pending s
@[simp] theorem State.ans_fuses (r : Resp) : (s.ans r).fuses = s.fuses := with_resp_fuses s
@[simp] theorem State.ans_regs (r : Resp) : (s.ans r).regs = s.regs := with_resp_regs s
@[simp] theorem State.ans_draws (r : Resp) : (s.ans r).draws = s.draws := with_resp_draws s
@[simp] theorem State.ans_mem (r : Resp) : (s.ans r).mem = s.mem := with_resp_mem s
@[simp] theorem State.ans_logs (r : Resp) : (s.ans r).logs = s.logs := with_resp_logs s
@[simp] theorem State.ans_faultReports (r : Resp) : (s.ans r).faultReports = s.faultReports := with_resp_faultReports s
@[simp] theorem State.ans_locks (r : Resp) : (s.ans r).locks = s.locks := with_resp_locks s
@[simp] theorem State.ans_latches (r : Resp) : (s.ans r).latches = s.latches := with_resp_latches s
@[simp] theorem State.ans_staging (r : Resp) : (s.ans r).staging = s.staging := with_resp_staging s
@[simp] theorem State.ans_tb (r : Resp) : (s.ans r).tb = s.tb := with_resp_tb s
@[simp] theorem State.ans_timers (r : Resp) : (s.ans r).timers = s.timers := with_resp_timers s
@[simp] theorem State.ans_trigQual (r : Resp) : (s.ans r).trigQual = s.trigQual := with_resp_trigQual s
@[simp] theorem State.ans_trigEvents (r : Resp) : (s.ans r).trigEvents = s.trigEvents := with_resp_trigEvents s
@[simp] theorem State.ans_synced (r : Resp) : (s.ans r).synced = s.synced := with_resp_synced s
@[simp] theorem State.ans_freeze (r : Resp) : (s.ans r).freeze = s.freeze := with_resp_freeze s
@[simp] theorem State.ans_traces (r : Resp) : (s.ans r).traces = s.traces := with_resp_traces s
@[simp] theorem State.ans_debugger (r : Resp) : (s.ans r).debugger = s.debugger := with_resp_debugger s
@[simp] theorem State.ans_doms (r : Resp) : (s.ans r).doms = s.doms := with_resp_doms s
@[simp] theorem State.ans_devPwr (r : Resp) : (s.ans r).devPwr = s.devPwr := with_resp_devPwr s
@[simp] theorem State.ans_d3hot (r : Resp) : (s.ans r).d3hot = s.d3hot := with_resp_d3hot s
@[simp] theorem State.ans_partState (r : Resp) : (s.ans r).partState = s.partState := with_resp_partState s
@[simp] theorem State.ans_maps (r : Resp) : (s.ans r).maps = s.maps := with_resp_maps s
@[simp] theorem State.ans_maps2 (r : Resp) : (s.ans r).maps2 = s.maps2 := with_resp_maps2 s
@[simp] theorem State.ans_mapCur (r : Resp) : (s.ans r).mapCur = s.mapCur := with_resp_mapCur s
@[simp] theorem State.ans_mapRe (r : Resp) : (s.ans r).mapRe = s.mapRe := with_resp_mapRe s
@[simp] theorem State.ans_net (r : Resp) : (s.ans r).net = s.net := with_resp_net s
@[simp] theorem State.ans_arrivals (r : Resp) : (s.ans r).arrivals = s.arrivals := with_resp_arrivals s
@[simp] theorem State.ans_inbox (r : Resp) : (s.ans r).inbox = s.inbox := with_resp_inbox s
@[simp] theorem State.ans_redIn (r : Resp) : (s.ans r).redIn = s.redIn := with_resp_redIn s
@[simp] theorem State.ans_robs (r : Resp) : (s.ans r).robs = s.robs := with_resp_robs s
@[simp] theorem State.ans_expect (r : Resp) : (s.ans r).expect = s.expect := with_resp_expect s
@[simp] theorem State.ans_seqs (r : Resp) : (s.ans r).seqs = s.seqs := with_resp_seqs s
@[simp] theorem State.ans_pressure (r : Resp) : (s.ans r).pressure = s.pressure := with_resp_pressure s
@[simp] theorem State.ans_partials (r : Resp) : (s.ans r).partials = s.partials := with_resp_partials s
@[simp] theorem State.ans_links (r : Resp) : (s.ans r).links = s.links := with_resp_links s
@[simp] theorem State.ans_d2dReplays (r : Resp) : (s.ans r).d2dReplays = s.d2dReplays := with_resp_d2dReplays s
@[simp] theorem State.ans_d2dRetried (r : Resp) : (s.ans r).d2dRetried = s.d2dRetried := with_resp_d2dRetried s
@[simp] theorem State.ans_leaves (r : Resp) : (s.ans r).leaves = s.leaves := with_resp_leaves s
@[simp] theorem State.ans_notices (r : Resp) : (s.ans r).notices = s.notices := with_resp_notices s
@[simp] theorem State.ans_sources (r : Resp) : (s.ans r).sources = s.sources := with_resp_sources s
@[simp] theorem State.ans_chans (r : Resp) : (s.ans r).chans = s.chans := with_resp_chans s
@[simp] theorem State.ans_decs (r : Resp) : (s.ans r).decs = s.decs := with_resp_decs s
@[simp] theorem State.ans_hostMem (r : Resp) : (s.ans r).hostMem = s.hostMem := with_resp_hostMem s
@[simp] theorem State.ans_rings (r : Resp) : (s.ans r).rings = s.rings := with_resp_rings s
@[simp] theorem State.ans_cabs (r : Resp) : (s.ans r).cabs = s.cabs := with_resp_cabs s
@[simp] theorem State.ans_hutches (r : Resp) : (s.ans r).hutches = s.hutches := with_resp_hutches s
@[simp] theorem State.ans_parts (r : Resp) : (s.ans r).parts = s.parts := with_resp_parts s
@[simp] theorem State.ans_journals (r : Resp) : (s.ans r).journals = s.journals := with_resp_journals s
@[simp] theorem State.ans_ckpts (r : Resp) : (s.ans r).ckpts = s.ckpts := with_resp_ckpts s
@[simp] theorem State.ans_parkAreas (r : Resp) : (s.ans r).parkAreas = s.parkAreas := with_resp_parkAreas s
@[simp] theorem State.ans_boot (r : Resp) : (s.ans r).boot = s.boot := with_resp_boot s
@[simp] theorem State.ans_msix (r : Resp) : (s.ans r).msix = s.msix := with_resp_msix s
@[simp] theorem State.ans_sentMsi (r : Resp) : (s.ans r).sentMsi = s.sentMsi := with_resp_sentMsi s
@[simp] theorem State.ans_routes (r : Resp) : (s.ans r).routes = s.routes := with_resp_routes s
@[simp] theorem State.ans_pci (r : Resp) : (s.ans r).pci = s.pci := with_resp_pci s
@[simp] theorem State.ans_mbox (r : Resp) : (s.ans r).mbox = s.mbox := with_resp_mbox s
@[simp] theorem State.ans_recov (r : Resp) : (s.ans r).recov = s.recov := with_resp_recov s

end Sys2Proof.Machine
end

