-- ==== Sys2Proof/Laws/Regs.lean ====
section
/-!
SUPPORT. Regs.lean: reading a register after a write: the register written reads as written, every other register of the page and every other
page is unchanged; the fields of a word; and what the interrupt causes and the counters become.
-/

namespace Sys2Proof.Machine

variable (s : State)

theorem Page.key_mod (p : Page) : p.key % 4096 = 0 := Nat.mul_mod_left _ _

/-- A page's key names the page, for the instances the hardware has. -/
theorem Page.key_inj {p q : Page} (hp : p.inst < 4096) (hq : q.inst < 4096) (h : p.key = q.key) : p = q := by
  have hi : p.inst = q.inst := by unfold Page.key at h; omega
  have hb : p.blk.idx = q.blk.idx := by unfold Page.key at h; omega
  obtain ⟨pb, pi⟩ := p
  obtain ⟨qb, qi⟩ := q
  have : pb = qb := by
    have e1 : blockOf pb.idx = pb := by cases pb <;> rfl
    have e2 : blockOf qb.idx = qb := by cases qb <;> rfl
    rw [← e1, ← e2]; exact congrArg blockOf hb
  simp_all

/-- A register reads the same where the register file is the same. -/
theorem rd_of_regs {s t : State} (h : t.regs = s.regs) (p : Page) (o : Nat) : t.rd p o = s.rd p o := congrArg (SMap.get regDefault · (p.key + o % 4096)) h

@[simp] theorem ans_resp (r : Resp) : (s.ans r).resp = r := rfl
@[simp] theorem rd_ans (r : Resp) (p : Page) (o : Nat) : (s.ans r).rd p o = s.rd p o := rfl
@[simp] theorem rdN_ans (r : Resp) (p : Page) (o : Nat) : (s.ans r).rdN p o = s.rdN p o := rfl
@[simp] theorem rd64_ans (r : Resp) (p : Page) (o : Nat) : (s.ans r).rd64 p o = s.rd64 p o := rfl
@[simp] theorem fld_ans (r : Resp) (p : Page) (o hi lo : Nat) : (s.ans r).fld p o hi lo = s.fld p o hi lo := rfl
@[simp] theorem flag_ans (r : Resp) (p : Page) (o i : Nat) : (s.ans r).flag p o i = s.flag p o i := rfl
@[simp] theorem byte_ans (r : Resp) (a : Nat) : (s.ans r).byte a = s.byte a := rfl

@[simp] theorem rd_wr_same (p : Page) (o : Nat) (w : Word) : (s.wr p o w).rd p o = w :=
  SMap.get_set_same regDefault s.regs _ w

theorem rd_wr_off (p : Page) {o o' : Nat} (w : Word) (h : o' % 4096 ≠ o % 4096) : (s.wr p o w).rd p o' = s.rd p o' := by
  have hk : p.key + o' % 4096 ≠ p.key + o % 4096 := by omega
  exact SMap.get_set_other regDefault s.regs w hk

theorem rd_wr_key {p q : Page} (o o' : Nat) (w : Word) (h : q.key ≠ p.key) : (s.wr p o w).rd q o' = s.rd q o' := by
  have hq := Page.key_mod q
  have hp := Page.key_mod p
  have hk : q.key + o' % 4096 ≠ p.key + o % 4096 := by omega
  exact SMap.get_set_other regDefault s.regs w hk

theorem rd_wr_blk {p q : Page} (o o' : Nat) (w : Word) (h : q.blk ≠ p.blk) : (s.wr p o w).rd q o' = s.rd q o' := by
  refine rd_wr_key s o o' w fun hk => h ?_
  have h1 := blockOf_key p 0
  have h2 := blockOf_key q 0
  rw [← h1, ← h2, hk]

/-- The field written reads as the low bits of the value written. -/
theorem bits_setBits_same (w : Word) (hi lo v : Nat) (h : lo ≤ hi) (hh : hi < 32) : (w.setBits hi lo v).bits hi lo = v % 2 ^ (hi + 1 - lo) := by
  unfold Word.bits Word.setBits Word.ones
  apply Nat.eq_of_testBit_eq
  intro i
  simp only [BitVec.testBit_toNat, BitVec.getLsbD_and, BitVec.getLsbD_ushiftRight, BitVec.getLsbD_or, BitVec.getLsbD_not,
    BitVec.getLsbD_shiftLeft, BitVec.getLsbD_ofNat, Nat.testBit_two_pow_sub_one, Nat.testBit_mod_two_pow]
  by_cases h1 : i < hi + 1 - lo
  · have : lo + i < 32 := by omega
    have h2 : ¬ lo + i < lo := by omega
    have h3 : lo + i - lo = i := by omega
    have h4 : i < 32 := by omega
    simp [*]
  · simp [h1]

/-- A field that the write does not touch is unchanged. -/
theorem bits_setBits_other (w : Word) (hi lo v a b : Nat) (h : a < lo ∨ hi < b) : (w.setBits hi lo v).bits a b = w.bits a b := by
  unfold Word.bits Word.setBits Word.ones
  apply Nat.eq_of_testBit_eq
  intro i
  simp only [BitVec.testBit_toNat, BitVec.getLsbD_and, BitVec.getLsbD_ushiftRight, BitVec.getLsbD_or, BitVec.getLsbD_not,
    BitVec.getLsbD_shiftLeft, BitVec.getLsbD_ofNat, Nat.testBit_two_pow_sub_one]
  by_cases h1 : i < a + 1 - b
  · obtain h | h := h
    · have : b + i < lo := by omega
      by_cases hx : b + i < 32
      · simp [*]
      · have : w.getLsbD (b + i) = false := BitVec.getLsbD_of_ge _ _ (by omega)
        simp [*]
    · have h3 : ¬ b + i - lo < hi + 1 - lo := by omega
      by_cases hx : b + i < 32
      · simp [*]
      · have : w.getLsbD (b + i) = false := BitVec.getLsbD_of_ge _ _ (by omega)
        simp [*]
  · simp [h1]

/-- One bit as a field. -/
theorem bit_setBits_same (w : Word) (i : Nat) (b : Bool) (h : i < 32) : (w.setBits i i (b2n b)).bit i = b := by
  have e : i + 1 - i = 1 := by omega
  unfold Word.bit Word.setBits Word.ones
  rw [e]
  cases b <;> simp [b2n, h]

theorem bit_setBits_other (w : Word) (hi lo v i : Nat) (h : i < lo ∨ hi < i) : (w.setBits hi lo v).bit i = w.bit i := by
  unfold Word.bit Word.setBits Word.ones
  simp only [BitVec.getLsbD_and, BitVec.getLsbD_or, BitVec.getLsbD_not, BitVec.getLsbD_shiftLeft, BitVec.getLsbD_ofNat,
    Nat.testBit_two_pow_sub_one]
  by_cases hx : i < 32
  · obtain h | h := h
    · simp [*]
    · have h2 : ¬ i < lo ∨ i < lo := by omega
      have h3 : ¬ i - lo < hi + 1 - lo ∨ i < lo := by omega
      obtain h3 | h3 := h3
      · simp [*]
      · simp [*]
  · have : w.getLsbD i = false := BitVec.getLsbD_of_ge _ _ (by omega)
    simp [*]

@[simp] theorem fld_setFld_same (p : Page) (o hi lo v : Nat) (h : lo ≤ hi) (hh : hi < 32) :
    (s.setFld p o hi lo v).fld p o hi lo = v % 2 ^ (hi + 1 - lo) := by
  simp [State.fld, State.setFld, bits_setBits_same _ _ _ _ h hh]

@[simp] theorem flag_setFlag_same (p : Page) (o i : Nat) (b : Bool) (h : i < 32) : (s.setFlag p o i b).flag p o i = b := by
  simp [State.flag, State.setFlag, State.setFld, bit_setBits_same _ _ _ h]

/-- A cause just raised is set. -/
@[simp] theorem flag_raise_same (p : Page) (i : Nat) (h : i < 32) : (s.raise p i).flag p 0x010 i = true := flag_setFlag_same s p _ i true h

@[simp] theorem rdN_wrN_same (p : Page) (o v : Nat) : (s.wrN p o v).rdN p o = v % 4294967296 := by
  simp [State.rdN, State.wrN, BitVec.toNat_ofNat]

/-- What a write of another register of the page leaves: the register, its fields and its bits. -/
theorem rd_setFld_off (p : Page) {o o' : Nat} (hi lo v : Nat) (h : o' % 4096 ≠ o % 4096) : (s.setFld p o hi lo v).rd p o' = s.rd p o' :=
  rd_wr_off s p _ h

theorem rd_setFlag_off (p : Page) {o o' : Nat} (i : Nat) (b : Bool) (h : o' % 4096 ≠ o % 4096) : (s.setFlag p o i b).rd p o' = s.rd p o' :=
  rd_wr_off s p _ h

theorem rd_raise_off (p : Page) {o : Nat} (i : Nat) (h : o % 4096 ≠ 16) : (s.raise p i).rd p o = s.rd p o :=
  rd_wr_off s p _ (by simpa using h)

theorem rd_incCtr_off (p : Page) {o o' : Nat} (h : o' % 4096 ≠ o % 4096) : (s.incCtr p o).rd p o' = s.rd p o' :=
  rd_wr_off s p _ h

theorem rd_wrN_off (p : Page) {o o' : Nat} (v : Nat) (h : o' % 4096 ≠ o % 4096) : (s.wrN p o v).rd p o' = s.rd p o' :=
  rd_wr_off s p _ h

/-- A counter goes up by one, saturating, unless a counter freeze holds it. -/
theorem rdN_incCtr (p : Page) (o : Nat) (h : s.ctrFrozen p = false) : (s.incCtr p o).rdN p o = min (s.rdN p o + 1) 4294967295 := by
  unfold State.incCtr State.addCtr
  rw [rdN_wrN_same]
  simp only [h, Bool.false_eq_true, if_false]
  omega

/-! ### Memory -/

@[simp] theorem byte_setByte_same (a : Nat) (b : Byte) : (s.setByte a b).byte a = b := by
  simp [State.byte, State.setByte]

theorem byte_setByte_other {a c : Nat} (b : Byte) (h : c ≠ a) : (s.setByte a b).byte c = s.byte c := by
  unfold State.byte State.setByte
  exact SMap.get_set_other _ _ _ h

/-- A store changes the bytes it stores and no other. -/
theorem byte_store_other (a n v c : Nat) (h : c < a ∨ a + n ≤ c) : (s.store a n v).byte c = s.byte c := by
  induction n generalizing s a v with
  | zero => rfl
  | succ n ih =>
    unfold State.store
    rw [ih _ _ _ (by omega), byte_setByte_other _ _ (by omega)]

/-- The bytes a store puts down. -/
theorem byte_store_in (a n v i : Nat) (h : i < n) : (s.store a n v).byte (a + i) = BitVec.ofNat 8 (v / 256 ^ i) := by
  induction n generalizing s a v i with
  | zero => omega
  | succ n ih =>
    unfold State.store
    cases i with
    | zero => rw [byte_store_other _ _ _ _ _ (by omega)]; simp
    | succ i =>
      have := ih (s.setByte a (BitVec.ofNat 8 v)) (a + 1) (v / 256) i (by omega)
      rw [show a + (i + 1) = a + 1 + i by omega, this, Nat.div_div_eq_div_mul, Nat.pow_succ, Nat.mul_comm]

/-! ### The gate -/

/-- A write that passes the gate has its own effect. -/
theorem gated_of_passes {r : Req} {p : Page} {off : Nat} (k : State → State) (h : s.passes r p off = true) :
    gated r p off s k = .next ((k s).ans .none) := by
  unfold State.passes at h
  unfold gated
  split at h
  · next hg =>
    simp only [Bool.not_eq_true'] at h
    simp [hg, h, done]
  · exact absurd h (by simp)

/-- A read that reaches the register has its own effect. -/
theorem gatedRead_of_reads {r : Req} {p : Page} (k : State → Nat × State) (h : s.reads r p = true) :
    gatedRead r p s k = .next ((k s).2.ans (.data (k s).1)) := by
  unfold State.reads at h
  simp only [Bool.and_eq_true, Bool.not_eq_true'] at h
  unfold gatedRead
  simp [h.1.1, h.1.2, h.2, answer]

end Sys2Proof.Machine
end

