-- ==== Sys2Proof/Laws/RegErrors.lean ====
section
/-!
SUPPORT. RegErrors.lean: what recording an error does: PG_ERR_INFO of the page, and nothing but the error registers of the page, the INTG pages and
the logs.
-/

namespace Sys2Proof.Machine

variable (s : State)

theorem State.err_frame (p : Page) (c k l : Nat) : (s.err p c k l).except [.logs, .regs .intg, .regs p.blk] = s.except [.logs, .regs .intg, .regs p.blk] := by simp

@[simp] theorem State.err_draws (p : Page) (c k l : Nat) : (s.err p c k l).draws = s.draws := draws_of_except (s.err_frame p c k l) (by simp)
@[simp] theorem State.err_mem (p : Page) (c k l : Nat) : (s.err p c k l).mem = s.mem := mem_of_except (s.err_frame p c k l) (by simp)
@[simp] theorem State.err_faultReports (p : Page) (c k l : Nat) : (s.err p c k l).faultReports = s.faultReports := faultReports_of_except (s.err_frame p c k l) (by simp)
@[simp] theorem State.err_locks (p : Page) (c k l : Nat) : (s.err p c k l).locks = s.locks := locks_of_except (s.err_frame p c k l) (by simp)
@[simp] theorem State.err_latches (p : Page) (c k l : Nat) : (s.err p c k l).latches = s.latches := latches_of_except (s.err_frame p c k l) (by simp)
@[simp] theorem State.err_staging (p : Page) (c k l : Nat) : (s.err p c k l).staging = s.staging := staging_of_except (s.err_frame p c k l) (by simp)
@[simp] theorem State.err_tb (p : Page) (c k l : Nat) : (s.err p c k l).tb = s.tb := tb_of_except (s.err_frame p c k l) (by simp)
@[simp] theorem State.err_timers (p : Page) (c k l : Nat) : (s.err p c k l).timers = s.timers := timers_of_except (s.err_frame p c k l) (by simp)
@[simp] theorem State.err_trigQual (p : Page) (c k l : Nat) : (s.err p c k l).trigQual = s.trigQual := trigQual_of_except (s.err_frame p c k l) (by simp)
@[simp] theorem State.err_trigEvents (p : Page) (c k l : Nat) : (s.err p c k l).trigEvents = s.trigEvents := trigEvents_of_except (s.err_frame p c k l) (by simp)
@[simp] theorem State.err_synced (p : Page) (c k l : Nat) : (s.err p c k l).synced = s.synced := synced_of_except (s.err_frame p c k l) (by simp)
@[simp] theorem State.err_freeze (p : Page) (c k l : Nat) : (s.err p c k l).freeze = s.freeze := freeze_of_except (s.err_frame p c k l) (by simp)
@[simp] theorem State.err_traces (p : Page) (c k l : Nat) : (s.err p c k l).traces = s.traces := traces_of_except (s.err_frame p c k l) (by simp)
@[simp] theorem State.err_debugger (p : Page) (c k l : Nat) : (s.err p c k l).debugger = s.debugger := debugger_of_except (s.err_frame p c k l) (by simp)
@[simp] theorem State.err_doms (p : Page) (c k l : Nat) : (s.err p c k l).doms = s.doms := doms_of_except (s.err_frame p c k l) (by simp)
@[simp] theorem State.err_devPwr (p : Page) (c k l : Nat) : (s.err p c k l).devPwr = s.devPwr := devPwr_of_except (s.err_frame p c k l) (by simp)
@[simp] theorem State.err_d3hot (p : Page) (c k l : Nat) : (s.err p c k l).d3hot = s.d3hot := d3hot_of_except (s.err_frame p c k l) (by simp)
@[simp] theorem State.err_partState (p : Page) (c k l : Nat) : (s.err p c k l).partState = s.partState := partState_of_except (s.err_frame p c k l) (by simp)
@[simp] theorem State.err_maps (p : Page) (c k l : Nat) : (s.err p c k l).maps = s.maps := maps_of_except (s.err_frame p c k l) (by simp)
@[simp] theorem State.err_maps2 (p : Page) (c k l : Nat) : (s.err p c k l).maps2 = s.maps2 := maps2_of_except (s.err_frame p c k l) (by simp)
@[simp] theorem State.err_mapCur (p : Page) (c k l : Nat) : (s.err p c k l).mapCur = s.mapCur := mapCur_of_except (s.err_frame p c k l) (by simp)
@[simp] theorem State.err_mapRe (p : Page) (c k l : Nat) : (s.err p c k l).mapRe = s.mapRe := mapRe_of_except (s.err_frame p c k l) (by simp)
@[simp] theorem State.err_net (p : Page) (c k l : Nat) : (s.err p c k l).net = s.net := net_of_except (s.err_frame p c k l) (by simp)
@[simp] theorem State.err_arrivals (p : Page) (c k l : Nat) : (s.err p c k l).arrivals = s.arrivals := arrivals_of_except (s.err_frame p c k l) (by simp)
@[simp] theorem State.err_inbox (p : Page) (c k l : Nat) : (s.err p c k l).inbox = s.inbox := inbox_of_except (s.err_frame p c k l) (by simp)
@[simp] theorem State.err_redIn (p : Page) (c k l : Nat) : (s.err p c k l).redIn = s.redIn := redIn_of_except (s.err_frame p c k l) (by simp)
@[simp] theorem State.err_robs (p : Page) (c k l : Nat) : (s.err p c k l).robs = s.robs := robs_of_except (s.err_frame p c k l) (by simp)
@[simp] theorem State.err_expect (p : Page) (c k l : Nat) : (s.err p c k l).expect = s.expect := expect_of_except (s.err_frame p c k l) (by simp)
@[simp] theorem State.err_seqs (p : Page) (c k l : Nat) : (s.err p c k l).seqs = s.seqs := seqs_of_except (s.err_frame p c k l) (by simp)
@[simp] theorem State.err_pressure (p : Page) (c k l : Nat) : (s.err p c k l).pressure = s.pressure := pressure_of_except (s.err_frame p c k l) (by simp)
@[simp] theorem State.err_partials (p : Page) (c k l : Nat) : (s.err p c k l).partials = s.partials := partials_of_except (s.err_frame p c k l) (by simp)
@[simp] theorem State.err_links (p : Page) (c k l : Nat) : (s.err p c k l).links = s.links := links_of_except (s.err_frame p c k l) (by simp)
@[simp] theorem State.err_d2dReplays (p : Page) (c k l : Nat) : (s.err p c k l).d2dReplays = s.d2dReplays := d2dReplays_of_except (s.err_frame p c k l) (by simp)
@[simp] theorem State.err_d2dRetried (p : Page) (c k l : Nat) : (s.err p c k l).d2dRetried = s.d2dRetried := d2dRetried_of_except (s.err_frame p c k l) (by simp)
@[simp] theorem State.err_leaves (p : Page) (c k l : Nat) : (s.err p c k l).leaves = s.leaves := leaves_of_except (s.err_frame p c k l) (by simp)
@[simp] theorem State.err_notices (p : Page) (c k l : Nat) : (s.err p c k l).notices = s.notices := notices_of_except (s.err_frame p c k l) (by simp)
@[simp] theorem State.err_sources (p : Page) (c k l : Nat) : (s.err p c k l).sources = s.sources := sources_of_except (s.err_frame p c k l) (by simp)
@[simp] theorem State.err_chans (p : Page) (c k l : Nat) : (s.err p c k l).chans = s.chans := chans_of_except (s.err_frame p c k l) (by simp)
@[simp] theorem State.err_decs (p : Page) (c k l : Nat) : (s.err p c k l).decs = s.decs := decs_of_except (s.err_frame p c k l) (by simp)
@[simp] theorem State.err_hostMem (p : Page) (c k l : Nat) : (s.err p c k l).hostMem = s.hostMem := hostMem_of_except (s.err_frame p c k l) (by simp)
@[simp] theorem State.err_rings (p : Page) (c k l : Nat) : (s.err p c k l).rings = s.rings := rings_of_except (s.err_frame p c k l) (by simp)
@[simp] theorem State.err_cabs (p : Page) (c k l : Nat) : (s.err p c k l).cabs = s.cabs := cabs_of_except (s.err_frame p c k l) (by simp)
@[simp] theorem State.err_hutches (p : Page) (c k l : Nat) : (s.err p c k l).hutches = s.hutches := hutches_of_except (s.err_frame p c k l) (by simp)
@[simp] theorem State.err_parts (p : Page) (c k l : Nat) : (s.err p c k l).parts = s.parts := parts_of_except (s.err_frame p c k l) (by simp)
@[simp] theorem State.err_journals (p : Page) (c k l : Nat) : (s.err p c k l).journals = s.journals := journals_of_except (s.err_frame p c k l) (by simp)
@[simp] theorem State.err_ckpts (p : Page) (c k l : Nat) : (s.err p c k l).ckpts = s.ckpts := ckpts_of_except (s.err_frame p c k l) (by simp)
@[simp] theorem State.err_parkAreas (p : Page) (c k l : Nat) : (s.err p c k l).parkAreas = s.parkAreas := parkAreas_of_except (s.err_frame p c k l) (by simp)
@[simp] theorem State.err_boot (p : Page) (c k l : Nat) : (s.err p c k l).boot = s.boot := boot_of_except (s.err_frame p c k l) (by simp)
@[simp] theorem State.err_msix (p : Page) (c k l : Nat) : (s.err p c k l).msix = s.msix := msix_of_except (s.err_frame p c k l) (by simp)
@[simp] theorem State.err_sentMsi (p : Page) (c k l : Nat) : (s.err p c k l).sentMsi = s.sentMsi := sentMsi_of_except (s.err_frame p c k l) (by simp)
@[simp] theorem State.err_routes (p : Page) (c k l : Nat) : (s.err p c k l).routes = s.routes := routes_of_except (s.err_frame p c k l) (by simp)
@[simp] theorem State.err_pci (p : Page) (c k l : Nat) : (s.err p c k l).pci = s.pci := pci_of_except (s.err_frame p c k l) (by simp)
@[simp] theorem State.err_mbox (p : Page) (c k l : Nat) : (s.err p c k l).mbox = s.mbox := mbox_of_except (s.err_frame p c k l) (by simp)
@[simp] theorem State.err_recov (p : Page) (c k l : Nat) : (s.err p c k l).recov = s.recov := recov_of_except (s.err_frame p c k l) (by simp)
@[simp] theorem State.err_pending (p : Page) (c k l : Nat) : (s.err p c k l).pending = s.pending := pending_of_except (s.err_frame p c k l)
@[simp] theorem State.err_fuses (p : Page) (c k l : Nat) : (s.err p c k l).fuses = s.fuses := fuses_of_except (s.err_frame p c k l)

theorem State.refuse_frame (p : Page) (l : Nat) : (s.refuse p l).except [.logs, .regs .intg, .regs p.blk] = s.except [.logs, .regs .intg, .regs p.blk] := by simp

@[simp] theorem State.refuse_draws (p : Page) (l : Nat) : (s.refuse p l).draws = s.draws := draws_of_except (s.refuse_frame p l) (by simp)
@[simp] theorem State.refuse_mem (p : Page) (l : Nat) : (s.refuse p l).mem = s.mem := mem_of_except (s.refuse_frame p l) (by simp)
@[simp] theorem State.refuse_faultReports (p : Page) (l : Nat) : (s.refuse p l).faultReports = s.faultReports := faultReports_of_except (s.refuse_frame p l) (by simp)
@[simp] theorem State.refuse_locks (p : Page) (l : Nat) : (s.refuse p l).locks = s.locks := locks_of_except (s.refuse_frame p l) (by simp)
@[simp] theorem State.refuse_latches (p : Page) (l : Nat) : (s.refuse p l).latches = s.latches := latches_of_except (s.refuse_frame p l) (by simp)
@[simp] theorem State.refuse_staging (p : Page) (l : Nat) : (s.refuse p l).staging = s.staging := staging_of_except (s.refuse_frame p l) (by simp)
@[simp] theorem State.refuse_tb (p : Page) (l : Nat) : (s.refuse p l).tb = s.tb := tb_of_except (s.refuse_frame p l) (by simp)
@[simp] theorem State.refuse_timers (p : Page) (l : Nat) : (s.refuse p l).timers = s.timers := timers_of_except (s.refuse_frame p l) (by simp)
@[simp] theorem State.refuse_trigQual (p : Page) (l : Nat) : (s.refuse p l).trigQual = s.trigQual := trigQual_of_except (s.refuse_frame p l) (by simp)
@[simp] theorem State.refuse_trigEvents (p : Page) (l : Nat) : (s.refuse p l).trigEvents = s.trigEvents := trigEvents_of_except (s.refuse_frame p l) (by simp)
@[simp] theorem State.refuse_synced (p : Page) (l : Nat) : (s.refuse p l).synced = s.synced := synced_of_except (s.refuse_frame p l) (by simp)
@[simp] theorem State.refuse_freeze (p : Page) (l : Nat) : (s.refuse p l).freeze = s.freeze := freeze_of_except (s.refuse_frame p l) (by simp)
@[simp] theorem State.refuse_traces (p : Page) (l : Nat) : (s.refuse p l).traces = s.traces := traces_of_except (s.refuse_frame p l) (by simp)
@[simp] theorem State.refuse_debugger (p : Page) (l : Nat) : (s.refuse p l).debugger = s.debugger := debugger_of_except (s.refuse_frame p l) (by simp)
@[simp] theorem State.refuse_doms (p : Page) (l : Nat) : (s.refuse p l).doms = s.doms := doms_of_except (s.refuse_frame p l) (by simp)
@[simp] theorem State.refuse_devPwr (p : Page) (l : Nat) : (s.refuse p l).devPwr = s.devPwr := devPwr_of_except (s.refuse_frame p l) (by simp)
@[simp] theorem State.refuse_d3hot (p : Page) (l : Nat) : (s.refuse p l).d3hot = s.d3hot := d3hot_of_except (s.refuse_frame p l) (by simp)
@[simp] theorem State.refuse_partState (p : Page) (l : Nat) : (s.refuse p l).partState = s.partState := partState_of_except (s.refuse_frame p l) (by simp)
@[simp] theorem State.refuse_maps (p : Page) (l : Nat) : (s.refuse p l).maps = s.maps := maps_of_except (s.refuse_frame p l) (by simp)
@[simp] theorem State.refuse_maps2 (p : Page) (l : Nat) : (s.refuse p l).maps2 = s.maps2 := maps2_of_except (s.refuse_frame p l) (by simp)
@[simp] theorem State.refuse_mapCur (p : Page) (l : Nat) : (s.refuse p l).mapCur = s.mapCur := mapCur_of_except (s.refuse_frame p l) (by simp)
@[simp] theorem State.refuse_mapRe (p : Page) (l : Nat) : (s.refuse p l).mapRe = s.mapRe := mapRe_of_except (s.refuse_frame p l) (by simp)
@[simp] theorem State.refuse_net (p : Page) (l : Nat) : (s.refuse p l).net = s.net := net_of_except (s.refuse_frame p l) (by simp)
@[simp] theorem State.refuse_arrivals (p : Page) (l : Nat) : (s.refuse p l).arrivals = s.arrivals := arrivals_of_except (s.refuse_frame p l) (by simp)
@[simp] theorem State.refuse_inbox (p : Page) (l : Nat) : (s.refuse p l).inbox = s.inbox := inbox_of_except (s.refuse_frame p l) (by simp)
@[simp] theorem State.refuse_redIn (p : Page) (l : Nat) : (s.refuse p l).redIn = s.redIn := redIn_of_except (s.refuse_frame p l) (by simp)
@[simp] theorem State.refuse_robs (p : Page) (l : Nat) : (s.refuse p l).robs = s.robs := robs_of_except (s.refuse_frame p l) (by simp)
@[simp] theorem State.refuse_expect (p : Page) (l : Nat) : (s.refuse p l).expect = s.expect := expect_of_except (s.refuse_frame p l) (by simp)
@[simp] theorem State.refuse_seqs (p : Page) (l : Nat) : (s.refuse p l).seqs = s.seqs := seqs_of_except (s.refuse_frame p l) (by simp)
@[simp] theorem State.refuse_pressure (p : Page) (l : Nat) : (s.refuse p l).pressure = s.pressure := pressure_of_except (s.refuse_frame p l) (by simp)
@[simp] theorem State.refuse_partials (p : Page) (l : Nat) : (s.refuse p l).partials = s.partials := partials_of_except (s.refuse_frame p l) (by simp)
@[simp] theorem State.refuse_links (p : Page) (l : Nat) : (s.refuse p l).links = s.links := links_of_except (s.refuse_frame p l) (by simp)
@[simp] theorem State.refuse_d2dReplays (p : Page) (l : Nat) : (s.refuse p l).d2dReplays = s.d2dReplays := d2dReplays_of_except (s.refuse_frame p l) (by simp)
@[simp] theorem State.refuse_d2dRetried (p : Page) (l : Nat) : (s.refuse p l).d2dRetried = s.d2dRetried := d2dRetried_of_except (s.refuse_frame p l) (by simp)
@[simp] theorem State.refuse_leaves (p : Page) (l : Nat) : (s.refuse p l).leaves = s.leaves := leaves_of_except (s.refuse_frame p l) (by simp)
@[simp] theorem State.refuse_notices (p : Page) (l : Nat) : (s.refuse p l).notices = s.notices := notices_of_except (s.refuse_frame p l) (by simp)
@[simp] theorem State.refuse_sources (p : Page) (l : Nat) : (s.refuse p l).sources = s.sources := sources_of_except (s.refuse_frame p l) (by simp)
@[simp] theorem State.refuse_chans (p : Page) (l : Nat) : (s.refuse p l).chans = s.chans := chans_of_except (s.refuse_frame p l) (by simp)
@[simp] theorem State.refuse_decs (p : Page) (l : Nat) : (s.refuse p l).decs = s.decs := decs_of_except (s.refuse_frame p l) (by simp)
@[simp] theorem State.refuse_hostMem (p : Page) (l : Nat) : (s.refuse p l).hostMem = s.hostMem := hostMem_of_except (s.refuse_frame p l) (by simp)
@[simp] theorem State.refuse_rings (p : Page) (l : Nat) : (s.refuse p l).rings = s.rings := rings_of_except (s.refuse_frame p l) (by simp)
@[simp] theorem State.refuse_cabs (p : Page) (l : Nat) : (s.refuse p l).cabs = s.cabs := cabs_of_except (s.refuse_frame p l) (by simp)
@[simp] theorem State.refuse_hutches (p : Page) (l : Nat) : (s.refuse p l).hutches = s.hutches := hutches_of_except (s.refuse_frame p l) (by simp)
@[simp] theorem State.refuse_parts (p : Page) (l : Nat) : (s.refuse p l).parts = s.parts := parts_of_except (s.refuse_frame p l) (by simp)
@[simp] theorem State.refuse_journals (p : Page) (l : Nat) : (s.refuse p l).journals = s.journals := journals_of_except (s.refuse_frame p l) (by simp)
@[simp] theorem State.refuse_ckpts (p : Page) (l : Nat) : (s.refuse p l).ckpts = s.ckpts := ckpts_of_except (s.refuse_frame p l) (by simp)
@[simp] theorem State.refuse_parkAreas (p : Page) (l : Nat) : (s.refuse p l).parkAreas = s.parkAreas := parkAreas_of_except (s.refuse_frame p l) (by simp)
@[simp] theorem State.refuse_boot (p : Page) (l : Nat) : (s.refuse p l).boot = s.boot := boot_of_except (s.refuse_frame p l) (by simp)
@[simp] theorem State.refuse_msix (p : Page) (l : Nat) : (s.refuse p l).msix = s.msix := msix_of_except (s.refuse_frame p l) (by simp)
@[simp] theorem State.refuse_sentMsi (p : Page) (l : Nat) : (s.refuse p l).sentMsi = s.sentMsi := sentMsi_of_except (s.refuse_frame p l) (by simp)
@[simp] theorem State.refuse_routes (p : Page) (l : Nat) : (s.refuse p l).routes = s.routes := routes_of_except (s.refuse_frame p l) (by simp)
@[simp] theorem State.refuse_pci (p : Page) (l : Nat) : (s.refuse p l).pci = s.pci := pci_of_except (s.refuse_frame p l) (by simp)
@[simp] theorem State.refuse_mbox (p : Page) (l : Nat) : (s.refuse p l).mbox = s.mbox := mbox_of_except (s.refuse_frame p l) (by simp)
@[simp] theorem State.refuse_recov (p : Page) (l : Nat) : (s.refuse p l).recov = s.recov := recov_of_except (s.refuse_frame p l) (by simp)
@[simp] theorem State.refuse_pending (p : Page) (l : Nat) : (s.refuse p l).pending = s.pending := pending_of_except (s.refuse_frame p l)
@[simp] theorem State.refuse_fuses (p : Page) (l : Nat) : (s.refuse p l).fuses = s.fuses := fuses_of_except (s.refuse_frame p l)

theorem State.badEnc_frame (p : Page) (l : Nat) : (s.badEnc p l).except [.logs, .regs .intg, .regs p.blk] = s.except [.logs, .regs .intg, .regs p.blk] := by simp

@[simp] theorem State.badEnc_draws (p : Page) (l : Nat) : (s.badEnc p l).draws = s.draws := draws_of_except (s.badEnc_frame p l) (by simp)
@[simp] theorem State.badEnc_mem (p : Page) (l : Nat) : (s.badEnc p l).mem = s.mem := mem_of_except (s.badEnc_frame p l) (by simp)
@[simp] theorem State.badEnc_faultReports (p : Page) (l : Nat) : (s.badEnc p l).faultReports = s.faultReports := faultReports_of_except (s.badEnc_frame p l) (by simp)
@[simp] theorem State.badEnc_locks (p : Page) (l : Nat) : (s.badEnc p l).locks = s.locks := locks_of_except (s.badEnc_frame p l) (by simp)
@[simp] theorem State.badEnc_latches (p : Page) (l : Nat) : (s.badEnc p l).latches = s.latches := latches_of_except (s.badEnc_frame p l) (by simp)
@[simp] theorem State.badEnc_staging (p : Page) (l : Nat) : (s.badEnc p l).staging = s.staging := staging_of_except (s.badEnc_frame p l) (by simp)
@[simp] theorem State.badEnc_tb (p : Page) (l : Nat) : (s.badEnc p l).tb = s.tb := tb_of_except (s.badEnc_frame p l) (by simp)
@[simp] theorem State.badEnc_timers (p : Page) (l : Nat) : (s.badEnc p l).timers = s.timers := timers_of_except (s.badEnc_frame p l) (by simp)
@[simp] theorem State.badEnc_trigQual (p : Page) (l : Nat) : (s.badEnc p l).trigQual = s.trigQual := trigQual_of_except (s.badEnc_frame p l) (by simp)
@[simp] theorem State.badEnc_trigEvents (p : Page) (l : Nat) : (s.badEnc p l).trigEvents = s.trigEvents := trigEvents_of_except (s.badEnc_frame p l) (by simp)
@[simp] theorem State.badEnc_synced (p : Page) (l : Nat) : (s.badEnc p l).synced = s.synced := synced_of_except (s.badEnc_frame p l) (by simp)
@[simp] theorem State.badEnc_freeze (p : Page) (l : Nat) : (s.badEnc p l).freeze = s.freeze := freeze_of_except (s.badEnc_frame p l) (by simp)
@[simp] theorem State.badEnc_traces (p : Page) (l : Nat) : (s.badEnc p l).traces = s.traces := traces_of_except (s.badEnc_frame p l) (by simp)
@[simp] theorem State.badEnc_debugger (p : Page) (l : Nat) : (s.badEnc p l).debugger = s.debugger := debugger_of_except (s.badEnc_frame p l) (by simp)
@[simp] theorem State.badEnc_doms (p : Page) (l : Nat) : (s.badEnc p l).doms = s.doms := doms_of_except (s.badEnc_frame p l) (by simp)
@[simp] theorem State.badEnc_devPwr (p : Page) (l : Nat) : (s.badEnc p l).devPwr = s.devPwr := devPwr_of_except (s.badEnc_frame p l) (by simp)
@[simp] theorem State.badEnc_d3hot (p : Page) (l : Nat) : (s.badEnc p l).d3hot = s.d3hot := d3hot_of_except (s.badEnc_frame p l) (by simp)
@[simp] theorem State.badEnc_partState (p : Page) (l : Nat) : (s.badEnc p l).partState = s.partState := partState_of_except (s.badEnc_frame p l) (by simp)
@[simp] theorem State.badEnc_maps (p : Page) (l : Nat) : (s.badEnc p l).maps = s.maps := maps_of_except (s.badEnc_frame p l) (by simp)
@[simp] theorem State.badEnc_maps2 (p : Page) (l : Nat) : (s.badEnc p l).maps2 = s.maps2 := maps2_of_except (s.badEnc_frame p l) (by simp)
@[simp] theorem State.badEnc_mapCur (p : Page) (l : Nat) : (s.badEnc p l).mapCur = s.mapCur := mapCur_of_except (s.badEnc_frame p l) (by simp)
@[simp] theorem State.badEnc_mapRe (p : Page) (l : Nat) : (s.badEnc p l).mapRe = s.mapRe := mapRe_of_except (s.badEnc_frame p l) (by simp)
@[simp] theorem State.badEnc_net (p : Page) (l : Nat) : (s.badEnc p l).net = s.net := net_of_except (s.badEnc_frame p l) (by simp)
@[simp] theorem State.badEnc_arrivals (p : Page) (l : Nat) : (s.badEnc p l).arrivals = s.arrivals := arrivals_of_except (s.badEnc_frame p l) (by simp)
@[simp] theorem State.badEnc_inbox (p : Page) (l : Nat) : (s.badEnc p l).inbox = s.inbox := inbox_of_except (s.badEnc_frame p l) (by simp)
@[simp] theorem State.badEnc_redIn (p : Page) (l : Nat) : (s.badEnc p l).redIn = s.redIn := redIn_of_except (s.badEnc_frame p l) (by simp)
@[simp] theorem State.badEnc_robs (p : Page) (l : Nat) : (s.badEnc p l).robs = s.robs := robs_of_except (s.badEnc_frame p l) (by simp)
@[simp] theorem State.badEnc_expect (p : Page) (l : Nat) : (s.badEnc p l).expect = s.expect := expect_of_except (s.badEnc_frame p l) (by simp)
@[simp] theorem State.badEnc_seqs (p : Page) (l : Nat) : (s.badEnc p l).seqs = s.seqs := seqs_of_except (s.badEnc_frame p l) (by simp)
@[simp] theorem State.badEnc_pressure (p : Page) (l : Nat) : (s.badEnc p l).pressure = s.pressure := pressure_of_except (s.badEnc_frame p l) (by simp)
@[simp] theorem State.badEnc_partials (p : Page) (l : Nat) : (s.badEnc p l).partials = s.partials := partials_of_except (s.badEnc_frame p l) (by simp)
@[simp] theorem State.badEnc_links (p : Page) (l : Nat) : (s.badEnc p l).links = s.links := links_of_except (s.badEnc_frame p l) (by simp)
@[simp] theorem State.badEnc_d2dReplays (p : Page) (l : Nat) : (s.badEnc p l).d2dReplays = s.d2dReplays := d2dReplays_of_except (s.badEnc_frame p l) (by simp)
@[simp] theorem State.badEnc_d2dRetried (p : Page) (l : Nat) : (s.badEnc p l).d2dRetried = s.d2dRetried := d2dRetried_of_except (s.badEnc_frame p l) (by simp)
@[simp] theorem State.badEnc_leaves (p : Page) (l : Nat) : (s.badEnc p l).leaves = s.leaves := leaves_of_except (s.badEnc_frame p l) (by simp)
@[simp] theorem State.badEnc_notices (p : Page) (l : Nat) : (s.badEnc p l).notices = s.notices := notices_of_except (s.badEnc_frame p l) (by simp)
@[simp] theorem State.badEnc_sources (p : Page) (l : Nat) : (s.badEnc p l).sources = s.sources := sources_of_except (s.badEnc_frame p l) (by simp)
@[simp] theorem State.badEnc_chans (p : Page) (l : Nat) : (s.badEnc p l).chans = s.chans := chans_of_except (s.badEnc_frame p l) (by simp)
@[simp] theorem State.badEnc_decs (p : Page) (l : Nat) : (s.badEnc p l).decs = s.decs := decs_of_except (s.badEnc_frame p l) (by simp)
@[simp] theorem State.badEnc_hostMem (p : Page) (l : Nat) : (s.badEnc p l).hostMem = s.hostMem := hostMem_of_except (s.badEnc_frame p l) (by simp)
@[simp] theorem State.badEnc_rings (p : Page) (l : Nat) : (s.badEnc p l).rings = s.rings := rings_of_except (s.badEnc_frame p l) (by simp)
@[simp] theorem State.badEnc_cabs (p : Page) (l : Nat) : (s.badEnc p l).cabs = s.cabs := cabs_of_except (s.badEnc_frame p l) (by simp)
@[simp] theorem State.badEnc_hutches (p : Page) (l : Nat) : (s.badEnc p l).hutches = s.hutches := hutches_of_except (s.badEnc_frame p l) (by simp)
@[simp] theorem State.badEnc_parts (p : Page) (l : Nat) : (s.badEnc p l).parts = s.parts := parts_of_except (s.badEnc_frame p l) (by simp)
@[simp] theorem State.badEnc_journals (p : Page) (l : Nat) : (s.badEnc p l).journals = s.journals := journals_of_except (s.badEnc_frame p l) (by simp)
@[simp] theorem State.badEnc_ckpts (p : Page) (l : Nat) : (s.badEnc p l).ckpts = s.ckpts := ckpts_of_except (s.badEnc_frame p l) (by simp)
@[simp] theorem State.badEnc_parkAreas (p : Page) (l : Nat) : (s.badEnc p l).parkAreas = s.parkAreas := parkAreas_of_except (s.badEnc_frame p l) (by simp)
@[simp] theorem State.badEnc_boot (p : Page) (l : Nat) : (s.badEnc p l).boot = s.boot := boot_of_except (s.badEnc_frame p l) (by simp)
@[simp] theorem State.badEnc_msix (p : Page) (l : Nat) : (s.badEnc p l).msix = s.msix := msix_of_except (s.badEnc_frame p l) (by simp)
@[simp] theorem State.badEnc_sentMsi (p : Page) (l : Nat) : (s.badEnc p l).sentMsi = s.sentMsi := sentMsi_of_except (s.badEnc_frame p l) (by simp)
@[simp] theorem State.badEnc_routes (p : Page) (l : Nat) : (s.badEnc p l).routes = s.routes := routes_of_except (s.badEnc_frame p l) (by simp)
@[simp] theorem State.badEnc_pci (p : Page) (l : Nat) : (s.badEnc p l).pci = s.pci := pci_of_except (s.badEnc_frame p l) (by simp)
@[simp] theorem State.badEnc_mbox (p : Page) (l : Nat) : (s.badEnc p l).mbox = s.mbox := mbox_of_except (s.badEnc_frame p l) (by simp)
@[simp] theorem State.badEnc_recov (p : Page) (l : Nat) : (s.badEnc p l).recov = s.recov := recov_of_except (s.badEnc_frame p l) (by simp)
@[simp] theorem State.badEnc_pending (p : Page) (l : Nat) : (s.badEnc p l).pending = s.pending := pending_of_except (s.badEnc_frame p l)
@[simp] theorem State.badEnc_fuses (p : Page) (l : Nat) : (s.badEnc p l).fuses = s.fuses := fuses_of_except (s.badEnc_frame p l)

theorem State.errIntg_frame (f c k l : Nat) : (s.errIntg f c k l).except [.logs, .regs .intg] = s.except [.logs, .regs .intg] := by simp

@[simp] theorem State.errIntg_draws (f c k l : Nat) : (s.errIntg f c k l).draws = s.draws := draws_of_except (s.errIntg_frame f c k l) (by simp)
@[simp] theorem State.errIntg_mem (f c k l : Nat) : (s.errIntg f c k l).mem = s.mem := mem_of_except (s.errIntg_frame f c k l) (by simp)
@[simp] theorem State.errIntg_faultReports (f c k l : Nat) : (s.errIntg f c k l).faultReports = s.faultReports := faultReports_of_except (s.errIntg_frame f c k l) (by simp)
@[simp] theorem State.errIntg_locks (f c k l : Nat) : (s.errIntg f c k l).locks = s.locks := locks_of_except (s.errIntg_frame f c k l) (by simp)
@[simp] theorem State.errIntg_latches (f c k l : Nat) : (s.errIntg f c k l).latches = s.latches := latches_of_except (s.errIntg_frame f c k l) (by simp)
@[simp] theorem State.errIntg_staging (f c k l : Nat) : (s.errIntg f c k l).staging = s.staging := staging_of_except (s.errIntg_frame f c k l) (by simp)
@[simp] theorem State.errIntg_tb (f c k l : Nat) : (s.errIntg f c k l).tb = s.tb := tb_of_except (s.errIntg_frame f c k l) (by simp)
@[simp] theorem State.errIntg_timers (f c k l : Nat) : (s.errIntg f c k l).timers = s.timers := timers_of_except (s.errIntg_frame f c k l) (by simp)
@[simp] theorem State.errIntg_trigQual (f c k l : Nat) : (s.errIntg f c k l).trigQual = s.trigQual := trigQual_of_except (s.errIntg_frame f c k l) (by simp)
@[simp] theorem State.errIntg_trigEvents (f c k l : Nat) : (s.errIntg f c k l).trigEvents = s.trigEvents := trigEvents_of_except (s.errIntg_frame f c k l) (by simp)
@[simp] theorem State.errIntg_synced (f c k l : Nat) : (s.errIntg f c k l).synced = s.synced := synced_of_except (s.errIntg_frame f c k l) (by simp)
@[simp] theorem State.errIntg_freeze (f c k l : Nat) : (s.errIntg f c k l).freeze = s.freeze := freeze_of_except (s.errIntg_frame f c k l) (by simp)
@[simp] theorem State.errIntg_traces (f c k l : Nat) : (s.errIntg f c k l).traces = s.traces := traces_of_except (s.errIntg_frame f c k l) (by simp)
@[simp] theorem State.errIntg_debugger (f c k l : Nat) : (s.errIntg f c k l).debugger = s.debugger := debugger_of_except (s.errIntg_frame f c k l) (by simp)
@[simp] theorem State.errIntg_doms (f c k l : Nat) : (s.errIntg f c k l).doms = s.doms := doms_of_except (s.errIntg_frame f c k l) (by simp)
@[simp] theorem State.errIntg_devPwr (f c k l : Nat) : (s.errIntg f c k l).devPwr = s.devPwr := devPwr_of_except (s.errIntg_frame f c k l) (by simp)
@[simp] theorem State.errIntg_d3hot (f c k l : Nat) : (s.errIntg f c k l).d3hot = s.d3hot := d3hot_of_except (s.errIntg_frame f c k l) (by simp)
@[simp] theorem State.errIntg_partState (f c k l : Nat) : (s.errIntg f c k l).partState = s.partState := partState_of_except (s.errIntg_frame f c k l) (by simp)
@[simp] theorem State.errIntg_maps (f c k l : Nat) : (s.errIntg f c k l).maps = s.maps := maps_of_except (s.errIntg_frame f c k l) (by simp)
@[simp] theorem State.errIntg_maps2 (f c k l : Nat) : (s.errIntg f c k l).maps2 = s.maps2 := maps2_of_except (s.errIntg_frame f c k l) (by simp)
@[simp] theorem State.errIntg_mapCur (f c k l : Nat) : (s.errIntg f c k l).mapCur = s.mapCur := mapCur_of_except (s.errIntg_frame f c k l) (by simp)
@[simp] theorem State.errIntg_mapRe (f c k l : Nat) : (s.errIntg f c k l).mapRe = s.mapRe := mapRe_of_except (s.errIntg_frame f c k l) (by simp)
@[simp] theorem State.errIntg_net (f c k l : Nat) : (s.errIntg f c k l).net = s.net := net_of_except (s.errIntg_frame f c k l) (by simp)
@[simp] theorem State.errIntg_arrivals (f c k l : Nat) : (s.errIntg f c k l).arrivals = s.arrivals := arrivals_of_except (s.errIntg_frame f c k l) (by simp)
@[simp] theorem State.errIntg_inbox (f c k l : Nat) : (s.errIntg f c k l).inbox = s.inbox := inbox_of_except (s.errIntg_frame f c k l) (by simp)
@[simp] theorem State.errIntg_redIn (f c k l : Nat) : (s.errIntg f c k l).redIn = s.redIn := redIn_of_except (s.errIntg_frame f c k l) (by simp)
@[simp] theorem State.errIntg_robs (f c k l : Nat) : (s.errIntg f c k l).robs = s.robs := robs_of_except (s.errIntg_frame f c k l) (by simp)
@[simp] theorem State.errIntg_expect (f c k l : Nat) : (s.errIntg f c k l).expect = s.expect := expect_of_except (s.errIntg_frame f c k l) (by simp)
@[simp] theorem State.errIntg_seqs (f c k l : Nat) : (s.errIntg f c k l).seqs = s.seqs := seqs_of_except (s.errIntg_frame f c k l) (by simp)
@[simp] theorem State.errIntg_pressure (f c k l : Nat) : (s.errIntg f c k l).pressure = s.pressure := pressure_of_except (s.errIntg_frame f c k l) (by simp)
@[simp] theorem State.errIntg_partials (f c k l : Nat) : (s.errIntg f c k l).partials = s.partials := partials_of_except (s.errIntg_frame f c k l) (by simp)
@[simp] theorem State.errIntg_links (f c k l : Nat) : (s.errIntg f c k l).links = s.links := links_of_except (s.errIntg_frame f c k l) (by simp)
@[simp] theorem State.errIntg_d2dReplays (f c k l : Nat) : (s.errIntg f c k l).d2dReplays = s.d2dReplays := d2dReplays_of_except (s.errIntg_frame f c k l) (by simp)
@[simp] theorem State.errIntg_d2dRetried (f c k l : Nat) : (s.errIntg f c k l).d2dRetried = s.d2dRetried := d2dRetried_of_except (s.errIntg_frame f c k l) (by simp)
@[simp] theorem State.errIntg_leaves (f c k l : Nat) : (s.errIntg f c k l).leaves = s.leaves := leaves_of_except (s.errIntg_frame f c k l) (by simp)
@[simp] theorem State.errIntg_notices (f c k l : Nat) : (s.errIntg f c k l).notices = s.notices := notices_of_except (s.errIntg_frame f c k l) (by simp)
@[simp] theorem State.errIntg_sources (f c k l : Nat) : (s.errIntg f c k l).sources = s.sources := sources_of_except (s.errIntg_frame f c k l) (by simp)
@[simp] theorem State.errIntg_chans (f c k l : Nat) : (s.errIntg f c k l).chans = s.chans := chans_of_except (s.errIntg_frame f c k l) (by simp)
@[simp] theorem State.errIntg_decs (f c k l : Nat) : (s.errIntg f c k l).decs = s.decs := decs_of_except (s.errIntg_frame f c k l) (by simp)
@[simp] theorem State.errIntg_hostMem (f c k l : Nat) : (s.errIntg f c k l).hostMem = s.hostMem := hostMem_of_except (s.errIntg_frame f c k l) (by simp)
@[simp] theorem State.errIntg_rings (f c k l : Nat) : (s.errIntg f c k l).rings = s.rings := rings_of_except (s.errIntg_frame f c k l) (by simp)
@[simp] theorem State.errIntg_cabs (f c k l : Nat) : (s.errIntg f c k l).cabs = s.cabs := cabs_of_except (s.errIntg_frame f c k l) (by simp)
@[simp] theorem State.errIntg_hutches (f c k l : Nat) : (s.errIntg f c k l).hutches = s.hutches := hutches_of_except (s.errIntg_frame f c k l) (by simp)
@[simp] theorem State.errIntg_parts (f c k l : Nat) : (s.errIntg f c k l).parts = s.parts := parts_of_except (s.errIntg_frame f c k l) (by simp)
@[simp] theorem State.errIntg_journals (f c k l : Nat) : (s.errIntg f c k l).journals = s.journals := journals_of_except (s.errIntg_frame f c k l) (by simp)
@[simp] theorem State.errIntg_ckpts (f c k l : Nat) : (s.errIntg f c k l).ckpts = s.ckpts := ckpts_of_except (s.errIntg_frame f c k l) (by simp)
@[simp] theorem State.errIntg_parkAreas (f c k l : Nat) : (s.errIntg f c k l).parkAreas = s.parkAreas := parkAreas_of_except (s.errIntg_frame f c k l) (by simp)
@[simp] theorem State.errIntg_boot (f c k l : Nat) : (s.errIntg f c k l).boot = s.boot := boot_of_except (s.errIntg_frame f c k l) (by simp)
@[simp] theorem State.errIntg_msix (f c k l : Nat) : (s.errIntg f c k l).msix = s.msix := msix_of_except (s.errIntg_frame f c k l) (by simp)
@[simp] theorem State.errIntg_sentMsi (f c k l : Nat) : (s.errIntg f c k l).sentMsi = s.sentMsi := sentMsi_of_except (s.errIntg_frame f c k l) (by simp)
@[simp] theorem State.errIntg_routes (f c k l : Nat) : (s.errIntg f c k l).routes = s.routes := routes_of_except (s.errIntg_frame f c k l) (by simp)
@[simp] theorem State.errIntg_pci (f c k l : Nat) : (s.errIntg f c k l).pci = s.pci := pci_of_except (s.errIntg_frame f c k l) (by simp)
@[simp] theorem State.errIntg_mbox (f c k l : Nat) : (s.errIntg f c k l).mbox = s.mbox := mbox_of_except (s.errIntg_frame f c k l) (by simp)
@[simp] theorem State.errIntg_recov (f c k l : Nat) : (s.errIntg f c k l).recov = s.recov := recov_of_except (s.errIntg_frame f c k l) (by simp)
@[simp] theorem State.errIntg_pending (f c k l : Nat) : (s.errIntg f c k l).pending = s.pending := pending_of_except (s.errIntg_frame f c k l)
@[simp] theorem State.errIntg_fuses (f c k l : Nat) : (s.errIntg f c k l).fuses = s.fuses := fuses_of_except (s.errIntg_frame f c k l)

/-- The registers that no error log entry changes: every one of another block, and the header words of the INTG page but PG_STATUS and PG_IRQ_RAW. -/
theorem State.logIn_rd (f c : Nat) (e : LogEntry) (p : Page) (o : Nat)
    (h : p.blk ≠ .intg ∨ (o % 4096 < 0x054 ∧ o % 4096 ≠ 0x00C ∧ o % 4096 ≠ 0x010 ∧ c < 900)) : (s.logIn f c e).rd p o = s.rd p o := by
  by_cases hb : p.blk = .intg
  · obtain h | ⟨h1, h2, h3, h4⟩ := h
    · exact absurd hb h
    have key : ∀ (u : State) (q : Page) (o' : Nat) (w : Word), o % 4096 ≠ o' % 4096 → (u.wr q o' w).rd p o = u.rd p o := by
      intro u q o' w ho
      by_cases hk : p.key = q.key
      · unfold State.rd State.wr
        rw [hk]
        exact SMap.get_set_other regDefault u.regs w (by omega)
      · exact rd_wr_key u o' o w hk
    have hi : ∀ u : State, (u.incCtr (intg f) (0x054 + 4 * c)).rd p o = u.rd p o := fun u => key u _ _ _ (by omega)
    unfold State.logIn
    dsimp only
    split
    · exact (key _ _ 0x010 _ (by omega)).trans (hi s)
    · exact (key _ _ 0x010 _ (by omega)).trans ((key _ _ 0x00C _ (by omega)).trans (hi s))
  · have e := State.logIn_except (W := [.logs, .regs .intg]) s f c e (by simp) (by simp)
    exact rd_of_except e p o (by simpa using hb)

theorem State.logErr_rd (q : Page) (k c : Nat) (i : Word) (p : Page) (o : Nat)
    (h : p.blk ≠ .intg ∨ (o % 4096 < 0x054 ∧ o % 4096 ≠ 0x00C ∧ o % 4096 ≠ 0x010 ∧ c < 900)) : (s.logErr q k c i).rd p o = s.rd p o := by
  unfold State.logErr
  dsimp only
  split
  · exact State.logIn_rd _ _ _ _ _ _ h
  · rw [State.logIn_rd _ _ _ _ _ _ h, State.logIn_rd _ _ _ _ _ _ h]

theorem State.countErr_rd (p : Page) (c : Nat) (q : Page) (o : Nat) (h : q.blk ≠ p.blk ∨ o % 4096 ≠ 0x024) :
    (s.countErr p c).rd q o = s.rd q o := by
  have key : ∀ (w : Word), (s.wr p 0x024 w).rd q o = s.rd q o := by
    intro w
    obtain h | h := h
    · exact rd_wr_blk s _ _ w h
    · by_cases hk : q.key = p.key
      · unfold State.rd State.wr
        rw [hk]
        exact SMap.get_set_other regDefault s.regs w (by omega)
      · exact rd_wr_key s _ _ w hk
  unfold State.countErr State.setFld
  split <;> exact key _

/-- An error leaves every register but PG_ERR_INFO and PG_ERR_COUNT of its page and the INTG pages. -/
theorem State.err_rd (p : Page) (c k l : Nat) (q : Page) (o : Nat) (hq : q.blk ≠ .intg)
    (h : q.blk ≠ p.blk ∨ (o % 4096 ≠ 0x020 ∧ o % 4096 ≠ 0x024)) : (s.err p c k l).rd q o = s.rd q o := by
  have hc : (s.countErr p c).rd q o = s.rd q o := State.countErr_rd s p c q o (by obtain h | h := h <;> simp [h])
  unfold State.err
  dsimp only
  split
  · exact hc
  · rw [State.logErr_rd _ _ _ _ _ _ _ (.inl hq), ← hc]
    obtain h | h := h
    · exact rd_wr_blk _ _ _ _ h
    · by_cases hk : q.key = p.key
      · unfold State.rd State.wr
        rw [hk]
        exact SMap.get_set_other regDefault _ _ (by omega)
      · exact rd_wr_key _ _ _ _ hk

/-- R397: the error is in PG_ERR_INFO, unless an earlier one stands there. -/
theorem State.err_recorded (p : Page) (c k l : Nat) (hc : c < 900) : Recorded s (s.err p c k l) p c k l := by
  unfold Recorded State.err
  dsimp only
  split
  · exact State.countErr_rd s p c p 0x020 (.inr (by decide))
  · rw [State.logErr_rd _ _ _ _ _ _ _ (.inr ⟨by decide, by decide, by decide, hc⟩), rd_wr_same]

theorem State.refuse_recorded (p : Page) (l : Nat) : Recorded s (s.refuse p l) p 5 0x013 l := State.err_recorded s p 5 _ l (by decide)

theorem State.badEnc_recorded (p : Page) (l : Nat) : Recorded s (s.badEnc p l) p 5 0x010 l := State.err_recorded s p 5 _ l (by decide)

end Sys2Proof.Machine
end

