-- ==== Sys2Proof/Tests/Slice0.lean ====
section
/-!
SUPPORT. Slice0.lean: the model's own tests: ill-formed commands that WellFormed refuses, values that the spec works out in 01_walkthrough.md, single steps,
and for every statement a state and operands that meet its hypotheses.
-/

open Sys2Proof Sys2Proof.Machine

namespace Sys2Proof.Tests

set_option maxRecDepth 20000
set_option Elab.async false

/-! ### Ill-formed commands -/

/-- A flit, a memory flit and a start that are well formed. -/
abbrev flit0 : Flit := ⟨0, 0, 0, 0, 0, 0, 0, 0⟩
abbrev mflit0 : MFlit := ⟨0, 0, 0, 0, 0, 0, 0, 0, 0, 0, false, 0⟩
abbrev plan0 : StartPlan := ⟨false, 0, false, true, none, true, 0, 0, true, true, true, [], 0, 0, [], 0, [], 0, 0, [], 0⟩

theorem test_wf_accepts : flit0.wf = true ∧ mflit0.wf = true ∧ plan0.wf = true ∧ Req.bureau.wf = true ∧ (Target.reg ⟨.dev, 0⟩ 0x040).wf = true ∧
    (Page.wf ⟨.trs, 575⟩) = true ∧ (DmaFor.ring 63 1023).wf = true := by decide

theorem test_flit_wf_refuses : ([{ flit0 with dest := 512 }, { flit0 with src := 512 }, { flit0 with vc := 8 }, { flit0 with key := 64 },
    { flit0 with seq := 4096 }, { flit0 with kind := 8 }, { flit0 with tag := 64 }, { flit0 with payload := 2 ^ 128 }] : List Flit).all
    (fun f => !f.wf && !(AnyFlit.ev f).wf) = true := by decide +kernel

theorem test_mflit_wf_refuses : ([{ mflit0 with dest := 512 }, { mflit0 with src := 512 }, { mflit0 with key := 64 }, { mflit0 with op := 8 },
    { mflit0 with len := 4 }, { mflit0 with tag := 2048 }, { mflit0 with line := 2 ^ 31 }, { mflit0 with qmask := 256 }, { mflit0 with hops := 64 },
    { mflit0 with plane := 3 }, { mflit0 with data := 2 ^ 512 }] : List MFlit).all (fun f => !f.wf && !(AnyFlit.mem f).wf) = true := by decide +kernel

theorem test_operand_wf_refuses : (Req.fn 64).wf = false ∧ (Req.core 288).wf = false ∧ Page.wf ⟨.dev, 64⟩ = false ∧ Page.wf ⟨.pwr, 1⟩ = false ∧
    Page.wf ⟨.chin, 16⟩ = false ∧ Page.wf ⟨.hut0, 4⟩ = false ∧ Page.wf ⟨.d2d, 6⟩ = false ∧ Page.wf ⟨.cctl, 288⟩ = false ∧ Page.wf ⟨.drw, 1152⟩ = false ∧
    Page.wf ⟨.trs, 576⟩ = false ∧ (DmaFor.ring 64 0).wf = false ∧ (DmaFor.ring 0 1024).wf = false ∧ (DmaFor.image 64).wf = false ∧
    (Target.reg ⟨.dev, 64⟩ 0).wf = false ∧ (Target.reg ⟨.dev, 0⟩ 4096).wf = false ∧ (Target.reg ⟨.dev, 0⟩ 2).wf = false ∧
    (Target.bar (2 ^ 25) 4).wf = false ∧ (Target.bar 0 3).wf = false ∧ StartPlan.wf { plan0 with bootSrc := 4 } = false ∧
    StartPlan.wf { plan0 with stackBad := 16 } = false ∧ StartPlan.wf { plan0 with chanBad := 65536 } = false ∧
    StartPlan.wf { plan0 with lanes := List.replicate 7 ([], 0) } = false := by decide +kernel

theorem test_wf_refuses_1 : ([
    .start (.fn 64) 0, .armSysref (.fn 64) 0, .disarm (.fn 64) 0, .sysrefEdge 16, .copySync ⟨.cctl, 288⟩, .copyCheck [⟨.cctl, 288⟩], .timeSoftReset
    (.fn 64) 0, .wideLowRead (.fn 64) (.reg ⟨.dev, 0⟩ 0x040) .ok, .wideLowRead .bureau (.reg ⟨.dev, 0⟩ 0x042) .ok, .wideLowWrite (.fn 64) ⟨.dev, 0⟩
    0 0, .wideLowWrite .bureau ⟨.cctl, 288⟩ 0 0, .wideLowWrite .bureau ⟨.dev, 0⟩ 4096 0, .wideHighWrite (.fn 64) ⟨.dev, 0⟩ 0 0, .wideHighWrite
    .bureau ⟨.cctl, 288⟩ 0 0, .wideHighWrite .bureau ⟨.dev, 0⟩ 4096 0, .triginEdge 4 true 0, .triginEdge 0 true 16, .triginQualify 4 true,
    .externalTriggerEvent 4, .triginEvtWrite (.fn 64) 0 0, .triginEvtWrite .bureau 4 0, .timerTick ⟨.cctl, 288⟩ 0, .timerTick ⟨.dev, 0⟩ 8,
    .timerEnable (.fn 64) ⟨.dev, 0⟩ 0 0, .timerEnable .bureau ⟨.cctl, 288⟩ 0 0, .timerEnable .bureau ⟨.dev, 0⟩ 8 0, .timerRestart (.fn 64) ⟨.dev, 0⟩
    0 0, .timerRestart .bureau ⟨.cctl, 288⟩ 0 0, .timerRestart .bureau ⟨.dev, 0⟩ 8 0, .capturePop (.fn 64) ⟨.dev, 0⟩ 0, .capturePop .bureau ⟨.cctl,
    288⟩ 0, .capturePop .bureau ⟨.dev, 0⟩ 8, .channelEnable (.fn 64) 0 0, .channelEnable .bureau 16 0, .channelDisable (.fn 64) 0 0, .channelDisable
    .bureau 16 0, .linkEnable (.fn 64) 0 0, .linkEnable .bureau 16 0, .linkReinit (.fn 64) 0 0, .linkReinit .bureau 16 0, .linkDisable (.fn 64) 0 0,
    .linkDisable .bureau 16 0, .laneLock 16, .lmfcAlign 16 0, .lmfcAlign 0 16, .ilasCheck 16 [], .ilasRetry 16, .linkUp 16 ⟨0, none⟩, .linkUp 0 ⟨0,
    some 4⟩, .laneErr 16 0 true] : List Instr).all (fun c => !c.wf) = true := by decide +kernel

theorem test_wf_refuses_2 : ([
    .laneErr 0 8 true, .lossOfCodeGroupSync 16 0, .lossOfCodeGroupSync 0 8, .multiblockCrcCheck 16 0 true 0 0, .multiblockCrcCheck 0 8 true 0 0,
    .lossOfSyncHeaderLock 16 0, .lossOfSyncHeaderLock 0 8, .serdesPllLoss 16, .wordStamp 16 [] true, .channelSysrefCheck 16 0, .channelSysrefCheck 0
    16, .dlOffsetWrite (.fn 64) 0 0, .dlOffsetWrite .bureau 16 0, .sfifoPop (.fn 64) 0 .clean, .sfifoPop .bureau 16 .clean, .sfifoDropRest (.fn 64)
    0, .sfifoDropRest .bureau 16, .sfifoArm (.fn 64) 0, .sfifoArm .bureau 16, .sfifoFlush (.fn 64) 0, .sfifoFlush .bureau 16, .sfifoThrWrite (.fn
    64) 0 0, .sfifoThrWrite .bureau 16 0, .sdmaRecordCopy 16, .gapStart 16, .pairStatusSend 16 0, .pairStatusReceive 16 flit0, .pairStatusReceive 0
    { flit0 with dest := 512 }, .pairDeliveryDecision 16 0, .txEnable (.fn 64) 0 0, .txEnable .bureau 16 0, .txAlign 16 0, .txAlign 0 16, .txSample
    16, .linkConfigWrite (.fn 64) 0 0 0, .linkConfigWrite .bureau 16 0 0, .linkConfigWrite .bureau 0 4096 0, .encoderEventRelease 16, .flitReceive
    288 0 0 true (.ev flit0), .flitReceive 0 5 0 true (.ev flit0), .flitReceive 0 0 65536 true (.ev flit0), .flitReceive 0 0 0 true (.ev { flit0
    with vc := 8 }), .linkRetrain 288 0 0 true .full, .linkRetrain 0 5 0 true .full, .linkRetrain 0 0 4 true .full, .flitEject 512 true flit0,
    .flitEject 0 true { flit0 with dest := 512 }, .robTimeout 512, .escape 288 0 (.ev flit0), .escape 0 5 (.ev flit0)] : List Instr).all (fun c =>
    !c.wf) = true := by decide +kernel

theorem test_wf_refuses_3 : ([
    .escape 0 0 (.ev { flit0 with vc := 8 }), .d2dReplay 6 ⟨0, false, 0⟩ 0, .d2dReplay 0 ⟨64, false, 0⟩ 0, .d2dGroupDown 6 [] 0, .d2dGroupDown 0
    [320] 0, .d2dRetrain (.fn 64) 0 0 [] 0, .d2dRetrain .bureau 6 0 [] 0, .d2dRetrain .bureau 0 0 [320] 0, .redUp 288 flit0, .redUp 0 { flit0 with
    dest := 512 }, .redWindowExpiry 288 0 0 0, .redWindowExpiry 0 64 0 0, .redWindowExpiry 0 0 64 0, .redTmo 288 0 0 0, .redTmo 0 64 0 0, .redTmo 0
    0 64 0, .redDownReceive 512, .fwdExpiry 288, .delivery 288 .clean, .evaluate 288 0 0 .clean, .evaluate 0 4 0 .clean, .evaluate 0 0 8192 .clean,
    .sweepVisit 288 0 .clean, .sweepVisit 0 4 .clean, .catchupPass 288 ⟨0, .clean⟩, .catchupPass 0 ⟨4, .clean⟩, .handshakeTimeout 288 0 0,
    .handshakeTimeout 0 4 0, .handshakeTimeout 0 0 8192, .readNeuron 288 0 .clean, .readNeuron 0 4 .clean, .writeNeuron 288 0 .clean, .writeNeuron 0
    4 .clean, .charge 288 ⟨0, .clean⟩, .charge 0 ⟨4, .clean⟩, .drwWinData (.fn 64) 0 0 none .clean, .drwWinData .bureau 288 0 none .clean,
    .drwWinData .bureau 0 4 none .clean, .drawerPause (.fn 64) 0 0 0, .drawerPause .bureau 288 0 0, .drawerPause .bureau 0 4 0, .stepStart ⟨288, ⟨0,
    .clean⟩⟩, .stepStart ⟨0, ⟨4, .clean⟩⟩, .stepComplete ⟨288, ⟨0, .clean⟩⟩, .stepComplete ⟨0, ⟨4, .clean⟩⟩, .ldqReturn 288, .spillResume ⟨288,
    .clean⟩, .horizonRoundSample 64 0, .horizonRoundSample 0 512, .horizonContributionSend 64 0] : List Instr).all (fun c => !c.wf) = true := by
    decide +kernel

theorem test_wf_refuses_4 : ([
    .horizonContributionSend 0 512, .coreFloorWrite (.fn 64) 0 0, .coreFloorWrite .bureau 288 0, .plasticEventWalk 288 ⟨.clean, ⟨0, .clean⟩⟩,
    .plasticEventWalk 0 ⟨.clean, ⟨4, .clean⟩⟩, .expanderEvent 288 true .clean, .rowLineFill 288 ⟨[], ⟨0, .clean⟩⟩, .rowLineFill 0 ⟨[], ⟨4, .clean⟩⟩,
    .epochRequest (.fn 64) 0 0, .epochRequest .bureau 288 0, .epochSwitch 288, .relocationCopy 288 0 [], .relocationCopy 0 65536 [], .relocDone 288
    0, .relocDone 0 65536, .relocationInstall 288 0, .relocationInstall 0 65536, .rewardProcess 288, .consolidationMarker 288, .markerProcess ⟨288,
    ⟨0, .clean⟩⟩, .markerProcess ⟨0, ⟨4, .clean⟩⟩, .descriptorEntry 288 0, .descriptorEntry 0 2, .loadW 288 0 .clean, .loadW 0 2 .clean, .loadCb 288
    0 .clean, .loadCb 0 2 .clean, .loadRescale 288 0 .clean, .loadRescale 0 2 .clean, .loadAct 288 0 .clean, .loadAct 0 2 .clean, .run 288 0 .clean
    none, .run 0 2 .clean none, .reduceOutCopy 288 0 .clean, .reduceOutCopy 0 2 .clean, .reduceOutReduce 288 0 .clean, .reduceOutReduce 0 2 .clean,
    .emitEvents 288 0 .clean, .emitEvents 0 2 .clean, .fence 288 0, .fence 0 2, .descriptorComplete 288 0, .descriptorComplete 0 2,
    .redDownProgramResult 288, .trestlePause (.fn 64) 0 0 0, .trestlePause .bureau 288 0 0, .trestlePause .bureau 0 2 0, .trsWinData (.fn 64) 0 0
    none .clean, .trsWinData .bureau 288 0 none .clean, .trsWinData .bureau 0 2 none .clean] : List Instr).all (fun c => !c.wf) = true := by
    decide +kernel

theorem test_wf_refuses_5 : ([
    .bankPowerWrite (.fn 64) 0 true 0, .bankPowerWrite .bureau 288 true 0, .bankTransitionDone 288 0, .bankTransitionDone 0 32, .coreInstruction 288
    .clean .clean none, .coreInterrupt 288, .qsend 288 .clean, .qsendT 288 .clean, .qrecv 288 ⟨.clean, .clean⟩, .qrecvReceive 288 ⟨.clean, .clean⟩,
    .qpeek 288 ⟨.clean, .clean⟩, .qmcast 288 ⟨.clean, .clean⟩, .hzwait 288, .hzwaitRetire 288, .evinj 288 .clean, .offer 288 none .clean, .sendRetry
    512 0, .ctxCreate (.fn 64) ⟨0, .clean⟩, .ctxCreate .bureau ⟨288, .clean⟩, .ctxDestroy (.fn 64) ⟨0, .clean⟩, .ctxDestroy .bureau ⟨288, .clean⟩,
    .ctxSetThr (.fn 64) ⟨0, .clean⟩, .ctxSetThr .bureau ⟨288, .clean⟩, .ctxFlush (.fn 64) ⟨0, .clean⟩, .ctxFlush .bureau ⟨288, .clean⟩, .portDrain
    288 0 ⟨.clean, .clean⟩, .portDrain 0 512 ⟨.clean, .clean⟩, .prefetch 288, .hang 288 0, .coreRunWrite (.fn 64) 0 0, .coreRunWrite .bureau 288 0,
    .hostSignal (.fn 64) 0 0, .hostSignal .bureau 288 0, .qmgrCtxRead (.fn 64) ⟨0, .clean⟩, .qmgrCtxRead .bureau ⟨288, .clean⟩, .qmgrHeadRead (.fn
    64) 0 ⟨.clean, .clean⟩, .qmgrHeadRead .bureau 288 ⟨.clean, .clean⟩, .decoderInput 16 true, .recordWrite 16 none, .resultRelease ⟨16, none⟩,
    .trigOutEnd 16, .recordHeldCommit ⟨16, none⟩, .rfPop (.fn 64) 0 .clean, .rfPop .bureau 16 .clean, .rfDropRest (.fn 64) 0, .rfDropRest .bureau
    16, .rfFlush (.fn 64) 0, .rfFlush .bureau 16, .rfThrWrite (.fn 64) 0 0, .rfThrWrite .bureau 16 0] : List Instr).all (fun c => !c.wf) = true :=
    by decide +kernel

theorem test_wf_refuses_6 : ([
    .rdmaRecordCopy 16, .rewind 16, .front 16, .replayEnd 16, .partConfig (.fn 64) 0, .imageLoad (.fn 64) 0, .imageLoadTimeout 64, .partStart (.fn
    64) 0, .partStop (.fn 64) 0, .partRelease (.fn 64) 0, .migrate (.fn 64) 0, .park (.fn 64) 0, .unpark (.fn 64) 0, .rebalance (.fn 64) 0 [] [],
    .consolidate (.fn 64) 0, .query (.fn 64) 0, .mailboxCommandDone 64, .migrationFreeze 64, .migrationCopyDone 64, .pgOwnerWrite (.fn 64) ⟨.dev, 0⟩
    0, .pgOwnerWrite .bureau ⟨.cctl, 288⟩ 0, .pgLockWrite (.fn 64) ⟨.dev, 0⟩ 0, .pgLockWrite .bureau ⟨.cctl, 288⟩ 0, .memoryRequest { mflit0 with
    len := 4 } [], .scrubRead 4 .clean, .pcRetire (.fn 64) 0 0, .pcRetire .bureau 4 0, .imbalanceWindow 4, .relayout (.fn 64) 0 0, .relayout .bureau
    4 0, .relayoutLineCopy 4, .configRequest 64 (.read 0) true, .doorbell 64 0 0 .ok, .stackWindowAccess 64 0 (.read 4 []) .ok, .flr 64, .pgIrqSet
    (.fn 64) ⟨.dev, 0⟩ 0, .pgIrqSet .bureau ⟨.cctl, 288⟩ 0, .pgIrqRawClear (.fn 64) ⟨.dev, 0⟩ 0, .pgIrqRawClear .bureau ⟨.cctl, 288⟩ 0,
    .pgErrInfoClear (.fn 64) ⟨.dev, 0⟩ 0, .pgErrInfoClear .bureau ⟨.cctl, 288⟩ 0, .softReset (.fn 64) ⟨.dev, 0⟩ 0, .softReset .bureau ⟨.cctl, 288⟩
    0, .softResetDone ⟨.cctl, 288⟩, .vecEoi (.fn 64) 0, .msixMessage 64 0, .msixMessage 0 2048, .ringFetch 64 0, .ringFetch 0 1024, .ringStall 64 0]
    : List Instr).all (fun c => !c.wf) = true := by decide +kernel

theorem test_wf_refuses_7 : ([
    .ringStall 0 1024, .ringWrite 64 0 ⟨.clean, .clean⟩, .ringWrite 0 1024 ⟨.clean, .clean⟩, .ringReset (.fn 64), .ringRetry (.fn 64), .ringSkip
    (.fn 64), .ringCfgWrite (.fn 64) 0, .hold (.fn 64) 0, .release (.fn 64) 0 plan0, .release .bureau 0 { plan0 with bootSrc := 4 }, .legacyWrite
    (.fn 64) 0, .silentCabinet 64, .checkpointValid 288, .recoveryRestoreDone 64 true, .frontSend 64, .replayComplete 64, .filter 288, .resetNRise {
    plan0 with bootSrc := 4 }, .firmwareBlock 288 0 0 0 [] 0, .shutdown (.fn 64) 0, .clearFaults (.fn 64) 0, .runFull (.fn 64) 0, .powerRequest (.fn
    64) none 0, .powerRequest .bureau (some ⟨.cctl, 288⟩) 0, .transitionDone 312 true, .clockSwitch (.fn 64) 0, .devicePowerRequest (.fn 64) 0,
    .wakeN { plan0 with bootSrc := 4 }, .freezeArm (.fn 64) 0, .snapTake (.fn 64) 0, .thaw (.fn 64) 0, .traceRecordWrite 512, .cntClear (.fn 64)
    ⟨.dev, 0⟩ 0, .cntClear .bureau ⟨.cctl, 288⟩ 0, .tapInstruction 256, .debugHalt 289, .smbusMonitorRead 16, .smbusAlarmClear 256 none,
    .registerWrite (.fn 64) (.reg ⟨.dev, 0⟩ 0x040) 0 .ok, .registerWrite .bureau (.reg ⟨.dev, 0⟩ 0x042) 0 .ok, .debugResume 289, .errorLogPop (.fn
    64), .mapSwitchFlit 512, .waitStartRecord 288, .completionTimeout (.ring 64 0), .dmaReadCompletion (.ring 64 0) .ur] : List Instr).all (fun c =>
    !c.wf) = true := by decide +kernel

/-! ### Values of the spec's own example (01_walkthrough.md) -/

/-- The crossing of code 1,024 between the samples of 01_walkthrough.md lies at 640,000,004. -/
theorem test_walkthrough_crossing : crossUp 1024 896 640000000 1408 640000016 = 640000004 := by decide

/-- Table 1.2: an interval of 20,000 fu codes as 0x21C4 and decodes exactly. -/
theorem test_walkthrough_interval : lg16 (some 20000) = 0x21C4 ∧ lg16Value 0x21C4 = 20000 := by decide

/-- Table 1.2: the fields of the event that channel 3 injects. -/
theorem test_walkthrough_event :
    let p := eventPayload 640000004 64 (encSource 3 0 0 0) 64 0x21C4 1
    nb p 127 80 = 0x2625A004 ∧ nb p 79 64 = 0x40 ∧ nb p 40 33 = 0x40 ∧ nb p 32 17 = 0x21C4 ∧ nb p 16 13 = 1 ∧ nb p 12 0 = 0 := by decide

/-- The codebook record of the example: cb[11] = 48, m = 128, e = -2; the charge of code 11 with payload 64 is 98,304. -/
theorem test_walkthrough_charge : charge (48 * 256 ^ 11 + 128 * 256 ^ 16 + 62 * 256 ^ 17) 64 11 = 98304 := by decide

/-- The charge decayed over 4 fu is 97,921. -/
theorem test_walkthrough_decay : mul24 98304 16711808 = 97921 ∧ rne 393216 2 = 98304 := by decide

/-- The times of the example, rebuilt from their low 48 bits at the present time. -/
theorem test_walkthrough_rebuild : rebuild 0x26262100 640003844 = 640033024 := by decide

/-! ### Single steps -/

/-- No row of the table gives bits, so no word spells a command. -/
theorem test_no_word_spells_a_command : decodeTableWord 32 0x00000013 = none ∧ decodeTableWord 0 0 = none := by decide

/-- The front command runs, and the queue's rest stands. -/
theorem test_step_front : (match step { State.reset with pending := [.holdoverEntry, .pllRelock] } with
    | .next t => t.flag pTime 0x070 1 && decide (t.pending = [.pllRelock])
    | _ => false) = true := by decide

/-- An empty queue lets one CLK_TB edge pass: 16 fu. -/
theorem test_step_idle : (match step { State.reset with tb := { State.reset.tb with state := .running, count := 80 } } with
    | .next t => t.tb.count
    | _ => 0) = 96 := by decide

/-! ### The hypotheses of the statements -/

/-- No region is mirrored, so no address has a mirror. -/
theorem mirrorAt_none (s : State) (h : ∀ i, i < 4 → ∀ r, r < 32 → (s.regCfg i r).bit 24 = false) (b : Nat) : s.mirrorAt b = none := by
  simp [State.mirrorAt, h _ (Nat.mod_lt _ (by decide : 0 < 4)) _ (Nat.mod_lt _ (by decide : 0 < 32)), stackOf, regionOf]

/-- A cache of at most sixteen lines, which holds every line a walk needs, whatever the sets. -/
theorem rowCached_of {s : State} {p : Nat} {ev : Evt} (h : ∀ stage, stage < 5 → ∀ l ∈ s.stageLines p ev stage, l ∈ (s.xp p).cache)
    (n : (s.xp p).cache.length ≤ 16) : s.rowCached p ev := ⟨h, fun _ => Nat.le_trans (List.length_filter_le _ _) n⟩

/-- The state after reset. -/
abbrev z : State := State.reset
/-- The state after reset, with device time running at a count. -/
abbrev run (c : Nat) : State := { z with tb := { z.tb with state := .running, count := c } }
/-- The state after reset, armed for a SYSREF edge. -/
abbrev armed : State := { z with tb := { z.tb with state := .armed } }
abbrev deviceTimeStarts1 : State := (run 5)
abbrev deviceTimeStarts2 : State := {armed with tb := {armed.tb with loadAt := some 1048699}}
abbrev deviceTimeStarts3 : State := {z with tb := {z.tb with startAt := some 77}}
abbrev deviceTimeStarts4 : State := (z.wr64 pTime 0x48 4096)

/-- The hypotheses of the clauses of DeviceTimeStarts are met: a line holds the hypotheses of one clause, but for those an earlier line holds. -/
theorem witness_DeviceTimeStarts :
    (deviceTimeStarts1.passes (.bureau : Req) pTime 80 = true ∧ (0 : Word).bit 1 = false ∧ (0 : Word).bit 2 = false ∧ deviceTimeStarts1.startAllowed = false) ∧
    (z.passes (.bureau : Req) pTime 80 = true ∧ (0x302 : Word).bit 0 = false ∧ (0x302 : Word).bit 2 = false ∧ z.startAllowed = true) ∧
    (armed.passes (.bureau : Req) pTime 80 = true ∧ armed.startAllowed = false) ∧
    ((0x304 : Word).bit 0 = false ∧ (0x304 : Word).bit 1 = false) ∧
    ((0x305 : Word).bit 1 = true ∨ (0x305 : Word).bit 2 = true) ∧
    (deviceTimeStarts2.tb.state = TState.armed ∧ deviceTimeStarts2.tb.loadAt = some 1048699) ∧
    (deviceTimeStarts3.tb.state = TState.held ∧ deviceTimeStarts3.tb.startAt = some 77) ∧
    (((run 7) : State).tb.state = TState.running) ∧
    (deviceTimeStarts4.passes (.bureau : Req) pTime 80 = true ∧ (1 : Word).bit 1 = false ∧ (1 : Word).bit 2 = false ∧ deviceTimeStarts4.startAllowed = true) :=
  ⟨by and_intros <;> decide +kernel, by and_intros <;> decide +kernel, by and_intros <;> decide +kernel, by and_intros <;> decide +kernel, by and_intros <;> decide +kernel, by and_intros <;> decide +kernel, by and_intros <;> decide +kernel, by and_intros <;> decide +kernel, by and_intros <;> decide +kernel⟩

abbrev rootPllAndSysref1 : State := (armed.wr64 pTime 0x48 1048576)
abbrev rootPllAndSysref2 : State := ({armed with tb := {armed.tb with skipLeft := 3}}.wr64 pTime 0x48 1048576)
abbrev rootPllAndSysref3 : State := ({run 100000 with tb := {(run 100000).tb with t0 := 50}}.wrN pTime 0x58 3200)
abbrev rootPllAndSysref4 : State := (z.wr64 pTime 0x48 4096)

/-- The hypotheses of the clauses of RootPllAndSysref are met: a line holds the hypotheses of one clause, but for those an earlier line holds. -/
theorem witness_RootPllAndSysref :
    (z.tb.state = TState.held) ∧
    (rootPllAndSysref1.tb.state = TState.armed ∧ rootPllAndSysref1.tb.loadAt = none) ∧
    (rootPllAndSysref2.tb.state = TState.armed ∧ rootPllAndSysref2.tb.loadAt = none) ∧
    (rootPllAndSysref3.tb.state = TState.running ∧ rootPllAndSysref3.rdN pTime 88 ≠ 0) ∧
    (z.flag pTime 112 1 = false) ∧
    (((z.setFlag pTime 0x70 1 true) : State).flag pTime 112 1 = true) ∧
    (rootPllAndSysref4.passes (.bureau : Req) pTime 80 = true ∧ (0x302 : Word).bit 0 = false ∧ (0x302 : Word).bit 2 = false ∧ rootPllAndSysref4.startAllowed = true) :=
  ⟨by and_intros <;> decide +kernel, by and_intros <;> decide +kernel, by and_intros <;> decide +kernel, by and_intros <;> decide +kernel, by and_intros <;> decide +kernel, by and_intros <;> decide +kernel, by and_intros <;> decide +kernel⟩

/-- The device READY, with device time running. -/
abbrev bz : State := (run 90000).wrN ⟨.dev, 0⟩ 0x4C 2
abbrev own5 : State := {({bz with partState := [(5, .running), (6, .loaded)]}.setFld (cctl 40) 0x28 5 0 5).wr64 (hzn 40) 0x58 90000 with maps := [(1280, ⟨40, false, true⟩)]}
abbrev prt5 : State := {own5 with parts := [(5, {PartCfg.reset with prot := true})]}
abbrev ck0 : Ckpt := ⟨100, 1, [], [], Cab.reset, 3, 50, true, 0, []⟩
abbrev ckp5 : State := {prt5 with ckpts := [(1280, [ck0])], sources := [(512*5+40, {Source.reset with m := 77})]}
abbrev rcv (dst step : Nat) : Recov := ⟨5, 0, 40, dst, 100, step, 77, 80000, 0, [], 9⟩
abbrev rst5 (dst step : Nat) : State := {ckp5 with recov := [rcv dst step], journals := [(1280, ⟨1, [5, 13], 3, 0, true, 0⟩)]}
abbrev fin (dst : Nat) : State := (((rst5 dst 4).setFld (chin 3) 0x28 5 0 5).wrN (hzn dst) 0x40 0x100).wr64 (hzn dst) 0x68 80000
abbrev fio (dst : Nat) : State := (fin dst).wr64 (hzn dst) 0x68 (80000 / ((fin dst).stepQ dst) * (fin dst).stepQ dst)
abbrev deviceTimeStopsAndCopies1 : State := (run 500)
abbrev deviceTimeStopsAndCopies2 : State := ((run 500).setFlag (chin 3) 8 0 true)

/-- The hypotheses of the clauses of DeviceTimeStopsAndCopies are met: a line holds the hypotheses of one clause, but for those an earlier line holds. -/
theorem witness_DeviceTimeStopsAndCopies :
    (deviceTimeStopsAndCopies1.passes (.bureau : Req) pTime 8 = true ∧ deviceTimeStopsAndCopies1.anyPlaced = false ∧ deviceTimeStopsAndCopies1.anyChannel = false) ∧
    (z.passes (.bureau : Req) pTime 8 = true ∧ z.anyPlaced = false ∧ z.anyChannel = false) ∧
    (deviceTimeStopsAndCopies2.passes (.bureau : Req) pTime 8 = true ∧ (deviceTimeStopsAndCopies2.anyPlaced = true ∨ deviceTimeStopsAndCopies2.anyChannel = true)) ∧
    (deviceTimeStopsAndCopies1.tb.state = TState.running) ∧
    ((deviceTimeStopsAndCopies1.dom ((cctl 7) : Page).dom).cur = Pwr.run ∧ (deviceTimeStopsAndCopies1.dom ((cctl 7) : Page).dom).fio = false ∧ (deviceTimeStopsAndCopies1.dom ((cctl 7) : Page).dom).busy = false) :=
  ⟨by and_intros <;> decide +kernel, by and_intros <;> decide +kernel, by and_intros <;> decide +kernel, by and_intros <;> decide +kernel, by and_intros <;> decide +kernel⟩

abbrev triggerInputs1 : State := ((run 5000).wrN pTime 0xA0 1)
abbrev triggerInputs2 : State := ((((run 5000).wrN pTime 0xA0 1).wrN pTime 0xB8 1).wrN pTime 0xA8 4990)
abbrev triggerInputs3 : State := ((run 5000).wrN pTime 0xA0 0x11)
abbrev triggerInputs4 : State := {run 5000 with trigQual := [⟨1,2,false,0⟩,⟨2, 4000, true, 9⟩]}
abbrev triggerInputs5 : State := {run 5000 with trigEvents := [⟨1,2,false,0⟩,⟨2, 4000, true, 9⟩]}
abbrev triggerInputs6 : State := ({z with partState := [(5,.running)]}.wrN pTime 0xD0 5)

/-- The hypotheses of the clauses of TriggerInputs are met: a line holds the hypotheses of one clause, but for those an earlier line holds. -/
theorem witness_TriggerInputs :
    (z.tb.state ≠ TState.running) ∧
    (triggerInputs1.tb.state = TState.running ∧ 1 < 4 ∧ triggerInputs1.flag pTime (128 + 32 * 1) 0 = true ∧ edgeSelected (triggerInputs1.fld pTime (128 + 32 * 1) 2 1) (false : Bool) = true ∧ triggerInputs1.fld pTime (128 + 32 * 1) 7 4 = 0 ∧ triggerInputs1.flag pTime (152 + 32 * 1) 0 = false) ∧
    (triggerInputs2.tb.state = TState.running ∧ triggerInputs2.flag pTime (128 + 32 * 1) 0 = true ∧ edgeSelected (triggerInputs2.fld pTime (128 + 32 * 1) 2 1) (false : Bool) = true ∧ triggerInputs2.fld pTime (128 + 32 * 1) 7 4 = 0 ∧ triggerInputs2.flag pTime (152 + 32 * 1) 0 = true ∧ (↑(triggerInputs2.tb.count + 3 % 16) - ↑(triggerInputs2.fuses.trigInDly 1) - ofBits (triggerInputs2.fld pTime (132 + 32 * 1) 15 0) 16).toNat < triggerInputs2.rd64 pTime (136 + 32 * 1) + 64 ∧ triggerInputs2.ctrFrozen pTime = false) ∧
    (triggerInputs3.tb.state = TState.running ∧ triggerInputs3.flag pTime (128 + 32 * 1) 0 = true ∧ edgeSelected (triggerInputs3.fld pTime (128 + 32 * 1) 2 1) (false : Bool) = true ∧ triggerInputs3.fld pTime (128 + 32 * 1) 7 4 ≠ 0) ∧
    ((⟨2, 4000, true, 9⟩ : TrigEdge).pin < 4 ∧ (List.find? (fun x => decide (x.pin = (⟨2, 4000, true, 9⟩ : TrigEdge).pin)) triggerInputs4.trigQual = some (⟨2, 4000, true, 9⟩ : TrigEdge)) ∧ triggerInputs4.flag pTime (152 + 32 * (⟨2, 4000, true, 9⟩ : TrigEdge).pin) 0 = false) ∧
    (triggerInputs4.ctrFrozen pTime = false) ∧
    ((List.find? (fun x => decide (x.pin = (⟨2, 4000, true, 9⟩ : TrigEdge).pin)) triggerInputs5.trigEvents = some (⟨2, 4000, true, 9⟩ : TrigEdge)) ∧ triggerInputs5.silent (triggerInputs5.fld pTime (144 + 32 * (⟨2, 4000, true, 9⟩ : TrigEdge).pin) 5 0) 352 = false) ∧
    (2 < 4 ∧ z.passes (.bureau : Req) pTime (144 + 32 * 2) = true ∧ z.partStopped (z.fld pTime (144 + 32 * 2) 5 0) = true ∧ z.partStopped ((0xABCD1234 : Word).bits 5 0) = true) ∧
    (triggerInputs6.passes (.bureau : Req) pTime (144 + 32 * 2) = true ∧ triggerInputs6.partStopped (triggerInputs6.fld pTime (144 + 32 * 2) 5 0) = false) ∧
    (isTimer (pTimers : Page) 15 = true ∧ z.reads (.bureau : Req) (pTimers : Page) = true ∧ z.captureQ (pTimers : Page) 15 = []) :=
  ⟨by and_intros <;> decide +kernel, by and_intros <;> decide +kernel, by and_intros <;> decide +kernel, by and_intros <;> decide +kernel, by and_intros <;> decide +kernel, by and_intros <;> decide +kernel, by and_intros <;> decide +kernel, by and_intros <;> decide +kernel, by and_intros <;> decide +kernel, by and_intros <;> decide +kernel⟩

abbrev tm0 : State := ((((run 500).wrN pTimers 0x200 5).wrN pTimers 0x208 1).wrN pTimers 0x204 7).wrN pTimers 0x20C 0
abbrev tm : State := tm0.setTimer pTimers 4 { TimerSt.reset with due := true }
abbrev tmo : State := tm0.wrN pTimers 0x200 0
abbrev timersTickAndReload1 : State := ((((((run 500).wrN (chtmr 3) 0x140 5).wrN (chtmr 3) 0x148 0).wrN (chtmr 3) 0x144 0).wrN (chtmr 3) 0x14C 0).setTimer (chtmr 3) 1 { TimerSt.reset with due := true })
abbrev timersTickAndReload2 : State := ((run 512).wrN pTimers 0x200 0x91)
abbrev timersTickAndReload3 : State := ((run 512).wrN pTimers 0x200 0x151)

/-- The hypotheses of the clauses of TimersTickAndReload are met: a line holds the hypotheses of one clause, but for those an earlier line holds. -/
theorem witness_TimersTickAndReload :
    (tm.ticks (pTimers : Page) 4 = true) ∧
    (((tm.wrN pTimers 0x208 0) : State).ticks (pTimers : Page) 4 = true) ∧
    (timersTickAndReload1.ticks ((chtmr 3) : Page) 1 = true) ∧
    (z.ticks (pTimers : Page) 4 = false) ∧
    (isTimer (pTimers : Page) 4 = true ∧ tm.passes (.bureau : Req) (pTimers : Page) (256 + 64 * 4) = true ∧ ((pTimers : Page).blk = Block.chtmr → 4 = 0 → tm.flag { blk := Block.chin, inst := (pTimers : Page).inst : Page } 136 0 = false) ∧ divLegal ((0x85 : Word).bit 4) ((0x85 : Word).bits 9 5) = true ∧ (tm.timer (pTimers : Page) 4).due = true) ∧
    (tmo.passes (.bureau : Req) (pTimers : Page) (256 + 64 * 4) = true ∧ ((pTimers : Page).blk = Block.chtmr → 4 = 0 → tmo.flag { blk := Block.chin, inst := (pTimers : Page).inst : Page } 136 0 = false) ∧ (tmo.timer (pTimers : Page) 4).due = false ∧ tmo.flag (pTimers : Page) (256 + 64 * 4) 0 = false) ∧
    (tm0.passes (.bureau : Req) (pTimers : Page) (256 + 64 * 4) = true ∧ ((pTimers : Page).blk = Block.chtmr → 4 = 0 → tm0.flag { blk := Block.chin, inst := (pTimers : Page).inst : Page } 136 0 = false) ∧ (tm0.timer (pTimers : Page) 4).due = false) ∧
    (timersTickAndReload2.tb.state = TState.running ∧ timersTickAndReload2.ticking (pTimers : Page) 4 = true ∧ timersTickAndReload2.flag (pTimers : Page) (256 + 64 * 4) 4 = true ∧ (timersTickAndReload2.timer (pTimers : Page) 4).due = false) ∧
    (timersTickAndReload3.tb.state = TState.running ∧ timersTickAndReload3.ticking (pTimers : Page) 4 = true ∧ timersTickAndReload3.flag (pTimers : Page) (256 + 64 * 4) 4 = true ∧ (timersTickAndReload3.timer (pTimers : Page) 4).due = false) :=
  ⟨by and_intros <;> decide +kernel, by and_intros <;> decide +kernel, by and_intros <;> decide +kernel, by and_intros <;> decide +kernel, by and_intros <;> decide +kernel, by and_intros <;> decide +kernel, by and_intros <;> decide +kernel, by and_intros <;> decide +kernel, by and_intros <;> decide +kernel⟩

abbrev captureQueuesHoldFour1 : State := (z.setCaptureQ pTimers 15 [⟨1,1,0⟩,⟨2,1,0⟩,⟨3,1,0⟩,⟨4,1,0⟩])
abbrev captureQueuesHoldFour2 : State := (z.setCaptureQ pTimers 15 [⟨2^33+7,4,0⟩,⟨2,1,0⟩])

/-- The hypotheses of the clauses of CaptureQueuesHoldFour are met: a line holds the hypotheses of one clause, but for those an earlier line holds. -/
theorem witness_CaptureQueuesHoldFour :
    (isTimer ((chtmr 2) : Page) 1 = true ∧ (z.captureQ ((chtmr 2) : Page) 1).length < 4) ∧
    (isTimer (pTimers : Page) 15 = true ∧ 4 ≤ (captureQueuesHoldFour1.captureQ (pTimers : Page) 15).length) ∧
    ((∀ (d : Capture), d ∈ ([⟨9,1,16⟩,⟨5,3,32⟩] : List Capture) → d.edge = (⟨5,4,32⟩ : Capture).edge → d.time < (⟨5,4,32⟩ : Capture).time ∨ d.time = (⟨5,4,32⟩ : Capture).time ∧ d.code ≤ (⟨5,4,32⟩ : Capture).code)) ∧
    ((⟨5,7,32⟩ : Capture).edge = (⟨5,4,32⟩ : Capture).edge ∧ ((⟨5,4,32⟩ : Capture).time < (⟨5,7,32⟩ : Capture).time ∨ (⟨5,4,32⟩ : Capture).time = (⟨5,7,32⟩ : Capture).time ∧ (⟨5,4,32⟩ : Capture).code < (⟨5,7,32⟩ : Capture).code)) ∧
    (captureQueuesHoldFour2.reads (.bureau : Req) (pTimers : Page) = true ∧ captureQueuesHoldFour2.captureQ (pTimers : Page) 15 = (⟨2^33+7,4,0⟩ : Capture) :: ([⟨2,1,0⟩] : List Capture)) ∧
    (z.reads (.bureau : Req) (pTimers : Page) = true ∧ z.captureQ (pTimers : Page) 15 = []) :=
  ⟨by and_intros <;> decide +kernel, by and_intros <;> decide +kernel, by and_intros <;> decide +kernel, by and_intros <;> decide +kernel, by and_intros <;> decide +kernel, by and_intros <;> decide +kernel⟩


/-- The hypotheses of the clauses of WideRegisterWrites are met: a line holds the hypotheses of one clause, but for those an earlier line holds. -/
theorem witness_WideRegisterWrites :
    (isWideWritable (pTime : Page) 0x48 = true ∧ z.passes (.bureau : Req) (pTime : Page) 0x48 = true) ∧
    ((pTime : Page).blk ≠ Block.hzn ∧ z.passes (.bureau : Req) (pTime : Page) (0x48 + 4) = true) :=
  ⟨by and_intros <;> decide +kernel, by and_intros <;> decide +kernel⟩

abbrev lk : State := (((run 5000).wrN (chin 3) 0x44 0x84025).wrN (chin 3) 0x48 8).wrN (chin 3) 0x4C 1000
abbrev lkOn : State := (lk.wrN (chin 3) 0x40 1).setChan 3 { Chan.reset with link := ⟨0x84025, 8, 1000, 0, 0xE4, 100, 1, 0⟩ }
abbrev lkSt (n : Nat) : State := lkOn.wrN (chin 3) 0x58 n
abbrev rd (e inc : Nat) : Arrival := ⟨e, false, ⟨0x1C2, 7, 2, 2, 0, 4, 63, redPayload 5000 2 1 1 4 (inc = 1) false⟩⟩
abbrev receiveLinkControl1 : State := (lk.wrN (chin 3) 0x4C 100)
abbrev receiveLinkControl2 : State := (lkSt 3)
abbrev receiveLinkControl3 : State := {lkSt 3 with tb := z.tb}
abbrev receiveLinkControl4 : State := ((lkSt 3).setFlag (chin 3) 8 0 true)

/-- The hypotheses of the clauses of ReceiveLinkControl are met: a line holds the hypotheses of one clause, but for those an earlier line holds. -/
theorem witness_ReceiveLinkControl :
    (lk.passes (.bureau : Req) (chin 3) 64 = true ∧ lk.linkEn 3 = false ∧ lk.tb.state = TState.running ∧ linkParamFail (lk.rd (chin 3) 68) (lk.rd (chin 3) 72) (lk.fld (chin 3) 76 12 0) = none) ∧
    (receiveLinkControl1.passes (.bureau : Req) (chin 3) 64 = true ∧ receiveLinkControl1.linkEn 3 = false ∧ receiveLinkControl1.tb.state = TState.running ∧ linkParamFail (receiveLinkControl1.rd (chin 3) 68) (receiveLinkControl1.rd (chin 3) 72) (receiveLinkControl1.fld (chin 3) 76 12 0) = some 5) ∧
    (z.passes (.bureau : Req) (chin 3) 64 = true ∧ z.linkEn 3 = false ∧ z.tb.state ≠ TState.running) ∧
    (receiveLinkControl2.passes (.bureau : Req) (chin 3) 64 = true ∧ receiveLinkControl2.linkEn 3 = true ∧ (3 : Word).bit 0 = true ∧ receiveLinkControl2.tb.state = TState.running ∧ linkParamFail (receiveLinkControl2.rd (chin 3) 68) (receiveLinkControl2.rd (chin 3) 72) (receiveLinkControl2.fld (chin 3) 76 12 0) = none) ∧
    (receiveLinkControl3.passes (.bureau : Req) (chin 3) 64 = true ∧ receiveLinkControl3.linkEn 3 = true ∧ receiveLinkControl3.tb.state ≠ TState.running) ∧
    (receiveLinkControl4.passes (.bureau : Req) (chin 3) 64 = true ∧ receiveLinkControl4.linkEn 3 = true) :=
  ⟨by and_intros <;> decide +kernel, by and_intros <;> decide +kernel, by and_intros <;> decide +kernel, by and_intros <;> decide +kernel, by and_intros <;> decide +kernel, by and_intros <;> decide +kernel⟩

abbrev receiveLinkComesUp1 : State := (lkSt 1)
abbrev receiveLinkComesUp2 : State := (((lkSt 2).wrN (chin 3) 0x74 1).wrN (chin 3) 0x68 0xFFFFFFF0)
abbrev receiveLinkComesUp3 : State := ((lkSt 2).wrN (chin 3) 0x58 0x102)
abbrev receiveLinkComesUp4 : List (List Nat) := [[0,0,0,0,1,8,0,15,47,32,0,0,0,41]]
abbrev receiveLinkComesUp5 : List (List Nat) := [[0,0,0,0,1,8,0,15,32,32,0,0,0,9]]
abbrev receiveLinkComesUp6 : State := (lkSt 4)
abbrev receiveLinkComesUp7 : State := ((lkSt 4).wrN (chin 3) 0x4C 100)
abbrev receiveLinkComesUp8 : State := (((lkSt 2).wrN (chin 3) 0x58 0x102).setChan 3 {(lkSt 2).chan 3 with ilasOk := true})

/-- The hypotheses of the clauses of ReceiveLinkComesUp are met: a line holds the hypotheses of one clause, but for those an earlier line holds. -/
theorem witness_ReceiveLinkComesUp :
    (receiveLinkComesUp1.linkEn 3 = true ∧ receiveLinkComesUp1.linkSt 3 = 1) ∧
    (receiveLinkComesUp2.tb.state = TState.running ∧ receiveLinkComesUp2.linkSt 3 = 2 ∧ cfgSub (receiveLinkComesUp2.chan 3).link.cfg0 = 1 ∧ receiveLinkComesUp2.flag (chin 3) 88 8 = false ∧ receiveLinkComesUp2.flag (chin 3) 116 0 = true) ∧
    (receiveLinkComesUp3.linkSt 3 = 2 ∧ cfgMode (receiveLinkComesUp3.chan 3).link.cfg0 = 1 ∧ (cfgSub (receiveLinkComesUp3.chan 3).link.cfg0 = 0 ∨ receiveLinkComesUp3.flag (chin 3) 88 8 = true) ∧ ilasFail (receiveLinkComesUp3.chan 3).link receiveLinkComesUp4 = none) ∧
    (ilasFail (receiveLinkComesUp3.chan 3).link receiveLinkComesUp5 = some (0, 8)) ∧
    (receiveLinkComesUp6.linkEn 3 = true ∧ receiveLinkComesUp6.linkSt 3 = 4 ∧ linkParamFail (receiveLinkComesUp6.rd (chin 3) 68) (receiveLinkComesUp6.rd (chin 3) 72) (receiveLinkComesUp6.fld (chin 3) 76 12 0) = none) ∧
    (receiveLinkComesUp7.linkEn 3 = true ∧ receiveLinkComesUp7.linkSt 3 = 4 ∧ linkParamFail (receiveLinkComesUp7.rd (chin 3) 68) (receiveLinkComesUp7.rd (chin 3) 72) (receiveLinkComesUp7.fld (chin 3) 76 12 0) = some 5) ∧
    (receiveLinkComesUp8.tb.state = TState.running ∧ receiveLinkComesUp8.linkSt 3 = 2 ∧ (cfgMode (receiveLinkComesUp8.chan 3).link.cfg0 = 1 → (receiveLinkComesUp8.chan 3).ilasOk = true) ∧ (cfgSub (receiveLinkComesUp8.chan 3).link.cfg0 = 1 → receiveLinkComesUp8.flag (chin 3) 88 8 = true)) :=
  ⟨by and_intros <;> decide +kernel, by and_intros <;> decide +kernel, by and_intros <;> decide +kernel, by and_intros <;> decide +kernel, by and_intros <;> decide +kernel, by and_intros <;> decide +kernel, by and_intros <;> decide +kernel⟩

abbrev lk2 (n : Nat) : State := (lkOn.wrN (chin 3) 0x58 n).setChan 3 { Chan.reset with link := ⟨0x84026, 8, 1000, 0, 0xE4, 100, 1, 0⟩ }
abbrev receiveLinkErrors1 : State := ((lkSt 3).setFlag (chin 3) 0x40 2 true)
abbrev receiveLinkErrors2 : State := ((lk2 3))
abbrev receiveLinkErrors3 : State := (lkSt 3)
abbrev receiveLinkErrors4 : State := (lk2 3)

/-- The hypotheses of the clauses of ReceiveLinkErrors are met: a line holds the hypotheses of one clause, but for those an earlier line holds. -/
theorem witness_ReceiveLinkErrors :
    (receiveLinkErrors1.linkEn 3 = true ∧ 0 < cfgL (receiveLinkErrors1.chan 3).link.cfg0 ∧ cfgMode (receiveLinkErrors1.chan 3).link.cfg0 = 1 ∧ receiveLinkErrors1.ctrFrozen (chin 3) = false) ∧
    (receiveLinkErrors2.linkEn 3 = true ∧ 0 < cfgL (receiveLinkErrors2.chan 3).link.cfg0 ∧ cfgMode (receiveLinkErrors2.chan 3).link.cfg0 = 2 ∧ receiveLinkErrors2.ctrFrozen (chin 3) = false) ∧
    (receiveLinkErrors3.linkEn 3 = true ∧ 2 ≤ receiveLinkErrors3.linkSt 3 ∧ cfgMode (receiveLinkErrors3.chan 3).link.cfg0 = 1) ∧
    (receiveLinkErrors4.linkEn 3 = true ∧ 2 ≤ receiveLinkErrors4.linkSt 3 ∧ cfgMode (receiveLinkErrors4.chan 3).link.cfg0 = 2) :=
  ⟨by and_intros <;> decide +kernel, by and_intros <;> decide +kernel, by and_intros <;> decide +kernel, by and_intros <;> decide +kernel⟩

abbrev lkReady : State := { lkSt 3 with synced := [(295, true)] }
abbrev f (b lo v : Nat) : Nat := v * 2^(8*b+lo)
abbrev base (op : Nat) : Nat := f 8 0 op + f 12 31 1
abbrev stampingAndGaps1 : State := ({lkReady with chans := [(3, {lkReady.chan 3 with gap := some ⟨2,none⟩, tLast := some 77})]}.setFlag (chin 3) 0x88 0 true)
abbrev stampingAndGaps2 : State := (((lkSt 3).wrN (chin 3) 0x74 2).wrN (chin 3) 0x58 0x103)
abbrev stampingAndGaps3 : State := (((lkSt 3).wrN (chin 3) 0x74 6).wrN (chin 3) 0x58 0x103)
abbrev stampingAndGaps4 : State := ({(((lkSt 3).wrN (chin 3) 0x74 2).wrN (chin 3) 0x58 0x103) with tb := {(run 4500).tb with count := 4500}})
abbrev stampingAndGaps5 : State := ({ (z.setFlag (chin 3) 8 0 true).wrN (chin 3) 0x28 2 with partState := [(2,.running)] })
abbrev stampingAndGaps6 : State := (lkSt 3)
abbrev stampingAndGaps7 : RegRow := ((findRow .chin 0x44).get (by decide))
abbrev stampingAndGaps8 : State := ({lkReady with chans := [(3, {lkReady.chan 3 with gap := some ⟨2,none⟩, tLast := some 77, fifo := { lkReady.chan 3 |>.fifo with cur := some ⟨1,1,0,[],8,2,false,false⟩}})]}.setFlag (chin 3) 0x88 0 true |>.setFlag (chin 3) 8 0 true)

/-- The hypotheses of the clauses of StampingAndGaps are met: a line holds the hypotheses of one clause, but for those an earlier line holds. -/
theorem witness_StampingAndGaps :
    (lkReady.ready (chin 3) = true ∧ lkReady.linkSt 3 = 3) ∧
    (stampingAndGaps1.ready (chin 3) = true ∧ stampingAndGaps1.linkSt 3 = 3) ∧
    (stampingAndGaps2.tb.state = TState.running ∧ (stampingAndGaps2.linkSt 3 = 3 ∨ stampingAndGaps2.linkSt 3 = 2) ∧ stampingAndGaps2.flag (chin 3) 88 8 = true ∧ cfgSub (stampingAndGaps2.chan 3).link.cfg0 = 1 ∧ stampingAndGaps2.flag (chin 3) 116 1 = true ∧ (divr ((↑(stampingAndGaps2.chanSysref 3 5) - ↑(stampingAndGaps2.chan 3).base) * ↑(stampingAndGaps2.chan 3).link.den) ((stampingAndGaps2.chan 3).link.num * cfgS (stampingAndGaps2.chan 3).link.cfg0)).toNat * cfgS (stampingAndGaps2.chan 3).link.cfg0 % lmfcSamples (stampingAndGaps2.chan 3).link ≠ 0) ∧
    (stampingAndGaps3.tb.state = TState.running ∧ (stampingAndGaps3.linkSt 3 = 3 ∨ stampingAndGaps3.linkSt 3 = 2) ∧ stampingAndGaps3.flag (chin 3) 88 8 = true ∧ cfgSub (stampingAndGaps3.chan 3).link.cfg0 = 1 ∧ stampingAndGaps3.flag (chin 3) 116 1 = true ∧ (divr ((↑(stampingAndGaps3.chanSysref 3 5) - ↑(stampingAndGaps3.chan 3).base) * ↑(stampingAndGaps3.chan 3).link.den) ((stampingAndGaps3.chan 3).link.num * cfgS (stampingAndGaps3.chan 3).link.cfg0)).toNat * cfgS (stampingAndGaps3.chan 3).link.cfg0 % lmfcSamples (stampingAndGaps3.chan 3).link ≠ 0) ∧
    (stampingAndGaps4.tb.state = TState.running ∧ (stampingAndGaps4.linkSt 3 = 3 ∨ stampingAndGaps4.linkSt 3 = 2) ∧ stampingAndGaps4.flag (chin 3) 88 8 = true ∧ cfgSub (stampingAndGaps4.chan 3).link.cfg0 = 1 ∧ stampingAndGaps4.flag (chin 3) 116 1 = true ∧ (divr ((↑(stampingAndGaps4.chanSysref 3 5) - ↑(stampingAndGaps4.chan 3).base) * ↑(stampingAndGaps4.chan 3).link.den) ((stampingAndGaps4.chan 3).link.num * cfgS (stampingAndGaps4.chan 3).link.cfg0)).toNat * cfgS (stampingAndGaps4.chan 3).link.cfg0 % lmfcSamples (stampingAndGaps4.chan 3).link = 0) ∧
    (stampingAndGaps5.passes (.bureau : Req) (chin 3) 104 = true ∧ stampingAndGaps5.chanOn 3 = true ∧ stampingAndGaps5.partStopped (stampingAndGaps5.owner (chin 3)) = false) ∧
    (stampingAndGaps6.passes (.bureau : Req) (chin 3) 104 = true ∧ (stampingAndGaps6.chanOn 3 = false ∨ stampingAndGaps6.partStopped (stampingAndGaps6.owner (chin 3)) = true)) ∧
    (isLinkReg 0x44 = true ∧ stampingAndGaps6.passes (.bureau : Req) (chin 3) 0x44 = true ∧ stampingAndGaps6.legacy = false ∧ findRow Block.chin 0x44 = some stampingAndGaps7) ∧
    ((stampingAndGaps8.chan 3).gap = some { cause := 2, start := none : Gap } ∧ (stampingAndGaps8.chan 3).tLast = some 77 ∧ stampingAndGaps8.chanOn 3 = true ∧ stampingAndGaps8.flag (chin 3) 136 0 = true ∧ 77 + (stampingAndGaps8.chan 3).tGap + stampingAndGaps8.fld (chin 3) 112 15 0 ≤ stampingAndGaps8.now ∧ stampingAndGaps8.ctrFrozen (chin 3) = false) ∧
    (stampingAndGaps6.awake (chin 3) = true ∧ stampingAndGaps6.ready (chin 3) = false ∧ stampingAndGaps6.linkSt 3 = 3) :=
  ⟨by and_intros <;> decide +kernel, by and_intros <;> decide +kernel, by and_intros <;> decide +kernel, by and_intros <;> decide +kernel, by and_intros <;> decide +kernel, by and_intros <;> decide +kernel, by and_intros <;> decide +kernel, by and_intros <;> decide +kernel, by and_intros <;> decide +kernel, by and_intros <;> decide +kernel⟩

abbrev ff (l : List FifoRec) : State := z.setChan 3 { Chan.reset with fifo := { Chan.reset.fifo with recs := l, cur := some ⟨1,1,0,[],8,2,false,false⟩ } }
abbrev sampleFifoReader1 : State := (ff [⟨[2^40+5,7],1,0,0⟩,⟨[1],1,0,0⟩])
abbrev sampleFifoReader2 : State := (ff [⟨[2^40+5],1,0,0⟩,⟨[1],1,0,0⟩])
abbrev sampleFifoReader3 : State := (z.setFlag (chin 3) 0x90 2 true)
abbrev sampleFifoReader4 : State := ((ff [⟨[2^40+5],1,0,0⟩,⟨[1],1,0,0⟩]).wrN (chin 3) 0x90 2)

/-- The hypotheses of the clauses of SampleFifoReader are met: a line holds the hypotheses of one clause, but for those an earlier line holds. -/
theorem witness_SampleFifoReader :
    (sampleFifoReader1.reads (.bureau : Req) (chin 3) = true ∧ sampleFifoReader1.flag (chin 3) 144 2 = false ∧ (sampleFifoReader1.chan 3).fifo.recs = (⟨[2^40+5,7],1,0,0⟩ : FifoRec) :: ([⟨[1],1,0,0⟩] : List FifoRec) ∧ (⟨[2^40+5,7],1,0,0⟩ : FifoRec).words = ((2^40+5) : Nat) :: ([7] : List Nat)) ∧
    (sampleFifoReader2.reads (.bureau : Req) (chin 3) = true ∧ sampleFifoReader2.flag (chin 3) 144 2 = false ∧ (sampleFifoReader2.chan 3).fifo.recs = (⟨[2^40+5],1,0,0⟩ : FifoRec) :: ([⟨[1],1,0,0⟩] : List FifoRec) ∧ (⟨[2^40+5],1,0,0⟩ : FifoRec).words = ((2^40+5) : Nat) :: ([] : List Nat)) ∧
    (z.reads (.bureau : Req) (chin 3) = true ∧ z.flag (chin 3) 144 2 = false ∧ (z.chan 3).fifo.recs = []) ∧
    (sampleFifoReader3.reads (.bureau : Req) (chin 3) = true ∧ sampleFifoReader3.flag (chin 3) 144 2 = true) ∧
    (sampleFifoReader2.passes (.bureau : Req) (chin 3) 164 = true) ∧
    (sampleFifoReader4.passes (.bureau : Req) (chin 3) 164 = true ∧ sampleFifoReader4.fld (chin 3) 144 1 0 = 2) ∧
    (sampleFifoReader2.passes (.bureau : Req) (chin 3) 152 = true) :=
  ⟨by and_intros <;> decide +kernel, by and_intros <;> decide +kernel, by and_intros <;> decide +kernel, by and_intros <;> decide +kernel, by and_intros <;> decide +kernel, by and_intros <;> decide +kernel, by and_intros <;> decide +kernel⟩

abbrev channelEnableAndDisable1 : State := { (z).wrN (chin 3) 0x28 2 with partState := [(2,.running)] }
abbrev channelEnableAndDisable2 : State := { (z.setFlag (chin 3) 8 0 true).wrN (chin 3) 0x28 2 with partState := [(2,.running)] }
abbrev channelEnableAndDisable3 : State := (z.setFlag (chin 3) 8 0 true)

/-- The hypotheses of the clauses of ChannelEnableAndDisable are met: a line holds the hypotheses of one clause, but for those an earlier line holds. -/
theorem witness_ChannelEnableAndDisable :
    (channelEnableAndDisable1.passes (.bureau : Req) (chin 3) 8 = true ∧ channelEnableAndDisable1.partStopped (channelEnableAndDisable1.owner (chin 3)) = false ∧ channelEnableAndDisable1.chanOn 3 = false) ∧
    (channelEnableAndDisable2.passes (.bureau : Req) (chin 3) 8 = true ∧ channelEnableAndDisable2.partStopped (channelEnableAndDisable2.owner (chin 3)) = false ∧ channelEnableAndDisable2.chanOn 3 = true) ∧
    (channelEnableAndDisable3.passes (.bureau : Req) (chin 3) 8 = true ∧ channelEnableAndDisable3.partStopped (channelEnableAndDisable3.owner (chin 3)) = true ∧ channelEnableAndDisable3.chanOn 3 = true) :=
  ⟨by and_intros <;> decide +kernel, by and_intros <;> decide +kernel, by and_intros <;> decide +kernel⟩

abbrev fo : Formed := ⟨100, encSource 3 0 0 0, 0, 0, 5, none⟩
abbrev u0 : EncUnit := ⟨1, 0x10000, 0, 0, 0, [], 0, 0, 0, 0, 0, none, none, 0, 0, 0⟩
abbrev er (b : Nat) : State := ((({ lkReady with chans := [(3, { lkReady.chan 3 with formed := [fo], projs := [0x80000102], units := [{u0 with proj := BitVec.ofNat 32 (b*65536)}] })], maps := [(256*2+2, ⟨40,false,true⟩)], partState := [(2,.running)] }).wrN (chin 3) 0x28 2))
abbrev encoderEventsAreReleased1 : State := (er 1)
abbrev encoderEventsAreReleased2 : State := (er 0)

/-- The hypotheses of the clauses of EncoderEventsAreReleased are met: a line holds the hypotheses of one clause, but for those an earlier line holds. -/
theorem witness_EncoderEventsAreReleased :
    (releaseOrder (encoderEventsAreReleased1.chan 3).formed = fo :: ([] : List Formed) ∧ encoderEventsAreReleased1.ready (chin 3) = true ∧ fo.time + encoderEventsAreReleased1.encLat 3 + encoderEventsAreReleased1.pairHold 3 ≤ encoderEventsAreReleased1.now ∧ fo.unit < 8 ∧ encoderEventsAreReleased1.ctrFrozen (chenc 3) = false ∧ (encoderEventsAreReleased1.chan 3).budgetOk fo = true ∧ encoderEventsAreReleased1.flag (chin 3) 416 0 = false ∧ encoderEventsAreReleased1.silent (encoderEventsAreReleased1.owner (chin 3)) (288 + 3) = false ∧ (encoderEventsAreReleased1.chan 3).entries fo = [(0x80000102 : Word)] ∧ (0x80000102 : Word).bit 31 = true ∧ (encoderEventsAreReleased1.mapEntryAt (288 + 3) (encoderEventsAreReleased1.owner (chin 3)) ((0x80000102 : Word).bits 7 0)).valid = true ∧ (encoderEventsAreReleased1.mapEntryAt (288 + 3) (encoderEventsAreReleased1.owner (chin 3)) ((0x80000102 : Word).bits 7 0)).parked = false) ∧
    (releaseOrder (encoderEventsAreReleased2.chan 3).formed = fo :: ([] : List Formed) ∧ encoderEventsAreReleased2.ready (chin 3) = true ∧ fo.time + encoderEventsAreReleased2.encLat 3 + encoderEventsAreReleased2.pairHold 3 ≤ encoderEventsAreReleased2.now ∧ encoderEventsAreReleased2.ctrFrozen (chenc 3) = false ∧ (encoderEventsAreReleased2.chan 3).budgetOk fo = false) :=
  ⟨by and_intros <;> decide +kernel, by and_intros <;> decide +kernel⟩

abbrev pr : State := (((run 8192).wrN (chin 3) 0x1A0 1).setFlag (chin 3) 8 0 true)
abbrev pf : Flit := ⟨0x123, 0x12b, 2, 0, 0, 5, 0, 0x10 * 2^120 + 7*2^72 + 2^71 + 9*2^32⟩
abbrev win (off : Nat) (inc : Nat) : State := z.wrN (drw 7 1) 0x68 (off + inc * 2^31)
abbrev channelDmaPairsAndTransmit1 : State := (((ff [⟨[2^40+5],1,0,0⟩,⟨[1],1,0,0⟩]).wrN (chin 3) 0x90 4).wrN (chin 3) 0xC8 6)
abbrev channelDmaPairsAndTransmit2 : State := {pr with inbox := [⟨0x123,false,pf⟩]}
abbrev channelDmaPairsAndTransmit3 : State := ({pr with tb := {pr.tb with count := 90000}}.setChan 3 {Chan.reset with formed := [⟨4100,1,8,0,0,none⟩], wins := [⟨1,false,true,0,true,5,some (false,5),none⟩]})
abbrev channelDmaPairsAndTransmit4 : State := (run 6)
abbrev channelDmaPairsAndTransmit5 : State := (((lk.wrN (chin 3) 0x184 0x84026).wrN (chin 3) 0x188 8))
abbrev channelDmaPairsAndTransmit6 : State := (((lk.wrN (chin 3) 0x184 0x84026).wrN (chin 3) 0x188 9))
abbrev channelDmaPairsAndTransmit7 : State := ((((run 600).wrN (chin 3) 0x180 1).wrN (chin 3) 0x198 1).setChan 3 {Chan.reset with tx := {Chan.reset.tx with cfg0 := 0x84022}})
abbrev channelDmaPairsAndTransmit8 : State := (((run 600).wrN (chin 3) 0x198 2))

/-- The hypotheses of the clauses of ChannelDmaPairsAndTransmit are met: a line holds the hypotheses of one clause, but for those an earlier line holds. -/
theorem witness_ChannelDmaPairsAndTransmit :
    ((channelDmaPairsAndTransmit1.chan 3).fifo.recs = (⟨[2^40+5],1,0,0⟩ : FifoRec) :: ([⟨[1],1,0,0⟩] : List FifoRec) ∧ channelDmaPairsAndTransmit1.flag (chin 3) 144 2 = true ∧ (channelDmaPairsAndTransmit1.chan 3).fifo.atBoundary = true ∧ (channelDmaPairsAndTransmit1.chan 3).fifo.afterFalse = false ∧ ringUsed (2 ^ channelDmaPairsAndTransmit1.fld (chin 3) 200 4 0) (channelDmaPairsAndTransmit1.rdN (chin 3) 204) (channelDmaPairsAndTransmit1.rdN (chin 3) 208) + 8 * ((⟨[2^40+5],1,0,0⟩ : FifoRec).words.length + 1) < 2 ^ channelDmaPairsAndTransmit1.fld (chin 3) 200 4 0) ∧
    (pr.chanOn 3 = true ∧ pr.flag (chin 3) 416 0 = true ∧ 4096 * (1 + 1) ≤ pr.now ∧ ((pr.chan 3).win 1).sent = false) ∧
    ((List.find? (fun a => decide (a.dest = 288 + 3) && decide (a.flit = pf)) channelDmaPairsAndTransmit2.inbox = some (⟨0x123,false,pf⟩ : Arrival)) ∧ pf.kind = 5 ∧ nb pf.payload 127 120 = 16) ∧
    (channelDmaPairsAndTransmit3.chanOn 3 = true ∧ channelDmaPairsAndTransmit3.flag (chin 3) 416 0 = true ∧ (((channelDmaPairsAndTransmit3.chan 3).formed.any fun f => decide (f.time / 4096 = 1) && decide (f.time + channelDmaPairsAndTransmit3.encLat 3 + channelDmaPairsAndTransmit3.pairHold 3 ≤ channelDmaPairsAndTransmit3.now)) = true) ∧ ((channelDmaPairsAndTransmit3.chan 3).win 1).deliver = none ∧ ((channelDmaPairsAndTransmit3.chan 3).win 1).sent = true) ∧
    (channelDmaPairsAndTransmit4.passes (.bureau : Req) (chin 3) 384 = true ∧ channelDmaPairsAndTransmit4.flag (chin 3) 384 0 = false ∧ channelDmaPairsAndTransmit4.tb.state = TState.running) ∧
    (channelDmaPairsAndTransmit5.passes (.bureau : Req) (chin 3) 384 = true ∧ channelDmaPairsAndTransmit5.flag (chin 3) 384 0 = false ∧ channelDmaPairsAndTransmit5.tb.state = TState.running) ∧
    (channelDmaPairsAndTransmit6.passes (.bureau : Req) (chin 3) 384 = true ∧ channelDmaPairsAndTransmit6.flag (chin 3) 384 0 = false ∧ channelDmaPairsAndTransmit6.tb.state = TState.running) ∧
    (z.passes (.bureau : Req) (chin 3) 384 = true ∧ z.flag (chin 3) 384 0 = false ∧ z.tb.state ≠ TState.running) ∧
    (channelDmaPairsAndTransmit7.tb.state = TState.running ∧ (channelDmaPairsAndTransmit7.dom (292 + 3)).cur = Pwr.run ∧ channelDmaPairsAndTransmit7.flag (chin 3) 384 0 = true ∧ cfgMode (channelDmaPairsAndTransmit7.chan 3).tx.cfg0 = 2 ∧ channelDmaPairsAndTransmit7.fld (chin 3) 408 1 0 = 1 ∧ (cfgSub (channelDmaPairsAndTransmit7.chan 3).tx.cfg0 = 1 → channelDmaPairsAndTransmit7.flag (chin 3) 116 0 = true)) ∧
    (channelDmaPairsAndTransmit8.fld (chin 3) 408 1 0 = 2 ∧ stamp (↑(channelDmaPairsAndTransmit8.chan 3).tx.base + ofBits (channelDmaPairsAndTransmit8.rdN (chin 3) 396) 32) (channelDmaPairsAndTransmit8.chan 3).tx.num (channelDmaPairsAndTransmit8.chan 3).tx.den (channelDmaPairsAndTransmit8.chan 3).tx.j ≤ ↑channelDmaPairsAndTransmit8.now + 4096) :=
  ⟨by and_intros <;> decide +kernel, by and_intros <;> decide +kernel, by and_intros <;> decide +kernel, by and_intros <;> decide +kernel, by and_intros <;> decide +kernel, by and_intros <;> decide +kernel, by and_intros <;> decide +kernel, by and_intros <;> decide +kernel, by and_intros <;> decide +kernel, by and_intros <;> decide +kernel⟩

abbrev atHop (p port : Nat) (f : Flit) : State := { run 9000 with net := [⟨p, port, false, true, .ev f, false, none, 9000, 9000⟩] }
abbrev ef (dest kind tag seq : Nat) : Flit := ⟨dest, 5, 0, 0, seq, kind, tag, 0⟩
abbrev tkn (f : Flit) : State := { (run 9000).wrN (rtr 7) 0x10C 1 with net := [⟨7, 2, false, true, .ev f, true, none, 9000, 9000⟩] }
abbrev tkh (f : Flit) : Hop := ⟨7, 2, false, true, .ev f, true, none, 9000, 9000⟩
abbrev routerTakesEventFlits1 : State := (atHop 7 2 (ef 7 0 1 0))
abbrev routerTakesEventFlits2 : Hop := ⟨7,2,false,true,.ev (ef 7 0 1 0),false,none,9000,9000⟩
abbrev routerTakesEventFlits3 : State := (atHop 7 2 (ef 40 0 1 0))
abbrev routerTakesEventFlits4 : Hop := ⟨7,2,false,true,.ev (ef 40 0 1 0),false,none,9000,9000⟩
abbrev routerTakesEventFlits5 : State := (tkn {ef 40 0 1 0 with vc := 2})
abbrev routerTakesEventFlits6 : State := (tkn {ef 40 0 1 0 with key := 3})
abbrev routerTakesEventFlits7 : Hop := (tkh {ef 40 0 1 0 with key := 3})
abbrev routerTakesEventFlits8 : State := (atHop 7 2 (ef 9 0 1 0))
abbrev routerTakesEventFlits9 : State := ((atHop 7 2 {ef 9 0 1 0 with key := 3}).wrN (rtr 7) 0x90 0)
abbrev routerTakesEventFlits10 : Hop := ⟨7,2,false,true,.ev ({ef 9 0 1 0 with key := 3}),false,none,9000,9000⟩
abbrev routerTakesEventFlits11 : State := (atHop 7 2 (ef 9 0 63 0))
abbrev routerTakesEventFlits12 : Hop := ⟨7,2,false,true,.ev (ef 9 0 63 0),false,none,9000,9000⟩

/-- The hypotheses of the clauses of RouterTakesEventFlits are met: a line holds the hypotheses of one clause, but for those an earlier line holds. -/
theorem witness_RouterTakesEventFlits :
    ((routerTakesEventFlits1.dom 3).cur = Pwr.run ∧ routerTakesEventFlits1.boot.off = false ∧ routerTakesEventFlits1.hopAt 7 2 (AnyFlit.ev ((ef 7 0 1 0) : Flit)) = some routerTakesEventFlits2 ∧ routerTakesEventFlits2.taken = false ∧ routerTakesEventFlits1.mayTake routerTakesEventFlits2 = true ∧ routerTakesEventFlits1.keyAllowed 7 2 ((ef 7 0 1 0) : Flit).key false = true ∧ ((ef 7 0 1 0) : Flit).kind ≠ 3 ∧ ((ef 7 0 1 0) : Flit).kind ≠ 4 ∧ ((ef 7 0 1 0) : Flit).tag < 63 ∧ routerTakesEventFlits2.out = none ∧ 7 < 288 ∧ ((ef 7 0 1 0) : Flit).dest < 288 ∧ (((ef 7 0 1 0) : Flit).dest = 7 → routerTakesEventFlits1.fuses.posEn.testBit 7 = true ∧ routerTakesEventFlits1.fwdOn 7 = false)) ∧
    ((routerTakesEventFlits3.dom 3).cur = Pwr.run ∧ routerTakesEventFlits3.boot.off = false ∧ routerTakesEventFlits3.hopAt 7 2 (AnyFlit.ev ((ef 40 0 1 0) : Flit)) = some routerTakesEventFlits4 ∧ routerTakesEventFlits4.taken = false ∧ routerTakesEventFlits3.mayTake routerTakesEventFlits4 = true ∧ routerTakesEventFlits3.keyAllowed 7 2 ((ef 40 0 1 0) : Flit).key false = true ∧ ((ef 40 0 1 0) : Flit).kind ≠ 3 ∧ ((ef 40 0 1 0) : Flit).kind ≠ 4 ∧ ((ef 40 0 1 0) : Flit).tag < 63 ∧ routerTakesEventFlits4.out = none ∧ ((ef 40 0 1 0) : Flit).dest < 288 ∧ (((ef 40 0 1 0) : Flit).dest = 7 → routerTakesEventFlits3.fuses.posEn.testBit 7 = true ∧ routerTakesEventFlits3.fwdOn 7 = false)) ∧
    ((∃ h, h ∈ routerTakesEventFlits5.readyAt 7 4 0 (false : Bool) ∧ (false : Bool) = false ∧ h.vc = 2)) ∧
    (routerTakesEventFlits6.arbitrate 7 4 0 (false : Bool) = some (routerTakesEventFlits7, some false)) ∧
    (((tkn (ef 40 0 1 0)) : State).arbitrate 7 4 0 (false : Bool) = some (((tkh (ef 40 0 1 0)) : Hop), some true)) ∧
    ((routerTakesEventFlits8.dom 3).cur = Pwr.run ∧ routerTakesEventFlits8.boot.off = false ∧ 5 ≠ (AnyFlit.ev ((ef 9 0 1 0) : Flit)).crc ∧ (∀ (h : Hop), routerTakesEventFlits8.hopAt 7 2 (AnyFlit.ev ((ef 9 0 1 0) : Flit)) = some h → h.taken = false)) ∧
    ((routerTakesEventFlits9.dom 3).cur = Pwr.run ∧ routerTakesEventFlits9.boot.off = false ∧ routerTakesEventFlits9.hopAt 7 2 (AnyFlit.ev ({ef 9 0 1 0 with key := 3} : Flit)) = some routerTakesEventFlits10 ∧ routerTakesEventFlits10.taken = false ∧ routerTakesEventFlits9.mayTake routerTakesEventFlits10 = true ∧ routerTakesEventFlits9.keyAllowed 7 2 ({ef 9 0 1 0 with key := 3} : Flit).key false = false) ∧
    ((routerTakesEventFlits11.dom 3).cur = Pwr.run ∧ routerTakesEventFlits11.boot.off = false ∧ routerTakesEventFlits11.hopAt 7 2 (AnyFlit.ev ((ef 9 0 63 0) : Flit)) = some routerTakesEventFlits12 ∧ routerTakesEventFlits12.taken = false ∧ routerTakesEventFlits11.mayTake routerTakesEventFlits12 = true ∧ routerTakesEventFlits11.keyAllowed 7 2 ((ef 9 0 63 0) : Flit).key false = true ∧ ((ef 9 0 63 0) : Flit).kind ≠ 3 ∧ ((ef 9 0 63 0) : Flit).kind ≠ 4 ∧ 63 ≤ ((ef 9 0 63 0) : Flit).tag) :=
  ⟨by and_intros <;> decide +kernel, by and_intros <;> decide +kernel, by and_intros <;> decide +kernel, by and_intros <;> decide +kernel, by and_intros <;> decide +kernel, by and_intros <;> decide +kernel, by and_intros <;> decide +kernel, by and_intros <;> decide +kernel⟩

abbrev rt8 : State := (run 9000).setLinkAt (linkKey 7 2 0 false) { Link.reset with retries := 8 }
abbrev linksEscapeAndForwarding1 : State := { run 9000 with net := [⟨7,2,false,true,.ev (ef 9 0 1 0),true,none,0,0⟩] }
abbrev linksEscapeAndForwarding2 : Hop := ⟨7,2,false,true,.ev (ef 9 0 1 0),true,none,0,0⟩
abbrev linksEscapeAndForwarding3 : State := (((run 9000).wrN (rtr 7) 0x58 0x80010123))
abbrev linksEscapeAndForwarding4 : State := (((run 9000).wrN (rtr 7) 0x58 0x8FFF0123))

/-- The hypotheses of the clauses of LinksEscapeAndForwarding are met: a line holds the hypotheses of one clause, but for those an earlier line holds. -/
theorem witness_LinksEscapeAndForwarding :
    (2 < 5 ∧ 8 ≤ (rt8.link (linkKey 7 2 0 (false : Bool))).retries) ∧
    (((rt8.setLink 7 2 false 0) : State).ownLink 7 2 (false : Bool) = 0) ∧
    ((List.find? (fun h => decide (h.pos = 7) && decide (h.port = 2) && decide (h.flit = ((.ev (ef 9 0 1 0)) : AnyFlit)) && h.mayEscape) linksEscapeAndForwarding1.net = some linksEscapeAndForwarding2) ∧ linksEscapeAndForwarding1.atHead linksEscapeAndForwarding2 = true ∧ linksEscapeAndForwarding2.head + 8192 ≤ linksEscapeAndForwarding1.now ∧ linksEscapeAndForwarding1.credit 7 (linksEscapeAndForwarding1.wants { pos := linksEscapeAndForwarding2.pos, port := linksEscapeAndForwarding2.port, esc := true, xy := linksEscapeAndForwarding2.xy, flit := linksEscapeAndForwarding2.flit, taken := linksEscapeAndForwarding2.taken, out := linksEscapeAndForwarding2.out, came := linksEscapeAndForwarding2.came, head := linksEscapeAndForwarding1.now : Hop }) { pos := linksEscapeAndForwarding2.pos, port := linksEscapeAndForwarding2.port, esc := true, xy := linksEscapeAndForwarding2.xy, flit := linksEscapeAndForwarding2.flit, taken := linksEscapeAndForwarding2.taken, out := linksEscapeAndForwarding2.out, came := linksEscapeAndForwarding2.came, head := linksEscapeAndForwarding1.now : Hop } = true ∧ linksEscapeAndForwarding1.ctrFrozen (rtr 7) = false) ∧
    (linksEscapeAndForwarding3.flag (rtr 7) 88 31 = true ∧ linksEscapeAndForwarding3.fwdLeft 7 = 0) ∧
    (linksEscapeAndForwarding4.flag (rtr 7) 88 31 = true ∧ 0 < linksEscapeAndForwarding4.fwdLeft 7) :=
  ⟨by and_intros <;> decide +kernel, by and_intros <;> decide +kernel, by and_intros <;> decide +kernel, by and_intros <;> decide +kernel, by and_intros <;> decide +kernel⟩

abbrev arr (e : Nat) (f : Flit) : State := { run 9000 with arrivals := [⟨e, false, f⟩] }
abbrev robT : State := { run 9000000 with robs := [(7, [⟨ef 7 1 1 4095, false, 0⟩])], pressure := [7] }
abbrev orderedDelivery1 : State := (arr 7 (ef 7 1 1 0))
abbrev orderedDelivery2 : State := (arr 0x121 (ef 0x121 0 1 0))
abbrev orderedDelivery3 : State := (arr 7 (ef 7 1 1 5))
abbrev orderedDelivery4 : State := (arr 7 (ef 7 1 1 4000))
abbrev orderedDelivery5 : State := {robT with arrivals := [⟨7, false, ef 7 1 1 0⟩]}

/-- The hypotheses of the clauses of OrderedDelivery are met: a line holds the hypotheses of one clause, but for those an earlier line holds. -/
theorem witness_OrderedDelivery :
    (orderedDelivery1.arrivals.contains { dest := 7, esc := (false : Bool), flit := ((ef 7 1 1 0) : Flit) : Arrival } = true ∧ orderedDelivery1.ordered 7 ((ef 7 1 1 0) : Flit) = true ∧ ((ef 7 1 1 0) : Flit).seq = orderedDelivery1.expected (orderedDelivery1.flitPair 7 ((ef 7 1 1 0) : Flit)) ∧ ((ef 7 1 1 0) : Flit).seq < 4096 ∧ orderedDelivery1.jrnBlocked 7 = false ∧ orderedDelivery1.rob 7 = [] ∧ (((ef 7 1 1 0) : Flit).kind ≠ 0 ∧ ((ef 7 1 1 0) : Flit).kind ≠ 4 ∧ 7 ≠ 353 ∨ ((ef 7 1 1 0) : Flit).kind = 0 ∧ goodEvent ((ef 7 1 1 0) : Flit).payload = true ∧ isChan 7 = true)) ∧
    (orderedDelivery2.arrivals.contains { dest := 0x121, esc := (false : Bool), flit := ((ef 0x121 0 1 0) : Flit) : Arrival } = true ∧ orderedDelivery2.ordered 0x121 ((ef 0x121 0 1 0) : Flit) = true ∧ ((ef 0x121 0 1 0) : Flit).seq = orderedDelivery2.expected (orderedDelivery2.flitPair 0x121 ((ef 0x121 0 1 0) : Flit)) ∧ ((ef 0x121 0 1 0) : Flit).seq < 4096 ∧ orderedDelivery2.jrnBlocked 0x121 = false ∧ orderedDelivery2.rob 0x121 = [] ∧ (((ef 0x121 0 1 0) : Flit).kind ≠ 0 ∧ ((ef 0x121 0 1 0) : Flit).kind ≠ 4 ∧ 0x121 ≠ 353 ∨ ((ef 0x121 0 1 0) : Flit).kind = 0 ∧ goodEvent ((ef 0x121 0 1 0) : Flit).payload = true ∧ isChan 0x121 = true)) ∧
    (orderedDelivery3.arrivals.contains { dest := 7, esc := (false : Bool), flit := ((ef 7 1 1 5) : Flit) : Arrival } = true ∧ orderedDelivery3.ordered 7 ((ef 7 1 1 5) : Flit) = true ∧ 0 < (((ef 7 1 1 5) : Flit).seq + 4096 - orderedDelivery3.expected (orderedDelivery3.flitPair 7 ((ef 7 1 1 5) : Flit))) % 4096 ∧ (((ef 7 1 1 5) : Flit).seq + 4096 - orderedDelivery3.expected (orderedDelivery3.flitPair 7 ((ef 7 1 1 5) : Flit))) % 4096 < 2048 ∧ (false : Bool) = false ∧ robGeneral (orderedDelivery3.rob 7) < 448) ∧
    (orderedDelivery4.arrivals.contains { dest := 7, esc := (false : Bool), flit := ((ef 7 1 1 4000) : Flit) : Arrival } = true ∧ orderedDelivery4.ordered 7 ((ef 7 1 1 4000) : Flit) = true ∧ 2048 ≤ (((ef 7 1 1 4000) : Flit).seq + 4096 - orderedDelivery4.expected (orderedDelivery4.flitPair 7 ((ef 7 1 1 4000) : Flit))) % 4096) ∧
    (robT.rob 7 = [(⟨ef 7 1 1 4095, false, 0⟩ : RobEntry)] ∧ (⟨ef 7 1 1 4095, false, 0⟩ : RobEntry).stored + robT.fld (endPage 7) 76 15 0 * 2048 ≤ robT.now ∧ robT.expected (robT.flitPair 7 (⟨ef 7 1 1 4095, false, 0⟩ : RobEntry).flit) ≠ (⟨ef 7 1 1 4095, false, 0⟩ : RobEntry).flit.seq ∧ (List.find? (fun a => decide (a.dest = 7) && robT.ordered 7 a.flit && decide (robT.flitPair 7 a.flit = robT.flitPair 7 (⟨ef 7 1 1 4095, false, 0⟩ : RobEntry).flit) && decide (a.flit.seq = robT.expected (robT.flitPair 7 (⟨ef 7 1 1 4095, false, 0⟩ : RobEntry).flit))) robT.arrivals = none) ∧ (⟨ef 7 1 1 4095, false, 0⟩ : RobEntry).flit.seq < 4096 ∧ robT.jrnBlocked 7 = false ∧ (⟨ef 7 1 1 4095, false, 0⟩ : RobEntry).flit.kind ≠ 0 ∧ (⟨ef 7 1 1 4095, false, 0⟩ : RobEntry).flit.kind ≠ 4 ∧ (⟨ef 7 1 1 4095, false, 0⟩ : RobEntry).flit.vc ≠ 7 ∧ 7 ≠ 353) ∧
    (orderedDelivery5.rob 7 = [(⟨ef 7 1 1 4095, false, 0⟩ : RobEntry)] ∧ (⟨ef 7 1 1 4095, false, 0⟩ : RobEntry).stored + orderedDelivery5.fld (endPage 7) 76 15 0 * 2048 ≤ orderedDelivery5.now ∧ orderedDelivery5.expected (orderedDelivery5.flitPair 7 (⟨ef 7 1 1 4095, false, 0⟩ : RobEntry).flit) ≠ (⟨ef 7 1 1 4095, false, 0⟩ : RobEntry).flit.seq ∧ (List.find? (fun a => decide (a.dest = 7) && orderedDelivery5.ordered 7 a.flit && decide (orderedDelivery5.flitPair 7 a.flit = orderedDelivery5.flitPair 7 (⟨ef 7 1 1 4095, false, 0⟩ : RobEntry).flit) && decide (a.flit.seq = orderedDelivery5.expected (orderedDelivery5.flitPair 7 (⟨ef 7 1 1 4095, false, 0⟩ : RobEntry).flit))) orderedDelivery5.arrivals = some (⟨7, false, ef 7 1 1 0⟩ : Arrival))) :=
  ⟨by and_intros <;> decide +kernel, by and_intros <;> decide +kernel, by and_intros <;> decide +kernel, by and_intros <;> decide +kernel, by and_intros <;> decide +kernel, by and_intros <;> decide +kernel⟩

abbrev dieToDieGroups1 : State := { run 50 with d2dReplays := [(5,(5,3))] }
abbrev dieToDieGroups2 : State := {run 50 with d2dReplays := [(4,(7,16))], d2dRetried := [(2,true)]}
abbrev dieToDieGroups3 : State := {run 50 with d2dReplays := [(4,(7,16))]}

/-- The hypotheses of the clauses of DieToDieGroups are met: a line holds the hypotheses of one clause, but for those an earlier line holds. -/
theorem witness_DieToDieGroups :
    (((run 50) : State).ctrFrozen (d2dPage 2) = false) ∧
    (dieToDieGroups1.ctrFrozen (d2dPage 2) = false) ∧
    ((16 ≤ (dieToDieGroups2.replaysOf 2 false).snd ∨ 16 ≤ (dieToDieGroups2.replaysOf 2 true).snd) ∧ (SMap.get (fun x => false) dieToDieGroups2.d2dRetried 2 = true)) ∧
    ((16 ≤ (dieToDieGroups3.replaysOf 2 false).snd ∨ 16 ≤ (dieToDieGroups3.replaysOf 2 true).snd) ∧ (SMap.get (fun x => false) dieToDieGroups3.d2dRetried 2 = false) ∧ ([1,1,40] : List Nat).eraseDups.length ≤ 32) ∧
    (32 < ((List.range 33) : List Nat).eraseDups.length) ∧
    (dieToDieGroups3.passes (.bureau : Req) (d2dPage 2) 64 = true ∧ ([] : List Nat).eraseDups.length ≤ 32) ∧
    (d2dGroup 18 4 = some 0 ∧ ((z.wrN (d2dPage 0) 0x044 0) : State).fld (d2dPage 0) 68 2 0 = 0) :=
  ⟨by and_intros <;> decide +kernel, by and_intros <;> decide +kernel, by and_intros <;> decide +kernel, by and_intros <;> decide +kernel, by and_intros <;> decide +kernel, by and_intros <;> decide +kernel, by and_intros <;> decide +kernel⟩

abbrev nonRoot : State := (run 9000).wrN (rtr 7) 0x20C 0x200
abbrev ru : Flit := ⟨0, 5, 2, 3, 0, 3, 9, redPayload 100 2 1 2 77 false false⟩
abbrev ruh : Hop := ⟨7, 2, false, true, .ev ru, true, none, 9000, 9000⟩
abbrev rp : RedPartial := ⟨3, 9, 77, 2, 80, 1, 2, false, 8990⟩
abbrev reductionsCombineAndComplete1 : State := {nonRoot with redIn := [ruh]}
abbrev reductionsCombineAndComplete2 : State := {nonRoot with partials := [(7, [rp])], redIn := [ruh]}
abbrev reductionsCombineAndComplete3 : State := {(run 9000).wrN (rtr 7) 0x20C 0 with partials := [(7, [rp])], redIn := [ruh]}
abbrev reductionsCombineAndComplete4 : State := {nonRoot with partials := [(7, [rp])], tb := {nonRoot.tb with count := 900000}}
abbrev reductionsCombineAndComplete5 : State := {(run 9000000).wrN (rtr 7) 0x20C 0 with partials := [(7, [rp])]}

/-- The hypotheses of the clauses of ReductionsCombineAndComplete are met: a line holds the hypotheses of one clause, but for those an earlier line holds. -/
theorem witness_ReductionsCombineAndComplete :
    (List.find? (fun h => decide (h.pos = 7) && decide (h.flit = AnyFlit.ev ru)) nonRoot.redIn = none) ∧
    ((List.find? (fun h => decide (h.pos = 7) && decide (h.flit = AnyFlit.ev ru)) reductionsCombineAndComplete1.redIn = some ruh) ∧ reductionsCombineAndComplete1.redUpPort 7 ru.key ≠ 0 ∧ reductionsCombineAndComplete1.findPartial 7 ru.key ru.tag (nb ru.payload 31 16) = none ∧ (reductionsCombineAndComplete1.redPartials 7).length < 16 ∧ reductionsCombineAndComplete1.fld (rtr 7) 68 7 0 ≠ 0) ∧
    ((List.find? (fun h => decide (h.pos = 7) && decide (h.flit = AnyFlit.ev ru)) reductionsCombineAndComplete2.redIn = some ruh) ∧ reductionsCombineAndComplete2.findPartial 7 ru.key ru.tag (nb ru.payload 31 16) = some rp ∧ rp.err = false ∧ nb ru.payload 41 32 = rp.exp ∧ nb ru.payload 53 52 = rp.op ∧ reductionsCombineAndComplete2.redUpPort 7 ru.key ≠ 0 ∧ reductionsCombineAndComplete2.now < rp.since + reductionsCombineAndComplete2.fld (rtr 7) 68 7 0 * 32) ∧
    ((List.find? (fun h => decide (h.pos = 7) && decide (h.flit = AnyFlit.ev ru)) reductionsCombineAndComplete3.redIn = some ruh) ∧ reductionsCombineAndComplete3.findPartial 7 ru.key ru.tag (nb ru.payload 31 16) = some rp ∧ reductionsCombineAndComplete3.redUpPort 7 ru.key = 0 ∧ reductionsCombineAndComplete3.redPartials 7 = [rp] ∧ rp.count + nb ru.payload 51 42 = rp.exp) ∧
    (reductionsCombineAndComplete4.findPartial 7 3 9 77 = some rp ∧ reductionsCombineAndComplete4.redUpPort 7 3 ≠ 0 ∧ neighbour 7 (reductionsCombineAndComplete4.redUpPort 7 3) = some (8, 4) ∧ rp.since + reductionsCombineAndComplete4.fld (rtr 7) 68 7 0 * 32 ≤ reductionsCombineAndComplete4.now) ∧
    (reductionsCombineAndComplete5.findPartial 7 3 9 77 = some rp ∧ reductionsCombineAndComplete5.redUpPort 7 3 = 0 ∧ (List.foldl redJoin rp (reductionsCombineAndComplete5.redAt 7 3 9 77)).count < (List.foldl redJoin rp (reductionsCombineAndComplete5.redAt 7 3 9 77)).exp ∧ (List.foldl redJoin rp (reductionsCombineAndComplete5.redAt 7 3 9 77)).err = false ∧ rp.since + reductionsCombineAndComplete5.fld (rtr 7) 72 15 0 * 32 ≤ reductionsCombineAndComplete5.now) :=
  ⟨by and_intros <;> decide +kernel, by and_intros <;> decide +kernel, by and_intros <;> decide +kernel, by and_intros <;> decide +kernel, by and_intros <;> decide +kernel, by and_intros <;> decide +kernel⟩

/-- Position 7 in a running partition 2, with its horizon source on. -/
abbrev hz : State := { (((run 90000).wrN (hzn 7) 0x40 1).wrN (cctl 7) 0x28 2).wrN (hzn 7) 0x28 2 with partState := [(2,.running)], synced := [(11, true)] }
abbrev src : Nat := f 16 0 (2^63 + 0x370100)
abbrev horizonRounds1 : State := {hz with sources := [(1024+7, {Source.reset with waiting := [⟨4, 500, 3, 9⟩], sent := [⟨1,0,0,1,9⟩]})]}
abbrev horizonRounds2 : State := {hz with inbox := [rd 7 0]}
abbrev horizonRounds3 : State := {hz with inbox := [rd 0x123 0]}
abbrev horizonRounds4 : State := {hz with inbox := [rd 7 1]}
abbrev horizonRounds5 : State := {hz with notices := [⟨7, 9, 2, 0, 3⟩], sources := [(1024+7, {Source.reset with sent := [⟨9,0,3,1,0⟩]})]}

/-- The hypotheses of the clauses of HorizonRounds are met: a line holds the hypotheses of one clause, but for those an earlier line holds. -/
theorem witness_HorizonRounds :
    (hz.silent 2 7 = false ∧ hz.handed 7 (hz.source 2 7).next = false ∧ 2 ≠ 0 ∧ hz.tb.state = TState.running ∧ (hz.source 2 7).next * hz.roundOf 2 7 ≤ hz.now ∧ (hz.source 2 7).waiting = [] ∧ (hz.source 2 7).flying.length < 4 ∧ hz.horizonOf 2 7 = some 0) ∧
    ((horizonRounds1.source 2 7).waiting = [(⟨4, 500, 3, 9⟩ : Contrib)] ∧ (∀ (x : Sent), x ∈ (horizonRounds1.source 2 7).sent → (⟨4, 500, 3, 9⟩ : Contrib).ord ≤ x.ord) ∧ 7 < 354 ∧ (horizonRounds1.cab 7).fenced = false ∧ (horizonRounds1.cab 7).replay = false) ∧
    ((List.find? (fun a => decide (a.dest = 7) && decide (a.flit.kind = 4) && decide (a.flit.tag = 63)) horizonRounds2.inbox = some ((rd 7 0) : Arrival)) ∧ horizonRounds2.mbox = [] ∧ horizonRounds2.recov = [] ∧ 7 < 304 ∧ (horizonRounds2.cab 7).fenced = false ∧ (horizonRounds2.cab 7).replay = false ∧ nb ((rd 7 0) : Arrival).flit.payload 15 15 = 0 ∧ 7 < 288 ∧ nb ((rd 7 0) : Arrival).flit.payload 127 64 + horizonRounds2.look 7 < 2 ^ 64) ∧
    ((List.find? (fun a => decide (a.dest = 0x123) && decide (a.flit.kind = 4) && decide (a.flit.tag = 63)) horizonRounds3.inbox = some ((rd 0x123 0) : Arrival)) ∧ horizonRounds3.mbox = [] ∧ horizonRounds3.recov = [] ∧ 0x123 < 304 ∧ (horizonRounds3.cab 0x123).fenced = false ∧ (horizonRounds3.cab 0x123).replay = false ∧ nb ((rd 0x123 0) : Arrival).flit.payload 15 15 = 0 ∧ 288 ≤ 0x123) ∧
    ((List.find? (fun a => decide (a.dest = 7) && decide (a.flit.kind = 4) && decide (a.flit.tag = 63)) horizonRounds4.inbox = some ((rd 7 1) : Arrival)) ∧ horizonRounds4.mbox = [] ∧ horizonRounds4.recov = [] ∧ (horizonRounds4.cab 7).fenced = false ∧ (horizonRounds4.cab 7).replay = false ∧ nb ((rd 7 1) : Arrival).flit.payload 15 15 = 1) ∧
    (horizonRounds5.notices[0]? = some (⟨7, 9, 2, 0, 3⟩ : Notice) ∧ (⟨7, 9, 2, 0, 3⟩ : Notice).cls < 16 ∧ (⟨7, 9, 2, 0, 3⟩ : Notice).cls ≠ 2 ∧ (List.find? (fun x => decide (x.dest = (⟨7, 9, 2, 0, 3⟩ : Notice).dest) && decide (x.cls = (⟨7, 9, 2, 0, 3⟩ : Notice).cls) && decide (x.seq = (⟨7, 9, 2, 0, 3⟩ : Notice).seq)) (horizonRounds5.source (⟨7, 9, 2, 0, 3⟩ : Notice).key (eventSource (⟨7, 9, 2, 0, 3⟩ : Notice).src)).sent = some (⟨9,0,3,1,0⟩ : Sent))) :=
  ⟨by and_intros <;> decide +kernel, by and_intros <;> decide +kernel, by and_intros <;> decide +kernel, by and_intros <;> decide +kernel, by and_intros <;> decide +kernel, by and_intros <;> decide +kernel⟩

abbrev stp (x : Xp) : State := { hz.wr64 (hzn 7) 0x58 80000 with cabs := [(7, {Cab.reset with x := x})] }
abbrev flp : State := { z.wr64 (hzn 7) 0x74 (2^34) with cabs := [(7, {Cab.reset with trs0 := [⟨7*2^64, 0, 0, []⟩]})] }
abbrev stepsAndCoreFloor1 : State := (stp {Xp.reset with inq := [⟨900000, 0, 0, 0, 0, 0, false, 1, 1⟩]})
abbrev stepsAndCoreFloor2 : State := (stp Xp.reset)
abbrev stepsAndCoreFloor3 : State := (stp {Xp.reset with step := some ⟨1024,1,false,false⟩})
abbrev stepsAndCoreFloor4 : State := (stp {Xp.reset with step := some ⟨1024,1,true,true⟩})
abbrev stepsAndCoreFloor5 : State := (stp {Xp.reset with step := some ⟨1024,1,true,false⟩})
abbrev stepsAndCoreFloor6 : State := (z.wr64 (hzn 7) 0x74 (2^34))

/-- The hypotheses of the clauses of StepsAndCoreFloor are met: a line holds the hypotheses of one clause, but for those an earlier line holds. -/
theorem witness_StepsAndCoreFloor :
    ((stepsAndCoreFloor1.postFree 7).live 7 = true ∧ ((stepsAndCoreFloor1.postFree 7).xp 7).step = none ∧ (∀ (d : Nat), d < 4 → (stepsAndCoreFloor1.postFree 7).postFull 7 d = false ∧ (stepsAndCoreFloor1.postFree 7).catchup 7 d = false) ∧ ((stepsAndCoreFloor1.postFree 7).gEnd 7 / (stepsAndCoreFloor1.postFree 7).stepQ 7 + 1) * (stepsAndCoreFloor1.postFree 7).stepQ 7 ≤ (stepsAndCoreFloor1.postFree 7).grantLimit 7 ∧ (((stepsAndCoreFloor1.postFree 7).ldqSettle 7 (⟨0, .clean⟩ : StoreEcc)).evaluable 7 (((stepsAndCoreFloor1.postFree 7).gEnd 7 / (stepsAndCoreFloor1.postFree 7).stepQ 7 + 1) * (stepsAndCoreFloor1.postFree 7).stepQ 7) = true ∨ ((stepsAndCoreFloor1.postFree 7).ldqSettle 7 (⟨0, .clean⟩ : StoreEcc)).barrierWork 7 = true)) ∧
    ((stepsAndCoreFloor2.postFree 7).live 7 = true ∧ ((stepsAndCoreFloor2.postFree 7).xp 7).step = none ∧ (∀ (d : Nat), d < 4 → (stepsAndCoreFloor2.postFree 7).postFull 7 d = false ∧ (stepsAndCoreFloor2.postFree 7).catchup 7 d = false) ∧ ((stepsAndCoreFloor2.postFree 7).gEnd 7 / (stepsAndCoreFloor2.postFree 7).stepQ 7 + 1) * (stepsAndCoreFloor2.postFree 7).stepQ 7 ≤ (stepsAndCoreFloor2.postFree 7).grantLimit 7 ∧ ((stepsAndCoreFloor2.postFree 7).ldqSettle 7 (⟨0, .clean⟩ : StoreEcc)).evaluable 7 (((stepsAndCoreFloor2.postFree 7).gEnd 7 / (stepsAndCoreFloor2.postFree 7).stepQ 7 + 1) * (stepsAndCoreFloor2.postFree 7).stepQ 7) = false ∧ ((stepsAndCoreFloor2.postFree 7).ldqSettle 7 (⟨0, .clean⟩ : StoreEcc)).barrierWork 7 = false ∧ ((stepsAndCoreFloor2.postFree 7).gEnd 7 / (stepsAndCoreFloor2.postFree 7).stepQ 7 + 1) * (stepsAndCoreFloor2.postFree 7).stepQ 7 < 2 ^ 64) ∧
    ((stepsAndCoreFloor3.xp 7).step = some (⟨1024,1,false,false⟩ : StepSt) ∧ stepsAndCoreFloor3.live 7 = true ∧ (⟨1024,1,false,false⟩ : StepSt).barrier = false ∧ stepsAndCoreFloor3.evaluable 7 (⟨1024,1,false,false⟩ : StepSt).g = false) ∧
    ((stepsAndCoreFloor4.xp 7).step = some (⟨1024,1,true,true⟩ : StepSt) ∧ stepsAndCoreFloor4.live 7 = true ∧ (⟨1024,1,true,true⟩ : StepSt).barrier = true ∧ stepsAndCoreFloor4.barrierWork 7 = false ∧ (⟨1024,1,true,true⟩ : StepSt).again = true) ∧
    ((stepsAndCoreFloor5.xp 7).step = some (⟨1024,1,true,false⟩ : StepSt) ∧ stepsAndCoreFloor5.live 7 = true ∧ (⟨1024,1,true,false⟩ : StepSt).barrier = true ∧ stepsAndCoreFloor5.barrierWork 7 = false ∧ (⟨1024,1,true,false⟩ : StepSt).again = false ∧ (⟨1024,1,true,false⟩ : StepSt).g < 2 ^ 64) ∧
    (stepsAndCoreFloor6.passes (.bureau : Req) (hzn 7) 120 = true ∧ BitVec.toNat (stepsAndCoreFloor6.stagedLow (hzn 7) 116) + BitVec.toNat (0 : Word) * 2 ^ 32 < stepsAndCoreFloor6.floor 7) ∧
    (stepsAndCoreFloor6.floor 7 ≤ BitVec.toNat (stepsAndCoreFloor6.stagedLow (hzn 7) 116) + BitVec.toNat (5 : Word) * 2 ^ 32 ∧ stepsAndCoreFloor6.floorPending 7 (BitVec.toNat (stepsAndCoreFloor6.stagedLow (hzn 7) 116) + BitVec.toNat (5 : Word) * 2 ^ 32) = false) ∧
    (flp.passes (.bureau : Req) (hzn 7) 120 = true ∧ flp.floor 7 ≤ BitVec.toNat (flp.stagedLow (hzn 7) 116) + BitVec.toNat (5 : Word) * 2 ^ 32 ∧ flp.floorPending 7 (BitVec.toNat (flp.stagedLow (hzn 7) 116) + BitVec.toNat (5 : Word) * 2 ^ 32) = true) :=
  ⟨by and_intros <;> decide +kernel, by and_intros <;> decide +kernel, by and_intros <;> decide +kernel, by and_intros <;> decide +kernel, by and_intros <;> decide +kernel, by and_intros <;> decide +kernel, by and_intros <;> decide +kernel, by and_intros <;> decide +kernel⟩

abbrev dw (x : Xp) : State := { hz with cabs := [(7, {Cab.reset with x := x})] }
abbrev dl : Dlv := ⟨5, 90000, 1000, 80000, false, 0, 0⟩
abbrev dfar : Dlv := ⟨5, 990000, 1000, 80000, false, 0, 0⟩
abbrev small (a b : Nat) (x : Xp) : State := ((dw x).wrN (hzn 7) 0xA4 a).wrN (hzn 7) 0xB0 b
abbrev lq (n : Nat) : Ldq := ⟨n, 5, 6, false⟩
abbrev deliveriesLand1 : State := (dw {Xp.reset with dlv := [dl]} |>.wr64 (hzn 7) 0x68 90000)
abbrev deliveriesLand2 : State := ((dw {Xp.reset with dlv := [dl]}).wr64 (hzn 7) 0x68 90000 |>.setRing 7 0 5 1 2147483647)
abbrev deliveriesLand3 : State := (dw {Xp.reset with dlv := [dfar]})
abbrev deliveriesLand4 : State := (small 0 5 {Xp.reset with dlv := [dfar], ldq := [lq 900001]})
abbrev deliveriesLand5 : State := (small 0 4 {Xp.reset with dlv := [dfar], ldq := [lq 900001], spill := [lq 900002]})
abbrev deliveriesLand6 : State := (small 1 5 {Xp.reset with ldq := [lq 900001], spill := [lq 900004, lq 900002]})
abbrev deliveriesLand7 : State := (small 1 5 {Xp.reset with held := true, dlv := [dfar], ldq := [lq 900001], spill := [lq 900004, lq 900002]})

/-- The hypotheses of the clauses of DeliveriesLand are met: a line holds the hypotheses of one clause, but for those an earlier line holds. -/
theorem witness_DeliveriesLand :
    ((deliveriesLand1.xp 7).dlv = dl :: ([] : List Dlv) ∧ deliveriesLand1.live 7 = true ∧ (deliveriesLand1.xp 7).held = false ∧ deliveriesLand1.catchup 7 (dl.neuron / 8192) = false ∧ deliveriesLand1.unitStalled 7 (3 + dl.neuron / 8192) = false ∧ deliveriesLand1.drwBanks 7 (dl.neuron / 8192) = true ∧ (deliveriesLand1.landing 7 (dl.neuron / 8192) (dl.neuron % 8192) dl.time dl.g dl.pass).fst / 2 ^ deliveriesLand1.profK 7 (dl.neuron / 8192) (deliveriesLand1.shadow 7 (dl.neuron / 8192) (dl.neuron % 8192)) ≤ deliveriesLand1.ringBase 7 (deliveriesLand1.profK 7 (dl.neuron / 8192) (deliveriesLand1.shadow 7 (dl.neuron / 8192) (dl.neuron % 8192))) + 8) ∧
    ((deliveriesLand2.xp 7).dlv = dl :: ([] : List Dlv) ∧ deliveriesLand2.live 7 = true ∧ (deliveriesLand2.xp 7).held = false ∧ deliveriesLand2.catchup 7 (dl.neuron / 8192) = false ∧ deliveriesLand2.unitStalled 7 (3 + dl.neuron / 8192) = false ∧ deliveriesLand2.drwBanks 7 (dl.neuron / 8192) = true ∧ (deliveriesLand2.landing 7 (dl.neuron / 8192) (dl.neuron % 8192) dl.time dl.g dl.pass).fst / 2 ^ deliveriesLand2.profK 7 (dl.neuron / 8192) (deliveriesLand2.shadow 7 (dl.neuron / 8192) (dl.neuron % 8192)) ≤ deliveriesLand2.ringBase 7 (deliveriesLand2.profK 7 (dl.neuron / 8192) (deliveriesLand2.shadow 7 (dl.neuron / 8192) (dl.neuron % 8192))) + 8) ∧
    ((deliveriesLand3.xp 7).dlv = dfar :: ([] : List Dlv) ∧ deliveriesLand3.live 7 = true ∧ (deliveriesLand3.xp 7).held = false ∧ deliveriesLand3.catchup 7 (dfar.neuron / 8192) = false ∧ deliveriesLand3.unitStalled 7 (3 + dfar.neuron / 8192) = false ∧ deliveriesLand3.drwBanks 7 (dfar.neuron / 8192) = true ∧ deliveriesLand3.ringBase 7 (deliveriesLand3.profK 7 (dfar.neuron / 8192) (deliveriesLand3.shadow 7 (dfar.neuron / 8192) (dfar.neuron % 8192))) + 8 < (deliveriesLand3.landing 7 (dfar.neuron / 8192) (dfar.neuron % 8192) dfar.time dfar.g dfar.pass).fst / 2 ^ deliveriesLand3.profK 7 (dfar.neuron / 8192) (deliveriesLand3.shadow 7 (dfar.neuron / 8192) (dfar.neuron % 8192)) ∧ (deliveriesLand3.xp 7).ldq.length < (deliveriesLand3.ldqCap 7).fst) ∧
    ((deliveriesLand4.xp 7).dlv = dfar :: ([] : List Dlv) ∧ deliveriesLand4.live 7 = true ∧ (deliveriesLand4.xp 7).held = false ∧ deliveriesLand4.catchup 7 (dfar.neuron / 8192) = false ∧ deliveriesLand4.unitStalled 7 (3 + dfar.neuron / 8192) = false ∧ deliveriesLand4.drwBanks 7 (dfar.neuron / 8192) = true ∧ deliveriesLand4.ringBase 7 (deliveriesLand4.profK 7 (dfar.neuron / 8192) (deliveriesLand4.shadow 7 (dfar.neuron / 8192) (dfar.neuron % 8192))) + 8 < (deliveriesLand4.landing 7 (dfar.neuron / 8192) (dfar.neuron % 8192) dfar.time dfar.g dfar.pass).fst / 2 ^ deliveriesLand4.profK 7 (dfar.neuron / 8192) (deliveriesLand4.shadow 7 (dfar.neuron / 8192) (dfar.neuron % 8192)) ∧ (deliveriesLand4.ldqCap 7).fst ≤ (deliveriesLand4.xp 7).ldq.length ∧ (deliveriesLand4.xp 7).spill.length < (deliveriesLand4.ldqCap 7).snd) ∧
    ((deliveriesLand5.xp 7).dlv = dfar :: ([] : List Dlv) ∧ deliveriesLand5.live 7 = true ∧ (deliveriesLand5.xp 7).held = false ∧ deliveriesLand5.catchup 7 (dfar.neuron / 8192) = false ∧ deliveriesLand5.unitStalled 7 (3 + dfar.neuron / 8192) = false ∧ deliveriesLand5.drwBanks 7 (dfar.neuron / 8192) = true ∧ deliveriesLand5.ringBase 7 (deliveriesLand5.profK 7 (dfar.neuron / 8192) (deliveriesLand5.shadow 7 (dfar.neuron / 8192) (dfar.neuron % 8192))) + 8 < (deliveriesLand5.landing 7 (dfar.neuron / 8192) (dfar.neuron % 8192) dfar.time dfar.g dfar.pass).fst / 2 ^ deliveriesLand5.profK 7 (dfar.neuron / 8192) (deliveriesLand5.shadow 7 (dfar.neuron / 8192) (dfar.neuron % 8192)) ∧ (deliveriesLand5.ldqCap 7).fst ≤ (deliveriesLand5.xp 7).ldq.length ∧ (deliveriesLand5.ldqCap 7).snd ≤ (deliveriesLand5.xp 7).spill.length) ∧
    ((deliveriesLand6.xp 7).spill ≠ [] ∧ deliveriesLand6.live 7 = true ∧ (deliveriesLand6.xp 7).ldq.length < (deliveriesLand6.ldqCap 7).fst) ∧
    ((deliveriesLand7.xp 7).dlv = dfar :: ([] : List Dlv) ∧ deliveriesLand7.live 7 = true ∧ (deliveriesLand7.xp 7).held = true ∧ deliveriesLand7.catchup 7 (dfar.neuron / 8192) = false ∧ deliveriesLand7.unitStalled 7 (3 + dfar.neuron / 8192) = false ∧ deliveriesLand7.drwBanks 7 (dfar.neuron / 8192) = true ∧ (deliveriesLand7.xp 7).ldq.length < (deliveriesLand7.ldqCap 7).fst) :=
  ⟨by and_intros <;> decide +kernel, by and_intros <;> decide +kernel, by and_intros <;> decide +kernel, by and_intros <;> decide +kernel, by and_intros <;> decide +kernel, by and_intros <;> decide +kernel, by and_intros <;> decide +kernel⟩

abbrev stpE : Xp := {Xp.reset with step := some ⟨100000, 1, false, false⟩}
abbrev ev0 (v : Nat) (grp : Nat) : State := ((((dw stpE).setNrec 7 0 5 (recWith (grp * 2^32) 100 0 88000 80000 false)).setRing 7 0 5 7 50).setOcc 7 0 5 7 true).wrN (drw 7 0) 0x108 v |>.wr64 (hzn 7) 0x68 90000
abbrev st0 : StepSt := ⟨100000, 1, false, false⟩
abbrev evG : State := (((ev0 0 0).wrN (xpnd 7) 0x5C 0x300000).store (spadAt 7 0x300000) 8 (9*2^15 + 2^30)).store (spadAt 7 0x308000) 8 (77*2^26)
abbrev neuronsEvaluate1 : State := (ev0 100000 0xFFFF)
abbrev neuronsEvaluate2 : State := (ev0 0 0xFFFF)

/-- The hypotheses of the clauses of NeuronsEvaluate are met: a line holds the hypotheses of one clause, but for those an earlier line holds. -/
theorem witness_NeuronsEvaluate :
    ((neuronsEvaluate1.xp 7).step = some st0 ∧ neuronsEvaluate1.live 7 = true ∧ st0.barrier = false ∧ neuronsEvaluate1.paused 7 0 = false ∧ neuronsEvaluate1.catchup 7 0 = false ∧ neuronsEvaluate1.unitStalled 7 (3 + 0) = false ∧ neuronsEvaluate1.unitStalled 7 7 = false ∧ 0 < 4 ∧ 5 < 8192 ∧ neuronsEvaluate1.earliest 7 0 5 = some 90112 ∧ 90112 ≤ st0.g ∧ neuronsEvaluate1.drwBanks 7 0 = true ∧ (recPlastic (neuronsEvaluate1.nrec 7 0 5) = true → neuronsEvaluate1.postFull 7 0 = false) ∧ recRested ((neuronsEvaluate1.ldqDue 7 0 5 90112).nrec 7 0 5) = false ∧ ↑90112 < rebuildI (nb ((neuronsEvaluate1.ldqDue 7 0 5 90112).nrec 7 0 5) 95 48) (rebuildI (nb ((neuronsEvaluate1.ldqDue 7 0 5 90112).nrec 7 0 5) 143 96) ↑90112) + 2 ^ 46 ∧ rebuildI (nb ((neuronsEvaluate1.ldqDue 7 0 5 90112).nrec 7 0 5) 95 48) (rebuildI (nb ((neuronsEvaluate1.ldqDue 7 0 5 90112).nrec 7 0 5) 143 96) ↑90112) + ↑(neuronsEvaluate1.prof 7 0 (recProfile ((neuronsEvaluate1.ldqDue 7 0 5 90112).nrec 7 0 5)) 20 31 0) < ↑90112 ∧ sat (mul24 (ofBits (nb ((neuronsEvaluate1.ldqDue 7 0 5 90112).nrec 7 0 5) 191 160) 32) (decay (↑90112 - rebuildI (nb ((neuronsEvaluate1.ldqDue 7 0 5 90112).nrec 7 0 5) 143 96) ↑90112).toNat ((neuronsEvaluate1.ldqDue 7 0 5 90112).dtable 7 0 (neuronsEvaluate1.prof 7 0 (recProfile ((neuronsEvaluate1.ldqDue 7 0 5 90112).nrec 7 0 5)) 0 12 8))) + (neuronsEvaluate1.ldqDue 7 0 5 90112).ring 7 0 5 ((90112 / 2 ^ neuronsEvaluate1.profK 7 0 (recProfile ((neuronsEvaluate1.ldqDue 7 0 5 90112).nrec 7 0 5)) + 7) % 8)) 32 < ofBits (neuronsEvaluate1.prof 7 0 (recProfile ((neuronsEvaluate1.ldqDue 7 0 5 90112).nrec 7 0 5)) 8 31 0) 32 + mul24 (↑(nb ((neuronsEvaluate1.ldqDue 7 0 5 90112).nrec 7 0 5) 159 144)) (decay (↑90112 - rebuildI (nb ((neuronsEvaluate1.ldqDue 7 0 5 90112).nrec 7 0 5) 143 96) ↑90112).toNat ((neuronsEvaluate1.ldqDue 7 0 5 90112).dtable 7 0 (neuronsEvaluate1.prof 7 0 (recProfile ((neuronsEvaluate1.ldqDue 7 0 5 90112).nrec 7 0 5)) 0 20 16))) * 256) ∧
    ((neuronsEvaluate2.xp 7).step = some st0 ∧ neuronsEvaluate2.live 7 = true ∧ neuronsEvaluate2.paused 7 0 = false ∧ neuronsEvaluate2.catchup 7 0 = false ∧ neuronsEvaluate2.unitStalled 7 (3 + 0) = false ∧ neuronsEvaluate2.unitStalled 7 7 = false ∧ neuronsEvaluate2.earliest 7 0 5 = some 90112 ∧ neuronsEvaluate2.drwBanks 7 0 = true ∧ (recPlastic (neuronsEvaluate2.nrec 7 0 5) = true → neuronsEvaluate2.postFull 7 0 = false) ∧ recRested ((neuronsEvaluate2.ldqDue 7 0 5 90112).nrec 7 0 5) = false ∧ ↑90112 < rebuildI (nb ((neuronsEvaluate2.ldqDue 7 0 5 90112).nrec 7 0 5) 95 48) (rebuildI (nb ((neuronsEvaluate2.ldqDue 7 0 5 90112).nrec 7 0 5) 143 96) ↑90112) + 2 ^ 46 ∧ rebuildI (nb ((neuronsEvaluate2.ldqDue 7 0 5 90112).nrec 7 0 5) 95 48) (rebuildI (nb ((neuronsEvaluate2.ldqDue 7 0 5 90112).nrec 7 0 5) 143 96) ↑90112) + ↑(neuronsEvaluate2.prof 7 0 (recProfile ((neuronsEvaluate2.ldqDue 7 0 5 90112).nrec 7 0 5)) 20 31 0) < ↑90112 ∧ ofBits (neuronsEvaluate2.prof 7 0 (recProfile ((neuronsEvaluate2.ldqDue 7 0 5 90112).nrec 7 0 5)) 8 31 0) 32 + mul24 (↑(nb ((neuronsEvaluate2.ldqDue 7 0 5 90112).nrec 7 0 5) 159 144)) (decay (↑90112 - rebuildI (nb ((neuronsEvaluate2.ldqDue 7 0 5 90112).nrec 7 0 5) 143 96) ↑90112).toNat ((neuronsEvaluate2.ldqDue 7 0 5 90112).dtable 7 0 (neuronsEvaluate2.prof 7 0 (recProfile ((neuronsEvaluate2.ldqDue 7 0 5 90112).nrec 7 0 5)) 0 20 16))) * 256 ≤ sat (mul24 (ofBits (nb ((neuronsEvaluate2.ldqDue 7 0 5 90112).nrec 7 0 5) 191 160) 32) (decay (↑90112 - rebuildI (nb ((neuronsEvaluate2.ldqDue 7 0 5 90112).nrec 7 0 5) 143 96) ↑90112).toNat ((neuronsEvaluate2.ldqDue 7 0 5 90112).dtable 7 0 (neuronsEvaluate2.prof 7 0 (recProfile ((neuronsEvaluate2.ldqDue 7 0 5 90112).nrec 7 0 5)) 0 12 8))) + (neuronsEvaluate2.ldqDue 7 0 5 90112).ring 7 0 5 ((90112 / 2 ^ neuronsEvaluate2.profK 7 0 (recProfile ((neuronsEvaluate2.ldqDue 7 0 5 90112).nrec 7 0 5)) + 7) % 8)) 32) ∧
    ((evG.xp 7).step = some st0 ∧ evG.live 7 = true ∧ evG.paused 7 0 = false ∧ evG.catchup 7 0 = false ∧ evG.unitStalled 7 (3 + 0) = false ∧ evG.unitStalled 7 7 = false ∧ evG.earliest 7 0 5 = some 90112 ∧ evG.drwBanks 7 0 = true ∧ (recPlastic (evG.nrec 7 0 5) = true → evG.postFull 7 0 = false) ∧ recRested ((evG.ldqDue 7 0 5 90112).nrec 7 0 5) = false ∧ ↑90112 < rebuildI (nb ((evG.ldqDue 7 0 5 90112).nrec 7 0 5) 95 48) (rebuildI (nb ((evG.ldqDue 7 0 5 90112).nrec 7 0 5) 143 96) ↑90112) + 2 ^ 46 ∧ rebuildI (nb ((evG.ldqDue 7 0 5 90112).nrec 7 0 5) 95 48) (rebuildI (nb ((evG.ldqDue 7 0 5 90112).nrec 7 0 5) 143 96) ↑90112) + ↑(evG.prof 7 0 (recProfile ((evG.ldqDue 7 0 5 90112).nrec 7 0 5)) 20 31 0) < ↑90112 ∧ ofBits (evG.prof 7 0 (recProfile ((evG.ldqDue 7 0 5 90112).nrec 7 0 5)) 8 31 0) 32 + mul24 (↑(nb ((evG.ldqDue 7 0 5 90112).nrec 7 0 5) 159 144)) (decay (↑90112 - rebuildI (nb ((evG.ldqDue 7 0 5 90112).nrec 7 0 5) 143 96) ↑90112).toNat ((evG.ldqDue 7 0 5 90112).dtable 7 0 (evG.prof 7 0 (recProfile ((evG.ldqDue 7 0 5 90112).nrec 7 0 5)) 0 20 16))) * 256 ≤ sat (mul24 (ofBits (nb ((evG.ldqDue 7 0 5 90112).nrec 7 0 5) 191 160) 32) (decay (↑90112 - rebuildI (nb ((evG.ldqDue 7 0 5 90112).nrec 7 0 5) 143 96) ↑90112).toNat ((evG.ldqDue 7 0 5 90112).dtable 7 0 (evG.prof 7 0 (recProfile ((evG.ldqDue 7 0 5 90112).nrec 7 0 5)) 0 12 8))) + (evG.ldqDue 7 0 5 90112).ring 7 0 5 ((90112 / 2 ^ evG.profK 7 0 (recProfile ((evG.ldqDue 7 0 5 90112).nrec 7 0 5)) + 7) % 8)) 32) ∧
    ((∀ (e : Ldq), e ∈ z.ldqAll 7 → e.neuron = 8192 * 0 + 5 → 90112 < e.te)) :=
  ⟨by and_intros <;> decide +kernel, by and_intros <;> decide +kernel, by and_intros <;> decide +kernel, by and_intros <;> decide +kernel⟩

abbrev swp (pos : Nat) : State := { ({hz with tb := {hz.tb with count := 2^31 * 2^20}}.setNrec 7 0 pos (recWith 0 100 0 88000 80000 false)).wrN (drw 7 0) 0x54 pos with synced := [(11,true)] }
abbrev cu : State := {((swp 8).setFlag (drw 7 0) 0xC 2 true).setOcc 7 0 8 3 true with tb := {hz.tb with count := 2^31 * 2^20}}
abbrev recordsRestAndDrawersFault1 : State := (swp 8191)
abbrev recordsRestAndDrawersFault2 : State := {swp 8191 with cabs := [(7, {Cab.reset with swept := [(0, 2^20)]})]}
abbrev recordsRestAndDrawersFault3 : State := ((swp 8).setOcc 7 0 8 3 true)

/-- The hypotheses of the clauses of RecordsRestAndDrawersFault are met: a line holds the hypotheses of one clause, but for those an earlier line holds. -/
theorem witness_RecordsRestAndDrawersFault :
    (recordsRestAndDrawersFault1.ready (drw 7 0) = true ∧ 0 < 4 ∧ recordsRestAndDrawersFault1.now % 2 ^ 31 < 16 ∧ recordsRestAndDrawersFault1.drwBanks 7 0 = true ∧ ¬(0, recordsRestAndDrawersFault1.now / 2 ^ 31) ∈ (recordsRestAndDrawersFault1.cab 7).swept) ∧
    (recordsRestAndDrawersFault2.ready (drw 7 0) = true ∧ recordsRestAndDrawersFault2.now % 2 ^ 31 < 16 ∧ recordsRestAndDrawersFault2.drwBanks 7 0 = true ∧ (0, recordsRestAndDrawersFault2.now / 2 ^ 31) ∈ (recordsRestAndDrawersFault2.cab 7).swept) ∧
    (recordsRestAndDrawersFault3.ready (drw 7 0) = true ∧ recordsRestAndDrawersFault3.now % 2 ^ 31 < 16 ∧ recordsRestAndDrawersFault3.drwBanks 7 0 = true ∧ ¬(0, recordsRestAndDrawersFault3.now / 2 ^ 31) ∈ (recordsRestAndDrawersFault3.cab 7).swept) ∧
    (cu.ready (drw 7 0) = true ∧ cu.catchup 7 0 = true ∧ cu.drwBanks 7 0 = true) :=
  ⟨by and_intros <;> decide +kernel, by and_intros <;> decide +kernel, by and_intros <;> decide +kernel, by and_intros <;> decide +kernel⟩

abbrev dcs (m : Nat) : State := {hz with cabs := [(7, {Cab.reset with drwIn := [(1, 7), (0, m)]})] }
abbrev cmd (op n reply arg ch : Nat) : Nat := op * 2^64 + n * 2^80 + reply * 2^96 + arg * 2^128 + ch * 2^192
abbrev rdm := cmd 1 5 (2^31) (2^63 + 0x370100) 0
abbrev wrm := cmd 2 5 (2^31) (2^63 + 0x370100) 0
abbrev wst : State := ((dcs wrm).wrN (drw 7 0) 0x104 1).store (spadAt 7 0x370100) 64 (2^160*9 + 2^200*77 + 2^448 * 0xA5)
abbrev chm := cmd 3 5 (2^31) 95000 500
abbrev badm := cmd 9 5 (2^31) 95000 500
abbrev drawerCommands1 : State := ((dcs rdm).setNrec 7 0 5 (recWith 0 100 0 88000 80000 false) |>.setRing 7 0 5 3 77 |>.setOcc 7 0 5 3 true)
abbrev drawerCommands2 : State := (wst.setFlag (drw 7 0) 0x40 0 true)
abbrev drawerCommands3 : State := ((wst.setFlag (drw 7 0) 0x40 0 true).wrN (drw 7 0) 0x104 0)
abbrev drawerCommands4 : State := ((dcs chm).wrN (hzn 7) 0x70 1)
abbrev drawerCommands5 : State := (dcs chm)
abbrev drawerCommands6 : State := (dcs badm)

/-- The hypotheses of the clauses of DrawerCommands are met: a line holds the hypotheses of one clause, but for those an earlier line holds. -/
theorem witness_DrawerCommands :
    (drawerCommands1.drwHead 7 0 = some rdm ∧ drawerCommands1.live 7 = true ∧ drawerCommands1.catchup 7 0 = false ∧ drawerCommands1.unitStalled 7 (3 + 0) = false ∧ drwCmdOp rdm = 1 ∧ drwCmdClean rdm = true ∧ drawerCommands1.drwBanks 7 0 = true ∧ bytesOf rdm 23 16 % 8 = 0 ∧ sharedAddr (bytesOf rdm 23 16) = Shared.spad 0x370100 ∧ 0x370100 + 64 ≤ 2 ^ 22 ∧ drawerCommands1.spanOff 7 0x370100 64 = none) ∧
    (drawerCommands2.drwHead 7 0 = some wrm ∧ drawerCommands2.live 7 = true ∧ drawerCommands2.catchup 7 0 = false ∧ drawerCommands2.unitStalled 7 (3 + 0) = false ∧ drwCmdOp wrm = 2 ∧ drwCmdClean wrm = true ∧ drawerCommands2.drwBanks 7 0 = true ∧ bytesOf wrm 23 16 % 8 = 0 ∧ sharedAddr (bytesOf wrm 23 16) = Shared.spad 0x370100 ∧ drawerCommands2.spanOff 7 0x370100 64 = none ∧ drawerCommands2.drwWritable 7 0 = true ∧ 0 < 4 ∧ drawerCommands2.recLegal 7 0 (drawerCommands2.load (spadAt 7 0x370100) 24) = true) ∧
    (drawerCommands3.drwHead 7 0 = some wrm ∧ drawerCommands3.live 7 = true ∧ drawerCommands3.catchup 7 0 = false ∧ drawerCommands3.unitStalled 7 (3 + 0) = false ∧ drawerCommands3.drwBanks 7 0 = true ∧ drawerCommands3.spanOff 7 0x370100 64 = none ∧ drawerCommands3.drwWritable 7 0 = true ∧ drawerCommands3.recLegal 7 0 (drawerCommands3.load (spadAt 7 0x370100) 24) = false) ∧
    (drawerCommands4.drwHead 7 0 = some chm ∧ drawerCommands4.live 7 = true ∧ drawerCommands4.catchup 7 0 = false ∧ drawerCommands4.unitStalled 7 (3 + 0) = false ∧ drwCmdOp chm = 3 ∧ drwCmdClean chm = true ∧ (drawerCommands4.xp 7).held = false ∧ drawerCommands4.floorAllows 7 (rebuild (bytesOf chm 21 16) drawerCommands4.now) = true ∧ drawerCommands4.drwBanks 7 0 = true) ∧
    (drawerCommands5.drwHead 7 0 = some chm ∧ drawerCommands5.live 7 = true ∧ drawerCommands5.catchup 7 0 = false ∧ drawerCommands5.unitStalled 7 (3 + 0) = false ∧ (drawerCommands5.xp 7).held = false ∧ drawerCommands5.floorAllows 7 (rebuild (bytesOf chm 21 16) drawerCommands5.now) = false) ∧
    (drawerCommands6.drwHead 7 0 = some badm ∧ drawerCommands6.live 7 = true ∧ drawerCommands6.catchup 7 0 = false ∧ drawerCommands6.unitStalled 7 (3 + 0) = false ∧ (drawerCommands6.xp 7).held = false ∧ (drwCmdOp badm = 0 ∨ 3 < drwCmdOp badm) ∧ ((.charge 7 ⟨0, .clean⟩) : Instr) ∈ [Instr.readNeuron 7 0 WordEcc.clean, Instr.writeNeuron 7 0 WordEcc.clean, Instr.charge 7 { i := 0, ecc := WordEcc.clean : Checked WordEcc }]) ∧
    (((.readNeuron 7 0 .clean) : Instr) ∈ [Instr.readNeuron 7 0 WordEcc.clean, Instr.writeNeuron 7 0 WordEcc.clean, Instr.charge 7 { i := 0, ecc := WordEcc.clean : Checked WordEcc }]) ∧
    (((.writeNeuron 7 0 .clean) : Instr) ∈ [Instr.readNeuron 7 0 WordEcc.clean, Instr.writeNeuron 7 0 WordEcc.clean, Instr.charge 7 { i := 0, ecc := WordEcc.clean : Checked WordEcc }]) :=
  ⟨by and_intros <;> decide +kernel, by and_intros <;> decide +kernel, by and_intros <;> decide +kernel, by and_intros <;> decide +kernel, by and_intros <;> decide +kernel, by and_intros <;> decide +kernel, by and_intros <;> decide +kernel, by and_intros <;> decide +kernel⟩

abbrev drawerWindowAndPause1 : State := (win 0x1238 1)
abbrev drawerWindowAndPause2 : State := (win 0x50000 0)
abbrev drawerWindowAndPause3 : State := {(win 0x50000 0).wrN (cctl 7) 0x28 2 with partState := [(2,.running)]}
abbrev drawerWindowAndPause4 : State := (win 0x73800 0)
abbrev drawerWindowAndPause5 : State := (win 0x50000 1)

/-- The hypotheses of the clauses of DrawerWindowAndPause are met: a line holds the hypotheses of one clause, but for those an earlier line holds. -/
theorem witness_DrawerWindowAndPause :
    (drawerWindowAndPause1.passes (.bureau : Req) (drw 7 1) 108 = true ∧ 1 < 4 ∧ drawerWindowAndPause1.fld (drw 7 1) 104 18 2 * 4 < 473088 ∧ drawerWindowAndPause1.drwWritable 7 1 = true ∧ drawerWindowAndPause1.bankOn 7 (bankOf (1 * 2 ^ 19 + drawerWindowAndPause1.fld (drw 7 1) 104 18 2 * 4)) = true ∧ (∀ (o : Nat), (.clean : WordEcc) ≠ WordEcc.uncorrectable o)) ∧
    (drawerWindowAndPause2.passes (.bureau : Req) (drw 7 1) 108 = true ∧ drawerWindowAndPause2.fld (drw 7 1) 104 18 2 * 4 < 473088 ∧ drawerWindowAndPause2.drwWritable 7 1 = true ∧ drawerWindowAndPause2.bankOn 7 (bankOf (1 * 2 ^ 19 + drawerWindowAndPause2.fld (drw 7 1) 104 18 2 * 4)) = true) ∧
    (((.uncorrectable 3) : WordEcc) = WordEcc.uncorrectable 3) ∧
    (drawerWindowAndPause3.passes (.bureau : Req) (drw 7 1) 108 = true ∧ drawerWindowAndPause3.fld (drw 7 1) 104 18 2 * 4 < 473088 ∧ drawerWindowAndPause3.drwWritable 7 1 = false) ∧
    (drawerWindowAndPause4.passes (.bureau : Req) (drw 7 1) 108 = true ∧ 473088 ≤ drawerWindowAndPause4.fld (drw 7 1) 104 18 2 * 4) ∧
    (drawerWindowAndPause2.reads (.bureau : Req) (drw 7 1) = true) ∧
    (drawerWindowAndPause5.reads (.bureau : Req) (drw 7 1) = true ∧ drawerWindowAndPause5.bankOn 7 (bankOf (1 * 2 ^ 19 + drawerWindowAndPause5.fld (drw 7 1) 104 18 2 * 4)) = true) ∧
    (z.passes (.bureau : Req) (drw 7 1) 64 = true ∧ ((1 : Word).bit 0 = false ∨ z.partStopped (z.cabKey 7) = true ∨ (.bureau : Req).isPf = true)) ∧
    (hz.passes ((.core 7) : Req) (drw 7 1) 64 = true ∧ (1 : Word).bit 0 = true ∧ hz.partStopped (hz.cabKey 7) = false ∧ ((.core 7) : Req).isPf = false) :=
  ⟨⟨by decide +kernel, by decide +kernel, by decide +kernel, by decide +kernel, by decide +kernel, fun _ => by simp⟩, by and_intros <;> decide +kernel, by and_intros <;> decide +kernel, by and_intros <;> decide +kernel, by and_intros <;> decide +kernel, by and_intros <;> decide +kernel, by and_intros <;> decide +kernel, by and_intros <;> decide +kernel, by and_intros <;> decide +kernel⟩

abbrev pl : StartPlan := ⟨true, 0, false, true, some 77, true, 1, 2, true, true, true, [], 0, 0, [], 0, [], 5, 90, [], 0⟩
abbrev rowMem (pl : Nat) (s : State) : State := (((((((s.wrN (xpnd 7) 0x50 0x100).wrN (xpnd 7) 0x54 0x3000).wrN (hut1 0) 0x100 0x80000042).wrN (xpnd 7) 0x40 16).wrN (xpnd 7) 0x108 64).store 0x4018 8 (2^63 + 2^43*pl + 2^31 + 0x2000)).store 0x80000 16 (3*2^112 + 2^99 + 2^85 + 10*2^48 + pl*2^47)).store 0x80010 2 (5+128+7*4096) |>.store 0xC0000 18 (3*2^56 + 2*2^128)
abbrev ex (pl : Nat) (x : Xp) : State := rowMem pl (dw x)
abbrev e3 (ty : Nat) : Evt := ⟨80000, 3, 77, 20, 6000, ty, false, 0, 0⟩
abbrev am : Arrival := ⟨7, false, ⟨7,0,0,0,0,0,0,eventPayload 80000 3 77 20 6000 0⟩⟩
abbrev exm : State := { ex 0 Xp.reset with inbox := [am] }
abbrev exc (pl : Nat) (l : List Nat) : State := ex pl {Xp.reset with inq := [e3 0], cache := l}
abbrev exf : State := exc 0 [0x100, 0x2000, 0x3000]
abbrev exoff : State := (ex 0 {Xp.reset with inq := [e3 0]}).setFld (spad 7) 0x04C 17 16 1
abbrev exw (w : Wait) : State := ex 0 {Xp.reset with waits := [w]}
abbrev exl : State := (((ex 1 {Xp.reset with hold := [e3 0], cache := [0x100, 0x2000, 0x3000, 8448, 8465,8466,8467]}).wr64 (hzn 7) 0x58 300000).wr64 (hzn 7) 0x68 90000).setNrec 7 0 15 (recWith (2^25) 0 0 79000 79990 false) |>.store (0x4000+8192*64) 64 (2^128 + 5*2^80 + 1000*2^16) |>.store (0x4000+8192*64+17*64) 64 (2^512-1)
abbrev expanderTakesAndWalksEvents1 : State := (ex 0 {Xp.reset with inq := [e3 2]})
abbrev expanderTakesAndWalksEvents2 : State := ((ex 0 {Xp.reset with inq := [e3 2]}).setXp 7 Xp.reset)
abbrev expanderTakesAndWalksEvents3 : State := (ex 0 {Xp.reset with inq := [e3 9]})
abbrev expanderTakesAndWalksEvents4 : State := ((ex 0 {Xp.reset with inq := [e3 9]}).setXp 7 Xp.reset)
abbrev expanderTakesAndWalksEvents5 : State := {exm with inbox := []}
abbrev expanderTakesAndWalksEvents6 : State := ((exc 0 [0x100]).store 0x4018 8 5)
abbrev expanderTakesAndWalksEvents7 : State := (((exc 0 [0x100]).store 0x4018 8 5).setXp 7 {Xp.reset with cache := [0x100]})
abbrev expanderTakesAndWalksEvents8 : State := (exc 1 [0x100])
abbrev expanderTakesAndWalksEvents9 : State := ((exc 1 [0x100]).setXp 7 {Xp.reset with cache := [0x100]})
abbrev expanderTakesAndWalksEvents10 : State := (exf.setXp 7 {Xp.reset with cache := [0x100, 0x2000, 0x3000]})
abbrev expanderTakesAndWalksEvents11 : State := (exoff.setXp 7 Xp.reset)
abbrev expanderTakesAndWalksEvents12 : State := (exw ⟨e3 0, false, 0, [0x100], [], []⟩)
abbrev expanderTakesAndWalksEvents13 : Wait := ⟨e3 0, false, 0, [0x100], [], []⟩
abbrev expanderTakesAndWalksEvents14 : State := (exw ⟨e3 0, false, 2, [0x3000], [], []⟩)
abbrev expanderTakesAndWalksEvents15 : Wait := ⟨e3 0, false, 2, [0x3000], [], []⟩
abbrev expanderTakesAndWalksEvents16 : State := ((dw {Xp.reset with hold := [e3 2]}).wr64 (hzn 7) 0x58 300000)

/-- The hypotheses of the clauses of ExpanderTakesAndWalksEvents are met: a line holds the hypotheses of one clause, but for those an earlier line holds. -/
theorem witness_ExpanderTakesAndWalksEvents :
    (expanderTakesAndWalksEvents1.takesEvents 7 ∧ (expanderTakesAndWalksEvents1.xp 7).holdFull = false ∧ (if (false : Bool) = true then List.find? (fun a => decide (a.dest = 7) && decide (a.flit.kind = 0)) expanderTakesAndWalksEvents1.inbox = some (⟨0,false,⟨0,0,0,0,0,0,0,0⟩⟩ : Arrival) ∧ ((e3 2) : Evt) = meshEvt (⟨0,false,⟨0,0,0,0,0,0,0,0⟩⟩ : Arrival).flit.payload expanderTakesAndWalksEvents1.now ∧ expanderTakesAndWalksEvents2 = { expanderTakesAndWalksEvents1 with inbox := expanderTakesAndWalksEvents1.inbox.erase (⟨0,false,⟨0,0,0,0,0,0,0,0⟩⟩ : Arrival) } else (expanderTakesAndWalksEvents1.xp 7).inq = ((e3 2) : Evt) :: ([] : List Evt) ∧ (∀ (st : StepSt), (expanderTakesAndWalksEvents1.xp 7).step = some st → ((e3 2) : Evt).pass = 0 ∨ st.barrier = true) ∧ expanderTakesAndWalksEvents2 = expanderTakesAndWalksEvents1.setXp 7 { step := (expanderTakesAndWalksEvents1.xp 7).step, inq := ([] : List Evt), hold := (expanderTakesAndWalksEvents1.xp 7).hold, marker := (expanderTakesAndWalksEvents1.xp 7).marker, waits := (expanderTakesAndWalksEvents1.xp 7).waits, dlv := (expanderTakesAndWalksEvents1.xp 7).dlv, held := (expanderTakesAndWalksEvents1.xp 7).held, ldq := (expanderTakesAndWalksEvents1.xp 7).ldq, spill := (expanderTakesAndWalksEvents1.xp 7).spill, history := (expanderTakesAndWalksEvents1.xp 7).history, relocs := (expanderTakesAndWalksEvents1.xp 7).relocs, stats := (expanderTakesAndWalksEvents1.xp 7).stats, epochAt := (expanderTakesAndWalksEvents1.xp 7).epochAt, cache := (expanderTakesAndWalksEvents1.xp 7).cache, pinned := (expanderTakesAndWalksEvents1.xp 7).pinned, epochPast := (expanderTakesAndWalksEvents1.xp 7).epochPast : Xp }) ∧ ((e3 2) : Evt).type = 2) ∧
    (expanderTakesAndWalksEvents3.takesEvents 7 ∧ (expanderTakesAndWalksEvents3.xp 7).holdFull = false ∧ (if (false : Bool) = true then List.find? (fun a => decide (a.dest = 7) && decide (a.flit.kind = 0)) expanderTakesAndWalksEvents3.inbox = some (⟨0,false,⟨0,0,0,0,0,0,0,0⟩⟩ : Arrival) ∧ ((e3 9) : Evt) = meshEvt (⟨0,false,⟨0,0,0,0,0,0,0,0⟩⟩ : Arrival).flit.payload expanderTakesAndWalksEvents3.now ∧ expanderTakesAndWalksEvents4 = { expanderTakesAndWalksEvents3 with inbox := expanderTakesAndWalksEvents3.inbox.erase (⟨0,false,⟨0,0,0,0,0,0,0,0⟩⟩ : Arrival) } else (expanderTakesAndWalksEvents3.xp 7).inq = ((e3 9) : Evt) :: ([] : List Evt) ∧ (∀ (st : StepSt), (expanderTakesAndWalksEvents3.xp 7).step = some st → ((e3 9) : Evt).pass = 0 ∨ st.barrier = true) ∧ expanderTakesAndWalksEvents4 = expanderTakesAndWalksEvents3.setXp 7 { step := (expanderTakesAndWalksEvents3.xp 7).step, inq := ([] : List Evt), hold := (expanderTakesAndWalksEvents3.xp 7).hold, marker := (expanderTakesAndWalksEvents3.xp 7).marker, waits := (expanderTakesAndWalksEvents3.xp 7).waits, dlv := (expanderTakesAndWalksEvents3.xp 7).dlv, held := (expanderTakesAndWalksEvents3.xp 7).held, ldq := (expanderTakesAndWalksEvents3.xp 7).ldq, spill := (expanderTakesAndWalksEvents3.xp 7).spill, history := (expanderTakesAndWalksEvents3.xp 7).history, relocs := (expanderTakesAndWalksEvents3.xp 7).relocs, stats := (expanderTakesAndWalksEvents3.xp 7).stats, epochAt := (expanderTakesAndWalksEvents3.xp 7).epochAt, cache := (expanderTakesAndWalksEvents3.xp 7).cache, pinned := (expanderTakesAndWalksEvents3.xp 7).pinned, epochPast := (expanderTakesAndWalksEvents3.xp 7).epochPast : Xp }) ∧ 5 < ((e3 9) : Evt).type ∧ ((e3 9) : Evt).type < 15) ∧
    (exm.takesEvents 7 ∧ (exm.xp 7).holdFull = false ∧ (if (true : Bool) = true then List.find? (fun a => decide (a.dest = 7) && decide (a.flit.kind = 0)) exm.inbox = some am ∧ ({e3 0 with remote := true} : Evt) = meshEvt am.flit.payload exm.now ∧ expanderTakesAndWalksEvents5 = { exm with inbox := exm.inbox.erase am } else (exm.xp 7).inq = ({e3 0 with remote := true} : Evt) :: ([] : List Evt) ∧ (∀ (st : StepSt), (exm.xp 7).step = some st → ({e3 0 with remote := true} : Evt).pass = 0 ∨ st.barrier = true) ∧ expanderTakesAndWalksEvents5 = exm.setXp 7 { step := (exm.xp 7).step, inq := ([] : List Evt), hold := (exm.xp 7).hold, marker := (exm.xp 7).marker, waits := (exm.xp 7).waits, dlv := (exm.xp 7).dlv, held := (exm.xp 7).held, ldq := (exm.xp 7).ldq, spill := (exm.xp 7).spill, history := (exm.xp 7).history, relocs := (exm.xp 7).relocs, stats := (exm.xp 7).stats, epochAt := (exm.xp 7).epochAt, cache := (exm.xp 7).cache, pinned := (exm.xp 7).pinned, epochPast := (exm.xp 7).epochPast : Xp }) ∧ ({e3 0 with remote := true} : Evt).type < 6 ∧ ({e3 0 with remote := true} : Evt).type ≠ 2 ∧ exm.sharedBankOff 7 = none ∧ ¬exm.dirLineOf 7 ({e3 0 with remote := true} : Evt).axon ∈ (exm.xp 7).cache) ∧
    (expanderTakesAndWalksEvents6.takesEvents 7 ∧ (expanderTakesAndWalksEvents6.xp 7).holdFull = false ∧ (if (false : Bool) = true then List.find? (fun a => decide (a.dest = 7) && decide (a.flit.kind = 0)) expanderTakesAndWalksEvents6.inbox = some am ∧ ((e3 0) : Evt) = meshEvt am.flit.payload expanderTakesAndWalksEvents6.now ∧ expanderTakesAndWalksEvents7 = { expanderTakesAndWalksEvents6 with inbox := expanderTakesAndWalksEvents6.inbox.erase am } else (expanderTakesAndWalksEvents6.xp 7).inq = ((e3 0) : Evt) :: ([] : List Evt) ∧ (∀ (st : StepSt), (expanderTakesAndWalksEvents6.xp 7).step = some st → ((e3 0) : Evt).pass = 0 ∨ st.barrier = true) ∧ expanderTakesAndWalksEvents7 = expanderTakesAndWalksEvents6.setXp 7 { step := (expanderTakesAndWalksEvents6.xp 7).step, inq := ([] : List Evt), hold := (expanderTakesAndWalksEvents6.xp 7).hold, marker := (expanderTakesAndWalksEvents6.xp 7).marker, waits := (expanderTakesAndWalksEvents6.xp 7).waits, dlv := (expanderTakesAndWalksEvents6.xp 7).dlv, held := (expanderTakesAndWalksEvents6.xp 7).held, ldq := (expanderTakesAndWalksEvents6.xp 7).ldq, spill := (expanderTakesAndWalksEvents6.xp 7).spill, history := (expanderTakesAndWalksEvents6.xp 7).history, relocs := (expanderTakesAndWalksEvents6.xp 7).relocs, stats := (expanderTakesAndWalksEvents6.xp 7).stats, epochAt := (expanderTakesAndWalksEvents6.xp 7).epochAt, cache := (expanderTakesAndWalksEvents6.xp 7).cache, pinned := (expanderTakesAndWalksEvents6.xp 7).pinned, epochPast := (expanderTakesAndWalksEvents6.xp 7).epochPast : Xp }) ∧ ((e3 0) : Evt).type < 6 ∧ ((e3 0) : Evt).type ≠ 2 ∧ expanderTakesAndWalksEvents6.sharedBankOff 7 = none ∧ expanderTakesAndWalksEvents6.dirLineOf 7 ((e3 0) : Evt).axon ∈ (expanderTakesAndWalksEvents6.xp 7).cache ∧ dirValid (expanderTakesAndWalksEvents6.dirEntry 7 ((e3 0) : Evt).axon) = false ∧ expanderTakesAndWalksEvents6.ctrFrozen (xpnd 7) = false) ∧
    (expanderTakesAndWalksEvents8.takesEvents 7 ∧ (expanderTakesAndWalksEvents8.xp 7).holdFull = false ∧ (if (false : Bool) = true then List.find? (fun a => decide (a.dest = 7) && decide (a.flit.kind = 0)) expanderTakesAndWalksEvents8.inbox = some am ∧ ((e3 0) : Evt) = meshEvt am.flit.payload expanderTakesAndWalksEvents8.now ∧ expanderTakesAndWalksEvents9 = { expanderTakesAndWalksEvents8 with inbox := expanderTakesAndWalksEvents8.inbox.erase am } else (expanderTakesAndWalksEvents8.xp 7).inq = ((e3 0) : Evt) :: ([] : List Evt) ∧ (∀ (st : StepSt), (expanderTakesAndWalksEvents8.xp 7).step = some st → ((e3 0) : Evt).pass = 0 ∨ st.barrier = true) ∧ expanderTakesAndWalksEvents9 = expanderTakesAndWalksEvents8.setXp 7 { step := (expanderTakesAndWalksEvents8.xp 7).step, inq := ([] : List Evt), hold := (expanderTakesAndWalksEvents8.xp 7).hold, marker := (expanderTakesAndWalksEvents8.xp 7).marker, waits := (expanderTakesAndWalksEvents8.xp 7).waits, dlv := (expanderTakesAndWalksEvents8.xp 7).dlv, held := (expanderTakesAndWalksEvents8.xp 7).held, ldq := (expanderTakesAndWalksEvents8.xp 7).ldq, spill := (expanderTakesAndWalksEvents8.xp 7).spill, history := (expanderTakesAndWalksEvents8.xp 7).history, relocs := (expanderTakesAndWalksEvents8.xp 7).relocs, stats := (expanderTakesAndWalksEvents8.xp 7).stats, epochAt := (expanderTakesAndWalksEvents8.xp 7).epochAt, cache := (expanderTakesAndWalksEvents8.xp 7).cache, pinned := (expanderTakesAndWalksEvents8.xp 7).pinned, epochPast := (expanderTakesAndWalksEvents8.xp 7).epochPast : Xp }) ∧ expanderTakesAndWalksEvents8.sharedBankOff 7 = none ∧ expanderTakesAndWalksEvents8.dirLineOf 7 ((e3 0) : Evt).axon ∈ (expanderTakesAndWalksEvents8.xp 7).cache ∧ expanderTakesAndWalksEvents8.evPlastic 7 ((e3 0) : Evt) = true) ∧
    (exf.takesEvents 7 ∧ (exf.xp 7).holdFull = false ∧ (if (false : Bool) = true then List.find? (fun a => decide (a.dest = 7) && decide (a.flit.kind = 0)) exf.inbox = some am ∧ ((e3 0) : Evt) = meshEvt am.flit.payload exf.now ∧ expanderTakesAndWalksEvents10 = { exf with inbox := exf.inbox.erase am } else (exf.xp 7).inq = ((e3 0) : Evt) :: ([] : List Evt) ∧ (∀ (st : StepSt), (exf.xp 7).step = some st → ((e3 0) : Evt).pass = 0 ∨ st.barrier = true) ∧ expanderTakesAndWalksEvents10 = exf.setXp 7 { step := (exf.xp 7).step, inq := ([] : List Evt), hold := (exf.xp 7).hold, marker := (exf.xp 7).marker, waits := (exf.xp 7).waits, dlv := (exf.xp 7).dlv, held := (exf.xp 7).held, ldq := (exf.xp 7).ldq, spill := (exf.xp 7).spill, history := (exf.xp 7).history, relocs := (exf.xp 7).relocs, stats := (exf.xp 7).stats, epochAt := (exf.xp 7).epochAt, cache := (exf.xp 7).cache, pinned := (exf.xp 7).pinned, epochPast := (exf.xp 7).epochPast : Xp }) ∧ exf.sharedBankOff 7 = none ∧ exf.rowSound 7 ((e3 0) : Evt) ∧ exf.rowCached 7 ((e3 0) : Evt) ∧ exf.evPlastic 7 ((e3 0) : Evt) = false) ∧
    (exoff.takesEvents 7 ∧ (exoff.xp 7).holdFull = false ∧ (if (false : Bool) = true then List.find? (fun a => decide (a.dest = 7) && decide (a.flit.kind = 0)) exoff.inbox = some am ∧ ((e3 0) : Evt) = meshEvt am.flit.payload exoff.now ∧ expanderTakesAndWalksEvents11 = { exoff with inbox := exoff.inbox.erase am } else (exoff.xp 7).inq = ((e3 0) : Evt) :: ([] : List Evt) ∧ (∀ (st : StepSt), (exoff.xp 7).step = some st → ((e3 0) : Evt).pass = 0 ∨ st.barrier = true) ∧ expanderTakesAndWalksEvents11 = exoff.setXp 7 { step := (exoff.xp 7).step, inq := ([] : List Evt), hold := (exoff.xp 7).hold, marker := (exoff.xp 7).marker, waits := (exoff.xp 7).waits, dlv := (exoff.xp 7).dlv, held := (exoff.xp 7).held, ldq := (exoff.xp 7).ldq, spill := (exoff.xp 7).spill, history := (exoff.xp 7).history, relocs := (exoff.xp 7).relocs, stats := (exoff.xp 7).stats, epochAt := (exoff.xp 7).epochAt, cache := (exoff.xp 7).cache, pinned := (exoff.xp 7).pinned, epochPast := (exoff.xp 7).epochPast : Xp }) ∧ exoff.sharedBankOff 7 = some 24 ∧ exoff.ctrFrozen (xpnd 7) = false) ∧
    ((expanderTakesAndWalksEvents12.xp 7).waits = expanderTakesAndWalksEvents13 :: ([] : List Wait) ∧ expanderTakesAndWalksEvents12.live 7 = true ∧ expanderTakesAndWalksEvents13.lines ≠ [] ∧ expanderTakesAndWalksEvents13.more = [] ∧ (∀ (l : Nat), l ∈ expanderTakesAndWalksEvents13.lines → expanderTakesAndWalksEvents12.stackDenied (expanderTakesAndWalksEvents12.cabKey 7) (l * 64) false = none) ∧ (expanderTakesAndWalksEvents13.stage = 0 → expanderTakesAndWalksEvents13.plastic = true ∨ expanderTakesAndWalksEvents12.evPlastic 7 expanderTakesAndWalksEvents13.ev = false ∨ (expanderTakesAndWalksEvents12.xp 7).holdFull = false) ∧ expanderTakesAndWalksEvents12.unitStalled 7 7 = false ∧ expanderTakesAndWalksEvents12.sharedBankOff 7 = none ∧ expanderTakesAndWalksEvents13.stage = 0 ∧ expanderTakesAndWalksEvents13.lines = [expanderTakesAndWalksEvents12.dirLineOf 7 expanderTakesAndWalksEvents13.ev.axon] ∧ expanderTakesAndWalksEvents12.dirLineOf 7 expanderTakesAndWalksEvents13.ev.axon ∈ ([0x100] : List Nat)) ∧
    ((expanderTakesAndWalksEvents14.xp 7).waits = expanderTakesAndWalksEvents15 :: ([] : List Wait) ∧ expanderTakesAndWalksEvents14.live 7 = true ∧ expanderTakesAndWalksEvents15.lines ≠ [] ∧ expanderTakesAndWalksEvents15.more = [] ∧ (∀ (l : Nat), l ∈ expanderTakesAndWalksEvents15.lines → expanderTakesAndWalksEvents14.stackDenied (expanderTakesAndWalksEvents14.cabKey 7) (l * 64) false = none) ∧ (expanderTakesAndWalksEvents15.stage = 0 → expanderTakesAndWalksEvents15.plastic = true ∨ expanderTakesAndWalksEvents14.evPlastic 7 expanderTakesAndWalksEvents15.ev = false ∨ (expanderTakesAndWalksEvents14.xp 7).holdFull = false) ∧ expanderTakesAndWalksEvents14.unitStalled 7 7 = false ∧ expanderTakesAndWalksEvents14.sharedBankOff 7 = none ∧ expanderTakesAndWalksEvents15.stage = 2 ∧ expanderTakesAndWalksEvents15.plastic = false ∧ expanderTakesAndWalksEvents15.bad = [] ∧ ([] : List Nat) = [] ∧ (∀ (l : Nat), l ∈ expanderTakesAndWalksEvents15.lines → expanderTakesAndWalksEvents14.lineLost (l * 64) = false) ∧ expanderTakesAndWalksEvents14.rowSound 7 expanderTakesAndWalksEvents15.ev ∧ dirPlastic (expanderTakesAndWalksEvents14.dirEntry 7 expanderTakesAndWalksEvents15.ev.axon) = false) ∧
    (firstOf (expanderTakesAndWalksEvents16.xp 7).hold = some ((e3 2) : Evt) ∧ expanderTakesAndWalksEvents16.live 7 = true ∧ expanderTakesAndWalksEvents16.unitStalled 7 7 = false ∧ expanderTakesAndWalksEvents16.r200 7 ((e3 2) : Evt).time = true ∧ expanderTakesAndWalksEvents16.overtakes 7 ((e3 2) : Evt) = false ∧ (expanderTakesAndWalksEvents16.xp 7).afterMarker ((e3 2) : Evt).time = false ∧ (((expanderTakesAndWalksEvents16.xp 7).waits.any fun x => x.plastic) = false)) ∧
    (firstOf (exl.xp 7).hold = some ((e3 0) : Evt) ∧ exl.takesEvents 7 ∧ exl.r200 7 ((e3 0) : Evt).time = true ∧ exl.overtakes 7 ((e3 0) : Evt) = false ∧ exl.sharedBankOff 7 = none ∧ ((e3 0) : Evt).time / 16 * 16 ≤ exl.gEnd 7 ∧ (exl.xp 7).afterMarker ((e3 0) : Evt).time = false ∧ (((exl.xp 7).waits.any fun x => x.plastic) = false) ∧ (exl.xp 7).relocFor ((e3 0) : Evt) = none ∧ exl.rowSound 7 ((e3 0) : Evt) ∧ exl.rowCached 7 ((e3 0) : Evt)) :=
  ⟨by unfold State.takesEvents; and_intros <;> decide +kernel, by unfold State.takesEvents; and_intros <;> decide +kernel, by unfold State.takesEvents; and_intros <;> decide +kernel, by unfold State.takesEvents; and_intros <;> decide +kernel, by unfold State.takesEvents; and_intros <;> decide +kernel, ⟨by unfold State.takesEvents; decide +kernel, by decide +kernel, by decide +kernel, by decide +kernel, by unfold State.rowSound; decide +kernel, rowCached_of (by decide +kernel) (by decide +kernel), by decide +kernel⟩, by unfold State.takesEvents; and_intros <;> decide +kernel, by and_intros <;> decide +kernel, by unfold State.rowSound; and_intros <;> decide +kernel, by and_intros <;> decide +kernel, ⟨by decide +kernel, by unfold State.takesEvents; decide +kernel, by decide +kernel, by decide +kernel, by decide +kernel, by decide +kernel, by decide +kernel, by decide +kernel, by decide +kernel, by unfold State.rowSound; decide +kernel, rowCached_of (by decide +kernel) (by decide +kernel)⟩⟩

abbrev epo (a : Nat) : State := (dw Xp.reset).wr64 (xpnd 7) 0x48 a
abbrev exr (r : Reloc) : State := (ex 1 {Xp.reset with relocs := [r], cache := [0x100, 0x2000]}).wr64 (hzn 7) 0x58 300000
abbrev rl0 : Reloc := ⟨3, 70000, none, false, false⟩
abbrev rld : Reloc := ⟨3, 70000, some (1,1), false, false⟩
abbrev rl9 : Reloc := ⟨9, 70000, none, false, false⟩
abbrev cma (tc : Nat) : Arrival := ⟨7, false, ⟨7, 0, 0, 0, 0, 5, 0, 0x20 * 2^120 + tc * 2^72⟩⟩
abbrev cmb (tc : Nat) : State := { ((dw Xp.reset).wr64 (hzn 7) 0x58 90000) with inbox := [cma tc], mbox := [⟨0, 0x20A, [], 1, .ok, 0, 0, [], 0, 0, 0, 0, 0, [], [], [(7,0)]⟩] }
abbrev pfm : Nat := 2^64 + 3*2^80 + 2^127
abbrev ti (d : Nat) : State := {hz with cabs := [(7, {Cab.reset with trsIn := [(1, 3), (0, d)]})]}
abbrev mk : State := ((ex 1 {Xp.reset with marker := [80000]}).wr64 (hzn 7) 0x58 300000).setNrec 7 0 15 (recWith (2^25) 0 0 79000 79990 false) |>.store (0x4000+8192*64) 64 (2^128 + 5*2^80 + 1000*2^16) |>.store (tagAt 0x2000 1 0) 2 0x9234
abbrev expanderTablesChange1 : State := (epo 5)
abbrev expanderTablesChange2 : State := (epo 0)
abbrev expanderTablesChange3 : State := (((epo 0).setFlag (xpnd 7) 0x44 1 true).wr64 (hzn 7) 0x58 300000)
abbrev expanderTablesChange4 : State := (exr rl0)
abbrev expanderTablesChange5 : State := ((exr rl0).wrN (hut1 0) 0x100 0)
abbrev expanderTablesChange6 : State := (exr {rl0 with copy := some (1,1)})
abbrev expanderTablesChange7 : State := (exr {rl0 with copy := some (1,1), grown := true, done := true})
abbrev expanderTablesChange8 : Reloc := {rl0 with copy := some (1,1), grown := true, done := true}
abbrev expanderTablesChange9 : State := (((dw {Xp.reset with relocs := [rld, rl9], hold := [⟨80000, 9, 77, 20, 6000, 0, false, 0, 0⟩]}).setFlag (xpnd 7) 0xC 4 true))
abbrev expanderTablesChange10 : Evt := ⟨80000, 9, 77, 20, 6000, 0, false, 0, 0⟩
abbrev expanderTablesChange11 : State := (cmb 80000)
abbrev expanderTablesChange12 : State := (cmb 99000)
abbrev expanderTablesChange13 : State := ({ex 0 Xp.reset with cabs := [(7, {Cab.reset with xIn := some pfm})]})

/-- The hypotheses of the clauses of ExpanderTablesChange are met: a line holds the hypotheses of one clause, but for those an earlier line holds. -/
theorem witness_ExpanderTablesChange :
    (expanderTablesChange1.passes (.bureau : Req) (xpnd 7) 68 = true ∧ (0 : Word).bit 1 = false) ∧
    ((2 : Word).bit 1 = true ∧ expanderTablesChange1.safe 7 < expanderTablesChange1.rd64 (xpnd 7) 72) ∧
    (expanderTablesChange2.passes (.bureau : Req) (xpnd 7) 68 = true ∧ expanderTablesChange2.rd64 (xpnd 7) 72 ≤ expanderTablesChange2.safe 7) ∧
    (expanderTablesChange3.live 7 = true ∧ expanderTablesChange3.flag (xpnd 7) 68 1 = true ∧ (expanderTablesChange3.xp 7).epochAt < expanderTablesChange3.safe 7) ∧
    ((expanderTablesChange4.xp 7).relocs = [rl0] ∧ rl0.axon = 3 ∧ rl0.copy = none ∧ (∀ (i : Nat), i ∈ dirRowLines (expanderTablesChange4.dirEntry 7 3) → expanderTablesChange4.lineLost (i * 64) = false) ∧ grownEnts (expanderTablesChange4.rowHdr (dirRow (expanderTablesChange4.dirEntry 7 3))) ≠ (expanderTablesChange4.rowHdr (dirRow (expanderTablesChange4.dirEntry 7 3))).nent ∧ expanderTablesChange4.rowPlace 7 (dirRow (expanderTablesChange4.dirEntry 7 3)) (rowLines ((expanderTablesChange4.rowHdr (dirRow (expanderTablesChange4.dirEntry 7 3))).nwords + (grownEnts (expanderTablesChange4.rowHdr (dirRow (expanderTablesChange4.dirEntry 7 3))) - (expanderTablesChange4.rowHdr (dirRow (expanderTablesChange4.dirEntry 7 3))).nent)) (grownEnts (expanderTablesChange4.rowHdr (dirRow (expanderTablesChange4.dirEntry 7 3)))) true) = some 0) ∧
    ((expanderTablesChange5.xp 7).relocs = [rl0] ∧ (∀ (i : Nat), i ∈ dirRowLines (expanderTablesChange5.dirEntry 7 3) → expanderTablesChange5.lineLost (i * 64) = false) ∧ (grownEnts (expanderTablesChange5.rowHdr (dirRow (expanderTablesChange5.dirEntry 7 3))) = (expanderTablesChange5.rowHdr (dirRow (expanderTablesChange5.dirEntry 7 3))).nent ∨ expanderTablesChange5.rowPlace 7 (dirRow (expanderTablesChange5.dirEntry 7 3)) (rowLines ((expanderTablesChange5.rowHdr (dirRow (expanderTablesChange5.dirEntry 7 3))).nwords + (grownEnts (expanderTablesChange5.rowHdr (dirRow (expanderTablesChange5.dirEntry 7 3))) - (expanderTablesChange5.rowHdr (dirRow (expanderTablesChange5.dirEntry 7 3))).nent)) (grownEnts (expanderTablesChange5.rowHdr (dirRow (expanderTablesChange5.dirEntry 7 3)))) true) = none)) ∧
    ((∃ i, i ∈ dirRowLines (expanderTablesChange4.dirEntry 7 3) ∧ i ∈ ([0x2000] : List Nat))) ∧
    ((expanderTablesChange6.xp 7).relocs = [({rl0 with copy := some (1,1)} : Reloc)] ∧ ({rl0 with copy := some (1,1)} : Reloc).axon = 3 ∧ ({rl0 with copy := some (1,1)} : Reloc).copy ≠ none ∧ ({rl0 with copy := some (1,1)} : Reloc).done = false) ∧
    ((expanderTablesChange7.xp 7).relocs = [expanderTablesChange8] ∧ expanderTablesChange8.axon = 3 ∧ expanderTablesChange8.done = true ∧ expanderTablesChange8.copy = some (1, 1) ∧ expanderTablesChange8.grown = true ∧ expanderTablesChange7.live 7 = true ∧ expanderTablesChange7.r200 7 expanderTablesChange8.ti = true ∧ (∀ (e : Evt), e ∈ (expanderTablesChange7.xp 7).hold ++ expanderTablesChange7.unheld 7 → e.axon = 3 → e.type = 2 ∨ expanderTablesChange8.ti ≤ e.time) ∧ (∀ (w : Wait), w ∈ (expanderTablesChange7.xp 7).waits → w.ev.axon ≠ 3)) ∧
    ((List.find? (fun r => decide (r.axon = 3) && r.copy.isSome && !r.done) (expanderTablesChange9.xp 7).relocs = some rld) ∧ firstOf (expanderTablesChange9.xp 7).hold = some expanderTablesChange10 ∧ ({ step := (expanderTablesChange9.xp 7).step, inq := (expanderTablesChange9.xp 7).inq, hold := (expanderTablesChange9.xp 7).hold, marker := (expanderTablesChange9.xp 7).marker, waits := (expanderTablesChange9.xp 7).waits, dlv := (expanderTablesChange9.xp 7).dlv, held := (expanderTablesChange9.xp 7).held, ldq := (expanderTablesChange9.xp 7).ldq, spill := (expanderTablesChange9.xp 7).spill, history := (expanderTablesChange9.xp 7).history, relocs := List.map (fun q => if q = rld then { axon := q.axon, ti := q.ti, copy := q.copy, grown := q.grown, done := true : Reloc } else q) (expanderTablesChange9.xp 7).relocs, stats := (expanderTablesChange9.xp 7).stats, epochAt := (expanderTablesChange9.xp 7).epochAt, cache := (expanderTablesChange9.xp 7).cache, pinned := (expanderTablesChange9.xp 7).pinned, epochPast := (expanderTablesChange9.xp 7).epochPast : Xp }.relocFor expanderTablesChange10 = some rl9) ∧ rl9.done = false ∧ expanderTablesChange9.flag (xpnd 7) 12 4 = true) ∧
    ((List.find? (fun a => decide (a.dest = 7) && decide (a.flit.kind = 5) && decide (nb a.flit.payload 127 120 = 32)) expanderTablesChange11.inbox = some ((cma 80000) : Arrival)) ∧ rebuild (nb ((cma 80000) : Arrival).flit.payload 119 72) expanderTablesChange11.now ≤ expanderTablesChange11.safe 7) ∧
    ((List.find? (fun a => decide (a.dest = 7) && decide (a.flit.kind = 5) && decide (nb a.flit.payload 127 120 = 32)) expanderTablesChange12.inbox = some ((cma 99000) : Arrival)) ∧ expanderTablesChange12.safe 7 < rebuild (nb ((cma 99000) : Arrival).flit.payload 119 72) expanderTablesChange12.now) ∧
    ((mk.xp 7).marker.min? = some 80000 ∧ mk.live 7 = true ∧ mk.unitStalled 7 7 = false ∧ mk.r200 7 80000 = true ∧ (∀ (e : Evt), e ∈ (mk.xp 7).hold ++ mk.unheld 7 → 80000 < e.time) ∧ (mk.xp 7).waits = []) ∧
    ((expanderTablesChange13.cab 7).xIn = some pfm ∧ expanderTablesChange13.live 7 = true ∧ expanderTablesChange13.unitStalled 7 7 = false ∧ byteOf pfm 8 = 1 ∧ byteOf pfm 9 = 0 ∧ nb (bytesOf pfm 15 12) 30 20 = 0 ∧ bytesOf pfm 31 16 = 0) :=
  ⟨by and_intros <;> decide +kernel, by and_intros <;> decide +kernel, by and_intros <;> decide +kernel, by and_intros <;> decide +kernel, by and_intros <;> decide +kernel, by and_intros <;> decide +kernel, by and_intros <;> decide +kernel, by and_intros <;> decide +kernel, by and_intros <;> decide +kernel, by and_intros <;> decide +kernel, by and_intros <;> decide +kernel, by and_intros <;> decide +kernel, by and_intros <;> decide +kernel, by and_intros <;> decide +kernel⟩

abbrev tw (l : List TDesc) : State := {hz with cabs := [(7, {Cab.reset with trs0 := l, trs1 := l})] }.store (spadAt 7 0x370100) 64 (2^500 - 12345 * 2^77)
abbrev td (d : Nat) (st : Nat := 0) : TDesc := ⟨d, st, 0, []⟩
abbrev la (fm : Nat) : Nat := base 4 + f 9 0 fm + f 10 0 5 + f 24 0 16 + f 26 0 1 + src
abbrev trestleLoadsAndCopies1 : State := (tw [td (base 1 + f 10 0 5 + f 24 0 1 + src)])
abbrev trestleLoadsAndCopies2 : TDesc := (td (base 1 + f 10 0 5 + f 24 0 1 + src))
abbrev trestleLoadsAndCopies3 : State := (tw [td (base 2 + f 10 0 5 + f 24 0 2 + src)])
abbrev trestleLoadsAndCopies4 : TDesc := (td (base 2 + f 10 0 5 + f 24 0 2 + src))
abbrev trestleLoadsAndCopies5 : State := (tw [td (base 3 + f 10 0 5 + f 24 0 2 + src)])
abbrev trestleLoadsAndCopies6 : TDesc := (td (base 3 + f 10 0 5 + f 24 0 2 + src))
abbrev trestleLoadsAndCopies7 : State := (tw [td (base 3 + f 9 0 2 + src)])
abbrev trestleLoadsAndCopies8 : State := (tw [td (la 3)])
abbrev trestleLoadsAndCopies9 : State := (tw [td (la 1)])
abbrev trestleLoadsAndCopies10 : State := (tw [td (la 2)])
abbrev trestleLoadsAndCopies11 : State := ((tw [td (base 6 + f 10 0 5 + f 24 0 1 + src)]).store (trsAt 7 1 320) 64 (3^200))
abbrev trestleLoadsAndCopies12 : TDesc := (td (base 6 + f 10 0 5 + f 24 0 1 + src))

/-- The hypotheses of the clauses of TrestleLoadsAndCopies are met: a line holds the hypotheses of one clause, but for those an earlier line holds. -/
theorem witness_TrestleLoadsAndCopies :
    (trestleLoadsAndCopies1.trsRuns 7 0 ∧ sharedAddr (bytesOf trestleLoadsAndCopies2.raw 23 16) = Shared.spad 0x370100 ∧ (dPick (trestleLoadsAndCopies1.win 7 0) (fun d => decide (dOp d = 1)) [] (trestleLoadsAndCopies1.win 7 0) = some trestleLoadsAndCopies2) ∧ trestleLoadsAndCopies1.spanOff 7 0x370100 (64 * dF trestleLoadsAndCopies2.raw 24 13 0) = none) ∧
    (trestleLoadsAndCopies3.trsRuns 7 1 ∧ sharedAddr (bytesOf trestleLoadsAndCopies4.raw 23 16) = Shared.spad 0x370100 ∧ (dPick (trestleLoadsAndCopies3.win 7 1) (fun d => decide (dOp d = 2)) [] (trestleLoadsAndCopies3.win 7 1) = some trestleLoadsAndCopies4) ∧ trestleLoadsAndCopies3.spanOff 7 0x370100 (16 * dF trestleLoadsAndCopies4.raw 24 8 0) = none) ∧
    (trestleLoadsAndCopies5.trsRuns 7 1 ∧ sharedAddr (bytesOf trestleLoadsAndCopies6.raw 23 16) = Shared.spad 0x370100 ∧ (dPick (trestleLoadsAndCopies5.win 7 1) (fun d => decide (dOp d = 3)) [] (trestleLoadsAndCopies5.win 7 1) = some trestleLoadsAndCopies6) ∧ dF trestleLoadsAndCopies6.raw 9 2 0 = 0 ∧ trestleLoadsAndCopies5.spanOff 7 0x370100 (8 * dF trestleLoadsAndCopies6.raw 24 12 0) = none) ∧
    (trestleLoadsAndCopies7.trsRuns 7 1 ∧ sharedAddr (bytesOf ((td (base 3 + f 9 0 2 + src)) : TDesc).raw 23 16) = Shared.spad 0x370100 ∧ (dPick (trestleLoadsAndCopies7.win 7 1) (fun d => decide (dOp d = 3)) [] (trestleLoadsAndCopies7.win 7 1) = some ((td (base 3 + f 9 0 2 + src)) : TDesc)) ∧ dF ((td (base 3 + f 9 0 2 + src)) : TDesc).raw 9 2 0 ≠ 0 ∧ trestleLoadsAndCopies7.spanOff 7 0x370100 256 = none) ∧
    (trestleLoadsAndCopies8.trsRuns 7 1 ∧ sharedAddr (bytesOf ((td (la 3)) : TDesc).raw 23 16) = Shared.spad 0x370100 ∧ (dPick (trestleLoadsAndCopies8.win 7 1) (fun d => decide (dOp d = 4)) [] (trestleLoadsAndCopies8.win 7 1) = some ((td (la 3)) : TDesc)) ∧ (dF ((td (la 3)) : TDesc).raw 9 2 0 = 0 ∧ 32 = 64 * blocks (actK ((td (la 3)) : TDesc).raw * actM ((td (la 3)) : TDesc).raw) + 4 * actM ((td (la 3)) : TDesc).raw ∨ dF ((td (la 3)) : TDesc).raw 9 2 0 = 3 ∧ 32 = actK ((td (la 3)) : TDesc).raw * actM ((td (la 3)) : TDesc).raw ∨ dF ((td (la 3)) : TDesc).raw 9 2 0 = 4 ∧ 32 = 2 * actK ((td (la 3)) : TDesc).raw * actM ((td (la 3)) : TDesc).raw) ∧ trestleLoadsAndCopies8.spanOff 7 0x370100 32 = none) ∧
    (trestleLoadsAndCopies9.trsRuns 7 1 ∧ sharedAddr (bytesOf ((td (la 1)) : TDesc).raw 23 16) = Shared.spad 0x370100 ∧ (dPick (trestleLoadsAndCopies9.win 7 1) (fun d => decide (dOp d = 4)) [] (trestleLoadsAndCopies9.win 7 1) = some ((td (la 1)) : TDesc)) ∧ (dF ((td (la 1)) : TDesc).raw 9 2 0 = 1 ∧ 2 = 2 ∧ (bf16 : Fmt) = bf16 ∨ dF ((td (la 1)) : TDesc).raw 9 2 0 = 2 ∧ 2 = 4 ∧ (bf16 : Fmt) = fp32) ∧ trestleLoadsAndCopies9.spanOff 7 0x370100 (2 * actK ((td (la 1)) : TDesc).raw * actM ((td (la 1)) : TDesc).raw) = none ∧ 64 * dF ((td (la 1)) : TDesc).raw 10 12 0 + 64 * blocks (actK ((td (la 1)) : TDesc).raw * actM ((td (la 1)) : TDesc).raw) + 4 * actM ((td (la 1)) : TDesc).raw ≤ 2 ^ 19) ∧
    (trestleLoadsAndCopies10.trsRuns 7 1 ∧ sharedAddr (bytesOf ((td (la 2)) : TDesc).raw 23 16) = Shared.spad 0x370100 ∧ (dPick (trestleLoadsAndCopies10.win 7 1) (fun d => decide (dOp d = 4)) [] (trestleLoadsAndCopies10.win 7 1) = some ((td (la 2)) : TDesc)) ∧ (dF ((td (la 2)) : TDesc).raw 9 2 0 = 1 ∧ 4 = 2 ∧ (fp32 : Fmt) = bf16 ∨ dF ((td (la 2)) : TDesc).raw 9 2 0 = 2 ∧ 4 = 4 ∧ (fp32 : Fmt) = fp32) ∧ trestleLoadsAndCopies10.spanOff 7 0x370100 (4 * actK ((td (la 2)) : TDesc).raw * actM ((td (la 2)) : TDesc).raw) = none ∧ 64 * dF ((td (la 2)) : TDesc).raw 10 12 0 + 64 * blocks (actK ((td (la 2)) : TDesc).raw * actM ((td (la 2)) : TDesc).raw) + 4 * actM ((td (la 2)) : TDesc).raw ≤ 2 ^ 19) ∧
    (trestleLoadsAndCopies11.trsRuns 7 1 ∧ sharedAddr (bytesOf trestleLoadsAndCopies12.raw 23 16) = Shared.spad 0x370100 ∧ (dPick (trestleLoadsAndCopies11.win 7 1) (fun d => decide (dOp d = 6) && decide (dF d 9 2 0 = 0)) [] (trestleLoadsAndCopies11.win 7 1) = some trestleLoadsAndCopies12) ∧ trestleLoadsAndCopies11.spanOff 7 0x370100 (64 * dF trestleLoadsAndCopies12.raw 24 13 0) = none) :=
  ⟨by unfold State.trsRuns; and_intros <;> decide +kernel, by unfold State.trsRuns; and_intros <;> decide +kernel, by unfold State.trsRuns; and_intros <;> decide +kernel, by unfold State.trsRuns; and_intros <;> decide +kernel, by unfold State.trsRuns; and_intros <;> decide +kernel, by unfold State.trsRuns; and_intros <;> decide +kernel, by unfold State.trsRuns; and_intros <;> decide +kernel, by unfold State.trsRuns; and_intros <;> decide +kernel⟩

abbrev rn : Nat := base 5 + f 10 0 100 + f 16 0 5 + f 18 0 20 + f 24 0 1
abbrev rr : Nat := base 6 + f 9 0 3 + f 9 4 3 + f 10 0 100 + f 16 0 200 + f 20 0 3 + f 22 0 65530 + f 24 0 4
abbrev own : TDesc := ⟨rr, 1, 0, [65530, 3]⟩
abbrev ra (inc inst : Nat) : Arrival := ⟨7, false, ⟨0,5,2,2,0,4,3, redPayload (2^40+77) 2 4 4 inst (inc=1) false⟩⟩
abbrev prt (b : Nat) (s : State) : State := s.setCfg (s.cabKey 7) {s.cfg (s.cabKey 7) with prot := true, areas := [(s.cabLog 7, 2, b, 2^26)]}
abbrev rs : State := ((tw [td rn]).store (trsAt 7 0 320) 64 (3^200)).store (trsAt 7 0 1280) 256 (7^700)
abbrev em : Nat := base 7 + f 9 0 50 + f 10 0 5 + f 16 0 95000 + f 24 0 1 + f 26 0 3 + f 28 0 100 + f 30 0 16
abbrev ems : State := (((tw [td em]).store (trsAt 7 0 320) 6 0x1234_5678_90AB).store (spadAt 7 0x300000) 8 (90 + 900*2^15 + 2^30)).store (spadAt 7 0x308000) 8 (77*2^26) |>.wrN (xpnd 7) 0x5C 0x300000
abbrev trestleComputesAndReduces1 : State := (tw [td (rn + f 9 3 1)])
abbrev trestleComputesAndReduces2 : State := ((tw [td rr]).store (trsAt 7 0 6400) 64 (3^200))
abbrev trestleComputesAndReduces3 : State := {({(tw []) with cabs := [(7, {Cab.reset with trs0 := [own]})]}) with inbox := [ra 0 3]}
abbrev trestleComputesAndReduces4 : State := {({(tw []) with cabs := [(7, {Cab.reset with trs1 := [own]})]}) with inbox := [ra 1 3]}
abbrev trestleComputesAndReduces5 : State := {({(tw []) with cabs := [(7, {Cab.reset with trs0 := [own], trs1 := [own]})]}) with inbox := [ra 1 3]}
abbrev trestleComputesAndReduces6 : State := ({({(tw []) with cabs := [(7, {Cab.reset with trs1 := [own]})]}) with inbox := [ra 1 3]}.setFld (spad 7) 0x04C 9 8 1)
abbrev trestleComputesAndReduces7 : State := {tw [] with inbox := [ra 1 3]}
abbrev trestleComputesAndReduces8 : State := (prt 0x4000000 {tw [] with inbox := [ra 1 3]})
abbrev trestleComputesAndReduces9 : State := (prt 0x4000000 ({({(tw []) with cabs := [(7, {Cab.reset with trs1 := [own]})]}) with inbox := [ra 1 3]}.setFld (spad 7) 0x04C 9 8 1))

/-- The hypotheses of the clauses of TrestleComputesAndReduces are met: a line holds the hypotheses of one clause, but for those an earlier line holds. -/
theorem witness_TrestleComputesAndReduces :
    (rs.trsRuns 7 0 ∧ (dPick (rs.win 7 0) (fun d => decide (dOp d = 5)) [] (rs.win 7 0) = some ((td rn) : TDesc)) ∧ 16 * runSize ((td rn) : TDesc).raw ≤ runStride ((td rn) : TDesc).raw (runSize ((td rn) : TDesc).raw) ∧ 64 * dF ((td rn) : TDesc).raw 10 12 0 + (dM ((td rn) : TDesc).raw - 1) * runStride ((td rn) : TDesc).raw (runSize ((td rn) : TDesc).raw) + 16 * runSize ((td rn) : TDesc).raw ≤ 2 ^ 19) ∧
    (trestleComputesAndReduces1.trsRuns 7 0 ∧ (dPick (trestleComputesAndReduces1.win 7 0) (fun d => decide (dOp d = 5)) [] (trestleComputesAndReduces1.win 7 0) = some ((td (rn + f 9 3 1)) : TDesc)) ∧ dF ((td (rn + f 9 3 1)) : TDesc).raw 9 3 3 = 1) ∧
    (trestleComputesAndReduces2.trsRuns 7 0 ∧ (dPick (trestleComputesAndReduces2.win 7 0) (fun d => decide (dOp d = 6) && decide (dF d 9 2 0 ≠ 0)) [] (trestleComputesAndReduces2.win 7 0) = some ((td rr) : TDesc))) ∧
    ((List.find? (fun a => decide (a.dest = 7) && decide (a.flit.kind = 4) && decide (a.flit.tag ≠ 63)) trestleComputesAndReduces3.inbox = some ((ra 0 3) : Arrival)) ∧ trestleComputesAndReduces3.live 7 = true ∧ trestleComputesAndReduces3.journalFull (trestleComputesAndReduces3.cabKey 7) (trestleComputesAndReduces3.cabLog 7) = false ∧ 0 < 2 ∧ trestleComputesAndReduces3.redOwner 7 0 ((ra 0 3) : Arrival).flit.tag (nb ((ra 0 3) : Arrival).flit.payload 31 16) = some own ∧ trestleComputesAndReduces3.redOwner 7 (1 - 0) ((ra 0 3) : Arrival).flit.tag (nb ((ra 0 3) : Arrival).flit.payload 31 16) = none ∧ trestleComputesAndReduces3.trsBanks 7 0 = none) ∧
    ((List.find? (fun a => decide (a.dest = 7) && decide (a.flit.kind = 4) && decide (a.flit.tag ≠ 63)) trestleComputesAndReduces4.inbox = some ((ra 1 3) : Arrival)) ∧ trestleComputesAndReduces4.live 7 = true ∧ trestleComputesAndReduces4.journalFull (trestleComputesAndReduces4.cabKey 7) (trestleComputesAndReduces4.cabLog 7) = false ∧ 1 < 2 ∧ trestleComputesAndReduces4.redOwner 7 1 ((ra 1 3) : Arrival).flit.tag (nb ((ra 1 3) : Arrival).flit.payload 31 16) = some own ∧ trestleComputesAndReduces4.redOwner 7 (1 - 1) ((ra 1 3) : Arrival).flit.tag (nb ((ra 1 3) : Arrival).flit.payload 31 16) = none ∧ trestleComputesAndReduces4.trsBanks 7 1 = none) ∧
    ((List.find? (fun a => decide (a.dest = 7) && decide (a.flit.kind = 4) && decide (a.flit.tag ≠ 63)) trestleComputesAndReduces5.inbox = some ((ra 1 3) : Arrival)) ∧ trestleComputesAndReduces5.live 7 = true ∧ trestleComputesAndReduces5.journalFull (trestleComputesAndReduces5.cabKey 7) (trestleComputesAndReduces5.cabLog 7) = false ∧ trestleComputesAndReduces5.redOwner 7 0 ((ra 1 3) : Arrival).flit.tag (nb ((ra 1 3) : Arrival).flit.payload 31 16) = some own ∧ trestleComputesAndReduces5.redOwner 7 1 ((ra 1 3) : Arrival).flit.tag (nb ((ra 1 3) : Arrival).flit.payload 31 16) = some own ∧ trestleComputesAndReduces5.trsBanks 7 0 = none ∧ trestleComputesAndReduces5.trsBanks 7 1 = none) ∧
    ((List.find? (fun a => decide (a.dest = 7) && decide (a.flit.kind = 4) && decide (a.flit.tag ≠ 63)) trestleComputesAndReduces6.inbox = some ((ra 1 3) : Arrival)) ∧ trestleComputesAndReduces6.live 7 = true ∧ trestleComputesAndReduces6.journalFull (trestleComputesAndReduces6.cabKey 7) (trestleComputesAndReduces6.cabLog 7) = false ∧ trestleComputesAndReduces6.redOwner 7 1 ((ra 1 3) : Arrival).flit.tag (nb ((ra 1 3) : Arrival).flit.payload 31 16) = some own ∧ trestleComputesAndReduces6.redOwner 7 (1 - 1) ((ra 1 3) : Arrival).flit.tag (nb ((ra 1 3) : Arrival).flit.payload 31 16) = none ∧ trestleComputesAndReduces6.trsBanks 7 1 = some 20) ∧
    ((List.find? (fun a => decide (a.dest = 7) && decide (a.flit.kind = 4) && decide (a.flit.tag ≠ 63)) trestleComputesAndReduces7.inbox = some ((ra 1 3) : Arrival)) ∧ trestleComputesAndReduces7.live 7 = true ∧ trestleComputesAndReduces7.journalFull (trestleComputesAndReduces7.cabKey 7) (trestleComputesAndReduces7.cabLog 7) = false ∧ trestleComputesAndReduces7.redOwner 7 0 ((ra 1 3) : Arrival).flit.tag (nb ((ra 1 3) : Arrival).flit.payload 31 16) = none ∧ trestleComputesAndReduces7.redOwner 7 1 ((ra 1 3) : Arrival).flit.tag (nb ((ra 1 3) : Arrival).flit.payload 31 16) = none ∧ trestleComputesAndReduces7.flag (qmgr 7) 136 31 = false ∧ trestleComputesAndReduces7.ctrFrozen (qmgr 7) = false) ∧
    ((List.find? (fun a => decide (a.dest = 7) && decide (a.flit.kind = 4) && decide (a.flit.tag ≠ 63)) trestleComputesAndReduces8.inbox = some ((ra 1 3) : Arrival)) ∧ trestleComputesAndReduces8.live 7 = true ∧ trestleComputesAndReduces8.journalFull (trestleComputesAndReduces8.cabKey 7) (trestleComputesAndReduces8.cabLog 7) = false ∧ trestleComputesAndReduces8.redOwner 7 0 ((ra 1 3) : Arrival).flit.tag (nb ((ra 1 3) : Arrival).flit.payload 31 16) = none ∧ trestleComputesAndReduces8.redOwner 7 1 ((ra 1 3) : Arrival).flit.tag (nb ((ra 1 3) : Arrival).flit.payload 31 16) = none ∧ trestleComputesAndReduces8.flag (qmgr 7) 136 31 = false ∧ trestleComputesAndReduces8.ctrFrozen (qmgr 7) = false) ∧
    ((List.find? (fun a => decide (a.dest = 7) && decide (a.flit.kind = 4) && decide (a.flit.tag ≠ 63)) trestleComputesAndReduces9.inbox = some ((ra 1 3) : Arrival)) ∧ trestleComputesAndReduces9.live 7 = true ∧ trestleComputesAndReduces9.journalFull (trestleComputesAndReduces9.cabKey 7) (trestleComputesAndReduces9.cabLog 7) = false ∧ trestleComputesAndReduces9.redOwner 7 1 ((ra 1 3) : Arrival).flit.tag (nb ((ra 1 3) : Arrival).flit.payload 31 16) = some own ∧ trestleComputesAndReduces9.redOwner 7 (1 - 1) ((ra 1 3) : Arrival).flit.tag (nb ((ra 1 3) : Arrival).flit.payload 31 16) = none ∧ trestleComputesAndReduces9.trsBanks 7 1 = some 20) ∧
    (ems.trsRuns 7 0 ∧ (dPick (ems.win 7 0) (fun d => decide (dOp d = 7)) [] (ems.win 7 0) = some ((td em) : TDesc)) ∧ ems.unitStalled 7 7 = false ∧ ems.flag (xpnd 7) 68 1 = false ∧ (∀ (e : Nat × Nat × Nat), e ∈ List.flatMap (fun i => List.filterMap (fun c => if dF ((td em) : TDesc).raw 9 7 0 ≤ ems.tld 7 0 (64 * dF ((td em) : TDesc).raw 10 12 0 + i * dF ((td em) : TDesc).raw 26 12 0 + c) 1 then some (rebuild (bytesOf ((td em) : TDesc).raw 21 16) ems.now + i * dF ((td em) : TDesc).raw 30 15 0, dF ((td em) : TDesc).raw 28 14 0 + c, ems.tld 7 0 (64 * dF ((td em) : TDesc).raw 10 12 0 + i * dF ((td em) : TDesc).raw 26 12 0 + c) 1) else none) (List.range (dF ((td em) : TDesc).raw 26 12 0))) (List.range (dM ((td em) : TDesc).raw)) → (ems.xp 7).epochPast ≤ e.fst)) :=
  ⟨by unfold State.trsRuns; and_intros <;> decide +kernel, by unfold State.trsRuns; and_intros <;> decide +kernel, by unfold State.trsRuns; and_intros <;> decide +kernel, by and_intros <;> decide +kernel, by and_intros <;> decide +kernel, by and_intros <;> decide +kernel, by and_intros <;> decide +kernel, by and_intros <;> decide +kernel, by and_intros <;> decide +kernel, by and_intros <;> decide +kernel, by unfold State.trsRuns; and_intros <;> decide +kernel⟩

abbrev tie : State := (((ti em).wrN (xpnd 7) 0x5C 0x300000).store (spadAt 7 0x300000) 8 (90 + 900*2^15 + 2^30))
abbrev twn (off inc : Nat) : State := z.wrN (trs 7 1) 0x78 (off + inc * 2^31)
abbrev trestleWindow1 : State := (ti (base 9))
abbrev trestleWindow2 : State := (ti (base 1 + src))
abbrev trestleWindow3 : State := (ti em)
abbrev trestleWindow4 : State := (tie.wrN (hzn 7) 0x70 1)
abbrev trestleWindow5 : State := (ti (base 8))
abbrev trestleWindow6 : State := (tw [td (base 8)])
abbrev trestleWindow7 : State := (tw [td rr 1, td rn 2])
abbrev trestleWindow8 : State := (twn 0x893FC 1)
abbrev trestleWindow9 : State := (twn 0x7FFC 0)
abbrev trestleWindow10 : State := (twn 0x89400 0)
abbrev trestleWindow11 : State := {((twn 0x50000 0).wrN (cctl 7) 0x28 2) with partState := [(2,.running)]}

/-- The hypotheses of the clauses of TrestleWindow are met: a line holds the hypotheses of one clause, but for those an earlier line holds. -/
theorem witness_TrestleWindow :
    ((List.find? (fun e => decide (e.fst = 0)) (trestleWindow1.cab 7).trsIn = some ((0, base 9) : Nat × Nat)) ∧ trestleWindow1.live 7 = true ∧ trestleWindow1.unitStalled 7 (1 + 0) = false ∧ (trestleWindow1.win 7 0).length < 16 ∧ trestleWindow1.ctrFrozen (trs 7 0) = false ∧ dBadEnc ((0, base 9) : Nat × Nat).snd = true) ∧
    ((List.find? (fun e => decide (e.fst = 0)) (trestleWindow2.cab 7).trsIn = some ((0, base 1 + src) : Nat × Nat)) ∧ trestleWindow2.live 7 = true ∧ trestleWindow2.unitStalled 7 (1 + 0) = false ∧ (trestleWindow2.win 7 0).length < 16 ∧ trestleWindow2.ctrFrozen (trs 7 0) = false ∧ dBadEnc ((0, base 1 + src) : Nat × Nat).snd = false ∧ dBadRange ((0, base 1 + src) : Nat × Nat).snd = true) ∧
    ((List.find? (fun e => decide (e.fst = 0)) (trestleWindow3.cab 7).trsIn = some ((0, em) : Nat × Nat)) ∧ trestleWindow3.live 7 = true ∧ trestleWindow3.unitStalled 7 (1 + 0) = false ∧ (trestleWindow3.win 7 0).length < 16 ∧ trestleWindow3.ctrFrozen (trs 7 0) = false ∧ dBadEnc ((0, em) : Nat × Nat).snd = false ∧ dBadRange ((0, em) : Nat × Nat).snd = false ∧ trestleWindow3.dBadGroup 7 ((0, em) : Nat × Nat).snd = true) ∧
    ((List.find? (fun e => decide (e.fst = 0)) (tie.cab 7).trsIn = some ((0, em) : Nat × Nat)) ∧ tie.live 7 = true ∧ tie.unitStalled 7 (1 + 0) = false ∧ (tie.win 7 0).length < 16 ∧ tie.ctrFrozen (trs 7 0) = false ∧ tie.dBadGroup 7 ((0, em) : Nat × Nat).snd = false ∧ dOp ((0, em) : Nat × Nat).snd = 7 ∧ tie.floorAllows 7 (rebuild (bytesOf ((0, em) : Nat × Nat).snd 21 16) tie.now) = false) ∧
    ((List.find? (fun e => decide (e.fst = 0)) (trestleWindow4.cab 7).trsIn = some ((0, em) : Nat × Nat)) ∧ trestleWindow4.live 7 = true ∧ trestleWindow4.unitStalled 7 (1 + 0) = false ∧ (trestleWindow4.win 7 0).length < 16 ∧ trestleWindow4.ctrFrozen (trs 7 0) = false ∧ trestleWindow4.dBadGroup 7 ((0, em) : Nat × Nat).snd = false ∧ (dOp ((0, em) : Nat × Nat).snd = 7 → trestleWindow4.floorAllows 7 (rebuild (bytesOf ((0, em) : Nat × Nat).snd 21 16) trestleWindow4.now) = true)) ∧
    ((List.find? (fun e => decide (e.fst = 0)) (trestleWindow5.cab 7).trsIn = some ((0, base 8) : Nat × Nat)) ∧ trestleWindow5.live 7 = true ∧ trestleWindow5.unitStalled 7 (1 + 0) = false ∧ (trestleWindow5.win 7 0).length < 16 ∧ trestleWindow5.ctrFrozen (trs 7 0) = false ∧ dBadEnc ((0, base 8) : Nat × Nat).snd = false ∧ dBadRange ((0, base 8) : Nat × Nat).snd = false ∧ trestleWindow5.dBadGroup 7 ((0, base 8) : Nat × Nat).snd = false ∧ (dOp ((0, base 8) : Nat × Nat).snd = 7 → trestleWindow5.floorAllows 7 (rebuild (bytesOf ((0, base 8) : Nat × Nat).snd 21 16) trestleWindow5.now) = true)) ∧
    (trestleWindow6.win 7 0 = ((td (base 8)) : TDesc) :: ([] : List TDesc) ∧ trestleWindow6.live 7 = true ∧ trestleWindow6.trsPaused 7 0 = false ∧ trestleWindow6.unitStalled 7 (1 + 0) = false ∧ dOp ((td (base 8)) : TDesc).raw = 8 ∧ trestleWindow6.ctrFrozen (trs 7 0) = false) ∧
    ((List.find? (fun x => decide (x.state = 2)) (trestleWindow7.win 7 0) = some ((td rn 2) : TDesc)) ∧ trestleWindow7.live 7 = true ∧ trestleWindow7.unitStalled 7 (1 + 0) = false ∧ (dOp ((td rn 2) : TDesc).raw = 7 → ∀ (e : Evt), e ∈ trestleWindow7.outside 7 → e.type ≠ 5) ∧ trestleWindow7.ctrFrozen (trs 7 0) = false ∧ (trestleWindow7.cab 7).floorHeld = []) ∧
    (z.passes (.bureau : Req) (trs 7 1) 64 = true ∧ ((1 : Word).bit 0 = false ∨ z.partStopped (z.cabKey 7) = true ∨ (.bureau : Req).isPf = true)) ∧
    (hz.passes ((.core 7) : Req) (trs 7 1) 64 = true ∧ (1 : Word).bit 0 = true ∧ hz.partStopped (hz.cabKey 7) = false ∧ ((.core 7) : Req).isPf = false) ∧
    (trestleWindow8.passes (.bureau : Req) (trs 7 1) 124 = true ∧ 4 * trestleWindow8.fld (trs 7 1) 120 19 2 < 562176 ∧ (trestleWindow8.partStopped (trestleWindow8.cabKey 7) = true ∨ trestleWindow8.trsPaused 7 1 = true ∧ trestleWindow8.win 7 1 = []) ∧ (4 * trestleWindow8.fld (trs 7 1) 120 19 2 < 524288 → trestleWindow8.bankOn 7 (bankOf (2 ^ 21 + 1 * 2 ^ 19 + 4 * trestleWindow8.fld (trs 7 1) 120 19 2)) = true)) ∧
    (trestleWindow9.passes (.bureau : Req) (trs 7 1) 124 = true ∧ 4 * trestleWindow9.fld (trs 7 1) 120 19 2 < 562176 ∧ (trestleWindow9.partStopped (trestleWindow9.cabKey 7) = true ∨ trestleWindow9.trsPaused 7 1 = true ∧ trestleWindow9.win 7 1 = []) ∧ (4 * trestleWindow9.fld (trs 7 1) 120 19 2 < 524288 → trestleWindow9.bankOn 7 (bankOf (2 ^ 21 + 1 * 2 ^ 19 + 4 * trestleWindow9.fld (trs 7 1) 120 19 2)) = true)) ∧
    (trestleWindow10.passes (.bureau : Req) (trs 7 1) 124 = true ∧ 562176 ≤ 4 * trestleWindow10.fld (trs 7 1) 120 19 2) ∧
    (trestleWindow11.passes (.bureau : Req) (trs 7 1) 124 = true ∧ 4 * trestleWindow11.fld (trs 7 1) 120 19 2 < 562176 ∧ (¬(trestleWindow11.partStopped (trestleWindow11.cabKey 7) = true ∨ trestleWindow11.trsPaused 7 1 = true ∧ trestleWindow11.win 7 1 = []))) ∧
    (trestleWindow9.reads (.bureau : Req) (trs 7 1) = true) :=
  ⟨by and_intros <;> decide +kernel, by and_intros <;> decide +kernel, by and_intros <;> decide +kernel, by and_intros <;> decide +kernel, by and_intros <;> decide +kernel, by and_intros <;> decide +kernel, by and_intros <;> decide +kernel, by and_intros <;> decide +kernel, by and_intros <;> decide +kernel, by and_intros <;> decide +kernel, by and_intros <;> decide +kernel, by and_intros <;> decide +kernel, by and_intros <;> decide +kernel, by and_intros <;> decide +kernel, by and_intros <;> decide +kernel⟩

abbrev cr (w : Nat) (x : Core) : State := ({hz.setFld (cctl 7) 0xC 1 0 1 with cabs := [(7, {Cab.reset with core := x})] }).store (spadAt 7 x.pc.toNat) 4 w
abbrev c1 : Core := ((Core.reset.put 1 5).put 2 0x370100).put 3 0xFFFFFFF6
abbrev AT (w : Nat) := (cr w c1)
abbrev opOf (w : Nat) : CoreOp := (decodeCore (BitVec.ofNat 32 w)).1
abbrev reg (h r : Nat) (w : Nat) (s : State) : State := s.wrN (hut1 h) (0x100 + 8 * r) w
abbrev controlCoreExecutes1 : State := (AT 0x003081B3)
abbrev controlCoreExecutes2 : State := (AT 0x0085)
abbrev controlCoreExecutes3 : State := ((AT 0x00711203).store (spadAt 7 0x370107) 2 0x8123)
abbrev controlCoreExecutes4 : State := (AT 0x00312323)
abbrev controlCoreExecutes5 : State := (cr 0x30200073 {(c1.setCsr 0x341 0x370200).setCsr 0x300 0x80 with inTrap := true})
abbrev controlCoreExecutes6 : State := (cr 0xFFFFFFFF ((c1.setCsr 0x305 0x370204).setCsr 0x300 8))
abbrev controlCoreExecutes7 : State := (cr 0x00100073 {c1 with inTrap := true})
abbrev controlCoreExecutes8 : State := (((cr 0 (((c1.setCsr 0x305 0x370204).setCsr 0x300 8).setCsr 0x304 0x800)).wrN (cctl 7) 0x50 1).wrN (cctl 7) 0x14 4 |>.wrN (cctl 7) 0x10 4)

/-- The hypotheses of the clauses of ControlCoreExecutes are met: a line holds the hypotheses of one clause, but for those an earlier line holds. -/
theorem witness_ControlCoreExecutes :
    (controlCoreExecutes1.coreAt 7 ((opOf 0x003081B3) : CoreOp) 4 ∧ coreResult (controlCoreExecutes1.core 7) ((opOf 0x003081B3) : CoreOp) = some (3, (0xFFFFFFFB : Word))) ∧
    (controlCoreExecutes2.coreAt 7 ((opOf 0x0085) : CoreOp) 2 ∧ coreResult (controlCoreExecutes2.core 7) ((opOf 0x0085) : CoreOp) = some (1, (6 : Word))) ∧
    (((AT 0x010000EF) : State).coreAt 7 ((.jal 1 16) : CoreOp) 4 ∧ ((.jal 1 16) : CoreOp) = CoreOp.jal 1 (16 : Word)) ∧
    (((AT 0x004100E7) : State).coreAt 7 ((.jalr 1 2 4) : CoreOp) 4 ∧ ((.jalr 1 2 4) : CoreOp) = CoreOp.jalr 1 2 (4 : Word)) ∧
    (((AT 0x0011C463) : State).coreAt 7 ((.branch 4 3 1 8) : CoreOp) 4 ∧ ((.branch 4 3 1 8) : CoreOp) = CoreOp.branch 4 3 1 (8 : Word)) ∧
    (controlCoreExecutes3.coreAt 7 ((.load 1 4 2 7) : CoreOp) 4 ∧ ((.load 1 4 2 7) : CoreOp) = CoreOp.load 1 4 2 (7 : Word) ∧ inShared (BitVec.toNat ((controlCoreExecutes3.core 7).reg 2 + (7 : Word))) (accessBytes 1) = true ∧ controlCoreExecutes3.spanBad 7 (BitVec.toNat ((controlCoreExecutes3.core 7).reg 2 + (7 : Word))) (accessBytes 1) = none) ∧
    (controlCoreExecutes4.coreAt 7 ((.store 2 2 3 6) : CoreOp) 4 ∧ ((.store 2 2 3 6) : CoreOp) = CoreOp.store 2 2 3 (6 : Word) ∧ inShared (BitVec.toNat ((controlCoreExecutes4.core 7).reg 2 + (6 : Word))) (accessBytes 2) = true ∧ controlCoreExecutes4.spanBad 7 (BitVec.toNat ((controlCoreExecutes4.core 7).reg 2 + (6 : Word))) (accessBytes 2) = none ∧ (controlCoreExecutes4.partStopped (controlCoreExecutes4.cabKey 7) = true ∨ ∀ (i : Nat), i < accessBytes 2 → controlCoreExecutes4.inActiveCopy 7 (BitVec.toNat ((controlCoreExecutes4.core 7).reg 2 + (6 : Word)) + i) = false)) ∧
    (((AT 0x0000000F) : State).coreAt 7 (.fence : CoreOp) 4 ∧ (.fence : CoreOp) = CoreOp.fence) ∧
    (((AT 0x30019273) : State).coreAt 7 ((.csr 1 4 3 0x300) : CoreOp) 4 ∧ ((.csr 1 4 3 0x300) : CoreOp) = CoreOp.csr 1 4 3 0x300 ∧ csrKnown 0x300 = true ∧ (0x300 / 1024 % 4 ≠ 3 ∨ 1 % 4 ≠ 1 ∧ 3 = 0)) ∧
    (((AT 0xFC002273) : State).coreAt 7 ((.csr 2 4 0 0xFC0) : CoreOp) 4 ∧ ((.csr 2 4 0 0xFC0) : CoreOp) = CoreOp.csr 2 4 0 0xFC0 ∧ csrKnown 0xFC0 = true ∧ (0xFC0 / 1024 % 4 ≠ 3 ∨ 2 % 4 ≠ 1 ∧ 0 = 0)) ∧
    (controlCoreExecutes5.coreAt 7 (.mret : CoreOp) 4 ∧ (.mret : CoreOp) = CoreOp.mret) ∧
    (controlCoreExecutes6.coreAt 7 (.illegal : CoreOp) 4 ∧ ((.illegal : CoreOp) = CoreOp.illegal ∧ 2 = 2 ∨ (.illegal : CoreOp) = CoreOp.ebreak ∧ 2 = 3 ∨ 2 = 2 ∧ ∃ f rd src n, (.illegal : CoreOp) = CoreOp.csr f rd src n ∧ (csrKnown n = false ∨ n / 1024 % 4 = 3 ∧ (f % 4 = 1 ∨ src ≠ 0))) ∧ (controlCoreExecutes6.core 7).inTrap = false) ∧
    (controlCoreExecutes7.coreAt 7 (.ebreak : CoreOp) 4 ∧ ((.ebreak : CoreOp) = CoreOp.illegal ∧ 3 = 2 ∨ (.ebreak : CoreOp) = CoreOp.ebreak ∧ 3 = 3 ∨ 3 = 2 ∧ ∃ f rd src n, (.ebreak : CoreOp) = CoreOp.csr f rd src n ∧ (csrKnown n = false ∨ n / 1024 % 4 = 3 ∧ (f % 4 = 1 ∨ src ≠ 0))) ∧ (controlCoreExecutes7.core 7).inTrap = true) ∧
    (((AT 0) : State).coreRuns 7 = true) ∧
    (controlCoreExecutes8.coreRuns 7 = true ∧ controlCoreExecutes8.meip 7 = true ∧ ((controlCoreExecutes8.core 7).getCsr 768).bit 3 = true ∧ ((controlCoreExecutes8.core 7).getCsr 772).bit 11 = true) :=
  ⟨by unfold State.coreAt; and_intros <;> decide +kernel, by unfold State.coreAt; and_intros <;> decide +kernel, by unfold State.coreAt; and_intros <;> decide +kernel, by unfold State.coreAt; and_intros <;> decide +kernel, by unfold State.coreAt; and_intros <;> decide +kernel, by unfold State.coreAt; and_intros <;> decide +kernel, by unfold State.coreAt; and_intros <;> decide +kernel, by unfold State.coreAt; and_intros <;> decide +kernel, by unfold State.coreAt; and_intros <;> decide +kernel, by unfold State.coreAt; and_intros <;> decide +kernel, by unfold State.coreAt; and_intros <;> decide +kernel, ⟨by unfold State.coreAt; decide +kernel, .inl (by decide +kernel), by decide +kernel⟩, ⟨by unfold State.coreAt; decide +kernel, .inr (.inl (by decide +kernel)), by decide +kernel⟩, by and_intros <;> decide +kernel, by and_intros <;> decide +kernel⟩

abbrev coreAndBanksAreControlled1 : State := (AT 0)
abbrev coreAndBanksAreControlled2 : State := (z.wrN (cctl 7) 0x44 0x371000)
abbrev coreAndBanksAreControlled3 : State := ((AT 0).wrN (cctl 7) 0x40 1)
abbrev coreAndBanksAreControlled4 : State := (hz.wrN (spad 7) 0x28 2)
abbrev coreAndBanksAreControlled5 : State := (((z.wrN (spad 7) 0x40 0x800).store (spadAt 7 0x80010) 8 77))

/-- The hypotheses of the clauses of CoreAndBanksAreControlled are met: a line holds the hypotheses of one clause, but for those an earlier line holds. -/
theorem witness_CoreAndBanksAreControlled :
    (coreAndBanksAreControlled1.passes (.bureau : Req) (cctl 7) 64 = true ∧ ((.bureau : Req).isPf = true ∨ coreAndBanksAreControlled1.partStopped (coreAndBanksAreControlled1.owner (cctl 7)) = true) ∧ (2 : Word).bit 0 = false) ∧
    (coreAndBanksAreControlled2.passes (.bureau : Req) (cctl 7) 64 = true ∧ ((.bureau : Req).isPf = true ∨ coreAndBanksAreControlled2.partStopped (coreAndBanksAreControlled2.owner (cctl 7)) = true) ∧ (1 : Word).bit 0 = true ∧ coreAndBanksAreControlled2.flag (cctl 7) 64 0 = false) ∧
    (coreAndBanksAreControlled3.passes (.bureau : Req) (cctl 7) 64 = true ∧ ((.bureau : Req).isPf = true ∨ coreAndBanksAreControlled3.partStopped (coreAndBanksAreControlled3.owner (cctl 7)) = true) ∧ coreAndBanksAreControlled3.flag (cctl 7) 64 0 = true ∧ coreAndBanksAreControlled3.coreState 7 ≠ 3) ∧
    (coreAndBanksAreControlled1.passes ((.core 7) : Req) (cctl 7) 64 = true ∧ ((.core 7) : Req).isPf = false ∧ coreAndBanksAreControlled1.partStopped (coreAndBanksAreControlled1.owner (cctl 7)) = false ∧ (1 : Word).bit 0 ≠ coreAndBanksAreControlled1.flag (cctl 7) 64 0) ∧
    (z.passes (.bureau : Req) (cctl 7) 104 = true) ∧
    ((z.passes (.bureau : Req) (spad 7) (if (true : Bool) = true then 68 else 64) = true) ∧ ((.bureau : Req).isPf = true ∨ z.partStopped (z.owner (spad 7)) = true ∧ (.bureau : Req).isCore = false)) ∧
    ((coreAndBanksAreControlled4.passes ((.core 7) : Req) (spad 7) (if (false : Bool) = true then 68 else 64) = true) ∧ (coreAndBanksAreControlled4.partStopped (coreAndBanksAreControlled4.owner (spad 7)) = false ∨ ((.core 7) : Req).isCore = true)) ∧
    (5 < 32 ∧ coreAndBanksAreControlled5.bankMode 7 5 ≠ coreAndBanksAreControlled5.bankReq 7 5) :=
  ⟨by and_intros <;> decide +kernel, by and_intros <;> decide +kernel, by and_intros <;> decide +kernel, by and_intros <;> decide +kernel, by and_intros <;> decide +kernel, by and_intros <;> decide +kernel, by and_intros <;> decide +kernel, by and_intros <;> decide +kernel⟩

abbrev r1 : List FifoRec := [⟨[2^40+5],1,0,0⟩,⟨[1],1,0,0⟩]
abbrev r2 : List FifoRec := [⟨[2^40+5,7],1,0,0⟩,⟨[1],1,0,0⟩]
abbrev qw (k rd r1 r2 r3 : Nat) : Nat := if k = 1 then 0x0B + rd*128 + 1*4096 + r1*2^15 + r2*2^20 + r3*2^27 else if k < 5 then 0x0B + rd*128 + k*4096 + r1*2^15 + r2*2^20 else 0x2B + rd*128 + (k-5)*4096 + r1*2^15 + r2*2^20
abbrev qs (k : Nat) (c : Core) (q : Qm) : State := (({hz.setFld (cctl 7) 0xC 1 0 1 with cabs := [(7, {Cab.reset with core := c, q := q})] }).store (spadAt 7 c.pc.toNat) 4 (qw k (if k = 5 then 0 else 4) 1 (if k = 6 then 0 else 2) (if k = 1 then 3 else 0))).store (spadAt 7 0x370100) 32 (3^160)
abbrev q0 : Qm := Cab.reset.q
abbrev qmc : Qm := {q0 with mc := [(64*5+1, 0x80000077), (64*5+3, 0x80000099)]}
abbrev qc (head tail : Nat) : QCtx := ⟨0x370800/32, 1, 0, head, tail, 2, 0, 0, false, false, true, false, false, true, false⟩
abbrev qq (head tail : Nat) : Qm := {q0 with ctx := [(5, qc head tail)]}
abbrev msgd (s : State) : State := s.store (spadAt 7 0x370860) 32 (7^80)
abbrev evb (ty : Nat) (s : State) : State := s.store (spadAt 7 0x370100) 32 (eventPayload 95000 3 77 20 9 ty)
abbrev ci : Core := c1.put 1 0x370100
abbrev holdq (s : State) : State := s.setXp 7 { s.xp 7 with hold := List.replicate 1024 ⟨900000, 3, 77, 20, 6000, 2, false, 0, 0⟩ }
abbrev queueInstructions1 : State := (qs 0 (c1.put 2 0x370101) q0)
abbrev queueInstructions2 : State := (qs 1 (c1.put 1 0x100000) q0)
abbrev queueInstructions3 : State := (qs 4 c1 q0)
abbrev queueInstructions4 : State := (qs 4 c1 qmc)
abbrev queueInstructions5 : State := (qs 0 c1 q0)
abbrev queueInstructions6 : State := (qs 1 c1 q0)
abbrev queueInstructions7 : State := (qs 2 c1 q0)
abbrev queueInstructions8 : State := (qs 2 c1 (qq 3 3))
abbrev queueInstructions9 : State := (msgd (qs 2 c1 (qq 3 5)))
abbrev queueInstructions10 : Instr := (.qrecvReceive 7 ⟨.clean, .clean⟩)
abbrev queueInstructions11 : State := (msgd (qs 2 {c1 with wait := some (.qrecv 5 4 0x370100)} (qq 3 5)))
abbrev queueInstructions12 : State := (qs 3 c1 q0)
abbrev queueInstructions13 : State := (qs 3 c1 (qq 3 3))
abbrev queueInstructions14 : State := (msgd (qs 3 c1 (qq 3 5)))
abbrev queueInstructions15 : State := ((qs 5 c1 q0).wr64 (hzn 7) 0x58 (2^60))
abbrev queueInstructions16 : State := (qs 5 c1 q0)
abbrev queueInstructions17 : State := ((qs 5 {c1 with wait := some (.hzwait 100)} q0).wr64 (hzn 7) 0x58 100)
abbrev queueInstructions18 : State := (qs 6 c1 q0)
abbrev queueInstructions19 : State := (evb 3 (qs 6 ci q0))
abbrev queueInstructions20 : State := (evb 0 (qs 6 ci q0))
abbrev queueInstructions21 : State := ((evb 0 (qs 6 ci q0)).wrN (hzn 7) 0x70 1)
abbrev queueInstructions22 : State := ((evb 2 (qs 6 ci q0)).wrN (hzn 7) 0x70 1)
abbrev queueInstructions23 : State := ((evb 2 (holdq (qs 6 ci q0))).wrN (hzn 7) 0x70 1)

/-- The hypotheses of the clauses of QueueInstructions are met: a line holds the hypotheses of one clause, but for those an earlier line holds. -/
theorem witness_QueueInstructions :
    (queueInstructions1.queueOp 7 = some (0, 4, 1, 2, 0) ∧ (0 = 0 ∧ ((.qsend 7 .clean) : Instr) = Instr.qsend 7 EccRead.clean ∨ 0 = 1 ∧ ((.qsend 7 .clean) : Instr) = Instr.qsendT 7 EccRead.clean ∨ 0 = 4 ∧ ((.qsend 7 .clean) : Instr) = Instr.qmcast 7 { ctx := EccRead.clean, msg := EccRead.clean : QmReads }) ∧ queueAddr (BitVec.toNat ((queueInstructions1.core 7).reg 2)) = false) ∧
    (queueInstructions2.queueOp 7 = some (1, 4, 1, 2, 3) ∧ (1 = 0 ∧ ((.qsendT 7 .clean) : Instr) = Instr.qsend 7 EccRead.clean ∨ 1 = 1 ∧ ((.qsendT 7 .clean) : Instr) = Instr.qsendT 7 EccRead.clean ∨ 1 = 4 ∧ ((.qsendT 7 .clean) : Instr) = Instr.qmcast 7 { ctx := EccRead.clean, msg := EccRead.clean : QmReads }) ∧ queueAddr (BitVec.toNat ((queueInstructions2.core 7).reg 2)) = true ∧ ((if 1 = 4 then 256 else 2 ^ 20) ≤ BitVec.toNat ((queueInstructions2.core 7).reg 1))) ∧
    (queueInstructions3.queueOp 7 = some (4, 4, 1, 2, 0) ∧ (4 = 0 ∧ ((.qmcast 7 ⟨.clean, .clean⟩) : Instr) = Instr.qsend 7 EccRead.clean ∨ 4 = 1 ∧ ((.qmcast 7 ⟨.clean, .clean⟩) : Instr) = Instr.qsendT 7 EccRead.clean ∨ 4 = 4 ∧ ((.qmcast 7 ⟨.clean, .clean⟩) : Instr) = Instr.qmcast 7 { ctx := EccRead.clean, msg := EccRead.clean : QmReads }) ∧ 4 = 4 ∧ queueAddr (BitVec.toNat ((queueInstructions3.core 7).reg 2)) = true ∧ BitVec.toNat ((queueInstructions3.core 7).reg 1) < 256 ∧ queueInstructions3.groupMembers 7 (BitVec.toNat ((queueInstructions3.core 7).reg 1)) = []) ∧
    (queueInstructions4.queueOp 7 = some (4, 4, 1, 2, 0) ∧ queueAddr (BitVec.toNat ((queueInstructions4.core 7).reg 2)) = true ∧ queueInstructions4.spanOff 7 (BitVec.toNat ((queueInstructions4.core 7).reg 2)) 32 = none ∧ (if 4 = 4 then BitVec.toNat ((queueInstructions4.core 7).reg 1) < 256 ∧ queueInstructions4.groupMembers 7 (BitVec.toNat ((queueInstructions4.core 7).reg 1)) = 0x77 :: ([0x99] : List Nat) else 0x77 = BitVec.toNat ((queueInstructions4.core 7).reg 1) ∧ ([0x99] : List Nat) = [] ∧ BitVec.toNat ((queueInstructions4.core 7).reg 1) < 2 ^ 20) ∧ isCab 7 = true ∧ 0x77 / 4096 % 256 = queueInstructions4.cabLog 7 ∧ (queueInstructions4.cab 7).replay = false ∧ (queueInstructions4.qm 7).first 0 = none) ∧
    (queueInstructions5.queueOp 7 = some (0, 4, 1, 2, 0) ∧ queueAddr (BitVec.toNat ((queueInstructions5.core 7).reg 2)) = true ∧ queueInstructions5.spanOff 7 (BitVec.toNat ((queueInstructions5.core 7).reg 2)) 32 = none ∧ (if 0 = 4 then BitVec.toNat ((queueInstructions5.core 7).reg 1) < 256 ∧ queueInstructions5.groupMembers 7 (BitVec.toNat ((queueInstructions5.core 7).reg 1)) = 5 :: ([] : List Nat) else 5 = BitVec.toNat ((queueInstructions5.core 7).reg 1) ∧ ([] : List Nat) = [] ∧ BitVec.toNat ((queueInstructions5.core 7).reg 1) < 2 ^ 20) ∧ 5 / 4096 % 256 = queueInstructions5.cabLog 7 ∧ (queueInstructions5.cab 7).replay = false ∧ (queueInstructions5.qm 7).first 0 = none) ∧
    (queueInstructions6.queueOp 7 = some (1, 4, 1, 2, 3) ∧ queueAddr (BitVec.toNat ((queueInstructions6.core 7).reg 2)) = true ∧ queueInstructions6.spanOff 7 (BitVec.toNat ((queueInstructions6.core 7).reg 2)) 32 = none ∧ (if 1 = 4 then BitVec.toNat ((queueInstructions6.core 7).reg 1) < 256 ∧ queueInstructions6.groupMembers 7 (BitVec.toNat ((queueInstructions6.core 7).reg 1)) = 5 :: ([] : List Nat) else 5 = BitVec.toNat ((queueInstructions6.core 7).reg 1) ∧ ([] : List Nat) = [] ∧ BitVec.toNat ((queueInstructions6.core 7).reg 1) < 2 ^ 20) ∧ 5 / 4096 % 256 = queueInstructions6.cabLog 7 ∧ (queueInstructions6.cab 7).replay = false ∧ (queueInstructions6.qm 7).first 0 = none) ∧
    (0 < 4 ∧ 4 < 31 ∧ ((((.qrecv 7 ⟨.clean, .clean⟩) : Instr) = Instr.qrecv 7 { ctx := EccRead.clean, msg := EccRead.clean : QmReads } ∧ ∃ r1 r2 r3, queueInstructions7.queueOp 7 = some (2, 4, r1, r2, r3) ∧ 5 = BitVec.toNat ((queueInstructions7.core 7).reg r1) ∧ 0x370100 = BitVec.toNat ((queueInstructions7.core 7).reg r2)) ∨ ((.qrecv 7 ⟨.clean, .clean⟩) : Instr) = Instr.qrecvReceive 7 { ctx := EccRead.clean, msg := EccRead.clean : QmReads } ∧ (queueInstructions7.core 7).wait = some (CoreWait.qrecv 5 4 0x370100) ∧ queueInstructions7.coreState 7 = 1 ∧ queueInstructions7.isHalted 7 = false ∧ queueInstructions7.live 7 = true) ∧ ((.qrecv 7 ⟨.clean, .clean⟩) : Instr) = Instr.qrecv 7 { ctx := EccRead.clean, msg := EccRead.clean : QmReads } ∧ queueInstructions7.localFail 7 5 (queueAddr 0x370100) = some 2) ∧
    (((((.qrecv 7 ⟨.clean, .clean⟩) : Instr) = Instr.qrecv 7 { ctx := EccRead.clean, msg := EccRead.clean : QmReads } ∧ ∃ r1 r2 r3, queueInstructions8.queueOp 7 = some (2, 4, r1, r2, r3) ∧ 5 = BitVec.toNat ((queueInstructions8.core 7).reg r1) ∧ 0x370100 = BitVec.toNat ((queueInstructions8.core 7).reg r2)) ∨ ((.qrecv 7 ⟨.clean, .clean⟩) : Instr) = Instr.qrecvReceive 7 { ctx := EccRead.clean, msg := EccRead.clean : QmReads } ∧ (queueInstructions8.core 7).wait = some (CoreWait.qrecv 5 4 0x370100) ∧ queueInstructions8.coreState 7 = 1 ∧ queueInstructions8.isHalted 7 = false ∧ queueInstructions8.live 7 = true) ∧ queueInstructions8.localFail 7 5 (queueAddr 0x370100) = none ∧ (queueInstructions8.qctx 7 5).occ = 0) ∧
    (((((.qrecv 7 ⟨.clean, .clean⟩) : Instr) = Instr.qrecv 7 { ctx := EccRead.clean, msg := EccRead.clean : QmReads } ∧ ∃ r1 r2 r3, queueInstructions9.queueOp 7 = some (2, 4, r1, r2, r3) ∧ 5 = BitVec.toNat ((queueInstructions9.core 7).reg r1) ∧ 0x370100 = BitVec.toNat ((queueInstructions9.core 7).reg r2)) ∨ ((.qrecv 7 ⟨.clean, .clean⟩) : Instr) = Instr.qrecvReceive 7 { ctx := EccRead.clean, msg := EccRead.clean : QmReads } ∧ (queueInstructions9.core 7).wait = some (CoreWait.qrecv 5 4 0x370100) ∧ queueInstructions9.coreState 7 = 1 ∧ queueInstructions9.isHalted 7 = false ∧ queueInstructions9.live 7 = true) ∧ queueInstructions9.localFail 7 5 (queueAddr 0x370100) = none ∧ (queueInstructions9.qctx 7 5).occ ≠ 0 ∧ (queueInstructions9.qctx 7 5).loc = 1 ∧ inShared ((queueInstructions9.qctx 7 5).entryAt (queueInstructions9.qctx 7 5).head) 32 = true ∧ (queueInstructions9.partStopped (queueInstructions9.cabKey 7) = true ∨ ∀ (i : Nat), i < 32 → queueInstructions9.inActiveCopy 7 (0x370100 + i) = false) ∧ queueInstructions9.spanOff 7 ((queueInstructions9.qctx 7 5).entryAt (queueInstructions9.qctx 7 5).head) 32 = none ∧ queueInstructions9.spanOff 7 0x370100 32 = none) ∧
    (((queueInstructions10 = Instr.qrecv 7 { ctx := EccRead.clean, msg := EccRead.clean : QmReads } ∧ ∃ r1 r2 r3, queueInstructions11.queueOp 7 = some (2, 4, r1, r2, r3) ∧ 5 = BitVec.toNat ((queueInstructions11.core 7).reg r1) ∧ 0x370100 = BitVec.toNat ((queueInstructions11.core 7).reg r2)) ∨ queueInstructions10 = Instr.qrecvReceive 7 { ctx := EccRead.clean, msg := EccRead.clean : QmReads } ∧ (queueInstructions11.core 7).wait = some (CoreWait.qrecv 5 4 0x370100) ∧ queueInstructions11.coreState 7 = 1 ∧ queueInstructions11.isHalted 7 = false ∧ queueInstructions11.live 7 = true) ∧ queueInstructions11.localFail 7 5 (queueAddr 0x370100) = none ∧ (queueInstructions11.qctx 7 5).occ ≠ 0 ∧ (queueInstructions11.qctx 7 5).loc = 1 ∧ inShared ((queueInstructions11.qctx 7 5).entryAt (queueInstructions11.qctx 7 5).head) 32 = true ∧ (queueInstructions11.partStopped (queueInstructions11.cabKey 7) = true ∨ ∀ (i : Nat), i < 32 → queueInstructions11.inActiveCopy 7 (0x370100 + i) = false) ∧ queueInstructions11.spanOff 7 ((queueInstructions11.qctx 7 5).entryAt (queueInstructions11.qctx 7 5).head) 32 = none ∧ queueInstructions11.spanOff 7 0x370100 32 = none) ∧
    (queueInstructions12.queueOp 7 = some (3, 4, 1, 2, 0) ∧ queueInstructions12.localFail 7 (BitVec.toNat ((queueInstructions12.core 7).reg 1)) (decide (2 = 0) || queueAddr (BitVec.toNat ((queueInstructions12.core 7).reg 2))) ≠ none) ∧
    (queueInstructions13.queueOp 7 = some (3, 4, 1, 2, 0) ∧ queueInstructions13.localFail 7 (BitVec.toNat ((queueInstructions13.core 7).reg 1)) (decide (2 = 0) || queueAddr (BitVec.toNat ((queueInstructions13.core 7).reg 2))) = none ∧ (2 = 0 ∨ (queueInstructions13.qctx 7 (BitVec.toNat ((queueInstructions13.core 7).reg 1))).occ = 0)) ∧
    (queueInstructions14.queueOp 7 = some (3, 4, 1, 2, 0) ∧ queueInstructions14.localFail 7 (BitVec.toNat ((queueInstructions14.core 7).reg 1)) (decide (2 = 0) || queueAddr (BitVec.toNat ((queueInstructions14.core 7).reg 2))) = none ∧ 2 ≠ 0 ∧ (queueInstructions14.qctx 7 (BitVec.toNat ((queueInstructions14.core 7).reg 1))).occ ≠ 0 ∧ (queueInstructions14.qctx 7 (BitVec.toNat ((queueInstructions14.core 7).reg 1))).loc = 1 ∧ inShared ((queueInstructions14.qctx 7 (BitVec.toNat ((queueInstructions14.core 7).reg 1))).entryAt (queueInstructions14.qctx 7 (BitVec.toNat ((queueInstructions14.core 7).reg 1))).head) 32 = true ∧ (queueInstructions14.partStopped (queueInstructions14.cabKey 7) = true ∨ ∀ (i : Nat), i < 32 → queueInstructions14.inActiveCopy 7 (BitVec.toNat ((queueInstructions14.core 7).reg 2) + i) = false) ∧ queueInstructions14.spanOff 7 ((queueInstructions14.qctx 7 (BitVec.toNat ((queueInstructions14.core 7).reg 1))).entryAt (queueInstructions14.qctx 7 (BitVec.toNat ((queueInstructions14.core 7).reg 1))).head) 32 = none ∧ queueInstructions14.spanOff 7 (BitVec.toNat ((queueInstructions14.core 7).reg 2)) 32 = none) ∧
    (queueInstructions15.queueOp 7 = some (5, 0, 1, 2, 0) ∧ BitVec.toNat ((queueInstructions15.core 7).reg 2) * 2 ^ 32 + BitVec.toNat ((queueInstructions15.core 7).reg 1) ≤ queueInstructions15.safe 7) ∧
    (queueInstructions16.queueOp 7 = some (5, 0, 1, 2, 0) ∧ queueInstructions16.safe 7 < BitVec.toNat ((queueInstructions16.core 7).reg 2) * 2 ^ 32 + BitVec.toNat ((queueInstructions16.core 7).reg 1)) ∧
    ((queueInstructions17.core 7).wait = some (CoreWait.hzwait 100) ∧ queueInstructions17.coreState 7 = 1 ∧ queueInstructions17.isHalted 7 = false ∧ queueInstructions17.live 7 = true ∧ 100 ≤ queueInstructions17.safe 7) ∧
    (queueInstructions18.queueOp 7 = some (6, 4, 1, 0, 0) ∧ queueAddr (BitVec.toNat ((queueInstructions18.core 7).reg 1)) = false) ∧
    (queueInstructions19.queueOp 7 = some (6, 4, 1, 0, 0) ∧ queueAddr (BitVec.toNat ((queueInstructions19.core 7).reg 1)) = true ∧ queueInstructions19.spanOff 7 (BitVec.toNat ((queueInstructions19.core 7).reg 1)) 32 = none ∧ queueInstructions19.blockOk 7 (queueInstructions19.load (spadAt 7 (BitVec.toNat ((queueInstructions19.core 7).reg 1))) 32) = false) ∧
    (queueInstructions20.queueOp 7 = some (6, 4, 1, 0, 0) ∧ queueAddr (BitVec.toNat ((queueInstructions20.core 7).reg 1)) = true ∧ queueInstructions20.spanOff 7 (BitVec.toNat ((queueInstructions20.core 7).reg 1)) 32 = none ∧ queueInstructions20.blockOk 7 (queueInstructions20.load (spadAt 7 (BitVec.toNat ((queueInstructions20.core 7).reg 1))) 32) = true ∧ queueInstructions20.floorAllows 7 (rebuild (evTime (queueInstructions20.load (spadAt 7 (BitVec.toNat ((queueInstructions20.core 7).reg 1))) 32 % 2 ^ 128)) queueInstructions20.now) = false) ∧
    (queueInstructions21.queueOp 7 = some (6, 4, 1, 0, 0) ∧ queueAddr (BitVec.toNat ((queueInstructions21.core 7).reg 1)) = true ∧ queueInstructions21.spanOff 7 (BitVec.toNat ((queueInstructions21.core 7).reg 1)) 32 = none ∧ queueInstructions21.blockOk 7 (queueInstructions21.load (spadAt 7 (BitVec.toNat ((queueInstructions21.core 7).reg 1))) 32) = true ∧ queueInstructions21.floorAllows 7 (rebuild (evTime (queueInstructions21.load (spadAt 7 (BitVec.toNat ((queueInstructions21.core 7).reg 1))) 32 % 2 ^ 128)) queueInstructions21.now) = true ∧ nb (queueInstructions21.load (spadAt 7 (BitVec.toNat ((queueInstructions21.core 7).reg 1))) 32) 129 128 = 0 ∧ nb (queueInstructions21.load (spadAt 7 (BitVec.toNat ((queueInstructions21.core 7).reg 1))) 32) 137 130 = queueInstructions21.cabLog 7) ∧
    (queueInstructions22.queueOp 7 = some (6, 4, 1, 0, 0) ∧ queueAddr (BitVec.toNat ((queueInstructions22.core 7).reg 1)) = true ∧ queueInstructions22.spanOff 7 (BitVec.toNat ((queueInstructions22.core 7).reg 1)) 32 = none ∧ queueInstructions22.blockOk 7 (queueInstructions22.load (spadAt 7 (BitVec.toNat ((queueInstructions22.core 7).reg 1))) 32) = true ∧ queueInstructions22.floorAllows 7 (rebuild (evTime (queueInstructions22.load (spadAt 7 (BitVec.toNat ((queueInstructions22.core 7).reg 1))) 32 % 2 ^ 128)) queueInstructions22.now) = true ∧ nb (queueInstructions22.load (spadAt 7 (BitVec.toNat ((queueInstructions22.core 7).reg 1))) 32) 129 128 = 0 ∧ nb (queueInstructions22.load (spadAt 7 (BitVec.toNat ((queueInstructions22.core 7).reg 1))) 32) 137 130 = queueInstructions22.cabLog 7) ∧
    (queueInstructions23.queueOp 7 = some (6, 4, 1, 0, 0) ∧ queueAddr (BitVec.toNat ((queueInstructions23.core 7).reg 1)) = true ∧ queueInstructions23.spanOff 7 (BitVec.toNat ((queueInstructions23.core 7).reg 1)) 32 = none ∧ queueInstructions23.blockOk 7 (queueInstructions23.load (spadAt 7 (BitVec.toNat ((queueInstructions23.core 7).reg 1))) 32) = true ∧ queueInstructions23.floorAllows 7 (rebuild (evTime (queueInstructions23.load (spadAt 7 (BitVec.toNat ((queueInstructions23.core 7).reg 1))) 32 % 2 ^ 128)) queueInstructions23.now) = true ∧ nb (queueInstructions23.load (spadAt 7 (BitVec.toNat ((queueInstructions23.core 7).reg 1))) 32) 129 128 = 0 ∧ nb (queueInstructions23.load (spadAt 7 (BitVec.toNat ((queueInstructions23.core 7).reg 1))) 32) 137 130 = queueInstructions23.cabLog 7) :=
  ⟨by and_intros <;> decide +kernel, by and_intros <;> decide +kernel, by and_intros <;> decide +kernel, by and_intros <;> decide +kernel, by and_intros <;> decide +kernel, by and_intros <;> decide +kernel, ⟨by decide +kernel, by decide +kernel, .inl ⟨rfl, 1, 2, 0, by decide +kernel, by decide +kernel, by decide +kernel⟩, by decide +kernel, by decide +kernel⟩, ⟨.inl ⟨rfl, 1, 2, 0, by decide +kernel, by decide +kernel, by decide +kernel⟩, by decide +kernel, by decide +kernel⟩, ⟨.inl ⟨rfl, 1, 2, 0, by decide +kernel, by decide +kernel, by decide +kernel⟩, by decide +kernel, by decide +kernel, by decide +kernel, by decide +kernel, by decide +kernel, by decide +kernel, by decide +kernel⟩, ⟨.inr (by decide +kernel), by decide +kernel, by decide +kernel, by decide +kernel, by decide +kernel, by decide +kernel, by decide +kernel, by decide +kernel⟩, by and_intros <;> decide +kernel, by and_intros <;> decide +kernel, by and_intros <;> decide +kernel, by and_intros <;> decide +kernel, by and_intros <;> decide +kernel, by and_intros <;> decide +kernel, by and_intros <;> decide +kernel, by and_intros <;> decide +kernel, by and_intros <;> decide +kernel, by and_intros <;> decide +kernel, by and_intros <;> decide +kernel, by and_intros <;> decide +kernel⟩

abbrev qst (q : Qm) : State := {hz with cabs := [(7, {Cab.reset with q := q})]}
abbrev qqf (c : QCtx) (l : List Send) : Qm := {q0 with ctx := [(5, c)], sends := l}
abbrev lev (c : QCtx) : QCtx := {c with ie := true, thr := 3}
abbrev mg (key : Nat) : Nat := message 9 3 key false 7 (5^60)
abbrev sd (st qid key : Nat) : Send := ⟨3, qid, mg key, st, 1024, 4099, 0, 80000, none, none, false, false, [], 0⟩
abbrev cs (l : Option Nat) : Send := {sd 1 5 2 with unit := 0, limit := l, seq := 4096}
abbrev sa (cls : Nat) (l : Option Nat) : State := { hz with notices := [⟨7, 1024, 2, cls, 4096⟩], cabs := [(7, {Cab.reset with core := {c1 with wait := some (.send 4 1)}, q := qqf (qc 3 5) [sd 1 5 2, cs l]})] }
abbrev cst (c : Option QCtx) : State := ((((((match c with | some c => qst (qqf c []) | none => qst q0).wrN (qmgr 7) 0x40 5).wrN (qmgr 7) 0x44 (0x371000/32)).wrN (qmgr 7) 0x48 0x5)).wrN (qmgr 7) 0x4C 0x6280)
abbrev pdr (b : Nat) : State := msgd (qst (qqf {qc 3 5 with bind := b} []))
abbrev queueManager1 : State := (qst (qqf (lev (qc 3 5)) [sd 1 5 2]))
abbrev queueManager2 : State := (prt 0x4000000 (qst (qqf (lev (qc 3 5)) [sd 1 5 2])))
abbrev queueManager3 : State := (qst (qqf (qc 3 7) [sd 1 5 2]))
abbrev queueManager4 : State := (qst (qqf {qc 3 7 with v := false} [sd 1 5 2]))
abbrev queueManager5 : State := (qst (qqf (qc 3 5) [sd 1 5 4]))
abbrev queueManager6 : State := (sa 18 none)
abbrev queueManager7 : State := (sa 24 (some 900000))
abbrev queueManager8 : State := (qst (qqf (qc 3 5) [{sd 2 5 2 with unit := 4}, sd 2 5 2]))
abbrev queueManager9 : State := (cst none)
abbrev queueManager10 : State := (cst (some (qc 3 3)))
abbrev queueManager11 : State := (cst (some (qc 3 4)))
abbrev queueManager12 : State := (pdr 2)
abbrev queueManager13 : State := (pdr 6)
abbrev queueManager14 : State := (pdr 7)
abbrev queueManager15 : State := ((qst (qqf (qc 3 5) [{sd 2 5 2 with blocked := some 5000}])).wrN (cctl 7) 0x48 2)
abbrev queueManager16 : Send := {sd 2 5 2 with blocked := some 5000}
abbrev queueManager17 : State := ((pdr 0).wrN (qmgr 7) 0x40 5)

/-- The hypotheses of the clauses of QueueManager are met: a line holds the hypotheses of one clause, but for those an earlier line holds. -/
theorem witness_QueueManager :
    (queueManager1.ready (cctl 7) = true ∧ (List.find? (fun x => decide (x.unit = 3) && decide (x.state = 1) && decide (x.seq = 4096 + 3)) (queueManager1.qm 7).sends = some ((sd 1 5 2) : Send)) ∧ (queueManager1.cab 7).frozen = false ∧ (queueManager1.cab 7).fenced = false ∧ (queueManager1.cab 7).replay = false ∧ (queueManager1.qctx 7 (((sd 1 5 2) : Send).qid % 4096)).v = true ∧ (msgKey ((sd 1 5 2) : Send).msg = (queueManager1.qctx 7 (((sd 1 5 2) : Send).qid % 4096)).owner ∨ msgKey ((sd 1 5 2) : Send).msg = 0) ∧ (((sd 1 5 2) : Send).msg.testBit 24 = true → (queueManager1.qctx 7 (((sd 1 5 2) : Send).qid % 4096)).mcast = true) ∧ (queueManager1.qctx 7 (((sd 1 5 2) : Send).qid % 4096)).occ < (queueManager1.qctx 7 (((sd 1 5 2) : Send).qid % 4096)).size ∧ queueManager1.journalNoRoom (queueManager1.cabKey 7) (queueManager1.cabLog 7) 3 = false ∧ (queueManager1.qctx 7 (((sd 1 5 2) : Send).qid % 4096)).loc = 1 ∧ inShared ((queueManager1.qctx 7 (((sd 1 5 2) : Send).qid % 4096)).entryAt (queueManager1.qctx 7 (((sd 1 5 2) : Send).qid % 4096)).tail) 32 = true ∧ queueManager1.spanOff 7 ((queueManager1.qctx 7 (((sd 1 5 2) : Send).qid % 4096)).entryAt (queueManager1.qctx 7 (((sd 1 5 2) : Send).qid % 4096)).tail) 32 = none) ∧
    (queueManager2.ready (cctl 7) = true ∧ (List.find? (fun x => decide (x.unit = 3) && decide (x.state = 1) && decide (x.seq = 4096 + 3)) (queueManager2.qm 7).sends = some ((sd 1 5 2) : Send)) ∧ (queueManager2.cab 7).frozen = false ∧ (queueManager2.cab 7).fenced = false ∧ (queueManager2.cab 7).replay = false ∧ (queueManager2.qctx 7 (((sd 1 5 2) : Send).qid % 4096)).v = true ∧ (msgKey ((sd 1 5 2) : Send).msg = (queueManager2.qctx 7 (((sd 1 5 2) : Send).qid % 4096)).owner ∨ msgKey ((sd 1 5 2) : Send).msg = 0) ∧ (((sd 1 5 2) : Send).msg.testBit 24 = true → (queueManager2.qctx 7 (((sd 1 5 2) : Send).qid % 4096)).mcast = true) ∧ (queueManager2.qctx 7 (((sd 1 5 2) : Send).qid % 4096)).occ < (queueManager2.qctx 7 (((sd 1 5 2) : Send).qid % 4096)).size ∧ queueManager2.journalNoRoom (queueManager2.cabKey 7) (queueManager2.cabLog 7) 3 = false ∧ (queueManager2.qctx 7 (((sd 1 5 2) : Send).qid % 4096)).loc = 1 ∧ inShared ((queueManager2.qctx 7 (((sd 1 5 2) : Send).qid % 4096)).entryAt (queueManager2.qctx 7 (((sd 1 5 2) : Send).qid % 4096)).tail) 32 = true ∧ queueManager2.spanOff 7 ((queueManager2.qctx 7 (((sd 1 5 2) : Send).qid % 4096)).entryAt (queueManager2.qctx 7 (((sd 1 5 2) : Send).qid % 4096)).tail) 32 = none) ∧
    (queueManager3.ready (cctl 7) = true ∧ (List.find? (fun x => decide (x.unit = 3) && decide (x.state = 1) && decide (x.seq = 4096 + 3)) (queueManager3.qm 7).sends = some ((sd 1 5 2) : Send)) ∧ (queueManager3.cab 7).frozen = false ∧ (queueManager3.cab 7).fenced = false ∧ (queueManager3.cab 7).replay = false ∧ (queueManager3.qctx 7 (((sd 1 5 2) : Send).qid % 4096)).v = true ∧ (msgKey ((sd 1 5 2) : Send).msg = (queueManager3.qctx 7 (((sd 1 5 2) : Send).qid % 4096)).owner ∨ msgKey ((sd 1 5 2) : Send).msg = 0) ∧ (((sd 1 5 2) : Send).msg.testBit 24 = true → (queueManager3.qctx 7 (((sd 1 5 2) : Send).qid % 4096)).mcast = true) ∧ (queueManager3.qctx 7 (((sd 1 5 2) : Send).qid % 4096)).occ = (queueManager3.qctx 7 (((sd 1 5 2) : Send).qid % 4096)).size) ∧
    (queueManager4.ready (cctl 7) = true ∧ (List.find? (fun x => decide (x.unit = 3) && decide (x.state = 1) && decide (x.seq = 4096 + 3)) (queueManager4.qm 7).sends = some ((sd 1 5 2) : Send)) ∧ (queueManager4.cab 7).frozen = false ∧ (queueManager4.cab 7).fenced = false ∧ (queueManager4.cab 7).replay = false ∧ (queueManager4.qctx 7 (((sd 1 5 2) : Send).qid % 4096)).v = false) ∧
    (queueManager5.ready (cctl 7) = true ∧ (List.find? (fun x => decide (x.unit = 3) && decide (x.state = 1) && decide (x.seq = 4096 + 3)) (queueManager5.qm 7).sends = some ((sd 1 5 4) : Send)) ∧ (queueManager5.cab 7).frozen = false ∧ (queueManager5.cab 7).fenced = false ∧ (queueManager5.cab 7).replay = false ∧ (queueManager5.qctx 7 (((sd 1 5 4) : Send).qid % 4096)).v = true ∧ msgKey ((sd 1 5 4) : Send).msg ≠ (queueManager5.qctx 7 (((sd 1 5 4) : Send).qid % 4096)).owner ∧ msgKey ((sd 1 5 4) : Send).msg ≠ 0) ∧
    (queueManager6.notices[0]? = some (⟨7, 1024, 2, 18, 4096⟩ : Notice) ∧ (⟨7, 1024, 2, 18, 4096⟩ : Notice).cls = 16 + 2 ∧ (List.find? (fun x => decide (x.state = 1) && decide (x.dest = (⟨7, 1024, 2, 18, 4096⟩ : Notice).dest) && decide (x.seq = (⟨7, 1024, 2, 18, 4096⟩ : Notice).seq) && decide (msgKey x.msg = (⟨7, 1024, 2, 18, 4096⟩ : Notice).key)) (queueManager6.qm (⟨7, 1024, 2, 18, 4096⟩ : Notice).src).sends = some ((cs none) : Send)) ∧ ((cs none) : Send).unit = 0 ∧ 4 < 32 ∧ ((cs none) : Send).mcast = false ∧ (queueManager6.core (⟨7, 1024, 2, 18, 4096⟩ : Notice).src).wait = some (CoreWait.send 4 1) ∧ 2 ≠ qFull ∧ (∀ (y : Send), y ∈ (queueManager6.qm (⟨7, 1024, 2, 18, 4096⟩ : Notice).src).sends.erase ((cs none) : Send) → y.unit ≠ 0)) ∧
    (queueManager7.notices[0]? = some (⟨7, 1024, 2, 24, 4096⟩ : Notice) ∧ (⟨7, 1024, 2, 24, 4096⟩ : Notice).cls = 16 + 8 ∧ (List.find? (fun x => decide (x.state = 1) && decide (x.dest = (⟨7, 1024, 2, 24, 4096⟩ : Notice).dest) && decide (x.seq = (⟨7, 1024, 2, 24, 4096⟩ : Notice).seq) && decide (msgKey x.msg = (⟨7, 1024, 2, 24, 4096⟩ : Notice).key)) (queueManager7.qm (⟨7, 1024, 2, 24, 4096⟩ : Notice).src).sends = some ((cs (some 900000)) : Send)) ∧ ((cs (some 900000)) : Send).unit = 0 ∧ ((cs (some 900000)) : Send).mcast = false ∧ (queueManager7.core (⟨7, 1024, 2, 24, 4096⟩ : Notice).src).wait = some (CoreWait.send 4 1) ∧ 8 = qFull ∧ (∀ (l : Nat), ((cs (some 900000)) : Send).limit = some l → queueManager7.now < ((cs (some 900000)) : Send).since + l)) ∧
    ((queueManager8.qm 7).first 3 = some ((sd 2 5 2) : Send) ∧ ((sd 2 5 2) : Send).state = 2 ∧ isCab 7 = true ∧ queueManager8.live 7 = true ∧ ((sd 2 5 2) : Send).refusedAt + 32 * queueManager8.fld (cctl 7) 76 11 0 ≤ queueManager8.now ∧ ((sd 2 5 2) : Send).qid < 2 ^ 20 ∧ ((sd 2 5 2) : Send).qid / 4096 % 256 = queueManager8.cabLog 7 ∧ (queueManager8.cab 7).replay = false) ∧
    (queueManager9.passes (.bureau : Req) (qmgr 7) 84 = true ∧ ((queueManager9.ctxStaged 7).createOk (queueManager9.reqKey (.bureau : Req)) (List.map (fun x => x.snd) (queueManager9.qm 7).ctx) = true) ∧ nb (queueManager9.rdN (qmgr 7) 80) 31 8 = 0 ∧ (queueManager9.qctx 7 (queueManager9.fld (qmgr 7) 64 11 0)).v = false) ∧
    (queueManager10.passes (.bureau : Req) (qmgr 7) 84 = true ∧ ((queueManager10.ctxStaged 7).createOk (queueManager10.reqKey (.bureau : Req)) (List.map (fun x => x.snd) (queueManager10.qm 7).ctx) = false ∨ nb (queueManager10.rdN (qmgr 7) 80) 31 8 ≠ 0 ∨ (queueManager10.qctx 7 (queueManager10.fld (qmgr 7) 64 11 0)).v = true)) ∧
    ((queueManager10.qctx 7 (queueManager10.fld (qmgr 7) 64 11 0)).occ = 0 ∧ (queueManager10.qctx 7 (queueManager10.fld (qmgr 7) 64 11 0)).blkR = false) ∧
    (queueManager11.passes (.bureau : Req) (qmgr 7) 84 = true ∧ ((queueManager11.qctx 7 (queueManager11.fld (qmgr 7) 64 11 0)).occ ≠ 0 ∨ (queueManager11.qctx 7 (queueManager11.fld (qmgr 7) 64 11 0)).blkR = true)) ∧
    ((queueManager11.qctx 7 (queueManager11.fld (qmgr 7) 64 11 0)).v = true) ∧
    (queueManager12.live 7 = true ∧ (queueManager12.qctx 7 5).v = true ∧ (queueManager12.qctx 7 5).occ ≠ 0 ∧ queueManager12.portFree 7 (queueManager12.qctx 7 5).bind = true ∧ queueManager12.unitStalled 7 (queueManager12.qctx 7 5).bind = false ∧ (queueManager12.qctx 7 5).loc = 1 ∧ inShared ((queueManager12.qctx 7 5).entryAt (queueManager12.qctx 7 5).head) 32 = true ∧ queueManager12.spanOff 7 ((queueManager12.qctx 7 5).entryAt (queueManager12.qctx 7 5).head) 32 = none) ∧
    (queueManager13.live 7 = true ∧ (queueManager13.qctx 7 5).v = true ∧ (queueManager13.qctx 7 5).occ ≠ 0 ∧ queueManager13.portFree 7 (queueManager13.qctx 7 5).bind = true ∧ queueManager13.unitStalled 7 (queueManager13.qctx 7 5).bind = false ∧ (queueManager13.qctx 7 5).loc = 1 ∧ inShared ((queueManager13.qctx 7 5).entryAt (queueManager13.qctx 7 5).head) 32 = true ∧ queueManager13.spanOff 7 ((queueManager13.qctx 7 5).entryAt (queueManager13.qctx 7 5).head) 32 = none) ∧
    (queueManager14.live 7 = true ∧ (queueManager14.qctx 7 5).v = true ∧ (queueManager14.qctx 7 5).occ ≠ 0 ∧ queueManager14.portFree 7 (queueManager14.qctx 7 5).bind = true ∧ queueManager14.unitStalled 7 (queueManager14.qctx 7 5).bind = false ∧ (queueManager14.qctx 7 5).loc = 1 ∧ inShared ((queueManager14.qctx 7 5).entryAt (queueManager14.qctx 7 5).head) 32 = true ∧ queueManager14.spanOff 7 ((queueManager14.qctx 7 5).entryAt (queueManager14.qctx 7 5).head) 32 = none) ∧
    ((queueManager15.qm 7).first 3 = some queueManager16 ∧ queueManager16.blocked = some 5000 ∧ queueManager16.hung = false ∧ queueManager15.fld (cctl 7) 72 23 0 ≠ 0 ∧ 5000 + queueManager15.fld (cctl 7) 72 23 0 * 32000 ≤ queueManager15.now ∧ (3 = 0 → queueManager15.isHalted 7 = false) ∧ queueManager15.ctrFrozen (cctl 7) = false) ∧
    (queueManager17.reads (.bureau : Req) (qmgr 7) = true) ∧
    ((queueManager17.qctx 7 (queueManager17.fld (qmgr 7) 64 11 0)).v = true ∧ (queueManager17.qctx 7 (queueManager17.fld (qmgr 7) 64 11 0)).occ ≠ 0 ∧ (queueManager17.qctx 7 (queueManager17.fld (qmgr 7) 64 11 0)).loc = 1 ∧ inShared ((queueManager17.qctx 7 (queueManager17.fld (qmgr 7) 64 11 0)).entryAt (queueManager17.qctx 7 (queueManager17.fld (qmgr 7) 64 11 0)).head) 32 = true ∧ queueManager17.spanOff 7 ((queueManager17.qctx 7 (queueManager17.fld (qmgr 7) 64 11 0)).entryAt (queueManager17.qctx 7 (queueManager17.fld (qmgr 7) 64 11 0)).head) 32 = none) :=
  ⟨by and_intros <;> decide +kernel, by and_intros <;> decide +kernel, by and_intros <;> decide +kernel, by and_intros <;> decide +kernel, by and_intros <;> decide +kernel, by and_intros <;> decide +kernel, by and_intros <;> decide +kernel, by and_intros <;> decide +kernel, by and_intros <;> decide +kernel, by and_intros <;> decide +kernel, by and_intros <;> decide +kernel, by and_intros <;> decide +kernel, by and_intros <;> decide +kernel, by and_intros <;> decide +kernel, by and_intros <;> decide +kernel, by and_intros <;> decide +kernel, by and_intros <;> decide +kernel, by and_intros <;> decide +kernel, by and_intros <;> decide +kernel⟩

abbrev dn0 (d : Dec) : State := {((((run 90000).setFlag (chin 3) 8 0 true).wrN (chdec 3) 0x200 (1 + 12*2^6 + 3*2^24)).wrN (chdec 3) 0x220 (3 + 4*2^16)) with decs := [(3, d)], synced := [(295, true)]}
abbrev dn (d : Dec) : State := (dn0 d).wrN (chdec 3) 0x068 10
abbrev dpl (ax ty : Nat) : Nat := eventPayload 80000 ax 77 5 9 ty
abbrev dar (ax ty : Nat) : Arrival := ⟨0x123, false, ⟨0x123,0,0,0,0,0,0,dpl ax ty⟩⟩
abbrev dii (ax ty : Nat) (d : Dec) : State := {dn d with inbox := [dar ax ty]}
abbrev kw : Word := 0x12340500
abbrev mv (op ph src dst : Nat) : MbCmd := ⟨0, kw + BitVec.ofNat 32 op, [], ph, .ok, 3, 4, [], 80000, 0, src, dst, 0, [], [], []⟩
abbrev dsrc (sv mv : Nat) (s : State) : State := {s with sources := [(0x123, {(s.source 0 0x123) with s := sv, m := mv})]}
abbrev pq1 : PRes := ⟨0, 19, 2, 7, 9, 80000, 77, 0, false, none, 0, 0⟩
abbrev dw2 : State := dsrc 85000 0 (dii 2 0 {Dec.reset with log := [⟨79000, 5, 1, 3, 0, 0⟩]})
abbrev decoderInputsAndWindows1 : State := ((dii 9 0 Dec.reset).setFlag (chin 3) 8 0 false)
abbrev decoderInputsAndWindows2 : State := (dii 9 0 Dec.reset)
abbrev decoderInputsAndWindows3 : State := (dii 2 1 Dec.reset)
abbrev decoderInputsAndWindows4 : State := ({dn0 Dec.reset with inbox := [dar 2 0]})
abbrev decoderInputsAndWindows5 : State := (dii 2 0 Dec.reset)
abbrev decoderInputsAndWindows6 : State := ((dii 4 0 Dec.reset).wrN (hut1 0) 0x100 0x80000040)
abbrev decoderInputsAndWindows7 : State := (dii 2 0 {Dec.reset with conf := [(0, 19)]})
abbrev decoderInputsAndWindows8 : State := (dii 2 0 {Dec.reset with rel := [(0, 19)]})
abbrev decoderInputsAndWindows9 : State := ((dii 2 0 {Dec.reset with rel := [(0, 19)], replay := [(0, 1, 2)]}).wrN (hut1 0) 0x100 0x80000040)
abbrev decoderInputsAndWindows10 : State := (dsrc 85000 85000 (dii 2 0 Dec.reset))
abbrev decoderInputsAndWindows11 : State := (dn Dec.reset)
abbrev decoderInputsAndWindows12 : State := (dsrc 85000 0 (dn {Dec.reset with log := [⟨79000, 5, 1, 3, 0, 0⟩]}))
abbrev decoderInputsAndWindows13 : State := (dsrc 85000 85000 (dn {Dec.reset with pq := [pq1]}))
abbrev decoderInputsAndWindows14 : State := (dii 2 0 {Dec.reset with cut := 100000})
abbrev decoderInputsAndWindows15 : State := (dn {Dec.reset with cut := 100000})

/-- The hypotheses of the clauses of DecoderInputsAndWindows are met: a line holds the hypotheses of one clause, but for those an earlier line holds. -/
theorem witness_DecoderInputsAndWindows :
    ((List.find? (fun a => decide (a.dest = 288 + 3) && decide (a.flit.kind = 0)) decoderInputsAndWindows1.inbox = some ((dar 9 0) : Arrival)) ∧ decoderInputsAndWindows1.chanOn 3 = false) ∧
    ((List.find? (fun a => decide (a.dest = 288 + 3) && decide (a.flit.kind = 0)) decoderInputsAndWindows2.inbox = some ((dar 9 0) : Arrival)) ∧ decoderInputsAndWindows2.inputRoom 3 = true ∧ (evType ((dar 9 0) : Arrival).flit.payload ≠ 0 ∧ evType ((dar 9 0) : Arrival).flit.payload ≠ 5 ∨ decoderInputsAndWindows2.inputUnit 3 (evAxon ((dar 9 0) : Arrival).flit.payload) = none)) ∧
    ((List.find? (fun a => decide (a.dest = 288 + 3) && decide (a.flit.kind = 0)) decoderInputsAndWindows3.inbox = some ((dar 2 1) : Arrival)) ∧ decoderInputsAndWindows3.inputRoom 3 = true ∧ (evType ((dar 2 1) : Arrival).flit.payload ≠ 0 ∧ evType ((dar 2 1) : Arrival).flit.payload ≠ 5 ∨ decoderInputsAndWindows3.inputUnit 3 (evAxon ((dar 2 1) : Arrival).flit.payload) = none)) ∧
    ((List.find? (fun a => decide (a.dest = 288 + 3) && decide (a.flit.kind = 0)) decoderInputsAndWindows4.inbox = some ((dar 2 0) : Arrival)) ∧ decoderInputsAndWindows4.chanOn 3 = true ∧ ((true : Bool) = false ∨ decoderInputsAndWindows4.inputRoom 3 = false)) ∧
    ((List.find? (fun a => decide (a.dest = 288 + 3) && decide (a.flit.kind = 0)) decoderInputsAndWindows5.inbox = some ((dar 2 0) : Arrival)) ∧ decoderInputsAndWindows5.chanOn 3 = true ∧ ((false : Bool) = false ∨ decoderInputsAndWindows5.inputRoom 3 = false)) ∧
    ((List.find? (fun a => decide (a.dest = 288 + 3) && decide (a.flit.kind = 0)) decoderInputsAndWindows6.inbox = some ((dar 4 0) : Arrival)) ∧ decoderInputsAndWindows6.chanOn 3 = true ∧ (evType ((dar 4 0) : Arrival).flit.payload = 0 ∨ evType ((dar 4 0) : Arrival).flit.payload = 5) ∧ decoderInputsAndWindows6.inputUnit 3 (evAxon ((dar 4 0) : Arrival).flit.payload) = some 1 ∧ decoderInputsAndWindows6.inputRoom 3 = true ∧ decoderInputsAndWindows6.dkind 3 1 = 3) ∧
    ((List.find? (fun a => decide (a.dest = 288 + 3) && decide (a.flit.kind = 0)) decoderInputsAndWindows7.inbox = some ((dar 2 0) : Arrival)) ∧ decoderInputsAndWindows7.chanOn 3 = true ∧ (evType ((dar 2 0) : Arrival).flit.payload = 0 ∨ evType ((dar 2 0) : Arrival).flit.payload = 5) ∧ decoderInputsAndWindows7.inputUnit 3 (evAxon ((dar 2 0) : Arrival).flit.payload) = some 0 ∧ decoderInputsAndWindows7.inputRoom 3 = true ∧ decoderInputsAndWindows7.dkind 3 0 ≠ 3 ∧ ((decoderInputsAndWindows7.dec 3).cut < (((fun u => { time := rebuild (evTime ((dar 2 0) : Arrival).flit.payload) decoderInputsAndWindows7.now, src := evSource ((dar 2 0) : Arrival).flit.payload, inp := evAxon ((dar 2 0) : Arrival).flit.payload, pay := evPay ((dar 2 0) : Arrival).flit.payload, type := evType ((dar 2 0) : Arrival).flit.payload, inc := decoderInputsAndWindows7.reconInc 3 u (evAxon ((dar 2 0) : Arrival).flit.payload) (evPay ((dar 2 0) : Arrival).flit.payload) : DIn }) 0).time / decoderInputsAndWindows7.dwin 3 0 + 1) * decoderInputsAndWindows7.dwin 3 0) ∧ ((0, ((fun u => { time := rebuild (evTime ((dar 2 0) : Arrival).flit.payload) decoderInputsAndWindows7.now, src := evSource ((dar 2 0) : Arrival).flit.payload, inp := evAxon ((dar 2 0) : Arrival).flit.payload, pay := evPay ((dar 2 0) : Arrival).flit.payload, type := evType ((dar 2 0) : Arrival).flit.payload, inc := decoderInputsAndWindows7.reconInc 3 u (evAxon ((dar 2 0) : Arrival).flit.payload) (evPay ((dar 2 0) : Arrival).flit.payload) : DIn }) 0).time / decoderInputsAndWindows7.dwin 3 0) ∈ (decoderInputsAndWindows7.dec 3).conf) ∧ (¬(0, ((fun u => { time := rebuild (evTime ((dar 2 0) : Arrival).flit.payload) decoderInputsAndWindows7.now, src := evSource ((dar 2 0) : Arrival).flit.payload, inp := evAxon ((dar 2 0) : Arrival).flit.payload, pay := evPay ((dar 2 0) : Arrival).flit.payload, type := evType ((dar 2 0) : Arrival).flit.payload, inc := decoderInputsAndWindows7.reconInc 3 u (evAxon ((dar 2 0) : Arrival).flit.payload) (evPay ((dar 2 0) : Arrival).flit.payload) : DIn }) 0).time / decoderInputsAndWindows7.dwin 3 0) ∈ (decoderInputsAndWindows7.dec 3).rel) ∧ decoderInputsAndWindows7.ctrFrozen (chdec 3) = false) ∧
    ((List.find? (fun a => decide (a.dest = 288 + 3) && decide (a.flit.kind = 0)) decoderInputsAndWindows8.inbox = some ((dar 2 0) : Arrival)) ∧ decoderInputsAndWindows8.chanOn 3 = true ∧ decoderInputsAndWindows8.inputUnit 3 (evAxon ((dar 2 0) : Arrival).flit.payload) = some 0 ∧ decoderInputsAndWindows8.inputRoom 3 = true ∧ decoderInputsAndWindows8.dkind 3 0 ≠ 3 ∧ ((decoderInputsAndWindows8.dec 3).cut < (((fun u => { time := rebuild (evTime ((dar 2 0) : Arrival).flit.payload) decoderInputsAndWindows8.now, src := evSource ((dar 2 0) : Arrival).flit.payload, inp := evAxon ((dar 2 0) : Arrival).flit.payload, pay := evPay ((dar 2 0) : Arrival).flit.payload, type := evType ((dar 2 0) : Arrival).flit.payload, inc := decoderInputsAndWindows8.reconInc 3 u (evAxon ((dar 2 0) : Arrival).flit.payload) (evPay ((dar 2 0) : Arrival).flit.payload) : DIn }) 0).time / decoderInputsAndWindows8.dwin 3 0 + 1) * decoderInputsAndWindows8.dwin 3 0) ∧ ((0, ((fun u => { time := rebuild (evTime ((dar 2 0) : Arrival).flit.payload) decoderInputsAndWindows8.now, src := evSource ((dar 2 0) : Arrival).flit.payload, inp := evAxon ((dar 2 0) : Arrival).flit.payload, pay := evPay ((dar 2 0) : Arrival).flit.payload, type := evType ((dar 2 0) : Arrival).flit.payload, inc := decoderInputsAndWindows8.reconInc 3 u (evAxon ((dar 2 0) : Arrival).flit.payload) (evPay ((dar 2 0) : Arrival).flit.payload) : DIn }) 0).time / decoderInputsAndWindows8.dwin 3 0) ∈ (decoderInputsAndWindows8.dec 3).rel) ∧ (((decoderInputsAndWindows8.dec 3).replay.any fun r => decide (r.fst = ((fun u => { time := rebuild (evTime ((dar 2 0) : Arrival).flit.payload) decoderInputsAndWindows8.now, src := evSource ((dar 2 0) : Arrival).flit.payload, inp := evAxon ((dar 2 0) : Arrival).flit.payload, pay := evPay ((dar 2 0) : Arrival).flit.payload, type := evType ((dar 2 0) : Arrival).flit.payload, inc := decoderInputsAndWindows8.reconInc 3 u (evAxon ((dar 2 0) : Arrival).flit.payload) (evPay ((dar 2 0) : Arrival).flit.payload) : DIn }) 0).src / 2 ^ 15) && decide (r.snd.fst ≤ ((fun u => { time := rebuild (evTime ((dar 2 0) : Arrival).flit.payload) decoderInputsAndWindows8.now, src := evSource ((dar 2 0) : Arrival).flit.payload, inp := evAxon ((dar 2 0) : Arrival).flit.payload, pay := evPay ((dar 2 0) : Arrival).flit.payload, type := evType ((dar 2 0) : Arrival).flit.payload, inc := decoderInputsAndWindows8.reconInc 3 u (evAxon ((dar 2 0) : Arrival).flit.payload) (evPay ((dar 2 0) : Arrival).flit.payload) : DIn }) 0).time)) = false) ∧ decoderInputsAndWindows8.ctrFrozen (chdec 3) = false) ∧
    ((List.find? (fun a => decide (a.dest = 288 + 3) && decide (a.flit.kind = 0)) decoderInputsAndWindows9.inbox = some ((dar 2 0) : Arrival)) ∧ decoderInputsAndWindows9.chanOn 3 = true ∧ decoderInputsAndWindows9.inputUnit 3 (evAxon ((dar 2 0) : Arrival).flit.payload) = some 0 ∧ decoderInputsAndWindows9.inputRoom 3 = true ∧ decoderInputsAndWindows9.dkind 3 0 ≠ 3 ∧ ((decoderInputsAndWindows9.dec 3).cut < (((fun u => { time := rebuild (evTime ((dar 2 0) : Arrival).flit.payload) decoderInputsAndWindows9.now, src := evSource ((dar 2 0) : Arrival).flit.payload, inp := evAxon ((dar 2 0) : Arrival).flit.payload, pay := evPay ((dar 2 0) : Arrival).flit.payload, type := evType ((dar 2 0) : Arrival).flit.payload, inc := decoderInputsAndWindows9.reconInc 3 u (evAxon ((dar 2 0) : Arrival).flit.payload) (evPay ((dar 2 0) : Arrival).flit.payload) : DIn }) 0).time / decoderInputsAndWindows9.dwin 3 0 + 1) * decoderInputsAndWindows9.dwin 3 0) ∧ ((0, ((fun u => { time := rebuild (evTime ((dar 2 0) : Arrival).flit.payload) decoderInputsAndWindows9.now, src := evSource ((dar 2 0) : Arrival).flit.payload, inp := evAxon ((dar 2 0) : Arrival).flit.payload, pay := evPay ((dar 2 0) : Arrival).flit.payload, type := evType ((dar 2 0) : Arrival).flit.payload, inc := decoderInputsAndWindows9.reconInc 3 u (evAxon ((dar 2 0) : Arrival).flit.payload) (evPay ((dar 2 0) : Arrival).flit.payload) : DIn }) 0).time / decoderInputsAndWindows9.dwin 3 0) ∈ (decoderInputsAndWindows9.dec 3).rel) ∧ (((decoderInputsAndWindows9.dec 3).replay.any fun r => decide (r.fst = ((fun u => { time := rebuild (evTime ((dar 2 0) : Arrival).flit.payload) decoderInputsAndWindows9.now, src := evSource ((dar 2 0) : Arrival).flit.payload, inp := evAxon ((dar 2 0) : Arrival).flit.payload, pay := evPay ((dar 2 0) : Arrival).flit.payload, type := evType ((dar 2 0) : Arrival).flit.payload, inc := decoderInputsAndWindows9.reconInc 3 u (evAxon ((dar 2 0) : Arrival).flit.payload) (evPay ((dar 2 0) : Arrival).flit.payload) : DIn }) 0).src / 2 ^ 15) && decide (r.snd.fst ≤ ((fun u => { time := rebuild (evTime ((dar 2 0) : Arrival).flit.payload) decoderInputsAndWindows9.now, src := evSource ((dar 2 0) : Arrival).flit.payload, inp := evAxon ((dar 2 0) : Arrival).flit.payload, pay := evPay ((dar 2 0) : Arrival).flit.payload, type := evType ((dar 2 0) : Arrival).flit.payload, inc := decoderInputsAndWindows9.reconInc 3 u (evAxon ((dar 2 0) : Arrival).flit.payload) (evPay ((dar 2 0) : Arrival).flit.payload) : DIn }) 0).time)) = true)) ∧
    ((List.find? (fun a => decide (a.dest = 288 + 3) && decide (a.flit.kind = 0)) decoderInputsAndWindows10.inbox = some ((dar 2 0) : Arrival)) ∧ decoderInputsAndWindows10.chanOn 3 = true ∧ decoderInputsAndWindows10.inputUnit 3 (evAxon ((dar 2 0) : Arrival).flit.payload) = some 0 ∧ decoderInputsAndWindows10.inputRoom 3 = true ∧ decoderInputsAndWindows10.dkind 3 0 ≠ 3 ∧ ((decoderInputsAndWindows10.dec 3).cut < (((fun u => { time := rebuild (evTime ((dar 2 0) : Arrival).flit.payload) decoderInputsAndWindows10.now, src := evSource ((dar 2 0) : Arrival).flit.payload, inp := evAxon ((dar 2 0) : Arrival).flit.payload, pay := evPay ((dar 2 0) : Arrival).flit.payload, type := evType ((dar 2 0) : Arrival).flit.payload, inc := decoderInputsAndWindows10.reconInc 3 u (evAxon ((dar 2 0) : Arrival).flit.payload) (evPay ((dar 2 0) : Arrival).flit.payload) : DIn }) 0).time / decoderInputsAndWindows10.dwin 3 0 + 1) * decoderInputsAndWindows10.dwin 3 0) ∧ (¬(0, ((fun u => { time := rebuild (evTime ((dar 2 0) : Arrival).flit.payload) decoderInputsAndWindows10.now, src := evSource ((dar 2 0) : Arrival).flit.payload, inp := evAxon ((dar 2 0) : Arrival).flit.payload, pay := evPay ((dar 2 0) : Arrival).flit.payload, type := evType ((dar 2 0) : Arrival).flit.payload, inc := decoderInputsAndWindows10.reconInc 3 u (evAxon ((dar 2 0) : Arrival).flit.payload) (evPay ((dar 2 0) : Arrival).flit.payload) : DIn }) 0).time / decoderInputsAndWindows10.dwin 3 0) ∈ (decoderInputsAndWindows10.dec 3).conf) ∧ (¬(0, ((fun u => { time := rebuild (evTime ((dar 2 0) : Arrival).flit.payload) decoderInputsAndWindows10.now, src := evSource ((dar 2 0) : Arrival).flit.payload, inp := evAxon ((dar 2 0) : Arrival).flit.payload, pay := evPay ((dar 2 0) : Arrival).flit.payload, type := evType ((dar 2 0) : Arrival).flit.payload, inc := decoderInputsAndWindows10.reconInc 3 u (evAxon ((dar 2 0) : Arrival).flit.payload) (evPay ((dar 2 0) : Arrival).flit.payload) : DIn }) 0).time / decoderInputsAndWindows10.dwin 3 0) ∈ (decoderInputsAndWindows10.dec 3).rel) ∧ (decoderInputsAndWindows10.confirmable 3 ((((fun u => { time := rebuild (evTime ((dar 2 0) : Arrival).flit.payload) decoderInputsAndWindows10.now, src := evSource ((dar 2 0) : Arrival).flit.payload, inp := evAxon ((dar 2 0) : Arrival).flit.payload, pay := evPay ((dar 2 0) : Arrival).flit.payload, type := evType ((dar 2 0) : Arrival).flit.payload, inc := decoderInputsAndWindows10.reconInc 3 u (evAxon ((dar 2 0) : Arrival).flit.payload) (evPay ((dar 2 0) : Arrival).flit.payload) : DIn }) 0).time / decoderInputsAndWindows10.dwin 3 0 + 1) * decoderInputsAndWindows10.dwin 3 0) = true) ∧ (((decoderInputsAndWindows10.dec 3).replay.any fun r => decide (r.fst = ((fun u => { time := rebuild (evTime ((dar 2 0) : Arrival).flit.payload) decoderInputsAndWindows10.now, src := evSource ((dar 2 0) : Arrival).flit.payload, inp := evAxon ((dar 2 0) : Arrival).flit.payload, pay := evPay ((dar 2 0) : Arrival).flit.payload, type := evType ((dar 2 0) : Arrival).flit.payload, inc := decoderInputsAndWindows10.reconInc 3 u (evAxon ((dar 2 0) : Arrival).flit.payload) (evPay ((dar 2 0) : Arrival).flit.payload) : DIn }) 0).src / 2 ^ 15) && decide (r.snd.fst ≤ ((fun u => { time := rebuild (evTime ((dar 2 0) : Arrival).flit.payload) decoderInputsAndWindows10.now, src := evSource ((dar 2 0) : Arrival).flit.payload, inp := evAxon ((dar 2 0) : Arrival).flit.payload, pay := evPay ((dar 2 0) : Arrival).flit.payload, type := evType ((dar 2 0) : Arrival).flit.payload, inc := decoderInputsAndWindows10.reconInc 3 u (evAxon ((dar 2 0) : Arrival).flit.payload) (evPay ((dar 2 0) : Arrival).flit.payload) : DIn }) 0).time)) = false) ∧ decoderInputsAndWindows10.ctrFrozen (chdec 3) = false) ∧
    (decoderInputsAndWindows5.inputUnit 3 (evAxon ((dar 2 0) : Arrival).flit.payload) = some 0 ∧ decoderInputsAndWindows5.inputRoom 3 = true ∧ decoderInputsAndWindows5.dkind 3 0 ≠ 3 ∧ ((decoderInputsAndWindows5.dec 3).cut < (((fun u => { time := rebuild (evTime ((dar 2 0) : Arrival).flit.payload) decoderInputsAndWindows5.now, src := evSource ((dar 2 0) : Arrival).flit.payload, inp := evAxon ((dar 2 0) : Arrival).flit.payload, pay := evPay ((dar 2 0) : Arrival).flit.payload, type := evType ((dar 2 0) : Arrival).flit.payload, inc := decoderInputsAndWindows5.reconInc 3 u (evAxon ((dar 2 0) : Arrival).flit.payload) (evPay ((dar 2 0) : Arrival).flit.payload) : DIn }) 0).time / decoderInputsAndWindows5.dwin 3 0 + 1) * decoderInputsAndWindows5.dwin 3 0) ∧ (¬(0, ((fun u => { time := rebuild (evTime ((dar 2 0) : Arrival).flit.payload) decoderInputsAndWindows5.now, src := evSource ((dar 2 0) : Arrival).flit.payload, inp := evAxon ((dar 2 0) : Arrival).flit.payload, pay := evPay ((dar 2 0) : Arrival).flit.payload, type := evType ((dar 2 0) : Arrival).flit.payload, inc := decoderInputsAndWindows5.reconInc 3 u (evAxon ((dar 2 0) : Arrival).flit.payload) (evPay ((dar 2 0) : Arrival).flit.payload) : DIn }) 0).time / decoderInputsAndWindows5.dwin 3 0) ∈ (decoderInputsAndWindows5.dec 3).conf) ∧ (¬(0, ((fun u => { time := rebuild (evTime ((dar 2 0) : Arrival).flit.payload) decoderInputsAndWindows5.now, src := evSource ((dar 2 0) : Arrival).flit.payload, inp := evAxon ((dar 2 0) : Arrival).flit.payload, pay := evPay ((dar 2 0) : Arrival).flit.payload, type := evType ((dar 2 0) : Arrival).flit.payload, inc := decoderInputsAndWindows5.reconInc 3 u (evAxon ((dar 2 0) : Arrival).flit.payload) (evPay ((dar 2 0) : Arrival).flit.payload) : DIn }) 0).time / decoderInputsAndWindows5.dwin 3 0) ∈ (decoderInputsAndWindows5.dec 3).rel) ∧ (decoderInputsAndWindows5.confirmable 3 ((((fun u => { time := rebuild (evTime ((dar 2 0) : Arrival).flit.payload) decoderInputsAndWindows5.now, src := evSource ((dar 2 0) : Arrival).flit.payload, inp := evAxon ((dar 2 0) : Arrival).flit.payload, pay := evPay ((dar 2 0) : Arrival).flit.payload, type := evType ((dar 2 0) : Arrival).flit.payload, inc := decoderInputsAndWindows5.reconInc 3 u (evAxon ((dar 2 0) : Arrival).flit.payload) (evPay ((dar 2 0) : Arrival).flit.payload) : DIn }) 0).time / decoderInputsAndWindows5.dwin 3 0 + 1) * decoderInputsAndWindows5.dwin 3 0) = false) ∧ (decoderInputsAndWindows5.chanS 3 < (((fun u => { time := rebuild (evTime ((dar 2 0) : Arrival).flit.payload) decoderInputsAndWindows5.now, src := evSource ((dar 2 0) : Arrival).flit.payload, inp := evAxon ((dar 2 0) : Arrival).flit.payload, pay := evPay ((dar 2 0) : Arrival).flit.payload, type := evType ((dar 2 0) : Arrival).flit.payload, inc := decoderInputsAndWindows5.reconInc 3 u (evAxon ((dar 2 0) : Arrival).flit.payload) (evPay ((dar 2 0) : Arrival).flit.payload) : DIn }) 0).time / decoderInputsAndWindows5.dwin 3 0 + 1) * decoderInputsAndWindows5.dwin 3 0)) ∧
    ((List.find? (fun a => decide (a.dest = 288 + 3) && decide (a.flit.kind = 0)) dw2.inbox = some ((dar 2 0) : Arrival)) ∧ dw2.chanOn 3 = true ∧ dw2.inputUnit 3 (evAxon ((dar 2 0) : Arrival).flit.payload) = some 0 ∧ dw2.inputRoom 3 = true ∧ dw2.dkind 3 0 ≠ 3 ∧ ((dw2.dec 3).cut < (((fun u => { time := rebuild (evTime ((dar 2 0) : Arrival).flit.payload) dw2.now, src := evSource ((dar 2 0) : Arrival).flit.payload, inp := evAxon ((dar 2 0) : Arrival).flit.payload, pay := evPay ((dar 2 0) : Arrival).flit.payload, type := evType ((dar 2 0) : Arrival).flit.payload, inc := dw2.reconInc 3 u (evAxon ((dar 2 0) : Arrival).flit.payload) (evPay ((dar 2 0) : Arrival).flit.payload) : DIn }) 0).time / dw2.dwin 3 0 + 1) * dw2.dwin 3 0) ∧ (¬(0, ((fun u => { time := rebuild (evTime ((dar 2 0) : Arrival).flit.payload) dw2.now, src := evSource ((dar 2 0) : Arrival).flit.payload, inp := evAxon ((dar 2 0) : Arrival).flit.payload, pay := evPay ((dar 2 0) : Arrival).flit.payload, type := evType ((dar 2 0) : Arrival).flit.payload, inc := dw2.reconInc 3 u (evAxon ((dar 2 0) : Arrival).flit.payload) (evPay ((dar 2 0) : Arrival).flit.payload) : DIn }) 0).time / dw2.dwin 3 0) ∈ (dw2.dec 3).conf) ∧ (¬(0, ((fun u => { time := rebuild (evTime ((dar 2 0) : Arrival).flit.payload) dw2.now, src := evSource ((dar 2 0) : Arrival).flit.payload, inp := evAxon ((dar 2 0) : Arrival).flit.payload, pay := evPay ((dar 2 0) : Arrival).flit.payload, type := evType ((dar 2 0) : Arrival).flit.payload, inc := dw2.reconInc 3 u (evAxon ((dar 2 0) : Arrival).flit.payload) (evPay ((dar 2 0) : Arrival).flit.payload) : DIn }) 0).time / dw2.dwin 3 0) ∈ (dw2.dec 3).rel) ∧ (dw2.confirmable 3 ((((fun u => { time := rebuild (evTime ((dar 2 0) : Arrival).flit.payload) dw2.now, src := evSource ((dar 2 0) : Arrival).flit.payload, inp := evAxon ((dar 2 0) : Arrival).flit.payload, pay := evPay ((dar 2 0) : Arrival).flit.payload, type := evType ((dar 2 0) : Arrival).flit.payload, inc := dw2.reconInc 3 u (evAxon ((dar 2 0) : Arrival).flit.payload) (evPay ((dar 2 0) : Arrival).flit.payload) : DIn }) 0).time / dw2.dwin 3 0 + 1) * dw2.dwin 3 0) = false) ∧ ((((fun u => { time := rebuild (evTime ((dar 2 0) : Arrival).flit.payload) dw2.now, src := evSource ((dar 2 0) : Arrival).flit.payload, inp := evAxon ((dar 2 0) : Arrival).flit.payload, pay := evPay ((dar 2 0) : Arrival).flit.payload, type := evType ((dar 2 0) : Arrival).flit.payload, inc := dw2.reconInc 3 u (evAxon ((dar 2 0) : Arrival).flit.payload) (evPay ((dar 2 0) : Arrival).flit.payload) : DIn }) 0).time / dw2.dwin 3 0 + 1) * dw2.dwin 3 0 ≤ dw2.chanS 3) ∧ dw2.ctrFrozen (chdec 3) = false) ∧
    (¬(0, 19) ∈ (decoderInputsAndWindows11.dec 3).conf ∧ (decoderInputsAndWindows11.dec 3).cut < (19 + 1) * decoderInputsAndWindows11.dwin 3 0 ∧ decoderInputsAndWindows11.confirmable 3 ((19 + 1) * decoderInputsAndWindows11.dwin 3 0) = false ∧ decoderInputsAndWindows11.chanS 3 < (19 + 1) * decoderInputsAndWindows11.dwin 3 0) ∧
    (¬(0, 19) ∈ (decoderInputsAndWindows12.dec 3).conf ∧ (decoderInputsAndWindows12.dec 3).cut < (19 + 1) * decoderInputsAndWindows12.dwin 3 0 ∧ decoderInputsAndWindows12.confirmable 3 ((19 + 1) * decoderInputsAndWindows12.dwin 3 0) = false ∧ (19 + 1) * decoderInputsAndWindows12.dwin 3 0 ≤ decoderInputsAndWindows12.chanS 3 ∧ (∀ (x : PRes), x ∈ (decoderInputsAndWindows12.dec 3).pq → x.unit = 0 → x.w ≠ 19)) ∧
    (¬(0, 19) ∈ (decoderInputsAndWindows13.dec 3).conf ∧ (decoderInputsAndWindows13.dec 3).cut < (19 + 1) * decoderInputsAndWindows13.dwin 3 0 ∧ decoderInputsAndWindows13.confirmable 3 ((19 + 1) * decoderInputsAndWindows13.dwin 3 0) = true ∧ (decoderInputsAndWindows13.dec 3).pq = [pq1] ∧ pq1.unit = 0 ∧ pq1.w = 19 ∧ 0 < 4) ∧
    ((List.find? (fun a => decide (a.dest = 288 + 3) && decide (a.flit.kind = 0)) decoderInputsAndWindows14.inbox = some ((dar 2 0) : Arrival)) ∧ decoderInputsAndWindows14.chanOn 3 = true ∧ decoderInputsAndWindows14.inputUnit 3 (evAxon ((dar 2 0) : Arrival).flit.payload) = some 0 ∧ decoderInputsAndWindows14.inputRoom 3 = true ∧ decoderInputsAndWindows14.dkind 3 0 ≠ 3 ∧ ((((fun u => { time := rebuild (evTime ((dar 2 0) : Arrival).flit.payload) decoderInputsAndWindows14.now, src := evSource ((dar 2 0) : Arrival).flit.payload, inp := evAxon ((dar 2 0) : Arrival).flit.payload, pay := evPay ((dar 2 0) : Arrival).flit.payload, type := evType ((dar 2 0) : Arrival).flit.payload, inc := decoderInputsAndWindows14.reconInc 3 u (evAxon ((dar 2 0) : Arrival).flit.payload) (evPay ((dar 2 0) : Arrival).flit.payload) : DIn }) 0).time / decoderInputsAndWindows14.dwin 3 0 + 1) * decoderInputsAndWindows14.dwin 3 0 ≤ (decoderInputsAndWindows14.dec 3).cut)) ∧
    ((19 + 1) * decoderInputsAndWindows15.dwin 3 0 ≤ (decoderInputsAndWindows15.dec 3).cut) :=
  ⟨by and_intros <;> decide +kernel, by and_intros <;> decide +kernel, by and_intros <;> decide +kernel, by and_intros <;> decide +kernel, by and_intros <;> decide +kernel, by and_intros <;> decide +kernel, by and_intros <;> decide +kernel, by and_intros <;> decide +kernel, by and_intros <;> decide +kernel, by and_intros <;> decide +kernel, by and_intros <;> decide +kernel, by and_intros <;> decide +kernel, by and_intros <;> decide +kernel, by and_intros <;> decide +kernel, by and_intros <;> decide +kernel, by and_intros <;> decide +kernel, by and_intros <;> decide +kernel⟩

abbrev px (fate : Nat) : PRes := {pq1 with conf := some (90000, true), fate := fate, seq := 8}
abbrev dp (fate : Nat) : State := (dn {Dec.reset with pq := [{px 0 with w := 20, conf := none}, px fate], seq := 65535}).wrN (chdec 3) 0x4C (2^5+1+2^21) |>.wrN (chdec 3) 0x50 5
abbrev dfull (hold : Nat) : State := (dn {Dec.reset with pq := [px 0], seq := 5, pulse := some (80000, 89960), fifo := {Dec.reset.fifo with recs := [⟨List.replicate 32766 1, 1, 0, 0⟩]}}).wrN (chdec 3) 0xC0 hold |>.wrN (chdec 3) 0x4C (2^5+1+2^21)
abbrev toe (l : List PRes) : State := (dn {Dec.reset with pin := true, pulse := some (80000, 89960), pq := l}).wrN (chdec 3) 0x4C (2^5+1+2^4)
abbrev resultsAreReleased1 : State := (dp 0)
abbrev resultsAreReleased2 : State := (dp 1)
abbrev resultsAreReleased3 : State := (dp 2)
abbrev resultsAreReleased4 : State := (dfull 0)
abbrev resultsAreReleased5 : State := (dfull 2)
abbrev resultsAreReleased6 : State := (dp 4)
abbrev resultsAreReleased7 : State := (toe [])
abbrev resultsAreReleased8 : State := (toe [px 0])
abbrev resultsAreReleased9 : State := {toe [] with doms := [((chin 3).dom, {Dom.reset with cur := .off})]}

/-- The hypotheses of the clauses of ResultsAreReleased are met: a line holds the hypotheses of one clause, but for those an earlier line holds. -/
theorem witness_ResultsAreReleased :
    ((firstPres (List.filter (fun x => decide (x.fate = 0)) (resultsAreReleased1.dec 3).toRelease) = some ((px 0) : PRes)) ∧ ((px 0) : PRes).conf = some (90000, (true : Bool)) ∧ resultsAreReleased1.chanOn 3 = true ∧ 90000 ≤ resultsAreReleased1.now + 1024 ∧ (resultsAreReleased1.dec 3).room = true ∧ (∀ (y : PRes), y ∈ (resultsAreReleased1.dec 3).pq → y.fate ≠ 4)) ∧
    (resultsAreReleased1.ctrFrozen (chdec 3) = false) ∧
    (firstPres (resultsAreReleased2.dec 3).toRelease = some ((px 1) : PRes) ∧ ((px 1) : PRes).conf = some (90000, (true : Bool)) ∧ ((px 1) : PRes).unit < 4 ∧ resultsAreReleased2.chanOn 3 = true ∧ resultsAreReleased2.ready (chin 3) = true ∧ 90000 ≤ resultsAreReleased2.now ∧ resultsAreReleased2.ctrFrozen (chdec 3) = false) ∧
    (firstPres (resultsAreReleased3.dec 3).toRelease = some ((px 2) : PRes) ∧ ((px 2) : PRes).conf = some (90000, (true : Bool)) ∧ ((px 2) : PRes).unit < 4 ∧ resultsAreReleased3.chanOn 3 = true ∧ resultsAreReleased3.ready (chin 3) = true ∧ 90000 ≤ resultsAreReleased3.now ∧ resultsAreReleased3.ctrFrozen (chdec 3) = false) ∧
    (firstPres (resultsAreReleased4.dec 3).toRelease = some ((px 0) : PRes) ∧ ((px 0) : PRes).unit < 4 ∧ resultsAreReleased4.chanOn 3 = true ∧ resultsAreReleased4.ready (chin 3) = true ∧ 90000 ≤ resultsAreReleased4.now ∧ resultsAreReleased4.ctrFrozen (chdec 3) = false) ∧
    (firstPres (resultsAreReleased5.dec 3).toRelease = some ((px 0) : PRes) ∧ resultsAreReleased5.chanOn 3 = true ∧ resultsAreReleased5.ready (chin 3) = true ∧ 90000 ≤ resultsAreReleased5.now ∧ resultsAreReleased5.ctrFrozen (chdec 3) = false) ∧
    (((px 1) : PRes).fate = 1) ∧
    ((firstPres (List.filter (fun x => decide (x.fate = 4)) (resultsAreReleased6.dec 3).pq) = some ((px 4) : PRes)) ∧ ((px 4) : PRes).conf = some (90000, (true : Bool)) ∧ (resultsAreReleased6.dec 3).room = true) ∧
    ((resultsAreReleased7.dec 3).pulse = some ((80000 : Int), (89960 : Int)) ∧ (resultsAreReleased7.dec 3).pin = true ∧ (89960 : Int) ≤ ↑resultsAreReleased7.now ∧ (∀ (x : Int), x ∈ resultsAreReleased7.edgesAhead 3 → (89960 : Int) + 64 ≤ x)) ∧
    ((resultsAreReleased8.dec 3).pulse = some ((80000 : Int), (89960 : Int)) ∧ (resultsAreReleased8.dec 3).pin = true ∧ (89960 : Int) ≤ ↑resultsAreReleased8.now ∧ (∃ x, x ∈ resultsAreReleased8.edgesAhead 3 ∧ x < (89960 : Int) + 64)) ∧
    ((resultsAreReleased9.dom (chin 3).dom).cur = Pwr.off) ∧
    ((resultsAreReleased7.dom (chin 3).dom).cur ≠ Pwr.off) :=
  ⟨by and_intros <;> decide +kernel, by and_intros <;> decide +kernel, by and_intros <;> decide +kernel, by and_intros <;> decide +kernel, by and_intros <;> decide +kernel, by and_intros <;> decide +kernel, by and_intros <;> decide +kernel, by and_intros <;> decide +kernel, by and_intros <;> decide +kernel, by and_intros <;> decide +kernel, by and_intros <;> decide +kernel, by and_intros <;> decide +kernel⟩

abbrev rf (l : List FifoRec) : State := dn {Dec.reset with fifo := {Dec.reset.fifo with recs := l}, pq := [px 1]}
abbrev rwa (op : Nat) : Arrival := ⟨0x123, false, ⟨0x123,0,0,0,0,5,0, op*2^120 + 80000 * 2^72 + 7 * 2^64⟩⟩
abbrev rws (op : Nat) (d : Dec) : State := {dsrc 85000 85000 (dn d) with inbox := [rwa op]}
abbrev rwd : Dec := {Dec.reset with log := [⟨79990, 7*2^15+5, 1, 3, 0, 0⟩, ⟨80010, 7*2^15+5, 2, 3, 0, 0⟩, ⟨80010, 6*2^15+5, 2, 3, 0, 0⟩, ⟨84010, 7*2^15+5, 2, 3, 0, 0⟩], rel := [(0, 19)], conf := [(0,19)], pq := [{pq1 with w := 20}], replay := [(7, 1, 2)]}
abbrev resultFifoReaderAndReplay1 : State := (rf r2)
abbrev resultFifoReaderAndReplay2 : State := (rf r1)
abbrev resultFifoReaderAndReplay3 : State := (rf [])
abbrev resultFifoReaderAndReplay4 : State := ((rf r1).wrN (chdec 3) 0xC0 1)
abbrev resultFifoReaderAndReplay5 : State := (((rf r1).wrN (chdec 3) 0xC0 1).wrN (chdec 3) 0xF8 6)

/-- The hypotheses of the clauses of ResultFifoReaderAndReplay are met: a line holds the hypotheses of one clause, but for those an earlier line holds. -/
theorem witness_ResultFifoReaderAndReplay :
    (resultFifoReaderAndReplay1.reads (.bureau : Req) (chdec 3) = true ∧ resultFifoReaderAndReplay1.flag (chdec 3) 192 0 = false ∧ (resultFifoReaderAndReplay1.dec 3).fifo.recs = (⟨[2^40+5,7],1,0,0⟩ : FifoRec) :: ([⟨[1],1,0,0⟩] : List FifoRec) ∧ (⟨[2^40+5,7],1,0,0⟩ : FifoRec).words = ((2^40+5) : Nat) :: ([7] : List Nat)) ∧
    (resultFifoReaderAndReplay2.reads (.bureau : Req) (chdec 3) = true ∧ resultFifoReaderAndReplay2.flag (chdec 3) 192 0 = false ∧ (resultFifoReaderAndReplay2.dec 3).fifo.recs = (⟨[2^40+5],1,0,0⟩ : FifoRec) :: ([⟨[1],1,0,0⟩] : List FifoRec) ∧ (⟨[2^40+5],1,0,0⟩ : FifoRec).words = ((2^40+5) : Nat) :: ([] : List Nat)) ∧
    (resultFifoReaderAndReplay3.reads (.bureau : Req) (chdec 3) = true ∧ resultFifoReaderAndReplay3.flag (chdec 3) 192 0 = false ∧ (resultFifoReaderAndReplay3.dec 3).fifo.recs = []) ∧
    (resultFifoReaderAndReplay4.reads (.bureau : Req) (chdec 3) = true ∧ resultFifoReaderAndReplay4.flag (chdec 3) 192 0 = true) ∧
    (resultFifoReaderAndReplay2.passes (.bureau : Req) (chdec 3) 208 = true) ∧
    (resultFifoReaderAndReplay2.passes (.bureau : Req) (chdec 3) 196 = true) ∧
    ((resultFifoReaderAndReplay5.dec 3).fifo.recs = (⟨[2^40+5],1,0,0⟩ : FifoRec) :: ([⟨[1],1,0,0⟩] : List FifoRec) ∧ resultFifoReaderAndReplay5.flag (chdec 3) 192 0 = true ∧ (resultFifoReaderAndReplay5.dec 3).fifo.atBoundary = true ∧ (resultFifoReaderAndReplay5.dec 3).fifo.afterFalse = false ∧ ringUsed (2 ^ resultFifoReaderAndReplay5.fld (chdec 3) 248 4 0) (resultFifoReaderAndReplay5.rdN (chdec 3) 252) (resultFifoReaderAndReplay5.rdN (chdec 3) 256) + 8 * (⟨[2^40+5],1,0,0⟩ : FifoRec).words.length < 2 ^ resultFifoReaderAndReplay5.fld (chdec 3) 248 4 0) ∧
    (((rws 0x30 rwd) : State).mgmtAt (288 + 3) 48 = some ((rwa 0x30) : Arrival)) ∧
    (((rws 0x31 rwd) : State).mgmtAt (288 + 3) 49 = some ((rwa 0x31) : Arrival)) ∧
    (((rws 0x32 rwd) : State).mgmtAt (288 + 3) 50 = some ((rwa 0x32) : Arrival)) :=
  ⟨by and_intros <;> decide +kernel, by and_intros <;> decide +kernel, by and_intros <;> decide +kernel, by and_intros <;> decide +kernel, by and_intros <;> decide +kernel, by and_intros <;> decide +kernel, by and_intros <;> decide +kernel, by and_intros <;> decide +kernel, by and_intros <;> decide +kernel, by and_intros <;> decide +kernel⟩

abbrev m0 : MbCmd := ⟨0, kw, [], 0, .ok, 0, 0, [], 0, 0, 0, 0, 0, [], [], []⟩
/-- The device READY, with one partition in a state. -/
abbrev rz (k : Nat) (st : PartState) : State := {bz with partState := [(k, st)]}
abbrev fz : State := {bz with boot := {bz.boot with resetN := true}}
abbrev mailboxTurnsCommandsAway1 : State := {bz with mbox := [m0]}
abbrev mailboxTurnsCommandsAway2 : State := ((rz 5 .running).wrN (bur 0) 0x60 9)

/-- The hypotheses of the clauses of MailboxTurnsCommandsAway are met: a line holds the hypotheses of one clause, but for those an earlier line holds. -/
theorem witness_MailboxTurnsCommandsAway :
    (((6, .migrate .bureau kw) : Nat × Instr) ∈ [(1, Instr.partConfig (.bureau : Req) kw), (2, Instr.imageLoad (.bureau : Req) kw), (3, Instr.partStart (.bureau : Req) kw), (4, Instr.partStop (.bureau : Req) kw), (5, Instr.partRelease (.bureau : Req) kw), (6, Instr.migrate (.bureau : Req) kw), (7, Instr.park (.bureau : Req) kw), (8, Instr.unpark (.bureau : Req) kw), (9, Instr.rebalance (.bureau : Req) kw ([] : List (Nat × Nat × Nat)) ([] : List (Nat × List Nat))), (10, Instr.consolidate (.bureau : Req) kw), (11, Instr.query (.bureau : Req) kw)] ∧ mailboxTurnsCommandsAway1.passes (.bureau : Req) (bur (.bureau : Req).view) 64 = true ∧ (∃ m, m ∈ mailboxTurnsCommandsAway1.mbox ∧ m.fn = (.bureau : Req).view)) ∧
    (((6, .migrate (.fn 4) kw) : Nat × Instr) ∈ [(1, Instr.partConfig ((.fn 4) : Req) kw), (2, Instr.imageLoad ((.fn 4) : Req) kw), (3, Instr.partStart ((.fn 4) : Req) kw), (4, Instr.partStop ((.fn 4) : Req) kw), (5, Instr.partRelease ((.fn 4) : Req) kw), (6, Instr.migrate ((.fn 4) : Req) kw), (7, Instr.park ((.fn 4) : Req) kw), (8, Instr.unpark ((.fn 4) : Req) kw), (9, Instr.rebalance ((.fn 4) : Req) kw ([] : List (Nat × Nat × Nat)) ([] : List (Nat × List Nat))), (10, Instr.consolidate ((.fn 4) : Req) kw), (11, Instr.query ((.fn 4) : Req) kw)] ∧ fz.mbIdle ((.fn 4) : Req) ∧ ((.fn 4) : Req).view ≠ 0 ∧ kw.bits 13 8 ≠ ((.fn 4) : Req).view) ∧
    (((6, .migrate (.fn 5) kw) : Nat × Instr) ∈ [(1, Instr.partConfig ((.fn 5) : Req) kw), (2, Instr.imageLoad ((.fn 5) : Req) kw), (3, Instr.partStart ((.fn 5) : Req) kw), (4, Instr.partStop ((.fn 5) : Req) kw), (5, Instr.partRelease ((.fn 5) : Req) kw), (6, Instr.migrate ((.fn 5) : Req) kw), (7, Instr.park ((.fn 5) : Req) kw), (8, Instr.unpark ((.fn 5) : Req) kw), (9, Instr.rebalance ((.fn 5) : Req) kw ([] : List (Nat × Nat × Nat)) ([] : List (Nat × List Nat))), (10, Instr.consolidate ((.fn 5) : Req) kw), (11, Instr.query ((.fn 5) : Req) kw)] ∧ fz.mbIdle ((.fn 5) : Req) ∧ (((.fn 5) : Req).view = 0 ∨ kw.bits 13 8 = ((.fn 5) : Req).view) ∧ ((6, .migrate (.fn 5) kw) : Nat × Instr).fst ≠ 11 ∧ (kw.bits 13 8 = 0 ∨ mbStates ((6, .migrate (.fn 5) kw) : Nat × Instr).fst (fz.part (kw.bits 13 8)) = false)) ∧
    (mailboxTurnsCommandsAway2.mbIdle (.bureau : Req) ∧ ((.bureau : Req).view = 0 ∨ kw.bits 13 8 = (.bureau : Req).view) ∧ 0 < kw.bits 13 8 ∧ mbStates ((6, .migrate .bureau kw) : Nat × Instr).fst (mailboxTurnsCommandsAway2.part (kw.bits 13 8)) = true ∧ ((6, .migrate .bureau kw) : Nat × Instr).fst ∈ [4, 6, 7, 8, 9, 10] ∧ mailboxTurnsCommandsAway2.rdN (bur (.bureau : Req).view) 96 ≠ 4294967295 ∧ mailboxTurnsCommandsAway2.rdN (bur (.bureau : Req).view) 96 ≠ (mailboxTurnsCommandsAway2.cfg (kw.bits 13 8)).ep) :=
  ⟨by and_intros <;> decide +kernel, by unfold State.mbIdle; and_intros <;> decide +kernel, by unfold State.mbIdle; and_intros <;> decide +kernel, by unfold State.mbIdle; and_intros <;> decide +kernel⟩

abbrev al (s : State) : State := ((s.wrN (bur 0) 0x60 0xFFFFFFFF))
abbrev ag (a b c d : Nat) (s : State) : State := (((s.wrN (bur 0) 0x44 a).wrN (bur 0) 0x48 b).wrN (bur 0) 0x4C c).wrN (bur 0) 0x50 d
abbrev ld : State := al (ag 5 0 0 0 (rz 5 .loaded))
/-- Partition 5 running with one Cabinet at position 40. -/
abbrev rn5 : State := ({al (ag 5 0 0 0 (rz 5 .running)) with maps := [(1280, ⟨40, false, true⟩)]}.setFld (cctl 40) 0x28 5 0 5).wr64 (hzn 40) 0x58 90000
abbrev secI : Nat := 4 + 0xFFFFFFFF * 2^32 + 1 * 2^64 + 8 * 2^128 + 0x370000 * 2^160
abbrev imgH (crc secc : Nat) : Nat := 0x4E525456 + 3*2^32 + 1*2^48 + 2^72 + 32768*2^96 + 3072*2^128 + 152*2^160 + crc * 2^224 + (0x0D + secc*2^32 + 128 * 2^64 + 24*2^128) * 2^512 + secI * 2^1024
abbrev imgV : Nat := imgH (crc32 (byteList (imgH 0 (crc32 (byteList secI 24))) 152)) (crc32 (byteList secI 24))
abbrev ldi : State := {al (ag 0 0 0 0 (rz 5 .loaded)) with parts := [(5, {PartCfg.reset with image := imgV, size := 152})]}
abbrev rst : State := ((((({al (ag 0 0 0 0 (rz 5 .stopped)) with maps := [(1280, ⟨40, false, true⟩)]}.setFld (cctl 40) 0x28 5 0 5).wr64 (hzn 40) 0x58 90000).wrN (hzn 40) 0x4C 4).wrN (hzn 40) 0x50 0xFFFFFFFF).wrN (hzn 40) 0x54 1)
abbrev runp : State := ({al (ag 5 0 0 0 (rz 5 .stopped)) with maps := [(1280, ⟨40, false, true⟩)]}.setFld (cctl 40) 0x28 5 0 5).wr64 (hzn 40) 0x58 90000
abbrev partitionsConfigureStartAndStop1 : State := (al (ag 3 0 0 0 bz))
abbrev partitionsConfigureStartAndStop2 : State := (al (ag 5 77 0 0x44 (bz.setFld (chin 3) 0x28 5 0 5)))
abbrev partitionsConfigureStartAndStop3 : State := ({ld with tb := z.tb})
abbrev partitionsConfigureStartAndStop4 : State := (al (ag 500000 0 0 0 (rz 5 .loaded)))
abbrev partitionsConfigureStartAndStop5 : ImgFail := ((((al (ag 500000 0 0 0 (rz 5 .loaded)))).startFail 5 ⟨0,0⟩).get (by decide +kernel))
abbrev partitionsConfigureStartAndStop6 : State := (ag 500000 0 0 0 rn5)
abbrev partitionsConfigureStartAndStop7 : State := ({rn5 with partState := [(5, .stopped)]}.setFld (chin 3) 0x28 5 0 5)
abbrev partitionsConfigureStartAndStop8 : State := {ldi with fuses := {ldi.fuses with posEn := 0}}
abbrev partitionsConfigureStartAndStop9 : State := {ldi with fuses := {ldi.fuses with stkEn := 0}}
abbrev partitionsConfigureStartAndStop10 : List Nat := (((State.placeFor ldi ⟨imgV,152⟩ (Img.rate ⟨imgV,152⟩)).getD []))
abbrev partitionsConfigureStartAndStop11 : State := {rst with synced := [(44, true), (308, true)]}

/-- The hypotheses of the clauses of PartitionsConfigureStartAndStop are met: a line holds the hypotheses of one clause, but for those an earlier line holds. -/
theorem witness_PartitionsConfigureStartAndStop :
    (partitionsConfigureStartAndStop1.mbIdle (.bureau : Req) ∧ partitionsConfigureStartAndStop1.mbAllowed (.bureau : Req) (kw.bits 13 8) 1 ∧ ((fun i => partitionsConfigureStartAndStop1.rdN (bur (.bureau : Req).view) (68 + 4 * i)) 0 % 4 = 3 ∨ (fun i => partitionsConfigureStartAndStop1.rdN (bur (.bureau : Req).view) (68 + 4 * i)) 3 % 4 = 3 ∨ (fun i => partitionsConfigureStartAndStop1.rdN (bur (.bureau : Req).view) (68 + 4 * i)) 3 / 4 % 4 = 3 ∨ (fun i => partitionsConfigureStartAndStop1.rdN (bur (.bureau : Req).view) (68 + 4 * i)) 3 / 16 % 32 = 0 ∨ 16 < (fun i => partitionsConfigureStartAndStop1.rdN (bur (.bureau : Req).view) (68 + 4 * i)) 3 / 16 % 32 ∨ (fun i => partitionsConfigureStartAndStop1.rdN (bur (.bureau : Req).view) (68 + 4 * i)) 0 % 4 = 0 ∧ (fun i => partitionsConfigureStartAndStop1.rdN (bur (.bureau : Req).view) (68 + 4 * i)) 3 % 4 ≠ 1)) ∧
    (partitionsConfigureStartAndStop2.mbIdle (.bureau : Req) ∧ partitionsConfigureStartAndStop2.mbAllowed (.bureau : Req) (kw.bits 13 8) 1 ∧ (¬((fun i => partitionsConfigureStartAndStop2.rdN (bur (.bureau : Req).view) (68 + 4 * i)) 0 % 4 = 3 ∨ (fun i => partitionsConfigureStartAndStop2.rdN (bur (.bureau : Req).view) (68 + 4 * i)) 3 % 4 = 3 ∨ (fun i => partitionsConfigureStartAndStop2.rdN (bur (.bureau : Req).view) (68 + 4 * i)) 3 / 4 % 4 = 3 ∨ (fun i => partitionsConfigureStartAndStop2.rdN (bur (.bureau : Req).view) (68 + 4 * i)) 3 / 16 % 32 = 0 ∨ 16 < (fun i => partitionsConfigureStartAndStop2.rdN (bur (.bureau : Req).view) (68 + 4 * i)) 3 / 16 % 32 ∨ (fun i => partitionsConfigureStartAndStop2.rdN (bur (.bureau : Req).view) (68 + 4 * i)) 0 % 4 = 0 ∧ (fun i => partitionsConfigureStartAndStop2.rdN (bur (.bureau : Req).view) (68 + 4 * i)) 3 % 4 ≠ 1))) ∧
    (partitionsConfigureStartAndStop2.mbAllowed (.bureau : Req) (kw.bits 13 8) 2) ∧
    (partitionsConfigureStartAndStop3.mbIdle (.bureau : Req) ∧ partitionsConfigureStartAndStop3.mbAllowed (.bureau : Req) (kw.bits 13 8) 3 ∧ partitionsConfigureStartAndStop3.tb.state ≠ TState.running) ∧
    (runp.mbIdle (.bureau : Req) ∧ runp.mbAllowed (.bureau : Req) (kw.bits 13 8) 3 ∧ runp.tb.state = TState.running ∧ ((fun i => runp.rdN (bur (.bureau : Req).view) (68 + 4 * i)) 0 + (fun i => runp.rdN (bur (.bureau : Req).view) (68 + 4 * i)) 1 * 2 ^ 32 ≠ 0) ∧ ((fun i => runp.rdN (bur (.bureau : Req).view) (68 + 4 * i)) 0 + (fun i => runp.rdN (bur (.bureau : Req).view) (68 + 4 * i)) 1 * 2 ^ 32 ≤ runp.partS (kw.bits 13 8))) ∧
    (ld.mbIdle (.bureau : Req) ∧ ld.mbAllowed (.bureau : Req) (kw.bits 13 8) 3 ∧ ld.tb.state = TState.running ∧ ((fun i => ld.rdN (bur (.bureau : Req).view) (68 + 4 * i)) 0 + (fun i => ld.rdN (bur (.bureau : Req).view) (68 + 4 * i)) 1 * 2 ^ 32 ≠ 0) ∧ (ld.partS (kw.bits 13 8) < (fun i => ld.rdN (bur (.bureau : Req).view) (68 + 4 * i)) 0 + (fun i => ld.rdN (bur (.bureau : Req).view) (68 + 4 * i)) 1 * 2 ^ 32) ∧ ((fun i => ld.rdN (bur (.bureau : Req).view) (68 + 4 * i)) 0 + (fun i => ld.rdN (bur (.bureau : Req).view) (68 + 4 * i)) 1 * 2 ^ 32 < ld.now + 4 * (ld.cfg (kw.bits 13 8)).round)) ∧
    (partitionsConfigureStartAndStop4.mbIdle (.bureau : Req) ∧ partitionsConfigureStartAndStop4.mbAllowed (.bureau : Req) (kw.bits 13 8) 3 ∧ partitionsConfigureStartAndStop4.tb.state = TState.running ∧ ((fun i => partitionsConfigureStartAndStop4.rdN (bur (.bureau : Req).view) (68 + 4 * i)) 0 + (fun i => partitionsConfigureStartAndStop4.rdN (bur (.bureau : Req).view) (68 + 4 * i)) 1 * 2 ^ 32 = 0 ∨ partitionsConfigureStartAndStop4.partS (kw.bits 13 8) < (fun i => partitionsConfigureStartAndStop4.rdN (bur (.bureau : Req).view) (68 + 4 * i)) 0 + (fun i => partitionsConfigureStartAndStop4.rdN (bur (.bureau : Req).view) (68 + 4 * i)) 1 * 2 ^ 32) ∧ ((partitionsConfigureStartAndStop4.mbEntered ((fun op => mbTaken (.bureau : Req).view (kw.setBits 7 0 op) [] [] partitionsConfigureStartAndStop4) 3)).now + 4 * (partitionsConfigureStartAndStop4.cfg (kw.bits 13 8)).round ≤ (partitionsConfigureStartAndStop4.mbEntered ((fun op => mbTaken (.bureau : Req).view (kw.setBits 7 0 op) [] [] partitionsConfigureStartAndStop4) 3)).startTime (kw.bits 13 8) ((fun i => partitionsConfigureStartAndStop4.rdN (bur (.bureau : Req).view) (68 + 4 * i)) 0 + (fun i => partitionsConfigureStartAndStop4.rdN (bur (.bureau : Req).view) (68 + 4 * i)) 1 * 2 ^ 32) partitionsConfigureStartAndStop4.now) ∧ ((partitionsConfigureStartAndStop4.mbEntered ((fun op => mbTaken (.bureau : Req).view (kw.setBits 7 0 op) [] [] partitionsConfigureStartAndStop4) 3)).startFail (kw.bits 13 8) ((partitionsConfigureStartAndStop4.mbEntered ((fun op => mbTaken (.bureau : Req).view (kw.setBits 7 0 op) [] [] partitionsConfigureStartAndStop4) 3)).img (kw.bits 13 8)) = some partitionsConfigureStartAndStop5)) ∧
    ((fun i => ld.rdN (bur (.bureau : Req).view) (68 + 4 * i)) 0 + (fun i => ld.rdN (bur (.bureau : Req).view) (68 + 4 * i)) 1 * 2 ^ 32 = 0 ∨ ld.partS (kw.bits 13 8) < (fun i => ld.rdN (bur (.bureau : Req).view) (68 + 4 * i)) 0 + (fun i => ld.rdN (bur (.bureau : Req).view) (68 + 4 * i)) 1 * 2 ^ 32) ∧
    (rn5.mbIdle (.bureau : Req) ∧ rn5.mbAllowed (.bureau : Req) (kw.bits 13 8) 4 ∧ ((fun i => rn5.rdN (bur (.bureau : Req).view) (68 + 4 * i)) 0 + (fun i => rn5.rdN (bur (.bureau : Req).view) (68 + 4 * i)) 1 * 2 ^ 32 ≤ rn5.partS (kw.bits 13 8))) ∧
    (partitionsConfigureStartAndStop6.mbIdle (.bureau : Req) ∧ partitionsConfigureStartAndStop6.mbAllowed (.bureau : Req) (kw.bits 13 8) 4 ∧ (partitionsConfigureStartAndStop6.partS (kw.bits 13 8) < (fun i => partitionsConfigureStartAndStop6.rdN (bur (.bureau : Req).view) (68 + 4 * i)) 0 + (fun i => partitionsConfigureStartAndStop6.rdN (bur (.bureau : Req).view) (68 + 4 * i)) 1 * 2 ^ 32)) ∧
    (partitionsConfigureStartAndStop7.mbIdle (.bureau : Req) ∧ partitionsConfigureStartAndStop7.mbAllowed (.bureau : Req) (kw.bits 13 8) 5) ∧
    (rn5.mbAllowed (.bureau : Req) (kw.bits 13 8) 11) ∧
    (partitionsConfigureStartAndStop8.mbIdle (.bureau : Req) ∧ partitionsConfigureStartAndStop8.mbAllowed (.bureau : Req) (kw.bits 13 8) 3 ∧ partitionsConfigureStartAndStop8.tb.state = TState.running ∧ ((fun i => partitionsConfigureStartAndStop8.rdN (bur (.bureau : Req).view) (68 + 4 * i)) 0 + (fun i => partitionsConfigureStartAndStop8.rdN (bur (.bureau : Req).view) (68 + 4 * i)) 1 * 2 ^ 32 = 0 ∨ partitionsConfigureStartAndStop8.partS (kw.bits 13 8) < (fun i => partitionsConfigureStartAndStop8.rdN (bur (.bureau : Req).view) (68 + 4 * i)) 0 + (fun i => partitionsConfigureStartAndStop8.rdN (bur (.bureau : Req).view) (68 + 4 * i)) 1 * 2 ^ 32) ∧ ((partitionsConfigureStartAndStop8.mbEntered ((fun op => mbTaken (.bureau : Req).view (kw.setBits 7 0 op) [] [] partitionsConfigureStartAndStop8) 3)).now + 4 * (partitionsConfigureStartAndStop8.cfg (kw.bits 13 8)).round ≤ (partitionsConfigureStartAndStop8.mbEntered ((fun op => mbTaken (.bureau : Req).view (kw.setBits 7 0 op) [] [] partitionsConfigureStartAndStop8) 3)).startTime (kw.bits 13 8) ((fun i => partitionsConfigureStartAndStop8.rdN (bur (.bureau : Req).view) (68 + 4 * i)) 0 + (fun i => partitionsConfigureStartAndStop8.rdN (bur (.bureau : Req).view) (68 + 4 * i)) 1 * 2 ^ 32) partitionsConfigureStartAndStop8.now) ∧ ((partitionsConfigureStartAndStop8.mbEntered ((fun op => mbTaken (.bureau : Req).view (kw.setBits 7 0 op) [] [] partitionsConfigureStartAndStop8) 3)).startFail (kw.bits 13 8) ((partitionsConfigureStartAndStop8.mbEntered ((fun op => mbTaken (.bureau : Req).view (kw.setBits 7 0 op) [] [] partitionsConfigureStartAndStop8) 3)).img (kw.bits 13 8)) = none) ∧ ((if decide (partitionsConfigureStartAndStop8.part (kw.bits 13 8) = PartState.loaded) = true then (partitionsConfigureStartAndStop8.mbEntered ((fun op => mbTaken (.bureau : Req).view (kw.setBits 7 0 op) [] [] partitionsConfigureStartAndStop8) 3)).placeFor ((partitionsConfigureStartAndStop8.mbEntered ((fun op => mbTaken (.bureau : Req).view (kw.setBits 7 0 op) [] [] partitionsConfigureStartAndStop8) 3)).img (kw.bits 13 8)) ((partitionsConfigureStartAndStop8.mbEntered ((fun op => mbTaken (.bureau : Req).view (kw.setBits 7 0 op) [] [] partitionsConfigureStartAndStop8) 3)).img (kw.bits 13 8)).rate else some []) = none)) ∧
    (partitionsConfigureStartAndStop9.mbIdle (.bureau : Req) ∧ partitionsConfigureStartAndStop9.mbAllowed (.bureau : Req) (kw.bits 13 8) 3 ∧ partitionsConfigureStartAndStop9.tb.state = TState.running ∧ ((fun i => partitionsConfigureStartAndStop9.rdN (bur (.bureau : Req).view) (68 + 4 * i)) 0 + (fun i => partitionsConfigureStartAndStop9.rdN (bur (.bureau : Req).view) (68 + 4 * i)) 1 * 2 ^ 32 = 0 ∨ partitionsConfigureStartAndStop9.partS (kw.bits 13 8) < (fun i => partitionsConfigureStartAndStop9.rdN (bur (.bureau : Req).view) (68 + 4 * i)) 0 + (fun i => partitionsConfigureStartAndStop9.rdN (bur (.bureau : Req).view) (68 + 4 * i)) 1 * 2 ^ 32) ∧ ((partitionsConfigureStartAndStop9.mbEntered ((fun op => mbTaken (.bureau : Req).view (kw.setBits 7 0 op) [] [] partitionsConfigureStartAndStop9) 3)).now + 4 * (partitionsConfigureStartAndStop9.cfg (kw.bits 13 8)).round ≤ (partitionsConfigureStartAndStop9.mbEntered ((fun op => mbTaken (.bureau : Req).view (kw.setBits 7 0 op) [] [] partitionsConfigureStartAndStop9) 3)).startTime (kw.bits 13 8) ((fun i => partitionsConfigureStartAndStop9.rdN (bur (.bureau : Req).view) (68 + 4 * i)) 0 + (fun i => partitionsConfigureStartAndStop9.rdN (bur (.bureau : Req).view) (68 + 4 * i)) 1 * 2 ^ 32) partitionsConfigureStartAndStop9.now) ∧ ((partitionsConfigureStartAndStop9.mbEntered ((fun op => mbTaken (.bureau : Req).view (kw.setBits 7 0 op) [] [] partitionsConfigureStartAndStop9) 3)).startFail (kw.bits 13 8) ((partitionsConfigureStartAndStop9.mbEntered ((fun op => mbTaken (.bureau : Req).view (kw.setBits 7 0 op) [] [] partitionsConfigureStartAndStop9) 3)).img (kw.bits 13 8)) = none) ∧ ((if decide (partitionsConfigureStartAndStop9.part (kw.bits 13 8) = PartState.loaded) = true then (partitionsConfigureStartAndStop9.mbEntered ((fun op => mbTaken (.bureau : Req).view (kw.setBits 7 0 op) [] [] partitionsConfigureStartAndStop9) 3)).placeFor ((partitionsConfigureStartAndStop9.mbEntered ((fun op => mbTaken (.bureau : Req).view (kw.setBits 7 0 op) [] [] partitionsConfigureStartAndStop9) 3)).img (kw.bits 13 8)) ((partitionsConfigureStartAndStop9.mbEntered ((fun op => mbTaken (.bureau : Req).view (kw.setBits 7 0 op) [] [] partitionsConfigureStartAndStop9) 3)).img (kw.bits 13 8)).rate else some []) = some partitionsConfigureStartAndStop10) ∧ (((fun pos => (partitionsConfigureStartAndStop9.mbEntered ((fun op => mbTaken (.bureau : Req).view (kw.setBits 7 0 op) [] [] partitionsConfigureStartAndStop9) 3)).areaPlan (kw.bits 13 8) ((partitionsConfigureStartAndStop9.mbEntered ((fun op => mbTaken (.bureau : Req).view (kw.setBits 7 0 op) [] [] partitionsConfigureStartAndStop9) 3)).img (kw.bits 13 8)) (decide (partitionsConfigureStartAndStop9.part (kw.bits 13 8) = PartState.loaded)) fun c => if decide (partitionsConfigureStartAndStop9.part (kw.bits 13 8) = PartState.loaded) = true then pos.getD c 0 else ((partitionsConfigureStartAndStop9.mbEntered ((fun op => mbTaken (.bureau : Req).view (kw.setBits 7 0 op) [] [] partitionsConfigureStartAndStop9) 3)).posOf (kw.bits 13 8) c).getD 0) partitionsConfigureStartAndStop10).lack ≠ 0)) ∧
    (partitionsConfigureStartAndStop11.mbIdle (.bureau : Req) ∧ partitionsConfigureStartAndStop11.mbAllowed (.bureau : Req) (kw.bits 13 8) 3 ∧ partitionsConfigureStartAndStop11.tb.state = TState.running ∧ ((fun i => partitionsConfigureStartAndStop11.rdN (bur (.bureau : Req).view) (68 + 4 * i)) 0 + (fun i => partitionsConfigureStartAndStop11.rdN (bur (.bureau : Req).view) (68 + 4 * i)) 1 * 2 ^ 32 = 0 ∨ partitionsConfigureStartAndStop11.partS (kw.bits 13 8) < (fun i => partitionsConfigureStartAndStop11.rdN (bur (.bureau : Req).view) (68 + 4 * i)) 0 + (fun i => partitionsConfigureStartAndStop11.rdN (bur (.bureau : Req).view) (68 + 4 * i)) 1 * 2 ^ 32) ∧ ((partitionsConfigureStartAndStop11.mbEntered ((fun op => mbTaken (.bureau : Req).view (kw.setBits 7 0 op) [] [] partitionsConfigureStartAndStop11) 3)).now + 4 * (partitionsConfigureStartAndStop11.cfg (kw.bits 13 8)).round ≤ (partitionsConfigureStartAndStop11.mbEntered ((fun op => mbTaken (.bureau : Req).view (kw.setBits 7 0 op) [] [] partitionsConfigureStartAndStop11) 3)).startTime (kw.bits 13 8) ((fun i => partitionsConfigureStartAndStop11.rdN (bur (.bureau : Req).view) (68 + 4 * i)) 0 + (fun i => partitionsConfigureStartAndStop11.rdN (bur (.bureau : Req).view) (68 + 4 * i)) 1 * 2 ^ 32) partitionsConfigureStartAndStop11.now) ∧ ((partitionsConfigureStartAndStop11.mbEntered ((fun op => mbTaken (.bureau : Req).view (kw.setBits 7 0 op) [] [] partitionsConfigureStartAndStop11) 3)).startFail (kw.bits 13 8) ((partitionsConfigureStartAndStop11.mbEntered ((fun op => mbTaken (.bureau : Req).view (kw.setBits 7 0 op) [] [] partitionsConfigureStartAndStop11) 3)).img (kw.bits 13 8)) = none) ∧ ((if decide (partitionsConfigureStartAndStop11.part (kw.bits 13 8) = PartState.loaded) = true then (partitionsConfigureStartAndStop11.mbEntered ((fun op => mbTaken (.bureau : Req).view (kw.setBits 7 0 op) [] [] partitionsConfigureStartAndStop11) 3)).placeFor ((partitionsConfigureStartAndStop11.mbEntered ((fun op => mbTaken (.bureau : Req).view (kw.setBits 7 0 op) [] [] partitionsConfigureStartAndStop11) 3)).img (kw.bits 13 8)) ((partitionsConfigureStartAndStop11.mbEntered ((fun op => mbTaken (.bureau : Req).view (kw.setBits 7 0 op) [] [] partitionsConfigureStartAndStop11) 3)).img (kw.bits 13 8)).rate else some []) = some ([] : List Nat)) ∧ (((fun pos => (partitionsConfigureStartAndStop11.mbEntered ((fun op => mbTaken (.bureau : Req).view (kw.setBits 7 0 op) [] [] partitionsConfigureStartAndStop11) 3)).areaPlan (kw.bits 13 8) ((partitionsConfigureStartAndStop11.mbEntered ((fun op => mbTaken (.bureau : Req).view (kw.setBits 7 0 op) [] [] partitionsConfigureStartAndStop11) 3)).img (kw.bits 13 8)) (decide (partitionsConfigureStartAndStop11.part (kw.bits 13 8) = PartState.loaded)) fun c => if decide (partitionsConfigureStartAndStop11.part (kw.bits 13 8) = PartState.loaded) = true then pos.getD c 0 else ((partitionsConfigureStartAndStop11.mbEntered ((fun op => mbTaken (.bureau : Req).view (kw.setBits 7 0 op) [] [] partitionsConfigureStartAndStop11) 3)).posOf (kw.bits 13 8) c).getD 0) ([] : List Nat)).lack = 0) ∧ ((partitionsConfigureStartAndStop11.cfg (kw.bits 13 8)).prot = true → (((partitionsConfigureStartAndStop11.mbEntered ((fun op => mbTaken (.bureau : Req).view (kw.setBits 7 0 op) [] [] partitionsConfigureStartAndStop11) 3)).takeAreas (kw.bits 13 8) ((partitionsConfigureStartAndStop11.mbEntered ((fun op => mbTaken (.bureau : Req).view (kw.setBits 7 0 op) [] [] partitionsConfigureStartAndStop11) 3)).img (kw.bits 13 8)) (decide (partitionsConfigureStartAndStop11.part (kw.bits 13 8) = PartState.loaded)) ((fun pos => (partitionsConfigureStartAndStop11.mbEntered ((fun op => mbTaken (.bureau : Req).view (kw.setBits 7 0 op) [] [] partitionsConfigureStartAndStop11) 3)).areaPlan (kw.bits 13 8) ((partitionsConfigureStartAndStop11.mbEntered ((fun op => mbTaken (.bureau : Req).view (kw.setBits 7 0 op) [] [] partitionsConfigureStartAndStop11) 3)).img (kw.bits 13 8)) (decide (partitionsConfigureStartAndStop11.part (kw.bits 13 8) = PartState.loaded)) fun c => if decide (partitionsConfigureStartAndStop11.part (kw.bits 13 8) = PartState.loaded) = true then pos.getD c 0 else ((partitionsConfigureStartAndStop11.mbEntered ((fun op => mbTaken (.bureau : Req).view (kw.setBits 7 0 op) [] [] partitionsConfigureStartAndStop11) 3)).posOf (kw.bits 13 8) c).getD 0) ([] : List Nat))).mapped (kw.bits 13 8) (decide (partitionsConfigureStartAndStop11.part (kw.bits 13 8) = PartState.loaded)) ([] : List Nat)).protOk (kw.bits 13 8) ((partitionsConfigureStartAndStop11.mbEntered ((fun op => mbTaken (.bureau : Req).view (kw.setBits 7 0 op) [] [] partitionsConfigureStartAndStop11) 3)).img (kw.bits 13 8)) = true) ∧ ((((partitionsConfigureStartAndStop11.mbEntered ((fun op => mbTaken (.bureau : Req).view (kw.setBits 7 0 op) [] [] partitionsConfigureStartAndStop11) 3)).takeAreas (kw.bits 13 8) ((partitionsConfigureStartAndStop11.mbEntered ((fun op => mbTaken (.bureau : Req).view (kw.setBits 7 0 op) [] [] partitionsConfigureStartAndStop11) 3)).img (kw.bits 13 8)) (decide (partitionsConfigureStartAndStop11.part (kw.bits 13 8) = PartState.loaded)) ((fun pos => (partitionsConfigureStartAndStop11.mbEntered ((fun op => mbTaken (.bureau : Req).view (kw.setBits 7 0 op) [] [] partitionsConfigureStartAndStop11) 3)).areaPlan (kw.bits 13 8) ((partitionsConfigureStartAndStop11.mbEntered ((fun op => mbTaken (.bureau : Req).view (kw.setBits 7 0 op) [] [] partitionsConfigureStartAndStop11) 3)).img (kw.bits 13 8)) (decide (partitionsConfigureStartAndStop11.part (kw.bits 13 8) = PartState.loaded)) fun c => if decide (partitionsConfigureStartAndStop11.part (kw.bits 13 8) = PartState.loaded) = true then pos.getD c 0 else ((partitionsConfigureStartAndStop11.mbEntered ((fun op => mbTaken (.bureau : Req).view (kw.setBits 7 0 op) [] [] partitionsConfigureStartAndStop11) 3)).posOf (kw.bits 13 8) c).getD 0) ([] : List Nat))).mapped (kw.bits 13 8) (decide (partitionsConfigureStartAndStop11.part (kw.bits 13 8) = PartState.loaded)) ([] : List Nat)).admission (kw.bits 13 8) ((partitionsConfigureStartAndStop11.mbEntered ((fun op => mbTaken (.bureau : Req).view (kw.setBits 7 0 op) [] [] partitionsConfigureStartAndStop11) 3)).img (kw.bits 13 8)) ((partitionsConfigureStartAndStop11.mbEntered ((fun op => mbTaken (.bureau : Req).view (kw.setBits 7 0 op) [] [] partitionsConfigureStartAndStop11) 3)).img (kw.bits 13 8)).rate ((((partitionsConfigureStartAndStop11.mbEntered ((fun op => mbTaken (.bureau : Req).view (kw.setBits 7 0 op) [] [] partitionsConfigureStartAndStop11) 3)).takeAreas (kw.bits 13 8) ((partitionsConfigureStartAndStop11.mbEntered ((fun op => mbTaken (.bureau : Req).view (kw.setBits 7 0 op) [] [] partitionsConfigureStartAndStop11) 3)).img (kw.bits 13 8)) (decide (partitionsConfigureStartAndStop11.part (kw.bits 13 8) = PartState.loaded)) ((fun pos => (partitionsConfigureStartAndStop11.mbEntered ((fun op => mbTaken (.bureau : Req).view (kw.setBits 7 0 op) [] [] partitionsConfigureStartAndStop11) 3)).areaPlan (kw.bits 13 8) ((partitionsConfigureStartAndStop11.mbEntered ((fun op => mbTaken (.bureau : Req).view (kw.setBits 7 0 op) [] [] partitionsConfigureStartAndStop11) 3)).img (kw.bits 13 8)) (decide (partitionsConfigureStartAndStop11.part (kw.bits 13 8) = PartState.loaded)) fun c => if decide (partitionsConfigureStartAndStop11.part (kw.bits 13 8) = PartState.loaded) = true then pos.getD c 0 else ((partitionsConfigureStartAndStop11.mbEntered ((fun op => mbTaken (.bureau : Req).view (kw.setBits 7 0 op) [] [] partitionsConfigureStartAndStop11) 3)).posOf (kw.bits 13 8) c).getD 0) ([] : List Nat))).mapped (kw.bits 13 8) (decide (partitionsConfigureStartAndStop11.part (kw.bits 13 8) = PartState.loaded)) ([] : List Nat)).posOf (kw.bits 13 8)) ((((partitionsConfigureStartAndStop11.mbEntered ((fun op => mbTaken (.bureau : Req).view (kw.setBits 7 0 op) [] [] partitionsConfigureStartAndStop11) 3)).takeAreas (kw.bits 13 8) ((partitionsConfigureStartAndStop11.mbEntered ((fun op => mbTaken (.bureau : Req).view (kw.setBits 7 0 op) [] [] partitionsConfigureStartAndStop11) 3)).img (kw.bits 13 8)) (decide (partitionsConfigureStartAndStop11.part (kw.bits 13 8) = PartState.loaded)) ((fun pos => (partitionsConfigureStartAndStop11.mbEntered ((fun op => mbTaken (.bureau : Req).view (kw.setBits 7 0 op) [] [] partitionsConfigureStartAndStop11) 3)).areaPlan (kw.bits 13 8) ((partitionsConfigureStartAndStop11.mbEntered ((fun op => mbTaken (.bureau : Req).view (kw.setBits 7 0 op) [] [] partitionsConfigureStartAndStop11) 3)).img (kw.bits 13 8)) (decide (partitionsConfigureStartAndStop11.part (kw.bits 13 8) = PartState.loaded)) fun c => if decide (partitionsConfigureStartAndStop11.part (kw.bits 13 8) = PartState.loaded) = true then pos.getD c 0 else ((partitionsConfigureStartAndStop11.mbEntered ((fun op => mbTaken (.bureau : Req).view (kw.setBits 7 0 op) [] [] partitionsConfigureStartAndStop11) 3)).posOf (kw.bits 13 8) c).getD 0) ([] : List Nat))).mapped (kw.bits 13 8) (decide (partitionsConfigureStartAndStop11.part (kw.bits 13 8) = PartState.loaded)) ([] : List Nat)).rootOf (kw.bits 13 8)) ((((partitionsConfigureStartAndStop11.mbEntered ((fun op => mbTaken (.bureau : Req).view (kw.setBits 7 0 op) [] [] partitionsConfigureStartAndStop11) 3)).takeAreas (kw.bits 13 8) ((partitionsConfigureStartAndStop11.mbEntered ((fun op => mbTaken (.bureau : Req).view (kw.setBits 7 0 op) [] [] partitionsConfigureStartAndStop11) 3)).img (kw.bits 13 8)) (decide (partitionsConfigureStartAndStop11.part (kw.bits 13 8) = PartState.loaded)) ((fun pos => (partitionsConfigureStartAndStop11.mbEntered ((fun op => mbTaken (.bureau : Req).view (kw.setBits 7 0 op) [] [] partitionsConfigureStartAndStop11) 3)).areaPlan (kw.bits 13 8) ((partitionsConfigureStartAndStop11.mbEntered ((fun op => mbTaken (.bureau : Req).view (kw.setBits 7 0 op) [] [] partitionsConfigureStartAndStop11) 3)).img (kw.bits 13 8)) (decide (partitionsConfigureStartAndStop11.part (kw.bits 13 8) = PartState.loaded)) fun c => if decide (partitionsConfigureStartAndStop11.part (kw.bits 13 8) = PartState.loaded) = true then pos.getD c 0 else ((partitionsConfigureStartAndStop11.mbEntered ((fun op => mbTaken (.bureau : Req).view (kw.setBits 7 0 op) [] [] partitionsConfigureStartAndStop11) 3)).posOf (kw.bits 13 8) c).getD 0) ([] : List Nat))).mapped (kw.bits 13 8) (decide (partitionsConfigureStartAndStop11.part (kw.bits 13 8) = PartState.loaded)) ([] : List Nat)).members (kw.bits 13 8)) = Admit.ok ([0,0,0,0] : List Nat) 1 4) ∧ (((partitionsConfigureStartAndStop11.mbEntered ((fun op => mbTaken (.bureau : Req).view (kw.setBits 7 0 op) [] [] partitionsConfigureStartAndStop11) 3)).startDoms (kw.bits 13 8) { pos := ([] : List Nat), area := (fun pos => (partitionsConfigureStartAndStop11.mbEntered ((fun op => mbTaken (.bureau : Req).view (kw.setBits 7 0 op) [] [] partitionsConfigureStartAndStop11) 3)).areaPlan (kw.bits 13 8) ((partitionsConfigureStartAndStop11.mbEntered ((fun op => mbTaken (.bureau : Req).view (kw.setBits 7 0 op) [] [] partitionsConfigureStartAndStop11) 3)).img (kw.bits 13 8)) (decide (partitionsConfigureStartAndStop11.part (kw.bits 13 8) = PartState.loaded)) fun c => if decide (partitionsConfigureStartAndStop11.part (kw.bits 13 8) = PartState.loaded) = true then pos.getD c 0 else ((partitionsConfigureStartAndStop11.mbEntered ((fun op => mbTaken (.bureau : Req).view (kw.setBits 7 0 op) [] [] partitionsConfigureStartAndStop11) 3)).posOf (kw.bits 13 8) c).getD 0) ([] : List Nat), g := ([0,0,0,0] : List Nat), mw := 1, ew := 4 : PartPlan }).all (partitionsConfigureStartAndStop11.mbEntered ((fun op => mbTaken (.bureau : Req).view (kw.setBits 7 0 op) [] [] partitionsConfigureStartAndStop11) 3)).domReady = true)) ∧
    (rst.mbIdle (.bureau : Req) ∧ rst.mbAllowed (.bureau : Req) (kw.bits 13 8) 3 ∧ rst.tb.state = TState.running ∧ ((fun i => rst.rdN (bur (.bureau : Req).view) (68 + 4 * i)) 0 + (fun i => rst.rdN (bur (.bureau : Req).view) (68 + 4 * i)) 1 * 2 ^ 32 = 0 ∨ rst.partS (kw.bits 13 8) < (fun i => rst.rdN (bur (.bureau : Req).view) (68 + 4 * i)) 0 + (fun i => rst.rdN (bur (.bureau : Req).view) (68 + 4 * i)) 1 * 2 ^ 32) ∧ ((rst.mbEntered ((fun op => mbTaken (.bureau : Req).view (kw.setBits 7 0 op) [] [] rst) 3)).now + 4 * (rst.cfg (kw.bits 13 8)).round ≤ (rst.mbEntered ((fun op => mbTaken (.bureau : Req).view (kw.setBits 7 0 op) [] [] rst) 3)).startTime (kw.bits 13 8) ((fun i => rst.rdN (bur (.bureau : Req).view) (68 + 4 * i)) 0 + (fun i => rst.rdN (bur (.bureau : Req).view) (68 + 4 * i)) 1 * 2 ^ 32) rst.now) ∧ ((rst.mbEntered ((fun op => mbTaken (.bureau : Req).view (kw.setBits 7 0 op) [] [] rst) 3)).startFail (kw.bits 13 8) ((rst.mbEntered ((fun op => mbTaken (.bureau : Req).view (kw.setBits 7 0 op) [] [] rst) 3)).img (kw.bits 13 8)) = none) ∧ ((if decide (rst.part (kw.bits 13 8) = PartState.loaded) = true then (rst.mbEntered ((fun op => mbTaken (.bureau : Req).view (kw.setBits 7 0 op) [] [] rst) 3)).placeFor ((rst.mbEntered ((fun op => mbTaken (.bureau : Req).view (kw.setBits 7 0 op) [] [] rst) 3)).img (kw.bits 13 8)) ((rst.mbEntered ((fun op => mbTaken (.bureau : Req).view (kw.setBits 7 0 op) [] [] rst) 3)).img (kw.bits 13 8)).rate else some []) = some ([] : List Nat)) ∧ (((fun pos => (rst.mbEntered ((fun op => mbTaken (.bureau : Req).view (kw.setBits 7 0 op) [] [] rst) 3)).areaPlan (kw.bits 13 8) ((rst.mbEntered ((fun op => mbTaken (.bureau : Req).view (kw.setBits 7 0 op) [] [] rst) 3)).img (kw.bits 13 8)) (decide (rst.part (kw.bits 13 8) = PartState.loaded)) fun c => if decide (rst.part (kw.bits 13 8) = PartState.loaded) = true then pos.getD c 0 else ((rst.mbEntered ((fun op => mbTaken (.bureau : Req).view (kw.setBits 7 0 op) [] [] rst) 3)).posOf (kw.bits 13 8) c).getD 0) ([] : List Nat)).lack = 0) ∧ ((rst.cfg (kw.bits 13 8)).prot = true → (((rst.mbEntered ((fun op => mbTaken (.bureau : Req).view (kw.setBits 7 0 op) [] [] rst) 3)).takeAreas (kw.bits 13 8) ((rst.mbEntered ((fun op => mbTaken (.bureau : Req).view (kw.setBits 7 0 op) [] [] rst) 3)).img (kw.bits 13 8)) (decide (rst.part (kw.bits 13 8) = PartState.loaded)) ((fun pos => (rst.mbEntered ((fun op => mbTaken (.bureau : Req).view (kw.setBits 7 0 op) [] [] rst) 3)).areaPlan (kw.bits 13 8) ((rst.mbEntered ((fun op => mbTaken (.bureau : Req).view (kw.setBits 7 0 op) [] [] rst) 3)).img (kw.bits 13 8)) (decide (rst.part (kw.bits 13 8) = PartState.loaded)) fun c => if decide (rst.part (kw.bits 13 8) = PartState.loaded) = true then pos.getD c 0 else ((rst.mbEntered ((fun op => mbTaken (.bureau : Req).view (kw.setBits 7 0 op) [] [] rst) 3)).posOf (kw.bits 13 8) c).getD 0) ([] : List Nat))).mapped (kw.bits 13 8) (decide (rst.part (kw.bits 13 8) = PartState.loaded)) ([] : List Nat)).protOk (kw.bits 13 8) ((rst.mbEntered ((fun op => mbTaken (.bureau : Req).view (kw.setBits 7 0 op) [] [] rst) 3)).img (kw.bits 13 8)) = true) ∧ ((((rst.mbEntered ((fun op => mbTaken (.bureau : Req).view (kw.setBits 7 0 op) [] [] rst) 3)).takeAreas (kw.bits 13 8) ((rst.mbEntered ((fun op => mbTaken (.bureau : Req).view (kw.setBits 7 0 op) [] [] rst) 3)).img (kw.bits 13 8)) (decide (rst.part (kw.bits 13 8) = PartState.loaded)) ((fun pos => (rst.mbEntered ((fun op => mbTaken (.bureau : Req).view (kw.setBits 7 0 op) [] [] rst) 3)).areaPlan (kw.bits 13 8) ((rst.mbEntered ((fun op => mbTaken (.bureau : Req).view (kw.setBits 7 0 op) [] [] rst) 3)).img (kw.bits 13 8)) (decide (rst.part (kw.bits 13 8) = PartState.loaded)) fun c => if decide (rst.part (kw.bits 13 8) = PartState.loaded) = true then pos.getD c 0 else ((rst.mbEntered ((fun op => mbTaken (.bureau : Req).view (kw.setBits 7 0 op) [] [] rst) 3)).posOf (kw.bits 13 8) c).getD 0) ([] : List Nat))).mapped (kw.bits 13 8) (decide (rst.part (kw.bits 13 8) = PartState.loaded)) ([] : List Nat)).admission (kw.bits 13 8) ((rst.mbEntered ((fun op => mbTaken (.bureau : Req).view (kw.setBits 7 0 op) [] [] rst) 3)).img (kw.bits 13 8)) ((rst.mbEntered ((fun op => mbTaken (.bureau : Req).view (kw.setBits 7 0 op) [] [] rst) 3)).img (kw.bits 13 8)).rate ((((rst.mbEntered ((fun op => mbTaken (.bureau : Req).view (kw.setBits 7 0 op) [] [] rst) 3)).takeAreas (kw.bits 13 8) ((rst.mbEntered ((fun op => mbTaken (.bureau : Req).view (kw.setBits 7 0 op) [] [] rst) 3)).img (kw.bits 13 8)) (decide (rst.part (kw.bits 13 8) = PartState.loaded)) ((fun pos => (rst.mbEntered ((fun op => mbTaken (.bureau : Req).view (kw.setBits 7 0 op) [] [] rst) 3)).areaPlan (kw.bits 13 8) ((rst.mbEntered ((fun op => mbTaken (.bureau : Req).view (kw.setBits 7 0 op) [] [] rst) 3)).img (kw.bits 13 8)) (decide (rst.part (kw.bits 13 8) = PartState.loaded)) fun c => if decide (rst.part (kw.bits 13 8) = PartState.loaded) = true then pos.getD c 0 else ((rst.mbEntered ((fun op => mbTaken (.bureau : Req).view (kw.setBits 7 0 op) [] [] rst) 3)).posOf (kw.bits 13 8) c).getD 0) ([] : List Nat))).mapped (kw.bits 13 8) (decide (rst.part (kw.bits 13 8) = PartState.loaded)) ([] : List Nat)).posOf (kw.bits 13 8)) ((((rst.mbEntered ((fun op => mbTaken (.bureau : Req).view (kw.setBits 7 0 op) [] [] rst) 3)).takeAreas (kw.bits 13 8) ((rst.mbEntered ((fun op => mbTaken (.bureau : Req).view (kw.setBits 7 0 op) [] [] rst) 3)).img (kw.bits 13 8)) (decide (rst.part (kw.bits 13 8) = PartState.loaded)) ((fun pos => (rst.mbEntered ((fun op => mbTaken (.bureau : Req).view (kw.setBits 7 0 op) [] [] rst) 3)).areaPlan (kw.bits 13 8) ((rst.mbEntered ((fun op => mbTaken (.bureau : Req).view (kw.setBits 7 0 op) [] [] rst) 3)).img (kw.bits 13 8)) (decide (rst.part (kw.bits 13 8) = PartState.loaded)) fun c => if decide (rst.part (kw.bits 13 8) = PartState.loaded) = true then pos.getD c 0 else ((rst.mbEntered ((fun op => mbTaken (.bureau : Req).view (kw.setBits 7 0 op) [] [] rst) 3)).posOf (kw.bits 13 8) c).getD 0) ([] : List Nat))).mapped (kw.bits 13 8) (decide (rst.part (kw.bits 13 8) = PartState.loaded)) ([] : List Nat)).rootOf (kw.bits 13 8)) ((((rst.mbEntered ((fun op => mbTaken (.bureau : Req).view (kw.setBits 7 0 op) [] [] rst) 3)).takeAreas (kw.bits 13 8) ((rst.mbEntered ((fun op => mbTaken (.bureau : Req).view (kw.setBits 7 0 op) [] [] rst) 3)).img (kw.bits 13 8)) (decide (rst.part (kw.bits 13 8) = PartState.loaded)) ((fun pos => (rst.mbEntered ((fun op => mbTaken (.bureau : Req).view (kw.setBits 7 0 op) [] [] rst) 3)).areaPlan (kw.bits 13 8) ((rst.mbEntered ((fun op => mbTaken (.bureau : Req).view (kw.setBits 7 0 op) [] [] rst) 3)).img (kw.bits 13 8)) (decide (rst.part (kw.bits 13 8) = PartState.loaded)) fun c => if decide (rst.part (kw.bits 13 8) = PartState.loaded) = true then pos.getD c 0 else ((rst.mbEntered ((fun op => mbTaken (.bureau : Req).view (kw.setBits 7 0 op) [] [] rst) 3)).posOf (kw.bits 13 8) c).getD 0) ([] : List Nat))).mapped (kw.bits 13 8) (decide (rst.part (kw.bits 13 8) = PartState.loaded)) ([] : List Nat)).members (kw.bits 13 8)) = Admit.ok ([0,0,0,0] : List Nat) 1 4) ∧ (((rst.mbEntered ((fun op => mbTaken (.bureau : Req).view (kw.setBits 7 0 op) [] [] rst) 3)).startDoms (kw.bits 13 8) { pos := ([] : List Nat), area := (fun pos => (rst.mbEntered ((fun op => mbTaken (.bureau : Req).view (kw.setBits 7 0 op) [] [] rst) 3)).areaPlan (kw.bits 13 8) ((rst.mbEntered ((fun op => mbTaken (.bureau : Req).view (kw.setBits 7 0 op) [] [] rst) 3)).img (kw.bits 13 8)) (decide (rst.part (kw.bits 13 8) = PartState.loaded)) fun c => if decide (rst.part (kw.bits 13 8) = PartState.loaded) = true then pos.getD c 0 else ((rst.mbEntered ((fun op => mbTaken (.bureau : Req).view (kw.setBits 7 0 op) [] [] rst) 3)).posOf (kw.bits 13 8) c).getD 0) ([] : List Nat), g := ([0,0,0,0] : List Nat), mw := 1, ew := 4 : PartPlan }).all (rst.mbEntered ((fun op => mbTaken (.bureau : Req).view (kw.setBits 7 0 op) [] [] rst) 3)).domReady = false)) :=
  ⟨by unfold State.mbIdle State.mbAllowed; and_intros <;> decide +kernel, by unfold State.mbIdle State.mbAllowed; and_intros <;> decide +kernel, by unfold State.mbAllowed; and_intros <;> decide +kernel, by unfold State.mbIdle State.mbAllowed; and_intros <;> decide +kernel, by unfold State.mbIdle State.mbAllowed; and_intros <;> decide +kernel, by unfold State.mbIdle State.mbAllowed; and_intros <;> decide +kernel, by unfold State.mbIdle State.mbAllowed; and_intros <;> decide +kernel, by and_intros <;> decide +kernel, by unfold State.mbIdle State.mbAllowed; and_intros <;> decide +kernel, by unfold State.mbIdle State.mbAllowed; and_intros <;> decide +kernel, by unfold State.mbIdle State.mbAllowed; and_intros <;> decide +kernel, by unfold State.mbAllowed; and_intros <;> decide +kernel, by unfold State.mbIdle State.mbAllowed; and_intros <;> decide +kernel, by unfold State.mbIdle State.mbAllowed; and_intros <;> decide +kernel, by unfold State.mbIdle State.mbAllowed; and_intros <;> decide +kernel, by unfold State.mbIdle State.mbAllowed; and_intros <;> decide +kernel⟩

abbrev mgz (a : Nat) : State := ag a 0 0 0 rn5
abbrev few (s : State) : State := {s with fuses := {s.fuses with posEn := 2^8-1+2^36+2^37+2^40+2^41}}
abbrev withImg (s : State) : State := {s with parts := [(5, {PartCfg.reset with image := imgV + 2^81, size := 152})]}
abbrev busyEw (s : State) : State := {s with partState := [(5, .running), (6, .running)], parts := [(5, {PartCfg.reset with image := imgV, size := 152}), (6, {PartCfg.reset with ew := 240})]}
abbrev pk5 : State := {ag 0 0 0 0 rn5 with maps := [(1280, ⟨40, true, true⟩)]}
abbrev fewSp : State := {pk5 with fuses := {pk5.fuses with posEn := 2^8-1}}
abbrev at0 : State := ({al (ag 0 0 0 0 (rz 5 .running)) with maps := [(1280, ⟨0, false, true⟩)]}.setFld (cctl 0) 0x28 5 0 5)
abbrev placementChangesStart1 : State := (mgz (41 * 2^16))
abbrev placementChangesStart2 : State := (few (mgz (0x1FF * 2^16)))
abbrev placementChangesStart3 : State := (mgz (40 * 2^16))
abbrev placementChangesStart4 : State := (withImg (mgz 0))
abbrev placementChangesStart5 : State := (mgz 0)
abbrev placementChangesStart6 : State := (mgz 0 |>.wrN (xpnd 40) 0x44 2)
abbrev placementChangesStart7 : State := (mgz 2)
abbrev placementChangesStart8 : State := (mgz 500000)
abbrev placementChangesStart9 : State := (few (busyEw pk5))
abbrev placementChangesStart10 : State := (few (withImg pk5))
abbrev placementChangesStart11 : State := (busyEw (mgz 0))

/-- The hypotheses of the clauses of PlacementChangesStart are met: a line holds the hypotheses of one clause, but for those an earlier line holds. -/
theorem witness_PlacementChangesStart :
    (placementChangesStart1.mbIdle (.bureau : Req) ∧ placementChangesStart1.mbAllowed (.bureau : Req) (kw.bits 13 8) 6 ∧ placementChangesStart1.posOf (kw.bits 13 8) (placementChangesStart1.rdN (bur (.bureau : Req).view) 68 % 256) = some 40 ∧ placementChangesStart1.targetFor (kw.bits 13 8) (placementChangesStart1.rdN (bur (.bureau : Req).view) 68 % 256) 40 (placementChangesStart1.rdN (bur (.bureau : Req).view) 68 / 2 ^ 16 % 512) = some 41 ∧ 41 < 288) ∧
    (placementChangesStart2.mbIdle (.bureau : Req) ∧ placementChangesStart2.mbAllowed (.bureau : Req) (kw.bits 13 8) 6 ∧ placementChangesStart2.posOf (kw.bits 13 8) (placementChangesStart2.rdN (bur (.bureau : Req).view) 68 % 256) = some 40 ∧ placementChangesStart2.targetFor (kw.bits 13 8) (placementChangesStart2.rdN (bur (.bureau : Req).view) 68 % 256) 40 (placementChangesStart2.rdN (bur (.bureau : Req).view) 68 / 2 ^ 16 % 512) = some 36 ∧ 36 < 288) ∧
    (placementChangesStart3.mbIdle (.bureau : Req) ∧ placementChangesStart3.mbAllowed (.bureau : Req) (kw.bits 13 8) 6 ∧ placementChangesStart3.posOf (kw.bits 13 8) (placementChangesStart3.rdN (bur (.bureau : Req).view) 68 % 256) = some 40 ∧ placementChangesStart3.targetFor (kw.bits 13 8) (placementChangesStart3.rdN (bur (.bureau : Req).view) 68 % 256) 40 (placementChangesStart3.rdN (bur (.bureau : Req).view) 68 / 2 ^ 16 % 512) = none ∧ placementChangesStart3.ctrFrozen pPlc = false) ∧
    (pk5.mbIdle (.bureau : Req) ∧ pk5.mbAllowed (.bureau : Req) (kw.bits 13 8) 6 ∧ pk5.posOf (kw.bits 13 8) (pk5.rdN (bur (.bureau : Req).view) 68 % 256) = none ∧ (pk5.mapEntry (kw.bits 13 8) (pk5.rdN (bur (.bureau : Req).view) 68 % 256)).valid = true) ∧
    (placementChangesStart4.mbIdle (.bureau : Req) ∧ placementChangesStart4.mbAllowed (.bureau : Req) (kw.bits 13 8) 7 ∧ placementChangesStart4.posOf (kw.bits 13 8) (placementChangesStart4.rdN (bur (.bureau : Req).view) 68 % 256) = some 40 ∧ (placementChangesStart4.img (kw.bits 13 8)).parkable (placementChangesStart4.rdN (bur (.bureau : Req).view) 68 % 256) = true) ∧
    (placementChangesStart5.mbIdle (.bureau : Req) ∧ placementChangesStart5.mbAllowed (.bureau : Req) (kw.bits 13 8) 7 ∧ placementChangesStart5.posOf (kw.bits 13 8) (placementChangesStart5.rdN (bur (.bureau : Req).view) 68 % 256) = some 40 ∧ (placementChangesStart5.img (kw.bits 13 8)).parkable (placementChangesStart5.rdN (bur (.bureau : Req).view) 68 % 256) = false) ∧
    (pk5.mbAllowed (.bureau : Req) (kw.bits 13 8) 7) ∧
    (placementChangesStart5.mbAllowed (.bureau : Req) (kw.bits 13 8) 8 ∧ ((placementChangesStart5.mapEntry (kw.bits 13 8) (placementChangesStart5.rdN (bur (.bureau : Req).view) 68 % 256)).valid = false ∨ (placementChangesStart5.mapEntry (kw.bits 13 8) (placementChangesStart5.rdN (bur (.bureau : Req).view) 68 % 256)).parked = false)) ∧
    (fewSp.mbIdle (.bureau : Req) ∧ fewSp.mbAllowed (.bureau : Req) (kw.bits 13 8) 8 ∧ (fewSp.mapEntry (kw.bits 13 8) (fewSp.rdN (bur (.bureau : Req).view) 68 % 256)).valid = true ∧ (fewSp.mapEntry (kw.bits 13 8) (fewSp.rdN (bur (.bureau : Req).view) 68 % 256)).parked = true ∧ fewSp.spares.length < 9) :=
  ⟨by unfold State.mbIdle State.mbAllowed; and_intros <;> decide +kernel, by unfold State.mbIdle State.mbAllowed; and_intros <;> decide +kernel, by unfold State.mbIdle State.mbAllowed; and_intros <;> decide +kernel, by unfold State.mbIdle State.mbAllowed; and_intros <;> decide +kernel, by unfold State.mbIdle State.mbAllowed; and_intros <;> decide +kernel, by unfold State.mbIdle State.mbAllowed; and_intros <;> decide +kernel, by unfold State.mbAllowed; and_intros <;> decide +kernel, by unfold State.mbAllowed; and_intros <;> decide +kernel, by unfold State.mbIdle State.mbAllowed; and_intros <;> decide +kernel⟩


/-- The hypotheses of the clauses of PlacementChangesStart are met: a line holds the hypotheses of one clause, but for those an earlier line holds. -/
theorem witness_PlacementChangesStart_rest :
    (placementChangesStart6.mbIdle (.bureau : Req) ∧ placementChangesStart6.mbAllowed (.bureau : Req) (kw.bits 13 8) 9 ∧ (((placementChangesStart6.placed (kw.bits 13 8)).any fun e => placementChangesStart6.flag (xpnd e.snd) 68 1) = true)) ∧
    (placementChangesStart7.mbIdle (.bureau : Req) ∧ placementChangesStart7.mbAllowed (.bureau : Req) (kw.bits 13 8) 9 ∧ (((placementChangesStart7.placed (kw.bits 13 8)).any fun e => placementChangesStart7.flag (xpnd e.snd) 68 1) = false) ∧ (placementChangesStart7.rdN (bur (.bureau : Req).view) 68).testBit 1 = true) ∧
    (placementChangesStart5.mbAllowed (.bureau : Req) (kw.bits 13 8) 10 ∧ placementChangesStart5.rdN (bur (.bureau : Req).view) 68 + placementChangesStart5.rdN (bur (.bureau : Req).view) 72 * 2 ^ 32 ≤ placementChangesStart5.partS (kw.bits 13 8)) ∧
    (placementChangesStart8.mbIdle (.bureau : Req) ∧ placementChangesStart8.mbAllowed (.bureau : Req) (kw.bits 13 8) 10 ∧ placementChangesStart8.partS (kw.bits 13 8) < placementChangesStart8.rdN (bur (.bureau : Req).view) 68 + placementChangesStart8.rdN (bur (.bureau : Req).view) 72 * 2 ^ 32 ∧ placementChangesStart8.placed (kw.bits 13 8) ≠ []) ∧
    (placementChangesStart9.mbIdle (.bureau : Req) ∧ placementChangesStart9.mbAllowed (.bureau : Req) (kw.bits 13 8) 8 ∧ (placementChangesStart9.mapEntry (kw.bits 13 8) (placementChangesStart9.rdN (bur (.bureau : Req).view) 68 % 256)).valid = true ∧ (placementChangesStart9.mapEntry (kw.bits 13 8) (placementChangesStart9.rdN (bur (.bureau : Req).view) 68 % 256)).parked = true ∧ 9 ≤ placementChangesStart9.spares.length ∧ placementChangesStart9.returnPos (kw.bits 13 8) (placementChangesStart9.rdN (bur (.bureau : Req).view) 68 % 256) = some 0 ∧ ((placementChangesStart9.mbEntered ((fun op => mbTaken (.bureau : Req).view (kw.setBits 7 0 op) [] [] placementChangesStart9) 8)).admission (kw.bits 13 8) (placementChangesStart9.img (kw.bits 13 8)) (placementChangesStart9.img (kw.bits 13 8)).rate (fun a => if a = placementChangesStart9.rdN (bur (.bureau : Req).view) 68 % 256 then some 0 else placementChangesStart9.posOf (kw.bits 13 8) a) (placementChangesStart9.rootOf (kw.bits 13 8)) (placementChangesStart9.members (kw.bits 13 8) ++ [0]) = Admit.refused 256)) ∧
    (placementChangesStart10.mbIdle (.bureau : Req) ∧ placementChangesStart10.mbAllowed (.bureau : Req) (kw.bits 13 8) 8 ∧ (placementChangesStart10.mapEntry (kw.bits 13 8) (placementChangesStart10.rdN (bur (.bureau : Req).view) 68 % 256)).valid = true ∧ (placementChangesStart10.mapEntry (kw.bits 13 8) (placementChangesStart10.rdN (bur (.bureau : Req).view) 68 % 256)).parked = true ∧ 9 ≤ placementChangesStart10.spares.length ∧ placementChangesStart10.returnPos (kw.bits 13 8) (placementChangesStart10.rdN (bur (.bureau : Req).view) 68 % 256) = some 0 ∧ 0 < 288 ∧ ((placementChangesStart10.mbEntered ((fun op => mbTaken (.bureau : Req).view (kw.setBits 7 0 op) [] [] placementChangesStart10) 8)).admission (kw.bits 13 8) (placementChangesStart10.img (kw.bits 13 8)) (placementChangesStart10.img (kw.bits 13 8)).rate (fun a => if a = placementChangesStart10.rdN (bur (.bureau : Req).view) 68 % 256 then some 0 else placementChangesStart10.posOf (kw.bits 13 8) a) (placementChangesStart10.rootOf (kw.bits 13 8)) (placementChangesStart10.members (kw.bits 13 8) ++ [0]) = Admit.ok ([0,0,0,0] : List Nat) 1 72)) ∧
    (placementChangesStart11.mbIdle (.bureau : Req) ∧ placementChangesStart11.mbAllowed (.bureau : Req) (kw.bits 13 8) 9 ∧ (((placementChangesStart11.placed (kw.bits 13 8)).any fun e => placementChangesStart11.flag (xpnd e.snd) 68 1) = false) ∧ (placementChangesStart11.rdN (bur (.bureau : Req).view) 68).testBit 1 = false ∧ (placementChangesStart11.mbEntered (mbTaken (.bureau : Req).view (kw.setBits 7 0 9) ([] : List (Nat × Nat × Nat)) ([] : List (Nat × List Nat)) placementChangesStart11)).admission (kw.bits 13 8) (placementChangesStart11.img (kw.bits 13 8)) ((mbTaken (.bureau : Req).view (kw.setBits 7 0 9) ([] : List (Nat × Nat × Nat)) ([] : List (Nat × List Nat)) placementChangesStart11).rates (placementChangesStart11.img (kw.bits 13 8))) (placementChangesStart11.posOf (kw.bits 13 8)) (placementChangesStart11.rootOf (kw.bits 13 8)) (placementChangesStart11.members (kw.bits 13 8)) = Admit.refused 296) ∧
    (at0.mbIdle (.bureau : Req) ∧ at0.mbAllowed (.bureau : Req) (kw.bits 13 8) 9 ∧ (((at0.placed (kw.bits 13 8)).any fun e => at0.flag (xpnd e.snd) 68 1) = false) ∧ (at0.rdN (bur (.bureau : Req).view) 68).testBit 1 = false ∧ (at0.mbEntered (mbTaken (.bureau : Req).view (kw.setBits 7 0 9) ([] : List (Nat × Nat × Nat)) ([] : List (Nat × List Nat)) at0)).admission (kw.bits 13 8) (at0.img (kw.bits 13 8)) ((mbTaken (.bureau : Req).view (kw.setBits 7 0 9) ([] : List (Nat × Nat × Nat)) ([] : List (Nat × List Nat)) at0).rates (at0.img (kw.bits 13 8))) (at0.posOf (kw.bits 13 8)) (at0.rootOf (kw.bits 13 8)) (at0.members (kw.bits 13 8)) = Admit.ok ([0,0,0,0] : List Nat) 1 4 ∧ (at0.mbEntered (mbTaken (.bureau : Req).view (kw.setBits 7 0 9) ([] : List (Nat × Nat × Nat)) ([] : List (Nat × List Nat)) at0)).replace (kw.bits 13 8) (mbTaken (.bureau : Req).view (kw.setBits 7 0 9) ([] : List (Nat × Nat × Nat)) ([] : List (Nat × List Nat)) at0) = []) ∧
    (placementChangesStart5.mbAllowed (.bureau : Req) (kw.bits 13 8) 9 ∧ (((placementChangesStart5.placed (kw.bits 13 8)).any fun e => placementChangesStart5.flag (xpnd e.snd) 68 1) = false) ∧ (placementChangesStart5.rdN (bur (.bureau : Req).view) 68).testBit 1 = false ∧ (placementChangesStart5.mbEntered (mbTaken (.bureau : Req).view (kw.setBits 7 0 9) ([] : List (Nat × Nat × Nat)) ([] : List (Nat × List Nat)) placementChangesStart5)).admission (kw.bits 13 8) (placementChangesStart5.img (kw.bits 13 8)) ((mbTaken (.bureau : Req).view (kw.setBits 7 0 9) ([] : List (Nat × Nat × Nat)) ([] : List (Nat × List Nat)) placementChangesStart5).rates (placementChangesStart5.img (kw.bits 13 8))) (placementChangesStart5.posOf (kw.bits 13 8)) (placementChangesStart5.rootOf (kw.bits 13 8)) (placementChangesStart5.members (kw.bits 13 8)) = Admit.ok ([0,0,0,0] : List Nat) 1 4 ∧ (placementChangesStart5.mbEntered (mbTaken (.bureau : Req).view (kw.setBits 7 0 9) ([] : List (Nat × Nat × Nat)) ([] : List (Nat × List Nat)) placementChangesStart5)).replace (kw.bits 13 8) (mbTaken (.bureau : Req).view (kw.setBits 7 0 9) ([] : List (Nat × Nat × Nat)) ([] : List (Nat × List Nat)) placementChangesStart5) = (0, 0) :: ([] : List (Nat × Nat)) ∧ placementChangesStart5.posOf (kw.bits 13 8) 0 = some 40) :=
  ⟨by unfold State.mbIdle State.mbAllowed; and_intros <;> decide +kernel, by unfold State.mbIdle State.mbAllowed; and_intros <;> decide +kernel, by unfold State.mbAllowed; and_intros <;> decide +kernel, by unfold State.mbIdle State.mbAllowed; and_intros <;> decide +kernel, by unfold State.mbIdle State.mbAllowed; and_intros <;> decide +kernel, by unfold State.mbIdle State.mbAllowed; and_intros <;> decide +kernel, by unfold State.mbIdle State.mbAllowed; and_intros <;> decide +kernel, by unfold State.mbIdle State.mbAllowed; and_intros <;> decide +kernel, by unfold State.mbAllowed; and_intros <;> decide +kernel⟩

abbrev mvs (op ph src dst : Nat) : State := {rn5 with mbox := [mv op ph src dst], cabs := [(40, {Cab.reset with core := c1})]}
abbrev mst (s : State) : State := {s with mbox := [mv 3 1 0 0]}
abbrev rsi : State := {rst with parts := [(5, {PartCfg.reset with image := imgV, size := 152})]}
abbrev stp5 : State := {((rn5.setFld (hzn 40) 0x44 19 0 4096).setFld (chin 3) 0x28 5 0 5) with parts := [(5, {PartCfg.reset with stopAt := some 5})], mbox := [{mv 4 1 0 0 with args := [0,0,1]}], decs := [(3, {Dec.reset with seq := 6, pq := [pq1]})], sources := [(512*5+40, {Source.reset with next := 7}), (512*5+0x123, {Source.reset with next := 7})]}
abbrev movesAndCommandsComplete1 : State := {mvs 8 1 512 41 with synced := [(45, true)]}
abbrev movesAndCommandsComplete2 : State := (mvs 7 1 40 512)
abbrev movesAndCommandsComplete3 : State := {mvs 6 1 40 41 with synced := [(45, true)]}
abbrev movesAndCommandsComplete4 : State := (mvs 6 1 40 41)
abbrev movesAndCommandsComplete5 : State := {rn5 with inbox := [⟨7, false, ⟨7,0,0,0,0,5,0,0x40*2^120 + 77*2^104 + 5*2^98⟩⟩]}
abbrev movesAndCommandsComplete6 : Arrival := ⟨7, false, ⟨7,0,0,0,0,5,0,0x40*2^120 + 77*2^104 + 5*2^98⟩⟩
abbrev movesAndCommandsComplete7 : State := {rn5 with mbox := [{mv 11 5 0 0 with res := [1,2,3,4]}]}
abbrev movesAndCommandsComplete8 : MbCmd := {mv 11 5 0 0 with res := [1,2,3,4]}
abbrev movesAndCommandsComplete9 : MbCmd := {mv 4 1 0 0 with args := [0,0,1]}
abbrev movesAndCommandsComplete10 : State := (mvs 6 4 40 41)
abbrev movesAndCommandsComplete11 : State := (mst ld)
abbrev movesAndCommandsComplete12 : State := {mst rsi with synced := [(44, true), (308, true)]}
abbrev movesAndCommandsComplete13 : PartPlan := ((State.startPlan (mst rsi) 5 (State.startTime (mst rsi) 5 0 80000)).toOption.getD ⟨[], ⟨[],[],[],0⟩, [0,0,0,0],1,4⟩)
abbrev movesAndCommandsComplete14 : State := (mst rsi)

/-- The hypotheses of the clauses of MovesAndCommandsComplete are met: a line holds the hypotheses of one clause, but for those an earlier line holds. -/
theorem witness_MovesAndCommandsComplete :
    ((List.find? (fun m => decide (m.fn = 0) && decide (m.phase = 1) && decide (m.src ≠ m.dst)) movesAndCommandsComplete1.mbox = some ((mv 8 1 512 41) : MbCmd)) ∧ roundFrom ((mv 8 1 512 41) : MbCmd).since (movesAndCommandsComplete1.cfg ((mv 8 1 512 41) : MbCmd).key).round * (movesAndCommandsComplete1.cfg ((mv 8 1 512 41) : MbCmd).key).round ≤ movesAndCommandsComplete1.now ∧ 512 ≤ ((mv 8 1 512 41) : MbCmd).src ∧ (((mv 8 1 512 41) : MbCmd).dst < 512 → movesAndCommandsComplete1.domReady (4 + ((mv 8 1 512 41) : MbCmd).dst) = true)) ∧
    ((List.find? (fun m => decide (m.fn = 0) && decide (m.phase = 1) && decide (m.src ≠ m.dst)) movesAndCommandsComplete2.mbox = some ((mv 7 1 40 512) : MbCmd)) ∧ roundFrom ((mv 7 1 40 512) : MbCmd).since (movesAndCommandsComplete2.cfg ((mv 7 1 40 512) : MbCmd).key).round * (movesAndCommandsComplete2.cfg ((mv 7 1 40 512) : MbCmd).key).round ≤ movesAndCommandsComplete2.now ∧ ((mv 7 1 40 512) : MbCmd).src < 512 ∧ ((mv 7 1 40 512) : MbCmd).dst = 512 ∧ movesAndCommandsComplete2.quiescent ((mv 7 1 40 512) : MbCmd).src = false) ∧
    ((List.find? (fun m => decide (m.fn = 0) && decide (m.phase = 1) && decide (m.src ≠ m.dst)) movesAndCommandsComplete3.mbox = some ((mv 6 1 40 41) : MbCmd)) ∧ roundFrom ((mv 6 1 40 41) : MbCmd).since (movesAndCommandsComplete3.cfg ((mv 6 1 40 41) : MbCmd).key).round * (movesAndCommandsComplete3.cfg ((mv 6 1 40 41) : MbCmd).key).round ≤ movesAndCommandsComplete3.now ∧ ((mv 6 1 40 41) : MbCmd).src < 512 ∧ (((mv 6 1 40 41) : MbCmd).dst < 512 → movesAndCommandsComplete3.domReady (4 + ((mv 6 1 40 41) : MbCmd).dst) = true) ∧ (((mv 6 1 40 41) : MbCmd).dst = 512 → movesAndCommandsComplete3.quiescent ((mv 6 1 40 41) : MbCmd).src = true)) ∧
    ((List.find? (fun m => decide (m.fn = 0) && decide (m.phase = 1) && decide (m.src ≠ m.dst)) movesAndCommandsComplete4.mbox = some ((mv 6 1 40 41) : MbCmd)) ∧ roundFrom ((mv 6 1 40 41) : MbCmd).since (movesAndCommandsComplete4.cfg ((mv 6 1 40 41) : MbCmd).key).round * (movesAndCommandsComplete4.cfg ((mv 6 1 40 41) : MbCmd).key).round ≤ movesAndCommandsComplete4.now ∧ ((mv 6 1 40 41) : MbCmd).dst < 512 ∧ movesAndCommandsComplete4.domReady (4 + ((mv 6 1 40 41) : MbCmd).dst) = false) ∧
    ((List.find? (fun m => decide (m.fn = 0) && decide (m.phase = 2)) ((mvs 6 2 40 41) : State).mbox = some ((mv 6 2 40 41) : MbCmd)) ∧ ((mv 6 2 40 41) : MbCmd).cab < 256) ∧
    ((List.find? (fun m => decide (m.fn = 0) && decide (m.phase = 2)) ((mvs 7 2 40 512) : State).mbox = some ((mv 7 2 40 512) : MbCmd)) ∧ ((mv 7 2 40 512) : MbCmd).cab < 256) ∧
    (movesAndCommandsComplete5.mgmtAt 7 64 = some movesAndCommandsComplete6) ∧
    (movesAndCommandsComplete7.mbox = [movesAndCommandsComplete8] ∧ movesAndCommandsComplete8.phase = 5 ∧ movesAndCommandsComplete8.res.length ≤ 4) ∧
    (stp5.mbox = [movesAndCommandsComplete9] ∧ movesAndCommandsComplete9.op = 4 ∧ movesAndCommandsComplete9.phase = 1 ∧ stp5.stopReady movesAndCommandsComplete9.key ((movesAndCommandsComplete9.arg 2).testBit 0) = true) ∧
    (movesAndCommandsComplete10.mbox = [((mv 6 4 40 41) : MbCmd)] ∧ ((mv 6 4 40 41) : MbCmd).op ≠ 4 ∧ ((mv 6 4 40 41) : MbCmd).phase = 4 ∧ ((mv 6 4 40 41) : MbCmd).src < 288 ∧ ((mv 6 4 40 41) : MbCmd).dst < 288 ∧ ((mv 6 4 40 41) : MbCmd).src ≠ ((mv 6 4 40 41) : MbCmd).dst ∧ movesAndCommandsComplete10.flag (rtr ((mv 6 4 40 41) : MbCmd).src) 88 31 = false ∧ ((mv 6 4 40 41) : MbCmd).todo = [] ∧ movesAndCommandsComplete10.ctrFrozen pPlc = false) ∧
    (movesAndCommandsComplete11.mbox = [((mv 3 1 0 0) : MbCmd)] ∧ ((mv 3 1 0 0) : MbCmd).op = 3 ∧ ((mv 3 1 0 0) : MbCmd).phase = 1 ∧ (movesAndCommandsComplete11.startPlan ((mv 3 1 0 0) : MbCmd).key (movesAndCommandsComplete11.startTime ((mv 3 1 0 0) : MbCmd).key (((mv 3 1 0 0) : MbCmd).arg64 0) ((mv 3 1 0 0) : MbCmd).since)).toOption = none) ∧
    (movesAndCommandsComplete12.mbox = [((mv 3 1 0 0) : MbCmd)] ∧ (movesAndCommandsComplete12.startPlan ((mv 3 1 0 0) : MbCmd).key (movesAndCommandsComplete12.startTime ((mv 3 1 0 0) : MbCmd).key (((mv 3 1 0 0) : MbCmd).arg64 0) ((mv 3 1 0 0) : MbCmd).since)).toOption = some movesAndCommandsComplete13 ∧ (movesAndCommandsComplete12.startDoms ((mv 3 1 0 0) : MbCmd).key movesAndCommandsComplete13).all movesAndCommandsComplete12.domReady = true) ∧
    (movesAndCommandsComplete14.mbox = [((mv 3 1 0 0) : MbCmd)] ∧ (movesAndCommandsComplete14.startPlan ((mv 3 1 0 0) : MbCmd).key (movesAndCommandsComplete14.startTime ((mv 3 1 0 0) : MbCmd).key (((mv 3 1 0 0) : MbCmd).arg64 0) ((mv 3 1 0 0) : MbCmd).since)).toOption = some movesAndCommandsComplete13 ∧ (movesAndCommandsComplete14.startDoms ((mv 3 1 0 0) : MbCmd).key movesAndCommandsComplete13).all movesAndCommandsComplete14.domReady = false) :=
  ⟨by and_intros <;> decide +kernel, by and_intros <;> decide +kernel, by and_intros <;> decide +kernel, by and_intros <;> decide +kernel, by and_intros <;> decide +kernel, by and_intros <;> decide +kernel, by and_intros <;> decide +kernel, by and_intros <;> decide +kernel, by and_intros <;> decide +kernel, by and_intros <;> decide +kernel, by and_intros <;> decide +kernel, by and_intros <;> decide +kernel, by and_intros <;> decide +kernel⟩

abbrev im : MbCmd := {mv 2 1 0 0 with args := [0,0,152,0]}
abbrev ims : State := {bz with mbox := [im]}
abbrev ow : State := ({fz with routes := [((chenc 3).key, 0x8000)]})
abbrev nostk : State := {ims with fuses := {ims.fuses with stkEn := 0}}
abbrev imagesOwnersAndLocks1 : ImgFail := ((State.imageFail ims 5 ⟨imgV + 2^224, 152⟩).get (by decide +kernel))
abbrev imagesOwnersAndLocks2 : State := {ims with tb := {ims.tb with count := 2^41}}
abbrev imagesOwnersAndLocks3 : State := ({ow with partState := [(6,.loaded)]}.setFld (chin 3) 0x28 5 0 6)

/-- The hypotheses of the clauses of ImagesOwnersAndLocks are met: a line holds the hypotheses of one clause, but for those an earlier line holds. -/
theorem witness_ImagesOwnersAndLocks :
    (ims.imagePull 0 = some im ∧ 0 < im.key ∧ { bytes := ((imgV + 2^32) : Nat), size := im.arg64 2 : Img }.at 0 4 = 1314018390 ∧ { bytes := ((imgV + 2^32) : Nat), size := im.arg64 2 : Img }.at 4 2 ≠ 3) ∧
    ((¬({ bytes := ((imgV + 2^224) : Nat), size := im.arg64 2 : Img }.at 0 4 = 1314018390 ∧ { bytes := ((imgV + 2^224) : Nat), size := im.arg64 2 : Img }.at 4 2 ≠ 3)) ∧ ims.imageFail im.key { bytes := ((imgV + 2^224) : Nat), size := im.arg64 2 : Img } = some imagesOwnersAndLocks1) ∧
    (nostk.imagePull 0 = some im ∧ (¬({ bytes := imgV, size := im.arg64 2 : Img }.at 0 4 = 1314018390 ∧ { bytes := imgV, size := im.arg64 2 : Img }.at 4 2 ≠ 3)) ∧ nostk.imageFail im.key { bytes := imgV, size := im.arg64 2 : Img } = none ∧ ((nostk.allotAll (nostk.cfg im.key).prot (fun c => if c < 256 then ((nostk.placeFor { bytes := imgV, size := im.arg64 2 : Img } { bytes := imgV, size := im.arg64 2 : Img }.rate).getD []).getD c 0 else (endAt (288 + nostk.physChan (c - 256))).fst) ({ bytes := imgV, size := im.arg64 2 : Img }.areas (nostk.cfg im.key).prot) []).snd.snd + { bytes := imgV, size := im.arg64 2 : Img }.spillOver ≠ 0)) ∧
    (ims.imageFail im.key { bytes := imgV, size := im.arg64 2 : Img } = none ∧ ((ims.allotAll (ims.cfg im.key).prot (fun c => if c < 256 then ((ims.placeFor { bytes := imgV, size := im.arg64 2 : Img } { bytes := imgV, size := im.arg64 2 : Img }.rate).getD []).getD c 0 else (endAt (288 + ims.physChan (c - 256))).fst) ({ bytes := imgV, size := im.arg64 2 : Img }.areas (ims.cfg im.key).prot) []).snd.snd + { bytes := imgV, size := im.arg64 2 : Img }.spillOver = 0) ∧ ims.chansTaken im.key { bytes := imgV, size := im.arg64 2 : Img } = 0) ∧
    ((∀ (x : Nat), (.ur : DmaRead) ≠ DmaRead.data x)) ∧
    (imagesOwnersAndLocks2.imagePull 0 = some im ∧ im.since + 60 * 32000000000 ≤ imagesOwnersAndLocks2.now) ∧
    (ow.passes ((.fn 0) : Req) ((chin 3) : Page) 40 = true ∧ (((.fn 0) : Req) = Req.fn 0 ∨ ((.fn 0) : Req) = Req.bureau) ∧ (((.fn 0) : Req) = Req.bureau ∨ (ow.owner ((chin 3) : Page) = 0 ∨ ow.part (ow.owner ((chin 3) : Page)) = PartState.free) ∧ ((5 : Word).bits 5 0 = 0 ∨ ow.part ((5 : Word).bits 5 0) = PartState.free))) ∧
    (imagesOwnersAndLocks3.passes ((.fn 0) : Req) ((chin 3) : Page) 40 = true ∧ ((.fn 0) : Req) = Req.fn 0 ∧ imagesOwnersAndLocks3.owner ((chin 3) : Page) ≠ 0 ∧ imagesOwnersAndLocks3.part (imagesOwnersAndLocks3.owner ((chin 3) : Page)) ≠ PartState.free) ∧
    (imagesOwnersAndLocks3.passes ((.fn 6) : Req) ((chin 3) : Page) 40 = true ∧ ((.fn 6) : Req) = Req.fn 6 ∧ 0 < 6 ∧ 6 < 64) ∧
    (bz.passes (.bureau : Req) ((chin 3) : Page) 44 = true ∧ (∀ (c : Nat), (.bureau : Req) ≠ Req.core c) ∧ (0x50000 : Word).bits 15 0 = bz.lockKey ((chin 3) : Page)) ∧
    ((0x50007 : Word).bits 15 0 ≠ bz.lockKey ((chin 3) : Page)) :=
  ⟨by and_intros <;> decide +kernel, by and_intros <;> decide +kernel, by and_intros <;> decide +kernel, by and_intros <;> decide +kernel, fun _ => by simp, by and_intros <;> decide +kernel, by and_intros <;> decide +kernel, by and_intros <;> decide +kernel, by and_intros <;> decide +kernel, ⟨by decide +kernel, fun _ => by simp, by decide +kernel⟩, by and_intros <;> decide +kernel⟩

abbrev pl0 : Nat := 2^31 + 64 + 2
abbrev hs : State := (reg 0 1 pl0 hz).store (2^30+64*5) 64 (3^300)
abbrev mir : State := ((reg 0 1 (pl0 + 2^24 + 2*2^17 + 3*2^19) hz).store (2^36+3*2^30+64*5) 64 (3^300)).store (2^30+64*5) 64 (3^301)
abbrev mf (op len line : Nat) : MFlit := ⟨0x143, 7, 2, op, len, 9, line, 0xA5, 0, 0, false, 7^150⟩
abbrev L : Nat := 2^24+5
abbrev memoryRequestsAreServed1 : State := (hs.wrN (hut0 0) 0x40 0)
abbrev memoryRequestsAreServed2 : State := (mir.wrN (hut0 0) 0x40 0)
abbrev memoryRequestsAreServed3 : State := ((mir.wrN (hut0 0) 0x40 0).wrN (hut0 2) 0x48 0xFFFFFFFF)
abbrev memoryRequestsAreServed4 : State := ((mir.wrN (hut0 0) 0x40 2).wrN (hut0 0) 0x6C 1)

/-- The hypotheses of the clauses of MemoryRequestsAreServed are met: a line holds the hypotheses of one clause, but for those an earlier line holds. -/
theorem witness_MemoryRequestsAreServed :
    (((mf 5 0 L) : MFlit).resp = true ∨ 4 ≤ ((mf 5 0 L) : MFlit).op ∨ 3 ≤ ((mf 5 0 L) : MFlit).len) ∧
    ((((mf 0 0 5) : MFlit).resp = false ∧ ((mf 0 0 5) : MFlit).op < 4 ∧ ((mf 0 0 5) : MFlit).len < 3) ∧ (List.findSome? (fun i => hs.stackDenied ((mf 0 0 5) : MFlit).key (((mf 0 0 5) : MFlit).line * 64 + 64 * i) (decide (2 ≤ ((mf 0 0 5) : MFlit).op) && (decide (320 ≤ ((mf 0 0 5) : MFlit).src) && decide (((mf 0 0 5) : MFlit).src < 352) || decide (((mf 0 0 5) : MFlit).src = 353)))) (List.range (if ((mf 0 0 5) : MFlit).op % 2 = 0 then 2 ^ ((mf 0 0 5) : MFlit).len else 1)) = some 0x0F1) ∧ hs.ctrFrozen (hut0 (stackOf (((mf 0 0 5) : MFlit).line * 64))) = false) ∧
    ((((mf 0 0 L) : MFlit).resp = false ∧ ((mf 0 0 L) : MFlit).op < 4 ∧ ((mf 0 0 L) : MFlit).len < 3) ∧ (List.findSome? (fun i => hs.stackDenied ((mf 0 0 L) : MFlit).key (((mf 0 0 L) : MFlit).line * 64 + 64 * i) (decide (2 ≤ ((mf 0 0 L) : MFlit).op) && (decide (320 ≤ ((mf 0 0 L) : MFlit).src) && decide (((mf 0 0 L) : MFlit).src < 352) || decide (((mf 0 0 L) : MFlit).src = 353)))) (List.range (if ((mf 0 0 L) : MFlit).op % 2 = 0 then 2 ^ ((mf 0 0 L) : MFlit).len else 1)) = none) ∧ ((mf 0 0 L) : MFlit).op % 2 = 0 ∧ ((mf 0 0 L) : MFlit).len = 0 ∧ (hs.rdN (hut0 (stackOf (((mf 0 0 L) : MFlit).line * 64))) 72).testBit (hs.pcOf (((mf 0 0 L) : MFlit).line * 64)) = false) ∧
    ((((mf 0 2 L) : MFlit).resp = false ∧ ((mf 0 2 L) : MFlit).op < 4 ∧ ((mf 0 2 L) : MFlit).len < 3) ∧ (List.findSome? (fun i => hs.stackDenied ((mf 0 2 L) : MFlit).key (((mf 0 2 L) : MFlit).line * 64 + 64 * i) (decide (2 ≤ ((mf 0 2 L) : MFlit).op) && (decide (320 ≤ ((mf 0 2 L) : MFlit).src) && decide (((mf 0 2 L) : MFlit).src < 352) || decide (((mf 0 2 L) : MFlit).src = 353)))) (List.range (if ((mf 0 2 L) : MFlit).op % 2 = 0 then 2 ^ ((mf 0 2 L) : MFlit).len else 1)) = none) ∧ ((mf 0 2 L) : MFlit).op % 2 = 0) ∧
    ((List.findSome? (fun i => memoryRequestsAreServed1.stackDenied ((mf 0 0 L) : MFlit).key (((mf 0 0 L) : MFlit).line * 64 + 64 * i) (decide (2 ≤ ((mf 0 0 L) : MFlit).op) && (decide (320 ≤ ((mf 0 0 L) : MFlit).src) && decide (((mf 0 0 L) : MFlit).src < 352) || decide (((mf 0 0 L) : MFlit).src = 353)))) (List.range (if ((mf 0 0 L) : MFlit).op % 2 = 0 then 2 ^ ((mf 0 0 L) : MFlit).len else 1)) = none) ∧ (memoryRequestsAreServed1.rdN (hut0 (stackOf (((mf 0 0 L) : MFlit).line * 64))) 72).testBit (memoryRequestsAreServed1.pcOf (((mf 0 0 L) : MFlit).line * 64)) = false ∧ memoryRequestsAreServed1.mirrorAt (((mf 0 0 L) : MFlit).line * 64) = none ∧ memoryRequestsAreServed1.flag (hut0 (stackOf (((mf 0 0 L) : MFlit).line * 64))) 64 1 = false ∧ memoryRequestsAreServed1.ctrFrozen (hut0 (stackOf (((mf 0 0 L) : MFlit).line * 64))) = false) ∧
    ((List.findSome? (fun i => memoryRequestsAreServed2.stackDenied ((mf 0 0 L) : MFlit).key (((mf 0 0 L) : MFlit).line * 64 + 64 * i) (decide (2 ≤ ((mf 0 0 L) : MFlit).op) && (decide (320 ≤ ((mf 0 0 L) : MFlit).src) && decide (((mf 0 0 L) : MFlit).src < 352) || decide (((mf 0 0 L) : MFlit).src = 353)))) (List.range (if ((mf 0 0 L) : MFlit).op % 2 = 0 then 2 ^ ((mf 0 0 L) : MFlit).len else 1)) = none) ∧ (memoryRequestsAreServed2.rdN (hut0 (stackOf (((mf 0 0 L) : MFlit).line * 64))) 72).testBit (memoryRequestsAreServed2.pcOf (((mf 0 0 L) : MFlit).line * 64)) = false ∧ memoryRequestsAreServed2.mirrorAt (((mf 0 0 L) : MFlit).line * 64) = some ((2^36+3*2^30+64*5) : Nat) ∧ ((true : Bool) = true ∨ memoryRequestsAreServed2.onRetired ((2^36+3*2^30+64*5) : Nat) = true) ∧ memoryRequestsAreServed2.flag (hut0 (stackOf (((mf 0 0 L) : MFlit).line * 64))) 64 1 = false) ∧
    ((List.findSome? (fun i => memoryRequestsAreServed3.stackDenied ((mf 0 0 L) : MFlit).key (((mf 0 0 L) : MFlit).line * 64 + 64 * i) (decide (2 ≤ ((mf 0 0 L) : MFlit).op) && (decide (320 ≤ ((mf 0 0 L) : MFlit).src) && decide (((mf 0 0 L) : MFlit).src < 352) || decide (((mf 0 0 L) : MFlit).src = 353)))) (List.range (if ((mf 0 0 L) : MFlit).op % 2 = 0 then 2 ^ ((mf 0 0 L) : MFlit).len else 1)) = none) ∧ (memoryRequestsAreServed3.rdN (hut0 (stackOf (((mf 0 0 L) : MFlit).line * 64))) 72).testBit (memoryRequestsAreServed3.pcOf (((mf 0 0 L) : MFlit).line * 64)) = false ∧ memoryRequestsAreServed3.mirrorAt (((mf 0 0 L) : MFlit).line * 64) = some ((2^36+3*2^30+64*5) : Nat) ∧ ((false : Bool) = true ∨ memoryRequestsAreServed3.onRetired ((2^36+3*2^30+64*5) : Nat) = true) ∧ memoryRequestsAreServed3.flag (hut0 (stackOf (((mf 0 0 L) : MFlit).line * 64))) 64 1 = false) ∧
    (memoryRequestsAreServed2.onRetired ((2^36+3*2^30+64*5) : Nat) = false ∧ memoryRequestsAreServed2.ctrFrozen (hut0 (stackOf (((mf 0 0 L) : MFlit).line * 64))) = false) ∧
    ((List.findSome? (fun i => memoryRequestsAreServed4.stackDenied ((mf 0 0 L) : MFlit).key (((mf 0 0 L) : MFlit).line * 64 + 64 * i) (decide (2 ≤ ((mf 0 0 L) : MFlit).op) && (decide (320 ≤ ((mf 0 0 L) : MFlit).src) && decide (((mf 0 0 L) : MFlit).src < 352) || decide (((mf 0 0 L) : MFlit).src = 353)))) (List.range (if ((mf 0 0 L) : MFlit).op % 2 = 0 then 2 ^ ((mf 0 0 L) : MFlit).len else 1)) = none) ∧ (memoryRequestsAreServed4.rdN (hut0 (stackOf (((mf 0 0 L) : MFlit).line * 64))) 72).testBit (memoryRequestsAreServed4.pcOf (((mf 0 0 L) : MFlit).line * 64)) = false ∧ memoryRequestsAreServed4.flag (hut0 (stackOf (((mf 0 0 L) : MFlit).line * 64))) 64 1 = true ∧ memoryRequestsAreServed4.fld (hut0 (stackOf (((mf 0 0 L) : MFlit).line * 64))) 108 7 0 ≤ 1 ∧ memoryRequestsAreServed4.pcOf (((mf 0 0 L) : MFlit).line * 64) < 32) ∧
    ((((mf 1 0 L) : MFlit).resp = false ∧ ((mf 1 0 L) : MFlit).op < 4 ∧ ((mf 1 0 L) : MFlit).len < 3) ∧ (List.findSome? (fun i => mir.stackDenied ((mf 1 0 L) : MFlit).key (((mf 1 0 L) : MFlit).line * 64 + 64 * i) (decide (2 ≤ ((mf 1 0 L) : MFlit).op) && (decide (320 ≤ ((mf 1 0 L) : MFlit).src) && decide (((mf 1 0 L) : MFlit).src < 352) || decide (((mf 1 0 L) : MFlit).src = 353)))) (List.range (if ((mf 1 0 L) : MFlit).op % 2 = 0 then 2 ^ ((mf 1 0 L) : MFlit).len else 1)) = none) ∧ ((mf 1 0 L) : MFlit).op % 2 = 1) ∧
    (List.findSome? (fun i => hs.stackDenied ((mf 1 0 L) : MFlit).key (((mf 1 0 L) : MFlit).line * 64 + 64 * i) (decide (2 ≤ ((mf 1 0 L) : MFlit).op) && (decide (320 ≤ ((mf 1 0 L) : MFlit).src) && decide (((mf 1 0 L) : MFlit).src < 352) || decide (((mf 1 0 L) : MFlit).src = 353)))) (List.range (if ((mf 1 0 L) : MFlit).op % 2 = 0 then 2 ^ ((mf 1 0 L) : MFlit).len else 1)) = none) :=
  ⟨by and_intros <;> decide +kernel, by and_intros <;> decide +kernel, by and_intros <;> decide +kernel, by and_intros <;> decide +kernel, by and_intros <;> decide +kernel, by and_intros <;> decide +kernel, by and_intros <;> decide +kernel, by and_intros <;> decide +kernel, by and_intros <;> decide +kernel, by and_intros <;> decide +kernel, by and_intros <;> decide +kernel⟩

abbrev scr (s : State) : State := s.wrN (hut0 0) 0x40 1
abbrev rl (x f fn : Nat) (s : State) : State := s.setHutch 0 {Hutch.reset with relayout := some (x, f, fn), newKey := 77}
abbrev im1 : State := (hs.wrN (hut0 0) 0x78 3).wrN (hut0 0) 0x74 5
abbrev im2 (n : Nat) : State := {im1.setHutch 0 {Hutch.reset with counts := [(37, 9)], hot := [(37, 4)], window := 3, judged := n} with tb := {im1.tb with count := 1280000000}}
abbrev rlc (w : Nat) : State := (rl 1 3 1 (reg 0 2 0x3000 hs)).wrN (hut0 0) 0x84 w
abbrev hutchesScrubRetireAndRelayout1 : State := ((scr hs).wrN (hut0 0) 0x58 ((2^24-1)*32))
abbrev hutchesScrubRetireAndRelayout2 : State := ((scr mir).wrN (hut0 0) 0x58 (5*32))
abbrev hutchesScrubRetireAndRelayout3 : State := (rl 2 3 1 mir)
abbrev hutchesScrubRetireAndRelayout4 : State := (im2 2)
abbrev hutchesScrubRetireAndRelayout5 : State := (rl 1 3 1 hs)
abbrev hutchesScrubRetireAndRelayout6 : State := (reg 0 2 0x3000 hs)
abbrev hutchesScrubRetireAndRelayout7 : State := (rlc 7)
abbrev hutchesScrubRetireAndRelayout8 : State := (rlc (2^24-1))

/-- The hypotheses of the clauses of HutchesScrubRetireAndRelayout are met: a line holds the hypotheses of one clause, but for those an earlier line holds. -/
theorem witness_HutchesScrubRetireAndRelayout :
    (hutchesScrubRetireAndRelayout1.flag (hut0 0) 64 0 = true ∧ hutchesScrubRetireAndRelayout1.nextSlot 0 (hutchesScrubRetireAndRelayout1.fld (hut0 0) 88 4 0) = some (0, 1) ∧ 0 < 4 ∧ ((hutchesScrubRetireAndRelayout1.rdN (hut0 0) 72).testBit (hutchesScrubRetireAndRelayout1.pcOf (0 * 2 ^ 35 + 1 * 2 ^ 30 + (if 0 = hutchesScrubRetireAndRelayout1.fld (hut0 0) 88 4 0 then hutchesScrubRetireAndRelayout1.fld (hut0 0) 88 28 5 else 0) * 64)) = false)) ∧
    (hutchesScrubRetireAndRelayout2.flag (hut0 0) 64 0 = true ∧ hutchesScrubRetireAndRelayout2.nextSlot 0 (hutchesScrubRetireAndRelayout2.fld (hut0 0) 88 4 0) = some (0, 1) ∧ ((hutchesScrubRetireAndRelayout2.rdN (hut0 0) 72).testBit (hutchesScrubRetireAndRelayout2.pcOf (0 * 2 ^ 35 + 1 * 2 ^ 30 + (if 0 = hutchesScrubRetireAndRelayout2.fld (hut0 0) 88 4 0 then hutchesScrubRetireAndRelayout2.fld (hut0 0) 88 28 5 else 0) * 64)) = false) ∧ (hutchesScrubRetireAndRelayout2.mirrorAt (0 * 2 ^ 35 + 1 * 2 ^ 30 + (if 0 = hutchesScrubRetireAndRelayout2.fld (hut0 0) 88 4 0 then hutchesScrubRetireAndRelayout2.fld (hut0 0) 88 28 5 else 0) * 64) = some ((2^36+3*2^30+64*5) : Nat)) ∧ hutchesScrubRetireAndRelayout2.onRetired ((2^36+3*2^30+64*5) : Nat) = false ∧ hutchesScrubRetireAndRelayout2.flag (hut0 0) 64 1 = false) ∧
    (mir.passes (.bureau : Req) (hut0 0) 76 = true ∧ (5 : Word).bit 31 = false) ∧
    (hutchesScrubRetireAndRelayout3.passes (.bureau : Req) (hut0 0) 76 = true ∧ (0x80000005 : Word).bit 31 = true ∧ (hutchesScrubRetireAndRelayout3.rdN (hut0 0) 72).testBit ((0x80000005 : Word).bits 4 0) = false) ∧
    (im1.imbWindow 0 = (im1.hutch 0).window ∧ (im1.hutch 0).past = []) ∧
    (hutchesScrubRetireAndRelayout4.imbWindow 0 ≠ (hutchesScrubRetireAndRelayout4.hutch 0).window) ∧
    (hs.passes (.bureau : Req) (hut0 0) 128 = true ∧ (hs.hutch 0).relayout = none ∧ (0x821 : Word).bit 30 = false) ∧
    (hutchesScrubRetireAndRelayout5.passes (.bureau : Req) (hut0 0) 128 = true ∧ (hutchesScrubRetireAndRelayout5.hutch 0).relayout.isSome = true) ∧
    ((0x40000869 : Word).bit 30 = true ∧ hs.relayoutOk 0 ((0x40000869 : Word).bits 4 0) ((0x40000869 : Word).bits 9 5) = false) ∧
    (hutchesScrubRetireAndRelayout6.passes (.bureau : Req) (hut0 0) 128 = true ∧ (0x40000861 : Word).bit 30 = true ∧ hutchesScrubRetireAndRelayout6.relayoutOk 0 ((0x40000861 : Word).bits 4 0) ((0x40000861 : Word).bits 9 5) = true) ∧
    ((hutchesScrubRetireAndRelayout7.hutch 0).relayout = some (1, 3, 1) ∧ 1 < hutchesScrubRetireAndRelayout7.regionCount ∧ 3 < 32 ∧ 1 < 4 ∧ hutchesScrubRetireAndRelayout7.fld (hut0 0) 132 24 0 + 1 < 2 ^ 24) ∧
    ((hutchesScrubRetireAndRelayout8.hutch 0).relayout = some (1, 3, 1) ∧ 1 < hutchesScrubRetireAndRelayout8.regionCount ∧ hutchesScrubRetireAndRelayout8.fld (hut0 0) 132 24 0 + 1 = 2 ^ 24 ∧ ((hutchesScrubRetireAndRelayout8.regCfg 0 1).bit 24 = true → (hutchesScrubRetireAndRelayout8.regCfg 0 1).bits 18 17 ≠ 0) ∧ ((hutchesScrubRetireAndRelayout8.hutch 0).alarm.isSome = true → hutchesScrubRetireAndRelayout8.flag pPlc 64 0 = false)) :=
  ⟨by and_intros <;> decide +kernel, by and_intros <;> decide +kernel, by and_intros <;> decide +kernel, by and_intros <;> decide +kernel, by and_intros <;> decide +kernel, by and_intros <;> decide +kernel, by and_intros <;> decide +kernel, by and_intros <;> decide +kernel, by and_intros <;> decide +kernel, by and_intros <;> decide +kernel, by and_intros <;> decide +kernel, by and_intros <;> decide +kernel⟩

/-- The device READY, powered and out of reset. -/
abbrev pw : State := {bz with boot := {bz.boot with resetN := true, perstN := true}}
abbrev hr (f i : Nat) (x : Ring) (s : State) : State := s.setHring f i x
abbrev rg (cfg : Word) (st head tail : Nat) : Ring := {Ring.reset with cfg := cfg, st := st, head := head, tail := tail, baseLo := 0x4000, shLo := 0x800}
abbrev fl : State := {hr 5 3 (rg 1 1 2 3) (hr 6 3 (rg 1 1 2 3) pw) with partState := [(5, .running), (6, .loaded)], msix := [(5, {Msix.reset with enabled := true})]}
abbrev ms (mask : Bool) : State := {(pw.setFlag (bur 5) 0x10 0 true).setFlag (bur 5) 0x14 0 true with msix := [(5, {Msix.reset with enabled := true, masked := mask, table := [(0,5),(2,7),(3,0)]})]}
abbrev fe : State := {ms false with msix := [(5, {Msix.reset with enabled := true, fired := [0], table := [(0,5),(2,7),(3,0)]})]}
abbrev portResetsAndConfiguration1 : State := {pw with boot := {pw.boot with crs := true}}
abbrev portResetsAndConfiguration2 : State := (fl.wrN (hq 0) 0x104 0x80000000)
abbrev portResetsAndConfiguration3 : State := (ms false)
abbrev portResetsAndConfiguration4 : State := (ms true)

/-- The hypotheses of the clauses of PortResetsAndConfiguration are met: a line holds the hypotheses of one clause, but for those an earlier line holds. -/
theorem witness_PortResetsAndConfiguration :
    (portResetsAndConfiguration1.powered = true ∧ portResetsAndConfiguration1.boot.perstN = true ∧ 0 < 64 ∧ portResetsAndConfiguration1.boot.crs = true ∧ (false : Bool) = false) ∧
    (pw.powered = true ∧ pw.boot.perstN = true ∧ 5 < 64 ∧ (pw.boot.crs = false ∨ (true : Bool) = true) ∧ ((.read 0) : CfgOp) = CfgOp.read 0) ∧
    (((.read 0x10) : CfgOp) = CfgOp.read 0x10) ∧
    (((.msix true false) : CfgOp) = CfgOp.msix (true : Bool) (false : Bool)) ∧
    (((.power true) : CfgOp) = CfgOp.power (true : Bool)) ∧
    (((.write 4 6) : CfgOp) = CfgOp.write 4 (6 : Word)) ∧
    (((.field .maxPayload) : CfgOp) = CfgOp.field (.maxPayload : PciField)) ∧
    (((.setField .maxPayload 2) : CfgOp) = CfgOp.setField (.maxPayload : PciField) 2) ∧
    (0 < 5 ∧ fl.powered = true ∧ fl.mbox = []) ∧
    (portResetsAndConfiguration2.powered = true ∧ portResetsAndConfiguration2.mbox = []) ∧
    (portResetsAndConfiguration3.powered = true ∧ (portResetsAndConfiguration3.msixOf 5).enabled = true ∧ 0 < vectorCount 5 ∧ ¬0 ∈ (portResetsAndConfiguration3.msixOf 5).fired ∧ portResetsAndConfiguration3.condition 5 0 = true ∧ (portResetsAndConfiguration3.msixOf 5).isMasked 0 = false) ∧
    (portResetsAndConfiguration4.powered = true ∧ (portResetsAndConfiguration4.msixOf 5).enabled = true ∧ ¬0 ∈ (portResetsAndConfiguration4.msixOf 5).fired ∧ portResetsAndConfiguration4.condition 5 0 = true ∧ (portResetsAndConfiguration4.msixOf 5).isMasked 0 = true) ∧
    (1 < vectorCount 5 ∧ ¬1 ∈ (portResetsAndConfiguration4.msixOf 5).fired ∧ portResetsAndConfiguration4.condition 5 1 = false) ∧
    (pw.passes (.bureau : Req) (hq (.bureau : Req).view) 124 = true ∧ (0x7FF : Word).bits 10 0 < vectorCount (.bureau : Req).view ∧ pw.condition (.bureau : Req).view ((0x7FF : Word).bits 10 0) = false) ∧
    (fe.passes ((.fn 5) : Req) (hq ((.fn 5) : Req).view) 124 = true ∧ vectorCount ((.fn 5) : Req).view ≤ (0x7FF : Word).bits 10 0) ∧
    ((0 : Word).bits 10 0 < vectorCount ((.fn 5) : Req).view ∧ fe.condition ((.fn 5) : Req).view ((0 : Word).bits 10 0) = true ∧ fe.powered = true ∧ (fe.msixOf ((.fn 5) : Req).view).enabled = true ∧ (fe.msixOf ((.fn 5) : Req).view).isMasked ((0 : Word).bits 10 0) = false) :=
  ⟨by and_intros <;> decide +kernel, by and_intros <;> decide +kernel, by and_intros <;> decide +kernel, by and_intros <;> decide +kernel, by and_intros <;> decide +kernel, by and_intros <;> decide +kernel, by and_intros <;> decide +kernel, by and_intros <;> decide +kernel, by and_intros <;> decide +kernel, by and_intros <;> decide +kernel, by and_intros <;> decide +kernel, by and_intros <;> decide +kernel, by and_intros <;> decide +kernel, by and_intros <;> decide +kernel, by and_intros <;> decide +kernel, by and_intros <;> decide +kernel⟩

abbrev pP : Page := ⟨.plc, 0⟩
abbrev srs : State := ({(((pw.setFld (drw 7 1) 0x28 5 0 5).wrN (drw 7 1) 0x70 77).wrN (drw 7 1) 0x100 3) with partState := [(5, .running)]})
abbrev registerAccesses1 : State := {pw with locks := [(pP.key, 7)]}
abbrev registerAccesses2 : State := {pw with pci := {pw.pci with ecrcCheck := true}}
abbrev registerAccesses3 : State := (pw.setFlag ⟨.dev, 0⟩ 0x04C 8 true)
abbrev registerAccesses4 : RegRow := ((findRow .plc 0x40).get (by decide +kernel))
abbrev registerAccesses5 : RegRow := ((findRow .plc 0x7C).get (by decide +kernel))
abbrev registerAccesses6 : State := (pw.setCaptureQ pTimers 4 [⟨2^33+7,4,0⟩])
abbrev registerAccesses7 : State := ((pw.wrN pTime 0x10 7).wrN pTime 0x14 5)
abbrev registerAccesses8 : State := (pw.wrN pTime 0x20 0xD0100000)
abbrev registerAccesses9 : State := {srs with partState := []}
abbrev registerAccesses10 : State := (pw.setFlag (chin 3) 8 0 true)

/-- The hypotheses of the clauses of RegisterAccesses are met: a line holds the hypotheses of one clause, but for those an earlier line holds. -/
theorem witness_RegisterAccesses :
    (0x40 % 4 = 0 ∧ 0x40 < 4096 ∧ ((.fn 5) : Req) = Req.fn 5 ∧ (z.answers pP = false ∨ z.inD3 5 = true)) ∧
    (5 < 64 ∧ pw.answers pP = true ∧ pw.inD3 5 = false ∧ pw.reaches 5 pP = false ∧ pP.blk ≠ Block.intg) ∧
    (((.fn 0) : Req) = Req.fn 0 ∧ registerAccesses1.answers pP = true ∧ registerAccesses1.inD3 0 = false ∧ registerAccesses1.reaches 0 pP = true ∧ registerAccesses1.present pP = true ∧ registerAccesses1.awake pP = true ∧ registerAccesses1.flag pP 8 1 = false ∧ registerAccesses1.locked pP = true ∧ lockExempt pP 0x40 = false) ∧
    (pw.passes ((.fn 0) : Req) pP 0x40 = true ∧ ((.fn 0) : Req).view < 64) ∧
    (registerAccesses2.passes ((.fn 0) : Req) pP 0x40 = true ∧ registerAccesses2.pci.ecrcCheck = true) ∧
    (pw.pci.ecrcCheck = false) ∧
    (0x184 % 4 = 0 ∧ 0x184 < 4096 ∧ registerAccesses3.gate ((.fn 0) : Req) ((chin 3) : Page) 0x184 = Gate.pass ∧ registerAccesses3.legacyHides ((chin 3) : Page) 0x184 = true) ∧
    (64 ≤ 0x40 ∧ (pP.blk = Block.plc ∨ pP.blk = Block.d2d ∧ 0x40 ≠ 64) ∧ findRow pP.blk 0x40 = some registerAccesses4 ∧ registerAccesses4.clears = false ∧ hasReserved (BitVec.ofNat 32 1) registerAccesses4.fields = false) ∧
    (0x7C % 4 = 0 ∧ 0x7C < 4096 ∧ ((pw.wrN pP 0x7C 9) : State).passes ((.fn 0) : Req) pP 0x7C = true ∧ 64 ≤ 0x7C ∧ (pP.blk = Block.plc ∨ pP.blk = Block.d2d ∧ 0x7C ≠ 64) ∧ findRow pP.blk 0x7C = some registerAccesses5 ∧ registerAccesses5.clears = true) ∧
    (pw.barOpen 0 (0x5042 / 4096) = true ∧ 0 < 64 ∧ barLegal 0x5042 4 = false) ∧
    (pw.barOpen 0 (0x5040 / 4096) = true ∧ pw.slotPage 0 (0x5040 / 4096) = some pP ∧ (0x5040 / 4096 < 96 ∨ 104 ≤ 0x5040 / 4096) ∧ 0x5040 % 4 = 0 ∧ pw.passes (Req.fn 0) pP (0x5040 % 4096) = true) ∧
    (((pw.wr64 pTime 0x60 (2^40+9)) : State).reads ((.fn 0) : Req) (pTime : Page) = true ∧ 0x60 % 4 = 0 ∧ 0x60 < 4092 ∧ isWide (pTime : Page) 0x60 = true ∧ ((pTime : Page).blk ≠ Block.time1 ∧ (pTime : Page).blk ≠ Block.chtmr) ∧ (∀ (q : Nat), ((.fn 0) : Req) ≠ Req.core q)) ∧
    (registerAccesses6.reads ((.fn 0) : Req) (pTimers : Page) = true ∧ isTimer (pTimers : Page) 4 = true ∧ registerAccesses6.captureQ (pTimers : Page) 4 = (⟨2^33+7,4,0⟩ : Capture) :: ([] : List Capture) ∧ (∀ (n : Nat), ((.fn 0) : Req) ≠ Req.core n)) ∧
    (registerAccesses7.reads ((.fn 0) : Req) (pTime : Page) = true) ∧
    (pw.reads ((.fn 0) : Req) (pTime : Page) = true) ∧
    (pw.reads (.bureau : Req) (pTime : Page) = true ∧ (.bureau : Req) = Req.bureau) ∧
    (pw.passes ((.fn 0) : Req) (pTime : Page) 28 = true) ∧
    (((pw.wrN pTime 0x10 7) : State).passes ((.fn 0) : Req) (pTime : Page) 16 = true) ∧
    (registerAccesses8.passes ((.fn 0) : Req) (pTime : Page) 32 = true) ∧
    (srs.passes (.bureau : Req) ((drw 7 1) : Page) 8 = true ∧ ¬((drw 7 1) : Page).blk ∈ [Block.time0, Block.time1, Block.dev, Block.hut0, Block.hut1] ∧ srs.partStopped (srs.owner ((drw 7 1) : Page)) = false) ∧
    (registerAccesses9.passes (.bureau : Req) ((drw 7 1) : Page) 8 = true ∧ registerAccesses9.partStopped (registerAccesses9.owner ((drw 7 1) : Page)) = true) ∧
    (registerAccesses10.passes (.bureau : Req) pTime 8 = true ∧ (registerAccesses10.anyPlaced = true ∨ registerAccesses10.anyChannel = true)) ∧
    (((pTimers : Page).blk = Block.time0 ∨ (pTimers : Page).blk = Block.time1 → (pTimers : Page).inst = 0)) :=
  ⟨by and_intros <;> decide +kernel, by and_intros <;> decide +kernel, by and_intros <;> decide +kernel, by and_intros <;> decide +kernel, by and_intros <;> decide +kernel, by and_intros <;> decide +kernel, by and_intros <;> decide +kernel, by and_intros <;> decide +kernel, by and_intros <;> decide +kernel, by and_intros <;> decide +kernel, by and_intros <;> decide +kernel, ⟨by decide +kernel, by decide +kernel, by decide +kernel, by decide +kernel, by decide +kernel, fun _ => by simp⟩, ⟨by decide +kernel, by decide +kernel, by decide +kernel, fun _ => by simp⟩, by and_intros <;> decide +kernel, by and_intros <;> decide +kernel, by and_intros <;> decide +kernel, by and_intros <;> decide +kernel, by and_intros <;> decide +kernel, by and_intros <;> decide +kernel, by and_intros <;> decide +kernel, by and_intros <;> decide +kernel, by and_intros <;> decide +kernel, by and_intros <;> decide +kernel⟩

abbrev rs0 (x : Ring) : State := (hr 0 3 x pw).wrN (hq 0) 0x40 3
abbrev rdg (kind : Nat) : State := rs0 {rg (0x11 + BitVec.ofNat 32 (2*kind)) 1 2 3 with reading := true}
abbrev rw (kind : Nat) : State := {msgd (hr 5 3 {rg (0x11 + BitVec.ofNat 32 (2*kind)) 1 2 3 with target := 0} {hz with partState := [(5, .running)]} |>.wrN ⟨.dev,0⟩ 0x4C 2) with maps := [(1280, ⟨7,false,true⟩)], cabs := [(7, {Cab.reset with q := {Cab.reset.q with ctx := [(5, {qc 3 5 with bind := 9})]}})]}
abbrev hostRingsWork1 : State := (rs0 (rg 0x11 1 2 3))
abbrev hostRingsWork2 : State := (rs0 (rg 0x10 0 2 3))
abbrev hostRingsWork3 : State := (hr 0 4 (rg 0x13 1 0 0) (rs0 (rg 0x10 0 2 3)))
abbrev hostRingsWork4 : State := (rs0 (rg 0x10 1 2 3))
abbrev hostRingsWork5 : State := (rs0 (rg 0x13 1 2 3))
abbrev hostRingsWork6 : State := (rdg 0)
abbrev hostRingsWork7 : State := {rdg 2 with tb := {bz.tb with count := 2^33}}
abbrev hostRingsWork8 : State := {rdg 2 with maps := [(0, ⟨7, false, true⟩)]}
abbrev hostRingsWork9 : State := ((rs0 {rg 0x11 1 2 3 with since := some 5}).wrN (hq 0) 0x70 1)
abbrev hostRingsWork10 : State := (rw 1)
abbrev hostRingsWork11 : State := (rw 3)
abbrev hostRingsWork12 : State := (rs0 (rg 0x10 2 2 3))
abbrev hostRingsWork13 : State := (rs0 (rg 0x11 2 2 3))

/-- The hypotheses of the clauses of HostRingsWork are met: a line holds the hypotheses of one clause, but for those an earlier line holds. -/
theorem witness_HostRingsWork :
    (hostRingsWork1.passes (.bureau : Req) (hq (.bureau : Req).view) 68 = true ∧ hostRingsWork1.ringSel (.bureau : Req).view = some 3 ∧ (hostRingsWork1.hring (.bureau : Req).view 3).en = true ∧ (1 : Word).bit 0 = true) ∧
    ((0 : Word).bit 0 = false) ∧
    (hostRingsWork2.passes (.bureau : Req) (hq (.bureau : Req).view) 68 = true ∧ hostRingsWork2.ringSel (.bureau : Req).view = some 3 ∧ (hostRingsWork2.hring (.bureau : Req).view 3).en = false ∧ (((0x11A : Word).bits 2 1 < 2 ∨ hostRingsWork2.legacy = true) ∧ 2 ≤ (0x11A : Word).bits 7 3 ∧ (0x11A : Word).bits 7 3 ≤ 16) ∧ (0x11A : Word).bit 0 = false) ∧
    ((((0x11B : Word).bits 2 1 < 2 ∨ hostRingsWork2.legacy = true) ∧ 2 ≤ (0x11B : Word).bits 7 3 ∧ (0x11B : Word).bits 7 3 ≤ 16) ∧ (0x11B : Word).bit 0 = true ∧ ({ cfg := (((hostRingsWork2.hring (.bureau : Req).view 3).cfg.setBits 2 1 ((0x11B : Word).bits 2 1)).setBits 8 8 ((0x11B : Word).bits 8 8)).setBits 7 3 ((0x11B : Word).bits 7 3), baseLo := (hostRingsWork2.hring (.bureau : Req).view 3).baseLo, baseHi := (hostRingsWork2.hring (.bureau : Req).view 3).baseHi, shLo := (hostRingsWork2.hring (.bureau : Req).view 3).shLo, shHi := (hostRingsWork2.hring (.bureau : Req).view 3).shHi, target := (hostRingsWork2.hring (.bureau : Req).view 3).target, st := (hostRingsWork2.hring (.bureau : Req).view 3).st, code := (hostRingsWork2.hring (.bureau : Req).view 3).code, fail := (hostRingsWork2.hring (.bureau : Req).view 3).fail, head := (hostRingsWork2.hring (.bureau : Req).view 3).head, tail := (hostRingsWork2.hring (.bureau : Req).view 3).tail, since := (hostRingsWork2.hring (.bureau : Req).view 3).since, stalled := (hostRingsWork2.hring (.bureau : Req).view 3).stalled, reading := (hostRingsWork2.hring (.bureau : Req).view 3).reading : Ring }.toDevice = true ∨ hostRingsWork2.ringTaken (.bureau : Req).view 3 { cfg := (((hostRingsWork2.hring (.bureau : Req).view 3).cfg.setBits 2 1 ((0x11B : Word).bits 2 1)).setBits 8 8 ((0x11B : Word).bits 8 8)).setBits 7 3 ((0x11B : Word).bits 7 3), baseLo := (hostRingsWork2.hring (.bureau : Req).view 3).baseLo, baseHi := (hostRingsWork2.hring (.bureau : Req).view 3).baseHi, shLo := (hostRingsWork2.hring (.bureau : Req).view 3).shLo, shHi := (hostRingsWork2.hring (.bureau : Req).view 3).shHi, target := (hostRingsWork2.hring (.bureau : Req).view 3).target, st := (hostRingsWork2.hring (.bureau : Req).view 3).st, code := (hostRingsWork2.hring (.bureau : Req).view 3).code, fail := (hostRingsWork2.hring (.bureau : Req).view 3).fail, head := (hostRingsWork2.hring (.bureau : Req).view 3).head, tail := (hostRingsWork2.hring (.bureau : Req).view 3).tail, since := (hostRingsWork2.hring (.bureau : Req).view 3).since, stalled := (hostRingsWork2.hring (.bureau : Req).view 3).stalled, reading := (hostRingsWork2.hring (.bureau : Req).view 3).reading : Ring } = false)) ∧
    (hostRingsWork3.passes (.bureau : Req) (hq (.bureau : Req).view) 68 = true ∧ hostRingsWork3.ringSel (.bureau : Req).view = some 3 ∧ (hostRingsWork3.hring (.bureau : Req).view 3).en = false ∧ (((0x11B : Word).bits 2 1 < 2 ∨ hostRingsWork3.legacy = true) ∧ 2 ≤ (0x11B : Word).bits 7 3 ∧ (0x11B : Word).bits 7 3 ≤ 16) ∧ { cfg := (((hostRingsWork3.hring (.bureau : Req).view 3).cfg.setBits 2 1 ((0x11B : Word).bits 2 1)).setBits 8 8 ((0x11B : Word).bits 8 8)).setBits 7 3 ((0x11B : Word).bits 7 3), baseLo := (hostRingsWork3.hring (.bureau : Req).view 3).baseLo, baseHi := (hostRingsWork3.hring (.bureau : Req).view 3).baseHi, shLo := (hostRingsWork3.hring (.bureau : Req).view 3).shLo, shHi := (hostRingsWork3.hring (.bureau : Req).view 3).shHi, target := (hostRingsWork3.hring (.bureau : Req).view 3).target, st := (hostRingsWork3.hring (.bureau : Req).view 3).st, code := (hostRingsWork3.hring (.bureau : Req).view 3).code, fail := (hostRingsWork3.hring (.bureau : Req).view 3).fail, head := (hostRingsWork3.hring (.bureau : Req).view 3).head, tail := (hostRingsWork3.hring (.bureau : Req).view 3).tail, since := (hostRingsWork3.hring (.bureau : Req).view 3).since, stalled := (hostRingsWork3.hring (.bureau : Req).view 3).stalled, reading := (hostRingsWork3.hring (.bureau : Req).view 3).reading : Ring }.toDevice = false ∧ hostRingsWork3.ringTaken (.bureau : Req).view 3 { cfg := (((hostRingsWork3.hring (.bureau : Req).view 3).cfg.setBits 2 1 ((0x11B : Word).bits 2 1)).setBits 8 8 ((0x11B : Word).bits 8 8)).setBits 7 3 ((0x11B : Word).bits 7 3), baseLo := (hostRingsWork3.hring (.bureau : Req).view 3).baseLo, baseHi := (hostRingsWork3.hring (.bureau : Req).view 3).baseHi, shLo := (hostRingsWork3.hring (.bureau : Req).view 3).shLo, shHi := (hostRingsWork3.hring (.bureau : Req).view 3).shHi, target := (hostRingsWork3.hring (.bureau : Req).view 3).target, st := (hostRingsWork3.hring (.bureau : Req).view 3).st, code := (hostRingsWork3.hring (.bureau : Req).view 3).code, fail := (hostRingsWork3.hring (.bureau : Req).view 3).fail, head := (hostRingsWork3.hring (.bureau : Req).view 3).head, tail := (hostRingsWork3.hring (.bureau : Req).view 3).tail, since := (hostRingsWork3.hring (.bureau : Req).view 3).since, stalled := (hostRingsWork3.hring (.bureau : Req).view 3).stalled, reading := (hostRingsWork3.hring (.bureau : Req).view 3).reading : Ring } = true) ∧
    ((¬(((0x104 : Word).bits 2 1 < 2 ∨ hostRingsWork2.legacy = true) ∧ 2 ≤ (0x104 : Word).bits 7 3 ∧ (0x104 : Word).bits 7 3 ≤ 16)) ∧ (0x104 : Word).bit 0 = false) ∧
    (hostRingsWork4.boot.resetN = true ∧ hostRingsWork4.boot.off = false ∧ hostRingsWork4.devState = 2 ∧ hostRingsWork4.inD3 0 = false ∧ 3 < ringCount 0 ∧ (hostRingsWork4.hring 0 3).en = false ∧ hostRingsWork4.ctrFrozen (hq 0) = false) ∧
    (hostRingsWork1.boot.resetN = true ∧ hostRingsWork1.boot.off = false ∧ hostRingsWork1.devState = 2 ∧ hostRingsWork1.inD3 0 = false ∧ (hostRingsWork1.hring 0 3).en = true ∧ (hostRingsWork1.hring 0 3).toDevice = true ∧ ((5 : Word).bits 16 0 % (2 * (hostRingsWork1.hring 0 3).size) + 2 * (hostRingsWork1.hring 0 3).size - (hostRingsWork1.hring 0 3).head % (2 * (hostRingsWork1.hring 0 3).size)) % (2 * (hostRingsWork1.hring 0 3).size) ≤ (hostRingsWork1.hring 0 3).size) ∧
    (hostRingsWork5.boot.resetN = true ∧ hostRingsWork5.boot.off = false ∧ hostRingsWork5.devState = 2 ∧ hostRingsWork5.inD3 0 = false ∧ (hostRingsWork5.hring 0 3).en = true ∧ (hostRingsWork5.hring 0 3).toDevice = false ∧ ((3 : Word).bits 16 0 % (2 * (hostRingsWork5.hring 0 3).size) + 2 * (hostRingsWork5.hring 0 3).size - (hostRingsWork5.hring 0 3).head % (2 * (hostRingsWork5.hring 0 3).size)) % (2 * (hostRingsWork5.hring 0 3).size) ≤ (hostRingsWork5.hring 0 3).occ) ∧
    ((if (hostRingsWork5.hring 0 3).toDevice = true then (hostRingsWork5.hring 0 3).size else (hostRingsWork5.hring 0 3).occ) < ((5 : Word).bits 16 0 % (2 * (hostRingsWork5.hring 0 3).size) + 2 * (hostRingsWork5.hring 0 3).size - (hostRingsWork5.hring 0 3).head % (2 * (hostRingsWork5.hring 0 3).size)) % (2 * (hostRingsWork5.hring 0 3).size)) ∧
    ((if (hostRingsWork1.hring 0 3).toDevice = true then (hostRingsWork1.hring 0 3).size else (hostRingsWork1.hring 0 3).occ) < ((7 : Word).bits 16 0 % (2 * (hostRingsWork1.hring 0 3).size) + 2 * (hostRingsWork1.hring 0 3).size - (hostRingsWork1.hring 0 3).head % (2 * (hostRingsWork1.hring 0 3).size)) % (2 * (hostRingsWork1.hring 0 3).size)) ∧
    (0 < 64) ∧
    (8 ≠ 4) ∧
    (hostRingsWork1.ringFetchable 0 3 = true) ∧
    ((hostRingsWork6.hring 0 3).reading = true ∧ (hostRingsWork6.hring 0 3).active = true ∧ ((.ur : DmaRead) = DmaRead.ur ∨ (.ur : DmaRead) = DmaRead.poisoned)) ∧
    ((hostRingsWork7.hring 0 3).reading = true ∧ (hostRingsWork7.hring 0 3).active = true ∧ (hostRingsWork7.hring 0 3).kind = 2 ∧ hostRingsWork7.ctrFrozen (hq 0) = false ∧ rebuildStep (nb (5 % 2 ^ 64) 63 44) hostRingsWork7.now * 2 ^ 15 + hostRingsWork7.fld (hq 0) 128 23 0 < hostRingsWork7.now) ∧
    ((hostRingsWork8.hring 0 3).reading = true ∧ (hostRingsWork8.hring 0 3).active = true ∧ (hostRingsWork8.hring 0 3).kind = 2 ∧ hostRingsWork8.now ≤ rebuildStep (nb (((2^47) : Nat) % 2 ^ 64) 63 44) hostRingsWork8.now * 2 ^ 15 + hostRingsWork8.fld (hq 0) 128 23 0 ∧ (hostRingsWork8.mapEntryAt 353 ((hostRingsWork8.hring 0 3).key 0) ((hostRingsWork8.hring 0 3).target.bits 7 0)).valid = true ∧ (hostRingsWork8.mapEntryAt 353 ((hostRingsWork8.hring 0 3).key 0) ((hostRingsWork8.hring 0 3).target.bits 7 0)).parked = false) ∧
    ((hostRingsWork9.hring 0 3).since = some 5 ∧ hostRingsWork9.fld (hq 0) 112 23 0 ≠ 0 ∧ (hostRingsWork9.hring 0 3).stalled = false ∧ 5 + hostRingsWork9.fld (hq 0) 112 23 0 * 32000 ≤ hostRingsWork9.now) ∧
    (hostRingsWork10.devState = 2 ∧ (hostRingsWork10.hring 5 3).active = true ∧ (hostRingsWork10.hring 5 3).toDevice = false ∧ (hostRingsWork10.hring 5 3).occ < (hostRingsWork10.hring 5 3).size ∧ (hostRingsWork10.mapEntry ((hostRingsWork10.hring 5 3).key 5) ((hostRingsWork10.hring 5 3).target.bits 7 0)).valid = true ∧ (hostRingsWork10.mapEntry ((hostRingsWork10.hring 5 3).key 5) ((hostRingsWork10.hring 5 3).target.bits 7 0)).parked = false ∧ hostRingsWork10.live (hostRingsWork10.mapEntry ((hostRingsWork10.hring 5 3).key 5) ((hostRingsWork10.hring 5 3).target.bits 7 0)).phys = true ∧ hostRingsWork10.hostQueue (hostRingsWork10.mapEntry ((hostRingsWork10.hring 5 3).key 5) ((hostRingsWork10.hring 5 3).target.bits 7 0)).phys = some 5 ∧ (hostRingsWork10.qctx (hostRingsWork10.mapEntry ((hostRingsWork10.hring 5 3).key 5) ((hostRingsWork10.hring 5 3).target.bits 7 0)).phys 5).v = true ∧ (hostRingsWork10.qctx (hostRingsWork10.mapEntry ((hostRingsWork10.hring 5 3).key 5) ((hostRingsWork10.hring 5 3).target.bits 7 0)).phys 5).occ ≠ 0 ∧ (hostRingsWork10.qctx (hostRingsWork10.mapEntry ((hostRingsWork10.hring 5 3).key 5) ((hostRingsWork10.hring 5 3).target.bits 7 0)).phys 5).loc = 1 ∧ inShared ((hostRingsWork10.qctx (hostRingsWork10.mapEntry ((hostRingsWork10.hring 5 3).key 5) ((hostRingsWork10.hring 5 3).target.bits 7 0)).phys 5).entryAt (hostRingsWork10.qctx (hostRingsWork10.mapEntry ((hostRingsWork10.hring 5 3).key 5) ((hostRingsWork10.hring 5 3).target.bits 7 0)).phys 5).head) 32 = true ∧ hostRingsWork10.spanOff (hostRingsWork10.mapEntry ((hostRingsWork10.hring 5 3).key 5) ((hostRingsWork10.hring 5 3).target.bits 7 0)).phys ((hostRingsWork10.qctx (hostRingsWork10.mapEntry ((hostRingsWork10.hring 5 3).key 5) ((hostRingsWork10.hring 5 3).target.bits 7 0)).phys 5).entryAt (hostRingsWork10.qctx (hostRingsWork10.mapEntry ((hostRingsWork10.hring 5 3).key 5) ((hostRingsWork10.hring 5 3).target.bits 7 0)).phys 5).head) 32 = none ∧ (hostRingsWork10.hring 5 3).kind = 1) ∧
    (hostRingsWork11.devState = 2 ∧ (hostRingsWork11.hring 5 3).active = true ∧ (hostRingsWork11.hring 5 3).toDevice = false ∧ (hostRingsWork11.hring 5 3).occ < (hostRingsWork11.hring 5 3).size ∧ (hostRingsWork11.mapEntry ((hostRingsWork11.hring 5 3).key 5) ((hostRingsWork11.hring 5 3).target.bits 7 0)).valid = true ∧ (hostRingsWork11.mapEntry ((hostRingsWork11.hring 5 3).key 5) ((hostRingsWork11.hring 5 3).target.bits 7 0)).parked = false ∧ hostRingsWork11.live (hostRingsWork11.mapEntry ((hostRingsWork11.hring 5 3).key 5) ((hostRingsWork11.hring 5 3).target.bits 7 0)).phys = true ∧ hostRingsWork11.hostQueue (hostRingsWork11.mapEntry ((hostRingsWork11.hring 5 3).key 5) ((hostRingsWork11.hring 5 3).target.bits 7 0)).phys = some 5 ∧ (hostRingsWork11.qctx (hostRingsWork11.mapEntry ((hostRingsWork11.hring 5 3).key 5) ((hostRingsWork11.hring 5 3).target.bits 7 0)).phys 5).v = true ∧ (hostRingsWork11.qctx (hostRingsWork11.mapEntry ((hostRingsWork11.hring 5 3).key 5) ((hostRingsWork11.hring 5 3).target.bits 7 0)).phys 5).occ ≠ 0 ∧ (hostRingsWork11.qctx (hostRingsWork11.mapEntry ((hostRingsWork11.hring 5 3).key 5) ((hostRingsWork11.hring 5 3).target.bits 7 0)).phys 5).loc = 1 ∧ inShared ((hostRingsWork11.qctx (hostRingsWork11.mapEntry ((hostRingsWork11.hring 5 3).key 5) ((hostRingsWork11.hring 5 3).target.bits 7 0)).phys 5).entryAt (hostRingsWork11.qctx (hostRingsWork11.mapEntry ((hostRingsWork11.hring 5 3).key 5) ((hostRingsWork11.hring 5 3).target.bits 7 0)).phys 5).head) 32 = true ∧ hostRingsWork11.spanOff (hostRingsWork11.mapEntry ((hostRingsWork11.hring 5 3).key 5) ((hostRingsWork11.hring 5 3).target.bits 7 0)).phys ((hostRingsWork11.qctx (hostRingsWork11.mapEntry ((hostRingsWork11.hring 5 3).key 5) ((hostRingsWork11.hring 5 3).target.bits 7 0)).phys 5).entryAt (hostRingsWork11.qctx (hostRingsWork11.mapEntry ((hostRingsWork11.hring 5 3).key 5) ((hostRingsWork11.hring 5 3).target.bits 7 0)).phys 5).head) 32 = none ∧ (hostRingsWork11.hring 5 3).kind = 3 ∧ legacyWord (hostRingsWork11.load (spadAt (hostRingsWork11.mapEntry ((hostRingsWork11.hring 5 3).key 5) ((hostRingsWork11.hring 5 3).target.bits 7 0)).phys ((hostRingsWork11.qctx (hostRingsWork11.mapEntry ((hostRingsWork11.hring 5 3).key 5) ((hostRingsWork11.hring 5 3).target.bits 7 0)).phys 5).entryAt (hostRingsWork11.qctx (hostRingsWork11.mapEntry ((hostRingsWork11.hring 5 3).key 5) ((hostRingsWork11.hring 5 3).target.bits 7 0)).phys 5).head)) 32) = none ∧ hostRingsWork11.ctrFrozen (hq 5) = false) ∧
    (hostRingsWork12.passes (.bureau : Req) (hq (.bureau : Req).view) 104 = true ∧ hostRingsWork12.ringSel (.bureau : Req).view = some 3 ∧ (hostRingsWork12.hring (.bureau : Req).view 3).en = false) ∧
    (hostRingsWork13.passes (.bureau : Req) (hq (.bureau : Req).view) 104 = true ∧ hostRingsWork13.ringSel (.bureau : Req).view = some 3 ∧ (hostRingsWork13.hring (.bureau : Req).view 3).en = true) ∧
    ((hostRingsWork13.hring (.bureau : Req).view 3).st = 2) ∧
    (hostRingsWork1.passes (.bureau : Req) (hq (.bureau : Req).view) 104 = true ∧ (hostRingsWork1.hring (.bureau : Req).view 3).st ≠ 2) :=
  ⟨by and_intros <;> decide +kernel, by and_intros <;> decide +kernel, by and_intros <;> decide +kernel, by and_intros <;> decide +kernel, by and_intros <;> decide +kernel, by and_intros <;> decide +kernel, by and_intros <;> decide +kernel, by and_intros <;> decide +kernel, by and_intros <;> decide +kernel, by and_intros <;> decide +kernel, by and_intros <;> decide +kernel, by and_intros <;> decide +kernel, by and_intros <;> decide +kernel, by and_intros <;> decide +kernel, by and_intros <;> decide +kernel, by and_intros <;> decide +kernel, by and_intros <;> decide +kernel, by and_intros <;> decide +kernel, by and_intros <;> decide +kernel, by and_intros <;> decide +kernel, by and_intros <;> decide +kernel, by and_intros <;> decide +kernel, by and_intros <;> decide +kernel, by and_intros <;> decide +kernel⟩

abbrev wn : State := (reg 0 1 pl0 (pw.wrN (hq 0) 0x104 0x80000004)).store (2^30+64*5) 64 (3^300)
abbrev wo : Nat := 2^30+64*5+3
abbrev hld : State := pw.wrN ⟨.dev,0⟩ 0x4C 0
abbrev plan : StartPlan := ⟨false, 0, false, true, some 7, true, 8, 9, true, true, true, [], 0, 0, [], 0, [], 5, 6, [(0x370000, 0x13)], 3⟩
abbrev windowHoldAndRelease1 : State := {wn with pci := {wn.pci with ecrcCheck := true}}
abbrev windowHoldAndRelease2 : State := (reg 0 1 0 wn)
abbrev windowHoldAndRelease3 : State := (wn.wrN (hut0 0) 0x40 0)
abbrev windowHoldAndRelease4 : State := {pw with chans := [(3, {Chan.reset with pllLost := true})]}
abbrev windowHoldAndRelease5 : State := (rz 5 .loaded)

/-- The hypotheses of the clauses of WindowHoldAndRelease are met: a line holds the hypotheses of one clause, but for those an earlier line holds. -/
theorem witness_WindowHoldAndRelease :
    (wn.powered = true ∧ wn.discards (.ok : Bus) = false ∧ (3 ≠ 0 ∨ wn.devState ≠ 2)) ∧
    (windowHoldAndRelease1.powered = true ∧ windowHoldAndRelease1.discards (.ecrc : Bus) = true) ∧
    (wn.devState = 2 ∧ wn.inD3 0 = false ∧ wn.windowAt 5 = none) ∧
    (windowHoldAndRelease2.powered = true ∧ windowHoldAndRelease2.devState = 2 ∧ windowHoldAndRelease2.inD3 0 = false ∧ windowHoldAndRelease2.windowAt wo = some wo ∧ windowHoldAndRelease2.windowDenied wo 8 = some ((2^30+64*5, 0x0F1) : Nat × Nat)) ∧
    (wn.windowAt wo = some wo ∧ wn.windowDenied wo 8 = none ∧ wo % 64 + 8 ≤ 64 ∧ (wn.rdN (hut0 (stackOf wo)) 72).testBit (wn.pcOf (wo / 64 * 64)) = false) ∧
    (windowHoldAndRelease3.powered = true ∧ windowHoldAndRelease3.devState = 2 ∧ windowHoldAndRelease3.inD3 0 = false ∧ windowHoldAndRelease3.windowAt wo = some wo ∧ windowHoldAndRelease3.windowDenied wo 8 = none ∧ windowHoldAndRelease3.mirrorAt (wo / 64 * 64) = none ∧ (windowHoldAndRelease3.rdN (hut0 (stackOf (wo / 64 * 64))) 72).testBit (windowHoldAndRelease3.pcOf (wo / 64 * 64)) = false ∧ windowHoldAndRelease3.flag (hut0 (stackOf (wo / 64 * 64))) 64 1 = false ∧ 0 < 8) ∧
    (wn.windowDenied wo ([1,2,3] : List Byte).length = none ∧ (∀ (b : Nat), wn.mirrorAt b = none)) ∧
    (windowHoldAndRelease4.passes (.bureau : Req) pDev 72 = true ∧ (.bureau : Req).isPf = true ∧ windowHoldAndRelease4.allFree = true ∧ (2 : Word).bit 2 = false ∧ (2 : Word).bit 0 = windowHoldAndRelease4.boot.legacyReq) ∧
    (pw.passes (.bureau : Req) pDev 72 = true ∧ (6 : Word).bit 2 = true) ∧
    (windowHoldAndRelease5.passes (.bureau : Req) pDev 72 = true ∧ windowHoldAndRelease5.allFree = false ∧ (2 : Word).bit 0 = windowHoldAndRelease5.boot.legacyReq) ∧
    (hld.passes (.bureau : Req) pDev 72 = true ∧ (4 : Word).bit 2 = true) ∧
    (hld.inHostHold = true ∧ (1 : Word).bit 1 = false ∧ (1 : Word).bit 2 = false) ∧
    (pw.inHostHold = false ∧ (1 : Word).bit 0 ≠ pw.boot.legacyReq) ∧
    (plan.slices = [] ∧ plan.chanBad &&& hld.fuses.chEn = 0 ∧ hld.fuses.cabinets ≤ hld.healthyCount) ∧
    ((0 : Word).bit 1 = false ∧ (0 : Word).bit 0 = pw.boot.legacyReq) :=
  ⟨by and_intros <;> decide +kernel, by and_intros <;> decide +kernel, by and_intros <;> decide +kernel, by and_intros <;> decide +kernel, by and_intros <;> decide +kernel, by and_intros <;> decide +kernel, ⟨by decide +kernel, mirrorAt_none _ (by decide +kernel)⟩, by and_intros <;> decide +kernel, by and_intros <;> decide +kernel, by and_intros <;> decide +kernel, by and_intros <;> decide +kernel, by and_intros <;> decide +kernel, by and_intros <;> decide +kernel, by and_intros <;> decide +kernel, by and_intros <;> decide +kernel⟩

abbrev rpt (b : Block) (i code arg : Nat) (s : State) : State := {s with faultReports := [⟨⟨b, i⟩, code, 500, arg⟩]}
abbrev mvg : MbCmd := {m0 with w := 0x10006, args := [5, 0, 41, 0,0,0,0,0], phase := 2, src := 40, dst := 41}
abbrev lg : State := {bz with logs := [(0, [⟨2^33+5, 0x8000, 77⟩, ⟨6, 0x8000, 78⟩])]}
abbrev faultReportsAreHandled1 : State := (rpt .trs 81 9 0 own5)
abbrev faultReportsAreHandled2 : State := (rpt .trs 81 9 0 prt5)
abbrev faultReportsAreHandled3 : State := (rpt .trs 81 9 0 ckp5)
abbrev faultReportsAreHandled4 : State := (rpt .trs 82 9 0 {own5 with mbox := [mvg]})
abbrev faultReportsAreHandled5 : State := (rpt .rtr 7 0x032 (32768*0x123+0x124) own5)
abbrev faultReportsAreHandled6 : FaultReport := ⟨⟨.rtr, 7⟩, 0x032, 500, 32768*0x123+0x124⟩
abbrev faultReportsAreHandled7 : State := (rpt .rtr 7 0x022 2 (own5.setFlag (rtr 7) 0x90 5 true))
abbrev faultReportsAreHandled8 : State := {own5 with sources := [(512*5+40, {Source.reset with miss := 16})]}
abbrev faultReportsAreHandled9 : State := {own5 with sources := [(512*5+40, {Source.reset with miss := 15})]}

/-- The hypotheses of the clauses of FaultReportsAreHandled are met: a line holds the hypotheses of one clause, but for those an earlier line holds. -/
theorem witness_FaultReportsAreHandled :
    (((rpt .time0 0 9 0 own5) : State).faultReports = (⟨⟨.time0, 0⟩, 9, 500, 0⟩ : FaultReport) :: ([] : List FaultReport) ∧ ((⟨⟨.time0, 0⟩, 9, 500, 0⟩ : FaultReport).page.blk ∈ [Block.time0, Block.time1] ∧ 2 = 2 ∨ (⟨⟨.time0, 0⟩, 9, 500, 0⟩ : FaultReport).page.blk ∈ [Block.dev, Block.hq] ∧ 2 = 4 ∨ (⟨⟨.time0, 0⟩, 9, 500, 0⟩ : FaultReport).page.blk ∈ [Block.bur, Block.pwr, Block.plc, Block.intg, Block.obs, Block.bist] ∧ 2 = 3)) ∧
    (((rpt .hq 0 9 0 own5) : State).faultReports = (⟨⟨.hq, 0⟩, 9, 500, 0⟩ : FaultReport) :: ([] : List FaultReport) ∧ ((⟨⟨.hq, 0⟩, 9, 500, 0⟩ : FaultReport).page.blk ∈ [Block.time0, Block.time1] ∧ 4 = 2 ∨ (⟨⟨.hq, 0⟩, 9, 500, 0⟩ : FaultReport).page.blk ∈ [Block.dev, Block.hq] ∧ 4 = 4 ∨ (⟨⟨.hq, 0⟩, 9, 500, 0⟩ : FaultReport).page.blk ∈ [Block.bur, Block.pwr, Block.plc, Block.intg, Block.obs, Block.bist] ∧ 4 = 3)) ∧
    (((rpt .plc 0 9 0 own5) : State).faultReports = (⟨⟨.plc, 0⟩, 9, 500, 0⟩ : FaultReport) :: ([] : List FaultReport) ∧ ((⟨⟨.plc, 0⟩, 9, 500, 0⟩ : FaultReport).page.blk ∈ [Block.time0, Block.time1] ∧ 3 = 2 ∨ (⟨⟨.plc, 0⟩, 9, 500, 0⟩ : FaultReport).page.blk ∈ [Block.dev, Block.hq] ∧ 3 = 4 ∨ (⟨⟨.plc, 0⟩, 9, 500, 0⟩ : FaultReport).page.blk ∈ [Block.bur, Block.pwr, Block.plc, Block.intg, Block.obs, Block.bist] ∧ 3 = 3)) ∧
    (faultReportsAreHandled1.faultReports = (⟨⟨.trs, 81⟩, 9, 500, 0⟩ : FaultReport) :: ([] : List FaultReport) ∧ (⟨⟨.trs, 81⟩, 9, 500, 0⟩ : FaultReport).page.blk ∈ [Block.cctl, Block.qmgr, Block.spad, Block.drw, Block.trs, Block.xpnd, Block.hzn, Block.cobs] ∧ faultReportsAreHandled1.mbox = [] ∧ faultReportsAreHandled1.recov = [] ∧ faultReportsAreHandled1.cabKey (⟨⟨.trs, 81⟩, 9, 500, 0⟩ : FaultReport).page.pos = 5 ∧ 5 ≠ 0 ∧ (faultReportsAreHandled1.part 5 = PartState.running ∨ faultReportsAreHandled1.part 5 = PartState.stopped) ∧ (faultReportsAreHandled1.cfg 5).prot = false) ∧
    (faultReportsAreHandled2.faultReports = (⟨⟨.trs, 81⟩, 9, 500, 0⟩ : FaultReport) :: ([] : List FaultReport) ∧ faultReportsAreHandled2.mbox = [] ∧ faultReportsAreHandled2.recov = [] ∧ faultReportsAreHandled2.cabKey (⟨⟨.trs, 81⟩, 9, 500, 0⟩ : FaultReport).page.pos = 5 ∧ (faultReportsAreHandled2.part 5 = PartState.running ∨ faultReportsAreHandled2.part 5 = PartState.stopped) ∧ (faultReportsAreHandled2.cfg 5).prot = true ∧ faultReportsAreHandled2.logicalOf 5 (⟨⟨.trs, 81⟩, 9, 500, 0⟩ : FaultReport).page.pos = some 0 ∧ faultReportsAreHandled2.latestCkpt 5 0 = none) ∧
    (faultReportsAreHandled3.faultReports = (⟨⟨.trs, 81⟩, 9, 500, 0⟩ : FaultReport) :: ([] : List FaultReport) ∧ faultReportsAreHandled3.mbox = [] ∧ faultReportsAreHandled3.recov = [] ∧ faultReportsAreHandled3.cabKey (⟨⟨.trs, 81⟩, 9, 500, 0⟩ : FaultReport).page.pos = 5 ∧ (faultReportsAreHandled3.part 5 = PartState.running ∨ faultReportsAreHandled3.part 5 = PartState.stopped) ∧ (faultReportsAreHandled3.cfg 5).prot = true ∧ faultReportsAreHandled3.logicalOf 5 (⟨⟨.trs, 81⟩, 9, 500, 0⟩ : FaultReport).page.pos = some 0 ∧ faultReportsAreHandled3.latestCkpt 5 0 = some ck0 ∧ (List.find? (fun q => decide (q / 18 = (⟨⟨.trs, 81⟩, 9, 500, 0⟩ : FaultReport).page.pos / 18)) faultReportsAreHandled3.spares = some 36)) ∧
    (faultReportsAreHandled4.faultReports = (⟨⟨.trs, 82⟩, 9, 500, 0⟩ : FaultReport) :: ([] : List FaultReport) ∧ (⟨⟨.trs, 82⟩, 9, 500, 0⟩ : FaultReport).page.blk ∈ [Block.cctl, Block.qmgr, Block.spad, Block.drw, Block.trs, Block.xpnd, Block.hzn, Block.cobs] ∧ (faultReportsAreHandled4.movingAt (fun x => x.dst) (⟨⟨.trs, 82⟩, 9, 500, 0⟩ : FaultReport).page.pos = some mvg)) ∧
    (faultReportsAreHandled5.faultReports = faultReportsAreHandled6 :: ([] : List FaultReport) ∧ faultReportsAreHandled6.page.blk = Block.rtr ∧ faultReportsAreHandled6.code = 50 ∧ isCab (faultReportsAreHandled6.arg / 32768) = false ∧ isCab (faultReportsAreHandled6.arg % 512) = false ∧ faultReportsAreHandled5.mbox = [] ∧ faultReportsAreHandled5.recov = []) ∧
    (faultReportsAreHandled7.faultReports = (⟨⟨.rtr, 7⟩, 0x022, 500, 2⟩ : FaultReport) :: ([] : List FaultReport) ∧ (⟨⟨.rtr, 7⟩, 0x022, 500, 2⟩ : FaultReport).page.blk = Block.rtr ∧ (⟨⟨.rtr, 7⟩, 0x022, 500, 2⟩ : FaultReport).code = 34 ∧ (⟨⟨.rtr, 7⟩, 0x022, 500, 2⟩ : FaultReport).arg % 8 ≠ 0 ∧ faultReportsAreHandled7.mbox = [] ∧ faultReportsAreHandled7.recov = []) ∧
    (faultReportsAreHandled8.mbox = [] ∧ faultReportsAreHandled8.recov = [] ∧ (faultReportsAreHandled8.cfg 5).prot = false ∧ faultReportsAreHandled8.part 5 = PartState.running ∧ faultReportsAreHandled8.placed 5 ≠ [] ∧ (∀ (e : Nat × Nat), e ∈ faultReportsAreHandled8.placed 5 → faultReportsAreHandled8.cabKey e.snd = 5) ∧ (∃ e, e ∈ faultReportsAreHandled8.sourceIds 5 ∧ 16 ≤ (faultReportsAreHandled8.source 5 e).miss)) ∧
    (faultReportsAreHandled9.mbox = [] ∧ faultReportsAreHandled9.recov = [] ∧ (faultReportsAreHandled9.cfg 5).prot = false ∧ faultReportsAreHandled9.part 5 = PartState.running ∧ faultReportsAreHandled9.placed 5 ≠ [] ∧ (∀ (e : Nat × Nat), e ∈ faultReportsAreHandled9.placed 5 → faultReportsAreHandled9.cabKey e.snd = 5) ∧ (∀ (e : Nat), e ∈ faultReportsAreHandled9.sourceIds 5 → (faultReportsAreHandled9.source 5 e).miss < 16)) ∧
    (lg.reads (.bureau : Req) (intg (.bureau : Req).view) = true ∧ lg.log (.bureau : Req).view = (⟨2^33+5, 0x8000, 77⟩ : LogEntry) :: ([⟨6, 0x8000, 78⟩] : List LogEntry)) ∧
    (bz.reads (.bureau : Req) (intg (.bureau : Req).view) = true ∧ bz.log (.bureau : Req).view = []) :=
  ⟨by and_intros <;> decide +kernel, by and_intros <;> decide +kernel, by and_intros <;> decide +kernel, by and_intros <;> decide +kernel, by and_intros <;> decide +kernel, by and_intros <;> decide +kernel, by and_intros <;> decide +kernel, by and_intros <;> decide +kernel, by and_intros <;> decide +kernel, by and_intros <;> decide +kernel, by and_intros <;> decide +kernel, by and_intros <;> decide +kernel, by and_intros <;> decide +kernel⟩

abbrev ckv : State := {ckp5 with ckpts := [(1280, [{ck0 with valid := false}])], journals := [(1280, ⟨1, [5, 13, 21], 3, 0, true, 0⟩)]}
abbrev fa : Arrival := ⟨40, false, ⟨40, 0x161, 3, 5, 0, 5, 0, 0x51 * 2^120 + 77 * 2^72 + 3 * 2^64⟩⟩
abbrev checkpointsAndRecoveries1 : State := (rst5 36 2)
abbrev checkpointsAndRecoveries2 : State := {rst5 36 2 with synced := [(40, true)]}
abbrev checkpointsAndRecoveries3 : State := ((fin 36).wr64 (hzn 36) 0x68 5)
abbrev checkpointsAndRecoveries4 : State := (fio 36)
abbrev checkpointsAndRecoveries5 : State := (fio 40)

/-- The hypotheses of the clauses of CheckpointsAndRecoveries are met: a line holds the hypotheses of one clause, but for those an earlier line holds. -/
theorem witness_CheckpointsAndRecoveries :
    (List.find? (fun x => !x.valid) (ckv.ckptsOf (ckv.cabKey 40) (ckv.cabLog 40)) = some ({ck0 with valid := false} : Ckpt)) ∧
    (checkpointsAndRecoveries1.recov = [((rcv 36 2) : Recov)] ∧ ((rcv 36 2) : Recov).step = 2 ∧ ((rcv 36 2) : Recov).key ≠ 0 ∧ (checkpointsAndRecoveries1.part ((rcv 36 2) : Recov).key = PartState.running ∨ checkpointsAndRecoveries1.part ((rcv 36 2) : Recov).key = PartState.stopped) ∧ ((false : Bool) = false ∨ checkpointsAndRecoveries1.latestCkpt ((rcv 36 2) : Recov).key ((rcv 36 2) : Recov).cab = none)) ∧
    ((true : Bool) = true ∧ checkpointsAndRecoveries1.latestCkpt ((rcv 36 2) : Recov).key ((rcv 36 2) : Recov).cab = some ck0 ∧ checkpointsAndRecoveries1.domReady (4 + ((rcv 36 2) : Recov).dst) = false) ∧
    (checkpointsAndRecoveries2.recov = [((rcv 36 2) : Recov)] ∧ (checkpointsAndRecoveries2.part ((rcv 36 2) : Recov).key = PartState.running ∨ checkpointsAndRecoveries2.part ((rcv 36 2) : Recov).key = PartState.stopped) ∧ checkpointsAndRecoveries2.latestCkpt ((rcv 36 2) : Recov).key ((rcv 36 2) : Recov).cab = some ck0 ∧ checkpointsAndRecoveries2.domReady (4 + ((rcv 36 2) : Recov).dst) = true ∧ List.drop (ck0.mark - (checkpointsAndRecoveries2.journal ((rcv 36 2) : Recov).key ((rcv 36 2) : Recov).cab).base) (checkpointsAndRecoveries2.journal ((rcv 36 2) : Recov).key ((rcv 36 2) : Recov).cab).entries = []) ∧
    (((fin 36) : State).recov = [((rcv 36 4) : Recov)] ∧ ((rcv 36 4) : Recov).step = 4 ∧ ((rcv 36 4) : Recov).left = [] ∧ ((rcv 36 4) : Recov).key ≠ 0) ∧
    (checkpointsAndRecoveries3.recov = [((rcv 36 4) : Recov)] ∧ checkpointsAndRecoveries3.replayOver ((rcv 36 4) : Recov) = false) ∧
    (checkpointsAndRecoveries4.recov = [((rcv 36 4) : Recov)] ∧ checkpointsAndRecoveries4.replayOver ((rcv 36 4) : Recov) = true ∧ ((rcv 36 4) : Recov).src ≠ ((rcv 36 4) : Recov).dst) ∧
    (checkpointsAndRecoveries5.recov = [((rcv 40 4) : Recov)] ∧ ((rcv 40 4) : Recov).step = 4 ∧ ((rcv 40 4) : Recov).left = [] ∧ ((rcv 40 4) : Recov).key ≠ 0 ∧ checkpointsAndRecoveries5.replayOver ((rcv 40 4) : Recov) = true ∧ ((rcv 40 4) : Recov).src = ((rcv 40 4) : Recov).dst) ∧
    (((rst5 36 6) : State).recov = [((rcv 36 6) : Recov)] ∧ ((rcv 36 6) : Recov).step = 6 ∧ ((rcv 36 6) : Recov).key ≠ 0) ∧
    (({own5 with inbox := [fa]} : State).mgmtAt 40 81 = some fa) :=
  ⟨by and_intros <;> decide +kernel, by and_intros <;> decide +kernel, by and_intros <;> decide +kernel, by and_intros <;> decide +kernel, by and_intros <;> decide +kernel, by and_intros <;> decide +kernel, by and_intros <;> decide +kernel, by and_intros <;> decide +kernel, by and_intros <;> decide +kernel, by and_intros <;> decide +kernel⟩

abbrev down : State := {z with boot := {z.boot with resetN := false, rec0 := none, rec1 := none}}
abbrev offs : State := {z with boot := {z.boot with off := true, rec0 := none, rec1 := none}}
abbrev deviceStartsAndResets1 : State := {rn5 with boot := {rn5.boot with aonCount := 9, resetN := true}}
abbrev deviceStartsAndResets2 : State := {rn5 with boot := {rn5.boot with vddAon := false}}

/-- The hypotheses of the clauses of DeviceStartsAndResets are met: a line holds the hypotheses of one clause, but for those an earlier line holds. -/
theorem witness_DeviceStartsAndResets :
    (down.boot.resetN = false ∧ down.boot.vddAon = true ∧ pl.lockstep = true ∧ pl.bootSrc % 4 ≠ 3 ∧ pl.fwVer = some 77 ∧ pl.coreOk = true ∧ pl.pllOk = true ∧ pl.hostOk = true ∧ pl.lanes = [] ∧ pl.stackBad = 0 ∧ pl.pcBad = [] ∧ pl.slices = [] ∧ pl.chanBad &&& down.fuses.chEn = 0 ∧ (pl.shadowOk = false ∨ down.boot.rec0 = none ∧ down.boot.rec1 = none) ∧ down.fuses.cabinets ≤ (List.filter down.fuses.posEn.testBit (List.range 288)).length) ∧
    (({pl with lockstep := false} : StartPlan).lockstep = false) ∧
    (({pl with bootSrc := 3} : StartPlan).lockstep = true ∧ (({pl with bootSrc := 3} : StartPlan).bootSrc % 4 = 3 ∨ ({pl with bootSrc := 3} : StartPlan).fwVer = none ∨ ({pl with bootSrc := 3} : StartPlan).coreOk = false)) ∧
    (({pl with fwVer := none} : StartPlan).lockstep = true ∧ (({pl with fwVer := none} : StartPlan).bootSrc % 4 = 3 ∨ ({pl with fwVer := none} : StartPlan).fwVer = none ∨ ({pl with fwVer := none} : StartPlan).coreOk = false)) ∧
    (({pl with pllOk := false} : StartPlan).lockstep = true ∧ ({pl with pllOk := false} : StartPlan).bootSrc % 4 ≠ 3 ∧ ({pl with pllOk := false} : StartPlan).fwVer = some 77 ∧ ({pl with pllOk := false} : StartPlan).coreOk = true ∧ ({pl with pllOk := false} : StartPlan).pllOk = false) ∧
    (({pl with hostOk := false} : StartPlan).lockstep = true ∧ ({pl with hostOk := false} : StartPlan).bootSrc % 4 ≠ 3 ∧ ({pl with hostOk := false} : StartPlan).fwVer = some 77 ∧ ({pl with hostOk := false} : StartPlan).coreOk = true ∧ ({pl with hostOk := false} : StartPlan).pllOk = true ∧ ({pl with hostOk := false} : StartPlan).hostOk = false) ∧
    (offs.boot.off = true ∧ offs.boot.vddAon = true ∧ offs.boot.strapSrc ≠ 3 ∧ pl.chanBad &&& offs.fuses.chEn = 0 ∧ (pl.shadowOk = false ∨ offs.boot.rec0 = none ∧ offs.boot.rec1 = none) ∧ offs.fuses.cabinets ≤ (List.filter offs.fuses.posEn.testBit (List.range 288)).length) ∧
    (deviceStartsAndResets1.boot.resetN = true) ∧
    (rn5.boot.vddAon = true) ∧
    (deviceStartsAndResets2.boot.vddAon = false) :=
  ⟨by and_intros <;> decide +kernel, by and_intros <;> decide +kernel, by and_intros <;> decide +kernel, by and_intros <;> decide +kernel, by and_intros <;> decide +kernel, by and_intros <;> decide +kernel, by and_intros <;> decide +kernel, by and_intros <;> decide +kernel, by and_intros <;> decide +kernel, by and_intros <;> decide +kernel⟩

abbrev fw3 : State := {bz with boot := {bz.boot with fwTries := [(40*65536+5, 3)], spareSet := 2^36 + 2^54}}
abbrev svc (b : Bool) : State := {pw with boot := {pw.boot with strapSvc := b}}
abbrev fwd : List Byte := [1,2,3]
abbrev fwc : Nat := crc32 (fwd.map (·.toNat))
abbrev sz : State := {svc true with partState := [(6,.stopped)]}
abbrev tst : State := (svc true).setFld pBist 0x44 2 0 3
abbrev mrk : State := {tst with boot := {tst.boot with clearMark := true, posFail := 2^40, posFence := 2^40}}
abbrev dty : State := {pw with boot := {pw.boot with recDirty := true, trainDirty := true, posFail := 5}}
abbrev firmwareSelfTestAndRecords1 : State := {fw3 with boot := {fw3.boot with spareSet := 2^40}}
abbrev firmwareSelfTestAndRecords2 : State := (svc true)
abbrev firmwareSelfTestAndRecords3 : State := (svc false)
abbrev firmwareSelfTestAndRecords4 : State := ((svc true).setFld pBist 0x44 2 0 3)
abbrev firmwareSelfTestAndRecords5 : State := ((svc false).setFlag pBist 0x6C 0 true)

/-- The hypotheses of the clauses of FirmwareSelfTestAndRecords are met: a line holds the hypotheses of one clause, but for those an earlier line holds. -/
theorem witness_FirmwareSelfTestAndRecords :
    (40 < 288 ∧ bz.present (cctl 40) = true ∧ bz.awake (spad 40) = true ∧ fwd.length ≤ 4096 ∧ (bz.owner (cctl 40) = 0 ∨ bz.part (bz.owner (cctl 40)) ≠ PartState.running)) ∧
    (decide (crc32 (List.map (fun x => BitVec.toNat x) fwd) = fwc) = true) ∧
    ((decide (crc32 (List.map (fun x => BitVec.toNat x) fwd) = 0) = false) ∧ (SMap.get (fun x => 0) bz.boot.fwTries (40 * 65536 + 5) < 3)) ∧
    (fw3.present (cctl 40) = true ∧ fw3.awake (spad 40) = true ∧ (fw3.owner (cctl 40) = 0 ∨ fw3.part (fw3.owner (cctl 40)) ≠ PartState.running) ∧ (3 ≤ SMap.get (fun x => 0) fw3.boot.fwTries (40 * 65536 + 5))) ∧
    (firmwareSelfTestAndRecords1.present (cctl 40) = true ∧ firmwareSelfTestAndRecords1.awake (spad 40) = true ∧ (firmwareSelfTestAndRecords1.owner (cctl 40) = 0 ∨ firmwareSelfTestAndRecords1.part (firmwareSelfTestAndRecords1.owner (cctl 40)) ≠ PartState.running) ∧ (3 ≤ SMap.get (fun x => 0) firmwareSelfTestAndRecords1.boot.fwTries (40 * 65536 + 5))) ∧
    (rn5.present (cctl 40) = true ∧ rn5.awake (spad 40) = true ∧ rn5.owner (cctl 40) ≠ 0 ∧ rn5.part (rn5.owner (cctl 40)) = PartState.running) ∧
    (firmwareSelfTestAndRecords2.passes (.bureau : Req) pBist 64 = true ∧ (1 : Word).bits 2 1 = 0 ∧ firmwareSelfTestAndRecords2.allFree = true ∧ (firmwareSelfTestAndRecords2.flag pBist 108 0 || decide (firmwareSelfTestAndRecords2.fld pBist 68 2 0 = 3)) = false) ∧
    (firmwareSelfTestAndRecords3.passes (.bureau : Req) pBist 64 = true ∧ firmwareSelfTestAndRecords3.allFree = true ∧ (firmwareSelfTestAndRecords3.flag pBist 108 0 || decide (firmwareSelfTestAndRecords3.fld pBist 68 2 0 = 3)) = false) ∧
    (sz.passes (.bureau : Req) pBist 64 = true ∧ (sz.allFree = false ∨ (sz.flag pBist 108 0 || decide (sz.fld pBist 68 2 0 = 3)) = true)) ∧
    (firmwareSelfTestAndRecords4.passes (.bureau : Req) pBist 64 = true ∧ (firmwareSelfTestAndRecords4.allFree = false ∨ (firmwareSelfTestAndRecords4.flag pBist 108 0 || decide (firmwareSelfTestAndRecords4.fld pBist 68 2 0 = 3)) = true)) ∧
    ((2 : Word).bit 0 = false ∧ (2 : Word).bit 2 = false ∧ firmwareSelfTestAndRecords2.boot.strapSvc = true) ∧
    (firmwareSelfTestAndRecords3.allFree = false ∨ firmwareSelfTestAndRecords3.boot.strapSvc = false) ∧
    ((4 : Word).bits 1 0 = 0) ∧
    (sz.allFree = false ∨ sz.boot.strapSvc = false ∨ (sz.flag pBist 108 0 || decide (sz.fld pBist 68 2 0 = 3)) = true) ∧
    ((tst.fld pBist 68 2 0 = 3 ∨ tst.flag pBist 108 0 = true) ∧ tst.devState ≠ 0 ∧ (tst.fld pBist 68 2 0 = 3 → tst.fuses.cabinets ≤ tst.healthyCount ∧ tst.boot.clearMark = false) ∧ (true : Bool) = true) ∧
    ((firmwareSelfTestAndRecords5.fld pBist 68 2 0 = 3 ∨ firmwareSelfTestAndRecords5.flag pBist 108 0 = true) ∧ firmwareSelfTestAndRecords5.devState ≠ 0 ∧ (firmwareSelfTestAndRecords5.fld pBist 68 2 0 = 3 → firmwareSelfTestAndRecords5.fuses.cabinets ≤ firmwareSelfTestAndRecords5.healthyCount ∧ firmwareSelfTestAndRecords5.boot.clearMark = false) ∧ (false : Bool) = false) ∧
    (tst.fld pBist 68 2 0 = 3 ∧ tst.boot.clearMark = false ∧ (⟨3, 2, 1, 60⟩ : Slice).fail ≠ 0 ∧ ((⟨3, 2, 1, 60⟩ : Slice).code = 2 ∨ (⟨3, 2, 1, 60⟩ : Slice).code = 3 ∨ (⟨3, 2, 1, 60⟩ : Slice).code = 4)) ∧
    (mrk.fld pBist 68 2 0 = 3 ∧ mrk.boot.clearMark = true) ∧
    (dty.devState = 2 ∧ dty.boot.recDirty = true) ∧
    (dty.boot.trainDirty = true) :=
  ⟨by and_intros <;> decide +kernel, by and_intros <;> decide +kernel, by and_intros <;> decide +kernel, by and_intros <;> decide +kernel, by and_intros <;> decide +kernel, by and_intros <;> decide +kernel, by and_intros <;> decide +kernel, by and_intros <;> decide +kernel, by and_intros <;> decide +kernel, by and_intros <;> decide +kernel, by and_intros <;> decide +kernel, by and_intros <;> decide +kernel, by and_intros <;> decide +kernel, by and_intros <;> decide +kernel, by and_intros <;> decide +kernel, by and_intros <;> decide +kernel, by and_intros <;> decide +kernel, by and_intros <;> decide +kernel, by and_intros <;> decide +kernel, by and_intros <;> decide +kernel⟩

abbrev dm (d : Nat) (x : Dom) (s : State) : State := s.setDom d x
abbrev dmb (c t : Pwr) (rq : Option Pwr) : Dom := {Dom.reset with cur := c, target := t, latest := t, recorded := rq, busy := true, since := 50000}
abbrev tr (d : Nat) (c t : Pwr) (rq : Option Pwr) : State := dm d (dmb c t rq) pw
abbrev ck (x : Dom) : State := dm 44 x (pw.wrN pPwr 0x4C 44)
abbrev domainsAndDeviceChangeState1 : State := (pw.setFlag (chin 3) 8 0 true)
abbrev domainsAndDeviceChangeState2 : State := (pw.wrN pPwr 0x4C 300)
abbrev domainsAndDeviceChangeState3 : State := (dm 44 (dmb .run .deep none) pw)
abbrev domainsAndDeviceChangeState4 : State := (tr 44 .run .deep none)
abbrev domainsAndDeviceChangeState5 : State := (tr 310 .run .off none)
abbrev domainsAndDeviceChangeState6 : State := (tr 44 .run .sleep (some .run))
abbrev domainsAndDeviceChangeState7 : State := ((tr 295 .idle .run (some .sleep)).setFlag (chin 3) 8 0 true)
abbrev domainsAndDeviceChangeState8 : State := (ck {Dom.reset with fio := true})
abbrev domainsAndDeviceChangeState9 : State := (ck Dom.reset)
abbrev domainsAndDeviceChangeState10 : State := {pw with partState := [(5,.running)]}
abbrev domainsAndDeviceChangeState11 : State := {pw with devPwr := ⟨.run, .deep, none, true, []⟩}
abbrev domainsAndDeviceChangeState12 : State := {pw with devPwr := ⟨.run, .off, none, true, []⟩}

/-- The hypotheses of the clauses of DomainsAndDeviceChangeState are met: a line holds the hypotheses of one clause, but for those an earlier line holds. -/
theorem witness_DomainsAndDeviceChangeState :
    ((pw.passes (.bureau : Req) (((some (cctl 40)) : Option Page).getD pPwr) (if ((some (cctl 40)) : Option Page).isSome = true then 48 else 80) = true) ∧ pwrOf ((7 : Word).bits 2 0) = none) ∧
    (pw.passes (.bureau : Req) ((none : Option Page).getD pPwr) (if (none : Option Page).isSome = true then 48 else 80) = true) ∧
    ((domainsAndDeviceChangeState1.passes (.bureau : Req) (((some (chin 3)) : Option Page).getD pPwr) (if ((some (chin 3)) : Option Page).isSome = true then 48 else 80) = true) ∧ pwrOf ((2 : Word).bits 2 0) = some (.sleep : Pwr) ∧ (domainsAndDeviceChangeState1.fusedOff       (match ((some (chin 3)) : Option Page) with       | some p => p.dom       | none => domainsAndDeviceChangeState1.fld pPwr 76 8 0) =     true ∨   (.sleep : Pwr) ≠ Pwr.run ∧     domainsAndDeviceChangeState1.powerRefused (.bureau : Req).isBureau false         (match ((some (chin 3)) : Option Page) with         | some p => p.dom         | none => domainsAndDeviceChangeState1.fld pPwr 76 8 0)         (.sleep : Pwr) =       true)) ∧
    (pwrOf ((3 : Word).bits 2 0) = some (.deep : Pwr) ∧ pw.fusedOff     (match ((some (cctl 40)) : Option Page) with     | some p => p.dom     | none => pw.fld pPwr 76 8 0) =   false ∧ ((.deep : Pwr) = Pwr.run ∨   pw.powerRefused (.bureau : Req).isBureau false       (match ((some (cctl 40)) : Option Page) with       | some p => p.dom       | none => pw.fld pPwr 76 8 0)       (.deep : Pwr) =     false) ∧ (pw.dom       (match ((some (cctl 40)) : Option Page) with       | some p => p.dom       | none => pw.fld pPwr 76 8 0)).busy =   false ∧ (.deep : Pwr) ≠   (pw.dom       (match ((some (cctl 40)) : Option Page) with       | some p => p.dom       | none => pw.fld pPwr 76 8 0)).cur) ∧
    ((domainsAndDeviceChangeState2.passes (.bureau : Req) ((none : Option Page).getD pPwr) (if (none : Option Page).isSome = true then 48 else 80) = true) ∧ domainsAndDeviceChangeState2.fusedOff     (match (none : Option Page) with     | some p => p.dom     | none => domainsAndDeviceChangeState2.fld pPwr 76 8 0) =   false ∧ ((.sleep : Pwr) = Pwr.run ∨   domainsAndDeviceChangeState2.powerRefused (.bureau : Req).isBureau false       (match (none : Option Page) with       | some p => p.dom       | none => domainsAndDeviceChangeState2.fld pPwr 76 8 0)       (.sleep : Pwr) =     false) ∧ (domainsAndDeviceChangeState2.dom       (match (none : Option Page) with       | some p => p.dom       | none => domainsAndDeviceChangeState2.fld pPwr 76 8 0)).busy =   false ∧ (.sleep : Pwr) ≠   (domainsAndDeviceChangeState2.dom       (match (none : Option Page) with       | some p => p.dom       | none => domainsAndDeviceChangeState2.fld pPwr 76 8 0)).cur) ∧
    (pwrOf ((0 : Word).bits 2 0) = some (.run : Pwr) ∧ ((.run : Pwr) = Pwr.run ∨   pw.powerRefused (.bureau : Req).isBureau false       (match ((some (cctl 40)) : Option Page) with       | some p => p.dom       | none => pw.fld pPwr 76 8 0)       (.run : Pwr) =     false) ∧ (.run : Pwr) =   (pw.dom       (match ((some (cctl 40)) : Option Page) with       | some p => p.dom       | none => pw.fld pPwr 76 8 0)).cur) ∧
    ((domainsAndDeviceChangeState3.passes (.bureau : Req) (((some (cctl 40)) : Option Page).getD pPwr) (if ((some (cctl 40)) : Option Page).isSome = true then 48 else 80) = true) ∧ domainsAndDeviceChangeState3.fusedOff     (match ((some (cctl 40)) : Option Page) with     | some p => p.dom     | none => domainsAndDeviceChangeState3.fld pPwr 76 8 0) =   false ∧ ((.sleep : Pwr) = Pwr.run ∨   domainsAndDeviceChangeState3.powerRefused (.bureau : Req).isBureau false       (match ((some (cctl 40)) : Option Page) with       | some p => p.dom       | none => domainsAndDeviceChangeState3.fld pPwr 76 8 0)       (.sleep : Pwr) =     false) ∧ (domainsAndDeviceChangeState3.dom       (match ((some (cctl 40)) : Option Page) with       | some p => p.dom       | none => domainsAndDeviceChangeState3.fld pPwr 76 8 0)).busy =   true) ∧
    ((domainsAndDeviceChangeState4.dom 44).busy = true ∧ (domainsAndDeviceChangeState4.dom 44).recorded = none) ∧
    ((domainsAndDeviceChangeState5.dom 310).busy = true ∧ (domainsAndDeviceChangeState5.dom 310).recorded = none) ∧
    ((domainsAndDeviceChangeState6.dom 44).busy = true ∧ (domainsAndDeviceChangeState6.dom 44).recorded = some Pwr.run ∧ (domainsAndDeviceChangeState6.dom 44).target ≠ Pwr.run) ∧
    ((domainsAndDeviceChangeState7.dom 295).busy = true ∧ (domainsAndDeviceChangeState7.dom 295).recorded = some Pwr.sleep ∧ (domainsAndDeviceChangeState7.dom 295).target = Pwr.run ∧ (domainsAndDeviceChangeState7.dom 295).cur = Pwr.idle ∧ 292 ≤ 295 ∧ 295 < 308 ∧ domainsAndDeviceChangeState7.flag (chin (295 - 292)) 8 0 = true) ∧
    (domainsAndDeviceChangeState8.passes (.bureau : Req) pPwr 88 = true ∧ (1 : Word).bit 0 = true ∧ domainsAndDeviceChangeState8.fusedOff (domainsAndDeviceChangeState8.fld pPwr 76 8 0) = false ∧ (domainsAndDeviceChangeState8.dom (domainsAndDeviceChangeState8.fld pPwr 76 8 0)).cur = Pwr.run ∧ (domainsAndDeviceChangeState8.dom (domainsAndDeviceChangeState8.fld pPwr 76 8 0)).fio = true ∧ (domainsAndDeviceChangeState8.dom (domainsAndDeviceChangeState8.fld pPwr 76 8 0)).busy = false) ∧
    (domainsAndDeviceChangeState9.passes (.bureau : Req) pPwr 88 = true ∧ (domainsAndDeviceChangeState9.fusedOff (domainsAndDeviceChangeState9.fld pPwr 76 8 0) = true ∨ (domainsAndDeviceChangeState9.dom (domainsAndDeviceChangeState9.fld pPwr 76 8 0)).cur ≠ Pwr.run ∨ (domainsAndDeviceChangeState9.dom (domainsAndDeviceChangeState9.fld pPwr 76 8 0)).fio = false ∨ (domainsAndDeviceChangeState9.dom (domainsAndDeviceChangeState9.fld pPwr 76 8 0)).busy = true)) ∧
    (pw.passes (.bureau : Req) pPwr 68 = true ∧ (2 : Word).bits 2 0 ≠ 0 ∧ (2 : Word).bits 2 0 ≠ 3 ∧ (2 : Word).bits 2 0 ≠ 4) ∧
    (domainsAndDeviceChangeState10.passes (.bureau : Req) pPwr 68 = true ∧ (.deep : Pwr) ≠ Pwr.idle ∧ (.deep : Pwr) ≠ Pwr.sleep ∧ domainsAndDeviceChangeState10.deviceAllowed (.deep : Pwr) = false) ∧
    (domainsAndDeviceChangeState11.passes (.bureau : Req) pPwr 68 = true ∧ domainsAndDeviceChangeState11.deviceAllowed (.deep : Pwr) = true ∧ domainsAndDeviceChangeState11.devPwr.busy = true) ∧
    ((.run : Pwr) ≠ Pwr.idle ∧ (.run : Pwr) ≠ Pwr.sleep ∧ pw.deviceAllowed (.run : Pwr) = true ∧ pw.devPwr.busy = false ∧ (.run : Pwr) = pw.devPwr.cur) ∧
    (pw.deviceAllowed (.deep : Pwr) = true ∧ (.deep : Pwr) ≠ pw.devPwr.cur) ∧
    (pwrOf ((4 : Word).bits 2 0) = some (.off : Pwr) ∧ (.off : Pwr) ≠ Pwr.idle ∧ (.off : Pwr) ≠ Pwr.sleep ∧ pw.deviceAllowed (.off : Pwr) = true ∧ (.off : Pwr) ≠ pw.devPwr.cur) ∧
    ((∀ (d : Nat), d ∈ domainsAndDeviceChangeState11.leafDomains → (domainsAndDeviceChangeState11.dom d).busy = false) ∧ domainsAndDeviceChangeState11.devPwr.target ≠ Pwr.off ∧ domainsAndDeviceChangeState11.devPwr.recorded = none) ∧
    (domainsAndDeviceChangeState12.devPwr.busy = true ∧ (∀ (d : Nat), d ∈ domainsAndDeviceChangeState12.leafDomains → (domainsAndDeviceChangeState12.dom d).busy = false) ∧ domainsAndDeviceChangeState12.devPwr.target = Pwr.off) :=
  ⟨by and_intros <;> decide +kernel, by and_intros <;> decide +kernel, by and_intros <;> decide +kernel, by and_intros <;> decide +kernel, by and_intros <;> decide +kernel, by and_intros <;> decide +kernel, by and_intros <;> decide +kernel, by and_intros <;> decide +kernel, by and_intros <;> decide +kernel, by and_intros <;> decide +kernel, by and_intros <;> decide +kernel, by and_intros <;> decide +kernel, by and_intros <;> decide +kernel, by and_intros <;> decide +kernel, by and_intros <;> decide +kernel, by and_intros <;> decide +kernel, by and_intros <;> decide +kernel, by and_intros <;> decide +kernel, by and_intros <;> decide +kernel, by and_intros <;> decide +kernel, by and_intros <;> decide +kernel⟩

abbrev fzT (t : Nat) (f : Freeze) : State := {pw.wr64 pObs 0x48 t with freeze := f}
abbrev f0 : Freeze := z.freeze
abbrev fzA (c : Nat) : State := {pw.wr64 pObs 0x54 80000 with freeze := {f0 with armed := true, snapCause := c}}
abbrev gd (c : Nat) : State := (reg 0 1 (2^31 + 9*64) (fzA c)).wr64 pObs 0x94 (2^30)
abbrev trc (c i : Nat) : State := ({reg 0 1 (2^31 + 8*64) pw with traces := [(40, ⟨[3^79, 5], 0, 0⟩)]}.wr64 pObs 0x7C (2^30)).wrN pObs 0x84 10 |>.wrN pObs 0x70 (1 + c) |>.wrN pObs 0x88 i
abbrev dbg (n i : Nat) : State := {pw with debugger := {pw.debugger with nonce := some (BitVec.ofNat 128 n), invalid := i}}
abbrev ulk (b : Bool) : State := {pw.setFld (cctl 40) 0x0C 1 0 1 with debugger := {pw.debugger with unlocked := b}}
abbrev snp : State := {pw.wr64 pObs 0x94 (2^30) with freeze := {f0 with snapping := true, snapCause := 1}}
abbrev wtg : State := ((({rn5 with cabs := [(40, {Cab.reset with core := {Cab.reset.core with wait := some (.qrecv 3 4 64), waitSince := 100}})]}.wrN pObs 0x70 (1 + 16 + 32*5)).wr64 pObs 0x74 32))
abbrev tps (x : Int) : List Int := x :: List.replicate 15 40
abbrev smb : State := {pw with boot := {pw.boot with temps := tps (-5), alarmed := true, trip := true}}
abbrev observationDebugAndPackage1 : State := (fzT 5 f0)
abbrev observationDebugAndPackage2 : State := (fzT (2^40) f0)
abbrev observationDebugAndPackage3 : State := (fzT (2^40) {f0 with inForce := true})
abbrev observationDebugAndPackage4 : State := (fzT (2^40) {f0 with snapping := true})
abbrev observationDebugAndPackage5 : State := (fzT (2^40) {f0 with armed := true})
abbrev observationDebugAndPackage6 : State := {pw with freeze := {f0 with inForce := true}}
abbrev observationDebugAndPackage7 : State := (fzA 0)
abbrev observationDebugAndPackage8 : State := (gd 1)
abbrev observationDebugAndPackage9 : State := (fzA 1)
abbrev observationDebugAndPackage10 : State := {pw with freeze := {f0 with inForce := true, thawAt := some 80000}}
abbrev observationDebugAndPackage11 : State := (trc 2 64)
abbrev observationDebugAndPackage12 : State := (trc 0 64)
abbrev observationDebugAndPackage13 : State := ((pw.wrN ⟨.cobs, 40⟩ 0x108 5).wrN ⟨.cobs, 40⟩ 0x14 1)
abbrev observationDebugAndPackage14 : State := (dbg 5 3)
abbrev observationDebugAndPackage15 : State := (dbg 5 2)
abbrev observationDebugAndPackage16 : State := (ulk true)
abbrev observationDebugAndPackage17 : State := {pw.setFld (cctl 40) 0x0C 1 0 2 with debugger := {pw.debugger with halted := [(40, 5)]}}

/-- The hypotheses of the clauses of ObservationDebugAndPackage are met: a line holds the hypotheses of one clause, but for those an earlier line holds. -/
theorem witness_ObservationDebugAndPackage :
    (observationDebugAndPackage1.passes (.bureau : Req) pObs 68 = true ∧ (1 : Word).bit 1 = false ∧ observationDebugAndPackage1.rd64 pObs 72 < observationDebugAndPackage1.now + observationDebugAndPackage1.freezeLead) ∧
    (observationDebugAndPackage2.passes (.bureau : Req) pObs 68 = true ∧ observationDebugAndPackage2.now + observationDebugAndPackage2.freezeLead ≤ observationDebugAndPackage2.rd64 pObs 72 ∧ observationDebugAndPackage2.freeze.inForce = false ∧ observationDebugAndPackage2.freeze.armed = false) ∧
    (observationDebugAndPackage3.passes (.bureau : Req) pObs 68 = true ∧ observationDebugAndPackage3.now + observationDebugAndPackage3.freezeLead ≤ observationDebugAndPackage3.rd64 pObs 72 ∧ observationDebugAndPackage3.freeze.inForce = true) ∧
    (observationDebugAndPackage4.passes (.bureau : Req) pObs 68 = true ∧ (2 : Word).bit 0 = false ∧ observationDebugAndPackage4.freeze.snapping = true) ∧
    (observationDebugAndPackage5.passes (.bureau : Req) pObs 68 = true ∧ observationDebugAndPackage5.freeze.snapping = false ∧ observationDebugAndPackage5.freeze.armed = true) ∧
    (observationDebugAndPackage3.freeze.snapping = false ∧ observationDebugAndPackage3.freeze.armed = false) ∧
    (pw.passes (.bureau : Req) pObs 144 = true ∧ (1 : Word).bit 0 = true ∧ pw.freeze.snapping = false ∧ pw.freeze.inForce = false ∧ pw.freeze.armed = false) ∧
    (observationDebugAndPackage6.passes (.bureau : Req) pObs 144 = true ∧ observationDebugAndPackage6.freeze.snapping = false ∧ observationDebugAndPackage6.freeze.inForce = true) ∧
    (observationDebugAndPackage7.freeze.armed = true ∧ observationDebugAndPackage7.rd64 pObs 84 ≤ observationDebugAndPackage7.now ∧ observationDebugAndPackage7.freeze.snapCause = 0) ∧
    (observationDebugAndPackage8.freeze.armed = true ∧ observationDebugAndPackage8.rd64 pObs 84 ≤ observationDebugAndPackage8.now ∧ observationDebugAndPackage8.freeze.snapCause ≠ 0 ∧ (observationDebugAndPackage8.snapBase % 2 ^ 30 = 0 ∧ (observationDebugAndPackage8.regCfg (stackOf observationDebugAndPackage8.snapBase) (regionOf observationDebugAndPackage8.snapBase)).bit 31 = true ∧ (observationDebugAndPackage8.regCfg (stackOf observationDebugAndPackage8.snapBase) (regionOf observationDebugAndPackage8.snapBase)).bits 9 6 = 9 ∧ observationDebugAndPackage8.fuses.stkEn.testBit (stackOf observationDebugAndPackage8.snapBase) = true)) ∧
    (observationDebugAndPackage9.freeze.armed = true ∧ observationDebugAndPackage9.rd64 pObs 84 ≤ observationDebugAndPackage9.now ∧ observationDebugAndPackage9.freeze.snapCause ≠ 0 ∧ (¬(observationDebugAndPackage9.snapBase % 2 ^ 30 = 0 ∧ (observationDebugAndPackage9.regCfg (stackOf observationDebugAndPackage9.snapBase) (regionOf observationDebugAndPackage9.snapBase)).bit 31 = true ∧ (observationDebugAndPackage9.regCfg (stackOf observationDebugAndPackage9.snapBase) (regionOf observationDebugAndPackage9.snapBase)).bits 9 6 = 9 ∧ observationDebugAndPackage9.fuses.stkEn.testBit (stackOf observationDebugAndPackage9.snapBase) = true))) ∧
    (observationDebugAndPackage10.freeze.thawAt = some 80000 ∧ 80000 ≤ observationDebugAndPackage10.now) ∧
    (snp.freeze.snapping = true ∧ (∀ (b : Nat), snp.mirrorAt b = none)) ∧
    ((observationDebugAndPackage11.traceBuf 40).records = ((3^79) : Nat) :: ([5] : List Nat) ∧ observationDebugAndPackage11.ctrFrozen pObs = false ∧ ((observationDebugAndPackage11.regCfg (stackOf (observationDebugAndPackage11.rd64 pObs 124 % 2 ^ 37)) (regionOf (observationDebugAndPackage11.rd64 pObs 124 % 2 ^ 37))).bit 31 = false ∨ (observationDebugAndPackage11.regCfg (stackOf (observationDebugAndPackage11.rd64 pObs 124 % 2 ^ 37)) (regionOf (observationDebugAndPackage11.rd64 pObs 124 % 2 ^ 37))).bits 9 6 ≠ 8 ∨ observationDebugAndPackage11.flag pObs 112 1 = true ∧ 2 ^ (observationDebugAndPackage11.fld pObs 132 4 0 - 4) ≤ observationDebugAndPackage11.rdN pObs 136)) ∧
    ((observationDebugAndPackage12.traceBuf 40).records = ((3^79) : Nat) :: ([5] : List Nat) ∧ observationDebugAndPackage12.ctrFrozen pObs = false ∧ (observationDebugAndPackage12.regCfg (stackOf (observationDebugAndPackage12.rd64 pObs 124 % 2 ^ 37)) (regionOf (observationDebugAndPackage12.rd64 pObs 124 % 2 ^ 37))).bit 31 = true ∧ (observationDebugAndPackage12.regCfg (stackOf (observationDebugAndPackage12.rd64 pObs 124 % 2 ^ 37)) (regionOf (observationDebugAndPackage12.rd64 pObs 124 % 2 ^ 37))).bits 9 6 = 8 ∧ (observationDebugAndPackage12.flag pObs 112 1 = false ∨ observationDebugAndPackage12.rdN pObs 136 < 2 ^ (observationDebugAndPackage12.fld pObs 132 4 0 - 4)) ∧ (∀ (b : Nat), observationDebugAndPackage12.mirrorAt b = none)) ∧
    ((wtg.core 40).wait = some (CoreWait.qrecv 3 4 64) ∧ (wtg.core 40).traced = false ∧ (wtg.core 40).waitSince + 64 * 2 ^ wtg.fld pObs 112 9 5 ≤ wtg.now ∧ wtg.tracing (wtg.cabKey 40) 4 (wtg.core 40).waitSince = true ∧ (wtg.traceBuf 40).lost = 0 ∧ (wtg.traceBuf 40).records.length < 16) ∧
    (((⟨.cobs, 40⟩ : Page).blk = Block.obs ∨ (⟨.cobs, 40⟩ : Page).blk = Block.cobs) ∧ (observationDebugAndPackage13.passes (.bureau : Req) (⟨.cobs, 40⟩ : Page) (if (⟨.cobs, 40⟩ : Page).blk = Block.obs then 100 else 68) = true)) ∧
    (((⟨.obs, 0⟩ : Page).blk = Block.obs ∨ (⟨.obs, 0⟩ : Page).blk = Block.cobs) ∧ (((pw.wrN ⟨.obs, 0⟩ 0x108 5) : State).passes (.bureau : Req) (⟨.obs, 0⟩ : Page) (if (⟨.obs, 0⟩ : Page).blk = Block.obs then 100 else 68) = true)) ∧
    (0x01 = 1) ∧
    (0x22 = 34) ∧
    (pw.tapAllowed 0x03 = false) ∧
    (0x11 = 17 ∧ pw.debugger.unlocked = false) ∧
    (((dbg 5 0) : State).debugger.invalid < 3) ∧
    (3 ≤ observationDebugAndPackage14.debugger.invalid) ∧
    (observationDebugAndPackage15.debugger.nonce ≠ none ∧ observationDebugAndPackage15.debugger.invalid < 3) ∧
    (observationDebugAndPackage14.debugger.nonce = none ∨ 3 ≤ observationDebugAndPackage14.debugger.invalid) ∧
    (((dbg 5 1) : State).debugger.invalid < 2) ∧
    (observationDebugAndPackage15.debugger.invalid = 2) ∧
    (observationDebugAndPackage16.debugger.unlocked = true ∧ observationDebugAndPackage16.isHalted 40 = false ∧ (40 = 288 ∨ 40 < 288 ∧ observationDebugAndPackage16.coreState 40 = 1)) ∧
    (observationDebugAndPackage16.isHalted 288 = false ∧ (288 = 288 ∨ 288 < 288 ∧ observationDebugAndPackage16.coreState 288 = 1)) ∧
    (((ulk false) : State).debugger.unlocked = false) ∧
    (List.find? (fun x => decide (x.fst = 40)) observationDebugAndPackage17.debugger.halted = some ((40, 5) : Nat × Nat)) ∧
    (pw.powered = true ∧ ((tps 115) : List Int).length = 16 ∧ (∃ x, x ∈ ((tps 115) : List Int) ∧ 115 ≤ x)) ∧
    (((tps 105) : List Int).length = 16 ∧ (∀ (x : Int), x ∈ ((tps 105) : List Int) → x < 115) ∧ (∃ x, x ∈ ((tps 105) : List Int) ∧ 105 ≤ x)) ∧
    (((tps 100) : List Int).length = 16 ∧ (∀ (x : Int), x ∈ ((tps 100) : List Int) → x ≤ 100)) ∧
    (((tps 101) : List Int).length = 16 ∧ (∀ (x : Int), x ∈ ((tps 101) : List Int) → x < 105) ∧ (∃ x, x ∈ ((tps 101) : List Int) ∧ 100 < x)) ∧
    (smb.powered = true) ∧
    (0 < 16) ∧
    ((∀ (y : Int), y ∈ smb.boot.temps → y ≤ (40 : Int)) ∧ (40 : Int) ∈ smb.boot.temps) ∧
    (((some true) : Option Bool) ≠ some false) ∧
    (2 ≠ 1 ∨ (none : Option Bool) = some false) :=
  ⟨by and_intros <;> decide +kernel, by and_intros <;> decide +kernel, by and_intros <;> decide +kernel, by and_intros <;> decide +kernel, by and_intros <;> decide +kernel, by and_intros <;> decide +kernel, by and_intros <;> decide +kernel, by and_intros <;> decide +kernel, by and_intros <;> decide +kernel, by and_intros <;> decide +kernel, by and_intros <;> decide +kernel, by and_intros <;> decide +kernel, ⟨by decide +kernel, mirrorAt_none _ (by decide +kernel)⟩, by and_intros <;> decide +kernel, ⟨by decide +kernel, by decide +kernel, by decide +kernel, by decide +kernel, by decide +kernel, mirrorAt_none _ (by decide +kernel)⟩, by and_intros <;> decide +kernel, by and_intros <;> decide +kernel, by and_intros <;> decide +kernel, by and_intros <;> decide +kernel, by and_intros <;> decide +kernel, by and_intros <;> decide +kernel, by and_intros <;> decide +kernel, by and_intros <;> decide +kernel, by and_intros <;> decide +kernel, by and_intros <;> decide +kernel, by and_intros <;> decide +kernel, by and_intros <;> decide +kernel, by and_intros <;> decide +kernel, by and_intros <;> decide +kernel, by and_intros <;> decide +kernel, by and_intros <;> decide +kernel, by and_intros <;> decide +kernel, by and_intros <;> decide +kernel, by and_intros <;> decide +kernel, by and_intros <;> decide +kernel, by and_intros <;> decide +kernel, by and_intros <;> decide +kernel, by and_intros <;> decide +kernel, by and_intros <;> decide +kernel, by and_intros <;> decide +kernel, by and_intros <;> decide +kernel⟩

/-- The hypotheses of the first two clauses of ChannelEnableAndDisable are met, whatever the stamping latency is. -/
theorem witness_ChannelEnableAndDisable_checks :
    State.reset.passes .bureau (chin 3) 0x008 = true ∧ State.reset.chanOn 3 = false ∧ State.reset.partStopped (State.reset.owner (chin 3)) = true ∧
    State.reset.encFailures 3 = [] ∧ State.reset.decFailures 3 = [] ∧
    (State.reset.wrN (chenc 3) 0x040 5).passes .bureau (chin 3) 0x008 = true ∧ (State.reset.wrN (chenc 3) 0x040 5).chanOn 3 = false ∧
    (State.reset.wrN (chenc 3) 0x040 5).partStopped ((State.reset.wrN (chenc 3) 0x040 5).owner (chin 3)) = true ∧
    lowestFailure ((State.reset.wrN (chenc 3) 0x040 5).encFailures 3) = some (0x043, 0) := by
  have lt (s : State) (n : Nat) : s.rxLat n < 65536 := (Config.rxLat _ _ _ _).isLt
  have hm : State.reset.encMin 3 = State.reset.rxLat 3 + 0 + 512 := by
    unfold State.encMin
    congr 2
  have hm' : (State.reset.wrN (chenc 3) 0x040 5).encMin 3 = (State.reset.wrN (chenc 3) 0x040 5).rxLat 3 + 0 + 512 := by
    unfold State.encMin
    congr 2
  have h1 := lt State.reset 3
  refine ⟨by decide +kernel, by decide +kernel, by decide +kernel, ?_, by decide +kernel, by decide +kernel, by decide +kernel, by decide +kernel, ?_⟩
  · have hu : ((List.range 8).filter fun u => (State.reset.unitRegs 3 u).1.bits 2 0 ≠ 0) = [] := by decide +kernel
    have ho : State.reset.ownedBands 3 = [] := by decide +kernel
    have hl : State.reset.fld (chenc 3) 0x040 23 0 = 0 := by decide +kernel
    have hk : State.reset.rd (chenc 3) 0x04C = 0 := by decide +kernel
    have hn : ¬ 16777216 ≤ State.reset.encMin 3 := by omega
    simp only [State.encFailures, hu, ho, hl, hk]
    simp [hn, Word.bits, Word.bit]
  · have hu : ((List.range 8).filter fun u => ((State.reset.wrN (chenc 3) 0x040 5).unitRegs 3 u).1.bits 2 0 ≠ 0) = [] := by decide +kernel
    have ho : (State.reset.wrN (chenc 3) 0x040 5).ownedBands 3 = [] := by decide +kernel
    have hl : (State.reset.wrN (chenc 3) 0x040 5).fld (chenc 3) 0x040 23 0 = 5 := by decide +kernel
    have hk : (State.reset.wrN (chenc 3) 0x040 5).rd (chenc 3) 0x04C = 0 := by decide +kernel
    have hn : 5 < (State.reset.wrN (chenc 3) 0x040 5).encMin 3 := by omega
    simp only [State.encFailures, hu, ho, hl, hk]
    simp [hn, Word.bits, Word.bit, lowestFailure]

/-- The hypotheses of the statements about steps are met. -/
theorem witness_StepRunsTheFrontCommand : State.reset.pending = [] := rfl
theorem witness_StepsKeepTheMemoryForm : State.reset.memWf = true ∧ ∃ t, step State.reset = .next t := ⟨by decide, _, rfl⟩

end Sys2Proof.Tests
end

/-! # Device time (02_time.md) and the receive link control

The statements of the family of 02_time.md. First the reading rules that all of them share: a register read after a write of another offset, of any
page; the bits of a word; what a fold keeps; and how a command that passes the gate completes. -/

namespace Sys2Proof.Machine

/-! ## Reads after writes -/

section
variable (s : State) {p q : Page} {o o' : Nat}

/-- A write leaves every register at another offset, whatever the two pages are. -/
@[simp] theorem rd_wr_ne (w : Word) (h : o' % 4096 ≠ o % 4096) : (s.wr p o w).rd q o' = s.rd q o' := by
  have hp := Page.key_mod p
  have hq := Page.key_mod q
  exact SMap.get_set_other regDefault s.regs w (by omega)

@[simp] theorem rd_wrN_ne (v : Nat) (h : o' % 4096 ≠ o % 4096) : (s.wrN p o v).rd q o' = s.rd q o' := rd_wr_ne s _ h

@[simp] theorem rd_setFld_ne (hi lo v : Nat) (h : o' % 4096 ≠ o % 4096) : (s.setFld p o hi lo v).rd q o' = s.rd q o' := rd_wr_ne s _ h

@[simp] theorem rd_setFlag_ne (i : Nat) (b : Bool) (h : o' % 4096 ≠ o % 4096) : (s.setFlag p o i b).rd q o' = s.rd q o' := rd_wr_ne s _ h

@[simp] theorem rd_raise_ne (i : Nat) (h : o' % 4096 ≠ 0x010 % 4096) : (s.raise p i).rd q o' = s.rd q o' := rd_wr_ne s _ h

@[simp] theorem rd_incCtr_ne (h : o' % 4096 ≠ o % 4096) : (s.incCtr p o).rd q o' = s.rd q o' := rd_wr_ne s _ h

@[simp] theorem rd_wr64_ne (v : Nat) (h : o' % 4096 ≠ o % 4096) (h4 : o' % 4096 ≠ (o + 4) % 4096) : (s.wr64 p o v).rd q o' = s.rd q o' :=
  (rd_wrN_ne _ _ h4).trans (rd_wrN_ne _ _ h)

/-- A wide register just written reads as the low 64 bits of the value. -/
theorem rd64_wr64_same (v : Nat) : (s.wr64 p o v).rd64 p o = v % 2 ^ 64 := by
  have hlo : (s.wr64 p o v).rdN p o = v % 4294967296 :=
    (congrArg BitVec.toNat (rd_wrN_ne _ _ (by omega))).trans (rdN_wrN_same s p o v)
  have hhi : (s.wr64 p o v).rdN p (o + 4) = v / 4294967296 % 4294967296 := rdN_wrN_same _ p (o + 4) _
  unfold State.rd64
  rw [hlo, hhi]
  omega

variable {s} {t : State}

/-- Where a register's word is the same, so are its fields, its bits and its number. -/
theorem fld_of_rd (h : t.rd p o = s.rd p o) (hi lo : Nat) : t.fld p o hi lo = s.fld p o hi lo := congrArg (Word.bits · hi lo) h

theorem flag_of_rd (h : t.rd p o = s.rd p o) (i : Nat) : t.flag p o i = s.flag p o i := congrArg (Word.bit · i) h

theorem rdN_of_rd (h : t.rd p o = s.rd p o) : t.rdN p o = s.rdN p o := congrArg BitVec.toNat h

theorem rd64_of_rd (h : t.rd p o = s.rd p o) (h4 : t.rd p (o + 4) = s.rd p (o + 4)) : t.rd64 p o = s.rd64 p o := by
  unfold State.rd64
  rw [rdN_of_rd h, rdN_of_rd h4]

end

/-! ## Bits and fields of one register -/

section
variable (s : State) (p : Page) (o : Nat)

/-- A bit set to one reads as one. -/
theorem bit_setBits_one (w : Word) {i : Nat} (h : i < 32) : (w.setBits i i 1).bit i = true := bit_setBits_same w i true h

/-- A bit set to zero reads as zero. -/
theorem bit_setBits_zero (w : Word) {i : Nat} (h : i < 32) : (w.setBits i i 0).bit i = false := bit_setBits_same w i false h

theorem flag_setFld_other (hi lo v : Nat) {i : Nat} (h : i < lo ∨ hi < i) : (s.setFld p o hi lo v).flag p o i = s.flag p o i := by
  simp [State.flag, State.setFld, bit_setBits_other _ _ _ _ _ h]

theorem fld_setFld_other (hi lo v : Nat) {a b : Nat} (h : a < lo ∨ hi < b) : (s.setFld p o hi lo v).fld p o a b = s.fld p o a b := by
  simp [State.fld, State.setFld, bits_setBits_other _ _ _ _ _ _ h]

theorem flag_setFlag_other {i j : Nat} (b : Bool) (h : j ≠ i) : (s.setFlag p o i b).flag p o j = s.flag p o j :=
  flag_setFld_other s p o i i _ (by omega)

/-- A cause that is raised joins those that stand. -/
theorem flag_raise {i j : Nat} (hi : i < 32) : (s.raise p i).flag p 0x010 j = (decide (j = i) || s.flag p 0x010 j) := by
  by_cases h : j = i
  · subst h
    simp [flag_raise_same s p j hi]
  · rw [decide_eq_false h, Bool.false_or]
    exact flag_setFlag_other s p 0x010 true h

end

/-! ## Words as numbers -/

/-- A field of a word, as a quotient and a remainder. -/
theorem bits_eq_div_mod (w : Word) {hi lo : Nat} (h : hi < 32) : w.bits hi lo = w.toNat / 2 ^ lo % 2 ^ (hi + 1 - lo) := by
  have hle : 2 ^ (hi + 1 - lo) ≤ 2 ^ 32 := Nat.pow_le_pow_right (by decide) (by omega)
  have hones : (Word.ones (hi + 1 - lo)).toNat = 2 ^ (hi + 1 - lo) - 1 := by
    have := Nat.two_pow_pos (hi + 1 - lo)
    exact Nat.mod_eq_of_lt (by omega)
  unfold Word.bits
  rw [BitVec.toNat_and, hones, Nat.and_two_pow_sub_one_eq_mod, BitVec.toNat_ushiftRight, Nat.shiftRight_eq_div_pow]

/-- A bit of a word, as a quotient and a remainder. -/
theorem bit_eq_div_mod (w : Word) (i : Nat) : w.bit i = decide (w.toNat / 2 ^ i % 2 = 1) := Nat.testBit_eq_decide_div_mod_eq

/-- A code of w bits is below 2^w. -/
theorem toBits_lt (x : Int) (w : Nat) : toBits x w < 2 ^ w := by
  have h : (0 : Int) < 2 ^ w := Int.pow_pos (by decide)
  exact (Int.toNat_lt (Int.emod_nonneg x (Int.ne_of_gt h))).mpr (by simpa using Int.emod_lt_of_pos x h)

/-- A field is below its power of two. -/
theorem bits_mod_self (w : Word) {hi lo : Nat} (h : hi < 32) : w.bits hi lo % 2 ^ (hi + 1 - lo) = w.bits hi lo := by
  rw [bits_eq_div_mod w h, Nat.mod_mod]

/-- A bit as a field of one. -/
theorem bits_of_bit (w : Word) {i : Nat} (h : i < 32) : w.bits i i = b2n (w.bit i) := by
  rw [bits_eq_div_mod w h, bit_eq_div_mod, Nat.add_sub_cancel_left]
  unfold b2n
  split <;> simp_all

/-! ## Folds -/

/-- What each step of a fold over a list keeps, the fold keeps. -/
theorem foldl_keeps {σ α β : Type} (obs : σ → β) (g : σ → α → σ) (l : List α) (h : ∀ x ∈ l, ∀ s, obs (g s x) = obs s) (s : σ) :
    obs (l.foldl g s) = obs s := by
  induction l generalizing s with
  | nil => rfl
  | cons x l ih =>
    rw [List.foldl_cons, ih fun y hy => h y (List.mem_cons_of_mem _ hy), h x (List.mem_cons_self ..)]

/-- What the fold's step for one member of the list establishes, under a condition that every step keeps, holds after the fold if every step keeps it. -/
theorem foldl_establishes {σ α : Type} {g : σ → α → σ} {I P : σ → Prop} {l : List α} {x : α} (hx : x ∈ l) (establish : ∀ s, I s → P (g s x))
    (keepI : ∀ s y, I s → I (g s y)) (keepP : ∀ s y, P s → P (g s y)) {s : σ} (h : I s) : P (l.foldl g s) := by
  induction l generalizing s with
  | nil => exact absurd hx (List.not_mem_nil)
  | cons y l ih =>
    obtain rfl | hx := List.mem_cons.mp hx
    · exact List.foldlRecOn l g (establish s h) fun u hu z _ => keepP u z hu
    · exact ih hx (keepI s y h)

/-! ## Completing -/

section
variable {c : Instr} {s : State} {P : State → Prop} {r : Req} {p : Page}

theorem completes_done {t : State} (h : exec c s = done t) (hP : P (t.ans .none)) : Completes c s P := ⟨_, h, hP⟩

/-- A register write that passes the gate completes with its own effect. -/
theorem completes_gated {off : Nat} {k : State → State} (h : exec c s = gated r p off s k) (hp : s.passes r p off = true)
    (hP : P ((k s).ans .none)) : Completes c s P := ⟨_, h.trans (gated_of_passes s k hp), hP⟩

/-- A register read that reaches its register completes with its own effect. -/
theorem completes_gatedRead {k : State → Nat × State} (h : exec c s = gatedRead r p s k) (hr : s.reads r p = true)
    (hP : P ((k s).2.ans (.data (k s).1))) : Completes c s P := ⟨_, h.trans (gatedRead_of_reads s k hr), hP⟩

/-- An error of a page is recorded, also where what came before it left the page's PG_ERR_INFO as it was. -/
theorem recorded_err_of_rd {t : State} {cls code loc : Nat} (h : t.rd p 0x020 = s.rd p 0x020) (hc : cls < 900) :
    Recorded s (t.err p cls code loc) p cls code loc := by
  have ht := State.err_recorded t p cls code loc hc
  unfold Recorded at ht ⊢
  rw [ht, flag_of_rd h, h]

end

/-- A plain write of a register without reserved encodings, on a page whose PG_ERR_INFO keeps nothing beside it. -/
theorem plainWrite_of_row {p : Page} {off : Nat} {row : RegRow} (w : Word) (s : State) (hrow : findRow p.blk off = some row) (hc : row.clears = false)
    (hr : hasReserved w row.fields = false) (hb : p.blk ≠ .d2d ∧ p.blk ≠ .spad) :
    plainWrite p off w s = s.wr p off (writeFields (s.rd p off) w row.fields) := by
  simp [plainWrite, hrow, hc, hr, hb.1, hb.2]

/-! ## A step -/

/-- Settles O57: both clauses are how `step` reads the queue. -/
theorem stepRunsTheFrontCommand : Obligations.StepRunsTheFrontCommand := by
  unfold Obligations.StepRunsTheFrontCommand
  refine ⟨fun _ _ _ => rfl, fun s h => ?_⟩
  unfold step
  rw [h]

end Sys2Proof.Machine

/-! ## Starting device time (R36 to R38, R40, Table 2.2) -/

namespace Sys2Proof.Machine

/-! ### A write of TIME.CTRL -/

section
variable {w : Word} {s : State}

/-- R38: START beside ARM_SYSREF or DISARM is a mixed write. -/
theorem ctrlMixed_of_start (h0 : w.bit 0 = true) (h : w.bit 1 = true ∨ w.bit 2 = true) : ctrlMixed w = true := by
  unfold ctrlMixed
  rw [h0]
  revert h
  cases w.bit 1 <;> cases w.bit 2 <;> decide

/-- R38, R40: a write that mixes the three bits, or asks for a start that is not allowed, is refused. -/
theorem timeCtrlWrite_refused (h : ctrlMixed w = true ∨ ((w.bit 0 || w.bit 1) = true ∧ s.startAllowed = false)) :
    timeCtrlWrite w s = s.refuse pTime 0x050 := by
  unfold timeCtrlWrite
  obtain h | ⟨hb, ha⟩ := h
  · simp [h]
  · rw [hb, ha]
    simp

/-- R36: an accepted START takes TIME.SET, for the next CLK_TB edge. -/
theorem timeCtrlWrite_start_tb (h0 : w.bit 0 = true) (h1 : w.bit 1 = false) (h2 : w.bit 2 = false) (ha : s.startAllowed = true) :
    (timeCtrlWrite w s).tb = { s.tb with startAt := some s.timeSet, t0 := s.timeSet } := by
  simp [timeCtrlWrite, ctrlMixed, b2n, h0, h1, h2, ha]

/-- R37: an accepted ARM_SYSREF arms device time with SKIP and TIME.SET, and clears the edge count. -/
theorem timeCtrlWrite_arm (h0 : w.bit 0 = false) (h1 : w.bit 1 = true) (h2 : w.bit 2 = false) (ha : s.startAllowed = true) :
    (timeCtrlWrite w s).tb = { s.tb with state := .armed, skipLeft := w.bits 15 8, loadAt := none, t0 := s.timeSet } ∧
      (timeCtrlWrite w s).rdN pTime 0x06C = 0 := by
  simp [timeCtrlWrite, ctrlMixed, b2n, h0, h1, h2, ha, State.rdN]

/-- R38: DISARM before the start edge takes device time back to HELD. -/
theorem timeCtrlWrite_disarm_tb (h0 : w.bit 0 = false) (h1 : w.bit 1 = false) (h2 : w.bit 2 = true) (ha : s.tb.state = .armed ∧ s.tb.loadAt = none) :
    (timeCtrlWrite w s).tb = { s.tb with state := .held } := by
  simp [timeCtrlWrite, ctrlMixed, b2n, h0, h1, h2, ha.1, ha.2]

/-- R38: any other DISARM has no effect. -/
theorem timeCtrlWrite_disarm_idle (h0 : w.bit 0 = false) (h1 : w.bit 1 = false) (h2 : w.bit 2 = true) (ha : ¬(s.tb.state = .armed ∧ s.tb.loadAt = none)) :
    timeCtrlWrite w s = s := by
  simp_all [timeCtrlWrite, ctrlMixed, b2n]

end

section
variable {r : Req} {w : Word} {s : State} (hp : s.passes r pTime 0x050 = true)
include hp

/-- A refused write of TIME.CTRL leaves device time and records code 0x013. -/
theorem completes_timeCtrl_refused {c : Instr} {w' : Word} (hc : exec c s = gated r pTime 0x050 s (timeCtrlWrite w'))
    (h : ctrlMixed w' = true ∨ ((w'.bit 0 || w'.bit 1) = true ∧ s.startAllowed = false)) :
    Completes c s fun t => t.tb = s.tb ∧ Recorded s t pTime 5 0x013 0x050 := by
  refine completes_gated hc hp ?_
  rw [timeCtrlWrite_refused h]
  exact ⟨by simp, State.refuse_recorded s pTime 0x050⟩

theorem completes_start (h1 : w.bit 1 = false) (h2 : w.bit 2 = false) (ha : s.startAllowed = true) :
    Completes (.start r w) s fun t => t.tb = { s.tb with startAt := some s.timeSet, t0 := s.timeSet } :=
  completes_gated rfl hp (timeCtrlWrite_start_tb (bit_setBits_one w (by decide))
    ((bit_setBits_other w 0 0 1 1 (by decide)).trans h1) ((bit_setBits_other w 0 0 1 2 (by decide)).trans h2) ha)

theorem completes_armSysref (h0 : w.bit 0 = false) (h2 : w.bit 2 = false) (ha : s.startAllowed = true) :
    Completes (.armSysref r w) s fun t =>
      t.tb = { s.tb with state := .armed, skipLeft := w.bits 15 8, loadAt := none, t0 := s.timeSet } ∧ t.rdN pTime 0x06C = 0 := by
  have hw := timeCtrlWrite_arm (w := w.setBits 1 1 1) ((bit_setBits_other w 1 1 1 0 (by decide)).trans h0)
    (bit_setBits_one w (by decide)) ((bit_setBits_other w 1 1 1 2 (by decide)).trans h2) ha
  rw [bits_setBits_other w 1 1 1 15 8 (by decide)] at hw
  exact completes_gated rfl hp hw

theorem completes_disarm (h0 : w.bit 0 = false) (h1 : w.bit 1 = false) :
    Completes (.disarm r w) s fun t =>
      (t.tb = if s.tb.state = .armed ∧ s.tb.loadAt = none then { s.tb with state := .held } else s.tb) ∧
      (¬(s.tb.state = .armed ∧ s.tb.loadAt = none) → t.rd pTime 0x050 = s.rd pTime 0x050) := by
  have h0' := (bit_setBits_other w 2 2 1 0 (by decide)).trans h0
  have h1' := (bit_setBits_other w 2 2 1 1 (by decide)).trans h1
  have h2' : (w.setBits 2 2 1).bit 2 = true := bit_setBits_one w (by decide)
  refine completes_gated rfl hp ?_
  by_cases ha : s.tb.state = .armed ∧ s.tb.loadAt = none
  · exact ⟨(timeCtrlWrite_disarm_tb h0' h1' h2' ha).trans (if_pos ha).symm, fun h => absurd ha h⟩
  · rw [timeCtrlWrite_disarm_idle h0' h1' h2' ha, if_neg ha]
    exact ⟨rfl, fun _ => rfl⟩

end

/-! ### The load and the CLK_TB edge -/

section
variable (s : State)

@[simp] theorem enterRunning_tb (v : Nat) :
    (s.enterRunning v).tb = { s.tb with state := .running, count := v, startAt := none, loadAt := none } := by
  simp [State.enterRunning]

/-- ω, the low four bits of the count that is loaded. -/
theorem enterRunning_omega (v : Nat) : (s.enterRunning v).fld pTime 0x054 3 0 = v % 16 := by
  have h : (s.enterRunning v).rd pTime 0x054 = _ := rd_raise_ne _ 0 (by decide)
  rw [fld_of_rd h, fld_setFld_same _ _ _ _ _ _ (by decide) (by decide)]
  omega

theorem enterRunning_setDone (v : Nat) : (s.enterRunning v).flag pTime 0x010 0 = true := flag_raise_same _ pTime 0 (by decide)

@[simp] theorem settleTimers_tb : s.settleTimers.tb = s.tb :=
  tb_of_except (State.settleTimers_except (W := [.timers, .regs .time0, .regs .time1, .regs .chtmr]) s (by simp) (by simp) (by simp) (by simp)) (by simp)

theorem countEdge_held {v : Nat} (h : s.tb.state = .held) (hv : s.tb.startAt = some v) :
    s.countEdge = { s with tb := { s.tb with phase := (s.tb.phase + 1) % 8 } }.enterRunning v := by
  simp [State.countEdge, h, hv]

theorem countEdge_running_tb (h : s.tb.state = .running) :
    s.countEdge.tb = { s.tb with count := s.tb.count + 16, phase := (s.tb.phase + 1) % 8 } := by
  simp [State.countEdge, h]

/-- After the count, an edge changes only what the timers hold. -/
theorem clockEdge_eq_countEdge : (clockEdge s).except [.timers] = s.settleTimers.countEdge.except [.timers] := by
  unfold clockEdge
  exact except_foldl _ (fun u x => by simp) _ _

theorem clockEdge_tb : (clockEdge s).tb = s.settleTimers.countEdge.tb := tb_of_except (clockEdge_eq_countEdge s) (by simp)

theorem clockEdge_rd (p : Page) (o : Nat) : (clockEdge s).rd p o = s.settleTimers.countEdge.rd p o :=
  rd_of_except (clockEdge_eq_countEdge s) p o (by simp)

/-- R36: an accepted START takes effect at the next CLK_TB edge. -/
theorem clockEdge_held {v : Nat} (h : s.tb.state = .held) (hv : s.tb.startAt = some v) :
    (clockEdge s).tb.state = .running ∧ (clockEdge s).tb.count = v ∧ (clockEdge s).fld pTime 0x054 3 0 = v % 16 := by
  rw [clockEdge_tb, fld_of_rd (clockEdge_rd s pTime 0x054), countEdge_held s.settleTimers (by simpa using h) (by simpa using hv)]
  exact ⟨by simp, by simp, enterRunning_omega _ v⟩

/-- R29: device time that runs goes on by 16 fu at each CLK_TB edge. -/
theorem clockEdge_running (h : s.tb.state = .running) :
    (clockEdge s).tb = { s.tb with count := s.tb.count + 16, phase := (s.tb.phase + 1) % 8 } := by
  rw [clockEdge_tb, countEdge_running_tb _ (by simpa using h), settleTimers_tb]

/-- Table 2.2, steps 4 and 5: the captured start edge is loaded. -/
theorem completes_deviceTimeLoad {v : Nat} (h : s.tb.state = .armed) (hv : s.tb.loadAt = some v) :
    Completes .deviceTimeLoad s fun t => t.tb.state = .running ∧ t.tb.count = v ∧ t.fld pTime 0x054 3 0 = v % 16 ∧ t.flag pTime 0x010 0 = true := by
  have hx : exec .deviceTimeLoad s = done (s.enterRunning v) := by
    show execDeviceTimeLoad s = _
    simp [execDeviceTimeLoad, h, hv]
  refine completes_done hx ?_
  rw [fld_ans, flag_ans]
  exact ⟨by simp, by simp, enterRunning_omega s v, enterRunning_setDone s v⟩

end

/-- Settles O1: each clause is the rule of its command or edge; a refused START or ARM_SYSREF is the refusal of TIME.CTRL. -/
theorem deviceTimeStarts : Obligations.DeviceTimeStarts := by
  unfold Obligations.DeviceTimeStarts
  refine ⟨fun r w s hp h1 h2 => ⟨completes_start hp h1 h2, fun ha => ?_⟩, fun r w s hp h0 h2 => ⟨fun ha => ?_, fun ha => ?_⟩,
    fun r w s hp h0 h1 => completes_disarm hp h0 h1, fun r w s hp h => ?_, fun s v => completes_deviceTimeLoad s, fun s v => clockEdge_held s,
    clockEdge_running⟩
  · exact completes_timeCtrl_refused hp rfl (.inr ⟨by simp [bit_setBits_one], ha⟩)
  · obtain ⟨t, hx, htb, hcount⟩ := completes_armSysref hp h0 h2 ha
    exact ⟨t, hx, by rw [htb], hcount⟩
  · exact completes_timeCtrl_refused hp rfl (.inr ⟨by simp [bit_setBits_one], ha⟩)
  · refine completes_timeCtrl_refused hp rfl (.inl ?_)
    rw [← bit_setBits_other w 0 0 1 1 (by decide), ← bit_setBits_other w 0 0 1 2 (by decide)] at h
    exact ctrlMixed_of_start (bit_setBits_one w (by decide)) h

end Sys2Proof.Machine

/-! ## Capture queues (R50 to R53) -/

namespace Sys2Proof.Machine

/-! ### Places in the queue -/

theorem length_placeCapture (c : Capture) (q : List Capture) : (placeCapture c q).length = q.length + 1 := by
  induction q with
  | nil => rfl
  | cons d q ih =>
    unfold placeCapture
    split <;> simp [ih]

/-- R50: a capture goes before the first one of its edge that comes later by time or, at one time, by source code. -/
theorem placeCapture_before {c d : Capture} {l : List Capture} (he : d.edge = c.edge)
    (h : c.time < d.time ∨ (c.time = d.time ∧ c.code < d.code)) : placeCapture c (d :: l) = c :: d :: l := by
  simp [placeCapture, he, h]

/-- R50: a capture goes behind one of an earlier edge, and behind one of its edge that does not come later. -/
theorem placeCapture_behind {c d : Capture} {l : List Capture} (h : d.edge = c.edge → d.time < c.time ∨ (d.time = c.time ∧ d.code ≤ c.code)) :
    placeCapture c (d :: l) = d :: placeCapture c l := by
  have : ¬(d.edge = c.edge ∧ (c.time < d.time ∨ (c.time = d.time ∧ c.code < d.code))) := fun ⟨he, hlt⟩ => by
    have := h he
    omega
  simp [placeCapture, this]

/-- R50: so it passes a whole stretch of such captures. -/
theorem placeCapture_append {c : Capture} {q : List Capture} (l : List Capture)
    (h : ∀ d ∈ q, d.edge = c.edge → d.time < c.time ∨ (d.time = c.time ∧ d.code ≤ c.code)) :
    placeCapture c (q ++ l) = q ++ placeCapture c l := by
  induction q with
  | nil => rfl
  | cons d q ih =>
    rw [List.cons_append, placeCapture_behind (h d (List.mem_cons_self ..)), ih fun x hx => h x (List.mem_cons_of_mem _ hx), List.cons_append]

/-! ### What a capture changes -/

section
variable (s : State) (p q : Page) (i o : Nat)

@[simp] theorem timer_setTimer_same (x : TimerSt) : (s.setTimer p i x).timer p i = x := SMap.get_set_same _ _ _ _

@[simp] theorem rd_setTimer (x : TimerSt) : (s.setTimer p i x).rd q o = s.rd q o := rfl

/-- A timer is the same where the table of the timers is. -/
theorem timer_of_timers {s t : State} (h : t.timers = s.timers) (p : Page) (i : Nat) : t.timer p i = s.timer p i :=
  congrArg (SMap.get (fun _ => TimerSt.reset) · (p.key + 0x100 + 0x40 * i)) h

theorem captureQ_of_timers {s t : State} (h : t.timers = s.timers) (p : Page) (i : Nat) : t.captureQ p i = s.captureQ p i :=
  congrArg TimerSt.queue (timer_of_timers h p i)

@[simp] theorem captureQ_setCaptureQ_same (l : List Capture) : (s.setCaptureQ p i l).captureQ p i = l :=
  congrArg TimerSt.queue (timer_setTimer_same s p i _)

theorem capture_timers (time code : Nat) :
    (s.capture p i time code).timers = (s.setCaptureQ p i ((placeCapture ⟨time, code, s.tb.count⟩ (s.captureQ p i)).take 4)).timers := by
  unfold State.capture
  dsimp only
  split
  · split <;> simp
  · simp

/-- R50, R51: the queue takes the capture at its place and holds at most four. -/
theorem capture_captureQ (time code : Nat) :
    (s.capture p i time code).captureQ p i = (placeCapture ⟨time, code, s.tb.count⟩ (s.captureQ p i)).take 4 :=
  (captureQ_of_timers (capture_timers s p i time code) p i).trans (captureQ_setCaptureQ_same s p i _)

/-- R51: with four entries in the queue, the capture ends with CAP_OVF in the timer and its cause. -/
theorem capture_full (time code : Nat) (h : 4 ≤ (s.captureQ p i).length) :
    s.capture p i time code =
      ((s.setCaptureQ p i ((placeCapture ⟨time, code, s.tb.count⟩ (s.captureQ p i)).take 4)).setFlag p (0x110 + 0x40 * i) 2 true).raise
        (capCauses p).1 (capCauses p).2.2 := by
  have hl : ¬(placeCapture ⟨time, code, s.tb.count⟩ (s.captureQ p i)).length ≤ 4 := by rw [length_placeCapture]; omega
  unfold State.capture
  dsimp only
  rw [if_neg hl]

/-- A capture leaves the other blocks' registers but PG_IRQ_RAW. -/
theorem capture_rd (time code : Nat) (hb : q.blk ≠ p.blk) (ho : o % 4096 ≠ 0x010) : (s.capture p i time code).rd q o = s.rd q o := by
  have hr : ∀ (t : State) (g : Page) (j : Nat), (t.raise g j).rd q o = t.rd q o := fun t g j => rd_raise_ne t j (by simpa using ho)
  unfold State.capture
  dsimp only
  split
  · split
    · exact hr _ _ _
    · rfl
  · rw [hr]
    exact rd_wr_blk _ _ _ _ hb

/-- What every capture of one of the device's timers leaves of the TIME page: all but PG_IRQ_RAW. -/
theorem offerCapture_rd_pTime (src time code : Nat) (ho : o % 4096 ≠ 0x010) : (s.offerCapture src time code).rd pTime o = s.rd pTime o := by
  refine foldl_keeps (fun t => t.rd pTime o) _ allTimers (fun x hx t => ?_) s
  have hb : pTime.blk ≠ x.1.blk := by obtain hb | hb := allTimers_blk x hx <;> simp [hb]
  split
  · exact capture_rd t x.1 pTime x.2 o time code hb ho
  · rfl

@[simp] theorem offerCapture_tb (src time code : Nat) : (s.offerCapture src time code).tb = s.tb :=
  tb_of_except (State.offerCapture_except (W := [.timers, .regs .time0, .regs .time1, .regs .chtmr]) s src time code (by simp) (by simp) (by simp) (by simp))
    (by simp)

end

/-- A page with timers has no more than sixteen. -/
theorem lt_of_isTimer {p : Page} {i : Nat} (h : isTimer p i = true) : i < 16 := by
  simp only [isTimer, Bool.or_eq_true, Bool.and_eq_true, decide_eq_true_eq] at h
  omega

/-! ### A read of TMR_CAP_TLO -/

section
variable (s : State) (r : Req) (p : Page) (off v : Nat)

@[simp] theorem latched_latch_same : (s.latch r p off v).latched r p off = v := SMap.get_set_same _ _ _ _

theorem latched_of_latches {s t : State} (h : t.latches = s.latches) (r : Req) (p : Page) (off : Nat) : t.latched r p off = s.latched r p off :=
  congrArg (SMap.get (fun _ => 0) · (latchKey r p off)) h

/-- R53: a latch that is taken leaves every other. -/
theorem latches_latch_other {k : Nat} (h : k ≠ latchKey r p off) :
    SMap.get (fun _ => 0) (s.latch r p off v).latches k = SMap.get (fun _ => 0) s.latches k := SMap.get_set_other _ _ _ h

end

section
variable {s : State} {r : Req} {p : Page} {i : Nat} (hi : isTimer p i = true) (hr : s.reads r p = true)
include hi hr

omit hr in
theorem exec_capturePop : exec (.capturePop r p i) s = gatedRead r p s (capturePop r p i) :=
  if_pos hi

/-- R52, R53: the oldest capture leaves the queue, and its high half is latched for the requester alone. -/
theorem completes_capturePop_cons {c : Capture} {q : List Capture} (hq : s.captureQ p i = c :: q) :
    Completes (.capturePop r p i) s fun t => t.resp = .data (c.time % 2 ^ 32) ∧ t.captureQ p i = q ∧
      t.latched r p (0x118 + 0x40 * i) = c.time / 2 ^ 32 ∧ t.rdN p (0x120 + 0x40 * i) = 2 ^ 31 + c.code % 256 ∧
      ∀ k, k ≠ latchKey r p (0x118 + 0x40 * i) → SMap.get (fun _ => 0) t.latches k = SMap.get (fun _ => 0) s.latches k := by
  refine completes_gatedRead (exec_capturePop hi) hr ?_
  simp only [capturePop, hq]
  refine ⟨rfl, ?_, latched_latch_same _ _ _ _ _, ?_, fun k hk => latches_latch_other _ _ _ _ _ hk⟩
  · exact captureQ_setCaptureQ_same s p i q
  · rw [rdN_ans, rdN_wrN_same]
    omega

/-- R52: a read of an empty queue answers zero; VALID is 0, and the latch and the code are zero. -/
theorem completes_capturePop_nil (hq : s.captureQ p i = []) :
    Completes (.capturePop r p i) s fun t => t.resp = .data 0 ∧ t.captureQ p i = [] ∧ t.latched r p (0x118 + 0x40 * i) = 0 ∧
      t.rd p (0x120 + 0x40 * i) = 0 := by
  refine completes_gatedRead (exec_capturePop hi) hr ?_
  simp only [capturePop, hq]
  exact ⟨rfl, hq, (latched_of_latches (by simp) r p _).trans (latched_latch_same s r p (0x118 + 0x40 * i) 0), rd_wr_same _ _ _ _⟩

end

/-- Settles O6: the place of a capture by induction on the queue, the limit of four by `capture_captureQ`, and the two reads of TMR_CAP_TLO. -/
theorem captureQueuesHoldFour : Obligations.CaptureQueuesHoldFour := by
  unfold Obligations.CaptureQueuesHoldFour
  refine ⟨fun p i time code s _ h => ?_, fun p i time code s hi h => ⟨capture_captureQ s p i time code, ?_, ?_⟩,
    fun c q h => ⟨?_, fun d l he hlt => ?_⟩,
    fun r p i c q s hi hr hq => completes_capturePop_cons hi hr hq, fun r p i s hi hr hq => ?_⟩
  · rw [capture_captureQ, List.take_of_length_le]
    rw [length_placeCapture]
    omega
  · have hi := lt_of_isTimer hi
    rw [capture_full s p i time code h, flag_of_rd (rd_raise_ne _ _ (by omega)), flag_setFlag_same _ _ _ _ _ (by decide)]
  · rw [capture_full s p i time code h]
    refine flag_raise_same _ _ _ ?_
    unfold capCauses
    split <;> simp
  · simpa [placeCapture] using placeCapture_append [] h
  · rw [placeCapture_append _ h, placeCapture_before he hlt]
  · obtain ⟨t, hx, hresp, hq, -, hinfo⟩ := completes_capturePop_nil hi hr hq
    exact ⟨t, hx, hresp, hq, by simp [State.flag, hinfo, Word.bit]⟩

end Sys2Proof.Machine

/-! ## The root PLL and SYSREF (R26, R27, R37, R39) -/

namespace Sys2Proof.Machine

/-! ### The root PLL -/

section
variable {s : State}

/-- R26: holdover is entered: the flags, the cause and the count; device time is not touched. -/
theorem completes_holdoverEntry (h : s.flag pTime 0x070 1 = false) :
    Completes .holdoverEntry s fun t => t.flag pTime 0x070 1 = true ∧ t.flag pTime 0x070 0 = false ∧ t.flag pTime 0x010 2 = true ∧
      t.fld pTime 0x070 31 16 = min (s.fld pTime 0x070 31 16 + 1) 65535 ∧ t.tb = s.tb := by
  have hx : exec .holdoverEntry s = done ((s.wrN pTime 0x070 (2 + min (s.fld pTime 0x070 31 16 + 1) 65535 * 65536)).raise pTime 2) :=
    if_neg (by simp [h])
  refine completes_done hx ?_
  generalize hn : min (s.fld pTime 0x070 31 16 + 1) 65535 = n
  have hw : ((s.wrN pTime 0x070 (2 + n * 65536)).raise pTime 2).rd pTime 0x070 = BitVec.ofNat 32 (2 + n * 65536) :=
    (rd_raise_ne _ 2 (by decide)).trans (rd_wr_same s pTime 0x070 _)
  rw [flag_ans, flag_ans, flag_ans, fld_ans, flag_raise_same _ _ _ (by decide)]
  unfold State.flag State.fld
  rw [hw, bit_eq_div_mod, bit_eq_div_mod, bits_eq_div_mod _ (by decide), BitVec.toNat_ofNat]
  exact ⟨decide_eq_true (by omega), decide_eq_false (by omega), rfl, by omega, by simp⟩

/-- R27: the PLL relocks. -/
theorem completes_pllRelock (h : s.flag pTime 0x070 1 = true) :
    Completes .pllRelock s fun t => t.flag pTime 0x070 1 = false ∧ t.flag pTime 0x070 0 = true ∧ t.flag pTime 0x010 3 = true ∧
      t.fld pTime 0x070 31 16 = s.fld pTime 0x070 31 16 ∧ t.tb = s.tb := by
  refine completes_done (t := ((s.setFlag pTime 0x070 1 false).setFlag pTime 0x070 0 true).raise pTime 3) (if_pos h) ?_
  have hw : (((s.setFlag pTime 0x070 1 false).setFlag pTime 0x070 0 true).raise pTime 3).rd pTime 0x070 =
      ((s.setFlag pTime 0x070 1 false).setFlag pTime 0x070 0 true).rd pTime 0x070 := rd_raise_ne _ 3 (by decide)
  rw [flag_ans, flag_ans, flag_ans, fld_ans, flag_raise_same _ _ _ (by decide), flag_of_rd hw, flag_of_rd hw, fld_of_rd hw]
  refine ⟨?_, flag_setFlag_same _ _ _ _ _ (by decide), rfl, ?_, by simp⟩
  · rw [flag_setFlag_other _ _ _ _ (by decide), flag_setFlag_same _ _ _ _ _ (by decide)]
  · exact (fld_setFld_other _ _ _ _ _ _ (by decide)).trans (fld_setFld_other _ _ _ _ _ _ (by decide))

end

/-! ### A rising SYSREF edge -/

section
variable {s : State} (phi : Nat)

@[simp] theorem State.wr64_tb (s : State) (p : Page) (o v : Nat) : (s.wr64 p o v).tb = s.tb := by simp [State.wr64]

@[simp] theorem rd_with_tb (s : State) (x : TimeBase) (p : Page) (o : Nat) : State.rd { s with tb := x } p o = s.rd p o := rfl

theorem sysrefEdge_held (h : s.tb.state = .held) : sysrefEdge phi s = s := by
  simp [sysrefEdge, h]

/-- R37: while SKIP edges are left, an armed device time counts the edge and lets it pass. -/
theorem sysrefEdge_skip (h : s.tb.state = .armed) (hl : s.tb.loadAt = none) (hs : 0 < s.tb.skipLeft) :
    (sysrefEdge phi s).tb = { s.tb with skipLeft := s.tb.skipLeft - 1 } ∧ (sysrefEdge phi s).rd64 pTime 0x060 = 0 ∧
      (sysrefEdge phi s).rdN pTime 0x06C = (s.rdN pTime 0x06C + 1) % 2 ^ 32 := by
  have e : sysrefEdge phi s = State.wr64 { s.wrN pTime 0x06C (s.rdN pTime 0x06C + 1) with
      tb := { s.tb with skipLeft := s.tb.skipLeft - 1 } } pTime 0x060 0 := by
    simp [sysrefEdge, h, hl, hs]
  rw [e]
  refine ⟨by simp, rd64_wr64_same _ _, ?_⟩
  rw [rdN_of_rd (rd_wr64_ne _ _ (by decide) (by decide)), rdN_of_rd (rd_with_tb _ _ _ _)]
  exact rdN_wrN_same _ _ _ _

/-- R37, Table 2.2 step 3: the start edge is captured, and the count to load is that of eight cycles later. -/
theorem sysrefEdge_startEdge (h : s.tb.state = .armed) (hl : s.tb.loadAt = none) (hs : s.tb.skipLeft = 0) :
    (sysrefEdge phi s).tb = { s.tb with loadAt := some ((s.tb.t0 + s.fuses.sysrefDly + 128 + 2 ^ 64 - phi % 16) % 2 ^ 64) } ∧
      (sysrefEdge phi s).fld pTime 0x054 11 8 = phi % 16 ∧ (sysrefEdge phi s).rdN pTime 0x06C = (s.rdN pTime 0x06C + 1) % 2 ^ 32 := by
  let u := s.wrN pTime 0x06C (s.rdN pTime 0x06C + 1)
  have e : sysrefEdge phi s = { (u.setFld pTime 0x054 11 8 (phi % 16)).wr64 pTime 0x060 s.tb.t0 with
      tb := { s.tb with loadAt := some ((s.tb.t0 + s.fuses.sysrefDly + 128 + 2 ^ 64 - phi % 16) % 2 ^ 64) } } := by
    simp [sysrefEdge, h, hl, hs, u]
  rw [e]
  refine ⟨rfl, ?_, ?_⟩
  · rw [fld_of_rd (rd_with_tb _ _ _ _), fld_of_rd (rd_wr64_ne _ _ (by decide) (by decide)), fld_setFld_same _ _ _ _ _ _ (by decide) (by decide)]
    omega
  · rw [rdN_of_rd (rd_with_tb _ _ _ _), rdN_of_rd (rd_wr64_ne _ _ (by decide) (by decide)), rdN_of_rd (rd_setFld_ne _ _ _ _ (by decide))]
    exact rdN_wrN_same _ _ _ _

/-- R39: the time of a SYSREF edge, less the package delay. -/
def State.sysrefTime (s : State) (phi : Nat) : Nat := s.tb.count + phi % 16 - s.fuses.sysrefDly

/-- R39: the distance of a SYSREF edge from the nearest expected time. -/
def State.sysrefDrift (s : State) (phi : Nat) : Int :=
  let e : Int := (s.sysrefTime phi : Int) - s.tb.t0
  e - divr e (s.rdN pTime 0x058) * (s.rdN pTime 0x058)

/-- R39: an edge that is captured while device time runs: counted, kept, and offered to the timers. -/
def State.sysrefTaken (s : State) (phi : Nat) : State :=
  ((s.wrN pTime 0x06C (s.rdN pTime 0x06C + 1)).wr64 pTime 0x060 (s.sysrefTime phi)).offerCapture 4 (s.sysrefTime phi) 4

/-- The capture leaves the registers of the comparison. -/
theorem sysrefTaken_rd {o : Nat} (h : o % 4096 = 0x058 ∨ o % 4096 = 0x05C) : (s.sysrefTaken phi).rd pTime o = s.rd pTime o := by
  unfold State.sysrefTaken
  rw [offerCapture_rd_pTime _ _ _ _ _ (by omega), rd_wr64_ne _ _ (by omega) (by omega), rd_wrN_ne _ _ (by omega)]

/-- R39: while device time runs, the edge is captured and its drift is shown; beyond the limit, the cause is raised. -/
theorem sysrefEdge_running (h : s.tb.state = .running) (hper : s.rdN pTime 0x058 ≠ 0) :
    sysrefEdge phi s = if s.fld pTime 0x05C 7 0 < (s.sysrefDrift phi).natAbs
      then ((s.sysrefTaken phi).wrN pTime 0x068 (word32 (s.sysrefDrift phi))).raise pTime 1
      else (s.sysrefTaken phi).wrN pTime 0x068 (word32 (s.sysrefDrift phi)) := by
  have hp : (s.sysrefTaken phi).rdN pTime 0x058 = s.rdN pTime 0x058 := rdN_of_rd (sysrefTaken_rd phi (.inl rfl))
  have hl (v : Nat) : ((s.sysrefTaken phi).wrN pTime 0x068 v).fld pTime 0x05C 7 0 = s.fld pTime 0x05C 7 0 :=
    fld_of_rd ((rd_wrN_ne _ _ (by decide)).trans (sysrefTaken_rd phi (.inr rfl))) 7 0
  have ht : (s.sysrefTaken phi).tb = s.tb := by simp [State.sysrefTaken]
  unfold State.sysrefTaken State.sysrefTime at hp hl ht
  unfold sysrefEdge State.sysrefTaken State.sysrefDrift State.sysrefTime
  simp only [h, hp, hl, ht, if_neg hper, gt_iff_lt]

theorem sysrefEdge_running_tb (h : s.tb.state = .running) (hper : s.rdN pTime 0x058 ≠ 0) : (sysrefEdge phi s).tb = s.tb := by
  rw [sysrefEdge_running phi h hper]
  split <;> simp [State.sysrefTaken]

theorem sysrefEdge_running_drift (h : s.tb.state = .running) (hper : s.rdN pTime 0x058 ≠ 0) :
    (sysrefEdge phi s).rdN pTime 0x068 = toBits (s.sysrefDrift phi) 32 := by
  have hw (t : State) : (t.wrN pTime 0x068 (word32 (s.sysrefDrift phi))).rdN pTime 0x068 = toBits (s.sysrefDrift phi) 32 :=
    (rdN_wrN_same _ _ _ _).trans (Nat.mod_eq_of_lt (toBits_lt _ 32))
  rw [sysrefEdge_running phi h hper]
  split
  · rw [rdN_of_rd (rd_raise_ne _ 1 (by decide)), hw]
  · exact hw _

end

/-- Settles O2: the PLL's two events, and what an edge does in each state of device time. -/
theorem rootPllAndSysref : Obligations.RootPllAndSysref := by
  unfold Obligations.RootPllAndSysref
  refine ⟨⟨fun s => completes_holdoverEntry, fun s => completes_pllRelock, fun r w s hp h0 h2 ha => ?_⟩, fun phi s h => ?_, fun phi s h hl => ?_,
    fun phi s h hper => ?_⟩
  · obtain ⟨t, hx, htb, -⟩ := completes_armSysref hp h0 h2 ha
    exact ⟨t, hx, htb⟩
  · refine completes_done (t := s) (congrArg done (sysrefEdge_held phi h)) ?_
    exact ⟨rfl, rfl, rfl⟩
  · refine completes_done (t := sysrefEdge phi s) rfl ?_
    obtain hs | hs := Nat.eq_zero_or_pos s.tb.skipLeft
    · obtain ⟨htb, hphase, hcount⟩ := sysrefEdge_startEdge phi h hl hs
      exact ⟨hcount, fun hpos => absurd hs (Nat.ne_of_gt hpos), fun _ => ⟨htb, hphase⟩⟩
    · obtain ⟨htb, hcapture, hcount⟩ := sysrefEdge_skip phi h hl hs
      exact ⟨hcount, fun _ => ⟨htb, hcapture⟩, fun h0 => absurd h0 (Nat.ne_of_gt hs)⟩
  · refine completes_done (t := sysrefEdge phi s) rfl ⟨sysrefEdge_running_tb phi h hper, sysrefEdge_running_drift phi h hper, fun hd => ?_⟩
    have e := (sysrefEdge_running phi h hper).trans (if_pos hd)
    rw [flag_ans, e]
    exact flag_raise_same _ _ _ (by decide)

end Sys2Proof.Machine

/-! ## Stopping device time, and its local copies (R34, R35, R40) -/

namespace Sys2Proof.Machine

/-! ### The TIME soft reset -/

section
variable (s : State)

/-- R401: a register that its block retains keeps its word through a soft reset of the page. -/
theorem rd_resetPage_retained {p : Page} {o : Nat} (h : o % 4096 ∈ p.blk.retained) : (s.resetPage p).rd p o = s.rd p o := by
  refine SMap.get_filter _ _ _ _ fun v => ?_
  simp [h]

/-- A soft reset of a page leaves the registers of the other blocks. -/
theorem rd_resetPage_blk {p q : Page} (o : Nat) (h : q.blk ≠ p.blk) : (s.resetPage p).rd q o = s.rd q o :=
  rd_of_except (State.resetPage_except (W := [.regs p.blk]) s p (by simp)) q o (by simpa using h)

/-- TIME.STOP as a soft reset of TIME leaves it: the count, if device time ran (R40). -/
def State.stopTaken (s : State) : State := if s.tb.state = .running then s.wr64 pTime 0x074 s.tb.count else s

theorem timeSoftReset_rd_stop {o : Nat} (h : o = 0x074 ∨ o = 0x078) : (timeSoftReset s).rd pTime o = s.stopTaken.rd pTime o := by
  have ho : o % 4096 ∈ pTime.blk.retained := by obtain rfl | rfl := h <;> decide
  have h8 : o % 4096 ≠ 0x008 % 4096 := by omega
  have e : (timeSoftReset s).rd pTime o = (((((s.stopTaken.resetPage pTime).resetPage pTimers).setFld pTime 0x070 1 0 (s.fld pTime 0x070 1 0)).setFlag
      pTime 0x008 1 true).setFlag pTimers 0x008 1 true).rd pTime o := by
    simp [timeSoftReset, State.stopTaken, State.rd]
  rw [e, rd_setFlag_ne _ _ _ h8, rd_setFlag_ne _ _ _ h8, rd_setFld_ne _ _ _ _ (by omega), rd_resetPage_blk _ _ (by simp), rd_resetPage_retained _ ho]

theorem timeSoftReset_timeStop : (timeSoftReset s).timeStop = s.stopTaken.timeStop :=
  rd64_of_rd (timeSoftReset_rd_stop s (.inl rfl)) (timeSoftReset_rd_stop s (.inr rfl))

theorem timeSoftReset_tb :
    (timeSoftReset s).tb = ⟨.held, 0, none, 0, none, 0, s.tb.stopped || decide (s.tb.state = .running), s.tb.phase⟩ := by
  simp only [timeSoftReset]
  split <;> simp [State.resetPage]

variable {s} {r : Req} {w : Word} (hp : s.passes r pTime 0x008 = true)
include hp

omit hp in
theorem exec_timeSoftReset : exec (.timeSoftReset r w) s =
    gated r pTime 0x008 s (fun s => if s.anyPlaced || s.anyChannel then s.err pTime 5 0x011 0x008 else timeSoftReset s) := rfl

/-- R40: an accepted soft reset of TIME stops device time and keeps the count in TIME.STOP. -/
theorem completes_timeSoftReset (h1 : s.anyPlaced = false) (h2 : s.anyChannel = false) :
    Completes (.timeSoftReset r w) s fun t => t.tb.state = .held ∧ t.tb.count = 0 ∧ t.tb.startAt = none ∧ t.synced = [] ∧
      (s.tb.state = .running → t.timeStop = s.tb.count % 2 ^ 64 ∧ t.tb.stopped = true) ∧
      (s.tb.state ≠ .running → t.timeStop = s.timeStop ∧ t.tb.stopped = s.tb.stopped) := by
  refine completes_gated exec_timeSoftReset hp ?_
  rw [h1, h2]
  simp only [Bool.or_self, Bool.false_eq_true, if_false, State.ans_tb, timeSoftReset_tb]
  have hs : ((timeSoftReset s).ans .none).timeStop = s.stopTaken.timeStop :=
    (rd64_ans _ _ pTime 0x074).trans (timeSoftReset_timeStop s)
  refine ⟨trivial, trivial, trivial, rfl, fun h => ?_, fun h => ?_⟩
  · rw [hs, State.stopTaken, if_pos h]
    exact ⟨rd64_wr64_same s _, by simp [h]⟩
  · rw [hs, State.stopTaken, if_neg h]
    exact ⟨rfl, by simp [h]⟩

/-- R40: while a partition or a channel holds device time, the soft reset is refused with code 0x011. -/
theorem completes_timeSoftReset_refused (h : s.anyPlaced = true ∨ s.anyChannel = true) :
    Completes (.timeSoftReset r w) s fun t => t.tb = s.tb ∧ t.synced = s.synced ∧ Recorded s t pTime 5 0x011 0x008 := by
  refine completes_gated exec_timeSoftReset hp ?_
  rw [if_pos (by simpa using h)]
  exact ⟨by simp, by simp, State.err_recorded s pTime 5 _ _ (by decide)⟩

end

/-! ### Local copies -/

/-- R35: a block that is clocked, out of transition and on the root clocks synchronises its copy; the other domains keep theirs. -/
theorem completes_copySync {p : Page} {s : State} (h : s.tb.state = .running) (hc : (s.dom p.dom).cur = .run) (hf : (s.dom p.dom).fio = false)
    (hb : (s.dom p.dom).busy = false) :
    Completes (.copySync p) s fun t => t.ready p = true ∧ ∀ d, d ≠ p.dom →
      SMap.get (fun _ => false) t.synced d = SMap.get (fun _ => false) s.synced d := by
  refine completes_done (t := s.setSynced p.dom true) (if_pos (by simp [h, hc, hf, hb]))
    ⟨?_, fun d hd => SMap.get_set_other (fun _ => false) s.synced true hd⟩
  have hs : SMap.get (fun _ => false) (s.setSynced p.dom true).synced p.dom = true := SMap.get_set_same (fun _ => false) s.synced p.dom true
  have hd : (s.setSynced p.dom true).dom p.dom = s.dom p.dom := rfl
  have ht : (s.setSynced p.dom true).tb = s.tb := rfl
  change (s.setSynced p.dom true).ready p = true
  simp [State.ready, hs, hd, ht, h, hc, hf, hb]

/-- What PG_ERR_INFO holds after an error: the earlier error, if one stood there (R397). -/
def capturedInfo (info w : Word) : Word := if w.bit 31 then w else info

/-- VALID is set in every PG_ERR_INFO that an error leaves. -/
theorem errInfo_valid (cls code loc : Nat) : (errInfo cls code loc).bit 31 = true := by
  rw [bit_eq_div_mod, errInfo, BitVec.toNat_ofNat]
  exact decide_eq_true (by omega)

/-- A second error finds the first. -/
theorem capturedInfo_idem (cls code loc : Nat) (w : Word) :
    capturedInfo (errInfo cls code loc) (capturedInfo (errInfo cls code loc) w) = capturedInfo (errInfo cls code loc) w := by
  by_cases h : w.bit 31 = true <;> simp [capturedInfo, h, errInfo_valid]

section
variable (s : State) (p q : Page)

/-- An error leaves PG_ERR_INFO of every other page. -/
theorem State.err_rd_info_other (cls code loc : Nat) (hc : cls < 900) (hk : q.key ≠ p.key) : (s.err p cls code loc).rd q 0x020 = s.rd q 0x020 := by
  have hcount := State.countErr_rd s p cls q 0x020 (.inr (by decide))
  unfold State.err
  dsimp only
  split
  · exact hcount
  · rw [State.logErr_rd _ _ _ _ _ _ _ (.inr ⟨by decide, by decide, by decide, hc⟩), rd_wr_key _ _ _ _ hk, hcount]

/-- An error in PG_ERR_INFO of its page and of every other. -/
theorem State.err_rd_info (cls code loc : Nat) (hc : cls < 900) : (s.err p cls code loc).rd q 0x020 =
    if q.key = p.key then capturedInfo (errInfo cls code loc) (s.rd q 0x020) else s.rd q 0x020 := by
  split
  · next hk =>
    have hrd (t : State) : t.rd q 0x020 = t.rd p 0x020 := by unfold State.rd; rw [hk]
    rw [hrd, hrd]
    exact State.err_recorded s p cls code loc hc
  · next hk => exact State.err_rd_info_other s p q cls code loc hc hk

/-- R426: a fault report touches no register. -/
theorem rd_report (code o : Nat) : (s.report p code).rd q o = s.rd q o := rfl

/-- What a differing copy does to the registers: its error and the cause; and to the sideband: one report. -/
theorem copyMismatch_rd (o : Nat) : (copyMismatch s p).rd q o = ((s.err p 2 0x001 0).raise pTime 14).rd q o := by
  have hf (t : State) (n a b : Nat) : (t.pairFault n a b).rd q o = t.rd q o :=
    rd_of_except (State.pairFault_except (W := [.chans]) t n a b (by simp)) q o (by simp)
  unfold copyMismatch
  dsimp only
  split <;> simp only [hf, rd_report]

theorem copyMismatch_faultReports : ∃ time, (copyMismatch s p).faultReports = s.faultReports ++ [⟨p, 0x001, time, 0⟩] := by
  have hf (t : State) (n a b : Nat) : (t.pairFault n a b).faultReports = t.faultReports :=
    faultReports_of_except (State.pairFault_except (W := [.chans]) t n a b (by simp)) (by simp)
  refine ⟨((s.err p 2 0x001 0).raise pTime 14).now, ?_⟩
  unfold copyMismatch
  dsimp only
  split <;> simp [hf, State.report, State.reportWith]

theorem copyMismatch_rd_info : (copyMismatch s p).rd q 0x020 =
    if q.key = p.key then capturedInfo (errInfo 2 0x001 0) (s.rd q 0x020) else s.rd q 0x020 := by
  rw [copyMismatch_rd, rd_raise_ne _ _ (by decide), State.err_rd_info _ _ _ _ _ _ (by decide)]

theorem copyMismatch_raised : (copyMismatch s p).flag pTime 0x010 14 = true :=
  (flag_of_rd (copyMismatch_rd s p pTime 0x010) 14).trans (flag_raise_same _ _ _ (by decide))

variable (bad : List Page) {q}

theorem copyCheck_raised (h : bad ≠ []) : (bad.foldl copyMismatch s).flag pTime 0x010 14 = true := by
  obtain ⟨x, hx⟩ := List.exists_mem_of_ne_nil bad h
  exact foldl_establishes (σ := State) (I := fun _ => True) (P := fun t => t.flag pTime 0x010 14 = true) hx (fun t _ => copyMismatch_raised t x)
    (fun _ _ _ => trivial) (fun t y _ => copyMismatch_raised t y) trivial

/-- R34: every page whose copy differs has recorded code 0x001, however the pages of the list repeat. -/
theorem copyCheck_recorded (hq : q ∈ bad) : Recorded s (bad.foldl copyMismatch s) q 2 0x001 0 := by
  let info := errInfo 2 0x001 0
  refine foldl_establishes (σ := State) (I := fun t => capturedInfo info (t.rd q 0x020) = capturedInfo info (s.rd q 0x020))
    (P := fun t => t.rd q 0x020 = capturedInfo info (s.rd q 0x020)) hq (fun t ht => ?_) (fun t y ht => ?_) (fun t y ht => ?_) rfl
  · rw [copyMismatch_rd_info, if_pos rfl]
    exact ht
  · rw [copyMismatch_rd_info]
    split
    · exact (capturedInfo_idem 2 0x001 0 _).trans ht
    · exact ht
  · rw [copyMismatch_rd_info]
    split
    · rw [ht]
      exact capturedInfo_idem 2 0x001 0 _
    · exact ht

theorem copyCheck_reported (hq : q ∈ bad) : ∃ f ∈ (bad.foldl copyMismatch s).faultReports, f.page = q ∧ f.code = 0x001 := by
  refine foldl_establishes (σ := State) (I := fun _ => True) (P := fun t => ∃ f ∈ t.faultReports, f.page = q ∧ f.code = 0x001) hq (fun t _ => ?_)
    (fun _ _ _ => trivial) (fun t y ⟨f, hf, hfq⟩ => ?_) trivial
  · obtain ⟨time, h⟩ := copyMismatch_faultReports t q
    exact ⟨_, h ▸ List.mem_append_right _ (List.mem_singleton_self _), rfl, rfl⟩
  · obtain ⟨time, h⟩ := copyMismatch_faultReports t y
    exact ⟨f, h ▸ List.mem_append_left _ hf, hfq⟩

end

/-- Settles O3: the soft reset accepted and refused, and the folds of the copy check. -/
theorem deviceTimeStopsAndCopies : Obligations.DeviceTimeStopsAndCopies := by
  unfold Obligations.DeviceTimeStopsAndCopies
  refine ⟨fun r w s hp => completes_timeSoftReset hp, fun r w s hp => completes_timeSoftReset_refused hp,
    fun p s h hc hf hb => completes_copySync h hc hf hb, fun bad s h => ?_⟩
  have hx : exec (.copyCheck bad) s = done (bad.foldl copyMismatch s) := if_pos h
  exact completes_done hx ⟨copyCheck_raised s bad, fun q hq => ⟨copyCheck_recorded s bad hq, copyCheck_reported s bad hq⟩⟩

end Sys2Proof.Machine

/-! ## Wide registers (R55) -/

namespace Sys2Proof.Machine

section
variable {r : Req} {p : Page} {off : Nat} {w : Word} {s : State}

/-- The low half of a writable wide register lies within its page. -/
theorem lt_of_isWideWritable (h : isWideWritable p off = true) : off < 0x078 := by
  unfold isWideWritable at h
  split at h <;> simp at h <;> omega

theorem stagedLow_stageLow : (stageLow p off w s).stagedLow p off = w :=
  congrArg (Option.getD · _) (SMap.get_set_same (fun _ => none) s.staging (p.key + off) (some w))

/-- Nothing is staged any more after a commit. -/
theorem stagedLow_commitWide : (commitWide p off w s).stagedLow p off = (commitWide p off w s).rd p off :=
  congrArg (Option.getD · _) (SMap.get_set_same (fun _ => none) s.staging (p.key + off) none)

/-- A commit writes the two halves and nothing else of the page. -/
theorem commitWide_rd (o : Nat) : (commitWide p off w s).rd p o = ((s.wr p off (s.stagedLow p off)).wr p (off + 4) w).rd p o := rfl

theorem commitWide_rd64 : (commitWide p off w s).rd64 p off = (s.stagedLow p off).toNat + w.toNat * 2 ^ 32 := by
  have hlo : (commitWide p off w s).rd p off = s.stagedLow p off := by
    rw [commitWide_rd, rd_wr_ne _ _ (by omega), rd_wr_same]
  have hhi : (commitWide p off w s).rd p (off + 4) = w := by
    rw [commitWide_rd, rd_wr_same]
  unfold State.rd64 State.rdN
  simp only [hlo, hhi, Nat.reducePow]

end

/-- Settles O7: the staging of the low half, and the commit of both. -/
theorem wideRegisterWrites : Obligations.WideRegisterWrites := by
  unfold Obligations.WideRegisterWrites
  refine ⟨fun r p off w s hw hp => ?_, fun r p off w s hw hb hp => ?_⟩
  · exact completes_gated (if_pos hw) hp ⟨stagedLow_stageLow, rfl⟩
  · refine completes_gated (k := commitWide p off w) (if_pos (by simp [hw, hb])) hp ⟨commitWide_rd64, stagedLow_commitWide, fun o h1 h2 => ?_⟩
    have := lt_of_isWideWritable hw
    rw [rd_ans, commitWide_rd, rd_wr_ne _ _ (by omega), rd_wr_ne _ _ (by omega)]

end Sys2Proof.Machine

/-! ## Trigger inputs (R42 to R45, R516) -/

namespace Sys2Proof.Machine

/-! ### A missed edge, and a captured one -/

section
variable (s : State) {pin : Nat}

/-- R44: a missed edge counts, unless the counter freeze holds the counter, and raises its cause. -/
theorem trigMiss_count (_ : pin < 4) (h : s.ctrFrozen pTime = false) :
    (s.trigMiss pin).rdN pTime (0x094 + 0x20 * pin) = min (s.rdN pTime (0x094 + 0x20 * pin) + 1) 4294967295 :=
  (rdN_of_rd (rd_raise_ne _ _ (by omega))).trans (rdN_incCtr s pTime _ h)

theorem trigMiss_raised (hpin : pin < 4) : (s.trigMiss pin).flag pTime 0x010 (8 + pin) = true := flag_raise_same _ _ _ (by omega)

theorem trigMiss_rd {o : Nat} (h : o % 4096 ≠ 0x010) (hc : o % 4096 ≠ (0x094 + 0x20 * pin) % 4096) : (s.trigMiss pin).rd pTime o = s.rd pTime o :=
  (rd_raise_ne _ _ h).trans (rd_incCtr_ne _ hc)

@[simp] theorem trigMiss_timers : (s.trigMiss pin).timers = s.timers := by simp [State.trigMiss]

@[simp] theorem trigMiss_trigQual : (s.trigMiss pin).trigQual = s.trigQual := by simp [State.trigMiss]

variable {s} {e : TrigEdge}

/-- R44: an edge less than 64 fu after the last captured one is missed. -/
theorem trigCapture_missed (hv : s.flag pTime (0x098 + 0x20 * e.pin) 0 = true) (ht : e.time < s.rd64 pTime (0x088 + 0x20 * e.pin) + 64) :
    s.trigCapture e = s.trigMiss e.pin := by
  simp [State.trigCapture, hv, ht]

theorem offerFreeze_rd_pTime (s : State) (src t cause pos unit o : Nat) : (s.offerFreeze src t cause pos unit).rd pTime o = s.rd pTime o :=
  rd_of_except (State.offerFreeze_except (W := [.freeze, .regs .obs]) s src t cause pos unit (by simp) (by simp)) pTime o (by simp)

/-- R42: the first captured edge of a pin writes TRIGIN_LAST and TRIGIN_INFO; of the rest of the TIME page only PG_IRQ_RAW can change. -/
theorem trigCapture_first_rd (hv : s.flag pTime (0x098 + 0x20 * e.pin) 0 = false) {o : Nat} (ho : o % 4096 ≠ 0x010) :
    (s.trigCapture e).rd pTime o =
      ((s.wr64 pTime (0x088 + 0x20 * e.pin) e.time).wrN pTime (0x098 + 0x20 * e.pin) (1 + 2 * b2n e.fall)).rd pTime o := by
  have hevents (t : State) (l : List TrigEdge) : State.rd { t with trigEvents := l } pTime o = t.rd pTime o := rfl
  have hraise (t : State) (i : Nat) : (t.raise pTime i).rd pTime o = t.rd pTime o := rd_raise_ne t i ho
  have hoffer (t : State) (src time code : Nat) : (t.offerCapture src time code).rd pTime o = t.rd pTime o :=
    offerCapture_rd_pTime t o src time code ho
  simp only [State.trigCapture, hv, Bool.false_and, Bool.false_eq_true, if_false]
  split <;> split <;> simp only [offerFreeze_rd_pTime, hevents, hoffer, hraise]

theorem trigCapture_first_last (_ : e.pin < 4) (hv : s.flag pTime (0x098 + 0x20 * e.pin) 0 = false) :
    (s.trigCapture e).rd64 pTime (0x088 + 0x20 * e.pin) = e.time % 2 ^ 64 := by
  have h (o : Nat) (ho : o = 0x088 + 0x20 * e.pin ∨ o = 0x088 + 0x20 * e.pin + 4) :
      (s.trigCapture e).rd pTime o = (s.wr64 pTime (0x088 + 0x20 * e.pin) e.time).rd pTime o :=
    (trigCapture_first_rd hv (by omega)).trans (rd_wrN_ne _ _ (by omega))
  exact (rd64_of_rd (h _ (.inl rfl)) (h _ (.inr rfl))).trans (rd64_wr64_same s _)

/-- TRIGIN_INFO then holds VALID and the direction of the edge. -/
theorem trigCapture_first_info (_ : e.pin < 4) (hv : s.flag pTime (0x098 + 0x20 * e.pin) 0 = false) :
    (s.trigCapture e).flag pTime (0x098 + 0x20 * e.pin) 0 = true ∧ (s.trigCapture e).flag pTime (0x098 + 0x20 * e.pin) 1 = e.fall := by
  have h := trigCapture_first_rd hv (o := 0x098 + 0x20 * e.pin) (by omega)
  unfold State.flag
  rw [h, State.wrN, rd_wr_same]
  cases e.fall <;> decide

@[simp] theorem trigCapture_trigQual (s : State) (e : TrigEdge) : (s.trigCapture e).trigQual = s.trigQual :=
  trigQual_of_except (State.trigCapture_except (W := [.timers, .trigEvents, .freeze, .regs .time0, .regs .time1, .regs .obs, .regs .chtmr]) s e
    (by simp) (by simp) (by simp) (by simp) (by simp) (by simp) (by simp)) (by simp)

end

/-! ### An edge on a pin -/

section
variable {s : State} {pin : Nat} {fall : Bool} {phi : Nat}

/-- R42: the captured time of an edge, less the package delay and the skew; a time below zero is zero (log entry 18). -/
def State.trigTime (s : State) (pin phi : Nat) : Nat :=
  (((s.tb.count + phi % 16 : Nat) : Int) - s.fuses.trigInDly pin - ofBits (s.fld pTime (0x084 + 0x20 * pin) 15 0) 16).toNat

theorem exec_triginEdge_idle (h : s.tb.state ≠ .running) : exec (.triginEdge pin fall phi) s = done s := if_neg (by simp [h])

/-- R43: a selected edge counts at once without MINW, and waits otherwise. -/
theorem exec_triginEdge (h : s.tb.state = .running) (hpin : pin < 4) (hen : s.flag pTime (0x080 + 0x20 * pin) 0 = true)
    (hsel : edgeSelected (s.fld pTime (0x080 + 0x20 * pin) 2 1) fall = true) :
    exec (.triginEdge pin fall phi) s = if s.fld pTime (0x080 + 0x20 * pin) 7 4 = 0 then done (s.trigCapture ⟨pin, s.trigTime pin phi, fall, 0xFFFF⟩)
      else done { s with trigQual := s.trigQual ++ [⟨pin, s.trigTime pin phi, fall, 0xFFFF⟩] } :=
  if_pos (by simp [h, hpin, hen, hsel])

end

/-! ### TRIGIN_EVT -/

/-- Table 2.8: the fields of TRIGIN_EVT: the partition, the Cabinet and the axon. -/
theorem findRow_triginEvt {pin : Nat} (h : pin < 4) :
    findRow pTime.blk (0x090 + 0x20 * pin) = some (regs 0x090 4 0x20 0 [rw 5 0, rw 13 6, rw 31 16]) := by
  have : pin = 0 ∨ pin = 1 ∨ pin = 2 ∨ pin = 3 := by omega
  obtain rfl | rfl | rfl | rfl := this <;> rfl

section
variable {r : Req} {pin : Nat} {w : Word} {s : State} (hpin : pin < 4) (hp : s.passes r pTime (0x090 + 0x20 * pin) = true)
include hpin

theorem exec_triginEvtWrite : exec (.triginEvtWrite r pin w) s = gated r pTime (0x090 + 0x20 * pin) s (trigEvtWrite pin w) := by
  show gated r pTime (0x090 + 0x20 * (pin % 4)) s (trigEvtWrite pin w) = _
  rw [Nat.mod_eq_of_lt hpin]

include hp

/-- R45: while the partition before and after the write is stopped, the fields take the write. -/
theorem completes_triginEvtWrite (hold : s.partStopped (s.fld pTime (0x090 + 0x20 * pin) 5 0) = true) (hnew : s.partStopped (w.bits 5 0) = true) :
    Completes (.triginEvtWrite r pin w) s fun t => t.fld pTime (0x090 + 0x20 * pin) 5 0 = w.bits 5 0 ∧
      t.fld pTime (0x090 + 0x20 * pin) 13 6 = w.bits 13 6 ∧ t.fld pTime (0x090 + 0x20 * pin) 31 16 = w.bits 31 16 := by
  refine completes_gated (exec_triginEvtWrite hpin) hp ?_
  have e : trigEvtWrite pin w s = s.wr pTime (0x090 + 0x20 * pin) ((((s.rd pTime (0x090 + 0x20 * pin)).setBits 5 0 (w.bits 5 0)).setBits 13 6
      (w.bits 13 6)).setBits 31 16 (w.bits 31 16)) := by
    simp only [trigEvtWrite, Nat.mod_eq_of_lt hpin, hold, hnew, Bool.and_self, if_true]
    rw [plainWrite_of_row w s (findRow_triginEvt hpin) rfl (by simp [hasReserved, regs, rw]) (by decide)]
    simp [writeFields, regs, rw]
  rw [e]
  simp only [State.fld, rd_ans, rd_wr_same]
  refine ⟨?_, ?_, ?_⟩
  · rw [bits_setBits_other _ _ _ _ _ _ (by decide), bits_setBits_other _ _ _ _ _ _ (by decide), bits_setBits_same _ _ _ _ (by decide) (by decide),
      bits_mod_self w (by decide)]
  · rw [bits_setBits_other _ _ _ _ _ _ (by decide), bits_setBits_same _ _ _ _ (by decide) (by decide), bits_mod_self w (by decide)]
  · rw [bits_setBits_same _ _ _ _ (by decide) (by decide), bits_mod_self w (by decide)]

/-- R45: while the partition that TRIGIN_EVT names runs, the write is refused. -/
theorem completes_triginEvtWrite_refused (hold : s.partStopped (s.fld pTime (0x090 + 0x20 * pin) 5 0) = false) :
    Completes (.triginEvtWrite r pin w) s fun t => t.rd pTime (0x090 + 0x20 * pin) = s.rd pTime (0x090 + 0x20 * pin) ∧
      Recorded s t pTime 5 0x013 (0x090 + 0x20 * pin) := by
  refine completes_gated (exec_triginEvtWrite hpin) hp ?_
  have e : trigEvtWrite pin w s = s.refuse pTime (0x090 + 0x20 * pin) := by
    simp [trigEvtWrite, Nat.mod_eq_of_lt hpin, hold]
  rw [e]
  exact ⟨State.err_rd s pTime 5 _ _ pTime _ (by simp) (.inr ⟨by omega, by omega⟩), State.refuse_recorded s pTime _⟩

end

/-! ### The statement -/

/-- R45: the oldest waiting event of a pin is sent to the Cabinet that TRIGIN_EVT names. -/
theorem completes_externalTriggerEvent {e : TrigEdge} {s : State} (he : s.trigEvents.find? (fun x => x.pin = e.pin) = some e)
    (hs : s.silent (s.fld pTime (0x090 + 0x20 * e.pin) 5 0) 0x160 = false) :
    Completes (.externalTriggerEvent e.pin) s fun t => t =
      (({ s with trigEvents := s.trigEvents.erase e }).sendEvent 0x160 (s.fld pTime (0x090 + 0x20 * e.pin) 5 0)
        (s.fld pTime (0x090 + 0x20 * e.pin) 13 6) (trigPayload { s with trigEvents := s.trigEvents.erase e } e)).ans .none := by
  refine completes_done ?_ rfl
  have hs' : State.silent { s with trigEvents := s.trigEvents.erase e } (s.fld pTime (0x090 + 0x20 * e.pin) 5 0) 0x160 = false := hs
  have hf (hi lo : Nat) : State.fld { s with trigEvents := s.trigEvents.erase e } pTime (0x090 + 0x20 * e.pin) hi lo =
    s.fld pTime (0x090 + 0x20 * e.pin) hi lo := rfl
  show execExternalTriggerEvent e.pin s = _
  simp only [execExternalTriggerEvent, he, hf, hs', Bool.not_false, if_true]

/-- R43: an edge that held its level is captured with its own time; one that did not is missed. -/
theorem exec_triginQualify {e : TrigEdge} {s : State} {held : Bool} (he : s.trigQual.find? (fun x => x.pin = e.pin) = some e) :
    exec (.triginQualify e.pin held) s = done (if held then State.trigCapture { s with trigQual := s.trigQual.erase e } e
      else State.trigMiss { s with trigQual := s.trigQual.erase e } e.pin) := by
  show execTriginQualify e.pin held s = _
  cases held <;> simp [execTriginQualify, he]

/-- Settles O4: the cases of an edge, of its qualification, of the event it forms and of TRIGIN_EVT. -/
theorem triggerInputs : Obligations.TriggerInputs := by
  unfold Obligations.TriggerInputs
  refine ⟨fun pin fall phi s h => completes_done (exec_triginEdge_idle h) rfl,
    fun pin fall phi s h hpin hen hsel => ⟨fun hw hv => ?_, fun hw hv ht hfr => ?_,
    fun hw => ?_⟩, fun e s hpin he => ⟨fun hv => ?_, fun hfr => ?_⟩, fun e s => completes_externalTriggerEvent,
    fun r pin w s hpin hp => ⟨completes_triginEvtWrite hpin hp, completes_triginEvtWrite_refused hpin hp⟩, fun r p i s hi hr hq => ?_⟩
  · have hx := (exec_triginEdge h hpin hen hsel (phi := phi)).trans (if_pos hw)
    refine completes_done hx ?_
    rw [rd64_ans, flag_ans, flag_ans]
    exact ⟨trigCapture_first_last hpin hv, trigCapture_first_info hpin hv⟩
  · have hx := (exec_triginEdge h hpin hen hsel (phi := phi)).trans (if_pos hw)
    have ht : s.trigTime pin phi < s.rd64 pTime (0x088 + 0x20 * pin) + 64 := ht
    rw [trigCapture_missed (e := ⟨pin, s.trigTime pin phi, fall, 0xFFFF⟩) hv ht] at hx
    have hlast : (s.trigMiss pin).rd64 pTime (0x088 + 0x20 * pin) = s.rd64 pTime (0x088 + 0x20 * pin) :=
      rd64_of_rd (trigMiss_rd s (by omega) (by omega)) (trigMiss_rd s (by omega) (by omega))
    refine completes_done hx ?_
    rw [rd64_ans, rdN_ans, flag_ans, State.ans_timers]
    exact ⟨hlast, trigMiss_count s hpin hfr, trigMiss_raised s hpin, trigMiss_timers s⟩
  · exact completes_done ((exec_triginEdge h hpin hen hsel (phi := phi)).trans (if_neg hw)) ⟨rfl, rfl⟩
  · refine completes_done (exec_triginQualify he) ?_
    rw [if_pos rfl, rd64_ans, State.ans_trigQual]
    exact ⟨trigCapture_trigQual _ e, trigCapture_first_last (s := { s with trigQual := s.trigQual.erase e }) hpin hv⟩
  · refine completes_done (exec_triginQualify he) ?_
    rw [if_neg (by simp), rdN_ans, flag_ans, State.ans_trigQual]
    exact ⟨trigMiss_trigQual _, trigMiss_count { s with trigQual := s.trigQual.erase e } hpin hfr, trigMiss_raised _ hpin⟩
  · obtain ⟨t, hx, -, -, hlatch, hinfo⟩ := completes_capturePop_nil hi hr hq
    exact ⟨t, hx, by rw [State.rdN, hinfo]; rfl, hlatch⟩

end Sys2Proof.Machine

/-! ## Timers (R46 to R49) -/

namespace Sys2Proof.Machine

/-! ### Match and reload -/

section
variable (s : State) (p : Page) {i : Nat}

theorem timerMatch_rd {o : Nat} (h : o % 4096 ≠ 0x010) : (s.timerMatch p i).rd p o = s.rd p o := by
  unfold State.timerMatch
  split
  · exact rd_raise_ne _ _ h
  · rfl

/-- The match joins the causes that stand. -/
theorem timerMatch_flag (hi : i < 16) (j : Nat) : (s.timerMatch p i).flag p 0x010 j =
    (decide (j = 16 + i) && decide (s.rd p (0x108 + 0x40 * i) = s.rd p (0x10C + 0x40 * i)) || s.flag p 0x010 j) := by
  unfold State.timerMatch
  split
  · next h => rw [flag_raise _ _ (by omega), decide_eq_true h, Bool.and_true]
  · next h => rw [decide_eq_false h, Bool.and_false, Bool.false_or]

/-- R47: a reload leaves TMR_PERIOD in TMR_COUNT. -/
theorem timerReload_count (_ : i < 16) : (s.timerReload p i).rd p (0x108 + 0x40 * i) = s.rd p (0x104 + 0x40 * i) := by
  unfold State.timerReload
  rw [timerMatch_rd _ _ (by omega), rd_wr_same]

/-- R47: a reload leaves every register but TMR_COUNT and PG_IRQ_RAW. -/
theorem timerReload_rd {o : Nat} (h : o % 4096 ≠ 0x010) (hc : o % 4096 ≠ (0x108 + 0x40 * i) % 4096) : (s.timerReload p i).rd p o = s.rd p o := by
  unfold State.timerReload
  rw [timerMatch_rd _ _ h, rd_wr_ne _ _ hc]

/-- R46, R47: a reload may raise the match of its timer, and no other cause. -/
theorem timerReload_flag (hi : i < 16) (j : Nat) : (s.timerReload p i).flag p 0x010 j =
    (decide (j = 16 + i) && decide (s.rd p (0x104 + 0x40 * i) = s.rd p (0x10C + 0x40 * i)) || s.flag p 0x010 j) := by
  unfold State.timerReload
  rw [timerMatch_flag _ _ hi, rd_wr_same, rd_wr_ne _ _ (by omega), flag_of_rd (rd_wr_ne _ _ (by omega))]

end

/-! ### One tick -/

section
variable (s : State) (p : Page) {i : Nat}

/-- R46: the count after a tick. -/
def State.nextCount (s : State) (p : Page) (i : Nat) : Nat :=
  if s.rdN p (0x108 + 0x40 * i) = 0 then s.rdN p (0x104 + 0x40 * i) else s.rdN p (0x108 + 0x40 * i) - 1

/-- R46: the count of a tick and its zero flag. -/
def State.tickCounted (s : State) (p : Page) (i : Nat) : State :=
  if s.nextCount p i = 0 then (s.wrN p (0x108 + 0x40 * i) (s.nextCount p i)).raise p i else s.wrN p (0x108 + 0x40 * i) (s.nextCount p i)

/-- R46: does the tick end a one-shot timer? -/
def State.tickStops (s : State) (p : Page) (i : Nat) : Bool := decide (s.rdN p (0x108 + 0x40 * i) = 1) && s.flag p (0x100 + 0x40 * i) 2

theorem nextCount_lt : s.nextCount p i < 2 ^ 32 := by
  have hc : s.rdN p (0x108 + 0x40 * i) < 2 ^ 32 := BitVec.isLt _
  have hp : s.rdN p (0x104 + 0x40 * i) < 2 ^ 32 := BitVec.isLt _
  unfold State.nextCount
  split <;> omega

theorem tickCounted_rd {o : Nat} (h : o % 4096 ≠ 0x010) (hc : o % 4096 ≠ (0x108 + 0x40 * i) % 4096) : (s.tickCounted p i).rd p o = s.rd p o := by
  unfold State.tickCounted
  split
  · rw [rd_raise_ne _ _ h, rd_wrN_ne _ _ hc]
  · exact rd_wrN_ne _ _ hc

theorem tickCounted_count (_ : i < 16) : (s.tickCounted p i).rdN p (0x108 + 0x40 * i) = s.nextCount p i := by
  have h : (s.wrN p (0x108 + 0x40 * i) (s.nextCount p i)).rdN p (0x108 + 0x40 * i) = s.nextCount p i :=
    (rdN_wrN_same _ _ _ _).trans (Nat.mod_eq_of_lt (nextCount_lt s p))
  unfold State.tickCounted
  split
  · rw [rdN_of_rd (rd_raise_ne _ _ (by omega)), h]
  · exact h

theorem tickCounted_flag (hi : i < 16) (j : Nat) : (s.tickCounted p i).flag p 0x010 j =
    (decide (j = i) && decide (s.nextCount p i = 0) || s.flag p 0x010 j) := by
  have h : (s.wrN p (0x108 + 0x40 * i) (s.nextCount p i)).flag p 0x010 j = s.flag p 0x010 j := flag_of_rd (rd_wrN_ne _ _ (by omega)) j
  unfold State.tickCounted
  split
  · next hz => rw [flag_raise _ _ (by omega), h, decide_eq_true hz, Bool.and_true]
  · next hz => rw [h, decide_eq_false hz, Bool.and_false, Bool.false_or]

/-- R46: a tick counts, ends a one-shot timer that has reached zero, and then compares. -/
theorem onTick_eq (_ : i < 16) : s.onTick p i =
    (if s.tickStops p i then (s.tickCounted p i).setFlag p (0x100 + 0x40 * i) 0 false else s.tickCounted p i).timerMatch p i := by
  have hw : s.wr p (0x108 + 0x40 * i) (s.rd p (0x104 + 0x40 * i)) = s.wrN p (0x108 + 0x40 * i) (s.rdN p (0x104 + 0x40 * i)) := by
    simp [State.wrN, State.rdN]
  have hstop (v : Nat) : ((s.wrN p (0x108 + 0x40 * i) v).raise p i).flag p (0x100 + 0x40 * i) 2 = s.flag p (0x100 + 0x40 * i) 2 :=
    flag_of_rd ((rd_raise_ne _ _ (by omega)).trans (rd_wrN_ne _ _ (by omega))) 2
  have hper (v : Nat) : (s.wrN p (0x108 + 0x40 * i) v).rdN p (0x104 + 0x40 * i) = s.rdN p (0x104 + 0x40 * i) := rdN_of_rd (rd_wrN_ne _ _ (by omega))
  unfold State.onTick State.tickStops State.tickCounted State.nextCount
  dsimp only
  congr 1
  by_cases h0 : s.rdN p (0x108 + 0x40 * i) = 0
  · simp [h0, hw, hper]
  · by_cases h1 : s.rdN p (0x108 + 0x40 * i) = 1
    · simp [h1, hstop]
    · have : s.rdN p (0x108 + 0x40 * i) - 1 ≠ 0 := by omega
      simp [h0, h1, this]

/-- What stopping a one-shot timer leaves: all but TMR_CTRL. -/
theorem tickStopped_rd {o : Nat} (h : o % 4096 ≠ (0x100 + 0x40 * i) % 4096) (t : State) (b : Bool) :
    (if b then t.setFlag p (0x100 + 0x40 * i) 0 false else t).rd p o = t.rd p o := by
  split
  · exact rd_setFlag_ne _ _ _ h
  · rfl

theorem onTick_count (hi : i < 16) : (s.onTick p i).rdN p (0x108 + 0x40 * i) = s.nextCount p i := by
  rw [onTick_eq s p hi, rdN_of_rd (timerMatch_rd _ _ (by omega)), rdN_of_rd (tickStopped_rd p (by omega) _ _), tickCounted_count s p hi]

/-- R46: a tick leaves TMR_PERIOD and TMR_MATCH. -/
theorem onTick_rd (hi : i < 16) {o : Nat} (ho : o = 0x104 + 0x40 * i ∨ o = 0x10C + 0x40 * i) : (s.onTick p i).rd p o = s.rd p o := by
  rw [onTick_eq s p hi, timerMatch_rd _ _ (by omega), tickStopped_rd p (by omega), tickCounted_rd s p (by omega) (by omega)]

/-- R46: the causes after a tick. -/
theorem onTick_flag (hi : i < 16) (j : Nat) : (s.onTick p i).flag p 0x010 j =
    (decide (j = 16 + i) && decide (s.nextCount p i = s.rdN p (0x10C + 0x40 * i)) || (decide (j = i) && decide (s.nextCount p i = 0) || s.flag p 0x010 j)) := by
  have hm : (s.tickCounted p i).rd p (0x108 + 0x40 * i) = s.rd p (0x10C + 0x40 * i) ↔ s.nextCount p i = s.rdN p (0x10C + 0x40 * i) := by
    rw [← tickCounted_count s p hi]
    exact BitVec.toNat_inj.symm
  rw [onTick_eq s p hi, timerMatch_flag _ _ hi, tickStopped_rd p (by omega), tickStopped_rd p (by omega),
    tickCounted_rd s p (o := 0x10C + 0x40 * i) (by omega) (by omega),
    flag_of_rd (tickStopped_rd p (by omega) _ _), tickCounted_flag s p hi, decide_eq_decide.mpr hm]

/-- R46: a tick clears EN of a one-shot timer that reaches zero, and of no other. -/
theorem onTick_enabled (hi : i < 16) (hen : s.flag p (0x100 + 0x40 * i) 0 = true) :
    (s.onTick p i).flag p (0x100 + 0x40 * i) 0 = !s.tickStops p i := by
  rw [onTick_eq s p hi, flag_of_rd (timerMatch_rd _ _ (by omega))]
  cases s.tickStops p i
  · exact (flag_of_rd (tickCounted_rd s p (by omega) (by omega)) 0).trans hen
  · exact flag_setFlag_same _ _ _ _ _ (by decide)

@[simp] theorem takeTick_rd (q : Page) (o : Nat) : (s.takeTick p i).rd q o = (s.onTick p i).rd q o := rfl

end

/-! ### A write of TMR_CTRL -/

section
variable {s : State} {p : Page} {i : Nat} {w : Word}

/-- Table 2.10: what TMR_CTRL holds after a write with a legal DIV. -/
def tmrCtrlWord (old w : Word) : Word :=
  (((old.setBits 0 0 (w.bits 0 0)).setBits 4 2 (w.bits 4 2)).setBits 9 5 (w.bits 9 5)).setBits 10 10 (w.bits 10 10)

theorem tmrCtrlWord_enabled (old w : Word) : (tmrCtrlWord old w).bit 0 = w.bit 0 := by
  unfold tmrCtrlWord
  rw [bit_setBits_other _ _ _ _ _ (by decide), bit_setBits_other _ _ _ _ _ (by decide), bit_setBits_other _ _ _ _ _ (by decide), bits_of_bit w (by decide),
    bit_setBits_same _ _ _ (by decide)]

/-- R46, R47: a write of TMR_CTRL that restarts or enables the timer: after the tick of its edge, the fields are written and the count is reloaded. -/
theorem tmrCtrlWrite_rd (hlock : p.blk = .chtmr → i = 0 → s.flag ⟨.chin, p.inst⟩ 0x088 0 = false) (hdiv : divLegal (w.bit 4) (w.bits 9 5) = true)
    (hload : w.bit 1 = true ∨ (w.bit 0 = true ∧ (s.settleTick p i).flag p (0x100 + 0x40 * i) 0 = false)) (q : Page) (o : Nat) :
    (tmrCtrlWrite p i w s).rd q o =
      (((s.settleTick p i).wr p (0x100 + 0x40 * i) (tmrCtrlWord ((s.settleTick p i).rd p (0x100 + 0x40 * i)) w)).timerReload p i).rd q o := by
  have hl : (p.blk = .chtmr && i = 0 && s.flag ⟨.chin, p.inst⟩ 0x088 0) = false := by
    cases hf : s.flag ⟨.chin, p.inst⟩ 0x088 0 <;> simp_all
  have hload : (w.bit 1 || (w.bit 0 && !(s.settleTick p i).flag p (0x100 + 0x40 * i) 0)) = true := by
    obtain h | ⟨h, hf⟩ := hload <;> simp [*]
  unfold tmrCtrlWrite tmrCtrlWord
  simp only [hl, Bool.false_eq_true, if_false, hdiv, if_true, hload]
  split
  · exact rd_setTimer _ _ _ _ _ _
  · rfl

/-- R46, R47: so the count is TMR_PERIOD, and the write itself may raise the match but never the zero flag. -/
theorem tmrCtrlWrite_reloads (hi : i < 16) (hlock : p.blk = .chtmr → i = 0 → s.flag ⟨.chin, p.inst⟩ 0x088 0 = false)
    (hdiv : divLegal (w.bit 4) (w.bits 9 5) = true)
    (hload : w.bit 1 = true ∨ (w.bit 0 = true ∧ (s.settleTick p i).flag p (0x100 + 0x40 * i) 0 = false)) :
    (tmrCtrlWrite p i w s).rd p (0x108 + 0x40 * i) = (s.settleTick p i).rd p (0x104 + 0x40 * i) ∧
    (∀ j, (tmrCtrlWrite p i w s).flag p 0x010 j =
      (decide (j = 16 + i) && decide ((s.settleTick p i).rd p (0x104 + 0x40 * i) = (s.settleTick p i).rd p (0x10C + 0x40 * i)) ||
        (s.settleTick p i).flag p 0x010 j)) ∧
    (tmrCtrlWrite p i w s).flag p (0x100 + 0x40 * i) 0 = w.bit 0 := by
  have h := tmrCtrlWrite_rd hlock hdiv hload
  refine ⟨?_, fun j => ?_, ?_⟩
  · rw [h, timerReload_count _ _ hi, rd_wr_ne _ _ (by omega)]
  · rw [flag_of_rd (h p 0x010), timerReload_flag _ _ hi, rd_wr_ne _ _ (by omega), rd_wr_ne _ _ (by omega), flag_of_rd (rd_wr_ne _ _ (by omega))]
  · rw [flag_of_rd (h p _), flag_of_rd (timerReload_rd _ _ (by omega) (by omega))]
    unfold State.flag
    rw [rd_wr_same, tmrCtrlWord_enabled]

theorem settleTick_of_due (h : (s.timer p i).due = true) : s.settleTick p i = s.takeTick p i := if_pos h

theorem settleTick_of_not_due (h : (s.timer p i).due = false) : s.settleTick p i = s := if_neg (by simp [h])

/-- DIV and its clock are legal in a write whichever of the low bits is set beside them. -/
theorem divLegal_setBits {j : Nat} (hj : j < 4) (h : divLegal (w.bit 4) (w.bits 9 5) = true) :
    divLegal ((w.setBits j j 1).bit 4) ((w.setBits j j 1).bits 9 5) = true := by
  rwa [bit_setBits_other _ _ _ _ _ (by omega), bits_setBits_other _ _ _ _ _ _ (by omega)]

variable {r : Req} (hi : isTimer p i = true) (hp : s.passes r p (0x100 + 0x40 * i) = true)
  (hlock : p.blk = .chtmr → i = 0 → s.flag ⟨.chin, p.inst⟩ 0x088 0 = false) (hdiv : divLegal (w.bit 4) (w.bits 9 5) = true)
include hi hp hlock hdiv

/-- R47: RESTART, after the tick of its edge, if one is due. -/
theorem completes_timerRestart : Completes (.timerRestart r p i w) s fun t =>
    t.rd p (0x108 + 0x40 * i) = (s.settleTick p i).rd p (0x104 + 0x40 * i) ∧
    t.flag p 0x010 i = (s.settleTick p i).flag p 0x010 i ∧
    t.flag p 0x010 (16 + i) = (decide ((s.settleTick p i).rd p (0x104 + 0x40 * i) = (s.settleTick p i).rd p (0x10C + 0x40 * i)) ||
      (s.settleTick p i).flag p 0x010 (16 + i)) := by
  refine completes_gated (k := tmrCtrlWrite p i (w.setBits 1 1 1)) (if_pos hi) hp ?_
  obtain ⟨hcount, hflag, -⟩ := tmrCtrlWrite_reloads (lt_of_isTimer hi) hlock (divLegal_setBits (by decide) hdiv) (.inl (bit_setBits_one w (by decide)))
  rw [rd_ans, flag_ans, flag_ans]
  exact ⟨hcount, by simp [hflag], by simp [hflag]⟩

/-- R46: EN from 0 to 1. -/
theorem completes_timerEnable (hdue : (s.timer p i).due = false) (hen : s.flag p (0x100 + 0x40 * i) 0 = false) :
    Completes (.timerEnable r p i w) s fun t =>
      t.flag p (0x100 + 0x40 * i) 0 = true ∧ t.rd p (0x108 + 0x40 * i) = s.rd p (0x104 + 0x40 * i) ∧ t.flag p 0x010 i = s.flag p 0x010 i ∧
      t.flag p 0x010 (16 + i) = (decide (s.rd p (0x104 + 0x40 * i) = s.rd p (0x10C + 0x40 * i)) || s.flag p 0x010 (16 + i)) := by
  refine completes_gated (k := tmrCtrlWrite p i (w.setBits 0 0 1)) (if_pos hi) hp ?_
  have hw : (w.setBits 0 0 1).bit 0 = true := bit_setBits_one w (by decide)
  have hset := settleTick_of_not_due hdue
  have h := tmrCtrlWrite_reloads (lt_of_isTimer hi) hlock (divLegal_setBits (by decide) hdiv) (.inr ⟨hw, by rwa [hset]⟩)
  rw [hset] at h
  obtain ⟨hcount, hflag, hctrl⟩ := h
  rw [rd_ans, flag_ans, flag_ans, flag_ans]
  exact ⟨hctrl.trans hw, hcount, by simp [hflag], by simp [hflag]⟩

end

/-! ### Ticks at a CLK_TB edge -/

section
variable {s : State} {p : Page} {i : Nat}

/-- A timer that receives ticks is a timer of the page, and enabled. -/
theorem ticking_spec (h : s.ticking p i = true) : i < 16 ∧ s.flag p (0x100 + 0x40 * i) 0 = true ∧ s.awake p = true := by
  simp only [State.ticking, Bool.and_eq_true] at h
  exact ⟨lt_of_isTimer h.1.1.1, h.1.1.2, h.1.2⟩

theorem ticking_of_ticks (h : s.ticks p i = true) : s.ticking p i = true := by
  simp only [State.ticks, Bool.and_eq_true] at h
  exact h.1

/-- R46: in device-time mode the tick of an edge is due when bits [63:DIV] of device time have changed, and reaches the timer then. -/
theorem timerEdge_ticks (old : Nat) (h : s.ticking p i = true) (hclk : s.flag p (0x100 + 0x40 * i) 4 = true) :
    (s.timerEdge p i old).ticks p i =
      decide (s.tb.count / 2 ^ s.fld p (0x100 + 0x40 * i) 9 5 ≠ old / 2 ^ s.fld p (0x100 + 0x40 * i) 9 5) := by
  obtain ⟨-, hen, hawake⟩ := ticking_spec h
  have hticking (x : TimerSt) : (s.setTimer p i x).ticking p i = s.ticking p i := rfl
  have hflag (x : TimerSt) : (s.setTimer p i x).flag p (0x100 + 0x40 * i) 4 = s.flag p (0x100 + 0x40 * i) 4 := rfl
  unfold State.timerEdge
  simp only [hen, hawake, Bool.and_self, if_true, State.ticks, hticking, hflag, timer_setTimer_same, h, hclk, State.tickFalls]
  simp

end

/-- Settles O5: the tick by `onTick_eq`, the writes of TMR_CTRL by the reload they end with. -/
theorem timersTickAndReload : Obligations.TimersTickAndReload := by
  unfold Obligations.TimersTickAndReload
  refine ⟨fun p i s h => ?_, fun p i s h => completes_done (if_neg (by simp [h])) rfl, fun r p i w s hi hp hlock hdiv => ⟨fun hdue => ?_,
    fun hdue hen => ?_, fun hdue => ?_⟩, fun p i s _ h hclk _ => timerEdge_ticks _ h hclk⟩
  · obtain ⟨hi, hen, -⟩ := ticking_spec (ticking_of_ticks h)
    refine completes_done (t := s.takeTick p i) (if_pos h) ?_
    rw [rdN_ans, flag_ans, flag_ans, flag_ans, rdN_of_rd (takeTick_rd s p p _), flag_of_rd (takeTick_rd s p p _), flag_of_rd (takeTick_rd s p p _),
      flag_of_rd (takeTick_rd s p p _)]
    refine ⟨onTick_count s p hi, ?_, ?_, onTick_enabled s p hi hen⟩
    · change _ = (s.flag p 0x010 i || decide (s.nextCount p i = 0))
      simp [onTick_flag s p hi, Bool.or_comm]
    · change _ = (s.flag p 0x010 (16 + i) || decide (s.nextCount p i = s.rdN p (0x10C + 0x40 * i)))
      simp [onTick_flag s p hi, Bool.or_comm]
  · obtain ⟨t, hx, hcount, hzero, -⟩ := completes_timerRestart hi hp hlock hdiv
    rw [settleTick_of_due hdue] at hcount hzero
    exact ⟨t, hx, hcount.trans (onTick_rd s p (lt_of_isTimer hi) (.inl rfl)), hzero⟩
  · obtain ⟨t, hx, hctrl, hcount, hzero, hmatch⟩ := completes_timerEnable hi hp hlock hdiv hdue hen
    exact ⟨t, hx, hctrl, hcount, hzero, hmatch.trans (Bool.or_comm _ _)⟩
  · obtain ⟨t, hx, hcount, hzero, hmatch⟩ := completes_timerRestart hi hp hlock hdiv
    rw [settleTick_of_not_due hdue] at hcount hzero hmatch
    exact ⟨t, hx, hcount, hzero, hmatch.trans (Bool.or_comm _ _)⟩

end Sys2Proof.Machine

/-! ## The receive link's control register (R31, R63, R84, R95) -/

namespace Sys2Proof.Machine

/-! ### A link that leaves DATA, and a link that is taken to a state -/

section
variable (s : State) (n : Nat) {o : Nat}

@[simp] theorem chan_setChan_same (c : Chan) : (s.setChan n c).chan n = c := SMap.get_set_same _ _ _ _

@[simp] theorem rd_setChan (c : Chan) (m : Nat) (q : Page) : (s.setChan m c).rd q o = s.rd q o := rfl

theorem chan_of_chans {s t : State} (h : t.chans = s.chans) (n : Nat) : t.chan n = s.chan n := congrArg (SMap.get (fun _ => Chan.reset) · n) h

/-- R84: a link that is not in DATA has nothing to leave. -/
theorem linkLeave_idle {cause : Nat} (h : s.linkSt n ≠ 3) : s.linkLeave n cause = s := if_neg h

/-- R84: what a channel holds after its link has left DATA: the time, and for an enabled channel without a gap, a gap of this cause. -/
def Chan.left (c : Chan) (on : Bool) (cause now : Nat) : Chan :=
  { c with downAt := some now, gap := if on && c.gap.isNone then some ⟨cause, none⟩ else c.gap }

theorem linkLeave_data {cause : Nat} (h : s.linkSt n = 3) :
    s.linkLeave n cause = ((s.setFlag (chin n) 0x00C 0 false).raise (chin n) 1).setChan n ((s.chan n).left (s.chanOn n) cause s.now) := by
  let u := (s.setFlag (chin n) 0x00C 0 false).raise (chin n) 1
  have hchan : u.chan n = s.chan n := chan_of_chans (by simp [u]) n
  have hon : u.chanOn n = s.chanOn n := flag_of_rd ((rd_raise_ne _ 1 (by decide)).trans (rd_setFlag_ne _ 0 false (by decide))) 0
  have hnow : u.now = s.now := by simp [u, State.now]
  have e : s.linkLeave n cause = u.setChan n (if u.chanOn n && (u.chan n).gap.isNone
      then { u.chan n with downAt := some u.now, gap := some ⟨cause, none⟩ } else { u.chan n with downAt := some u.now }) := if_pos h
  rw [e, hchan, hon, hnow]
  unfold Chan.left
  split <;> rfl

/-- Leaving DATA changes PG_STATUS and PG_IRQ_RAW, and no other register. -/
theorem linkLeave_rd (cause : Nat) (q : Page) (h : o % 4096 ≠ 0x00C) (hi : o % 4096 ≠ 0x010) : (s.linkLeave n cause).rd q o = s.rd q o := by
  by_cases hs : s.linkSt n = 3
  · rw [linkLeave_data s n hs, rd_setChan, rd_raise_ne _ _ hi, rd_setFlag_ne _ _ _ h]
  · rw [linkLeave_idle s n hs]

theorem linkLeave_raised (cause : Nat) (h : s.linkSt n = 3) : (s.linkLeave n cause).flag (chin n) 0x010 1 = true := by
  rw [linkLeave_data s n h, flag_of_rd (rd_setChan _ _ _ _)]
  exact flag_raise_same _ _ _ (by decide)

/-- The configuration in force outlives the link's leaving DATA. -/
theorem linkLeave_link (cause : Nat) : ((s.linkLeave n cause).chan n).link = (s.chan n).link := by
  by_cases h : s.linkSt n = 3
  · rw [linkLeave_data s n h, chan_setChan_same]
    rfl
  · rw [linkLeave_idle s n h]

/-- R84: the gap of an enabled channel whose link leaves DATA. -/
theorem linkLeave_gap (cause : Nat) (h : s.linkSt n = 3) (hon : s.chanOn n = true) (hg : (s.chan n).gap = none) :
    ((s.linkLeave n cause).chan n).gap = some ⟨cause, none⟩ := by
  rw [linkLeave_data s n h, chan_setChan_same]
  simp [Chan.left, hon, hg]

/-- Taking the link to a state changes no register of the page below LINK_STATE but PG_STATUS. -/
theorem linkTo_rd (st : Nat) (q : Page) (h : o % 4096 < 0x058) (hc : o % 4096 ≠ 0x00C) : (s.linkTo n st).rd q o = s.rd q o := by
  unfold State.linkTo
  refine (foldl_keeps (fun t : State => t.rd q o) _ _ (fun i hi t => rd_wrN_ne _ _ ?_) _).trans ?_
  · have := List.mem_range.mp hi
    omega
  · rw [rd_setFlag_ne _ _ _ (by omega), rd_wrN_ne _ _ (by omega)]

/-- LINK_STATE then shows the state. -/
theorem linkTo_linkSt {st : Nat} (h : st < 8) : (s.linkTo n st).linkSt n = st := by
  have e : (s.linkTo n st).rd (chin n) 0x058 = BitVec.ofNat 32 st := by
    unfold State.linkTo
    refine (foldl_keeps (fun t : State => t.rd (chin n) 0x058) _ _ (fun i hi t => rd_wrN_ne _ _ ?_) _).trans ?_
    · have := List.mem_range.mp hi
      omega
    · rw [rd_setFlag_ne _ _ _ (by decide), State.wrN, rd_wr_same]
  unfold State.linkSt State.fld
  rw [e, bits_eq_div_mod _ (by decide), BitVec.toNat_ofNat]
  omega

@[simp] theorem linkTo_chans (st : Nat) : (s.linkTo n st).chans = s.chans :=
  chans_of_except (State.linkTo_except (W := [.regs .chin]) s n st (by simp)) (by simp)

end

/-! ### Starting the link -/

section
variable {s : State} {n : Nat}

/-- R95: the link registers, from those of the page. -/
theorem linkRegs_of_rd {t : State} (h : ∀ o, 0x044 ≤ o → o < 0x070 → t.rd (chin n) o = s.rd (chin n) o) : t.linkRegs n = s.linkRegs n := by
  have hrd (o : Nat) (h1 : 0x044 ≤ o) (h2 : o < 0x070) := h o h1 h2
  unfold State.linkRegs State.fld State.rdN
  simp only [hrd 0x044 (by decide) (by decide), hrd 0x048 (by decide) (by decide), hrd 0x04C (by decide) (by decide), hrd 0x050 (by decide) (by decide),
    hrd 0x054 (by decide) (by decide), hrd 0x060 (by decide) (by decide), hrd 0x064 (by decide) (by decide), hrd 0x06C (by decide) (by decide)]

/-- R63: the check of the link registers as a set. -/
def State.linkFail (s : State) (n : Nat) : Option Nat := linkParamFail (s.rd (chin n) 0x044) (s.rd (chin n) 0x048) (s.fld (chin n) 0x04C 12 0)

theorem linkStart_of_fit (h : s.linkFail n = none) : s.linkStart n = s.linkInit n := by
  have h : linkParamFail (s.linkRegs n).cfg0 (s.linkRegs n).cfg1 (s.linkRegs n).rate = none := h
  simp only [State.linkStart, h]

theorem linkStart_of_fail {loc : Nat} (h : s.linkFail n = some loc) :
    s.linkStart n = ((s.setChan n { s.chan n with link := s.linkRegs n, bad := true }).linkTo n 0).err (chin n) 5 0x011 loc := by
  have h : linkParamFail (s.linkRegs n).cfg0 (s.linkRegs n).cfg1 (s.linkRegs n).rate = some loc := h
  simp only [State.linkStart, h]

/-- R63, R95: an initialisation brings the link registers into force and trains; a mode of 0 leaves the link DOWN. -/
theorem linkInit_spec : (s.linkInit n).linkSt n = (if cfgMode (s.rd (chin n) 0x044) = 0 then 0 else 1) ∧ ((s.linkInit n).chan n).link = s.linkRegs n := by
  unfold State.linkInit
  refine ⟨linkTo_linkSt _ _ (by split <;> decide), ?_⟩
  rw [chan_of_chans (linkTo_chans _ _ _), chan_setChan_same]

theorem linkInit_rd {o : Nat} (q : Page) (h : o % 4096 < 0x058) (hc : o % 4096 ≠ 0x00C) : (s.linkInit n).rd q o = s.rd q o := by
  unfold State.linkInit
  rw [linkTo_rd _ _ _ _ h hc, rd_setChan]

/-- What an error on a CHIN page leaves of it. -/
theorem err_rd_chin (s : State) (n cls code loc : Nat) {o : Nat} (h : o % 4096 ≠ 0x020 ∧ o % 4096 ≠ 0x024) :
    (s.err (chin n) cls code loc).rd (chin n) o = s.rd (chin n) o := State.err_rd _ _ _ _ _ _ _ (by simp [chin]) (.inr h)

/-- R63: a set that fails leaves the link DOWN and records code 0x011 with the parameter. -/
theorem linkStart_fail_spec {loc : Nat} (h : s.linkFail n = some loc) :
    (s.linkStart n).linkSt n = 0 ∧ ((s.linkStart n).chan n).bad = true ∧ Recorded s (s.linkStart n) (chin n) 5 0x011 loc := by
  rw [linkStart_of_fail h]
  refine ⟨?_, ?_, recorded_err_of_rd (linkTo_rd _ _ _ _ (by decide) (by decide)) (by decide)⟩
  · exact (fld_of_rd (err_rd_chin _ _ _ _ _ (by decide)) 2 0).trans (linkTo_linkSt _ _ (by decide))
  · rw [chan_of_chans (State.err_chans _ _ _ _ _), chan_of_chans (linkTo_chans _ _ _), chan_setChan_same]

theorem linkStart_fail_rd {loc o : Nat} (h : s.linkFail n = some loc) (ho : o % 4096 < 0x058) (hc : o % 4096 ≠ 0x00C)
    (he : o % 4096 ≠ 0x020 ∧ o % 4096 ≠ 0x024) : (s.linkStart n).rd (chin n) o = s.rd (chin n) o := by
  rw [linkStart_of_fail h, err_rd_chin _ _ _ _ _ he, linkTo_rd _ _ _ _ ho hc, rd_setChan]

end

/-! ### A write of LINK_CTRL -/

section
variable {n : Nat} {w : Word} {s : State}

/-- The state in which a write of LINK_CTRL with EN set starts the link: SYNC_RPT and EN are written, and REINIT has taken the link from DATA. -/
def linkCtrlEnabled (n : Nat) (w : Word) (s : State) : State :=
  let u := (s.setFld (chin n) 0x040 2 2 (w.bits 2 2)).setFlag (chin n) 0x040 0 true
  if w.bit 1 then u.linkLeave n 0 else u

/-- R63: a write that enables or restarts the link, while device time runs, starts it. -/
theorem linkCtrlWrite_start (hw : w.bit 0 = true) (hgo : s.linkEn n = false ∨ w.bit 1 = true) (hrun : s.tb.state = .running) :
    linkCtrlWrite n w s = (linkCtrlEnabled n w s).linkStart n := by
  unfold linkCtrlWrite linkCtrlEnabled
  obtain h | h := hgo
  · cases w.bit 1 <;> simp [hw, h, hrun]
  · simp [hw, h, hrun]

/-- R31: while device time does not run, it is refused with code 0x012. -/
theorem linkCtrlWrite_stopped (hw : w.bit 0 = true) (hgo : s.linkEn n = false ∨ w.bit 1 = true) (hrun : s.tb.state ≠ .running) :
    linkCtrlWrite n w s = (s.setFld (chin n) 0x040 2 2 (w.bits 2 2)).err (chin n) 5 0x012 0 := by
  unfold linkCtrlWrite
  obtain h | h := hgo <;> simp [hw, h, hrun]

/-- R84: EN cleared takes an enabled link from DATA, and DOWN. -/
theorem linkCtrlWrite_disable (hw : w.bit 0 = false) (hen : s.linkEn n = true) :
    linkCtrlWrite n w s = (((s.setFld (chin n) 0x040 2 2 (w.bits 2 2)).linkLeave n 2).setFlag (chin n) 0x040 0 false).linkTo n 0 := by
  simp [linkCtrlWrite, hw, hen]

theorem linkCtrlEnabled_rd {o : Nat} (h : o % 4096 ≠ 0x040) (hc : o % 4096 ≠ 0x00C) (hi : o % 4096 ≠ 0x010) :
    (linkCtrlEnabled n w s).rd (chin n) o = s.rd (chin n) o := by
  have hu : ((s.setFld (chin n) 0x040 2 2 (w.bits 2 2)).setFlag (chin n) 0x040 0 true).rd (chin n) o = s.rd (chin n) o :=
    (rd_setFlag_ne _ _ _ h).trans (rd_setFld_ne _ _ _ _ h)
  unfold linkCtrlEnabled
  dsimp only
  split
  · exact (linkLeave_rd _ _ _ _ hc hi).trans hu
  · exact hu

theorem linkCtrlEnabled_linkEn : (linkCtrlEnabled n w s).linkEn n = true := by
  have hu (t : State) : (t.setFlag (chin n) 0x040 0 true).flag (chin n) 0x040 0 = true := flag_setFlag_same _ _ _ _ _ (by decide)
  unfold linkCtrlEnabled State.linkEn
  dsimp only
  split
  · rw [flag_of_rd (linkLeave_rd _ _ _ _ (by decide) (by decide)), hu]
  · exact hu _

/-- REINIT of a link in DATA raises LINK_DOWN. -/
theorem linkCtrlEnabled_raised (h1 : w.bit 1 = true) (hs : s.linkSt n = 3) : (linkCtrlEnabled n w s).flag (chin n) 0x010 1 = true := by
  have hu : ((s.setFld (chin n) 0x040 2 2 (w.bits 2 2)).setFlag (chin n) 0x040 0 true).linkSt n = 3 :=
    (fld_of_rd ((rd_setFlag_ne _ _ _ (by decide)).trans (rd_setFld_ne _ _ _ _ (by decide))) 2 0).trans hs
  simpa only [linkCtrlEnabled, h1, if_true] using linkLeave_raised _ n 0 hu

/-- The link registers are those that the write found. -/
theorem linkCtrlEnabled_linkRegs : (linkCtrlEnabled n w s).linkRegs n = s.linkRegs n :=
  linkRegs_of_rd fun _ _ _ => linkCtrlEnabled_rd (by omega) (by omega) (by omega)

theorem linkCtrlEnabled_linkFail : (linkCtrlEnabled n w s).linkFail n = s.linkFail n := by
  have h (o : Nat) (h1 : 0x044 ≤ o) (h2 : o < 0x070) : (linkCtrlEnabled n w s).rd (chin n) o = s.rd (chin n) o :=
    linkCtrlEnabled_rd (by omega) (by omega) (by omega)
  unfold State.linkFail State.fld
  rw [h 0x044 (by decide) (by decide), h 0x048 (by decide) (by decide), h 0x04C (by decide) (by decide)]

/-- R63, R95: the start of a link whose parameters fit. -/
theorem linkCtrlWrite_fit (hw : w.bit 0 = true) (hgo : s.linkEn n = false ∨ w.bit 1 = true) (hrun : s.tb.state = .running) (hfit : s.linkFail n = none) :
    (linkCtrlWrite n w s).linkEn n = true ∧ ((linkCtrlWrite n w s).chan n).link = s.linkRegs n ∧
      ((linkCtrlWrite n w s).linkSt n = if cfgMode (s.rd (chin n) 0x044) = 0 then 0 else 1) ∧
      (w.bit 1 = true → s.linkSt n = 3 → (linkCtrlWrite n w s).flag (chin n) 0x010 1 = true) := by
  rw [linkCtrlWrite_start hw hgo hrun, linkStart_of_fit (linkCtrlEnabled_linkFail.trans hfit)]
  obtain ⟨hst, hlink⟩ := linkInit_spec (s := linkCtrlEnabled n w s) (n := n)
  refine ⟨?_, hlink.trans linkCtrlEnabled_linkRegs, ?_, fun h1 hs => ?_⟩
  · exact (flag_of_rd (linkInit_rd _ (by decide) (by decide)) 0).trans linkCtrlEnabled_linkEn
  · rw [hst, linkCtrlEnabled_rd (by decide) (by decide) (by decide)]
  · exact (flag_of_rd (linkInit_rd _ (by decide) (by decide)) 1).trans (linkCtrlEnabled_raised h1 hs)

/-- R63: the start of a link whose parameters fail as a set. -/
theorem linkCtrlWrite_fail (hw : w.bit 0 = true) (hgo : s.linkEn n = false ∨ w.bit 1 = true) (hrun : s.tb.state = .running) {loc : Nat}
    (hfail : s.linkFail n = some loc) :
    (linkCtrlWrite n w s).linkEn n = true ∧ (linkCtrlWrite n w s).linkSt n = 0 ∧ ((linkCtrlWrite n w s).chan n).bad = true ∧
      Recorded s (linkCtrlWrite n w s) (chin n) 5 0x011 loc := by
  have hf : (linkCtrlEnabled n w s).linkFail n = some loc := linkCtrlEnabled_linkFail.trans hfail
  have hinfo : (linkCtrlEnabled n w s).rd (chin n) 0x020 = s.rd (chin n) 0x020 := linkCtrlEnabled_rd (by decide) (by decide) (by decide)
  rw [linkCtrlWrite_start hw hgo hrun]
  obtain ⟨hst, hbad, hrec⟩ := linkStart_fail_spec hf
  refine ⟨?_, hst, hbad, ?_⟩
  · exact (flag_of_rd (linkStart_fail_rd hf (by decide) (by decide) (by decide)) 0).trans linkCtrlEnabled_linkEn
  · rwa [Recorded, flag_of_rd hinfo, hinfo] at hrec

/-- R31: what the refusal of a start leaves: all but SYNC_RPT and the error. -/
theorem linkCtrlWrite_refused (hw : w.bit 0 = true) (hgo : s.linkEn n = false ∨ w.bit 1 = true) (hrun : s.tb.state ≠ .running) :
    (linkCtrlWrite n w s).linkEn n = s.linkEn n ∧ (linkCtrlWrite n w s).linkSt n = s.linkSt n ∧ (linkCtrlWrite n w s).chans = s.chans ∧
      Recorded s (linkCtrlWrite n w s) (chin n) 5 0x012 0 := by
  rw [linkCtrlWrite_stopped hw hgo hrun]
  refine ⟨?_, ?_, by simp, recorded_err_of_rd (rd_setFld_ne _ _ _ _ (by decide)) (by decide)⟩
  · exact (flag_of_rd (err_rd_chin _ _ _ _ _ (by decide)) 0).trans (flag_setFld_other _ _ _ _ _ _ (by decide))
  · exact fld_of_rd ((err_rd_chin _ _ _ _ _ (by decide)).trans (rd_setFld_ne _ _ _ _ (by decide))) 2 0

/-- R84: what the end of an enabled link leaves. -/
theorem linkCtrlWrite_disabled (hw : w.bit 0 = false) (hen : s.linkEn n = true) :
    (linkCtrlWrite n w s).linkEn n = false ∧ (linkCtrlWrite n w s).linkSt n = 0 ∧ ((linkCtrlWrite n w s).chan n).link = (s.chan n).link ∧
      (s.linkSt n = 3 → (linkCtrlWrite n w s).flag (chin n) 0x010 1 = true) ∧
      (s.linkSt n = 3 → s.chanOn n = true → (s.chan n).gap = none → ((linkCtrlWrite n w s).chan n).gap = some ⟨2, none⟩) := by
  let u := s.setFld (chin n) 0x040 2 2 (w.bits 2 2)
  have hst : u.linkSt n = s.linkSt n := fld_of_rd (rd_setFld_ne _ _ _ _ (by decide)) 2 0
  have hon : u.chanOn n = s.chanOn n := flag_of_rd (rd_setFld_ne _ _ _ _ (by decide)) 0
  have hchan : u.chan n = s.chan n := chan_of_chans (by simp [u]) n
  have hfin : (linkCtrlWrite n w s).chan n = (u.linkLeave n 2).chan n := by
    rw [linkCtrlWrite_disable hw hen]
    exact chan_of_chans (by simp [u]) n
  rw [hfin]
  refine ⟨?_, ?_, ?_, fun hs => ?_, fun hs hc hg => ?_⟩
  · rw [linkCtrlWrite_disable hw hen, State.linkEn, flag_of_rd (linkTo_rd _ _ _ _ (by decide) (by decide))]
    exact flag_setFlag_same _ _ _ _ _ (by decide)
  · rw [linkCtrlWrite_disable hw hen]
    exact linkTo_linkSt _ _ (by decide)
  · rw [linkLeave_link, hchan]
  · rw [linkCtrlWrite_disable hw hen, flag_of_rd (linkTo_rd _ _ _ _ (by decide) (by decide)), flag_of_rd (rd_setFlag_ne _ _ _ (by decide))]
    exact linkLeave_raised _ _ _ (hst.trans hs)
  · exact linkLeave_gap _ _ _ (hst.trans hs) (hon.trans hc) (hchan ▸ hg)

end

/-- Settles O8: each clause is what `linkCtrlWrite` does with the bit that its command sets. -/
theorem receiveLinkControl : Obligations.ReceiveLinkControl := by
  unfold Obligations.ReceiveLinkControl
  refine ⟨fun r n w s hp hen => ⟨fun hrun hfit => ?_, fun loc hrun hfail => ?_, fun hrun => ?_⟩,
    fun r n w s hp hen h0 => ⟨fun hrun hfit => ?_, fun hrun => ?_⟩, fun r n w s hp hen => ?_⟩
  · obtain ⟨h1, h2, h3, -⟩ := linkCtrlWrite_fit (w := w.setBits 0 0 1) (bit_setBits_one w (by decide)) (.inl hen) hrun hfit
    exact completes_gated rfl hp ⟨h1, h2, h3⟩
  · exact completes_gated rfl hp (linkCtrlWrite_fail (w := w.setBits 0 0 1) (bit_setBits_one w (by decide)) (.inl hen) hrun hfail)
  · obtain ⟨h1, -, -, h4⟩ := linkCtrlWrite_refused (w := w.setBits 0 0 1) (bit_setBits_one w (by decide)) (.inl hen) hrun
    exact completes_gated rfl hp ⟨h1.trans hen, h4⟩
  · have hw : (w.setBits 1 1 1).bit 1 = true := bit_setBits_one w (by decide)
    obtain ⟨h1, h2, h3, h4⟩ := linkCtrlWrite_fit ((bit_setBits_other w 1 1 1 0 (by decide)).trans h0) (.inr hw) hrun hfit
    exact completes_gated rfl hp ⟨h1, h2, h3, h4 hw⟩
  · have hw : (w.setBits 1 1 1).bit 1 = true := bit_setBits_one w (by decide)
    obtain ⟨h1, h2, h3, h4⟩ := linkCtrlWrite_refused ((bit_setBits_other w 1 1 1 0 (by decide)).trans h0) (.inr hw) hrun
    exact completes_gated rfl hp ⟨h1.trans hen, h2, h3, h4⟩
  · exact completes_gated rfl hp (linkCtrlWrite_disabled (w := w.setBits 0 0 0) (bit_setBits_zero w (by decide)) hen)

end Sys2Proof.Machine

/-! # Releasing events from a channel (04_encoders.md)

A due event is released in steps, each with its own rules: the queue loses it, the history and the budget take it, U_EVENTS counts it, and its flit enters
the mesh through the logical map. An event beyond its budget takes the first step alone, and is counted as suppressed. -/

namespace Sys2Proof.Machine

/-! ## Events into the mesh -/

section
variable (s : State) (src key cab payload : Nat)

/-- R130: a flit of VC0 enters at its source's router with the next sequence number of its pair. -/
theorem inject_vc0_net (dest kind : Nat) : (s.inject src dest 0 key kind payload).net =
    s.net ++ [s.newHop (entryPort src).1 (entryPort src).2 false false
      (.ev ⟨dest, src, 0, key, SMap.get (fun _ => 0) s.seqs (s.pairKey key src dest 0), kind, 0, payload⟩)] := by
  by_cases h : kind = 0
  · subst h
    rfl
  · simp only [State.inject, h, if_false]
    rfl

/-- R116, R364: an event to a Cabinet of the partition that is not parked is injected to the position that the map gives. -/
theorem sendEvent_of_mapped (hvalid : (s.mapEntryAt src key cab).valid = true) (hparked : (s.mapEntryAt src key cab).parked = false) :
    s.sendEvent src key cab payload = s.inject src (s.mapEntryAt src key cab).phys 0 key 0 payload := by
  simp [State.sendEvent, hvalid, hparked]

/-- Sending an event touches the mesh, the state of its source, and, for a parked Cabinet, an error's record. -/
theorem sendEvent_frame : (s.sendEvent src key cab payload).except [.logs, .net, .seqs, .sources, .regs .plc, .regs .intg] =
    s.except [.logs, .net, .seqs, .sources, .regs .plc, .regs .intg] := by simp

@[simp] theorem sendEvent_chans : (s.sendEvent src key cab payload).chans = s.chans := chans_of_except (sendEvent_frame ..) (by simp)

theorem sendEvent_rd {p : Page} (o : Nat) (hplc : p.blk ≠ .plc) (hintg : p.blk ≠ .intg) : (s.sendEvent src key cab payload).rd p o = s.rd p o :=
  rd_of_except (sendEvent_frame ..) p o (by simp [hplc, hintg])

end

/-! ## What a channel keeps of a release -/

section
variable (c : Chan) (f : Formed)

@[simp] theorem Chan.afterRelease_formed : (c.afterRelease f).formed = c.formed := by
  unfold Chan.afterRelease
  split <;> rfl

/-- R102: the release becomes the last one of its source. -/
theorem Chan.afterRelease_lastOf : (c.afterRelease f).lastOf f.src = some f.time := by
  have h : (c.afterRelease f).lastRel = SMap.set (fun _ => none) c.lastRel f.src (some f.time) := by
    unfold Chan.afterRelease
    split <;> rfl
  unfold Chan.lastOf
  rw [h, SMap.get_set_same]

end

section
variable (s : State) (n : Nat) (f : Formed)

/-- The state in which a formed event has left the queue of its channel. -/
def State.unqueue : State := s.setChan n { s.chan n with formed := (s.chan n).formed.erase f }

/-- The state in which the channel has taken the release into its history and its budget (R102, R106). -/
def State.noteRelease : State := (s.unqueue n f).setChan n (((s.unqueue n f).chan n).afterRelease f)

theorem unqueue_chan : (s.unqueue n f).chan n = { s.chan n with formed := (s.chan n).formed.erase f } := chan_setChan_same _ _ _

theorem unqueue_formed : ((s.unqueue n f).chan n).formed = (s.chan n).formed.erase f := by rw [unqueue_chan]

/-! The history, the budget, the projection entries and the payload of an event do not depend on the queue. -/

theorem unqueue_lastOf (src : Nat) : ((s.unqueue n f).chan n).lastOf src = (s.chan n).lastOf src := by
  rw [unqueue_chan]
  rfl

theorem unqueue_budgetOk : ((s.unqueue n f).chan n).budgetOk f = (s.chan n).budgetOk f := by
  rw [unqueue_chan]
  rfl

theorem unqueue_entries : ((s.unqueue n f).chan n).entries f = (s.chan n).entries f := by
  rw [unqueue_chan]
  rfl

theorem unqueue_formedPayload (legacy : Bool) (e : Word) :
    formedPayload legacy ((s.unqueue n f).chan n) f e = formedPayload legacy (s.chan n) f e := by
  rw [unqueue_chan]
  rfl

theorem noteRelease_formed : ((s.noteRelease n f).chan n).formed = (s.chan n).formed.erase f := by
  rw [State.noteRelease, chan_setChan_same, Chan.afterRelease_formed, unqueue_formed]

theorem noteRelease_lastOf : ((s.noteRelease n f).chan n).lastOf f.src = some f.time := by
  rw [State.noteRelease, chan_setChan_same, Chan.afterRelease_lastOf]

/-- R353: whether a source is silent does not depend on the channels. -/
theorem noteRelease_silent : (s.noteRelease n f).silent ((s.noteRelease n f).owner (chin n)) (0x120 + n) = s.silent (s.owner (chin n)) (0x120 + n) := rfl

/-! ## The command -/

/-- The state in which U_EVENTS of the event's unit counts the release too (R116). -/
def State.countRelease : State := (s.noteRelease n f).incCtr (chenc n) (0x094 + 0x40 * f.unit)

/-- A counted release has changed registers and channels, and nothing else. -/
theorem countRelease_eq : ∃ regs chans, s.countRelease n f = { s with regs, chans } := by
  unfold State.countRelease State.noteRelease State.unqueue State.incCtr State.addCtr State.wrN State.wr State.setChan
  exact ⟨_, _, rfl⟩

theorem countRelease_rd (hunit : f.unit < 8) (p : Page) {o : Nat} (h : o < 0x094) : (s.countRelease n f).rd p o = s.rd p o :=
  rd_incCtr_ne _ (by omega)

variable {s n f} {l : List Formed} (horder : releaseOrder (s.chan n).formed = f :: l) (hready : s.ready (chin n) = true)
  (hdue : f.time + s.encLat n + s.pairHold n ≤ s.now)
include horder hready hdue

/-- R106: a due event beyond its unit's budget leaves the queue and is counted as suppressed. -/
theorem exec_encoderEventRelease_suppressed (hb : (s.chan n).budgetOk f = false) :
    exec (.encoderEventRelease n) s = done ((s.unqueue n f).suppress n f.unit) := by
  have hu : s.setChan n { s.chan n with formed := (s.chan n).formed.erase f } = s.unqueue n f := rfl
  show execEncoderEventRelease n s = _
  simp only [execEncoderEventRelease, horder, hready, hdue, decide_true, Bool.and_self, if_true, hu, unqueue_budgetOk, hb, Bool.not_false]

/-- R103, R116: a due event of an unpaired channel that its budget allows is counted, and sent to its one projection entry. -/
theorem exec_encoderEventRelease_sent {e : Word} (hunit : f.unit < 8) (hb : (s.chan n).budgetOk f = true) (hpair : s.flag (chin n) 0x1A0 0 = false)
    (hsilent : s.silent (s.owner (chin n)) (0x120 + n) = false) (he : (s.chan n).entries f = [e]) (hv : e.bit 31 = true) :
    exec (.encoderEventRelease n) s = done ((s.countRelease n f).sendEvent (0x120 + n) (s.owner (chin n)) (e.bits 7 0)
      (formedPayload s.legacy (s.chan n) f e)) := by
  have hu : s.setChan n { s.chan n with formed := (s.chan n).formed.erase f } = s.unqueue n f := rfl
  have hnote : (s.unqueue n f).setChan n (((s.unqueue n f).chan n).afterRelease f) = s.noteRelease n f := rfl
  have hcount : (s.noteRelease n f).incCtr (chenc n) (0x094 + 0x40 * f.unit) = s.countRelease n f := rfl
  have hpair' : (s.unqueue n f).flag (chin n) 0x1A0 0 = false := hpair
  have howner : (s.countRelease n f).owner (chin n) = s.owner (chin n) := fld_of_rd (countRelease_rd s n f hunit _ (by decide)) 5 0
  have hlegacy : (s.countRelease n f).legacy = s.legacy := flag_of_rd (countRelease_rd s n f hunit _ (by decide)) 8
  show execEncoderEventRelease n s = _
  simp only [execEncoderEventRelease, horder, hready, hdue, decide_true, Bool.and_self, if_true, hu, unqueue_budgetOk, hb, Bool.not_true,
    Bool.false_eq_true, if_false, hpair', hnote, noteRelease_silent, hsilent, Bool.or_self, Nat.ne_of_lt hunit, hcount, unqueue_entries, he,
    List.foldl_cons, List.foldl_nil, hv, howner, hlegacy, unqueue_formedPayload]

end

/-! ## The statement -/

section
variable {s : State} {n : Nat} {f : Formed}

/-- R130: the flit of a counted release enters the mesh as from the state before the release. -/
theorem countRelease_sendEvent_net {key cab : Nat} (payload : Nat) (hvalid : (s.mapEntryAt (0x120 + n) key cab).valid = true)
    (hparked : (s.mapEntryAt (0x120 + n) key cab).parked = false) :
    ((s.countRelease n f).sendEvent (0x120 + n) key cab payload).net =
      s.net ++ [s.newHop (entryPort (0x120 + n)).1 (entryPort (0x120 + n)).2 false false (.ev ⟨(s.mapEntryAt (0x120 + n) key cab).phys, 0x120 + n, 0, key,
        SMap.get (fun _ => 0) s.seqs (s.pairKey key (0x120 + n) (s.mapEntryAt (0x120 + n) key cab).phys 0), 0, 0, payload⟩)] := by
  obtain ⟨regs, chans, h⟩ := countRelease_eq s n f
  rw [h, sendEvent_of_mapped { s with regs, chans } _ _ _ _ hvalid hparked, inject_vc0_net]
  rfl

/-- R116: U_EVENTS of the event's unit counts it, and the sending of the flit leaves the count. -/
theorem countRelease_sendEvent_count (src key cab payload : Nat) (hfr : s.ctrFrozen (chenc n) = false) :
    ((s.countRelease n f).sendEvent src key cab payload).rdN (chenc n) (0x094 + 0x40 * f.unit) =
      min (s.rdN (chenc n) (0x094 + 0x40 * f.unit) + 1) 4294967295 :=
  (rdN_of_rd (sendEvent_rd _ _ _ _ _ _ (by simp [chenc]) (by simp [chenc]))).trans (rdN_incCtr (s.noteRelease n f) (chenc n) _ hfr)

theorem countRelease_sendEvent_chan (src key cab payload : Nat) :
    ((s.countRelease n f).sendEvent src key cab payload).chan n = (s.noteRelease n f).chan n :=
  chan_of_chans ((sendEvent_chans _ _ _ _ _).trans (State.incCtr_chans _ _ _)) n

/-- R106: suppressing an event changes no channel. -/
theorem suppress_chan (u : Nat) : (s.suppress n u).chan n = s.chan n := rfl

/-- R106: U_SUPPRESSED of the unit counts the event. -/
theorem suppress_count {u : Nat} (hfr : s.ctrFrozen (chenc n) = false) :
    (s.suppress n u).rdN (chenc n) (0x098 + 0x40 * u) = min (s.rdN (chenc n) (0x098 + 0x40 * u) + 1) 4294967295 :=
  (rdN_of_rd (rd_raise_ne _ _ (by omega))).trans (rdN_incCtr s (chenc n) _ hfr)

theorem suppress_raised {u : Nat} (hu : u < 8) : (s.suppress n u).flag (chenc n) 0x010 u = true := flag_raise_same _ _ _ (by omega)

end

/-- Settles O14: a due event that its budget allows is noted, counted and sent in turn; one beyond the budget only leaves the queue and is counted. -/
theorem encoderEventsAreReleased : Obligations.EncoderEventsAreReleased := by
  unfold Obligations.EncoderEventsAreReleased
  refine fun n f l s horder hready hdue hunit hfr => ⟨fun e hb hpair hsilent he hv hvalid hparked => ?_, fun hb => ?_⟩
  · refine completes_done (exec_encoderEventRelease_sent horder hready hdue hunit hb hpair hsilent he hv) ⟨?_, ?_, ?_, ?_⟩
    · exact (congrArg Chan.formed (countRelease_sendEvent_chan ..)).trans (noteRelease_formed s n f)
    · exact (congrArg (Chan.lastOf · f.src) (countRelease_sendEvent_chan ..)).trans (noteRelease_lastOf s n f)
    · exact countRelease_sendEvent_count _ _ _ _ hfr
    · exact countRelease_sendEvent_net _ hvalid hparked
  · refine completes_done (exec_encoderEventRelease_suppressed horder hready hdue hb) ⟨?_, ?_, rfl, suppress_raised hunit, suppress_count hfr⟩
    · exact (congrArg Chan.formed (suppress_chan f.unit)).trans (unqueue_formed s n f)
    · exact (congrArg (Chan.lastOf · f.src) (suppress_chan f.unit)).trans (unqueue_lastOf s n f f.src)

end Sys2Proof.Machine

/-! # The expander's tables (R228, R231, R234, R235, R253 to R255, R302)

The statement of the family of 08_synapses.md on what changes the expander's tables. First the rules that the clauses share: numbers in memory after a
store, the rows of a Cabinet's expander, and writes to the stacks where no mirror stands. -/

namespace Sys2Proof.Machine

/-! ## Numbers in memory -/

section
variable {s t u : State} {a m lo n v : Nat}

theorem byte_of_mem (h : t.mem = s.mem) (c : Nat) : t.byte c = s.byte c := congrArg (SMap.get (fun _ => 0) · c) h

/-- A number in memory is the same where its bytes are. -/
theorem load_of_bytes (h : ∀ c, a ≤ c → c < a + n → t.byte c = s.byte c) : t.load a n = s.load a n := by
  induction n generalizing a with
  | zero => rfl
  | succ n ih =>
    unfold State.load
    rw [h a (by omega) (by omega), ih fun c h1 h2 => h c (by omega) (by omega)]

theorem load_of_mem (h : t.mem = s.mem) (a n : Nat) : t.load a n = s.load a n := load_of_bytes fun c _ _ => byte_of_mem h c

@[simp] theorem load_ans (s : State) (r : Resp) (a n : Nat) : (s.ans r).load a n = s.load a n := load_of_mem (State.ans_mem s r) a n

theorem load_lt (s : State) (a n : Nat) : s.load a n < 256 ^ n := by
  induction n generalizing a with
  | zero => exact Nat.one_pos
  | succ n ih =>
    have hb : (s.byte a).toNat < 256 := (s.byte a).isLt
    have hr := ih (a + 1)
    unfold State.load
    rw [Nat.pow_succ]
    omega

/-- A number just stored reads as its low bytes. -/
theorem load_store_same (s : State) (a n v : Nat) : (s.store a n v).load a n = v % 256 ^ n := by
  induction n generalizing s a v with
  | zero => exact (Nat.mod_one v).symm
  | succ n ih =>
    have hb : (s.store a (n + 1) v).byte a = BitVec.ofNat 8 v := by simpa using byte_store_in s a (n + 1) v 0 (by omega)
    have hr : (s.store a (n + 1) v).load (a + 1) n = v / 256 % 256 ^ n := ih _ _ _
    have hv : v % 256 ^ (n + 1) = v % 256 + 256 * (v / 256 % 256 ^ n) := by rw [Nat.pow_succ, Nat.mul_comm, Nat.mod_mul]
    rw [hv, State.load, hb, hr]
    rfl

theorem store_sameBut (s : State) (a n v : Nat) : s.sameBut (s.store a n v) a n := fun c h => byte_store_other s a n v c h

theorem sameBut_of_mem (h : t.mem = s.mem) : s.sameBut t lo n := fun c _ => byte_of_mem h c

theorem sameBut_trans (h : s.sameBut t lo n) (h' : t.sameBut u lo n) : s.sameBut u lo n := fun c hc => (h' c hc).trans (h c hc)

theorem sameBut_mono {lo' n' : Nat} (h : s.sameBut t lo n) (hlo : lo' ≤ lo) (hhi : lo + n ≤ lo' + n') : s.sameBut t lo' n' :=
  fun c hc => h c (by omega)

/-- A number off the bytes that changed is the same. -/
theorem load_of_sameBut (h : s.sameBut t lo n) (ha : a + m ≤ lo ∨ lo + n ≤ a) : t.load a m = s.load a m :=
  load_of_bytes fun c _ _ => h c (by omega)

/-! ## The stacks: who may write, and where the mirrors stand -/

variable {W : List Part} (h : t.except W = s.except W)
include h

theorem regCfg_of_except (hw : Part.regs .hut1 ∉ W) (i r : Nat) : t.regCfg i r = s.regCfg i r := rd_of_except h _ _ (by simpa using hw)

/-- R377: the mirrors stand where the regions' registers say. -/
theorem mirrorAt_of_except (hw : Part.regs .hut1 ∉ W) (a : Nat) : t.mirrorAt a = s.mirrorAt a := by
  unfold State.mirrorAt
  rw [regCfg_of_except h hw]

/-- R371: what a key may reach is a matter of the fuses and the regions' registers. -/
theorem stackDenied_of_except (hw : Part.regs .hut1 ∉ W) (key a : Nat) (sys : Bool) : t.stackDenied key a sys = s.stackDenied key a sys := by
  unfold State.stackDenied State.regionCount
  dsimp only
  rw [regCfg_of_except h hw, fuses_of_except h]

theorem spanDenied_of_except (hw : Part.regs .hut1 ∉ W) (key a n : Nat) : t.spanDenied key a n = s.spanDenied key a n := by
  unfold State.spanDenied
  rw [stackDenied_of_except h hw, stackDenied_of_except h hw]

end

section
variable {s : State} {a n v : Nat}

theorem stackPut_of_unmirrored (hm : s.mirrorAt a = none) : s.stackPut a n v = s.store a n v := by
  unfold State.stackPut
  rw [hm]

theorem stackPut_sameBut (hm : s.mirrorAt a = none) : s.sameBut (s.stackPut a n v) a n := by
  rw [stackPut_of_unmirrored hm]
  exact store_sameBut s a n v

@[simp] theorem stackPut_mirrorAt (s : State) (a n v c : Nat) : (s.stackPut a n v).mirrorAt c = s.mirrorAt c :=
  mirrorAt_of_except (State.stackPut_except (W := [.mem]) s a n v (by simp)) (by simp) c

/-- R371: the device's own write changes its bytes, or none where the region is another's. -/
theorem ownPut_sameBut (key : Nat) (hm : s.mirrorAt a = none) : s.sameBut (s.ownPut key a n v) a n := by
  unfold State.ownPut
  split
  · next c _ =>
    have hf : (s.isolate key a c).except [.logs, .regs .intg, .regs .hut0] = s.except [.logs, .regs .intg, .regs .hut0] := by simp
    exact sameBut_of_mem (mem_of_except hf (by simp))
  · exact stackPut_sameBut hm

/-- R371, R377: a unit's write that is not refused, of bytes of one region without a mirror, reads back. -/
theorem load_stackWrite_same (p key : Nat) (hd : s.spanDenied key a n = none) (hm : s.mirrorAt a = none) (hn : n ≤ 2 ^ 30 - a % 2 ^ 30) :
    (s.stackWrite p key a n v).2.load a n = v % 256 ^ n := by
  have hu : (s.undo p a n).mirrorAt a = none :=
    (mirrorAt_of_except (State.undo_except (W := [.mem, .journals]) s p a n (by simp) (by simp)) (by simp) a).trans hm
  have hsplit : (s.undo p a n).stackSplit a n v = (s.undo p a n).store a n v := (if_pos hn).trans (stackPut_of_unmirrored hu)
  have hcount : (((s.undo p a n).store a n v).countWrites a n).mem = ((s.undo p a n).store a n v).mem :=
    mem_of_except (State.countWrites_except (W := [.hutches]) _ a n (by simp)) (by simp)
  simp only [State.stackWrite, hd, hsplit]
  rw [load_of_mem hcount, load_store_same]

end

/-! ## What a Cabinet's expander holds -/

section
variable (s : State) (p : Nat)

@[simp] theorem cab_setCab_same (c : Cab) : (s.setCab p c).cab p = c := SMap.get_set_same _ _ _ _

@[simp] theorem xp_setXp_same (x : Xp) : (s.setXp p x).xp p = x := congrArg Cab.x (cab_setCab_same s p _)

@[simp] theorem setXp_mem (x : Xp) : (s.setXp p x).mem = s.mem := rfl

@[simp] theorem stat_mem (i : Nat) : (s.stat p i).mem = s.mem := rfl

@[simp] theorem xp_ans (r : Resp) : (s.ans r).xp p = s.xp p := rfl

theorem cab_of_cabs {s t : State} (h : t.cabs = s.cabs) (p : Nat) : t.cab p = s.cab p := congrArg (SMap.get (fun _ => Cab.reset) · p) h

theorem xp_of_cabs {s t : State} (h : t.cabs = s.cabs) (p : Nat) : t.xp p = s.xp p := congrArg Cab.x (cab_of_cabs h p)

/-- Table 9.5: a learning counter that goes up, with the rest of the expander as it was. -/
theorem xp_stat (i : Nat) : (s.stat p i).xp p =
    { s.xp p with stats := (s.xp p).stats.setIfInBounds i (min ((s.xp p).stats[i]?.getD 0 + 1) (2 ^ 32 - 1)) } := xp_setXp_same s p _

/-- R230: lines that are touched change the cache alone. -/
theorem xp_cacheUse (ls : List Nat) : (s.cacheUse p ls).xp p = { s.xp p with cache := ls.foldl (cacheTouch (s.xp p).pinned) (s.xp p).cache } :=
  xp_setXp_same s p _

end

/-! ## Epoch switches and pins (R228, R231) -/

section
variable {s : State} {p : Nat} {w : Word}

/-- R228: a write without ARM arms nothing. -/
theorem epochWrite_idle (hw : w.bit 1 = false) : epochWrite p w s = s := by
  simp [epochWrite, hw]

/-- R228: a switch time that safe time has not reached is taken. -/
theorem epochWrite_armed (hw : w.bit 1 = true) (h : s.safe p < s.rd64 (xpnd p) 0x048) :
    epochWrite p w s = (s.setXp p { s.xp p with epochAt := s.rd64 (xpnd p) 0x048 }).setFlag (xpnd p) 0x044 1 true := by
  simp [epochWrite, hw, Nat.not_le.mpr h]

/-- R228: one at or below safe time is refused. -/
theorem epochWrite_refused (hw : w.bit 1 = true) (h : s.rd64 (xpnd p) 0x048 ≤ s.safe p) : epochWrite p w s = s.err (xpnd p) 5 0x075 0 := by
  simp [epochWrite, hw, h]

end

section
variable (s : State) (p : Nat)

/-- R282, R286: a pass over the pin table changes registers of the scratchpad's page and the error logs. -/
theorem pinReads_frame (c : Nat) : (s.pinReads p c).except [.logs, .regs .intg, .regs .spad] = s.except [.logs, .regs .intg, .regs .spad] := by simp

/-- The pins of the active copy, and whether one was left out. -/
def State.activePins (s : State) (p : Nat) : List Nat × Bool := s.pinsFrom p (s.fld (xpnd p) 0x044 0 0) (s.pinEntries p (s.fld (xpnd p) 0x044 0 0)) []

/-- R231: the state in which the pinned lines have been fetched, before PIN_LINES shows them. -/
def State.pinsFetched (s : State) (p : Nat) : State :=
  let u := s.pinReads p (s.fld (xpnd p) 0x044 0 0)
  (u.setXp p { u.xp p with pinned := (s.activePins p).1 }).cacheUse p (s.activePins p).1

theorem applyPins_eq : s.applyPins p =
    let u := (s.pinsFetched p).wrN (xpnd p) 0x068 (s.activePins p).1.length
    if (s.activePins p).2 then u.raise (xpnd p) 4 else u := rfl

theorem pinsFetched_xp : ∃ cache, (s.pinsFetched p).xp p = { s.xp p with pinned := (s.activePins p).1, cache := cache } := by
  have hx : (s.pinReads p (s.fld (xpnd p) 0x044 0 0)).xp p = s.xp p := xp_of_cabs (cabs_of_except (pinReads_frame s p _) (by simp)) p
  refine ⟨(s.activePins p).1.foldl (cacheTouch (s.activePins p).1) (s.xp p).cache, ?_⟩
  unfold State.pinsFetched
  rw [xp_cacheUse, xp_setXp_same, hx]

theorem pinsFetched_rd (o : Nat) : (s.pinsFetched p).rd (xpnd p) o = s.rd (xpnd p) o := by
  have hf : (s.pinsFetched p).except [.logs, .cabs, .regs .intg, .regs .spad] = s.except [.logs, .cabs, .regs .intg, .regs .spad] := by
    simp [State.pinsFetched]
  exact rd_of_except hf _ o (by simp)

/-- R231: the pins that are in force change the pinned lines and the cache of the expander. -/
theorem applyPins_xp : ∃ cache, (s.applyPins p).xp p = { s.xp p with pinned := (s.activePins p).1, cache := cache } := by
  obtain ⟨cache, h⟩ := pinsFetched_xp s p
  refine ⟨cache, (xp_of_cabs ?_ p).trans h⟩
  rw [applyPins_eq]
  dsimp only
  split <;> simp

theorem applyPins_relocs : ((s.applyPins p).xp p).relocs = (s.xp p).relocs := by
  obtain ⟨cache, h⟩ := applyPins_xp s p
  rw [h]

@[simp] theorem applyPins_mem : (s.applyPins p).mem = s.mem :=
  mem_of_except (State.applyPins_except (W := [.logs, .cabs, .regs .intg, .regs .spad, .regs .xpnd]) s p (by simp) (by simp) (by simp) (by simp) (by simp))
    (by simp)

theorem applyPins_rd {o : Nat} (h : o % 4096 ≠ 0x068) (hi : o % 4096 ≠ 0x010) : (s.applyPins p).rd (xpnd p) o = s.rd (xpnd p) o := by
  rw [applyPins_eq, ← pinsFetched_rd s p o]
  dsimp only
  split
  · rw [rd_raise_ne _ _ (by omega), rd_wrN_ne _ _ (by omega)]
  · exact rd_wrN_ne _ _ (by omega)

/-- R231: the causes that stand stay. -/
theorem applyPins_flag {i : Nat} (h : s.flag (xpnd p) 0x010 i = true) : (s.applyPins p).flag (xpnd p) 0x010 i = true := by
  have hu : ((s.pinsFetched p).wrN (xpnd p) 0x068 (s.activePins p).1.length).flag (xpnd p) 0x010 i = true :=
    (flag_of_rd ((rd_wrN_ne _ _ (by decide)).trans (pinsFetched_rd s p 0x010)) i).trans h
  rw [applyPins_eq]
  dsimp only
  split
  · rw [flag_raise _ _ (by decide), hu, Bool.or_true]
  · exact hu

/-- R231: PIN_LINES shows how many lines are pinned. -/
theorem applyPins_count : (s.applyPins p).rdN (xpnd p) 0x068 = ((s.applyPins p).xp p).pinned.length % 2 ^ 32 := by
  obtain ⟨cache, h⟩ := applyPins_xp s p
  rw [h, applyPins_eq]
  dsimp only
  split
  · exact (rdN_of_rd (rd_raise_ne _ _ (by decide))).trans (rdN_wrN_same _ _ _ _)
  · exact rdN_wrN_same _ _ _ _

/-- R228: the state of an epoch switch whose pins are still to be applied: the copies have changed places. -/
def State.epochSwitched (s : State) (p : Nat) : State :=
  let u := (s.setFlag (xpnd p) 0x044 1 false).setFld (xpnd p) 0x044 0 0 (1 - s.fld (xpnd p) 0x044 0 0)
  (u.setXp p { u.xp p with epochPast := (s.xp p).epochAt }).raise (xpnd p) 5

variable {s p}

theorem exec_epochSwitch (hl : s.live p = true) (ha : s.flag (xpnd p) 0x044 1 = true) (ht : (s.xp p).epochAt < s.safe p) :
    exec (.epochSwitch p) s = done ((s.epochSwitched p).applyPins p) := if_pos (by simp [hl, ha, ht])

@[simp] theorem epochSwitched_mem (s : State) (p : Nat) : (s.epochSwitched p).mem = s.mem := by simp [State.epochSwitched]

/-- R228: the switch is no longer armed, and the other copy is active. -/
theorem epochSwitched_epoch : (s.epochSwitched p).flag (xpnd p) 0x044 1 = false ∧
    (s.epochSwitched p).fld (xpnd p) 0x044 0 0 = 1 - s.fld (xpnd p) 0x044 0 0 := by
  let u := (s.setFlag (xpnd p) 0x044 1 false).setFld (xpnd p) 0x044 0 0 (1 - s.fld (xpnd p) 0x044 0 0)
  have hrd : (s.epochSwitched p).rd (xpnd p) 0x044 = u.rd (xpnd p) 0x044 := rd_raise_ne _ _ (by decide)
  rw [flag_of_rd hrd, fld_of_rd hrd]
  refine ⟨(flag_setFld_other _ _ _ _ _ _ (by decide)).trans (flag_setFlag_same _ _ _ _ _ (by decide)), ?_⟩
  rw [fld_setFld_same _ _ _ _ _ _ (by decide) (by decide)]
  omega

end

/-! ## A relocation's copy (R253) -/

/-! ### Runs of writes -/

/-- A run of `k` writes of `m` bytes each, one behind the other from an address; the next value may depend on what the writes before it have left. -/
def State.putRun (s : State) (b m k : Nat) (g : State → Nat → Nat) : State := (List.range k).foldl (fun s i => s.stackPut (b + m * i) m (g s i)) s

section
variable (s : State) (b m k : Nat) (g : State → Nat → Nat)

theorem putRun_succ : s.putRun b m (k + 1) g = (s.putRun b m k g).stackPut (b + m * k) m (g (s.putRun b m k g) k) := by
  simp [State.putRun, List.range_succ]

@[simp] theorem putRun_mirrorAt (a : Nat) : (s.putRun b m k g).mirrorAt a = s.mirrorAt a :=
  foldl_keeps (fun t => t.mirrorAt a) _ _ (fun _ _ t => stackPut_mirrorAt t _ _ _ a) s

variable (hm : ∀ a, b ≤ a → s.mirrorAt a = none)
include hm

/-- Where no mirror stands, the run changes its own bytes alone. -/
theorem putRun_sameBut : s.sameBut (s.putRun b m k g) b (m * k) := by
  induction k with
  | zero => exact fun _ _ => rfl
  | succ k ih =>
    have hk : (s.putRun b m k g).mirrorAt (b + m * k) = none := (putRun_mirrorAt ..).trans (hm _ (by omega))
    rw [putRun_succ, Nat.mul_succ]
    exact sameBut_trans (sameBut_mono ih (Nat.le_refl b) (by omega)) (sameBut_mono (stackPut_sameBut hk) (by omega) (by omega))

/-- Each number of the run reads back as the one that was put there. -/
theorem load_putRun {i : Nat} (hi : i < k) : (s.putRun b m k g).load (b + m * i) m = g (s.putRun b m i g) i % 256 ^ m := by
  induction k with
  | zero => omega
  | succ k ih =>
    have hk : (s.putRun b m k g).mirrorAt (b + m * k) = none := (putRun_mirrorAt ..).trans (hm _ (by omega))
    rw [putRun_succ]
    obtain hlt | rfl := Nat.lt_succ_iff_lt_or_eq.mp hi
    · have := Nat.mul_le_mul_left m (Nat.succ_le_of_lt hlt)
      rw [Nat.mul_succ] at this
      rw [load_of_sameBut (stackPut_sameBut hk) (.inl (by omega)), ih hlt]
    · rw [stackPut_of_unmirrored hk, load_store_same]

end

/-! ### Writes inside a span -/

/-- The second state has come from the first by writes inside a span of memory; no mirror stands in it or behind it. -/
def State.builtIn (s u : State) (lo n : Nat) : Prop := s.sameBut u lo n ∧ ∀ a, lo ≤ a → u.mirrorAt a = none

section
variable {s u : State} {lo n b m k : Nat} (h : s.builtIn u lo n) (hb : lo ≤ b)
include h hb

theorem builtIn_stackPut (v : Nat) (he : b + m ≤ lo + n) : s.builtIn (u.stackPut b m v) lo n :=
  ⟨sameBut_trans h.1 (sameBut_mono (stackPut_sameBut (h.2 b hb)) hb he), fun a ha => (stackPut_mirrorAt ..).trans (h.2 a ha)⟩

theorem builtIn_putRun (g : State → Nat → Nat) (he : b + m * k ≤ lo + n) : s.builtIn (u.putRun b m k g) lo n :=
  ⟨sameBut_trans h.1 (sameBut_mono (putRun_sameBut u b m k g fun a ha => h.2 a (by omega)) hb he), fun a ha => (putRun_mirrorAt ..).trans (h.2 a ha)⟩

/-- What is copied from outside the span stands in it as it stood outside. -/
theorem load_copyRun {src i : Nat} (hi : i < k) (he : b + 2 * k ≤ lo + n) (hsrc : src + 2 * i + 2 ≤ lo ∨ lo + n ≤ src + 2 * i) :
    (u.putRun b 2 k fun t j => t.load (src + 2 * j) 2).load (b + 2 * i) 2 = s.load (src + 2 * i) 2 := by
  rw [load_putRun u b 2 k _ (fun a ha => h.2 a (by omega)) hi, load_of_sameBut (builtIn_putRun h hb _ (by omega)).1 hsrc]
  exact Nat.mod_eq_of_lt (load_lt s _ 2)

end

/-! ### The parts of a row -/

/-- R208: the words of a row end before its tags. -/
theorem le_rowTagAt (nwords : Nat) : 16 + 2 * nwords ≤ rowTagAt nwords := by
  unfold rowTagAt
  omega

/-- R208: the tags of a plastic row end with its lines. -/
theorem le_rowLines (nwords nent : Nat) : rowTagAt nwords + 2 * nent ≤ 64 * rowLines nwords nent true := by
  simp only [rowLines, if_true]
  omega

theorem nb_lt (x hi lo : Nat) : nb x hi lo < 2 ^ (hi + 1 - lo) := Nat.mod_lt _ (Nat.two_pow_pos _)

/-- R253: a row never loses an entry by growing. -/
theorem nent_le_grownEnts (s : State) (line : Nat) : (s.rowHdr line).nent ≤ grownEnts (s.rowHdr line) := by
  have hn : (s.rowHdr line).nent < 2 ^ 13 := nb_lt ..
  have hw : (s.rowHdr line).nwords < 2 ^ 14 := nb_lt ..
  generalize s.rowHdr line = h at hn hw
  have hg : 0 < 32 * 2 ^ h.gsize := Nat.mul_pos (by decide) (Nat.two_pow_pos _)
  have hup : h.nent ≤ (h.nent + 32 * 2 ^ h.gsize - 1) / (32 * 2 ^ h.gsize) * (32 * 2 ^ h.gsize) := by
    generalize 32 * 2 ^ h.gsize = g at hg
    have := Nat.div_add_mod (h.nent + g - 1) g
    have := Nat.mod_lt (h.nent + g - 1) hg
    rw [Nat.mul_comm]
    omega
  unfold grownEnts
  dsimp only
  omega

/-! ### The stages of a new row -/

section
variable (s : State) (old line n : Nat)

/-- R253: the words of the grown row. -/
def State.grownWords (s : State) (old n : Nat) : Nat := (s.rowHdr old).nwords + (n - (s.rowHdr old).nent)

/-- The new row's lines, cleared and then headed. -/
def State.rowHeaded (s : State) (old line n : Nat) : State :=
  let u := s.putRun (line * 64) 64 (rowLines (s.grownWords old n) n true) fun _ _ => 0
  u.stackPut (line * 64) 16 (grownHdr (u.load (old * 64) 16) n (s.rowHdr old))

/-- The new row with the words of the old one. -/
def State.rowWorded (s : State) (old line n : Nat) : State :=
  (s.rowHeaded old line n).putRun (wordAt line 0) 2 (s.rowHdr old).nwords fun t w => t.load (wordAt old 0 + 2 * w) 2

/-- The new row with the words of its vacant entries too. -/
def State.rowPadded (s : State) (old line n : Nat) : State :=
  (s.rowWorded old line n).putRun (wordAt line (s.rowHdr old).nwords) 2 (n - (s.rowHdr old).nent) fun _ _ => 63 * 64

theorem wordAt_add (v w : Nat) : wordAt line (v + w) = wordAt line v + 2 * w := by
  unfold wordAt
  omega

/-- R253: the tags come last. -/
theorem buildRow_eq : s.buildRow old line n = (s.rowPadded old line n).putRun (tagAt line (s.grownWords old n) 0) 2 (s.rowHdr old).nent
    fun t j => t.load (tagAt old (s.rowHdr old).nwords 0 + 2 * j) 2 := by
  unfold State.buildRow State.rowPadded
  simp only [wordAt_add]
  rfl

/-! ### What stands in the new row -/

variable {s old line n}
variable (hm : ∀ a, line * 64 ≤ a → s.mirrorAt a = none)
include hm

theorem rowHeaded_builtIn : s.builtIn (s.rowHeaded old line n) (line * 64) (64 * rowLines (s.grownWords old n) n true) := by
  have htags := le_rowTagAt (s.grownWords old n)
  have hlines := le_rowLines (s.grownWords old n) n
  exact builtIn_stackPut (builtIn_putRun ⟨fun _ _ => rfl, hm⟩ (Nat.le_refl _) _ (Nat.le_refl _)) (Nat.le_refl _) _ (by omega)

theorem rowWorded_builtIn : s.builtIn (s.rowWorded old line n) (line * 64) (64 * rowLines (s.grownWords old n) n true) := by
  have htags := le_rowTagAt (s.grownWords old n)
  have hlines := le_rowLines (s.grownWords old n) n
  have hw : (s.rowHdr old).nwords ≤ s.grownWords old n := Nat.le_add_right _ _
  exact builtIn_putRun (rowHeaded_builtIn hm) (by unfold wordAt; omega) _ (by unfold wordAt; omega)

theorem rowPadded_builtIn : s.builtIn (s.rowPadded old line n) (line * 64) (64 * rowLines (s.grownWords old n) n true) := by
  have htags := le_rowTagAt (s.grownWords old n)
  have hlines := le_rowLines (s.grownWords old n) n
  have hw : s.grownWords old n = (s.rowHdr old).nwords + (n - (s.rowHdr old).nent) := rfl
  exact builtIn_putRun (rowWorded_builtIn hm) (by unfold wordAt; omega) _ (by unfold wordAt; omega)

variable (hn : (s.rowHdr old).nent ≤ n)
include hn

/-- R253: building a row changes the bytes of the new row alone. -/
theorem buildRow_builtIn : s.builtIn (s.buildRow old line n) (line * 64) (64 * rowLines (s.grownWords old n) n true) := by
  have hlines := le_rowLines (s.grownWords old n) n
  rw [buildRow_eq]
  exact builtIn_putRun (rowPadded_builtIn hm) (by unfold tagAt; omega) _ (by unfold tagAt; omega)

omit hn in
/-- The tags lie behind the words, and leave them as they are. -/
theorem buildRow_word {w : Nat} (hw : w < s.grownWords old n) :
    (s.buildRow old line n).load (wordAt line w) 2 = (s.rowPadded old line n).load (wordAt line w) 2 := by
  have htags := le_rowTagAt (s.grownWords old n)
  rw [buildRow_eq]
  exact load_of_sameBut (putRun_sameBut _ _ _ _ _ fun a ha => (rowPadded_builtIn hm).2 a (by unfold tagAt at ha; omega))
    (.inl (by unfold wordAt tagAt; omega))

omit hn in
/-- R253: the entries appended to the row are vacant. -/
theorem buildRow_vacant {w : Nat} (hlo : (s.rowHdr old).nwords ≤ w) (hw : w < s.grownWords old n) :
    (s.buildRow old line n).load (wordAt line w) 2 = 63 * 64 := by
  have hg : s.grownWords old n = (s.rowHdr old).nwords + (n - (s.rowHdr old).nent) := rfl
  obtain ⟨i, rfl⟩ := Nat.exists_eq_add_of_le hlo
  rw [buildRow_word hm hw, wordAt_add]
  exact load_putRun _ _ _ _ _ (fun a ha => (rowWorded_builtIn hm).2 a (by unfold wordAt at ha; omega)) (by omega)

variable (hoff : old * 64 + 64 * rowLines (s.rowHdr old).nwords (s.rowHdr old).nent true ≤ line * 64 ∨
  line * 64 + 64 * rowLines (s.grownWords old n) n true ≤ old * 64)
include hoff

omit hn in
/-- R253: the words of the old row keep their index. -/
theorem buildRow_oldWord {w : Nat} (hw : w < (s.rowHdr old).nwords) :
    (s.buildRow old line n).load (wordAt line w) 2 = s.load (wordAt old w) 2 := by
  have htags := le_rowTagAt (s.rowHdr old).nwords
  have hlines := le_rowLines (s.rowHdr old).nwords (s.rowHdr old).nent
  have htags' := le_rowTagAt (s.grownWords old n)
  have hlines' := le_rowLines (s.grownWords old n) n
  have hg : (s.rowHdr old).nwords ≤ s.grownWords old n := Nat.le_add_right _ _
  have hpad : (s.rowPadded old line n).load (wordAt line w) 2 = (s.rowWorded old line n).load (wordAt line w) 2 :=
    load_of_sameBut (putRun_sameBut _ _ _ _ _ fun a ha => (rowWorded_builtIn hm).2 a (by unfold wordAt at ha; omega)) (.inl (by unfold wordAt; omega))
  have hcopy := load_copyRun (b := wordAt line 0) (src := wordAt old 0) (rowHeaded_builtIn (old := old) (n := n) hm) (by unfold wordAt; omega) hw
    (by unfold wordAt; omega) (by unfold wordAt; omega)
  rw [← wordAt_add, ← wordAt_add, Nat.zero_add] at hcopy
  rw [buildRow_word hm (by omega), hpad]
  exact hcopy

/-- R253: so do its tags. -/
theorem buildRow_oldTag {j : Nat} (hj : j < (s.rowHdr old).nent) :
    (s.buildRow old line n).load (tagAt line (s.grownWords old n) j) 2 = s.load (tagAt old (s.rowHdr old).nwords j) 2 := by
  have hlines := le_rowLines (s.rowHdr old).nwords (s.rowHdr old).nent
  have hlines' := le_rowLines (s.grownWords old n) n
  rw [buildRow_eq]
  exact load_copyRun (src := tagAt old (s.rowHdr old).nwords 0) (rowPadded_builtIn (old := old) (n := n) hm) (by unfold tagAt; omega) hj
    (by unfold tagAt; omega) (by unfold tagAt; omega)

end

/-! ### The command -/

section
variable {s : State} {p axon l : Nat} {r : Reloc}

/-- R253: while a line of the old row comes back uncorrected, nothing is built (log entry 27). -/
theorem exec_relocationCopy_unread {bad : List Nat} (h : ∃ i ∈ dirRowLines (s.dirEntry p axon), i ∈ bad) : exec (.relocationCopy p axon bad) s = done s := by
  obtain ⟨i, hi, hb⟩ := h
  exact if_pos (List.any_eq_true.mpr ⟨i, hi, by simp [hb]⟩)

/-- The state in which the one relocation of an expander has become `r`. -/
def State.setReloc (s : State) (p : Nat) (r : Reloc) : State := s.setXp p { s.xp p with relocs := [r] }

@[simp] theorem setReloc_relocs (s : State) (p : Nat) (r : Reloc) : ((s.setReloc p r).xp p).relocs = [r] := by
  rw [State.setReloc, xp_setXp_same]

theorem load_setReloc (s : State) (p : Nat) (r : Reloc) (a n : Nat) : (s.setReloc p r).load a n = s.load a n :=
  load_of_mem (setXp_mem s p _) a n

/-- While no line of the row is lost, the engine reads it. -/
theorem row_readable (h : ∀ i ∈ dirRowLines (s.dirEntry p axon), s.lineLost (i * 64) = false) :
    ¬((dirRowLines (s.dirEntry p axon)).any fun i => [].contains i || s.lineLost (i * 64)) = true := by
  simpa using h

variable {old n : Nat} (hr : (s.xp p).relocs = [r]) (hra : r.axon = axon) (hc : r.copy = none)
  (hread : ∀ i ∈ dirRowLines (s.dirEntry p axon), s.lineLost (i * 64) = false)
  (hold : dirRow (s.dirEntry p axon) = old) (hn : grownEnts (s.rowHdr old) = n)
include hr hra hc hread hold hn

/-- R253: with space for the grown row, it is built there, and the relocation notes the place. -/
theorem exec_relocationCopy_grown (hne : n ≠ (s.rowHdr old).nent) (hl : s.rowPlace p old (rowLines (s.grownWords old n) n true) = some l) :
    exec (.relocationCopy p axon []) s =
      done ((s.buildRow old l n).setReloc p { r with copy := some (l, rowLines (s.grownWords old n) n true), grown := true }) := by
  unfold State.grownWords at hl ⊢
  refine (if_neg (row_readable hread)).trans ?_
  simp [State.setReloc, hr, hra, hc, hold, hn, hne, hl]

/-- R253: without, the row stays where it is. -/
theorem exec_relocationCopy_kept (h : n = (s.rowHdr old).nent ∨ s.rowPlace p old (rowLines (s.grownWords old n) n true) = none) :
    exec (.relocationCopy p axon []) s = done ((s.stat p 8).setReloc p { r with copy := some (old, dirLen (s.dirEntry p axon)) }) := by
  have hd : (s.stat p 8).dirEntry p axon = s.dirEntry p axon := rfl
  have hplace : (if n = (s.rowHdr old).nent then none else s.rowPlace p old (rowLines (s.grownWords old n) n true)) = none := by
    split
    · rfl
    · next hne => exact h.resolve_left hne
  unfold State.grownWords at hplace
  refine (if_neg (row_readable hread)).trans ?_
  simp [State.setReloc, hr, hra, hc, hold, hn, hplace, hd]

end

/-! ## The expander's own writes of the stacks (R230) -/

section
variable (s : State) (p : Nat)

/-- A learning write changes memory, the journal and the records of the Hutch. -/
theorem learnPut_frame (a n v : Nat) : (s.learnPut p a n v).except [.mem, .logs, .hutches, .journals, .regs .intg, .regs .hut0] =
    s.except [.mem, .logs, .hutches, .journals, .regs .intg, .regs .hut0] := by simp

theorem learnPut_xp (a n v : Nat) : (s.learnPut p a n v).xp p = s.xp p := xp_of_cabs (cabs_of_except (learnPut_frame s p a n v) (by simp)) p

variable {s}

theorem load_learnPut_same {a n v : Nat} (hd : s.spanDenied (s.cabKey p) a n = none) (hm : s.mirrorAt a = none) (hn : n ≤ 2 ^ 30 - a % 2 ^ 30) :
    (s.learnPut p a n v).load a n = v % 256 ^ n := load_stackWrite_same p (s.cabKey p) hd hm hn

/-- So it does after a learning counter has gone up. -/
theorem load_learnPut_stat {a n v : Nat} (i : Nat) (hd : s.spanDenied (s.cabKey p) a n = none) (hm : s.mirrorAt a = none)
    (hn : n ≤ 2 ^ 30 - a % 2 ^ 30) : ((s.stat p i).learnPut p a n v).load a n = v % 256 ^ n := by
  have hf : (s.stat p i).except [.cabs] = s.except [.cabs] := by simp
  have hkey : (s.stat p i).cabKey p = s.cabKey p := rfl
  exact load_learnPut_same p ((spanDenied_of_except hf (by simp) _ _ _).trans (hkey ▸ hd)) ((mirrorAt_of_except hf (by simp) a).trans hm) hn

/-- Whether a row is being copied is a matter of the expander's relocations. -/
theorem relocLine_of_xp {t : State} {p : Nat} (h : (t.xp p).relocs = (s.xp p).relocs) (axon : Nat) : t.relocLine p axon = s.relocLine p axon := by
  unfold State.relocLine
  rw [h]

/-- R234: while no copy of the row is in progress, a tag is written in the row alone. -/
theorem putTag_unrelocated {axon : Nat} (h : s.relocLine p axon = none) (line j v : Nat) :
    s.putTag p axon line j v = s.learnPut p (tagAt line (s.rowHdr line).nwords j) 2 v := by
  have hr := (relocLine_of_xp (congrArg Xp.relocs (learnPut_xp s p (tagAt line (s.rowHdr line).nwords j) 2 v)) axon).trans h
  simp only [State.putTag, hr]

end

/-! ## A relocation's end (R234, R235) -/

section
variable {s : State} {p axon : Nat} {r : Reloc}

/-- R235: the relocations of an expander once the copy of `r` is complete. -/
def Xp.relocDone (x : Xp) (r : Reloc) : Xp := { x with relocs := x.relocs.map fun q => if q = r then { q with done := true } else q }

/-- R235: does the first event of the plastic hold wait for a relocation that is not done? -/
def Xp.relocWaited (x : Xp) : Bool :=
  match firstOf x.hold with
  | some ev => (match x.relocFor ev with | some q => !q.done | none => false)
  | none => false

theorem exec_relocDone (h : (s.xp p).relocs.find? (fun q => q.axon = axon && q.copy.isSome && !q.done) = some r) :
    exec (.relocDone p axon) s = done (((s.setXp p ((s.xp p).relocDone r)).setFlag (xpnd p) 0x00C 4
      (s.flag (xpnd p) 0x00C 4 && ((s.xp p).relocDone r).relocWaited)).raise (xpnd p) 6) := by
  show execRelocDone p axon s = _
  simp only [execRelocDone, h]
  rfl

/-- R235: a complete copy is noted, its cause is raised, and RELOC_WAIT stays only for an event that waits still. -/
theorem completes_relocDone (h : (s.xp p).relocs.find? (fun q => q.axon = axon && q.copy.isSome && !q.done) = some r) :
    Completes (.relocDone p axon) s fun t => (t.xp p).relocs = ((s.xp p).relocDone r).relocs ∧
      t.flag (xpnd p) 0x00C 4 = (s.flag (xpnd p) 0x00C 4 && ((s.xp p).relocDone r).relocWaited) ∧ t.flag (xpnd p) 0x010 6 = true ∧ t.mem = s.mem := by
  refine completes_done (exec_relocDone h) ?_
  rw [xp_ans, flag_ans, flag_ans, State.ans_mem]
  refine ⟨?_, ?_, flag_raise_same _ _ _ (by decide), by simp⟩
  · exact congrArg Xp.relocs (xp_setXp_same s p _)
  · rw [flag_of_rd (rd_raise_ne _ _ (by decide)), flag_setFlag_same _ _ _ _ _ (by decide)]

/-- With no copy left in progress, no event waits for one. -/
theorem relocWaited_of_done {x : Xp} (h : ∀ q ∈ x.relocs, q.done = true) : x.relocWaited = false := by
  unfold Xp.relocWaited
  split
  · split
    · next hq => simp [h _ (List.mem_of_find?_eq_some hq)]
    · rfl
  · rfl

theorem relocWaited_of_waiting {x : Xp} {ev : Evt} {q : Reloc} (hev : firstOf x.hold = some ev) (hq : x.relocFor ev = some q) (hd : q.done = false) :
    x.relocWaited = true := by
  simp [Xp.relocWaited, hev, hq, hd]

end

section
variable (s : State) (p axon l n : Nat) (r : Reloc)

/-- The place of an axon's directory entry. -/
def State.dirEntryAt (s : State) (p axon : Nat) : Nat := s.dirLineOf p axon * 64 + 8 * (axon % 8)

/-- R234: the directory entry of an axon whose row has moved to `n` lines at line `l`. -/
def movedEntry (d l n : Nat) : Nat := d - d % 2 ^ 43 + l % 2 ^ 31 + n % 4096 * 2 ^ 31

/-- R234: the installation up to its write of the directory. -/
def State.entryMoved (s : State) (p axon l n : Nat) : State :=
  (s.incCtr (xpnd p) 0x090).learnPut p (s.dirEntryAt p axon) 8 (movedEntry (s.dirEntry p axon) l n)

/-- R234: the installation up to the pins: the relocation has ended, and no line of the old row is in the cache. -/
def State.rowInstalled (s : State) (p axon l n : Nat) (r : Reloc) : State :=
  let x := (s.entryMoved p axon l n).xp p
  (s.entryMoved p axon l n).setXp p
    { x with relocs := x.relocs.erase r, cache := x.cache.filter fun c => !(dirRowLines (s.dirEntry p axon)).contains c }

theorem entryMoved_xp : (s.entryMoved p axon l n).xp p = s.xp p :=
  (learnPut_xp ..).trans (xp_of_cabs (State.incCtr_cabs ..) p)

theorem rowInstalled_xp : (s.rowInstalled p axon l n r).xp p =
    { s.xp p with relocs := (s.xp p).relocs.erase r, cache := (s.xp p).cache.filter fun c => !(dirRowLines (s.dirEntry p axon)).contains c } := by
  rw [State.rowInstalled, xp_setXp_same, entryMoved_xp]

theorem movedEntry_lt {d : Nat} (h : d < 2 ^ 64) : movedEntry d l n < 2 ^ 64 := by
  unfold movedEntry
  omega

/-- R234: where the Cabinet's own write of its directory is not refused, the entry names the new row. -/
theorem load_rowInstalled (hd : s.spanDenied (s.cabKey p) (s.dirEntryAt p axon) 8 = none) (hm : s.mirrorAt (s.dirEntryAt p axon) = none)
    (hn : 8 ≤ 2 ^ 30 - s.dirEntryAt p axon % 2 ^ 30) :
    (s.rowInstalled p axon l n r).load (s.dirEntryAt p axon) 8 = movedEntry (s.dirEntry p axon) l n := by
  have hf : (s.incCtr (xpnd p) 0x090).except [.regs .xpnd] = s.except [.regs .xpnd] := by simp
  have hkey : (s.incCtr (xpnd p) 0x090).cabKey p = s.cabKey p := fld_of_rd (rd_of_except hf (cctl p) 0x028 (by simp)) 5 0
  rw [State.rowInstalled, load_of_mem (setXp_mem _ p _), State.entryMoved, load_learnPut_same p
    ((spanDenied_of_except hf (by simp) _ _ _).trans (hkey ▸ hd)) ((mirrorAt_of_except hf (by simp) _).trans hm) hn]
  exact Nat.mod_eq_of_lt (movedEntry_lt l n (load_lt s _ 8))

variable {s p axon l n r}

/-- R234: at its time, with nothing of the row before it left to walk, the relocation is installed. -/
theorem exec_relocationInstall (hr : (s.xp p).relocs = [r]) (hra : r.axon = axon) (hdone : r.done = true) (hc : r.copy = some (l, n))
    (hg : r.grown = true) (hl : s.live p = true) (ht : s.r200 p r.ti = true)
    (he : ∀ e ∈ (s.xp p).hold ++ s.unheld p, e.axon = axon → e.type = 2 ∨ r.ti ≤ e.time) (hw : ∀ w ∈ (s.xp p).waits, w.ev.axon ≠ axon) :
    exec (.relocationInstall p axon) s = done (if (dirRowLines (s.dirEntry p axon)).any (s.xp p).pinned.contains
      then (s.rowInstalled p axon l n r).applyPins p else s.rowInstalled p axon l n r) := by
  have hfind : (s.xp p).relocs.find? (fun q => q.axon = axon && q.done) = some r := by simp [hr, hra, hdone]
  have hev : ((s.xp p).hold ++ s.unheld p).any (fun e => e.axon = axon && e.type ≠ 2 && decide (e.time < r.ti)) = false := by
    refine List.any_eq_false.mpr fun e hmem => ?_
    have := he e hmem
    simp only [Bool.and_eq_true, decide_eq_true_eq, not_and]
    omega
  have hwait : (s.xp p).waits.any (fun w => w.ev.axon = axon) = false := List.any_eq_false.mpr fun w hmem => by simpa using hw w hmem
  rw [← entryMoved_xp s p axon l n]
  show execRelocationInstall p axon s = _
  simp only [execRelocationInstall, hfind, hl, ht, hev, hwait, hc, hg, Bool.not_true, Bool.or_self, Bool.false_eq_true, if_false, if_true]
  rfl

end

/-! ## Consolidation markers (R254) -/

section
variable {s : State} {p : Nat} {a : Arrival}

/-- R254: a CONSOLIDATE that a refusal ends answers STALE_EPOCH. -/
theorem markerAnswer_stale {m : MbCmd} (hm : m ∈ (s.markerAnswer p false).mbox) : m ∈ s.mbox ∨ m.status = .staleEpoch := by
  obtain ⟨m', hm', rfl⟩ := List.mem_map.mp hm
  split
  · exact .inr rfl
  · exact .inl hm'

/-- The time that a marker's flit carries. -/
def Arrival.markerTime (a : Arrival) (now : Nat) : Nat := rebuild (nb a.flit.payload 119 72) now

variable (ha : s.inbox.find? (fun a => a.dest = p && a.flit.kind = 5 && nb a.flit.payload 127 120 = 0x20) = some a)
include ha

theorem exec_consolidationMarker_stale (h : a.markerTime s.now ≤ s.safe p) :
    exec (.consolidationMarker p) s = done ({ s with inbox := s.inbox.erase a }.markerAnswer p false) := by
  show execConsolidationMarker p s = _
  simp only [execConsolidationMarker, ha]
  exact if_pos h

theorem exec_consolidationMarker_taken (h : s.safe p < a.markerTime s.now) :
    exec (.consolidationMarker p) s = done (({ s with inbox := s.inbox.erase a }.setXp p
      { s.xp p with marker := (s.xp p).marker ++ [a.markerTime s.now] }).markerAnswer p true) := by
  show execConsolidationMarker p s = _
  simp only [execConsolidationMarker, ha]
  exact if_neg (Nat.not_le.mpr h)

end

/-! ## The processing of a marker (R255, R256) -/

section
variable (s : State) (p : Nat)

/-- Which markers wait, and how many have been processed (Table 9.5). -/
def Xp.markers (x : Xp) : List Nat × Option Nat := (x.marker, x.stats[10]?)

theorem markers_inj {x y : Xp} (h : x.markers = y.markers) : x.marker = y.marker ∧ x.stats[10]? = y.stats[10]? := Prod.mk.inj h

/-- Another learning counter that goes up leaves the markers. -/
theorem stat_markers {i : Nat} (h : i ≠ 10) : ((s.stat p i).xp p).markers = (s.xp p).markers := by
  rw [xp_stat]
  simp [Xp.markers, h]

theorem putTag_xp (axon line j v : Nat) : (s.putTag p axon line j v).xp p = s.xp p :=
  xp_of_cabs (cabs_of_except (State.putTag_except (W := [.mem, .logs, .hutches, .journals, .regs .intg, .regs .hut0]) s p axon line j v
    (by simp) (by simp) (by simp) (by simp) (by simp) (by simp)) (by simp)) p

theorem putWord_xp (axon line w v : Nat) : (s.putWord p axon line w v).xp p = s.xp p :=
  xp_of_cabs (cabs_of_except (State.putWord_except (W := [.mem, .logs, .hutches, .journals, .regs .intg, .regs .hut0]) s p axon line w v
    (by simp) (by simp) (by simp) (by simp) (by simp) (by simp)) (by simp)) p

theorem storeErrs_xp (ecc : StoreEcc) (ns : List Nat) : (s.storeErrs p ecc ns).xp p = s.xp p :=
  xp_of_cabs (cabs_of_except (State.storeErrs_except (W := [.logs, .faultReports, .regs .intg, .regs .spad, .regs .drw]) s p ecc ns
    (by simp) (by simp) (by simp) (by simp) (by simp)) (by simp)) p

theorem statsWrite_xp : (s.statsWrite p).xp p = s.xp p :=
  xp_of_cabs (cabs_of_except (State.statsWrite_except (W := [.mem, .logs, .regs .intg, .regs .hut0]) s p (by simp) (by simp) (by simp) (by simp))
    (by simp)) p

/-- R255: one tag at the marker leaves the markers. -/
theorem markTag_markers (tc axon : Nat) (h : RowHdr) (line : Nat) (post : StoreEcc) (e : RowEnt) :
    ((s.markTag p tc axon h line post e).xp p).markers = (s.xp p).markers := by
  unfold State.markTag
  dsimp only
  split
  · rfl
  split
  · rfl
  rw [putTag_xp]
  (split <;> split) <;> simp [putWord_xp, stat_markers]

/-- R255: the tags of the Cabinet's plastic rows at a marker. -/
def State.tagsMarked (s : State) (p tc : Nat) (ecc : StoreEcc) : State :=
  let u := s.storeErrs p ecc (s.taggedPosts p)
  (u.plasticAxons p).foldl (fun t a =>
    (t.rowEnts (dirRow (t.dirEntry p a))).foldl
      (fun t' e => t'.markTag p tc a (t.rowHdr (dirRow (t.dirEntry p a))) (dirRow (t.dirEntry p a)) ecc e) t) u

theorem tagsMarked_markers (tc : Nat) (ecc : StoreEcc) : ((s.tagsMarked p tc ecc).xp p).markers = (s.xp p).markers := by
  unfold State.tagsMarked
  dsimp only
  rw [foldl_keeps (fun t : State => (t.xp p).markers) _ _ fun a _ t => foldl_keeps (fun t : State => (t.xp p).markers) _ _ (fun e _ u => markTag_markers ..) t,
    storeErrs_xp]

/-- R254, R256: the processing of a marker up to the statistics line: the tags, the marker and the counter. -/
def State.markerCounted (s : State) (p tc : Nat) (ecc : StoreEcc) : State :=
  let u := s.tagsMarked p tc ecc
  (u.setXp p { u.xp p with marker := (u.xp p).marker.erase tc }).stat p 10

/-- R254, R256: the whole of it. -/
def State.markerDone (s : State) (p tc : Nat) (ecc : StoreEcc) : State := (s.markerCounted p tc ecc).statsWrite p

/-- R254: the marker is waiting no longer. -/
theorem markerDone_marker (tc : Nat) (ecc : StoreEcc) : ((s.markerDone p tc ecc).xp p).marker = (s.xp p).marker.erase tc := by
  have h := (markers_inj (tagsMarked_markers s p tc ecc)).1
  unfold State.markerDone State.markerCounted
  rw [statsWrite_xp, xp_stat, xp_setXp_same, h]

/-- Table 9.5: it is counted. -/
theorem markerDone_stats (tc : Nat) (ecc : StoreEcc) :
    ((s.markerDone p tc ecc).xp p).stats[10]?.getD 0 = min ((s.xp p).stats[10]?.getD 0 + 1) (2 ^ 32 - 1) := by
  have h := (markers_inj (tagsMarked_markers s p tc ecc)).2
  unfold State.markerDone State.markerCounted
  rw [statsWrite_xp, xp_stat, xp_setXp_same, h]
  simp

variable {s p} {tc : Nat} (ecc : StoreEcc)

theorem exec_markerProcess (hm : (s.xp p).marker.min? = some tc) (hl : s.live p = true) (hs : s.unitStalled p 7 = false) (ht : s.r200 p tc = true)
    (he : ∀ e ∈ (s.xp p).hold ++ s.unheld p, tc < e.time) (hw : (s.xp p).waits = []) :
    exec (.markerProcess ⟨p, ecc⟩) s = done (s.markerDone p tc ecc) := by
  have hev : ((s.xp p).hold ++ s.unheld p).any (fun e => decide (e.time ≤ tc)) = false :=
    List.any_eq_false.mpr fun e hmem => by simpa using he e hmem
  show execMarkerProcess ⟨p, ecc⟩ s = _
  simp only [execMarkerProcess, hm, hl, hs, ht, hev, hw, Bool.not_true, Bool.or_self, List.isEmpty_nil, Bool.false_eq_true, if_false]
  rfl

end

/-! ### The one tag of a Cabinet (R255) -/

section
variable {s : State} {p : Nat}

/-- With every Drawer's banks ON and a clean store, the post reads record nothing. -/
theorem storeErrs_clean {ns : List Nat} (d : Nat) (h : ∀ n ∈ ns, s.drwBanks p (n / 8192 % 4) = true) : s.storeErrs p ⟨d, .clean⟩ ns = s := by
  have hfold : ((ns.map fun n => n / 8192 % 4).eraseDups.foldl (fun t d => if t.drwBanks p d then t else t.drwBankErr p d) s) = s := by
    refine List.foldlRecOn (motive := (· = s)) _ _ rfl fun t ht d hd => ?_
    obtain ⟨n, hn, rfl⟩ := List.mem_map.mp (List.mem_eraseDups.mp hd)
    rw [ht, if_pos (h n hn)]
  unfold State.storeErrs
  dsimp only
  rw [hfold]
  exact ite_self s

/-- R246: with no reward in the history, a tag consolidates to the code that stands. -/
theorem consolidate_of_no_history (h : (s.xp p).history = []) (code tag tt t rl j axon : Nat) :
    s.consolidate p code tag tt t rl j axon = (code, false) := by
  simp [State.consolidate, h]

/-- R255: then the marker counts the tag, and leaves it idle or zero. -/
theorem markTag_unrewarded {tc axon line : Nat} {h : RowHdr} {post : StoreEcc} {e : RowEnt} (hok : s.postOk p post e.tgt = true) (hdc : e.dcode ≠ 63)
    (htgt : e.tgt < 32768) (htag : (s.load (tagAt line h.nwords e.j) 2).testBit 15 = true) (hpost : (s.postRead p e.tgt tc).2.1 = true)
    (hrule : ruleValid (s.rule p (s.postRead p e.tgt tc).1) = true) (hh : (s.xp p).history = []) :
    s.markTag p tc axon h line post e = (s.stat p 1).putTag p axon line e.j
      (if e.code = cbZero (s.codebook p (h.cbbase + rowGroup h e.j)) then 2 ^ 14 + tc / 2 ^ nb (s.rule p (s.postRead p e.tgt tc).1) 92 88 % 2 ^ 14 else 0) := by
  have hle : ¬32767 < e.tgt := by omega
  have hcb : (s.stat p 1).codebook p (h.cbbase + rowGroup h e.j) = s.codebook p (h.cbbase + rowGroup h e.j) := rfl
  simp [State.markTag, hok, hdc, hle, htag, hpost, hrule, consolidate_of_no_history hh, hcb]

/-- A 16-bit tag from 2^15 on is valid. -/
theorem tag_valid {tag : Nat} (hlo : 2 ^ 15 ≤ tag) (hhi : tag < 2 ^ 16) : tag.testBit 15 = true := by
  rw [Nat.testBit_eq_decide_div_mod_eq]
  exact decide_eq_true (by omega)

/-- R240: the learning block stands where the expander's registers say. -/
theorem learnAt_of_except {t : State} {W : List Part} (h : t.except W = s.except W) (hw : Part.regs .xpnd ∉ W) (p : Nat) :
    t.learnAt p = s.learnAt p := by
  unfold State.learnAt State.dirLine
  rw [fld_of_rd (rd_of_except h (xpnd p) 0x050 (by simpa using hw)) 30 0]

/-- R256: the statistics line is all that its writing changes. -/
theorem statsWrite_sameBut (hm : ∀ i, s.mirrorAt i = none) : s.sameBut (s.statsWrite p) (s.learnAt p + 1024) 44 := by
  refine (List.foldlRecOn (motive := fun t => s.sameBut t (s.learnAt p + 1024) 44 ∧
    t.except [.mem, .logs, .regs .intg, .regs .hut0] = s.except [.mem, .logs, .regs .intg, .regs .hut0]) _ _ ⟨fun _ _ => rfl, rfl⟩
    fun t ht i hi => ?_).1
  obtain ⟨hb, hf⟩ := ht
  have hi : i < 11 := List.mem_range.mp hi
  have hat : t.learnAt p = s.learnAt p := learnAt_of_except hf (by simp) p
  have hown := ownPut_sameBut (s := t) (a := t.learnAt p + 64 * 16 + 4 * i) (n := 4) (v := (t.xp p).stats[i]?.getD 0) (t.cabKey p)
    ((mirrorAt_of_except hf (by simp) _).trans (hm _))
  exact ⟨sameBut_trans hb (sameBut_mono hown (by omega) (by omega)), Eq.trans (by simp) hf⟩

/-- R255: the tags' marking leaves the expander's registers and the regions' registers. -/
theorem tagsMarked_frame (tc : Nat) (ecc : StoreEcc) :
    (s.tagsMarked p tc ecc).except [.mem, .logs, .faultReports, .cabs, .hutches, .journals, .regs .intg, .regs .hut0, .regs .spad, .regs .drw] =
      s.except [.mem, .logs, .faultReports, .cabs, .hutches, .journals, .regs .intg, .regs .hut0, .regs .spad, .regs .drw] :=
  (except_foldl _ (fun _ _ => except_foldl _ (fun _ _ => by simp) _ _) _ _).trans (by simp)

/-- R256: after the tags, the processing of a marker changes the statistics line alone. -/
theorem markerDone_sameBut (hm : ∀ i, s.mirrorAt i = none) (tc : Nat) (ecc : StoreEcc) :
    (s.tagsMarked p tc ecc).sameBut (s.markerDone p tc ecc) (s.learnAt p + 1024) 44 := by
  have hf : (s.markerCounted p tc ecc).except [.mem, .logs, .faultReports, .cabs, .hutches, .journals, .regs .intg, .regs .hut0, .regs .spad, .regs .drw] =
      s.except [.mem, .logs, .faultReports, .cabs, .hutches, .journals, .regs .intg, .regs .hut0, .regs .spad, .regs .drw] :=
    Eq.trans (by simp [State.markerCounted]) (tagsMarked_frame (p := p) tc ecc)
  have hstats := statsWrite_sameBut (p := p) fun i => (mirrorAt_of_except hf (by simp) i).trans (hm i)
  rw [learnAt_of_except hf (by simp)] at hstats
  exact sameBut_trans (sameBut_of_mem ((stat_mem ..).trans (setXp_mem ..))) hstats

/-- R255: the tag that a marker leaves where the code stands: idle at zero weight, none elsewhere. -/
def State.markedTag (s : State) (p tc : Nat) (h : RowHdr) (e : RowEnt) : Nat :=
  if e.code = cbZero (s.codebook p (h.cbbase + rowGroup h e.j)) then 2 ^ 14 + tc / 2 ^ nb (s.rule p (s.postRead p e.tgt tc).1) 92 88 % 2 ^ 14 else 0

theorem markedTag_lt (tc : Nat) (h : RowHdr) (e : RowEnt) : s.markedTag p tc h e < 256 ^ 2 := by
  have := Nat.mod_lt (tc / 2 ^ nb (s.rule p (s.postRead p e.tgt tc).1) 92 88) (Nat.two_pow_pos 14)
  unfold State.markedTag
  split <;> omega

/-- Tags lie at even addresses, and so within one region. -/
theorem tagAt_fits (line nwords j : Nat) : 2 ≤ 2 ^ 30 - tagAt line nwords j % 2 ^ 30 := by
  unfold tagAt rowTagAt
  omega

/-- The Cabinet's plastic row `line` is its only one and has the one entry `e`, whose neuron's store can be read. -/
structure State.OneTag (s : State) (p a line : Nat) (h : RowHdr) (e : RowEnt) : Prop where
  axons : s.plasticAxons p = [a]
  row : dirRow (s.dirEntry p a) = line
  ents : s.rowEnts line = [e]
  hdr : s.rowHdr line = h
  banks : s.drwBanks p (e.tgt / 8192 % 4) = true

variable {a d tc line : Nat} {e : RowEnt} {h : RowHdr} (ho : s.OneTag p a line h e)
include ho

/-- R255: then that entry's tag is marked. -/
theorem tagsMarked_oneTag : s.tagsMarked p tc ⟨d, .clean⟩ = s.markTag p tc a h line ⟨d, .clean⟩ e := by
  obtain ⟨hax, hrow, hents, hhdr, hbanks⟩ := ho
  have hposts : ∀ n ∈ s.taggedPosts p, s.drwBanks p (n / 8192 % 4) = true := by
    intro n hn
    simp only [State.taggedPosts, hax, List.flatMap_cons, List.flatMap_nil, List.append_nil, hrow, hents] at hn
    obtain ⟨e', he', rfl⟩ := List.mem_map.mp hn
    rwa [List.mem_singleton.mp (List.mem_filter.mp he').1]
  simp only [State.tagsMarked, storeErrs_clean d hposts, hax, List.foldl_cons, List.foldl_nil, hrow, hents, hhdr]

/-- R255: with no reward in the history and no copy of the row in progress, a valid tag is written once. -/
theorem tagsMarked_eq (hdc : e.dcode ≠ 63) (htgt : e.tgt < 32768) (hhist : (s.xp p).history = []) (hreloc : s.relocLine p a = none)
    (hpost : (s.postRead p e.tgt tc).2.1 = true) (hrule : ruleValid (s.rule p (s.postRead p e.tgt tc).1) = true)
    (htag : 2 ^ 15 ≤ s.load (tagAt line h.nwords e.j) 2) :
    s.tagsMarked p tc ⟨d, .clean⟩ = (s.stat p 1).learnPut p (tagAt line h.nwords e.j) 2 (s.markedTag p tc h e) := by
  have hok : s.postOk p ⟨d, .clean⟩ e.tgt = true := by simp [State.postOk, storeStops, ho.banks]
  have hr : (s.stat p 1).relocLine p a = none := (relocLine_of_xp (by rw [xp_stat]) a).trans hreloc
  have hhdr : (s.stat p 1).rowHdr line = h := ho.hdr
  rw [tagsMarked_oneTag ho, markTag_unrewarded hok hdc htgt (tag_valid htag (load_lt s _ 2)) hpost hrule hhist, putTag_unrelocated p hr, hhdr]
  rfl

/-- R255, R256: and it is what the whole command leaves there, where the Cabinet may write and its statistics line lies elsewhere. -/
theorem load_markerDone (hdc : e.dcode ≠ 63) (htgt : e.tgt < 32768) (hhist : (s.xp p).history = []) (hreloc : s.relocLine p a = none)
    (hpost : (s.postRead p e.tgt tc).2.1 = true) (hrule : ruleValid (s.rule p (s.postRead p e.tgt tc).1) = true)
    (htag : 2 ^ 15 ≤ s.load (tagAt line h.nwords e.j) 2) (hd : s.spanDenied (s.cabKey p) (tagAt line h.nwords e.j) 2 = none)
    (hm : ∀ i, s.mirrorAt i = none) (hoff : tagAt line h.nwords e.j + 2 ≤ s.learnAt p + 1024 ∨ s.learnAt p + 1068 ≤ tagAt line h.nwords e.j) :
    (s.markerDone p tc ⟨d, .clean⟩).load (tagAt line h.nwords e.j) 2 = s.markedTag p tc h e := by
  rw [load_of_sameBut (markerDone_sameBut hm tc ⟨d, .clean⟩) hoff, tagsMarked_eq ho hdc htgt hhist hreloc hpost hrule htag,
    load_learnPut_stat p 1 hd (hm _) (tagAt_fits ..), Nat.mod_eq_of_lt (markedTag_lt ..)]

end

/-! ## PREFETCH (R302) -/

section
variable {s : State} {p m : Nat}

/-- The command has left the expander's port. -/
def State.xTaken (s : State) (p : Nat) : State := s.setCab p { s.cab p with xIn := none }

@[simp] theorem xTaken_cab (s : State) (p : Nat) : (s.xTaken p).cab p = { s.cab p with xIn := none } := cab_setCab_same s p _

@[simp] theorem xTaken_xp (s : State) (p : Nat) : (s.xTaken p).xp p = s.xp p := by
  rw [State.xp, xTaken_cab]
  rfl

theorem fetch_of_on (h : s.sharedBankOff p = none) (ls : List Nat) : s.fetch p ls = s.cacheUse p ls := by
  unfold State.fetch
  rw [h]

/-- R286: a bank that is not ON is recorded, and nothing is fetched. -/
theorem fetch_of_off {b : Nat} (h : s.sharedBankOff p = some b) (ls : List Nat) : s.fetch p ls = s.bankErr p b := by
  unfold State.fetch
  rw [h]

theorem cab_bankErr (s : State) (p b : Nat) : (s.bankErr p b).cab p = s.cab p := cab_of_cabs (by simp [State.bankErr]) p

theorem bankErr_recorded (s : State) (p b : Nat) : Recorded s (s.bankErr p b) (spad p) 5 0x0B0 b :=
  (rd_raise_ne _ _ (by decide)).trans (State.err_recorded s (spad p) 5 0x0B0 b (by decide))

/-- The port stays empty while the lines are fetched. -/
theorem fetch_xIn (ls : List Nat) : ((s.fetch p ls).cab p).xIn = (s.cab p).xIn := by
  unfold State.fetch
  split
  · rw [cab_bankErr]
  · rw [State.cacheUse, State.setXp, cab_setCab_same]

@[simp] theorem fetch_mem (ls : List Nat) : (s.fetch p ls).mem = s.mem :=
  mem_of_except (State.fetch_except (W := [.logs, .cabs, .regs .intg, .regs .spad]) s p ls (by simp) (by simp) (by simp) (by simp)) (by simp)

theorem exec_prefetch (hx : (s.cab p).xIn = some m) (hl : s.live p = true) (hs : s.unitStalled p 7 = false) (h8 : byteOf m 8 = 1)
    (h9 : byteOf m 9 = 0) (hr : nb (bytesOf m 15 12) 30 20 = 0) (h31 : bytesOf m 31 16 = 0) :
    exec (.prefetch p) s =
      done (((s.xTaken p).fetch p (s.pinLines p (bytesOf m 11 10))).complete p 7 (bytesOf m 15 12) (msgUser m) 1 0 0) := by
  show execPrefetch p s = _
  simp only [execPrefetch, hx, hl, hs, h8, h9, hr, h31, Bool.not_true, Bool.or_self, Bool.false_eq_true, if_false, decide_true, Bool.and_self]
  rfl

end

/-! ## The statement -/

section
variable {s : State} {p : Nat}

/-- R228: a write of EPOCH, by its ARM bit and the switch time. -/
theorem completes_epochRequest {r : Req} {w : Word} (hp : s.passes r (xpnd p) 0x044 = true) :
    (w.bit 1 = false → Completes (.epochRequest r p w) s fun t => t.regs = s.regs ∧ t.cabs = s.cabs) ∧
    (w.bit 1 = true → s.safe p < s.rd64 (xpnd p) 0x048 → Completes (.epochRequest r p w) s fun t =>
      t.flag (xpnd p) 0x044 1 = true ∧ (t.xp p).epochAt = s.rd64 (xpnd p) 0x048 ∧ t.fld (xpnd p) 0x044 0 0 = s.fld (xpnd p) 0x044 0 0) ∧
    (w.bit 1 = true → s.rd64 (xpnd p) 0x048 ≤ s.safe p → Completes (.epochRequest r p w) s fun t =>
      t.rd (xpnd p) 0x044 = s.rd (xpnd p) 0x044 ∧ Recorded s t (xpnd p) 5 0x075 0) := by
  refine ⟨fun hw => completes_gated rfl hp ?_, fun hw ht => completes_gated rfl hp ?_, fun hw ht => completes_gated rfl hp ?_⟩
  · rw [epochWrite_idle hw]
    exact ⟨rfl, rfl⟩
  · rw [epochWrite_armed hw ht]
    exact ⟨flag_setFlag_same _ _ _ _ _ (by decide), congrArg Xp.epochAt (xp_setXp_same s p _), fld_setFld_other _ _ _ _ _ _ (by decide)⟩
  · rw [epochWrite_refused hw ht]
    exact ⟨State.err_rd s _ _ _ _ _ _ (by simp) (.inr (by decide)), State.err_recorded s _ _ _ _ (by decide)⟩

/-- R228, R231: the switch, and the pins of the copy that is active from then on. -/
theorem completes_epochSwitch (hl : s.live p = true) (ha : s.flag (xpnd p) 0x044 1 = true) (ht : (s.xp p).epochAt < s.safe p) :
    Completes (.epochSwitch p) s fun t => t.flag (xpnd p) 0x044 1 = false ∧ t.fld (xpnd p) 0x044 0 0 = 1 - s.fld (xpnd p) 0x044 0 0 ∧
      t.flag (xpnd p) 0x010 5 = true ∧ t.rdN (xpnd p) 0x068 = (t.xp p).pinned.length % 2 ^ 32 ∧ t.mem = s.mem := by
  have hrd : ((s.epochSwitched p).applyPins p).rd (xpnd p) 0x044 = (s.epochSwitched p).rd (xpnd p) 0x044 := applyPins_rd _ _ (by decide) (by decide)
  obtain ⟨hflag, hfld⟩ := epochSwitched_epoch (s := s) (p := p)
  exact completes_done (exec_epochSwitch hl ha ht) ⟨(flag_of_rd hrd 1).trans hflag, (fld_of_rd hrd 0 0).trans hfld,
    applyPins_flag _ _ (flag_raise_same _ _ _ (by decide)), applyPins_count _ _, (applyPins_mem _ _).trans (epochSwitched_mem s p)⟩

variable {axon l n : Nat} {r : Reloc}

/-- R253: what a copy with space for the grown row leaves: its words and tags at their index, and vacant entries behind the words. -/
theorem completes_relocationCopy_grown {old : Nat} (hr : (s.xp p).relocs = [r]) (hra : r.axon = axon) (hc : r.copy = none)
    (hread : ∀ i ∈ dirRowLines (s.dirEntry p axon), s.lineLost (i * 64) = false) (hold : dirRow (s.dirEntry p axon) = old)
    (hn : grownEnts (s.rowHdr old) = n) (hne : n ≠ (s.rowHdr old).nent)
    (hl : s.rowPlace p old (rowLines (s.grownWords old n) n true) = some l) :
    Completes (.relocationCopy p axon []) s fun t =>
      (t.xp p).relocs = [{ r with copy := some (l, rowLines (s.grownWords old n) n true), grown := true }] ∧
      ((∀ i, s.mirrorAt (l * 64 + i) = none) → (old * 64 + 64 * rowLines (s.rowHdr old).nwords (s.rowHdr old).nent true ≤ l * 64 ∨
          l * 64 + 64 * rowLines (s.grownWords old n) n true ≤ old * 64) →
        (∀ w, w < (s.rowHdr old).nwords → t.load (wordAt l w) 2 = s.load (wordAt old w) 2) ∧
        (∀ w, (s.rowHdr old).nwords ≤ w → w < s.grownWords old n → t.load (wordAt l w) 2 = 63 * 64) ∧
        (∀ j, j < (s.rowHdr old).nent → t.load (tagAt l (s.grownWords old n) j) 2 = s.load (tagAt old (s.rowHdr old).nwords j) 2) ∧
        ∀ a, a < l * 64 → t.byte a = s.byte a) := by
  refine completes_done (exec_relocationCopy_grown hr hra hc hread hold hn hne hl) ⟨setReloc_relocs .., fun hmir hoff => ?_⟩
  have hm : ∀ a, l * 64 ≤ a → s.mirrorAt a = none := fun a ha => Nat.add_sub_cancel' ha ▸ hmir (a - l * 64)
  have hle : (s.rowHdr old).nent ≤ n := hn ▸ nent_le_grownEnts s old
  simp only [load_ans, load_setReloc]
  exact ⟨fun w => buildRow_oldWord hm hoff, fun w => buildRow_vacant hm, fun j => buildRow_oldTag hm hle hoff,
    fun a ha => (buildRow_builtIn hm hle).1 a (.inl ha)⟩

/-- R253: without space the row stays in its place, and memory as it was. -/
theorem completes_relocationCopy_kept {old : Nat} (hr : (s.xp p).relocs = [r]) (hra : r.axon = axon) (hc : r.copy = none)
    (hread : ∀ i ∈ dirRowLines (s.dirEntry p axon), s.lineLost (i * 64) = false) (hold : dirRow (s.dirEntry p axon) = old)
    (hn : grownEnts (s.rowHdr old) = n) (h : n = (s.rowHdr old).nent ∨ s.rowPlace p old (rowLines (s.grownWords old n) n true) = none) :
    Completes (.relocationCopy p axon []) s fun t => t.mem = s.mem ∧
      (t.xp p).relocs = [{ r with copy := some (old, dirLen (s.dirEntry p axon)) }] :=
  completes_done (exec_relocationCopy_kept hr hra hc hread hold hn h) ⟨rfl, setReloc_relocs ..⟩

/-- R234: what the installation of a grown row leaves: no relocation, none of the old lines in the cache, and the new place in the directory. -/
theorem completes_relocationInstall (hr : (s.xp p).relocs = [r]) (hra : r.axon = axon) (hdone : r.done = true) (hc : r.copy = some (l, n))
    (hg : r.grown = true) (hl : s.live p = true) (ht : s.r200 p r.ti = true)
    (he : ∀ e ∈ (s.xp p).hold ++ s.unheld p, e.axon = axon → e.type = 2 ∨ r.ti ≤ e.time) (hw : ∀ w ∈ (s.xp p).waits, w.ev.axon ≠ axon) :
    Completes (.relocationInstall p axon) s fun t => (t.xp p).relocs = [] ∧
      ((dirRowLines (s.dirEntry p axon)).any (s.xp p).pinned.contains = false → ∀ c ∈ (t.xp p).cache, c ∉ dirRowLines (s.dirEntry p axon)) ∧
      ((dirRowLines (s.dirEntry p axon)).any (s.xp p).pinned.contains = true → t.rdN (xpnd p) 0x068 = (t.xp p).pinned.length % 2 ^ 32) ∧
      (s.spanDenied (s.cabKey p) (s.dirEntryAt p axon) 8 = none → s.mirrorAt (s.dirEntryAt p axon) = none → 8 ≤ 2 ^ 30 - s.dirEntryAt p axon % 2 ^ 30 →
        t.load (s.dirEntryAt p axon) 8 = movedEntry (s.dirEntry p axon) l n) := by
  have hx := rowInstalled_xp s p axon l n r
  have hrelocs : ((s.rowInstalled p axon l n r).xp p).relocs = [] := by simp [hx, hr]
  have hload := load_rowInstalled s p axon l n r
  refine completes_done (exec_relocationInstall hr hra hdone hc hg hl ht he hw) ?_
  rw [xp_ans, rdN_ans, load_ans]
  split
  · next hpin =>
    exact ⟨(applyPins_relocs _ p).trans hrelocs, fun h => absurd (hpin.symm.trans h) (by simp), fun _ => applyPins_count _ p,
      fun hd hm hn => (load_of_mem (applyPins_mem _ p) _ _).trans (hload hd hm hn)⟩
  · next hpin =>
    refine ⟨hrelocs, fun _ c hcache => ?_, fun h => absurd h hpin, hload⟩
    rw [hx] at hcache
    simpa using (List.mem_filter.mp hcache).2

/-- R302, R286: the lines are fetched or the bank is recorded, and the command completes with status 0. -/
theorem completes_prefetch {m : Nat} (hx : (s.cab p).xIn = some m) (hl : s.live p = true) (hs : s.unitStalled p 7 = false) (h8 : byteOf m 8 = 1)
    (h9 : byteOf m 9 = 0) (hr : nb (bytesOf m 15 12) 30 20 = 0) (h31 : bytesOf m 31 16 = 0) :
    Completes (.prefetch p) s fun t => ∃ u : State, t = (u.complete p 7 (bytesOf m 15 12) (msgUser m) 1 0 0).ans .none ∧ (u.cab p).xIn = none ∧
      (s.sharedBankOff p = none → (u.xp p).cache = (s.pinLines p (bytesOf m 11 10)).foldl (cacheTouch (s.xp p).pinned) (s.xp p).cache) ∧
      (∀ b, s.sharedBankOff p = some b → (u.xp p).cache = (s.xp p).cache ∧ Recorded s u (spad p) 5 0x0B0 b) ∧ u.mem = s.mem := by
  have hoff : (s.xTaken p).sharedBankOff p = s.sharedBankOff p := rfl
  refine completes_done (exec_prefetch hx hl hs h8 h9 hr h31) ⟨_, rfl, ?_, fun hon => ?_, fun b hb => ?_, fetch_mem _⟩
  · rw [fetch_xIn, xTaken_cab]
  · rw [fetch_of_on (hoff.trans hon), xp_cacheUse, xTaken_xp]
  · rw [fetch_of_off (hoff.trans hb), State.xp, cab_bankErr]
    exact ⟨congrArg Xp.cache (xTaken_xp s p), bankErr_recorded (s.xTaken p) p b⟩

end

/-- Settles O29: each clause is what its command does to the expander's tables; the copied row is read off the stages in which it is built. -/
theorem expanderTablesChange : Obligations.ExpanderTablesChange := by
  unfold Obligations.ExpanderTablesChange
  refine ⟨fun r p w s => completes_epochRequest, fun p s => completes_epochSwitch,
    fun p axon l r s hr hra hc => ⟨fun bad h => completes_done (exec_relocationCopy_unread h) ⟨rfl, hr⟩,
      fun hread => ⟨completes_relocationCopy_grown hr hra hc hread rfl rfl, completes_relocationCopy_kept hr hra hc hread rfl rfl⟩⟩,
    fun p axon r s hr hra hc hd => ?_, fun p axon r q ev s hfind hev hq hd hwait => ?_,
    fun p axon l n r s => completes_relocationInstall, fun p a s ha => ⟨fun h => ?_, fun h => ?_⟩, fun p tc d s hm hl hs ht he hw => ?_,
    fun p m s => completes_prefetch⟩
  · have hfind : (s.xp p).relocs.find? (fun q => q.axon = axon && q.copy.isSome && !q.done) = some r := by
      simp [hr, hra, hd, Option.isSome_iff_ne_none, hc]
    have hy : ((s.xp p).relocDone r).relocs = [{ r with done := true }] := by simp [Xp.relocDone, hr]
    obtain ⟨t, hx, hrelocs, hwait, hraw, hmem⟩ := completes_relocDone hfind
    exact ⟨t, hx, hrelocs.trans hy, by rw [hwait, relocWaited_of_done (by simp [hy]), Bool.and_false], hraw, hmem⟩
  · obtain ⟨t, hx, hrelocs, hflag, hraw, -⟩ := completes_relocDone hfind
    exact ⟨t, hx, hrelocs, by rw [hflag, hwait, relocWaited_of_waiting (x := (s.xp p).relocDone r) hev hq hd, Bool.and_true], hraw⟩
  · exact completes_done (exec_consolidationMarker_stale ha h) ⟨rfl, rfl, fun m hm _ _ => markerAnswer_stale hm⟩
  · exact completes_done (exec_consolidationMarker_taken ha h) ⟨rfl, congrArg Xp.marker (xp_setXp_same { s with inbox := s.inbox.erase a } p _)⟩
  · refine completes_done (exec_markerProcess ⟨d, .clean⟩ hm hl hs ht he hw) ?_
    rw [xp_ans]
    refine ⟨markerDone_marker s p tc _, markerDone_stats s p tc _,
      fun a e hax hents hdc htgt hbanks hhist hreloc hpost hrule htag hden hmir hoff => ?_⟩
    rw [load_ans]
    exact load_markerDone ⟨hax, rfl, hents, rfl, hbanks⟩ hdc htgt hhist hreloc hpost hrule htag hden hmir hoff

end Sys2Proof.Machine
